-- ==== Sys2Proof/Word.lean ====
section
/-! DEFINITION. The word types and the finite names of places that the manual counts. -/

namespace Sys2Proof

/-- Eight bits, the smallest addressable unit of scratch, of the columns and of host memory. -/
abbrev Byte := BitVec 8

/-- A 32-bit register or descriptor word. -/
abbrev Word := BitVec 32

/-- A 64-bit register or descriptor word pair. -/
abbrev Dword := BitVec 64

/-- A logical tile ID (R10): half[8], cluster[7:4], tile[3:0]. -/
abbrev TileId := Fin 512

/-- One of the four step streams of a tile (R29). -/
abbrev StreamId := Fin 4

/-- A logical cluster of the module: logical tile ID[8:4] (R15). -/
abbrev ClusterId := Fin 32

/-- Half 0 is West, half 1 is East. -/
abbrev HalfId := Fin 2

/-- A context number (R245). -/
abbrev CtxId := Fin 4096

/-- A PCIe function: 0 is the PF, n is VF n (R241). -/
abbrev FuncId := Fin 256

/-- A physical site: 272 × half + 17 × PCL + site (R10, R13). -/
abbrev SiteIx := Fin 544

/-- A power domain that a header switch feeds: 18 × (16 × half + PCL) + unit, unit 0–16 a site,
unit 17 the cluster sampler (R342). -/
abbrev DomainIx := Fin 576

/-- A half link by its Basin number 4 × half + r (R273). -/
abbrev LinkId := Fin 8

/-- An Ethernet port (R302). -/
abbrev PortId := Fin 16

/-- A light cartridge (R325). -/
abbrev CartId := Fin 4

/-- A queue-pair record (R304). -/
abbrev QpId := Fin 8192

/-- A collective group (R315). -/
abbrev GroupId := Fin 64

/-- A model slot (R206). -/
abbrev ModelSlotId := Fin 16

/-- A sequence slot (R221). -/
abbrev SeqSlot := Fin 65536

/-- A tag of an outstanding non-posted read of host memory (R263). -/
abbrev TagId := Fin 16384

end Sys2Proof
end

