-- ==== Sys2Proof/Syntax.lean ====
section
/-! DEFINITION. The commands of the block: one constructor of `Instr` for each row of the opcode table, with the operands
that the event carries from outside the block (a register value, an address, a packet, a physical
condition). What a command does is said in Machine/ alone. -/

namespace Sys2Proof

/-- A bit disturbance that a stored sector has suffered: symbol `sym` (0–71, of which 64–71 are
check symbols) of the sector at slot offset `off` differs from what was written by `flip` (R163). -/
structure DramUpset where
  off : Nat
  sym : Fin 72
  flip : Byte
deriving DecidableEq, Repr

/-- A symbol error met in one row access of a channel: sector 0–15 of the row, symbol, flip, and
whether it stays in the array (`persist`) or came from the transfer alone (R163, R164). -/
structure SymErr where
  sector : Fin 16
  sym : Fin 72
  flip : Byte
  persist : Bool
deriving DecidableEq, Repr

/-- A disturbance of one scratch byte: the nine stored bits (data and parity, R51) that flip. -/
structure ScratchUpset where
  addr : Nat
  flip : BitVec 9
deriving DecidableEq, Repr

/-- What a step command carries: the tile and the stream whose next descriptor issues, and the
physical disturbances met by the data it reads. The descriptor itself is in the fetch buffer. -/
structure StepIn where
  tile : TileId
  stream : StreamId
  scratchUps : List ScratchUpset
  dramUps : List DramUpset
deriving DecidableEq, Repr

/-- A block that receives time ticks (R21, R22). -/
inductive TickBlock where
  | stepEngine (x : SiteIx)
  | channelRoot (x : SiteIx)
  | rLayer (h : HalfId)
  | aggregator
  | tokenService
  | barge
  | hostInterface
  | collective
  | weir
  | lockkeeper
  | network
deriving DecidableEq, Repr

/-- A row request that reaches a channel arbiter (R156, R160): class code of Table DRAM-3, row index, and for a write its
sector mask and the data of the masked sectors, sector 0 first. -/
structure RowReq where
  cls : Fin 6
  ri : Nat
  write : Bool
  mask : BitVec 16
  data : List (BitVec 512)
  /-- of class STEP: a descriptor fetch, and the stream that asks (R160) -/
  fetch : Bool := false
  stream : Fin 4 := 0
deriving DecidableEq, Repr

/-- A lane that fails its training: boundary 0–7; data lane 0–9,215, or control lane 0–5 as 9,216–9,221, of which the first three make up one
triplicated set (R196). -/
structure LaneLoc where
  boundary : Fin 8
  lane : Fin 9222
deriving DecidableEq, Repr

/-- A LAUNCH control packet (R29). -/
structure LaunchPkt where
  stream : StreamId
  start : Word
  tag : BitVec 16
  semClear : Word
  params : List Byte
deriving DecidableEq, Repr

/-- The two ports of the Barge (R149). -/
inductive BargePort where
  | host | tier2
deriving DecidableEq, Repr

/-- How a page move ends (R149, R150): with the bytes of a page read from outside and the numbers of its poisoned sectors
(none for a write), with a failed read, or, at the tier-2 port, with poison and the media-error event record that the device then
holds: its number, the event type and the device address (R297). -/
inductive MoveResult where
  | done (data : List Byte) (poison : List Nat)
  | readError
  | mediaError (dev : Fin 4) (etype dpa : Nat)
deriving DecidableEq, Repr

/-- Configuration registers of a function that a rule acts on (Table Host-1): Device Control with Max_Payload_Size and
Max_Read_Request_Size, Device Control 2 with the completion timeout, ATS Control, ACS Control, and the uncorrectable status of AER. -/
inductive CfgReg where
  | deviceControl | deviceControl2 | atsControl | acsControl | aerStatus
deriving DecidableEq, Repr

/-- Where a register write of the host goes: an offset of BAR0, or a register of configuration space. -/
inductive RegTarget where
  | bar0 (off : Nat)
  | config (r : CfgReg)
deriving DecidableEq, Repr

/-- What a read of host memory returns (R264). -/
inductive HostReadResult where
  | data (bytes : List Byte)
  | unsupported
  | abort
  | poisoned
  | refused
deriving DecidableEq, Repr

/-- A doorbell write (R253): the function, its 4 KiB page in BAR2, the size in bytes, and the value. -/
structure Bell where
  func : FuncId
  page : Fin 4096
  size : Nat
  v : BitVec 64
deriving DecidableEq, Repr

/-- What a waiting row or request is (R225). -/
inductive WaitRef where
  | request (c : CtxId) (dsn : Nat)
  | sequence (q : SeqSlot)
  | graph (c : CtxId) (dsn : Nat)
deriving DecidableEq, Repr

/-- An end of a half link. -/
inductive LinkEnd where
  | basin | half
deriving DecidableEq, Repr

/-- An IEEE 1588 message as a sub-port receives it (R313): its domain, its transport, and the offset in ns that the slave
clock measures with it, where it completes a measurement. -/
structure PtpMsg where
  domain : Byte
  udp : Bool
  offset : Option Int
deriving DecidableEq, Repr

/-- What the check of a cartridge finds (R327, R328): identity record, signature, continuity; serial number, rated output and
attainable output in mW × 1,000, and its life counters in hours. -/
structure CartCheck where
  recordOk : Bool
  /-- SHA-384 of the root public key of the cartridge's chain -/
  rootKey : BitVec 384
  signatureOk : Bool
  continuityOk : Bool
  serial : BitVec 64
  rated : Nat
  pmax : Nat
  onHours : Nat
  driveHours : Nat
deriving DecidableEq, Repr

/-- How a cartridge order reaches the device (R331): NET_CART_CTRL or the PLDM effecter. -/
inductive CartPath where
  | bar0 (f : FuncId)
  | pldm
deriving DecidableEq, Repr

/-- Telemetry of a cartridge (R329): attainable output and present output in mW × 1,000, and as the cartridge reports them the output of each
line, the drive current and the laser temperature. -/
structure CartReading where
  pmax : Nat
  output : Nat
  lines : List Nat := []
  current : Nat := 0
  temp : Int := 0
deriving DecidableEq, Repr

/-- A flit as it reaches the named receiving end: 256 bytes (R277). -/
structure Flit where
  bytes : List Byte
deriving DecidableEq, Repr

/-- A DATA flit as it reaches an end, after flits that the far end sent before it and that the link has lost. -/
structure FlitRx where
  lost : List Flit
  flit : Flit
deriving DecidableEq, Repr

/-- A RoCEv2 packet: the port and sub-port, addresses, and the header fields that chapter "Ethernet ports" uses. -/
structure RocePkt where
  port : PortId
  sub : Fin 2
  src : BitVec 128
  dst : BitVec 128
  opcode : Byte
  qp : BitVec 24
  psn : BitVec 24
  ackReq : Bool
  ce : Bool
  /-- the IP header checksum and the ICRC pass (R303) -/
  good : Bool
  syndrome : Byte
  msn : BitVec 24
  va : BitVec 64
  rkey : Word
  dmaLen : Word
  imm : Word
  payload : List Byte
  /-- VLAN ID of the tag, where the frame has one, with its 802.1p priority; destination MAC address, DSCP, UDP source port; for UD the Q_Key
  and the source queue pair (Table Net-2) -/
  vlan : Option (BitVec 12) := none
  prio : Fin 8 := 0
  dmac : BitVec 48 := 0
  dscp : BitVec 6 := 0
  sport : BitVec 16 := 0
  qkey : Word := 0
  srcQp : BitVec 24 := 0
deriving DecidableEq, Repr

/-- What Weir measures over a control period (R334, R352): input power of each logical cluster's bank and of every other rail in
mW, output current of each cluster bank in 10 mA, and input current of each half in 0.1 A. -/
structure PowerMeas where
  clMw : List Nat
  otherMw : Nat
  clCur : List Nat
  vinCur : List Nat
deriving DecidableEq, Repr

/-- A ring-delay monitor's reading in MHz, normalised to the site's voltage and temperature (R339). -/
structure RingReading where
  site : SiteIx
  freq : Nat
deriving DecidableEq, Repr

/-- The characterisation of a site (R338): the voltage in 0.1 mV that each point 0–16 needs, the ceiling in 10 Mstep/s, the ring speed
in MHz, and whether the site passes. -/
structure SiteChar where
  volts : List Nat
  ceiling : Nat
  ring : Nat
  pass : Bool
deriving DecidableEq, Repr

/-- A regulator bank of a half: 0–15 the cluster bank of PCL c, 16 mesh, 17 DRAM, 18 channel driver, 19 the input VIN itself. -/
abbrev BankId := Fin 20

/-- A source of a Sluice cut (Table Power-6): PWR_ALERT_N, the bank of a logical cluster, the sum of the cluster banks of a half,
or the input of a half. -/
inductive CutSource where
  | alert
  | bank (c : ClusterId)
  | half (h : HalfId)
  | vin (h : HalfId)
deriving DecidableEq, Repr

/-- A temperature sensor of Table Thermal-1. -/
inductive SensorId where
  | logic (x : SiteIx) (i : Fin 2)
  | dram (x : SiteIx) (layer : Fin 8)
  | rlayer (h : HalfId) (bank : Fin 19)
  | basin (i : Fin 25)
deriving DecidableEq, Repr

/-- What the Onion model reads in a period (R361): the sensors' readings in 0.125 °C, step counts of the sites, and for each site and
layer the row transfers and refresh bursts. A sensor without an entry returns no reading. -/
structure OnionIn where
  readings : List (SensorId × Int)
  steps : List (SiteIx × Nat)
  rows : List (SiteIx × Nat × Nat × Nat)
deriving DecidableEq, Repr

/-- A tray reading: inlet and outlet air in 0.5 °C, airflow in 0.1 L/s (R359). -/
structure TrayReading where
  inlet : Nat
  outlet : Nat
  flow : Nat
deriving DecidableEq, Repr

/-- A collapse key (R376): the code, and words 0x20 and 0x24 of the record. -/
structure ErrKey where
  code : Nat
  w20 : Nat
  w24 : Nat
deriving DecidableEq, Repr

/-- What Lockkeeper finds at power-on: which fuse copies and which copies of the repair record carry a valid CRC (R405, R401), the
components that fail three times to boot from their boot slot, and those of them whose other image fails R426 (R417, R427). -/
structure BootIn where
  fuse0 : Bool
  fuse1 : Bool
  recA : Bool
  recB : Bool
  bootFails : List Nat
  otherFails : List Nat
deriving DecidableEq, Repr

/-- The nodes that one broadcast addresses (R407). -/
inductive CodeNodes where
  | tile (h : HalfId)
  | chroot (h : HalfId)
  | rlayer (h : HalfId)
deriving DecidableEq, Repr

/-- How an order that both the mailbox and PLDM may give reaches Lockkeeper. -/
inductive CmdPath where
  | mailbox (f : FuncId)
  | pldm
deriving DecidableEq, Repr

/-- A firmware image as it is read (R415, R426): its 128-byte header, the length of its body, its 256-byte signature block, and what
the security block finds: digest as the header says, signature valid under its key; and the digest of the image. -/
structure FwImage where
  hdr : List Byte
  bodyLen : Nat
  sig : List Byte
  digestOk : Bool
  sigOk : Bool
  digest : BitVec 384
deriving DecidableEq, Repr

/-- How the switch of a component turns out (R416): it switched, and its start-up self-test passed. -/
structure FwHealth where
  comp : Nat
  ok : Bool
deriving DecidableEq, Repr

/-- The two MCTP bindings (R438). -/
inductive MctpBinding where
  | i3c | vdm
deriving DecidableEq, Repr

/-- An SPDM request (R430): its binding, the session it belongs to, its version byte, its two parameter bytes and its body, and
whether what the request must prove (a MAC, a key share, an algorithm list with the device's algorithms) holds. -/
structure SpdmIn where
  via : MctpBinding
  session : Option Nat
  version : Byte
  param1 : Byte
  param2 : Byte
  body : List Byte
  good : Bool
deriving DecidableEq, Repr

/-- How a clear of tamper bits reaches the security block (R439). -/
inductive TamperPath where
  | bar0 (f : FuncId)
  | pldm
deriving DecidableEq, Repr

/-- A piece of a PLDM component image (Table Trust-11): component, offset and length; with the last piece, the image. -/
structure FwPiece where
  comp : Nat
  off : Nat
  len : Nat
  image : Option FwImage
deriving DecidableEq, Repr

/-- A repair entry of a channel root (R470). -/
inductive RepairEntry where
  | row (bank : Fin 128) (e : Fin 32)
  | col (bank : Fin 128) (e : Fin 8)
  | dead (i : Fin 64)
deriving DecidableEq, Repr

/-- A cluster's site map in the layouts of CL_SITE_MAP_0–3 and CL_SITE_STATUS (R470). -/
structure SiteMapWords where
  maps : Vector Word 4
  status : Word
deriving DecidableEq, Repr

/-- The commands of the block (opcode table). -/
inductive Instr where
  /-- TIME_TICK (R21): The always-on timestamp counter broadcasts a time tick every 1.000 µs, and every tick-counted
  interval advances by one. -/
  | timeTick
  /-- TICK_LOST (R22): A block that receives no tick for 16 µs holds its tick-driven counters and raises TICK_LOST.
  -/
  | tickLost (b : TickBlock)
  /-- TICK_RESUME (R22): Ticks arrive again, and the held counters resume from their held values without making up
  missed ticks. -/
  | tickResume (b : TickBlock)
  /-- REGISTER_WRITE (R466): A host write to a register that has no row of its own is applied by the register shadow
  in arrival order under its access code. -/
  | registerWrite (f : FuncId) (tgt : RegTarget) (size : Nat) (v : BitVec 64)
  /-- LAUNCH (R30): A LAUNCH control packet reaches a stream; an IDLE or FAULTED stream takes the parameter block,
  clears semaphores and starts fetching. -/
  | launch (t : TileId) (p : LaunchPkt)
  /-- DESCRIPTOR_FETCH (R31): A row transfer of descriptors completes into the fetch buffer, or it faults on a hole
  or on poison. -/
  | descriptorFetch (i : StepIn)
  /-- NOP (R35): A NOP step issues, with only its WEN take and its SEN add taking effect. -/
  | nop (i : StepIn)
  /-- ROW_LOAD (R35): A ROW_LOAD step issues and moves COUNT rows from the column into scratch. -/
  | rowLoad (i : StepIn)
  /-- ROW_STORE (R35): A ROW_STORE step issues and moves COUNT rows from scratch into the column. -/
  | rowStore (i : StepIn)
  /-- LINEAR_LAYOUT (R54): A LAYOUT of kind LINEAR issues and copies LEN bytes unchanged. -/
  | linearLayout (i : StepIn)
  /-- SKEW_LAYOUT (R54): A LAYOUT of a skew kind issues and writes a skewed tile of P lanes with its scales. -/
  | skewLayout (i : StepIn)
  /-- MATMUL (R98): A MATMUL issues into the array in the selected shape and accumulates block by block. -/
  | matmul (i : StepIn)
  /-- CHECKSUM_MISMATCH (R109): A checksum check fails during a MATMUL; the array locates the fault and replays the
  step, or faults the stream on a second mismatch. -/
  | checksumMismatch (t : TileId) (block : Nat) (rows cols : List (Fin 64)) (again : Bool)
  /-- ATTEND_FINAL (R130): An ATTEND with OUT FINAL computes normalised attention over its page list. -/
  | attendFinal (i : StepIn)
  /-- ATTEND_PARTIAL (R131): An ATTEND with OUT PARTIAL writes the running maximum, sum and unnormalised output. -/
  | attendPartial (i : StepIn)
  /-- ATTEND_MERGE (R132): An ATTEND with OUT MERGE combines partial sets into a final output. -/
  | attendMerge (i : StepIn)
  /-- COPY (R46): The VEC operation COPY sets D to A. -/
  | copy (i : StepIn)
  /-- ADD (R47): The VEC operation ADD sets D to A + B. -/
  | add (i : StepIn)
  /-- SUB (R47): The VEC operation SUB sets D to A − B. -/
  | sub (i : StepIn)
  /-- MUL (R47): The VEC operation MUL sets D to A × B. -/
  | mul (i : StepIn)
  /-- FMA (R47): The VEC operation FMA sets D to A × B + D with one rounding. -/
  | fma (i : StepIn)
  /-- MAX (R46): The VEC operation MAX sets D to max(A, B). -/
  | max (i : StepIn)
  /-- MIN (R46): The VEC operation MIN sets D to min(A, B). -/
  | min (i : StepIn)
  /-- ABS (R46): The VEC operation ABS sets D to |A|. -/
  | abs (i : StepIn)
  /-- NEG (R46): The VEC operation NEG sets D to −A. -/
  | neg (i : StepIn)
  /-- MUL_S (R47): The VEC operation MUL_S multiplies A by the immediate s. -/
  | mulS (i : StepIn)
  /-- ADD_S (R47): The VEC operation ADD_S adds the immediate s to A. -/
  | addS (i : StepIn)
  /-- CLAMP_S (R46): The VEC operation CLAMP_S clamps A to ±|s|. -/
  | clampS (i : StepIn)
  /-- RECIP (R49): The VEC table operation RECIP sets D to 1 / A. -/
  | recip (i : StepIn)
  /-- RSQRT (R49): The VEC table operation RSQRT sets D to 1 / √A. -/
  | rsqrt (i : StepIn)
  /-- EXP (R49): The VEC table operation EXP sets D to e^A. -/
  | exp (i : StepIn)
  /-- LOG (R49): The VEC table operation LOG sets D to ln A. -/
  | log (i : StepIn)
  /-- SIGMOID (R49): The VEC table operation SIGMOID sets D to the logistic function of A. -/
  | sigmoid (i : StepIn)
  /-- SILU (R49): The VEC table operation SILU sets D to A × sigmoid(A). -/
  | silu (i : StepIn)
  /-- GELU_TANH (R49): The VEC table operation GELU_TANH computes the tanh form of GELU. -/
  | geluTanh (i : StepIn)
  /-- TANH (R49): The VEC table operation TANH sets D to tanh A. -/
  | tanh (i : StepIn)
  /-- RSUM (R48): The VEC operation RSUM writes one sum per segment in the fixed order. -/
  | rsum (i : StepIn)
  /-- RMAX (R48): The VEC operation RMAX writes one maximum per segment. -/
  | rmax (i : StepIn)
  /-- RSUMSQ (R48): The VEC operation RSUMSQ writes one sum of squares per segment. -/
  | rsumsq (i : StepIn)
  /-- RMSNORM (R48): The VEC operation RMSNORM normalises each segment with weights B. -/
  | rmsnorm (i : StepIn)
  /-- SOFTMAX (R48): The VEC operation SOFTMAX computes a softmax per segment. -/
  | softmax (i : StepIn)
  /-- ROPE (R46): The VEC operation ROPE applies rotary position encoding to pairs of elements. -/
  | rope (i : StepIn)
  /-- SWIGLU (R46): The VEC operation SWIGLU sets D to SILU(A) × B. -/
  | swiglu (i : StepIn)
  /-- CVT (R87): The VEC operation CVT converts elements from FMT_A to FMT_D with one rounding. -/
  | cvt (i : StepIn)
  /-- QUANT (R88): The VEC operation QUANT block-quantises FP32 or BF16 input into a scaled format. -/
  | quant (i : StepIn)
  /-- MASK_IDX (R46): The VEC operation MASK_IDX sets elements at segment index s or above to −∞. -/
  | maskIdx (i : StepIn)
  /-- REDUCE (R173): The NB operation REDUCE sums rows element by element in ascending row order. -/
  | reduce (i : StepIn)
  /-- SCALE_ADD (R174): The NB operation SCALE_ADD updates rows in place to s × x + y as locked pairs. -/
  | scaleAdd (i : StepIn)
  /-- GATHER (R175): The NB operation GATHER copies indexed rows into scratch in list order. -/
  | gather (i : StepIn)
  /-- FILL (R176): The NB operation FILL writes whole rows with a pattern or with zeros. -/
  | fill (i : StepIn)
  /-- KV_APPEND (R122): The NB operation KV_APPEND checks the page header and appends tokens, writing the header
  last. -/
  | kvAppend (i : StepIn)
  /-- RMS_STATS (R177): The NB operation RMS_STATS writes the sum of squares and the largest magnitude per row. -/
  | rmsStats (i : StepIn)
  /-- CHECK_RECOMP (R178): The NB operation CHECK_RECOMP scrubs its rows as the Dredger does and writes counts. -/
  | checkRecomp (i : StepIn)
  /-- SEND (R43): A SEND step issues and copies LEN bytes toward a peer's scratch. -/
  | send (i : StepIn)
  /-- SAMPLE (R60): A SAMPLE step checks its slot table and sends logit slices to the cluster samplers. -/
  | sample (i : StepIn)
  /-- WAIT (R39): A WAIT step takes LEN units from a semaphore. -/
  | wait (i : StepIn)
  /-- SIGNAL (R35): A SIGNAL step adds LEN units to a semaphore after earlier steps complete. -/
  | signal (i : StepIn)
  /-- FENCE_STREAM (R44): A FENCE of scope STREAM blocks later steps until earlier steps of the stream complete. -/
  | fenceStream (i : StepIn)
  /-- FENCE_TILE (R44): A FENCE of scope TILE waits for every step issued earlier by the tile. -/
  | fenceTile (i : StepIn)
  /-- FENCE_MESH (R44): A FENCE of scope MESH also waits for delivery of earlier SENDs within the half. -/
  | fenceMesh (i : StepIn)
  /-- FENCE_DEVICE (R44): A FENCE of scope DEVICE also waits for cross-half SENDs and SAMPLEs to be delivered. -/
  | fenceDevice (i : StepIn)
  /-- LOOP (R37): A LOOP step repeats its body COUNT times with strides added, checking the nesting depth. -/
  | loop (i : StepIn)
  /-- END (R32): An END step issues, and the stream waits for every earlier step and delivery to finish. -/
  | endStep (i : StepIn)
  /-- STEP_COMPLETE (R42): An issued step's writes become visible and its reads finish; SEN adds, and waiting takes
  are served. -/
  | stepComplete (t : TileId) (st : StreamId) (id : Nat)
  /-- END_COMPLETION (R32): After all earlier work is done, the stream reports completion with its LAUNCH_TAG and
  enters IDLE. -/
  | endCompletion (t : TileId) (st : StreamId)
  /-- STEP_TIMEOUT (R45): A step blocked on a semaphore longer than TILE_SEM_TIMEOUT faults its stream. -/
  | stepTimeout (t : TileId) (st : StreamId)
  /-- SEND_DELIVERY (R43): A SEND's bytes are all in the peer's scratch, and its DSEN add takes effect. -/
  | sendDelivery (t : TileId) (st : StreamId) (id : Nat)
  /-- SCRATCH_REFETCH (R52): The reload of a tagged block after a parity error completes, and the consuming step runs
  again. -/
  | scratchRefetch (t : TileId) (ups : List DramUpset)
  /-- ABORT (R228): An ABORT control packet reaches a tile, and the streams of that launch stop and enter FAULTED. -/
  | abort (t : TileId) (tag : BitVec 16)
  /-- MESH_FLIT_RETRY (R58): A mesh flit fails its CRC, and the link retries it. -/
  | meshFlitRetry (c : ClusterId) (dir : Fin 4)
  /-- MESH_LANE_FAIL (R58): A mesh lane fails; a spare replaces it, or column-first routing is ordered. -/
  | meshLaneFail (c : ClusterId) (dir : Fin 4) (lane : Fin 66)
  /-- COLUMN_FIRST_SWITCH (R58): The mesh of the half has emptied, and the half switches to column-first routing. -/
  | columnFirstSwitch (h : HalfId)
  /-- SAMPLER_ARM (R60): The token service engine arms a sampler slot with its slices, parameters and Philox inputs.
  -/
  | samplerArm (c : ClusterId) (slot : Fin 256)
  /-- LOGIT_SLICE (R61): A slice of logits reaches a sampler slot and is reduced, discarded, or fails the slot. -/
  | logitSlice (c : ClusterId) (n : Nat)
  /-- SAMPLER_RESULT (R61): The combination, the filters and the draw finish, and the slot sends its token ID and
  disarms. -/
  | samplerResult (c : ClusterId) (slot : Fin 256)
  /-- STREAMS_QUIESCED (R66): The issued steps at the old site complete, and the step engine copies its state to the
  spare. -/
  | streamsQuiesced (h : HalfId)
  /-- STATE_COPY_COMPLETE (R66): The state copy completes; the site map is updated, held packets are delivered, and
  streams resume. -/
  | stateCopyComplete (h : HalfId)
  /-- SCRATCH_FILL_DONE (R67): The zero fill of scratch after a reset ends, the built-in tests finish, and held
  packets are released. -/
  | scratchFillDone (x : SiteIx) (mmOk attOk : Bool)
  /-- TILE_MM_DBG_SEL (R115): A write arms or re-arms the array debug capture, unless SEC_LOCK is set. -/
  | tileMmDbgSel (f : FuncId) (t : TileId) (v : Word)
  /-- TILE_SCRATCH_ERR (R91): A read returns and clears the scratch parity and refetch counters. -/
  | tileScratchErr (f : FuncId) (t : TileId)
  /-- TILE_FMT_EVENTS (R91): A read returns and clears NAN_OUT and SAT_COUNT. -/
  | tileFmtEvents (f : FuncId) (t : TileId)
  /-- TILE_MM_CHK (R110): A read returns and clears CHK_FAULTS and CHK_REPLAYS, without affecting the suspect count.
  -/
  | tileMmChk (f : FuncId) (t : TileId)
  /-- TILE_ATT_EVENTS (R91): A read returns and clears EMPTY_ROWS. -/
  | tileAttEvents (f : FuncId) (t : TileId)
  /-- TILE_DRAM_ERR (R91): A read returns and clears the sector error counters. -/
  | tileDramErr (f : FuncId) (t : TileId)
  /-- ROW_TRANSFER (R156): The channel arbiter grants a slot, and one row of one bank is read or written. -/
  | rowTransfer (x : SiteIx) (arrivals : List RowReq) (errs : List SymErr)
  /-- REFRESH_BURST (R182): The burst interval elapses, and a bank refreshes 8 rows. -/
  | refreshBurst (x : SiteIx) (bank : Fin 128)
  /-- CONTROL_TEMPERATURE_UPDATE (R183): A channel root receives layer control temperatures and sets the refresh
  interval. -/
  | controlTemperatureUpdate (x : SiteIx)
  /-- REFRESH_RELAX (R183): A layer has stayed at or below 83 °C for 1 s, and its refresh interval returns to 80 µs.
  -/
  | refreshRelax (x : SiteIx) (layer : Fin 8)
  /-- TEMPERATURE_UPDATE_TIMEOUT (R183): A layer receives no temperature update for 1 s and uses the 40 µs interval.
  -/
  | temperatureUpdateTimeout (x : SiteIx) (layer : Fin 8)
  /-- DREDGER_SCRUB (R187): The Dredger receives a DUE or IDLE slot and scrubs one row as a locked pair. -/
  | dredgerScrub (x : SiteIx) (errs : List SymErr)
  /-- ROW_REPAIR (R193): A row repair copies the row to a free spare row and writes the row table entry. -/
  | rowRepair (x : SiteIx) (bank : Fin 128) (row : Fin 3072)
  /-- COLUMN_REPAIR (R194): A column repair turns on dual writing and begins rewriting every row of the bank. -/
  | columnRepair (x : SiteIx) (bank : Fin 128) (bb : Fin 1152)
  /-- COLUMN_REPAIR_COMPLETE (R194): The bank rewrite ends; reads switch to the spare byte column, and the entry is
  written. -/
  | columnRepairComplete (x : SiteIx) (bank : Fin 128)
  /-- SPARE_LANE_TEST (R199): The loopback test of a spare lane ends; the group's shift point switches, or the spare
  is marked bad. -/
  | spareLaneTest (x : SiteIx) (boundary : Fin 8) (group : Fin 144) (pass : Bool)
  /-- LANE_TRAINING_DONE (R201): The lanes of a column are trained with fused lane repairs applied; refresh starts,
  and repairs load. -/
  | laneTrainingDone (x : SiteIx) (bad : List LaneLoc) (usable : Bool)
  /-- COLUMN_FILL_DONE (R171): The poison fill of a column ends, and the channel root accepts requests. -/
  | columnFillDone (x : SiteIx)
  /-- REPAIR_TABLE_RELOAD (R202): A channel-root reset that keeps contents reloads its repair tables and lane
  settings, then accepts requests. -/
  | repairTableReload (x : SiteIx)
  /-- HOST_APERTURE_READ (R268): A BAR4 read of the stack is served, with poisoned sectors returned with EP set. -/
  | hostApertureRead (f : FuncId) (addr len : Nat) (ups : List DramUpset)
  /-- HOST_APERTURE_WRITE (R170): A BAR4 write is accepted for whole sectors, stored with poison if EP is set, or
  discarded as partial. -/
  | hostApertureWrite (f : FuncId) (addr : Nat) (data : List Byte) (ep : Bool)
  /-- ALLOCATION_WAIT_TIMEOUT (R143): No group is freed within WAIT_MS, and the sequence ends with KV_EXHAUSTED. -/
  | allocationWaitTimeout (q : SeqSlot)
  /-- GROUP_FREE (R140): Every launch naming a group has completed, and its zero fill is started. -/
  | groupFree (t : TileId) (base : Nat)
  /-- GROUP_ZERO_FILL_COMPLETE (R140): The zero fill of a freed group ends, and it counts in FREE_GROUPS; held
  allocations and swap-ins proceed. -/
  | groupZeroFillComplete (t : TileId) (base : Nat)
  /-- SWAP_OUT (R147): Once the victim's launches complete, the Barge begins writing its STACK groups to the swap
  area. -/
  | swapOut (q : SeqSlot)
  /-- SWAP_IN (R144): A swapped sequence is chosen for return, and groups are allocated and read back. -/
  | swapIn
  /-- T2_RETURN (R145): With FREE_GROUPS above twice the high mark, the Barge returns T2 groups to the stack. -/
  | t2Return
  /-- LANDING_COPY (R148): The Barge takes a unit from LAND_FREE and copies one layer's pages from tier-2 into
  landing slices. -/
  | landingCopy (t : TileId)
  /-- BARGE_MOVE_COMPLETE (R149): A 16 KiB page move finishes; group and sequence states advance, or a failure case
  applies. -/
  | bargeMoveComplete (port : BargePort) (r : MoveResult)
  /-- GENERATE (R212): A GENERATE descriptor is checked and queued as a new or continued sequence. -/
  | generate (c : CtxId)
  /-- CANCEL (R219): A CANCEL descriptor ends queued requests and stops further launches of its target sequences. -/
  | cancel (c : CtxId)
  /-- KV_EXPORT (R237): A KV_EXPORT descriptor writes a HELD sequence's export image to host memory or over RDMA. -/
  | kvExport (c : CtxId)
  /-- KV_IMPORT (R237): A KV_IMPORT descriptor checks an export image and creates a HELD sequence from it. -/
  | kvImport (c : CtxId) (img : Option (List Byte))
  /-- RELEASE (R218): A RELEASE descriptor ends a HELD sequence. -/
  | release (c : CtxId)
  /-- RUN_GRAPH (R238): A RUN_GRAPH descriptor copies input into staging for a GRAPH entry. -/
  | runGraph (c : CtxId)
  /-- MODEL_LOAD (R207): A MODEL_LOAD descriptor starts reading and checking a model image header and section table.
  -/
  | modelLoad (c : CtxId) (hdr : Option (List Byte))
  /-- MODEL_IMAGE_READ_COMPLETE (R207): The whole image has been read and its CHECK verified, and virtual tiles are
  bound. -/
  | modelImageReadComplete (m : ModelSlotId) (img : Option (List Byte))
  /-- MODEL_ZERO_FILL_COMPLETE (R207): The zero fill of every bound slot ends, and the COLUMN sections are copied. -/
  | modelZeroFillComplete (m : ModelSlotId)
  /-- MODEL_COPY_COMPLETE (R207): The COLUMN copies end; peer tables and KV regions are set up, and the slot is
  marked loaded. -/
  | modelCopyComplete (m : ModelSlotId)
  /-- MODEL_UNLOAD (R209): A MODEL_UNLOAD descriptor releases a slot, or with FORCE ends its work first. -/
  | modelUnload (c : CtxId)
  /-- ADMISSION (R221): A queued GENERATE meets the admission conditions and takes a sequence slot. -/
  | admission
  /-- DECODE_LAUNCH (R223): A pipeline place is free, and a decode batch is formed and launched. -/
  | decodeLaunch (m : ModelSlotId)
  /-- PREFILL_LAUNCH (R224): A prefill launch of prompt chunks is formed and launched. -/
  | prefillLaunch (m : ModelSlotId)
  /-- GRAPH_LAUNCH (R238): The GRAPH entry of a RUN_GRAPH is launched. -/
  | graphLaunch (m : ModelSlotId)
  /-- LAUNCH_COMPLETE (R226): Every stream of a launch has reported END, and its rows and groups are released. -/
  | launchComplete (tag : BitVec 16)
  /-- LAUNCH_FAULT (R228): The first fault of a launch arrives; ABORT is sent, and the launch is replayed or its rows
  end FAULTED. -/
  | launchFault (tag : BitVec 16)
  /-- TOKEN_DELIVERY (R235): A sampled token is written to the output buffer and checked against the stop conditions.
  -/
  | tokenDelivery
  /-- AGEING (R225): A waiting row or request passes AGE_MS and counts one class higher. -/
  | ageing (w : WaitRef)
  /-- ROTATION_CHECK (R230): ROT_MS elapses; wear scores are compared, and the sampler starting cluster advances. -/
  | rotationCheck
  /-- ROTATION_SWITCH (R230): No launch of the slot is in flight, so peer tables are rewritten to the new active
  member. -/
  | rotationSwitch (m : ModelSlotId)
  /-- SQ_TAIL (R254): An SQ_TAIL doorbell write is checked, and fetching of new submission entries starts. -/
  | sqTail (b : Bell)
  /-- CQ_HEAD (R254): A CQ_HEAD doorbell write frees completion slots, and held records can be written. -/
  | cqHead (b : Bell)
  /-- EQ_HEAD (R254): An EQ_HEAD doorbell write frees event ring slots. -/
  | eqHead (b : Bell)
  /-- IRQ_ARM (R258): An IRQ_ARM doorbell write sets ARMED, and the interrupt conditions are re-evaluated. -/
  | irqArm (b : Bell)
  /-- FENCE_DOORBELL (R261): A FENCE_i doorbell write sets or empties a fence slot, or is dropped with FENCE_DROP. -/
  | fenceDoorbell (b : Bell) (i : Fin 4)
  /-- ENABLE (R249): CTX_CTRL CMD ENABLE checks the ring configuration and activates the context. -/
  | enable (f : FuncId) (c : CtxId)
  /-- DISABLE (R250): CTX_CTRL CMD DISABLE moves the context to DRAINING. -/
  | disable (f : FuncId) (c : CtxId)
  /-- RESET (R251): CTX_CTRL CMD RESET starts a context reset. -/
  | reset (f : FuncId) (c : CtxId)
  /-- CONTEXT_RESET_COMPLETE (R251): The groups are freed and the reads finished or quarantined, and the context
  enters DISABLED. -/
  | contextResetComplete (c : CtxId)
  /-- BSN_CTX_BIND (R246): A write binds the selected context to a function and local index, or is rejected. -/
  | bsnCtxBind (f : FuncId) (v : Word)
  /-- CQ_STALL (R256): A record is held for 100 ms, CQ_STALL is set, and a CQ_STALL event is written. -/
  | cqStall (c : CtxId)
  /-- INTERRUPT_TIMER (R258): The oldest pending item has waited TIME_US, and an MSI-X message is sent. -/
  | interruptTimer (c : CtxId)
  /-- HOST_READ_COMPLETION (R264): A non-posted read to host memory completes with data or with a failure status. -/
  | hostReadCompletion (tag : TagId) (r : HostReadResult)
  /-- COMPLETION_TIMEOUT (R264): A read reaches T_CTO without a completion, fails, and its tag is quarantined. -/
  | completionTimeout (tag : TagId)
  /-- LATE_COMPLETION (R265): A completion arrives after its timeout and is discarded and counted. -/
  | lateCompletion (tag : TagId)
  /-- QUARANTINE_END (R265): 2 × T_CTO passes, and quarantined tags return to the pool. -/
  | quarantineEnd (tag : TagId)
  /-- BUS_MASTER_ENABLE_CLEAR (R266): The host clears Bus Master Enable; the function's requests stop, and its
  contexts enter RESET_PENDING. -/
  | busMasterEnableClear (f : FuncId)
  /-- FUNCTION_LEVEL_RESET (R267): An FLR of a function resets its configuration and contexts. -/
  | functionLevelReset (f : FuncId)
  /-- HOST_LINK_LOSS (R272): The host port clock is lost or the data link goes down, and the host interface acts as
  for an FLR of the PF. -/
  | hostLinkLoss
  /-- PERST_N_ASSERT (R404): PERST_N is asserted, and configuration spaces reset as for host link loss. -/
  | perstNAssert
  /-- PERST_N_DEASSERT (R404): PERST_N is deasserted, and the host link trains. -/
  | perstNDeassert
  /-- ATS_INVALIDATION (R270): An ATS invalidation request is completed after the requests using the affected
  entries. -/
  | atsInvalidation (f : FuncId) (page : Nat)
  /-- CTX_ERR (R91): A read returns and clears EV_LOST and DB_DROPPED. -/
  | ctxErr (f : FuncId) (c : CtxId)
  /-- BSN_HOST_ERR (R91): A read returns and clears LATE_CPL and DISCARDED_CPL. -/
  | bsnHostErr (f : FuncId)
  /-- BSN_HOST_APT_ERR (R91): A read returns and clears the aperture error counters. -/
  | bsnHostAptErr (f : FuncId)
  /-- BSN_BARGE_ERR (R91): A read returns and clears POISON_MOVES and T2_FALLBACKS. -/
  | bsnBargeErr (f : FuncId)
  /-- BSN_TS_LAUNCH_ERR (R91): A read returns and clears LAUNCH_FAULTS and REPLAYS. -/
  | bsnTsLaunchErr (f : FuncId)
  /-- DATA_FLIT (R280): A DATA flit is received and accepted, discarded as a duplicate, or answered with a NAK. `lost` are the DATA
flits that the far end has sent since the last one that arrived and that do not arrive as they left (R279). -/
  | dataFlit (n : LinkId) (e : LinkEnd) (fl : FlitRx)
  /-- IDLE_FLIT (R281): An IDLE flit is received, and its ACK frees flits at the transmitter. -/
  | idleFlit (n : LinkId) (e : LinkEnd) (fl : Flit)
  /-- MAP (R285): A MAP proposal arrives, and the transmitter switches its lane map and returns MAPACK. -/
  | mapMsg (n : LinkId) (e : LinkEnd) (fl : Flit)
  /-- MAPACK (R285): A MAPACK with the matching PC completes a lane-map change. -/
  | mapack (n : LinkId) (e : LinkEnd) (fl : Flit)
  /-- MAPACK_TIMEOUT (R285): No MAPACK arrives; the proposal is repeated every 1 µs, and after 10 µs RETRAIN is
  proposed. -/
  | mapackTimeout (n : LinkId) (e : LinkEnd)
  /-- RETRAIN (R289): A RETRAIN proposal arrives with the sender's EXP, and is answered with RETRAINACK. -/
  | retrain (n : LinkId) (e : LinkEnd) (fl : Flit)
  /-- RETRAINACK (R289): A RETRAINACK completes a training, and replay numbering continues. -/
  | retrainack (n : LinkId) (e : LinkEnd) (fl : Flit)
  /-- LNK_TIMEOUT (R282): OLDEST does not advance within LNK_TIMEOUT, and the link enters RECOVERY. -/
  | lnkTimeout (n : LinkId) (e : LinkEnd)
  /-- LANE_BAD (R283): A receiving end declares a lane bad and proposes a new lane map. -/
  | laneBad (n : LinkId) (e : LinkEnd) (lane : Fin 66)
  /-- MARGIN_WARNING (R287): A lane in use falls below the warning margin and is exchanged for a calibrated spare. -/
  | marginWarning (n : LinkId) (e : LinkEnd) (lane : Fin 66) (regains : Bool)
  /-- LINK_TRAINING_START (R289): A link begins training from DOWN or RECOVERY. -/
  | linkTrainingStart (n : LinkId)
  /-- LINK_TRAINING_COMPLETE (R289): Training concludes; the link is UP and routing is restored, or the attempt
  fails. -/
  | linkTrainingComplete (n : LinkId) (goodBH goodHB : BitVec 66)
  /-- FAILED_LINK_RETRY (R288): Every 1 s, Lockkeeper retries a FAILED link. -/
  | failedLinkRetry (n : LinkId)
  /-- TRUNK_FAIL (R291): A Towpath trunk is declared failed, and the half switches to the other trunk. -/
  | trunkFail (h : HalfId) (trunk : Fin 2)
  /-- FENCE_LIFT (R294): The cause has cleared and the conditions hold, so HALFn_UP is set and the half's groups are
  refilled. -/
  | fenceLift (h : HalfId)
  /-- TIER2_LINK_UP (R296): The tier-2 link comes up; Lockkeeper enumerates and programs the decoders. -/
  | tier2LinkUp (caps : List Nat)
  /-- TIER2_LOST (R298): The tier-2 link, clock or a device is lost, the decoders clear, and T2 sequences are lost.
  -/
  | tier2Lost
  /-- T2_READ_TIMEOUT (R297): A CXL.mem read has no response within TIMEOUT_MS and is handled as a move failure. -/
  | t2ReadTimeout
  /-- T2_WRITE_ACK (R295): A CXL.mem write completion (NDR) arrives, completing the write. -/
  | t2WriteAck
  /-- T2_ERR (R91): A read returns and clears POISON_RD and TIMEOUTS. -/
  | t2Err (f : FuncId)
  /-- LNK_FENCE_ERR (R91): A read returns and clears LNK_FENCE_DROPS. -/
  | lnkFenceErr (f : FuncId)
  /-- LNK_ERR (R91): A read returns and clears REPLAYS and CRC_ERRS of a link. -/
  | lnkErr (f : FuncId) (n : LinkId)
  /-- LNK_EVENTS (R91): A read returns and clears RETRAINS, MAP_CHANGES and DUP_FLITS of a link. -/
  | lnkEvents (f : FuncId) (n : LinkId)
  /-- COLLECTIVE_SLICE (R318): A tile's slice of kind 0x40 reaches the collective engine and is combined or checked.
  -/
  | collectiveSlice (t : TileId) (hdr : BitVec 256) (elems : List Byte)
  /-- HELLO (R316): A HELLO message arrives, and the group's readiness and LEVEL are computed. -/
  | hello (g : GroupId) (hdr : BitVec 256)
  /-- HELLO_TIMER (R316): Every 1 ms in HELLO state, the engine sends a HELLO to members not yet heard. -/
  | helloTimer (g : GroupId)
  /-- PARTIAL (R320): A PARTIAL chunk arrives, is extended with the local contributions and sent on. -/
  | partialMsg (q : QpId) (hdr : BitVec 256) (elems : List Byte)
  /-- RESULT (R320): A RESULT chunk arrives, is delivered to local tiles and forwarded unless the chain ends. -/
  | resultMsg (q : QpId) (hdr : BitVec 256) (elems : List Byte)
  /-- GATHER_MESSAGE (R320): A GATHER message with a member's contributions arrives for an ALLGATHER. -/
  | gatherMessage (q : QpId) (hdr : BitVec 256) (elems : List Byte)
  /-- COLL_ABORT (R321): An ABORT message arrives and fails the named operation with PEER_ABORT. -/
  | collAbort (g : GroupId) (hdr : BitVec 256)
  /-- COLLECTIVE_TIMEOUT (R321): An operation does not finish within TIMEOUT_MS of its first slice and fails. -/
  | collectiveTimeout (g : GroupId) (opSeq : Word)
  /-- GSTATE_HELLO (R316): Software writes GSTATE = 1, and the group starts the HELLO exchange. -/
  | gstateHello (f : FuncId) (g : GroupId)
  /-- GSTATE_OFF (R315): Software writes GSTATE = 0, and the group returns to OFF. -/
  | gstateOff (f : FuncId) (g : GroupId)
  /-- NET_COLL_ERR (R91): A read returns and clears OPS_FAILED and MSG_DROPPED. -/
  | netCollErr (f : FuncId)
  /-- PORT_ENABLE (R302): Setting EN starts PMD calibration and PCS alignment of a port. -/
  | portEnable (f : FuncId) (n : PortId) (v : Word)
  /-- PORT_DISABLE (R302): Clearing EN takes the port down at once. -/
  | portDisable (f : FuncId) (n : PortId) (v : Word)
  /-- PORT_UP (R302): Calibration and alignment finish, and the sub-port comes up. -/
  | portUp (n : PortId) (sub : Fin 2)
  /-- PTP_MESSAGE (R313): An IEEE 1588 message is received and timestamped, and the servo updates. -/
  | ptpMessage (n : PortId) (sub : Fin 2) (m : PtpMsg)
  /-- ARP_REQUEST (R303): An ARP request for a queue pair's SIP is answered from the sub-port's MAC address. -/
  | arpRequest (n : PortId) (sub : Fin 2) (ip : BitVec 128)
  /-- NEIGHBOR_SOLICITATION (R303): An IPv6 Neighbor Solicitation for a queue pair's SIP is answered. -/
  | neighborSolicitation (n : PortId) (sub : Fin 2) (ip : BitVec 128)
  /-- ROCE_SEND_RECEIVE (R306): An inbound RoCEv2 SEND reaches a collective queue pair, or another inbound request is
  NAKed. -/
  | roceSendReceive (p : RocePkt)
  /-- ROCE_ACK (R307): An RC acknowledgement or NAK arrives, completes work requests or triggers go-back-N. -/
  | roceAck (p : RocePkt)
  /-- RNR_NAK (R307): A receiver-not-ready NAK arrives, and the request is retried after the given timer. -/
  | rnrNak (p : RocePkt)
  /-- RC_RETRY_TIMEOUT (R307): A request is unacknowledged for TIMEOUT; it is retransmitted, or the queue pair enters
  ERROR. -/
  | rcRetryTimeout (q : QpId)
  /-- CE_PACKET (R309): A packet carrying CE arrives, and a CNP is sent subject to CNP_GAP_US. -/
  | cePacket (p : RocePkt)
  /-- CNP (R310): A CNP is received, and the queue pair lowers its send rate. -/
  | cnp (p : RocePkt)
  /-- RATE_INCREASE (R310): INC_US passes without a CNP, and the queue pair raises its rate. -/
  | rateIncrease (q : QpId)
  /-- PFC_FRAME (R311): A PFC frame arrives and pauses the named priority. -/
  | pfcFrame (n : PortId) (prio : Fin 8) (quanta : BitVec 16)
  /-- QP_RTS (R305): A write of STATE = 1 checks a queue pair record and moves it to RTS, or to ERROR. -/
  | qpRts (f : FuncId) (q : QpId) (v : Word)
  /-- QP_RESET (R305): A write of STATE = 0 fails outstanding work requests and returns the record to RESET. -/
  | qpReset (f : FuncId) (q : QpId) (v : Word)
  /-- NET_PORT_ERR (R91): A read returns and clears FEC_UNCORR and RX_DROP. -/
  | netPortErr (f : FuncId) (n : PortId)
  /-- LANE_LOCK_LOSS (R324): An Ethernet lane loses lock and relocks within 100 µs. -/
  | laneLockLoss (n : PortId) (lane : Fin 8)
  /-- LANE_LOCK_TIMEOUT (R324): A lane stays out of lock for 1 ms; its sub-port goes down and the lane is
  recalibrated. -/
  | laneLockTimeout (n : PortId) (lane : Fin 8)
  /-- CART_PRESENCE (R328): Cartridge presence is asserted for 100 ms, and the cartridge enters CHECKING. -/
  | cartPresence (k : CartId)
  /-- CART_CHECK_COMPLETE (R327): Authentication and the continuity test end; the cartridge serves or is REJECTED. -/
  | cartCheckComplete (k : CartId) (r : CartCheck)
  /-- CART_REMOVED (R328): Cartridge presence is released, and the cartridge becomes ABSENT. -/
  | cartRemoved (k : CartId)
  /-- CART_LIGHT_LOSS (R330): Loss of a cartridge's light is detected, the others are boosted, and the cartridge is
  FAILED. -/
  | cartLightLoss (k : CartId)
  /-- PREPARE (R331): A PREPARE for cartridge k is accepted and the cartridge starts DRAINING, or it is refused. -/
  | prepare (via : CartPath) (k : CartId) (force : Bool)
  /-- CANCEL_CARTRIDGE (R328): A CANCEL returns a DRAINING or REMOVE_OK cartridge to SERVING. -/
  | cancelCartridge (via : CartPath) (k : CartId)
  /-- CART_DRAIN_COMPLETE (R331): The drive of k reaches 0, the laser turns off, and REMOVE_OK is set. -/
  | cartDrainComplete (k : CartId)
  /-- INTERLOCK_OPEN (R457): A cartridge's interlock loop opens, and the cartridge enters FAILED. -/
  | interlockOpen (k : CartId)
  /-- CART_I3C_SILENT (R328): A cartridge's I3C link is silent for 1 s, and the cartridge enters FAILED. -/
  | cartI3cSilent (k : CartId)
  /-- CART_TELEMETRY (R329): Every 100 ms, the device reads cartridge telemetry. -/
  | cartTelemetry (k : CartId) (r : CartReading)
  /-- LIFE_COUNTER_WRITE (R329): Every 10 minutes, ON_HOURS and DRIVE_HOURS are written to the cartridge. -/
  | lifeCounterWrite (k : CartId)
  /-- EOL_FIT (R329): Hourly, P_MAX is fitted against ON_HOURS, EOL_HOURS is updated and EOL_WARN may be set. -/
  | eolFit (k : CartId)
  /-- ETH_PORT_CLOCK_LOSS (R332): An Ethernet port clock is lost; the port goes down and CLK_LOST is set. -/
  | ethPortClockLoss (n : PortId)
  /-- PTP_CLOCK_LOSS (R332): The IEEE 1588 time clock is lost, and VALID is cleared. -/
  | ptpClockLoss
  /-- CART_CONTROL_CLOCK_LOSS (R332): The cartridge control clock is lost; telemetry and PREPARE stop, and a record
  is raised. -/
  | cartControlClockLoss
  /-- WEIR_CONTROL_PERIOD (R354): Every 100 µs, Weir computes the budgets, learns coefficients and assigns operating
  points. -/
  | weirControlPeriod (p : PowerMeas)
  /-- RAIL_SETTLED (R337): A bank reports its rail settled after a raise, and Weir raises f_lim. -/
  | railSettled (c : ClusterId)
  /-- RING_MONITOR_READ (R339): Every second, Weir reads ring-delay monitors and updates field ceilings and curves.
  -/
  | ringMonitorRead (readings : List RingReading)
  /-- SPARE_CHARACTERISATION (R339): Every 168 h, a spare site is powered on and fully characterised. -/
  | spareCharacterisation (x : SiteIx) (r : SiteChar)
  /-- WEAR_SCORE (R341): Every 100 ms, Weir computes the wear score of every logical tile. -/
  | wearScore
  /-- POWER_ON_ORDER (R344): A domain is ordered on and begins its staged header ramp. -/
  | powerOnOrder (d : DomainIx)
  /-- HEADER_STAGE_CLOSE (R344): At 2 × k µs, stage k of the header closes; the ramp is complete at 16 µs. -/
  | headerStageClose (d : DomainIx) (railPct : Nat)
  /-- RAMP_FAULT (R344): A stage exceeds its current limit or misses its rail target; the header opens and the domain
  latches. -/
  | rampFault (d : DomainIx) (cur : Nat)
  /-- DOMAIN_SHORT (R345): An ON domain exceeds its current limit for 100 ns and latches. -/
  | domainShort (d : DomainIx) (cur : Nat)
  /-- POWER_OFF_ORDER (R342): A domain is ordered OFF and its header opens. -/
  | powerOffOrder (d : DomainIx)
  /-- SITE_UNBIND_OFF (R343): 1 s after its tile is unbound or its tests end, an unbound site is powered OFF. -/
  | siteUnbindOff (x : SiteIx)
  /-- RETRY_ORDER (R346): Lockkeeper orders a LATCHED domain to ramp again, refused after two latches. -/
  | retryOrder (d : DomainIx)
  /-- OVER_CURRENT_CUT (R348): A region exceeds its cut level, and Sluice cuts step issue in its scope. -/
  | overCurrentCut (r : CutSource)
  /-- BANK_SHORT_LATCH (R347): A bank exceeds its short level and latches off; a half-rail latch fences the half. -/
  | bankShortLatch (h : HalfId) (b : BankId) (cur : Nat)
  /-- PWR_ALERT_N (R348): PWR_ALERT_N goes low, and Sluice cuts step issue on every tile. -/
  | pwrAlertN
  /-- CUT_RELEASE (R349): A cut source has been clear for 1 µs, and release of the clusters starts. -/
  | cutRelease (r : CutSource)
  /-- CLUSTER_RESTORE (R349): After RELEASE_GAP, the next logical cluster returns to its point. -/
  | clusterRestore
  /-- DERATE_END (R350): HOLD_MS passes since the last alert, and the derate of CAP_EFF ends. -/
  | derateEnd
  /-- TOP_POINT_RESTORE (R350): The 1 s lowering of a cluster's top point ends. -/
  | topPointRestore (c : ClusterId)
  /-- FIXED_EN (R356): A write of FIXED_EN = 1 enters fixed-rate mode, or is refused. -/
  | fixedEn (f : FuncId) (v : Word)
  /-- WEIR_SILENCE (R358): An R-layer controller has no Weir command for 1 ms, moves to SAFE_POINT and sets
  WEIR_ABSENT. -/
  | weirSilence (h : HalfId)
  /-- WEIR_RESUME (R358): Weir runs again, restarts its windows and clears WEIR_ABSENT. -/
  | weirResume
  /-- BANK_SOFT_START_DONE (R357): A regulator bank finishes its soft-start, and the next bring-up step proceeds. -/
  | bankSoftStartDone (h : HalfId) (b : BankId)
  /-- POWER_BOND_CHECK (R391): Every second, Weir compares bank and cluster voltages and compensates any drop. -/
  | powerBondCheck (c : ClusterId) (dropTenthMv curTenthA : Nat)
  /-- PWR_SLUICE_CNT (R91): A read returns and clears ALERT_CUTS and OC_CUTS. -/
  | pwrSluiceCnt (f : FuncId)
  /-- PWR_FIXED_CNT (R91): A read returns and clears DEPARTS. -/
  | pwrFixedCnt (f : FuncId)
  /-- ONION_MODEL_PERIOD (R361): Every 1 ms, the Onion model reads sensors, integrates and corrects each column. -/
  | onionModelPeriod (r : OnionIn)
  /-- THROTTLE_UPDATE (R367): Every 1 ms, Weir forms each tile's excess and adjusts f_tile. -/
  | throttleUpdate
  /-- CONTROL_TEMPERATURE_SEND (R362): Every 10 ms, Weir sends each channel root its layers' control temperatures. -/
  | controlTemperatureSend
  /-- TRAY_READ (R359): Every 50 ms, the device reads tray inlet, outlet and airflow over I3C. -/
  | trayRead (r : Option TrayReading)
  /-- TRAY_LOST (R366): No valid tray reading arrives for 1 s; T_eff is taken as 45 °C and TRAY_LOST is set. -/
  | trayLost
  /-- INLET_LIMIT_UPDATE (R366): Once per second, f_in is recomputed from T_eff with hysteresis. -/
  | inletLimitUpdate
  /-- HARDWIRED_LIMIT (R368): A sensor reaches its stage-5 level, and the pace limiter is held at 0.40 Gstep/s until
  release. -/
  | hardwiredLimit (s : SensorId) (reading : Nat)
  /-- THERMAL_TRIP (R371): A trip level is reached; THERMTRIP_N goes low, both halves are fenced and shut down. -/
  | thermalTrip (s : SensorId) (byModel : Bool) (reading : Nat)
  /-- RCS_ESTIMATE (R370): A steady interval of 60 s ends, and R_cs is re-estimated, possibly setting TIM_WARN or
  TIM_ALARM. -/
  | rcsEstimate (h : HalfId) (r : Nat)
  /-- ERROR_REPORT (R375): A detector's report reaches the aggregator and opens or joins a collapse key. -/
  | errorReport
  /-- COLLAPSE_WINDOW_CLOSE (R376): The tenth tick after a key's first report closes its window, and the record is
  committed. -/
  | collapseWindowClose (k : ErrKey)
  /-- HOLDOFF_END (R377): A key's hold-off ends; a pending repeat record is committed, or the key is released. -/
  | holdoffEnd (k : ErrKey)
  /-- BSN_ERR_CONS (R383): A write of CONS consumes error log records, or is discarded if out of range. -/
  | bsnErrCons (f : FuncId) (v : Word)
  /-- BSN_ERR_CNT (R91): A read returns and clears LOG_LOST and AGG_OVERFLOWS. -/
  | bsnErrCnt (f : FuncId)
  /-- TILE_SELFTEST (R389): SELFTEST_H passes, and a bound tile runs its field self-test between launches. -/
  | tileSelftest (t : TileId) (pass1 pass2 : Bool)
  /-- BSN_MIG_CTRL (R392): A PF write with GO orders the migration of a named logical tile. -/
  | bsnMigCtrl (f : FuncId) (v : Word)
  /-- SPARE_READY (R393): The spare site is on and has passed its tile test, and the column copy starts. -/
  | spareReady (h : HalfId) (ok : Bool)
  /-- MIGRATION_COPY_COMPLETE (R393): Every addressable row has been copied to the spare, and the cut-over starts. -/
  | migrationCopyComplete (h : HalfId)
  /-- REPAIR_RECORD_WRITE (R400): Within 1 s of a change, Lockkeeper writes the repair record copies. -/
  | repairRecordWrite (okFirst okSecond : Bool)
  /-- REPAIR_RECORD_RETRY (R400): Every 10 minutes while stale, Lockkeeper retries the repair record write. -/
  | repairRecordRetry (okFirst okSecond : Bool)
  /-- VAON_UP (R403): VAON comes into tolerance, and power-on begins with the AON region, security boot and
  Lockkeeper. -/
  | vaonUp (b : BootIn)
  /-- LOCKKEEPER_BOOT_DONE (R403): Lockkeeper has booted and applied the fuse map and repair record; management
  answers and FAULT_N is released. -/
  | lockkeeperBootDone (b : BootIn)
  /-- BASIN_RAILS_UP (R403): VBSN is in tolerance after Lockkeeper's start, and the Basin core leaves reset. -/
  | basinRailsUp
  /-- VIN_UP (R357): VIN_h comes into tolerance, and the half's R-layer starts its bring-up. -/
  | vinUp (h : HalfId)
  /-- TOPOLOGY_SET (R403): The site maps are written and MAP_VALID is set once the columns are up. -/
  | topologySet
  /-- MICROCODE_BROADCAST (R407): Lockkeeper broadcasts a code image and sends a CHECK packet to the addressed nodes.
  -/
  | microcodeBroadcast (n : CodeNodes) (bad : List SiteIx)
  /-- CHECK_TIMEOUT (R407): A node answers the CHECK wrongly or not within 100 µs, and is sent the image again. -/
  | checkTimeout (n : CodeNodes) (x : SiteIx) (ok : Bool)
  /-- CODE_SWITCH (R407): A SWITCH packet makes a node switch to its other code bank. -/
  | codeSwitch (n : CodeNodes) (x : SiteIx)
  /-- CLUSTER_RESET (R410): BSN_RESET_CTRL LEVEL 1 orders a reset of one logical cluster. -/
  | clusterReset (f : FuncId) (v : Word)
  /-- HALF_COMPUTE_RESET (R408): BSN_RESET_CTRL LEVEL 2 orders a half compute reset. -/
  | halfComputeReset (f : FuncId) (v : Word)
  /-- COMPUTE_RESET (R408): BSN_RESET_CTRL LEVEL 3 orders a compute reset of both halves. -/
  | computeReset (f : FuncId) (v : Word)
  /-- BASIN_RESET (R408): BSN_RESET_CTRL LEVEL 4 orders a Basin reset. -/
  | basinReset (f : FuncId) (v : Word)
  /-- LOCK_GATES_CLOSED (R412): The transfers in progress complete, or 1 µs passes and the gate clamps; reset is
  asserted. -/
  | lockGatesClosed
  /-- RESET_COMPLETE (R412): The blocks in scope have passed their tests; gates open, the fence lifts and BUSY
  clears. -/
  | resetComplete
  /-- COLD_RESET (R408): The mailbox command COLD_RESET, with the key argument, performs a cold reset. -/
  | coldReset (via : CmdPath)
  /-- FW_STAGE (R415): The mailbox command FW_STAGE starts reading an image into the inactive slot. -/
  | fwStage (f : FuncId)
  /-- FW_STAGE_COMPLETE (R415): The staged image has been read and is checked, accepted or rejected. -/
  | fwStageComplete (r : Option FwImage)
  /-- FW_ACTIVATE (R416): The mailbox command FW_ACTIVATE checks compatibility and switches staged components in
  order. -/
  | fwActivate (f : FuncId) (health : List FwHealth)
  /-- TRIAL_PASS (R416): TRIAL seconds pass with no fault record against the activated components. -/
  | trialPass
  /-- FW_COMMIT (R417): The mailbox command FW_COMMIT makes active slots the boot slots and raises the SVN floors. -/
  | fwCommit (f : FuncId)
  /-- FW_REVERT (R417): The mailbox command FW_REVERT activates the other valid slot. -/
  | fwRevert (f : FuncId)
  /-- LKK_HANDOVER (R419): The mailbox command LKK_HANDOVER starts a Lockkeeper core handover. -/
  | lkkHandover (f : FuncId)
  /-- CORE_B_TAKEOVER (R419): Core B has booted and taken the state and queues, and becomes active. -/
  | coreBTakeover (ok : Bool)
  /-- CORE_A_REJOIN (R419): Core A boots the same slot, copies the state and rejoins lockstep. -/
  | coreARejoin
  /-- TILE_MICROCODE_DRAIN (R414): No launch is in flight, SWITCH is broadcast to every site, and launches resume. -/
  | tileMicrocodeDrain
  /-- TILE_SWITCH_ABANDON (R414): Launches are still in flight after 100 ms; the TILE switch is abandoned with BUSY.
  -/
  | tileSwitchAbandon
  /-- LOCKSTEP_MISMATCH (R418): The Lockkeeper cores disagree; they stop, self-test and restart. -/
  | lockstepMismatch (aOk bOk : Bool)
  /-- WATCHDOG_EXPIRY (R418): The Lockkeeper watchdog expires after 100 ms, with the same recovery as a mismatch. -/
  | watchdogExpiry (aOk bOk : Bool)
  /-- LOAD_WINDOW (R420): Every 10 ms, Lockkeeper measures its load and enters or leaves a shedding level. -/
  | loadWindow (load : Nat)
  /-- LKK_CLOCK_LOSS (R422): The Lockkeeper clock is lost; the cores stop and CLK_LOST is set. -/
  | lkkClockLoss
  /-- LKK_CLOCK_RETURN (R422): The Lockkeeper clock returns; Lockkeeper restarts and takes the records logged
  meanwhile. -/
  | lkkClockReturn
  /-- GET_VERSION (R430): An SPDM GET_VERSION request is answered with versions 1.3 and 1.2. -/
  | getVersion (m : SpdmIn)
  /-- GET_CAPABILITIES (R430): An SPDM GET_CAPABILITIES request is answered. -/
  | getCapabilities (m : SpdmIn)
  /-- NEGOTIATE_ALGORITHMS (R430): An SPDM NEGOTIATE_ALGORITHMS request selects the supported algorithms. -/
  | negotiateAlgorithms (m : SpdmIn)
  /-- GET_DIGESTS (R430): An SPDM GET_DIGESTS request returns the certificate chain digest. -/
  | getDigests (m : SpdmIn)
  /-- GET_CERTIFICATE (R430): An SPDM GET_CERTIFICATE request returns slot 0's chain. -/
  | getCertificate (m : SpdmIn)
  /-- CHALLENGE (R430): An SPDM CHALLENGE request is signed by the security block. -/
  | challenge (m : SpdmIn)
  /-- GET_MEASUREMENTS (R429): An SPDM GET_MEASUREMENTS request returns measurements from one instant. -/
  | getMeasurements (m : SpdmIn)
  /-- KEY_EXCHANGE (R431): An SPDM KEY_EXCHANGE opens a session on its transport, or is refused at the limit. -/
  | keyExchange (m : SpdmIn)
  /-- FINISH (R430): An SPDM FINISH completes session establishment. -/
  | finish (m : SpdmIn)
  /-- HEARTBEAT (R430): An SPDM HEARTBEAT keeps a session alive. -/
  | heartbeat (m : SpdmIn)
  /-- HEARTBEAT_EXPIRY (R458): A session's heartbeat period passes without a message, and the session ends. -/
  | heartbeatExpiry (session : Nat)
  /-- KEY_UPDATE (R430): An SPDM KEY_UPDATE updates session keys. -/
  | keyUpdate (m : SpdmIn)
  /-- END_SESSION (R430): An SPDM END_SESSION ends a session and erases its keys. -/
  | endSession (m : SpdmIn)
  /-- SEC_LOCK (R433): A PF write sets SEC_LOCK, freezing RWL fields and refusing debug DRAM access. -/
  | secLock (f : FuncId) (v : Word)
  /-- TAMPER_EVENT (R435): A tamper source acts at its level: log, lock, or erase the key store. -/
  | tamperEvent (src : Fin 6)
  /-- SEC_TAMPER_STATUS (R435): A W1C write, or the tamper acknowledge effecter, clears level-1 and level-2 source
  bits whose condition is absent. -/
  | secTamperStatus (via : TamperPath) (v : Word) (present : BitVec 6)
  /-- SET_ENDPOINT_ID (R438): The bus owner assigns the MCTP endpoint ID on a binding. -/
  | setEndpointId (b : MctpBinding) (eid : Byte)
  /-- GET_SENSOR_READING (R439): A PLDM sensor read returns a sensor value or unavailable. -/
  | getSensorReading (b : MctpBinding) (sensor : Nat)
  /-- POWER_CAP_EFFECTER (R439): A PLDM write of the power cap effecter sets the PLDM cap of R351. -/
  | powerCapEffecter (b : MctpBinding) (watts : Nat)
  /-- PLATFORM_EVENT_ACK (R441): The BMC acknowledges a PlatformEventMessage, freeing its queue entry. -/
  | platformEventAck
  /-- REQUEST_UPDATE (R442): A PLDM RequestUpdate starts a firmware update, or is refused while another agent is
  active. -/
  | requestUpdate (b : MctpBinding)
  /-- PASS_COMPONENT_TABLE (R442): A PLDM PassComponentTable names the components to update. -/
  | passComponentTable (b : MctpBinding) (comps : List Byte)
  /-- FIRMWARE_DATA (R442): A 1,024-byte piece requested by RequestFirmwareData arrives and is written to the
  inactive slot. -/
  | firmwareData (b : MctpBinding) (d : FwPiece)
  /-- ACTIVATE_FIRMWARE (R442): A PLDM ActivateFirmware activates every staged component as one bundle. -/
  | activateFirmware (b : MctpBinding) (health : List FwHealth)
  /-- GET_STATUS (R442): A PLDM GetStatus returns the update state. -/
  | getStatus (b : MctpBinding)
  /-- VIN_UNDERVOLTAGE (R452): VIN_h falls below its undervoltage level; the half is fenced and held in reset. -/
  | vinUndervoltage (h : HalfId)
  /-- VBSN_UNDERVOLTAGE (R452): VBSN falls below its level; both halves are fenced and the host link goes down. -/
  | vbsnUndervoltage
  /-- VPHY_UNDERVOLTAGE (R452): VPHY_09 or VPHY_12 falls below its level; links and ports go down and both halves are
  fenced. -/
  | vphyUndervoltage
  /-- VAON_LOSS (R452): VAON is lost, and all state not kept across a cold reset is lost. -/
  | vaonLoss
  /-- SIDEBAND_CLOCK_LOSS (R458): The sideband I3C clock is lost; I3C target and controller stop, and a record is
  raised. -/
  | sidebandClockLoss
  /-- SIDEBAND_CLOCK_RETURN (R458): The sideband clock returns; tray reads and queued events resume. -/
  | sidebandClockReturn
  /-- PEER_TABLE_WRITE (R470): A Towpath write sets peer table entries of a step-engine node. -/
  | peerTableWrite (x : SiteIx) (word : Fin 128) (v : Word)
  /-- REPAIR_ENTRY_WRITE (R471): A Towpath write to a ROW_REP, COL_REP or DEAD entry is applied, or discarded if
  VALID. -/
  | repairEntryWrite (x : SiteIx) (e : RepairEntry) (v : Word)
  /-- LANE_WRITE (R470): A Towpath write sets a lane group's shift and spare-bad settings. -/
  | laneWrite (x : SiteIx) (boundary : Fin 8) (group : Fin 144) (v : Word)
  /-- FLIM_WRITE (R470): Weir writes a tile's f_lim over the Towpath. -/
  | flimWrite (x : SiteIx) (v : Word)
  /-- SUSPECT_WRITE (R470): Lockkeeper sets or clears a column's suspect marks over the Towpath. -/
  | suspectWrite (x : SiteIx) (v : Word)
  /-- SITE_MAP_WRITE (R470): A cluster switch's site map is written over the Towpath under R16. -/
  | siteMapWrite (c : ClusterId) (m : SiteMapWords)
  /-- ROUTE_WRITE (R470): A Towpath write sets COLUMN_FIRST routing in a cluster switch. -/
  | routeWrite (c : ClusterId) (v : Word)
  /-- VSET_WRITE (R470): Weir writes a cluster bank's VCL setpoint, starting a slew. -/
  | vsetWrite (h : HalfId) (pcl : Fin 16) (v : Word)
  /-- DOMAIN_ON (R470): A DOMAIN_CMD ON orders a domain on. -/
  | domainOn (h : HalfId) (v : Word)
  /-- DOMAIN_OFF (R470): A DOMAIN_CMD OFF orders a domain off. -/
  | domainOff (h : HalfId) (v : Word)
  /-- DOMAIN_RETRY (R470): A DOMAIN_CMD RETRY orders a latched domain to retry, or is discarded. -/
  | domainRetry (h : HalfId) (v : Word)
  /-- LINK_CLOCK_LOSS (R292): The clock of a half-link end is lost, and the link goes toward FAILED, with the half
  fenced when it is the fourth link. -/
  | linkClockLoss (n : LinkId)
  /-- ETH_PORT_CLOCK_RETURN (R332): An Ethernet port clock returns, CLK_LOST clears, and the port resumes normal
  operation. -/
  | ethPortClockReturn (n : PortId)
  /-- PTP_CLOCK_RETURN (R332): The IEEE 1588 time clock returns, and VALID can be set again with PTP stamping
  resumed. -/
  | ptpClockReturn
  /-- CART_CONTROL_CLOCK_RETURN (R332): The light-cartridge control clock returns, and telemetry, life-counter
  writes, authentication and PREPARE resume. -/
  | cartControlClockReturn
  /-- SECURITY_TIMEBASE_RETURN (R443): The security timebase returns, TIMEBASE_LOST clears, and signing, derivation
  and image checks resume. -/
  | securityTimebaseReturn
  /-- VPHY_RETURN (R452): VPHY_09 and VPHY_12 are back in tolerance, and Lockkeeper retrains the half links and ports
  without a reset. -/
  | vphyReturn
  /-- HARDWIRED_LIMIT_RELEASE (R368): A sensor reading falls to the release level of 100 °C for logic or 92 °C for
  DRAM, and the stage-5 hold on the pace limiter ends. -/
  | hardwiredLimitRelease (s : SensorId) (reading : Nat)
  /-- BUS_MASTER_ENABLE_SET (R266): The host sets Bus Master Enable of a function again, and the function may issue
  requests. -/
  | busMasterEnableSet (f : FuncId)
  /-- VF_ENABLE (R246): The host sets VF Enable in the SR-IOV capability, and contexts bound to the enabled VFs
  become reachable. -/
  | vfEnable (n : Fin 256)
  /-- PFC_PAUSE_EXPIRY (R311): The pause time given by a PFC frame runs out, and sending on that priority resumes. -/
  | pfcPauseExpiry (n : PortId) (prio : Fin 8)
  /-- RNR_TIMER_EXPIRY (R307): The RNR timer given in a receiver-not-ready NAK runs out, and the request is retried.
  -/
  | rnrTimerExpiry (q : QpId)
deriving DecidableEq, Repr

end Sys2Proof
end

