-- ==== Sys2Proof/Machine/Bits.lean ====
section
/-! DEFINITION. Bit fields, little-endian byte strings, bounded counters and wrapping indices: the plain helpers that every
meaning shares. -/

namespace Sys2Proof.Machine

/-- Field NAME[hi:lo] of a number (R6: bit 0 is the least significant bit). -/
def fld (w hi lo : Nat) : Nat := (w / 2 ^ lo) % 2 ^ (hi + 1 - lo)

/-- Bit i of a number. -/
def bit (w i : Nat) : Bool := (w / 2 ^ i) % 2 == 1

/-- `w` with field [hi:lo] replaced by the low bits of `v`. -/
def setFld (w hi lo v : Nat) : Nat :=
  w - fld w hi lo * 2 ^ lo + (v % 2 ^ (hi + 1 - lo)) * 2 ^ lo

/-- A Bool as the number 0 or 1. -/
def b2n (b : Bool) : Nat := if b then 1 else 0

/-- The value of a little-endian byte string (R33). -/
def leNat : List Byte → Nat
  | [] => 0
  | b :: r => b.toNat + 256 * leNat r

/-- The `n` low bytes of a number, least significant first. -/
def leBytes : Nat → Nat → List Byte
  | 0, _ => []
  | n + 1, v => BitVec.ofNat 8 v :: leBytes n (v / 256)

/-- Bytes `off` to `off + n − 1` of a byte string, as a little-endian number. -/
def leAt (bs : List Byte) (off n : Nat) : Nat := leNat ((bs.drop off).take n)

/-- The `n` low bytes of a number, most significant first (network byte order). -/
def beBytes (n v : Nat) : List Byte := (leBytes n v).reverse

/-- A two's complement field of width `n` as an integer. -/
def sext (n v : Nat) : Int :=
  let m := v % 2 ^ n
  if m < 2 ^ (n - 1) then (m : Int) else (m : Int) - 2 ^ n

/-- The two's complement code of width `n` of an integer. -/
def tcode (n : Nat) (v : Int) : Nat := (v % (2 ^ n : Nat)).toNat

/-- The least multiple of `a` at or above `n` (`a` ≠ 0). -/
def alignUp (n a : Nat) : Nat := (n + a - 1) / a * a

/-- Quotient rounded up. -/
def cdiv (n a : Nat) : Nat := (n + a - 1) / a

/-- A counter of width `n` bits that saturates at its largest value. -/
def satAdd (n a b : Nat) : Nat := Nat.min (a + b) (2 ^ n - 1)

/-- `v` held between `lo` and `hi`. -/
def clampN (lo hi v : Nat) : Nat := Nat.max lo (Nat.min hi v)

/-- Floor of the base-2 logarithm; 0 for 0. -/
def ilog2 (n : Nat) : Nat := Nat.log2 n

/-- Do [a, a + n) and [b, b + m) share a byte? -/
def overlaps (a n b m : Nat) : Bool := a < b + m && b < a + n && n != 0 && m != 0

/-- The integer square root: the largest r with r² ≤ n. -/
def isqrt (n : Nat) : Nat :=
  (List.range (ilog2 n / 2 + 1)).foldr
    (fun i r => let c := r + 2 ^ i; if c * c ≤ n then c else r) 0

/-- Position of the first element equal to the key. -/
def indexOf? {α : Type} [DecidableEq α] (x : α) (l : List α) : Option Nat :=
  (l.zipIdx.find? (fun p => p.1 = x)).map (·.2)

/-- Element `i` replaced (nothing outside the list). -/
def listSet {α : Type} (l : List α) (i : Nat) (x : α) : List α := l.set i x

/-- Element `i` changed by `f`. -/
def listMod {α : Type} (l : List α) (i : Nat) (f : α → α) : List α :=
  match l[i]? with
  | some x => l.set i (f x)
  | none => l

/-- A byte string cut or zero-padded to a length. -/
def padTo (n : Nat) (bs : List Byte) : List Byte := bs.take n ++ List.replicate (n - bs.length) 0

/-- The half of a logical tile. -/
def tileHalf (t : TileId) : HalfId := ⟨t.val / 256, by omega⟩

/-- The logical cluster of a logical tile. -/
def tileCluster (t : TileId) : ClusterId := ⟨t.val / 16, by omega⟩

/-- The half of a logical cluster of the module. -/
def clusterHalf (c : ClusterId) : HalfId := ⟨c.val / 16, by omega⟩

/-- R13: the logical cluster within its half of the cluster at physical number PCL = 4 × py + px, and the
inverse, which is the same computation. -/
def mirrorCluster (h pcl : Nat) : Nat :=
  let px := pcl % 4
  let py := pcl / 4
  4 * py + (if h = 0 then 3 - px else px)

/-- The half of a physical site. -/
def siteHalf (x : SiteIx) : HalfId := ⟨x.val / 272, by omega⟩

/-- PCL of a physical site. -/
def sitePcl (x : SiteIx) : Nat := x.val % 272 / 17

/-- Site number 0–16 within the cluster. -/
def siteNo (x : SiteIx) : Nat := x.val % 17

/-- The logical cluster of the module in which a physical site stands. -/
def siteCluster (x : SiteIx) : ClusterId :=
  ⟨16 * (x.val / 272) + mirrorCluster (x.val / 272) (x.val % 272 / 17) % 16, by omega⟩

/-- The site index of site `s` in logical cluster `c` of the module. -/
def siteIxOf (c : ClusterId) (s : Nat) : SiteIx :=
  ⟨272 * (c.val / 16) + 17 * (mirrorCluster (c.val / 16) (c.val % 16) % 16) + s % 17, by omega⟩

/-- PCL of a logical cluster of the module. -/
def clusterPcl (c : ClusterId) : Nat := mirrorCluster (c.val / 16) (c.val % 16) % 16

end Sys2Proof.Machine
end

