-- ==== Sys2Proof/Machine/Tables.lean ====
section
/-! DEFINITION. Sparse tables in one canonical form: keys strictly rising, and no entry equal to what an unlisted key reads
as. Scratch bytes, DRAM sectors, repair entries and registers are held so. -/

namespace Sys2Proof.Machine

/-- A sparse table: (key, value) pairs. -/
abbrev Tab (α : Type) := List (Nat × α)

/-- What a key reads as; `d` is what an unlisted key reads as. -/
def tget {α : Type} (t : Tab α) (d : α) (k : Nat) : α :=
  match t with
  | [] => d
  | (j, x) :: r => if j = k then x else tget r d k

/-- The table without key `k`. -/
def tdel {α : Type} (t : Tab α) (k : Nat) : Tab α := t.filter (fun p => p.1 != k)

/-- `x` put at key `k` of a table sorted by key. -/
def tput {α : Type} (t : Tab α) (k : Nat) (x : α) : Tab α :=
  match t with
  | [] => [(k, x)]
  | (j, y) :: r => if j < k then (j, y) :: tput r k x else if j = k then (k, x) :: r else (k, x) :: (j, y) :: r

/-- A write of `x` at key `k`: writing what an unlisted key reads as removes the entry. -/
def tset {α : Type} [DecidableEq α] (t : Tab α) (d : α) (k : Nat) (x : α) : Tab α :=
  if x = d then tdel t k else tput t k x

/-- The value at key `k` changed by `f`. -/
def tmod {α : Type} [DecidableEq α] (t : Tab α) (d : α) (k : Nat) (f : α → α) : Tab α := tset t d k (f (tget t d k))

/-- The keys rise strictly. -/
def tsorted {α : Type} : Tab α → Bool
  | [] => true
  | [_] => true
  | (j, _) :: (k, y) :: r => (j < k) && tsorted ((k, y) :: r)

/-- The canonical form of a table. -/
def twf {α : Type} [DecidableEq α] (t : Tab α) (d : α) : Bool := tsorted t && t.all (fun p => p.2 != d)

end Sys2Proof.Machine
end

