-- ==== Sys2Proof/Machine/TileState.lean ====
section
/-! DEFINITION. State of a tile site: the step engine with its streams, semaphores and scratch, the matrix array, the
attention engine, and the site's DRAM column with its channel root and Dredger. -/

namespace Sys2Proof.Machine

/-- The suspect of an error record (Table Errors-3): which thing a report names. -/
inductive Suspect where
  | site (x : SiteIx)
  | tile (t : TileId)
  | dram (x : SiteIx) (ri sector : Nat)
  | dramSpare (x : SiteIx) (bank spare : Nat)
  | tsvLane (x : SiteIx) (boundary group lane : Nat)
  | halfLink (n : LinkId) (dir lane : Nat)
  | half (h : HalfId)
  | trunk (h : HalfId) (n : Nat)
  | meshLink (c : ClusterId) (dir : Nat)
  | bank (h : HalfId) (n : Nat)
  | sensor (s : SensorId)
  /-- the sampler domain of a cluster -/
  | sampler (c : ClusterId)
  | function (f : FuncId)
  | t2Device (n : Nat)
  | sequence (id : Nat)
  | cartridge (k : CartId)
  | queuePair (q : Nat)
  | port (n : PortId)
  | basinBlock (n : Nat)
deriving DecidableEq, Repr

/-- A detector's report on its way to the error aggregator (R375). -/
structure Report where
  code : Nat
  suspect : Suspect
  d1 : Nat
  d2 : Nat
  ctx : Option CtxId
  action : Nat
  time : Nat
  /-- logical cluster of the reporting tile, where that is not the suspect's own -/
  by_ : Option ClusterId := none
deriving DecidableEq, Repr

/-- States of a step stream (R29). -/
inductive StreamState where
  | idle | running | waiting | faulted | quiesced
deriving DecidableEq, Repr

/-- One row of descriptors held in the fetch buffer (R31): the slot offset of the row, its bytes, and for each sector
the poison record if the sector carried the flag. -/
structure FetchRow where
  row : Nat
  bytes : List Byte
  poison : List (Option (BitVec 512))
deriving DecidableEq, Repr

/-- An active LOOP (R37): the slot offsets of its first and past-the-last body descriptor, iterations, and strides. -/
structure LoopFrame where
  first : Nat
  past : Nat
  count : Nat
  iter : Nat
  addr : Int
  sa : Int
  sb : Int
  sd : Int
deriving DecidableEq, Repr

/-- One sector to be written by a step: key RI × 16 + sector, its data, and whether it carries poison. -/
structure SectorWrite where
  key : Nat
  data : BitVec 512
  poison : Bool
deriving DecidableEq, Repr

/-- A scratch block write that becomes visible when the step completes (R42); `poison` marks a poisoned source, `tag`
names the row that filled a whole 1 KiB block (R52). -/
structure ScratchWrite where
  addr : Nat
  bytes : List Byte
  poison : Bool
  tag : Option Nat
deriving DecidableEq, Repr

/-- What kind of unit an issued step occupies. -/
inductive StepKind where
  | plain
  | matmul (mod rows cols : Nat)
  | send (n : Nat)
  | sample (n : Nat)
  | signal (sem : Fin 32) (n : Nat)
deriving DecidableEq, Repr

/-- A step that has issued and not completed (R41, R42): its ranges, and the writes it makes when it completes. -/
structure StepRec where
  id : Nat
  off : Nat
  kind : StepKind
  sen : Option (Fin 32)
  reads : List (Nat × Nat)
  scratch : List ScratchWrite
  rowReads : List Nat
  sectors : List SectorWrite
  /-- rows that the step writes, for R41; those of a locked pair have been written (R161) -/
  rowWrites : List Nat
  sat : Nat
  nan : Nat
  empty : Nat
  /-- another stream has written to a region of this MATMUL while it ran (R111) -/
  spoiled : Bool
deriving DecidableEq, Repr

/-- A SEND or SAMPLE slice group that has not been delivered (R43): which step of which stream it belongs to. -/
structure SendRec where
  id : Nat
  peer : TileId
  dst : Nat
  data : List Byte
  dsem : Option (Fin 32)
  /-- slot offset of the SEND descriptor -/
  off : Nat
deriving DecidableEq, Repr

/-- A step whose work waits for the reload of a tagged scratch block (R52): the block number, the row that its tag named
when the parity error was met, and the slot offset of the step. -/
structure RefetchRec where
  block : Nat
  row : Nat
  off : Nat
deriving DecidableEq, Repr

/-- One step stream (R29–R45). -/
structure Stream where
  state : StreamState
  /-- the state to return to after a cut-over (Table Tiles-11 step 7) -/
  held : Option StreamState
  tag : BitVec 16
  lastFault : Nat
  pc : Nat
  start : Nat
  params : List Byte
  fetched : List FetchRow
  loops : List LoopFrame
  steps : List StepRec
  sends : List SendRec
  /-- undelivered SAMPLE slices -/
  slices : Nat
  nextId : Nat
  /-- a take of WSEM units that is waiting, or has been served and not yet used -/
  want : Option (Fin 32 × Nat)
  granted : Bool
  /-- the tick count of the block when the wait began -/
  waitFrom : Nat
  refetch : Option RefetchRec
  /-- the steps (stream, id) that a FENCE of scope TILE found in flight when it was reached, while it waits (R44) -/
  fence : Option (List (StreamId × Nat))
  ending : Bool
  endSen : Option (Fin 32)
deriving DecidableEq, Repr

def Stream.init : Stream :=
  { state := .idle, held := none, tag := 0, lastFault := 0, pc := 0, start := 0, params := [], fetched := [], loops := [],
    steps := [], sends := [], slices := 0, nextId := 0, want := none, granted := false, waitFrom := 0,
    refetch := none, fence := none, ending := false, endSen := none }

/-- A MATMUL that the array has taken (R98): its stream and step, its MOD, and whether it still runs; one that a fault stopped
only sets the shape when its turn comes (R112). -/
structure ArrRec where
  stream : StreamId
  id : Nat
  mod : Nat
  live : Bool
deriving DecidableEq, Repr

/-- The matrix array's registers and debug capture (R109, R110, R115). -/
structure ArraySt where
  kind : Nat
  row : Nat
  col : Nat
  shape : Nat
  busy : Bool
  dbgValid : Bool
  dbgSel : Word
  dbgData : BitVec 52
  faults : Nat
  replays : Nat
  /-- the device's own counts, apart from the RC registers, with the tick of each event in the window (R110) -/
  events : List Nat
  suspect : Bool
  /-- the MATMULs taken, in the order in which they issued (R98) -/
  queue : List ArrRec
  /-- the MATMUL whose first mismatch has been located and that runs once more (R109) -/
  replay : Option (StreamId × Nat)
  /-- the codebooks that the edge converters of A and of B hold, one for each lane (R91) -/
  bookA : List (BitVec 128)
  bookB : List (BitVec 128)
deriving DecidableEq, Repr

def ArraySt.init : ArraySt :=
  { kind := 0, row := 0, col := 0, shape := 0, busy := false, dbgValid := false, dbgSel := 0, dbgData := 0,
    faults := 0, replays := 0, events := [], suspect := false, queue := [], replay := none, bookA := [], bookB := [] }

/-- The power state of a domain (R342). -/
inductive DomainState where
  | off | ramping | on | latched
deriving DecidableEq, Repr

/-- The step engine and the units of one site. -/
structure Site where
  streams : Vector Stream 4
  sems : Vector (BitVec 16) 32
  semTags : Vector (BitVec 16) 32
  /-- scratch bytes with their parity bit (bit 8), R51 -/
  scratch : Tab (BitVec 9)
  /-- poisoned 64-byte scratch blocks (R385) -/
  poison : Tab Bool
  /-- tags of 1 KiB scratch blocks: slot offset of the row + 1, 0 for no tag (R52) -/
  tags : Tab Nat
  peers : Vector (BitVec 16) 256
  arr : ArraySt
  parityFaults : Nat
  refetches : Nat
  nanOut : Nat
  satCount : Nat
  emptyRows : Nat
  /-- the scratch fill of R67 has ended and packets are taken -/
  ready : Bool
  /-- the site has failed its test or is otherwise out of service -/
  failed : Bool
  /-- FLIM, the f_lim that Weir has written (R336, R470), in 10 Mstep/s -/
  flim : Nat
  /-- the code bank in use and the image version in each bank (R407) -/
  bank : Nat
  code : Nat × Nat
  /-- the streams and the array as the register shadow last held them, while the domain of the site is not ON (R343) -/
  shadow : Option (Vector Stream 4 × ArraySt)
deriving DecidableEq, Repr

def Site.init : Site :=
  { streams := Vector.replicate 4 Stream.init, sems := Vector.replicate 32 0, semTags := Vector.replicate 32 0,
    scratch := [], poison := [], tags := [], peers := Vector.replicate 256 0, arr := ArraySt.init, parityFaults := 0,
    refetches := 0, nanOut := 0, satCount := 0, emptyRows := 0, ready := false, failed := false,
    flim := 0, bank := 0, code := (0, 0), shadow := none }

/-- The streams and the array that the register window of a site shows (R343). -/
def Site.shown (s : Site) : Vector Stream 4 × ArraySt := s.shadow.getD (s.streams, s.arr)

/-- A stored sector (R163): what the last write meant it to hold, whether that was a poison record (R166), and the symbol
errors it has suffered since, symbol j of the codeword in bits 8j to 8j + 7. -/
structure Sector where
  data : BitVec 512
  poison : Bool
  err : BitVec 576
deriving DecidableEq, Repr

/-- Where a column stands in Table DRAM-12. -/
inductive ColPhase where
  | down | training | filling | reloading | ready | unusable
deriving DecidableEq, Repr

/-- The refresh of one layer (R182–R184). -/
structure LayerSt where
  /-- the 40 µs interval is in use -/
  fast : Bool
  /-- control temperature in 0.125 °C, as last sent -/
  temp : Int
  /-- tick of the last temperature update -/
  updated : Nat
  /-- tick since which the layer has been at or below 83 °C -/
  coolSince : Option Nat
  /-- no update has come for 1 s -/
  stale : Bool
deriving DecidableEq, Repr

/-- A pending row request at the channel arbiter (R160). -/
structure RowReqRec where
  cls : Nat
  ri : Nat
  mask : Nat
  data : List (BitVec 512)
  poison : Bool
  write : Bool
  fetch : Bool
  stream : Fin 4
deriving DecidableEq, Repr

/-- A corrected bit seen in a transfer (R198): transfer number, layer, bus bit. -/
structure CorrRec where
  n : Nat
  layer : Nat
  busBit : Nat
deriving DecidableEq, Repr

/-- A lane group's lanes at one boundary: failed data lanes that a spare carries, spares marked bad, lanes dead. -/
structure LaneSt where
  shifted : List Nat
  sparesBad : Nat
  dead : List Nat
deriving DecidableEq, Repr

/-- A pending spare-lane test (R199). -/
structure LaneTest where
  boundary : Nat
  group : Nat
  lane : Nat
deriving DecidableEq, Repr

/-- The DRAM column of a site with its channel root and Dredger. -/
structure Column where
  phase : ColPhase
  /-- what every sector not listed holds: the last fill (R171), or zeros after a zero fill of the whole slot (R207) -/
  fill : Sector
  /-- sectors by physical row: key 16 × RI + sector, and for spare row n of bank b 16 × (393,216 + 32 × b + n) + sector (R153, R185) -/
  cells : Tab Sector
  /-- the eight spare bytes of a physical row, as the errors of the bytes that they stand for (R190) -/
  spareBytes : Tab (BitVec 64)
  /-- spare rows (32 × bank + spare) and spare byte columns (8 × bank + spare) marked bad (R399) -/
  badRows : List Nat
  badCols : List Nat
  /-- row table entries, key bank × 32 + index; column table entries, key bank × 8 + index (Table DRAM-9) -/
  rowRep : Tab Word
  colRep : Tab Word
  lanes : Tab (Option LaneSt)
  /-- failed control lanes of each boundary (R196) -/
  ctlLanes : Vector (BitVec 6) 8
  /-- lanes declared failed whose spare is still to be tested, oldest first (R199) -/
  laneTests : List LaneTest
  layers : Vector LayerSt 8
  /-- next burst of 8 rows of each bank (R182) -/
  burst : Tab Nat
  xfers : Nat
  corr : List CorrRec
  /-- rows (bank, row) with a correction at a bus byte within this lap (R192) -/
  colHits : List (Nat × Nat × Nat)
  /-- sectors (RI × 16 + sector) corrected in this lap and in the last (R192) -/
  lapCorr : List Nat
  prevCorr : List Nat
  corrSectors : Nat
  uncorrSectors : Nat
  /-- the channel root's own counts, which no read clears (R467) -/
  ownCorr : Nat
  ownUncorr : Nat
  pos : Nat
  /-- ticks for which the schedule of this lap has run (R186, R189) -/
  lapFrom : Nat
  minLap : Nat
  lastLapMs : Nat
  laps : Nat
  lapLate : Bool
  hint : Option Nat
  /-- slots of the channel that have passed, and the one that class DUE last had (R160) -/
  slots : Nat
  lastDue : Nat
  /-- the time of the channel in its own slots, in ps, and the time until which each bank is busy (R157, R158) -/
  ps : Nat
  busy : Tab Nat
  /-- tick of the last scrub in class IDLE (R186) -/
  lastIdle : Option Nat
  rr : Nat
  /-- the stream of class STEP whose turn is next -/
  stepRr : Nat
  exhausted : Bool
  queue : List RowReqRec
  /-- requests that wait for room in their class (R162) -/
  waiting : List RowReqRec
  /-- row repairs and a column repair that are due or under way (R193, R194) -/
  rowDue : List Nat
  colDue : List (Nat × Nat)
  /-- bus bytes (bank, byte) reported in this lap while automatic column repair is off (R192) -/
  colTold : List (Nat × Nat)
  dual : Option (Nat × Nat)
  /-- refresh runs on the fallback oscillator (R184) -/
  fallback : Bool
deriving DecidableEq, Repr

def LayerSt.init : LayerSt := { fast := true, temp := 0, updated := 0, coolSince := none, stale := false }

def Column.init : Column :=
  { phase := .down, fill := { data := 0, poison := true, err := 0 }, cells := [], spareBytes := [],
    badRows := [], badCols := [], rowRep := [], colRep := [], lanes := [], ctlLanes := Vector.replicate 8 0, laneTests := [],
    layers := Vector.replicate 8 LayerSt.init, burst := [], xfers := 0, corr := [], colHits := [], lapCorr := [], prevCorr := [],
    corrSectors := 0, uncorrSectors := 0, ownCorr := 0, ownUncorr := 0, pos := 0, lapFrom := 0, minLap := 3600, lastLapMs := 0, laps := 0,
    lapLate := false, hint := none, slots := 0, lastDue := 0, ps := 0, busy := [], lastIdle := none, rr := 0, stepRr := 0,
    exhausted := false, queue := [], waiting := [], rowDue := [], colDue := [], colTold := [], dual := none, fallback := false }

/-- A slice of logits on its way to a sampler (R60). -/
structure Slice where
  tile : TileId
  stream : StreamId
  slot : Nat
  vocabBase : Nat
  logits : List Nat
deriving DecidableEq, Repr

/-- The parameters that arming fixes (R60, R232, R233), as bit patterns. -/
structure ArmParams where
  nslice : Nat
  method : Nat
  tempFactor : Nat
  topK : Nat
  topP : Nat
  minP : Nat
  nalt : Nat
  key : Nat
  counter : Nat
deriving DecidableEq, Repr

/-- A slice as the sampler keeps it (R61): base, length, maximum, exponent sum, and its largest logits with token IDs. -/
structure KeptSlice where
  base : Nat
  count : Nat
  max : Nat
  sum : Nat
  top : List (Nat × Nat)
deriving DecidableEq, Repr

/-- One sampler slot (R60). -/
structure SamplerSlot where
  params : ArmParams
  slices : List KeptSlice
deriving DecidableEq, Repr

/-- What a sampler sends for a slot (R64): the token ID, or none where the slot failed with SAMPLE_INVALID, and the
log-probabilities as FP32 codes with their token IDs. -/
structure SampleResult where
  cluster : ClusterId
  slot : Nat
  token : Option Nat
  logprob : Nat
  alts : List (Nat × Nat)
deriving DecidableEq, Repr

/-- A cluster sampler (R60, R61). -/
structure Sampler where
  slots : Tab (Option SamplerSlot)
  discarded : Nat
  inflight : List Slice
  /-- The limit of the sampler domain's pace limiter, in 10 Mstep/s (R61). -/
  flim : Nat
deriving DecidableEq, Repr

def Sampler.init : Sampler := { slots := [], discarded := 0, inflight := [], flim := 0 }

/-- A cluster switch: site map, routing and mesh links (R15, R16, R56, R58). -/
structure ClusterSt where
  siteOf : Vector (Option (Fin 17)) 16
  spare : Option (Fin 17)
  bad : BitVec 17
  mapGen : BitVec 4
  columnFirst : Bool
  /-- failed lanes of the four outgoing mesh links, in the order N, E, S, W of Table Errors-3 -/
  laneFails : Vector Nat 4
  linkDown : BitVec 4
  retries : Nat
deriving DecidableEq, Repr

/-- The unfused identity map (reset values of CL_SITE_MAP_n and CL_SITE_STATUS). -/
def ClusterSt.init : ClusterSt :=
  { siteOf := Vector.ofFn (fun (i : Fin 16) => some ⟨i.val, by omega⟩), spare := some 16, bad := 0, mapGen := 0,
    columnFirst := false, laneFails := Vector.replicate 4 0, linkDown := 0, retries := 0 }

/-- A cut-over in progress (Table Tiles-11). -/
inductive CutPhase where
  | quiescing | copying
deriving DecidableEq, Repr

/-- A packet that a cluster switch holds for a tile. -/
inductive HeldPacket where
  | launch (p : LaunchPkt)
  | abort (tag : BitVec 16)
  | send (src : TileId) (stream : StreamId) (id : Nat)
  /-- bytes that the collective engine delivers, with a semaphore unit after them (R321) -/
  | coll (dst : Nat) (data : List Byte) (sem : Option (Fin 32))
deriving DecidableEq, Repr

/-- A message of a tile to the token service engine. -/
inductive TileMsg where
  | ended (t : TileId) (st : StreamId) (tag : BitVec 16)
  | fault (t : TileId) (st : StreamId) (tag : BitVec 16) (cause off : Nat) (extra : Nat)
  | busy (t : TileId) (st : StreamId) (tag : BitVec 16)
deriving DecidableEq, Repr

/-- A control packet of the token service engine on its way to a tile. -/
inductive CtlPkt where
  | launch (p : LaunchPkt)
  | abort (tag : BitVec 16)
deriving DecidableEq, Repr

/-- A live cut-over of a logical tile from one site to another (R66). -/
structure CutOver where
  tile : TileId
  src : SiteIx
  dst : SiteIx
  phase : CutPhase
deriving DecidableEq, Repr

/-- The always-on time: ticks broadcast so far, the blocks that receive none, and the ticks each block has missed (R21,
R22). -/
structure Time where
  ticks : Nat
  lost : List TickBlock
  missed : List (TickBlock × Nat)
deriving DecidableEq, Repr

def Time.init : Time := { ticks := 0, lost := [], missed := [] }

/-- The two halves and the fabric that joins them: sites, columns, switches, samplers, and the messages in flight. -/
structure Fabric where
  sites : Tab Site
  cols : Tab Column
  clusters : Tab ClusterSt
  samplers : Tab Sampler
  results : List SampleResult
  inbox : List TileMsg
  ctl : List (TileId × CtlPkt)
  held : Tab (List HeldPacket)
  cut : Vector (Option CutOver) 2
  reports : List Report
  halfUp : Vector Bool 2
  fenced : Vector Bool 2
  mapValid : Bool
  /-- the fused site maps have been written since the cold reset (R16) -/
  mapWritten : Bool
  /-- suspects whose fault the token service engine has answered with a replay (ACTION 1 of R382) -/
  acted : List Suspect
  /-- the routing of the half is being switched, and its cluster switches hold new injections (R58, R288) -/
  switching : Vector Bool 2
  /-- logical clusters whose lock gates are closed by a reset (R412) -/
  gated : BitVec 32
  /-- the switch under way is the one to column-first routing (R58) -/
  toColumn : Vector Bool 2
  /-- entry 4 × half + row: the row of the half whose link carries that row's traffic with the other half, none where no link is UP (R288) -/
  routes : List (Option Nat)
  /-- the same, as the switch under way will leave it -/
  routesNext : List (Option Nat)
  /-- the KV region of each tile that a loaded image declares: first slot offset and length (R119) -/
  kvRegion : Tab (Option (Nat × Nat))
  /-- control temperatures on their way to a channel root: eight layers, in 0.125 °C (R183, R362) -/
  tempMsgs : Tab (List Int)
  /-- the free counter: every free value drawn at a command is drawn at its value -/
  free : Nat
deriving DecidableEq, Repr

def Fabric.init : Fabric :=
  { sites := [], cols := [], clusters := [], samplers := [], results := [], inbox := [], ctl := [], held := [],
    cut := Vector.replicate 2 none, reports := [], halfUp := Vector.replicate 2 false,
    fenced := Vector.replicate 2 false, mapValid := false, mapWritten := false, acted := [], switching := Vector.replicate 2 false, gated := 0,
    toColumn := Vector.replicate 2 false, routes := List.replicate 8 none, routesNext := List.replicate 8 none, kvRegion := [],
    tempMsgs := [], free := 0 }

end Sys2Proof.Machine
end

