-- ==== Sys2Proof/Machine/ErrState.lean ====
section
/-! DEFINITION. State of the error aggregator (chapter "Errors, reporting and field repair"). -/

namespace Sys2Proof.Machine

/-- An error record (Table Errors-2); words 0x20 and 0x24 as they are laid out, and the suspect they name. -/
structure ErrRec where
  rid : Nat
  code : Nat
  first : Nat
  last : Nat
  reporters : Nat
  again : Bool
  basinRep : Bool
  repMap : BitVec 32
  suspect : Suspect
  w20 : Nat
  w24 : Nat
  ctx : Option CtxId
  seqId : Nat
  d1 : Nat
  d2 : Nat
  action : Nat
deriving DecidableEq, Repr

/-- An open key (R376, R377): in its window, or in hold-off with a repeat record that may be pending; the tick of the first report or of
the commit. -/
structure KeySt where
  key : ErrKey
  rcd : Option ErrRec
  hold : Bool
  since : Nat
deriving DecidableEq, Repr

/-- The aggregator: open keys, the log by slot, RID, PROD and CONS, and its counters. -/
structure Agg where
  keys : List KeySt
  log : Tab (Option ErrRec)
  rid : Nat
  prod : Nat
  cons : Nat
  logLost : Nat
  overflows : Nat
  /-- records committed while Lockkeeper could not act on them (R419, R422) -/
  later : List ErrRec
deriving DecidableEq, Repr

def Agg.init : Agg := { keys := [], log := [], rid := 0, prod := 0, cons := 0, logLost := 0, overflows := 0, later := [] }

end Sys2Proof.Machine
end

