-- ==== Sys2Proof/Machine/HostState.lean ====
section
/-! DEFINITION. State of the host interface: contexts with their rings, fences and interrupt moderation, tags of host reads,
functions, MSI-X (chapter "Host interface, contexts and descriptor rings"). -/

namespace Sys2Proof.Machine

/-- Output pins (Table Lands-6). -/
inductive PinName where
  | thermtripN | faultN
  | cartIlkOut (k : CartId)
  | cartBoost (k : CartId)
  | ppsOut
deriving DecidableEq, Repr

/-- An SPDM error (R431, R435); `other` where the manual names none. -/
inductive SpdmErr where
  | invalidSession | sessionLimitExceeded | unspecified
  | responseNotReady (rdtExponent : Nat)
  | other (code : Nat)
deriving DecidableEq, Repr

/-- A measurement as it is answered (Table Trust-3): a digest, or raw bytes. -/
inductive MeasVal where
  | digest (v : Nat)
  | raw (bytes : List Byte)
deriving DecidableEq, Repr

/-- A response of the management endpoint: what the manual states of its content. -/
inductive MgmtRsp where
  /-- BUSY with a retry hint in ms (R419, R420, R422) -/
  | busy (retryMs : Nat)
  | spdmError (e : SpdmErr)
  /-- versions, as version bytes -/
  | versions (v : List Byte)
  /-- the capabilities of Table Trust-4 -/
  | capabilities
  /-- the algorithms of Table Trust-4 -/
  | algorithms
  /-- digest of the chain of slot 0: AK's derivation of which it is (R424, R429) -/
  | digests (akGen : Nat)
  | certificate (akGen offset length : Nat)
  /-- a response signed under AK -/
  | challengeAuth (akGen : Nat)
  | measurements (akGen : Nat) (m : List (Nat × MeasVal))
  | keyExchanged (session : Nat)
  | spdmAck (session : Nat)
  /-- MCTP control: the endpoint ID is set -/
  | eidSet (eid : Byte)
  /-- PLDM: done; a completion code in error -/
  | pldmOk
  | notReady | invalidData | retryRequestUpdate
  | pldmError (code : Nat)
  /-- values of a sensor, and whether its operational state is unavailable -/
  | sensor (values : List Int) (unavailable : Bool)
  | fwProgress (state : Nat)
  /-- requests of Lockkeeper to the update agent (Table Trust-11): RequestFirmwareData, TransferComplete, VerifyComplete, ApplyComplete -/
  | fwRequest (comp off len : Nat)
  | fwTransferred (comp : Nat)
  | fwVerified (comp : Nat) (ok : Bool)
  | fwApplied (comp : Nat)
  /-- a PlatformEventMessage: data, and the events dropped before it (R441) -/
  | event (data : List Byte) (dropped : Nat)
deriving DecidableEq, Repr

/-- A crossbar packet (R277): destination port, logical tiles of destination and source, virtual channel, kind and payload. -/
structure Packet where
  dst : Nat
  dstTile : Nat
  srcTile : Nat
  vc : Nat
  kind : Nat
  payload : List Byte
deriving DecidableEq, Repr

/-- What the block sends: the outputs of commands in the order in which they are sent. Requests toward the host have Relaxed Ordering, ID-Based
Ordering and No Snoop clear (R241). -/
inductive Out where
  /-- a memory write toward the host: requester function, address, bytes, EP -/
  | hostWrite (f : Nat) (addr : Nat) (bytes : List Byte) (ep : Bool)
  /-- a non-posted read of host memory -/
  | hostRead (f tag addr len : Nat)
  /-- the same with an address that ATS has translated (R270) -/
  | hostWriteAt (f : Nat) (addr : Nat) (bytes : List Byte) (ep : Bool)
  | hostReadAt (f tag addr len : Nat)
  /-- an ATS translation request for a page of 4 KiB -/
  | translate (f tag page : Nat)
  | msix (f vec : Nat)
  /-- the completion of a BAR4 read: the bytes, and the 64-byte units sent with EP set -/
  | aperture (bytes : List Byte) (ep : List Nat)
  | unsupported
  /-- the value that a register read returns -/
  | regValue (v : Nat)
  | invalidateDone (f page : Nat)
  /-- tier-2 writes and reads of one 16 KiB page -/
  | t2Write (addr : Nat) (bytes : List Byte) (poison : List Nat)
  /-- a flit of 256 bytes sent by one end of a half link -/
  | flit (n : LinkId) (e : LinkEnd) (bytes : List Byte)
  /-- a crossbar packet that a receiving end delivers, once all its flits have been accepted -/
  | linkPacket (n : LinkId) (e : LinkEnd) (p : Packet)
  /-- a RoCEv2 packet -/
  | roce (p : RocePkt)
  /-- a PFC frame: pause or resume of a priority (R311) -/
  | pfc (n : PortId) (prio : Fin 8) (pause : Bool)
  /-- a Delay_Req of the slave clock (R313): sub-port, domain, over UDP -/
  | ptpDelayReq (n : PortId) (sub : Fin 2) (domain : Nat) (udp : Bool)
  /-- the answer to an ARP request or a Neighbor Solicitation: the sub-port's MAC address for the IP address asked -/
  | neighbor (n : PortId) (sub : Nat) (mac : Nat) (ip : Nat)
  /-- a response on the management path -/
  | mgmt (b : MctpBinding) (r : MgmtRsp)
  /-- the response status of a Towpath register access: 0 OK, 1 NOT_POWERED, 2 DISCARDED, 3 NO_NODE (R469) -/
  | towpath (status : Nat)
  /-- a pin driven -/
  | pin (name : PinName) (level : Bool)
deriving DecidableEq, Repr

/-- States of a context (Table Host-5). -/
inductive CtxPhase where
  | disabled | active | draining | faulted | resetPending
deriving DecidableEq, Repr

/-- STATE of CTX_STATUS. -/
def CtxPhase.code : CtxPhase → Nat
  | .disabled => 0
  | .active => 1
  | .draining => 2
  | .faulted => 3
  | .resetPending => 4

/-- A fence slot that holds (R261). -/
structure FenceSlot where
  atDsn : Nat
  waitCtx : CtxId
  waitDsn : Nat
deriving DecidableEq, Repr

/-- A completion record before it is written (R215), with its observer class and, where P2P_FLUSH applies, the address of the
last 4-byte word it covers. -/
structure CplRec where
  dsn : Nat
  rtype : Nat
  endCode : Nat
  opcode : Nat
  seqId : Nat
  tag : Nat
  count : Nat
  tokens : Nat
  detail : Nat
  cls : Nat
  last : Option Nat
deriving DecidableEq, Repr

/-- A record waiting for its flush read or for a free slot (R256). -/
structure HeldRec where
  rcd : CplRec
  since : Nat
  flushed : Bool
  /-- since when the completion ring has had no free slot for it -/
  full : Option Nat
deriving DecidableEq, Repr

/-- What started a context reset (R251). -/
inductive ResetKind where
  | cmd | bme | flr | pfFlr
deriving DecidableEq, Repr

/-- One context: binding, window registers, rings, fences, records and moderation. -/
structure Ctx where
  phase : CtxPhase
  cause : Nat
  func : FuncId
  loc : Nat
  sqBase : Nat
  cqBase : Nat
  eqBase : Nat
  ringSize : Nat
  irq : Nat
  irqTime : Nat
  cfg : Nat
  swapBase : Nat
  swapSize : Nat
  sqHead : Nat
  sqTail : Nat
  cqHead : Nat
  cqTail : Nat
  eqHead : Nat
  eqTail : Nat
  cqPhase : Bool
  eqPhase : Bool
  nextDsn : Nat
  /-- DSNs of fetched descriptors without their FINAL or DONE -/
  open_ : List Nat
  /-- fetched descriptors not yet checked -/
  fetched : List (Nat × Nat)
  /-- entries of the fetch read under way -/
  fetching : Nat
  fences : Vector (Option FenceSlot) 4
  held : List HeldRec
  flushing : Bool
  cqStall : Bool
  eqLost : Bool
  evGone : Nat
  evLost : Nat
  dbDropped : Nat
  armed : Bool
  pend : Nat
  pendSince : Nat
  evPend : Bool
  reset : Option ResetKind
  /-- when the quarantine of its function ends, in ticks of the host interface -/
  quarEnd : Nat
  /-- launches in flight at the start of a reset that name its groups (Table Host-7 step 5) -/
  waitTags : List (BitVec 16)
deriving DecidableEq, Repr

/-- A context after a device reset (R271): the reset values of its window. -/
def Ctx.init : Ctx :=
  { phase := .disabled, cause := 0, func := 0, loc := 0, sqBase := 0, cqBase := 0, eqBase := 0, ringSize := 0x00040606,
    irq := 0x00010000, irqTime := 0x10, cfg := 0, swapBase := 0, swapSize := 0, sqHead := 0, sqTail := 0, cqHead := 0,
    cqTail := 0, eqHead := 0, eqTail := 0, cqPhase := false, eqPhase := false, nextDsn := 0, open_ := [], fetched := [],
    fetching := 0, fences := Vector.replicate 4 none, held := [], flushing := false, cqStall := false, eqLost := false,
    evGone := 0, evLost := 0, dbDropped := 0, armed := false, pend := 0, pendSince := 0, evPend := false, reset := none,
    quarEnd := 0, waitTags := [] }

/-- What a host read is for (Table Host-14). -/
inductive ReadUse where
  | fetch (c : CtxId) (n : Nat)
  | flush (c : CtxId)
  | prompt (c : CtxId) (dsn : Nat)
  | graphIn (c : CtxId) (dsn : Nat)
  /-- the image of a MODEL_LOAD -/
  | model (c : CtxId) (m : ModelSlotId)
  /-- a page that the Barge reads: of a swap area, or of an export image -/
  | page (c : CtxId) (seq : SeqSlot) (gen pos0 page : Nat)
  /-- an ATS translation request of a function -/
  | translate (f : FuncId) (page : Nat)
deriving DecidableEq, Repr

/-- A tag in use: outstanding, or in quarantine since a tick (R263–R266). -/
structure TagSt where
  func : FuncId
  use : ReadUse
  page : Nat
  at_ : Nat
  quar : Option Nat
  /-- quarantined by a timeout (late completions are LATE_CPL), or by Bus Master Enable (DISCARDED_CPL) -/
  timedOut : Bool
deriving DecidableEq, Repr

/-- An entry of an MSI-X table: address, data, masked. -/
structure MsixEntry where
  addr : Nat
  data : Nat
  masked : Bool
  pending : Bool
deriving DecidableEq, Repr

def MsixEntry.init : MsixEntry := { addr := 0, data := 0, masked := true, pending := false }

/-- An access of the stack aperture that a channel holds while its column is filled (R171). -/
inductive AptAccess where
  | read (f : FuncId) (addr len : Nat)
  | write (f : FuncId) (addr : Nat) (bytes : List Byte) (ep : Bool)
deriving DecidableEq, Repr

def AptAccess.addr : AptAccess → Nat
  | .read _ a _ => a
  | .write _ a _ _ => a

/-- The configuration registers of a function that a rule acts on: Max_Payload_Size and Max_Read_Request_Size in bytes (those of the PF hold
for every function), the completion timeout's code, ATS Enable, the ACS control bits, and the uncorrectable errors that AER has logged. -/
structure CfgSt where
  mps : Nat
  mrrs : Nat
  cto : Nat
  ats : Bool
  acs : Nat
  aer : Nat
deriving DecidableEq, Repr

def CfgSt.init : CfgSt := { mps := 128, mrrs := 512, cto := 0, ats := false, acs := 0, aer := 0 }

/-- An entry of the translation cache (R270): a page of a function, where it is, and what is allowed. -/
structure AtcEntry where
  func : FuncId
  page : Nat
  dst : Nat
  r : Bool
  w : Bool
deriving DecidableEq, Repr

/-- A memory write of a context that waits for an address to be translated, or an MSI-X message behind it. -/
structure Post where
  ctx : Option CtxId
  func : FuncId
  addr : Nat
  bytes : List Byte
  ep : Bool
  vec : Option Nat
deriving DecidableEq, Repr

/-- The host interface. -/
structure HostSt where
  ctxs : Tab Ctx
  tags : Tab (Option TagSt)
  bme : Tab Bool
  cfg : Tab CfgSt
  vfs : Nat
  msix : Tab MsixEntry
  linkUp : Bool
  perst : Bool
  lateCpl : Nat
  discCpl : Nat
  aptPoison : Nat
  aptPartial : Nat
  rejected : Bool
  /-- invalidations that wait for requests (R270): function, page, tags -/
  inval : List (FuncId × Nat × List Nat)
  /-- accesses of the stack aperture that wait for a column, in order of arrival (R171) -/
  aptHeld : List AptAccess
  /-- the translation cache shared by all VFs, oldest first (R270) -/
  atc : List AtcEntry
  /-- writes that wait for a translation, in issue order (R270) -/
  posts : List Post
  /-- issues since a fetch, request data and a Barge move were last issued while they waited (R242) -/
  share : Nat × Nat × Nat
  /-- tags that are free and whose last read timed out, with its function (R265) -/
  expired : List (Nat × FuncId)
deriving DecidableEq, Repr

def HostSt.init : HostSt :=
  { ctxs := [], tags := [], bme := [], cfg := [], vfs := 0, msix := [], linkUp := false, perst := true, lateCpl := 0,
    discCpl := 0, aptPoison := 0, aptPartial := 0, rejected := false, inval := [], aptHeld := [], atc := [], posts := [],
    share := (0, 0, 0), expired := [] }

end Sys2Proof.Machine
end

