-- ==== Sys2Proof/Machine/LinkState.lean ====
section
/-! DEFINITION. State of the half links, the Towpath, the fences and the tier-2 port (chapter "Basin and the photonic
interposer links"). -/

namespace Sys2Proof.Machine

/-- STATE of LNK_STATUS. -/
inductive LinkPhase where
  | down | training | up | recovery | failed
deriving DecidableEq, Repr

def LinkPhase.code : LinkPhase → Nat
  | .down => 0
  | .training => 1
  | .up => 2
  | .recovery => 3
  | .failed => 4

/-- A proposal outstanding at an end (R285, R286): MAP or RETRAIN. -/
structure Proposal where
  retrain : Bool
  pc : Nat
  width : Nat
  good : BitVec 66
  /-- the map that was in force, for an end that abandons its proposal -/
  oldWidth : Nat
  oldGood : BitVec 66
  /-- ticks of the proposal and of its last repetition -/
  since : Nat
  last : Nat
deriving DecidableEq, Repr

/-- One end of a half link: its transmitter (NEXT and the flits held from OLDEST on), its receiver (EXP, the tick of a NAK sent
since the last acceptance), the lanes it receives on, and its proposals. -/
structure EndSt where
  next : Nat
  buf : List (List Byte)
  exp : Nat
  nakAt : Option Nat
  /-- the bytes accepted so far of a crossbar packet that runs on into the next flit (R277) -/
  rx : List Byte
  /-- lanes of the direction it receives that are not bad -/
  good : BitVec 66
  /-- the map in force at its receiver -/
  rxMap : BitVec 66
  width : Nat
  /-- the map its transmitter uses -/
  txMap : BitVec 66
  txWidth : Nat
  pc : Nat
  prop : Option Proposal
  /-- tick at which OLDEST last advanced -/
  timer : Nat
deriving DecidableEq, Repr

def EndSt.init : EndSt :=
  { next := 0, buf := [], exp := 0, nakAt := none, rx := [], good := 0, rxMap := 0, width := 0, txMap := 0, txWidth := 0, pc := 0, prop := none,
    timer := 0 }

/-- A half link. -/
structure LinkSt where
  phase : LinkPhase
  basin : EndSt
  half : EndSt
  /-- training attempts that failed in a row; a training that retries a FAILED link -/
  tries : Nat
  retry : Bool
  replays : Nat
  crcErrs : Nat
  retrains : Nat
  mapChanges : Nat
  dupFlits : Nat
  /-- tick of the last failed attempt, for the retry every 1 s -/
  failedAt : Nat
  clockLost : Bool
deriving DecidableEq, Repr

def LinkSt.init : LinkSt :=
  { phase := .down, basin := EndSt.init, half := EndSt.init, tries := 0, retry := false, replays := 0, crcErrs := 0, retrains := 0,
    mapChanges := 0, dupFlits := 0, failedAt := 0, clockLost := false }

/-- Why a half is fenced (DETAIL1 of HALF_FENCED). -/
inductive FenceCause where
  | reset | links | towpath | mesh | rail
deriving DecidableEq, Repr

def FenceCause.code : FenceCause → Nat
  | .reset => 0
  | .links => 1
  | .towpath => 2
  | .mesh => 3
  | .rail => 4

/-- The tier-2 port. -/
structure T2St where
  up : Bool
  /-- capacity in MiB of each device present, in device order -/
  caps : List Nat
  dec : Vector Nat 4
  poisonRd : Nat
  timeouts : Nat
  /-- the link may be trained: clock present -/
  clock : Bool
deriving DecidableEq, Repr

def T2St.init : T2St :=
  { up := false, caps := [], dec := Vector.replicate 4 0, poisonRd := 0, timeouts := 0, clock := true }

/-- The links, the Towpath and tier-2. -/
structure LinkAll where
  links : Vector LinkSt 8
  /-- trunks that work: index 2 × half + trunk (0 A, 1 B) -/
  trunkOk : Vector Bool 4
  /-- the active trunk of each half: 0 A, 1 B, 2 none -/
  trunk : Vector Nat 2
  /-- causes of R292 in force, per half -/
  cause : Vector (Option FenceCause) 2
  fenceDrops : Nat
  /-- the widest W for which there is light (Table Net-7): 64, 32, 16, or 0 for none -/
  wcap : Nat
  t2 : T2St
deriving DecidableEq, Repr

def LinkAll.init : LinkAll :=
  { links := Vector.replicate 8 LinkSt.init, trunkOk := Vector.replicate 4 true, trunk := Vector.replicate 2 0,
    cause := Vector.replicate 2 none, fenceDrops := 0, wcap := 0, t2 := T2St.init }

end Sys2Proof.Machine
end

