-- ==== Sys2Proof/Machine/Frac.lean ====
section
/-! DEFINITION. Exact fractions, for the arithmetic of Weir: the manual states its formulas over numbers and names no format. -/

namespace Sys2Proof.Machine

/-- A fraction with a denominator that is not 0, reduced. -/
structure Frac where
  num : Int
  den : Nat
deriving DecidableEq, Repr

/-- n / d; 0 where d is 0, which no caller asks for. -/
def Frac.mk2 (n : Int) (d : Nat) : Frac :=
  if d = 0 then ⟨0, 1⟩ else
  let g := Nat.gcd n.natAbs d
  ⟨n / (g : Int), d / g⟩

def Frac.ofInt (i : Int) : Frac := ⟨i, 1⟩
def Frac.ofNat (n : Nat) : Frac := ⟨(n : Int), 1⟩
def Frac.zero : Frac := ⟨0, 1⟩
def Frac.add (a b : Frac) : Frac := Frac.mk2 (a.num * b.den + b.num * a.den) (a.den * b.den)
def Frac.neg (a : Frac) : Frac := ⟨-a.num, a.den⟩
def Frac.sub (a b : Frac) : Frac := a.add b.neg
def Frac.mul (a b : Frac) : Frac := Frac.mk2 (a.num * b.num) (a.den * b.den)
def Frac.inv (a : Frac) : Frac := if a.num < 0 then ⟨-(a.den : Int), a.num.natAbs⟩ else ⟨a.den, a.num.natAbs⟩
def Frac.div (a b : Frac) : Frac := Frac.mk2 (a.num * (b.inv).num) (a.den * (b.inv).den)
def Frac.le (a b : Frac) : Bool := decide (a.num * b.den ≤ b.num * a.den)
def Frac.lt (a b : Frac) : Bool := decide (a.num * b.den < b.num * a.den)
def Frac.max (a b : Frac) : Frac := if a.lt b then b else a
def Frac.min (a b : Frac) : Frac := if b.lt a then b else a
/-- The largest integer not above. -/
def Frac.floor (a : Frac) : Int := a.num / (a.den : Int)
/-- The smallest integer not below. -/
def Frac.ceil (a : Frac) : Int := -((-a.num) / (a.den : Int))
def Frac.sum (l : List Frac) : Frac := l.foldl Frac.add Frac.zero

end Sys2Proof.Machine
end

