-- ==== Sys2Proof/Machine/Fuses.lean ====
section
/-! DEFINITION. The fuse map (Table Bringup-2): what manufacture wrote into the module, never changed in the field. -/

namespace Sys2Proof.Machine

/-- A fused repair of a DRAM row or bus byte: site, bank 0–127, whether it is a row, its number, and the spare. -/
structure DramFuse where
  site : SiteIx
  bank : Nat
  isRow : Bool
  n : Nat
  spare : Nat
deriving DecidableEq, Repr

/-- The fused power data of a logical cluster (R353): leakage in mW at 5 voltages (0.1 mV) × 3 temperatures (°C), voltage first, and
K_INIT in mW per V² per Gstep/s. -/
structure ClusterFuse where
  volts : List Nat
  temps : List Nat
  leak : List Nat
  kInit : Nat
deriving DecidableEq, Repr

/-- The fused thermal data of a half (R361): conductances between neighbouring nodes of a column (10, from the R-layer up) and
between equal layers of neighbouring columns (11) in mW/K, the pairs of columns (17 × PCL + site) that are neighbours, heat capacities of the 11 nodes in mJ/K, and energies of a row
transfer and of a refresh burst in nJ. -/
structure ThermFuse where
  up : List Nat
  side : List Nat
  near : List (Nat × Nat)
  cap : List Nat
  rowNj : Nat
  refreshNj : Nat
deriving DecidableEq, Repr

/-- The fuse map. -/
structure Fuses where
  capW : Nat
  point : Nat
  p1ms : Nat
  p100ms : Nat
  macBase : Nat
  badSites : List SiteIx
  dram : List DramFuse
  /-- failed TSV lanes: site, boundary, group, lane -/
  tsv : List (SiteIx × Nat × Nat × Nat)
  /-- bad half-link lanes: link, direction, lane -/
  linkLanes : List (LinkId × Nat × Nat)
  /-- bad mesh lanes: logical cluster, direction, lane -/
  meshLanes : List (ClusterId × Nat × Nat)
  chars : Tab SiteChar
  power : Tab ClusterFuse
  thermal : Vector ThermFuse 2
  /-- distance factors of PLDM sensors 17–21, in 0.01 (R447) -/
  factors : List Nat
  /-- the security fuses (R424): SHA-384 of the firmware-signing public keys, their revocation fuses, and SHA-384 of the cartridge root key -/
  fwRoot : Vector (BitVec 384) 2
  fwRevoked : BitVec 2
  cartRoot : BitVec 384
deriving DecidableEq, Repr

/-- The typical curve of Table Power-2, in 0.1 mV. -/
def typicalVolts : List Nat :=
  [5500, 5700, 5900, 6075, 6275, 6450, 6650, 6825, 7025, 7200, 7475, 7725, 7975, 8250, 8500, 8750, 9000]

/-- A site without an entry in the characterisation section: the typical curve (DESIGN CHOICE, assumption log). -/
def SiteChar.typical : SiteChar := { volts := typicalVolts, ceiling := 160, ring := 1000, pass := true }

/-- A cluster without an entry in the power section: the leakage and the coefficients of the worked example under R355. -/
def ClusterFuse.typical : ClusterFuse :=
  { volts := [5500, 6375, 7250, 8125, 9000], temps := [25, 60, 105]
    leak := [1070, 1070, 1070, 1666, 1666, 1666, 2450, 2450, 2450, 3449, 3449, 3449, 4688, 4688, 4688], kInit := 30000 }

def ThermFuse.typical : ThermFuse :=
  { up := List.replicate 10 400, side := List.replicate 11 50, near := [], cap := List.replicate 11 10, rowNj := 20, refreshNj := 100 }

/-- SHA-384 of a key of 97 bytes 0. -/
def zeroKey : BitVec 384 := 0x2ae0852c1bd41747b4c1ec59af66bcf4da07887afe0585e130c5ebb2c0bccf742a2c0c10f8995e5056a6ea2b9d9f910a

/-- The fuse map of the module that State.reset describes: a GLD-192-880 with nothing bad (DESIGN CHOICE, assumption log). -/
def Fuses.plain : Fuses :=
  { capW := 880, point := 13, p1ms := 1150, p100ms := 1000, macBase := 0x020000000000, badSites := [], dram := [], tsv := [],
    linkLanes := [], meshLanes := [], chars := [], power := [], thermal := Vector.replicate 2 ThermFuse.typical,
    factors := [480, 500, 2050, 800, 8300], fwRoot := Vector.replicate 2 zeroKey, fwRevoked := 0, cartRoot := zeroKey }

end Sys2Proof.Machine
end

