-- ==== Sys2Proof/Machine/PowerState.lean ====
section
/-! DEFINITION. State of the Weir power controller, of the regulator banks, of the header switches and of Sluice (chapter "Power
delivery, domains and the Weir power controller"). -/

namespace Sys2Proof.Machine

/-- The condition of a regulator bank (R347, R357). -/
inductive BankPhase where
  | off | starting | up | latched
deriving DecidableEq, Repr

/-- A logical cluster as Weir drives it. Voltages are in 2.5 mV, cadences in 10 Mstep/s. -/
structure ClPower where
  pt : Nat
  /-- the cadence that the cluster's point allows now -/
  lim : Nat
  /-- the rail's voltage when it last settled, and its setpoint -/
  volt : Nat
  vset : Nat
  /-- the cadence to allow when the rail has settled (R337) -/
  raise : Option Nat
  cur : Nat
  latches : Nat
  /-- tick since which the usable top point is lowered (R350) -/
  lowered : Option Nat
  /-- ticks of over-current cuts of its bank within the last ms -/
  cuts : List Nat
  /-- compensation of worn bonds, and its value at the last record, in 0.1 mV (R391) -/
  bond : Nat
  bondTold : Nat
  /-- tick of Weir at the last comparison of its bonds (R391) -/
  bondAt : Nat
  /-- K of each phase 256 × slot + entry; none for K_INIT (R353) -/
  coef : Tab (Option Frac)
  /-- the one phase in flight since the period began; none where there was none or more than one -/
  only : Option Nat
deriving DecidableEq, Repr

def ClPower.init : ClPower :=
  { pt := 0, lim := 0, volt := 0, vset := 0, raise := none, cur := 0, latches := 0, lowered := none, cuts := [], bond := 0, bondTold := 0, bondAt := 0,
    coef := [], only := none }

/-- A header-switched domain (Table Power-3). -/
structure DomSt where
  state : DomainState
  /-- stages closed while ramping -/
  stage : Nat
  /-- times it has latched since the last cold reset -/
  latched : Nat
  /-- tick since which the site carries no bound tile (R343) -/
  idleAt : Option Nat
deriving DecidableEq, Repr

def DomSt.init : DomSt := { state := .off, stage := 0, latched := 0, idleAt := none }

/-- Weir, the R-layers and Sluice. -/
structure PwrSt where
  cls : Tab ClPower
  doms : Tab DomSt
  /-- power-on orders that wait (R344) -/
  orders : List DomainIx
  /-- banks, key 20 × half + bank -/
  banks : Tab BankPhase
  bankLatches : Tab Nat
  /-- rails at the lands within tolerance: VIN_W, VIN_E, VBSN, VPHY, VAON -/
  vin : Vector Bool 2
  vbsn : Bool
  /-- VBSN was lost while VAON held: its return is a cold reset (R452) -/
  vbsnLost : Bool
  vphy : Bool
  vaon : Bool
  /-- control of a half by R354 has begun (Table Power-8 step 6) -/
  ctl : Vector Bool 2
  /-- module input power of the last periods in mW, newest first; a period not listed counts at its window's limit -/
  hist : List Nat
  clMw : Nat
  lastBcl : Option Frac
  other : Nat
  vinCur : Vector Nat 2
  absent : Bool
  capLimited : Bool
  fixed : Bool
  refused : Bool
  broken : Bool
  departs : Nat
  alertAt : Option Nat
  derated : Bool
  sources : List CutSource
  /-- logical clusters under a cut -/
  cut : BitVec 32
  alertCuts : Nat
  ocCuts : Nat
  /-- the cap of the PLDM effecter; none for the fused cap -/
  pldmCap : Option Nat
  /-- CAP_EFF in mW as Weir last formed it -/
  capEff : Nat
  /-- characterisations repeated in the field, and when -/
  chars : Tab (Option SiteChar)
  charAt : Tab Nat
  /-- field ceilings (none: the fused one) and ageing shifts -/
  ceil : Tab (Option Nat)
  age : Tab (Option Frac)
  /-- sites reported under R340 -/
  told : List Nat
  /-- ticks of Weir at its last reading of the ring monitors and its last wear scores (R339, R341) -/
  ringAt : Nat
  wearAt : Nat
deriving DecidableEq, Repr

def PwrSt.init : PwrSt :=
  { cls := [], doms := [], orders := [], banks := [], bankLatches := [], vin := Vector.replicate 2 false, vbsn := false, vbsnLost := false, vphy := false,
    vaon := false, ctl := Vector.replicate 2 false, hist := [], clMw := 0, lastBcl := none, other := 0, vinCur := Vector.replicate 2 0,
    absent := false, capLimited := false, fixed := false, refused := false, broken := false, departs := 0, alertAt := none,
    derated := false, sources := [], cut := 0, alertCuts := 0, ocCuts := 0, pldmCap := none, capEff := 0, chars := [], charAt := [],
    ceil := [], age := [], told := [], ringAt := 0, wearAt := 0 }

end Sys2Proof.Machine
end

