-- ==== Sys2Proof/Machine/Exact.lean ====
section
/-! DEFINITION. Exact numbers (dyadics and quotients) and the one narrowing rule set of R86 with Table Formats-7: decode
exactly, compute exactly, round once. -/

namespace Sys2Proof.Machine

/-- The exact dyadic number m × 2^e. -/
structure Dy where
  m : Int
  e : Int
deriving DecidableEq, Repr

/-- m × 2^k for k ≥ 0. -/
def shl (m : Int) (k : Nat) : Int := m * (2 ^ k : Nat)

def Dy.zero : Dy := ⟨0, 0⟩

def Dy.ofInt (i : Int) : Dy := ⟨i, 0⟩

/-- Exact sum. -/
def Dy.add (a b : Dy) : Dy :=
  if a.m = 0 then b else if b.m = 0 then a else
  let e := min a.e b.e
  ⟨shl a.m (a.e - e).toNat + shl b.m (b.e - e).toNat, e⟩

def Dy.neg (a : Dy) : Dy := ⟨-a.m, a.e⟩

def Dy.sub (a b : Dy) : Dy := a.add b.neg

/-- Exact product. -/
def Dy.mul (a b : Dy) : Dy := ⟨a.m * b.m, a.e + b.e⟩

def Dy.abs (a : Dy) : Dy := ⟨a.m.natAbs, a.e⟩

/-- Sign of a − b as an integer with the same sign. -/
def Dy.cmp (a b : Dy) : Int := (a.sub b).m

def Dy.le (a b : Dy) : Bool := a.cmp b ≤ 0

def Dy.lt (a b : Dy) : Bool := a.cmp b < 0

def Dy.isZero (a : Dy) : Bool := a.m == 0

/-- A number after decoding: a finite real with its sign (−0 keeps it), an infinity, or NaN (R68). -/
inductive Val where
  | fin (neg : Bool) (d : Dy)
  | inf (neg : Bool)
  | nan
deriving DecidableEq, Repr

/-- The value as a signed dyadic, 0 where it is not finite. -/
def Val.dy : Val → Dy
  | .fin _ d => d
  | _ => Dy.zero

def Val.isFin : Val → Bool
  | .fin _ _ => true
  | _ => false

def Val.isNaN : Val → Bool
  | .nan => true
  | _ => false

def Val.isInf : Val → Bool
  | .inf _ => true
  | _ => false

/-- The sign of a value (false for NaN). -/
def Val.sgn : Val → Bool
  | .fin n _ => n
  | .inf n => n
  | .nan => false

def Val.zero : Val := .fin false Dy.zero

/-- A finite value of an exact dyadic; a zero takes the given sign. -/
def Val.ofDy (zeroNeg : Bool) (d : Dy) : Val :=
  if d.m = 0 then .fin zeroNeg Dy.zero else .fin (d.m < 0) d

/-- The value without its sign. -/
def Val.abs : Val → Val
  | .fin _ d => .fin false d.abs
  | .inf _ => .inf false
  | .nan => .nan

def Val.negate : Val → Val
  | .fin n d => .fin (!n) d.neg
  | .inf n => .inf (!n)
  | .nan => .nan

/-- Exact product of two values, with the IEEE 754 rules for infinities and signed zeros. -/
def Val.mul (a b : Val) : Val :=
  match a, b with
  | .nan, _ => .nan
  | _, .nan => .nan
  | .inf n, .inf m => .inf (n != m)
  | .inf n, .fin m d => if d.m = 0 then .nan else .inf (n != m)
  | .fin n d, .inf m => if d.m = 0 then .nan else .inf (n != m)
  | .fin n d, .fin m f => .fin (n != m) (d.mul f)

/-- Exact sum of two values; an exact zero sum of opposite signs is +0, of two −0 is −0. -/
def Val.add (a b : Val) : Val :=
  match a, b with
  | .nan, _ => .nan
  | _, .nan => .nan
  | .inf n, .inf m => if n = m then .inf n else .nan
  | .inf n, .fin _ _ => .inf n
  | .fin _ _, .inf m => .inf m
  | .fin n d, .fin m f => Val.ofDy (n && m) (d.add f)

def Val.sub (a b : Val) : Val := a.add b.negate

/-- A rounding direction (DW7[29:28], R33): nearest with ties to even, or toward zero. -/
inductive Rnd where
  | nearest
  | towardZero
deriving DecidableEq, Repr

def Rnd.ofField (r : Nat) : Rnd := if r = 1 then .towardZero else .nearest

/-- num / den rounded to an integer (`den` ≠ 0). -/
def roundDiv (r : Rnd) (num den : Nat) : Nat :=
  let q := num / den
  let rem := num % den
  match r with
  | .towardZero => q
  | .nearest => if 2 * rem < den then q else if den < 2 * rem then q + 1 else q + q % 2

/-- The floor of log2 (num / den), both positive. -/
def floorLog2 (num den : Nat) : Int :=
  let k : Int := (ilog2 num : Int) - ilog2 den
  -- 2^(k-1) < num/den < 2^(k+1)
  let ge := if 0 ≤ k then den * 2 ^ k.toNat ≤ num else den ≤ num * 2 ^ (-k).toNat
  if ge then k else k - 1

/-- A binary floating-point encoding of Table Formats-2. `maxCode` is the largest finite magnitude code. -/
structure FltFmt where
  mant : Nat
  bias : Nat
  maxCode : Nat
  infCode : Option Nat
  nanCode : Nat
  signBit : Option Nat
deriving DecidableEq, Repr

def fp32F : FltFmt := ⟨23, 127, 0x7F7FFFFF, some 0x7F800000, 0x7FC00000, some 31⟩
def fp16F : FltFmt := ⟨10, 15, 0x7BFF, some 0x7C00, 0x7E00, some 15⟩
def bf16F : FltFmt := ⟨7, 127, 0x7F7F, some 0x7F80, 0x7FC0, some 15⟩
def e4m3F : FltFmt := ⟨3, 7, 0x7E, none, 0x7F, some 7⟩
def e5m2F : FltFmt := ⟨2, 15, 0x7B, some 0x7C, 0x7E, some 7⟩
def e3m2F : FltFmt := ⟨2, 3, 0x1F, none, 0x20, some 5⟩
def e2m3F : FltFmt := ⟨3, 1, 0x1F, none, 0x20, some 5⟩
def e2m1F : FltFmt := ⟨1, 1, 0x7, none, 0x8, some 3⟩
def ue4m4F : FltFmt := ⟨4, 7, 0xFE, none, 0xFF, none⟩
def wf52F : FltFmt := ⟨40, 1023, 0x7FEFFFFFFFFFF, some 0x7FF0000000000, 0x7FF8000000000, some 51⟩

/-- The exact value of a magnitude code that is finite. -/
def FltFmt.magValue (f : FltFmt) (c : Nat) : Dy :=
  let e := c / 2 ^ f.mant
  let m := c % 2 ^ f.mant
  if e = 0 then ⟨m, (1 : Int) - f.bias - f.mant⟩
  else ⟨(m + 2 ^ f.mant : Nat), (e : Int) - f.bias - f.mant⟩

/-- R68, R69: the one value of an encoding. -/
def FltFmt.decode (f : FltFmt) (c : Nat) : Val :=
  let neg := match f.signBit with | some b => bit c b | none => false
  let mag := match f.signBit with | some b => c % 2 ^ b | none => c
  if mag ≤ f.maxCode then
    let d := f.magValue mag
    .fin neg (if neg then d.neg else d)
  else if f.infCode = some mag then .inf neg else .nan

def FltFmt.withSign (f : FltFmt) (neg : Bool) (mag : Nat) : Nat :=
  match f.signBit with
  | some b => mag + b2n neg * 2 ^ b
  | none => mag

/-- The magnitude code of num / den × 2^e rounded once without regard to the finite limit. -/
def FltFmt.roundMag (f : FltFmt) (r : Rnd) (num den : Nat) (e : Int) : Nat :=
  if num = 0 then 0 else
  let k := floorLog2 num den + e
  let qmin : Int := (1 : Int) - f.bias - f.mant
  let q := max (k - f.mant) qmin
  let s := e - q
  let n := if 0 ≤ s then roundDiv r (num * 2 ^ s.toNat) den
           else roundDiv r num (den * 2 ^ (-s).toNat)
  n + (q - qmin).toNat * 2 ^ f.mant

/-- A converted code with the format events it raised (R90). -/
structure Cv where
  code : Nat
  sat : Nat
  nan : Nat
deriving DecidableEq, Repr

/-- R86, Table Formats-7: a finite quotient num / den × 2^e of the given sign, rounded once. IEEE targets overflow to
infinity under RND 0 and to the largest finite value under RND 1; the FP8, FP6, FP4 and UE4M4 targets saturate. -/
def FltFmt.convQ (f : FltFmt) (r : Rnd) (neg : Bool) (num den : Nat) (e : Int) : Cv :=
  let mag := f.roundMag r num den e
  if mag ≤ f.maxCode then ⟨f.withSign neg mag, 0, 0⟩
  else
    let ieee := f.infCode.isSome && f.mant ≠ 2
    match ieee, r, f.infCode with
    | true, .nearest, some i => ⟨f.withSign neg i, 0, 0⟩
    | _, _, _ => ⟨f.withSign neg f.maxCode, 1, 0⟩

/-- R86: a value converted to a floating-point target. FP8-E4M3 and formats without infinity saturate an infinite
input; NaN becomes the canonical NaN. -/
def FltFmt.conv (f : FltFmt) (r : Rnd) (v : Val) : Cv :=
  match v with
  | .nan => ⟨f.nanCode, 0, 1⟩
  | .inf n =>
    match f.infCode with
    | some i => ⟨f.withSign n i, 0, 0⟩
    | none => ⟨f.withSign n f.maxCode, 1, 0⟩
  | .fin n d => f.convQ r n d.m.natAbs 1 d.e

/-- A value rounded into a format and decoded again. -/
def FltFmt.round (f : FltFmt) (r : Rnd) (v : Val) : Val := f.decode (f.conv r v).code

/-- R81: a value rounded into WF52, nearest with ties to even. -/
def rnW (v : Val) : Val := wf52F.round .nearest v

/-- A value rounded to FP32, nearest with ties to even (rn32 of R61, R126, R233). -/
def rn32 (v : Val) : Val := fp32F.round .nearest v

/-- The FP32 code of a value rounded to nearest. -/
def fp32Of (v : Val) : Nat := (fp32F.conv .nearest v).code

/-- R86, Table Formats-7: a value converted to an integer target of `n` bits, saturating; for the block elements
INT8 and INT4 the range is ±(2^(n−1) − 1) (`sym`), for INT32 the two's complement range. -/
def convInt (r : Rnd) (n : Nat) (sym : Bool) (v : Val) : Cv :=
  let hi : Int := (2 ^ (n - 1) : Nat) - 1
  let lo : Int := if sym then -hi else -(2 ^ (n - 1) : Nat)
  match v with
  | .nan => ⟨0, 0, 1⟩
  | .inf neg => ⟨tcode n (if neg then lo else hi), 1, 0⟩
  | .fin neg d =>
    let mag : Nat := if 0 ≤ d.e then d.m.natAbs * 2 ^ d.e.toNat else roundDiv r d.m.natAbs (2 ^ (-d.e).toNat)
    let i : Int := if neg then -(mag : Int) else mag
    if hi < i then ⟨tcode n hi, 1, 0⟩ else if i < lo then ⟨tcode n lo, 1, 0⟩ else ⟨tcode n i, 0, 0⟩

/-- The integer nearest to a quotient under RND, saturated to ±`hi` (block elements of Table Formats-7). -/
def convIntQ (r : Rnd) (n hi : Nat) (neg : Bool) (num den : Nat) (e : Int) : Cv :=
  let mag := if 0 ≤ e then roundDiv r (num * 2 ^ e.toNat) den else roundDiv r num (den * 2 ^ (-e).toNat)
  let m' := Nat.min mag hi
  ⟨tcode n (if neg then -(m' : Int) else m'), b2n (hi < mag), 0⟩

end Sys2Proof.Machine
end

