-- ==== Sys2Proof/Machine/ThermState.lean ====
section
/-! DEFINITION. State of the sensors, the Onion model, throttling and the trip (chapter "Thermal sensing, the Onion model and
cooling faults"). -/

namespace Sys2Proof.Machine

/-- A sensor's place in a list of all 5,503. -/
def senKey : SensorId → Nat
  | .logic x i => 2 * x.val + i.val
  | .dram x l => 1088 + 8 * x.val + l.val
  | .rlayer h b => 5440 + 19 * h.val + b.val
  | .basin i => 5478 + i.val

/-- A sensor: its reading in 0.125 °C (none: withheld for want of one), periods for which it has been withheld for its difference, its suspect mark,
and its hardwired limit in force (stage 5). -/
structure SenSt where
  reading : Option Int
  off : Nat
  suspect : Bool
  hard : Bool
  /-- the difference in 0.125 K when it was last withheld -/
  diff : Nat
deriving DecidableEq, Repr

def SenSt.init : SenSt := { reading := none, off := 0, suspect := false, hard := false, diff := 0 }

/-- The thermal-interface estimate of a half (R370): values over steady intervals with their ticks, the baseline's sum and count, its
start, and the marks set. Values are in 0.1 mK/W. -/
structure TimSt where
  vals : List (Nat × Nat)
  baseSum : Nat
  baseN : Nat
  base : Option Nat
  warn : Bool
  alarm : Bool
deriving DecidableEq, Repr

def TimSt.init : TimSt := { vals := [], baseSum := 0, baseN := 0, base := none, warn := false, alarm := false }

/-- The trip record (THM_TRIP_). -/
structure TripRec where
  word : Nat
  time : Nat
deriving DecidableEq, Repr

/-- The thermal part. -/
structure Therm where
  sens : Tab SenSt
  /-- T̂ of node n (0 R-layer, 1 site, 2–9 M1–M8, 10 cap) of column x, key 11 × x + n, in °C -/
  hat : Tab Dy
  /-- periods the model has run since it started -/
  ran : Nat
  /-- Weir has run again since it was absent: nodes with a sensor in use start from its reading (R369) -/
  resync : Bool
  blind : List Nat
  /-- logic control temperatures of the last second of each site, newest first -/
  past : Tab (List Dy)
  /-- inlet, outlet in 0.5 °C, flow in 0.1 L/s; the tick of the last valid tray reading -/
  tray : TrayReading
  trayAt : Option Nat
  trayLost : Bool
  /-- f_in in 10 Mstep/s (none: no limit), T_eff in 0.5 °C at which it was formed, and when -/
  fIn : Option Nat
  fInT : Nat
  fInAt : Option Nat
  inletHigh : Bool
  /-- 160 less f_tile of each logical tile, in 10 Mstep/s -/
  drop : Tab Nat
  /-- periods for which a tile has been held at the floor, hot -/
  floor : Tab Nat
  throttled : Nat
  rcs : Vector TimSt 2
  tripped : Bool
  trip : Option TripRec
  /-- the tick at which the always-on region came up -/
  startAt : Nat
  /-- the sideband I3C clock is lost (R458) -/
  sideLost : Bool
deriving DecidableEq, Repr

def Therm.init : Therm :=
  { sens := [], hat := [], ran := 0, resync := false, blind := [], past := [], tray := { inlet := 0, outlet := 0, flow := 0 }, trayAt := none,
    trayLost := true, fIn := none, fInT := 90, fInAt := none, inletHigh := false, drop := [], floor := [], throttled := 0,
    rcs := Vector.replicate 2 TimSt.init, tripped := false, trip := none, startAt := 0, sideLost := false }

end Sys2Proof.Machine
end

