-- ==== Sys2Proof/Machine/LkkState.lean ====
section
/-! DEFINITION. State of Lockkeeper: bring-up, resets, migrations, the repair record, firmware slots and the management endpoint
(chapters "Errors, reporting and field repair", "Bring-up, partial resets and live update" and "Trust, attestation, tamper and
out-of-band management"). -/

namespace Sys2Proof.Machine

-- Migration ----------------------------------------------------------------------------------------------------------

/-- STATE of BSN_MIG_STATUS. -/
inductive MigState where
  | idle | copy | cutover | done | failed
deriving DecidableEq, Repr

def MigState.code : MigState → Nat
  | .idle => 0
  | .copy => 1
  | .cutover => 2
  | .done => 3
  | .failed => 4

/-- The migration of a half: the current or last one (R393). -/
structure Mig where
  state : MigState
  tile : TileId
  src : SiteIx
  dst : SiteIx
  /-- the spare has passed its test and the copy runs -/
  copying : Bool
  rows : Nat
  /-- the old site is dead (R395) -/
  dead : Bool
  /-- the tile is already mapped to the spare: a copy that a reset restarted (Table Errors-10) -/
  mapped : Bool
  /-- tick of the cut-over -/
  cutAt : Nat
  /-- the code of the record that ordered it; 0 for an order of the host (R392) -/
  cause : Nat
  /-- slots that the copy has taken of the present eight (COPY_SHARE) -/
  took : Nat
deriving DecidableEq, Repr

def Mig.init : Mig :=
  { state := .idle, tile := 0, src := 0, dst := 0, copying := false, rows := 0, dead := false, mapped := false, cutAt := 0,
    cause := 0, took := 0 }

-- The repair record --------------------------------------------------------------------------------------------------

/-- What the repair record holds (R399). -/
structure RepairBody where
  bad : List SiteIx
  /-- the code of the record for which a site is bad -/
  causes : Tab Nat
  /-- repair entries with SOURCE 1: site, key as in the column's table, word -/
  rows : List (SiteIx × Nat × Word)
  cols : List (SiteIx × Nat × Word)
  lanes : List (SiteIx × Nat × LaneSt)
  /-- spare rows and spare byte columns marked bad -/
  spares : List (SiteIx × List Nat × List Nat)
  ceil : Tab (Option Nat)
  age : Tab (Option Frac)
  suspects : List SensorId
  blind : List Nat
  trip : Option TripRec
  bond : Tab Nat
deriving DecidableEq, Repr

def RepairBody.init : RepairBody :=
  { bad := [], causes := [], rows := [], cols := [], lanes := [], spares := [], ceil := [], age := [], suspects := [], blind := [], trip := none, bond := [] }

/-- A copy of the record in persistent memory (R400). -/
structure RecCopy where
  gen : Nat
  ok : Bool
  body : RepairBody
deriving DecidableEq, Repr

-- Resets -------------------------------------------------------------------------------------------------------------

/-- A reset in progress (Table Bringup-4): LEVEL 1 cluster, 2 half compute, 3 compute, 4 Basin; the clusters in its scope; CLEAR; its
cause; and whether reset has been asserted. -/
structure ResetSt where
  level : Nat
  scope : BitVec 32
  clear : Bool
  cause : Nat
  asserted : Bool
deriving DecidableEq, Repr

-- Firmware -----------------------------------------------------------------------------------------------------------

/-- A checked image in a slot: its header fields (Table Bringup-6), its SVN and its digest. -/
structure FwInfo where
  version : Nat
  bundle : Nat
  compatMin : Nat
  descMin : Nat
  descN : Nat
  imgMin : Nat
  imgN : Nat
  clvlMin : Nat
  clvlN : Nat
  svn : Nat
  digest : BitVec 384
deriving DecidableEq, Repr

/-- An updatable component (LKK_FW_n). -/
structure Comp where
  a : Option FwInfo
  b : Option FwInfo
  activeB : Bool
  bootB : Bool
  /-- the inactive slot holds an image that is staged -/
  staged : Bool
  trial : Bool
  staging : Bool
deriving DecidableEq, Repr

/-- The images of manufacture (DESIGN CHOICE, assumption log): bundle 1, levels as this bundle speaks them. -/
def FwInfo.factory (comp : Nat) : FwInfo :=
  { version := 0x01000000, bundle := 1, compatMin := 1, descMin := if comp = 3 then 1 else 0, descN := if comp = 3 then 2 else 0
    imgMin := if comp = 3 then 1 else 0, imgN := if comp = 3 then 2 else 0, clvlMin := if comp = 5 then 1 else 0
    clvlN := if comp = 5 then 2 else 0, svn := 0, digest := 0 }

def Comp.factory (comp : Nat) : Comp :=
  { a := some (FwInfo.factory comp), b := none, activeB := false, bootB := false, staged := false, trial := false, staging := false }

/-- What an activation or a revert carries while it takes time: components switched, components still to switch, those that fail their switch or
their self-test, whether the mailbox waits (else PLDM), whether it is a revert, and the tick since which its event is awaited. -/
structure SwitchRun where
  done : List Nat
  rest : List Nat
  fails : List Nat
  mbx : Bool
  revert : Bool
  since : Nat
deriving DecidableEq, Repr

/-- An operation that takes time: staging of a component by FW_STAGE with its host address and length, an activation that waits for the
launches in flight before the TILE switch (R414) or for the collective operations in flight before the COLL switch (R413), and a core handover (R419): one that boots a new LKK image, and one ordered by
LKK_HANDOVER. -/
inductive FwOp where
  | stage (comp addr len : Nat)
  | drain (r : SwitchRun)
  | quiet (r : SwitchRun)
  | newImage (r : SwitchRun)
  | handover
deriving DecidableEq, Repr

/-- A trial (R416): the components switched, when it began, and whether PLDM or a revert began it. -/
structure Trial where
  comps : List Nat
  since : Nat
  pldm : Bool
  revert : Bool
deriving DecidableEq, Repr

/-- A PLDM firmware update (Table Trust-11): the components named and still to come, the bytes received of the one under way, and the result. -/
structure PldmUpd where
  comps : List Nat
  got : Nat
  done : List Nat
  /-- 1 learn components, 2 download, 3 staged, 4 activated, 5 committed, 6 failed -/
  state : Nat
deriving DecidableEq, Repr

-- Lockkeeper ---------------------------------------------------------------------------------------------------------

/-- MODE of LKK_STATUS. -/
inductive LkkMode where
  | lockstep | single | handover | restart | stopped
deriving DecidableEq, Repr

def LkkMode.code : LkkMode → Nat
  | .lockstep => 0
  | .single => 1
  | .handover => 2
  | .restart => 3
  | .stopped => 4

/-- A code bank pair of a channel root or R-layer controller: bank in use, and what each holds (0: nothing). -/
structure CodeBanks where
  bank : Nat
  a : Nat
  b : Nat
deriving DecidableEq, Repr

def CodeBanks.init : CodeBanks := { bank := 0, a := 0, b := 0 }

/-- Work of Lockkeeper that waits while it does not run (R421, Table Bringup-9): an order of BSN_MIG_CTRL, the steps of a migration, a cartridge's
PREPARE, CANCEL and authentication, and the enumeration of tier-2 devices. -/
inductive LkkWork where
  | migrate (t : TileId)
  | spare (h : HalfId) (ok : Bool)
  | copied (h : HalfId)
  | stateCopied (h : HalfId)
  | prepare (k : CartId) (force : Bool)
  | cancel (k : CartId)
  | checked (k : CartId) (r : CartCheck)
  | tier2 (caps : List Nat)
deriving DecidableEq, Repr

/-- Lockkeeper and what it governs. -/
structure Lkk where
  bootStage : Nat
  mode : LkkMode
  activeB : Bool
  clkLost : Bool
  fallback : Bool
  shed : Nat
  load : Nat
  /-- windows in a row in which the load stayed below the exit level of shedding levels 1 to 3 -/
  calm : Vector Nat 3
  /-- each core passed its last self-test (R418) -/
  coreA : Bool
  coreB : Bool
  faultN : Bool
  /-- a boot fallback has failed, or a record of severity 4 has been committed: FAULT_N stays low until the next cold reset -/
  faultHeld : Bool
  comps : Tab Comp
  op : Option FwOp
  trial : Option Trial
  upd : Option PldmUpd
  /-- LKK_MBX_RSP -/
  rsp : Nat
  copyA : RecCopy
  copyB : RecCopy
  genNow : Nat
  /-- the repair record as it stands, the last one written, and whether the copies are stale -/
  bad : List SiteIx
  causes : Tab Nat
  written : RepairBody
  stale : Bool
  rst : Option ResetSt
  refused : Bool
  lastLevel : Nat
  lastCause : Nat
  mig : Vector Mig 2
  /-- migrations that wait, in the order of their records: tile, whether its site is dead, and the code of the record -/
  migWait : List (TileId × Bool × Nat)
  /-- migrations that a reset or a fence has abandoned, and that restart with the half: tile, old site, spare -/
  migHeld : List (TileId × SiteIx × SiteIx)
  /-- ticks of Lockkeeper at the last field self-test of a tile and at the last writing of the repair record (R389, R400) -/
  testAt : Tab Nat
  recAt : Nat
  /-- the main reset state of the Basin core: it has left reset (Table Bringup-1 step 9) -/
  basinUp : Bool
  chroot : Tab CodeBanks
  rlayer : Tab CodeBanks
  /-- nodes that answered a CHECK wrongly, with the sendings left (R407); key of the kind of node and site -/
  retries : Tab Nat
  /-- PLDM events that wait: severity and bytes; events dropped since the last one sent (R441) -/
  events : List (Nat × List Byte)
  dropped : Nat
  /-- the first of them has been sent and is not acknowledged -/
  evSent : Bool
  eid : Vector (Option Byte) 2
  /-- work that waits until Lockkeeper runs, in the order in which it came -/
  work : List LkkWork
  /-- values of the PLDM sensors when telemetry stopped (R420) -/
  sensHeld : List (Option (List Int))
deriving DecidableEq, Repr

def Lkk.init : Lkk :=
  { bootStage := 0, mode := .lockstep, activeB := false, clkLost := false, fallback := false, shed := 0, load := 0, calm := Vector.replicate 3 0
    coreA := true, coreB := true, faultN := false, faultHeld := false, comps := (List.range 10).map (fun k => (k + 1, Comp.factory (k + 1))), op := none, trial := none
    upd := none, rsp := 0, copyA := { gen := 0, ok := true, body := RepairBody.init }
    copyB := { gen := 0, ok := true, body := RepairBody.init }, genNow := 0, bad := [], causes := [], written := RepairBody.init, stale := false
    rst := none, refused := false, lastLevel := 0, lastCause := 0, mig := Vector.replicate 2 Mig.init, migWait := [], migHeld := [], testAt := [], recAt := 0, basinUp := false
    chroot := [], rlayer := [], retries := [], events := [], dropped := 0, evSent := false, eid := Vector.replicate 2 none, work := [], sensHeld := [] }

end Sys2Proof.Machine
end

