-- ==== Sys2Proof/Machine/NetState.lean ====
section
/-! DEFINITION. State of the Ethernet ports, the queue pairs, the collective engine, the PTP clock and the light cartridges
(chapter "Ethernet ports, optics and light cartridges"). -/

namespace Sys2Proof.Machine

/-- A network work request (R306, R308): a SEND, or an RDMA WRITE with or without an immediate; once sent, its first PSN and
the number of its packets. -/
structure WorkReq where
  write : Bool
  imm : Option Nat
  va : Nat
  rkey : Nat
  bytes : List Byte
  psn : Nat
  packets : Nat
  /-- the KV_EXPORT it belongs to -/
  export_ : Option (CtxId × Nat)
deriving DecidableEq, Repr

/-- The rate limiter of a queue pair (R310), in Mb/s. -/
structure RateSt where
  rc : Dy
  rt : Dy
  alpha : Dy
  stage : Nat
deriving DecidableEq, Repr

/-- A queue pair: its 64-byte record (Table Net-2) and what the device keeps beside it. -/
structure Qp where
  rcd : Nat
  out : List WorkReq
  wait : List WorkReq
  /-- oldest unacknowledged PSN -/
  una : Nat
  tries : Nat
  sentAt : Nat
  rnr : Option Nat
  rate : RateSt
  /-- ticks of the last CNP or rate step, and of the last CNP sent -/
  incAt : Nat
  cnpSent : Option Nat
  /-- a NAK for a PSN out of sequence is outstanding -/
  nakSent : Bool
  /-- bytes received for the collective engine that it has not taken (R307, R311) -/
  rx : Nat
deriving DecidableEq, Repr

def RateSt.init : RateSt := { rc := Dy.zero, rt := Dy.zero, alpha := Dy.zero, stage := 0 }

def Qp.init : Qp :=
  { rcd := 0, out := [], wait := [], una := 0, tries := 0, sentAt := 0, rnr := none, rate := RateSt.init, incAt := 0,
    cnpSent := none, nakSent := false, rx := 0 }

/-- A HELLO heard from a member: its rank and levels (R316). -/
structure Heard where
  rank : Nat
  min : Nat
  max : Nat
deriving DecidableEq, Repr

/-- A collective group (Table Net-3). -/
structure CollGroup where
  gstate : Nat
  rank : Nat
  n : Nat
  level : Nat
  udq : Nat
  gid : Nat
  /-- member entries: QP in bits 12:0, VALID in bit 15, UD_QPN in bits 39:16 -/
  members : Tab Nat
  heard : List Heard
  helloAt : Nat
deriving DecidableEq, Repr

def CollGroup.init : CollGroup :=
  { gstate := 0, rank := 0, n := 0, level := 0, udq := 0, gid := 0, members := [], heard := [], helloAt := 0 }

/-- A tile that contributes to an operation (R318). -/
structure Contrib where
  idx : Nat
  tile : TileId
  sem : Nat
  retSd : Nat
  statusSd : Nat
deriving DecidableEq, Repr

/-- A collective operation in flight (R319–R322). Elements are codes of DTYPE in slices and gathers, FP32 codes in chunks. -/
structure CollOp where
  group : GroupId
  opSeq : Nat
  op : Nat
  bf16 : Bool
  localN : Nat
  elems : Nat
  root : Nat
  /-- tick of its first slice -/
  since : Option Nat
  contribs : List Contrib
  slices : List (Nat × Nat × List Nat)
  partials : List (Nat × List Nat)
  results : List (Nat × List Nat)
  sent : List Nat
  /-- contributions of each rank in an ALLGATHER -/
  gathers : List (Nat × List Nat)
deriving DecidableEq, Repr

/-- A slice that waits for an operation to end (R322). -/
structure HeldSlice where
  tile : TileId
  hdr : BitVec 256
  elems : List Byte
deriving DecidableEq, Repr

/-- An Ethernet port. -/
structure Port where
  up : BitVec 2
  dark : Bool
  clkLost : Bool
  locked : BitVec 8
  fecUncorr : Nat
  rxDrop : Nat
  /-- per priority, the tick at which a received pause runs out -/
  pause : Vector (Option Nat) 8
  /-- priorities on which this port has paused its peer (R311) -/
  sentPause : BitVec 8
deriving DecidableEq, Repr

def Port.init : Port :=
  { up := 0, dark := false, clkLost := false, locked := 0, fecUncorr := 0, rxDrop := 0, pause := Vector.replicate 8 none, sentPause := 0 }

/-- The IEEE 1588 slave clock (R313, R314). -/
structure PtpSt where
  valid : Bool
  locked : Bool
  offset : Int
  /-- tick since which the offset has stayed within ±100 ns -/
  inSince : Option Nat
  clkLost : Bool
  /-- PTP time less the always-on timestamp, in ns -/
  adj : Int
deriving DecidableEq, Repr

def PtpSt.init : PtpSt := { valid := false, locked := false, offset := 0, inSince := none, clkLost := false, adj := 0 }

/-- States of a cartridge (Table Net-9). -/
inductive CState where
  | absent | checking | rejected | serving | draining | removeOk | failed
deriving DecidableEq, Repr

def CState.code : CState → Nat
  | .absent => 0
  | .checking => 1
  | .rejected => 2
  | .serving => 3
  | .draining => 4
  | .removeOk => 5
  | .failed => 6

/-- A light cartridge. Outputs are in mW × 1,000. -/
structure Cart where
  cstate : CState
  present : Bool
  rated : Nat
  pmax : Nat
  /-- setpoint as a percentage of P_R -/
  drive : Nat
  boost : Bool
  output : Nat
  /-- telemetry: output of each line, drive current, laser temperature (R329) -/
  lines : List Nat
  current : Nat
  temp : Int
  onHours : Nat
  driveHours : Nat
  /-- ticks served since the counters were last brought up to date, and the share of an hour not yet counted (in µs) -/
  servedFrom : Nat
  onRest : Nat
  driveRest : Nat
  samples : List (Nat × Nat)
  eolHours : Nat
  eolWarn : Bool
  readAt : Nat
  wroteAt : Nat
  fitAt : Nat
  /-- life counters as written into the cartridge's own memory -/
  memOn : Nat
  memDrive : Nat
  /-- it served across a Basin reset and must be authenticated again (R333) -/
  recheck : Bool
deriving DecidableEq, Repr

def Cart.init : Cart :=
  { cstate := .absent, present := false, rated := 0, pmax := 0, drive := 0, boost := false, output := 0, lines := [], current := 0, temp := 0, onHours := 0,
    driveHours := 0,
    servedFrom := 0, onRest := 0, driveRest := 0, samples := [], eolHours := 0, eolWarn := false, readAt := 0, wroteAt := 0, fitAt := 0,
    memOn := 0, memDrive := 0, recheck := false }

/-- Ports, queue pairs, collective engine, PTP clock and cartridges. -/
structure Net where
  ports : Vector Port 16
  qps : Tab Qp
  groups : Tab CollGroup
  ops : List CollOp
  held : List HeldSlice
  /-- operations that a malformed slice named before they began (R323) -/
  doomed : List (GroupId × Nat)
  opsFailed : Nat
  msgDropped : Nat
  ptp : PtpSt
  carts : Vector Cart 4
  refused : Bool
  cartClkLost : Bool
deriving DecidableEq, Repr

def Net.init : Net :=
  { ports := Vector.replicate 16 Port.init, qps := [], groups := [], ops := [], held := [], doomed := [], opsFailed := 0,
    msgDropped := 0, ptp := PtpSt.init, carts := Vector.replicate 4 Cart.init, refused := false, cartClkLost := false }

end Sys2Proof.Machine
end

