-- ==== Sys2Proof/Machine/ServiceState.lean ====
section
/-! DEFINITION. State of the token service engine, the KV page store and the Barge: model slots, requests, sequences, groups,
launches and page moves (chapters "The token service" and "Near-bank attention and the KV page store"). -/

namespace Sys2Proof.Machine

/-- A GENERATE under way (R212). -/
structure GenReq where
  ctx : CtxId
  dsn : Nat
  prio : Nat
  method : Nat
  logprob : Bool
  ignoreEos : Bool
  holdKv : Bool
  cont : Bool
  reportEvery : Nat
  model : Nat
  nalt : Nat
  topK : Nat
  tag : Nat
  promptAddr : Nat
  promptLen : Nat
  maxNew : Nat
  outAddr : Nat
  temp : Nat
  topP : Nat
  minP : Nat
  contSeq : Nat
  seed : Nat
  /-- prompt bytes read so far -/
  got : List Byte
  ready : Bool
  /-- tick since which it waits, and the classes it has gained by ageing (R225) -/
  since : Nat
  bump : Nat
deriving DecidableEq, Repr

/-- A group of a sequence (R137): its GE, and the pages still to move. -/
structure Group where
  pos0 : Nat
  tile : TileId
  base : Nat
  gst : Nat
  poison : Bool
  spill : Nat
  left : Nat
  /-- pages that held an uncorrectable sector when they left the stack (R150) -/
  bad : List Nat
deriving DecidableEq, Repr

/-- Service rows of a tile that hold a local group list (R138). -/
structure ListRows where
  tile : TileId
  row : Nat
  rows : Nat
  count : Nat
deriving DecidableEq, Repr

/-- Where a sequence stands in Table Service-13; SUSPENDED is told by KST. -/
inductive SeqPhase where
  | prefill | decode | held
deriving DecidableEq, Repr

/-- A sequence slot in use: its SKD (R136) and its request. -/
structure Seq where
  gen : Nat
  ctx : CtxId
  model : Nat
  phase : SeqPhase
  kst : Nat
  tokens : Nat
  lastToken : Nat
  /-- tokens to be processed, and the position of the first of them -/
  input : List Nat
  inputPos : Nat
  fed : Nat
  req : Option GenReq
  count : Nat
  prio : Nat
  order : Nat
  groups : List Group
  lists : List ListRows
  /-- page-table blocks: tile and row -/
  blocks : List (TileId × Nat)
  /-- launches in flight that hold a row of the sequence -/
  inLaunch : Nat
  /-- an END decided while a launch is in flight (R219) -/
  ending : Option Nat
  /-- an allocation waits since a tick (R143) -/
  waitFrom : Option Nat
  since : Nat
  bump : Nat
  /-- an export or an import is under way -/
  exporting : Bool
deriving DecidableEq, Repr

/-- A RUN_GRAPH under way (R238). -/
structure GraphReq where
  ctx : CtxId
  dsn : Nat
  prio : Nat
  entry : Nat
  inAddr : Nat
  inLen : Nat
  outCap : Nat
  outAddr : Nat
  tag : Nat
  got : List Byte
  ready : Bool
  cancelled : Bool
  since : Nat
  bump : Nat
deriving DecidableEq, Repr

/-- A launch record of an entry (Table Service-5). -/
structure LaunchRec where
  vtile : Nat
  stream : StreamId
  start : Nat
  semClear : Nat
  template : List Byte
deriving DecidableEq, Repr

/-- An entry of an image (Table Service-4). -/
structure Entry where
  num : Nat
  kind : Nat
  maxBatch : Nat
  nslice : Nat
  inVt : Nat
  inOff : Nat
  inMax : Nat
  outVt : Nat
  outOff : Nat
  outMax : Nat
  recs : List LaunchRec
deriving DecidableEq, Repr

/-- A section entry (Table Service-2). -/
structure Section where
  styp : Nat
  vtile : Nat
  off : Nat
  len : Nat
  dest : Nat
deriving DecidableEq, Repr

/-- A KVREGION section. -/
structure KvRegion where
  vtile : Nat
  start : Nat
  stop : Nat
  landSlices : Nat
  laStart : Nat
  laEnd : Nat
deriving DecidableEq, Repr

/-- A rotation set: its members as virtual tiles, the active one's place, and a switch that waits (R230). -/
structure RotSet where
  members : List Nat
  active : Nat
  next : Option Nat
deriving DecidableEq, Repr

/-- The header of an image (Table Service-1) with its section table. -/
structure Image where
  level : Nat
  id : Nat
  vtiles : Nat
  span : Bool
  vocab : Nat
  layers : Nat
  heads : Nat
  dcode : Nat
  kv8 : Bool
  eos : List Nat
  len : Nat
  prefill : Nat
  decode : Nat
  nentry : Nat
  layout : Nat
  sections : List Section
deriving DecidableEq, Repr

/-- Where a model slot stands in Table Service-7. -/
inductive ModelPhase where
  | empty | reading | zeroing | copying | loaded | unloading
deriving DecidableEq, Repr

/-- The descriptor that loads or unloads a slot. -/
structure ModelOp where
  ctx : CtxId
  dsn : Nat
  tag : Nat
  /-- host address and length of an image that is read, and how much of it reads have brought -/
  addr : Nat := 0
  len : Nat := 0
  got : Nat := 0
deriving DecidableEq, Repr

/-- A model slot. -/
structure ModelSlot where
  phase : ModelPhase
  op : Option ModelOp
  img : Option Image
  raw : List Byte
  entries : List Entry
  kvs : List KvRegion
  bind : List TileId
  failed : Bool
  launchSeq : Nat
  /-- the last launches, newest first: true for prefill and RUN_GRAPH (R224) -/
  recent : List Bool
  rots : List RotSet
  graphs : List GraphReq
  startCl : Nat
deriving DecidableEq, Repr

def ModelSlot.init : ModelSlot :=
  { phase := .empty, op := none, img := none, raw := [], entries := [], kvs := [], bind := [], failed := false,
    launchSeq := 0, recent := [], rots := [], graphs := [], startCl := 0 }

/-- The KV region of a tile divided under R119: rows by index in the column, groups by their BASE. -/
structure KvTile where
  model : Nat
  srvRow : Nat
  srvRows : Nat
  srvUsed : List Nat
  landBase : Nat
  landSlices : Nat
  landUsed : List Nat
  total : Nat
  free : List Nat
  /-- groups freed that wait for launches, and groups being zero-filled (R140) -/
  freed : List Nat
  filling : List Nat
deriving DecidableEq, Repr

/-- A batch row of a launch (R227). -/
structure Row where
  seq : SeqSlot
  gen : Nat
  pos : Nat
  ntok : Nat
  token : Nat
  sample : Option (ClusterId × Nat)
deriving DecidableEq, Repr

/-- Landing work of a launch on a tile (R148): the next layer to copy, and for each layer under way the pages left. -/
structure LandJob where
  tile : TileId
  next : Nat
  ready : Fin 32
  free : Fin 32
  slices : List Nat
  /-- T2 groups landed: sequence slot and POS0 -/
  groups : List (SeqSlot × Nat)
  left : List (Nat × Nat)
deriving DecidableEq, Repr

/-- A fault of a launch as the engine received it. -/
structure LaunchFault where
  tile : TileId
  cause : Nat
  extra : Nat
deriving DecidableEq, Repr

/-- A launch in flight. -/
structure Launch where
  tag : BitVec 16
  model : ModelSlotId
  entry : Nat
  kind : Nat
  rows : List Row
  graph : Option GraphReq
  /-- the record of its RUN_GRAPH is already made (R209) -/
  told : Bool
  /-- streams that have not reported END -/
  streams : List (TileId × StreamId)
  packets : List (TileId × LaunchPkt)
  names : List (TileId × Nat)
  /-- recorded header COUNT of pages it appends to: tile, page index, COUNT (R229) -/
  counts : List (TileId × Nat × Nat)
  fault : Option LaunchFault
  parity : Nat
  /-- the tile of its last SCRATCH_PARITY faults in a row, and their number (R53) -/
  parityAt : Option (TileId × Nat)
  chk : Nat
  land : List LandJob
  /-- parameters of its sampler slots, for a replay (R232) -/
  arms : List (ClusterId × Nat × ArmParams)
deriving DecidableEq, Repr

/-- What a page move does (R147–R149, R237). -/
inductive MoveKind where
  | swapOut | swapIn | spill | t2Return | export_ | import_
  | landing (tag : BitVec 16) (layer slice : Nat)
deriving DecidableEq, Repr

/-- A 16 KiB page move that waits or is under way in a Barge queue. -/
structure Move where
  port : BargePort
  cls : Nat
  kind : MoveKind
  seq : SeqSlot
  gen : Nat
  pos0 : Nat
  page : Nat
  since : Nat
  /-- bytes that reads of host memory have brought of the page -/
  got : Nat := 0
deriving DecidableEq, Repr

/-- A KV export under way: where its image goes (R237). -/
structure Export where
  ctx : CtxId
  dsn : Nat
  tag : Nat
  seq : SeqSlot
  dest : Nat
  addr : Nat
  qpn : Nat
  rkey : Nat
  release : Bool
  left : Nat
  bytes : Nat
  /-- everything is read; only acknowledgements of the responder are awaited (DEST 1) -/
  waiting : Bool
deriving DecidableEq, Repr

/-- A KV import that waits for groups. -/
structure Import where
  ctx : CtxId
  dsn : Nat
  tag : Nat
  prio : Nat
  model : Nat
  /-- host address of the image -/
  addr : Nat
  seq : Option SeqSlot
  img : List Byte
  /-- pages still to be moved, once every group is allocated (R149) -/
  left : Option Nat
deriving DecidableEq, Repr

/-- An RDMA WRITE of an export that its queue pair has still to send (R237). -/
structure RdmaMsg where
  ctx : CtxId
  dsn : Nat
  qpn : Nat
  rkey : Nat
  va : Nat
  bytes : List Byte
deriving DecidableEq, Repr

/-- Which row of which launch a sampler slot serves. -/
structure SlotOwner where
  cluster : ClusterId
  slot : Nat
  launch : BitVec 16
  seq : SeqSlot
  gen : Nat
deriving DecidableEq, Repr

/-- The token service engine and the Barge. -/
structure Svc where
  queue : List GenReq
  seqs : Tab (Option Seq)
  gens : Tab Nat
  models : Tab ModelSlot
  launches : List Launch
  kv : Tab (Option KvTile)
  moves : List Move
  exports : List Export
  imports : List Import
  rdma : List RdmaMsg
  /-- moves served on each port since its last class 2 move (R149) -/
  since2 : Vector Nat 2
  /-- swap space in use: context, offset and length in units of 16 KiB (R269) -/
  swap : List (CtxId × Nat × Nat)
  /-- tier-2 memory in use: device address and length -/
  t2Used : List (Nat × Nat)
  /-- tier-2 writes without their NDR: sequence slot, POS0, requests left -/
  t2Acks : List (SeqSlot × Nat × Nat)
  credits : Tab Nat
  lastCtx : Vector Nat 4
  /-- the context admitted last in each class -/
  admLast : Vector Nat 4
  /-- wear scores that Weir has supplied, by physical site, and the tick of the last rotation (R230) -/
  wear : Tab Nat
  rotAt : Nat
  ctxData : Tab Nat
  arms : List (ClusterId × Nat × ArmParams)
  owners : List SlotOwner
  /-- rows to be released when no launch holds the sequence: tile, row, rows, sequence slot, generation -/
  rowsLater : List (TileId × Nat × Nat × SeqSlot × Nat)
  reclaiming : Bool
  /-- MODE at the start of the reclaim in progress (R142) -/
  spillMode : Bool
  tagNext : Nat
  orderNext : Nat
  launchFaults : Nat
  replays : Nat
  poisonMoves : Nat
  t2Fallbacks : Nat
  /-- new launches are held on every slot for a TILE microcode switch (R414) -/
  holdAll : Bool
  /-- ticks at which tokens were delivered within the last second, newest first (Table Trust-9, sensor 7) -/
  tokAt : List Nat
deriving DecidableEq, Repr

def Svc.init : Svc :=
  { queue := [], seqs := [], gens := [], models := [], launches := [], kv := [], moves := [], exports := [], imports := [], rdma := [], since2 := Vector.replicate 2 0,
    swap := [], t2Used := [], t2Acks := [], credits := [], lastCtx := Vector.replicate 4 0,
    admLast := Vector.replicate 4 0, wear := [], rotAt := 0, ctxData := [], arms := [],
    owners := [], rowsLater := [], reclaiming := false, spillMode := false, tagNext := 0, orderNext := 0, launchFaults := 0, replays := 0,
    poisonMoves := 0, t2Fallbacks := 0, holdAll := false, tokAt := [] }

end Sys2Proof.Machine
end

