-- ==== Sys2Proof/Machine/DevState.lean ====
section
/-! DEFINITION. The device but for its time, its fuses, its security block and its error aggregator: every part with a state of
its own, the registers that functions write, and what has been sent. -/

namespace Sys2Proof.Machine

/-- What the register shadow goes on showing of a half that is no longer up (R245): the parts that its CL_ and TILE_ registers show, as they
stood. -/
structure HalfView where
  sites : Tab Site
  cols : Tab Column
  clusters : Tab ClusterSt
  pwr : PwrSt
  thm : Therm
  wear : Tab Nat
deriving DecidableEq, Repr

/-- The parts of the device. -/
structure Dev where
  fab : Fabric
  host : HostSt
  svc : Svc
  lnk : LinkAll
  net : Net
  pwr : PwrSt
  thm : Therm
  lkk : Lkk
  /-- registers written by functions, by BAR0 offset of the PF; an unlisted one holds its reset value -/
  regs : Tab Nat
  /-- per half: what the register shadow last held, while the half is not up -/
  seen : Vector (Option HalfView) 2
  out : List Out
deriving DecidableEq, Repr

def Dev.init : Dev :=
  { fab := Fabric.init, host := HostSt.init, svc := Svc.init, lnk := LinkAll.init, net := Net.init, pwr := PwrSt.init, thm := Therm.init, lkk := Lkk.init, regs := [],
    seen := Vector.replicate 2 none, out := [] }

end Sys2Proof.Machine
end

