-- ==== Sys2Proof/Config.lean ====
section
/-! DEFINITION. What the manual leaves open: constants without a body, so that nothing in Lean can evaluate them and a
statement that holds, holds whatever they are. Each is named in a row of the assumption log. -/

namespace Sys2Proof.Config

/-- The value that a vector table operation (MOD 0x10–0x17) gives for an FP32 code, before the bound of Table Tiles-8 is
enforced (R49). -/
opaque vecTable : (op : Nat) → (a : Nat) → Nat

/-- max (op 5), min (op 6) or a clamp (op 11) with a NaN operand, and which zero is kept when two zeros of
different signs meet: R46 states neither. -/
opaque vecSelect : (op : Nat) → (a : Nat) → (b : Nat) → Nat

/-- RSUMSQ and RMSNORM: is each square added with one rounding (fused), or rounded first? R48 states neither. -/
opaque sumSqFused : Bool

/-- The FP32 code of the immediate s of RMSNORM: R46 puts both s and the scratch address of B into DW4, so the value of s
is unstated. -/
opaque rmsnormS : (imm : Nat) → Nat

/-- Are the products of marked elements that set the marks of R102 judged with the block scales (R77 makes a scale part of its elements), or
on the elements that the edge converters present (R82)? An infinity against a scale of 0 or a negative scale tells the two apart. -/
opaque marksScaled : Bool

/-- The code in bits [7:0], and in bits 8 and 9 the saturation and NaN counts, of the element `i` appended to a KV8 page whose SCALE is not
positive and normal (R80, R121). -/
opaque kvUnscaled : (scale i : Nat) → Nat

/-- A byte whose contents the manual leaves unspecified: the destination of a step that met an invalid code (R89), a
sector after a miscorrection (R163), and such. `n` is the free counter of the state. -/
opaque freeByte : (n : Nat) → (addr : Nat) → BitVec 8

/-- A free 64-bit value taken at the free counter. -/
opaque freeWord : (n : Nat) → (k : Nat) → Nat

/-- Which of several permitted choices is taken at the free counter. -/
opaque freeChoice : (n : Nat) → (k : Nat) → Nat

/-- CODE_CRC of a code image (R407): CRC-32C of bytes that the model does not hold. -/
opaque codeCrc : (image : Nat) → BitVec 32

/-- The test pattern that the Dredger keeps in a spare row not in use (R185): the manual does not give it. -/
opaque testPattern : BitVec 512

/-- Leakage in mW of logical cluster c at a voltage (0.1 mV) or temperature (0.125 °C) outside its fused table: R353 interpolates
within the table and states nothing outside it. -/
opaque leakOutside : (c volt : Nat) → (temp : Int) → Nat

/-- The rise of a node of the Onion model over a period, in 2^-16 K, from its net heat flow (n / d mW) and its heat capacity (mJ/K): R361
integrates the network and names no method. -/
opaque onionRise : (n : Int) → (d : Nat) → (cap : Nat) → Int

/-- (n / d)^0.8 in 2^-16, which R361 states as a real number. -/
opaque pow08 : (n d : Nat) → Nat

/-- The SHA-384 of the fuse map copy in use (measurement 2): R428 measures it, and the manual gives the map no byte layout. -/
opaque fuseDigest : Nat

/-- Bytes of the receive buffer of a queue pair of the collective engine (R307), and of a port's receive buffer of one priority (R311): the
manual gives no sizes. -/
opaque rxBuffer : Nat
opaque portBuffer : Nat

end Sys2Proof.Config
end

