-- ==== Sys2Proof/Machine/Formats.lean ====
section
/-! DEFINITION. The 16 formats of Table Formats-1: element decoding, block structure and stored form (R68–R78), CVT (R87)
and QUANT (R88). -/

namespace Sys2Proof.Machine

/-- The formats of Table Tiles-3. -/
inductive Fmt where
  | fp32 | fp16 | bf16 | e4m3 | e5m2 | mxfp8 | e3m2 | e2m3
  | mxfp4 | mxint8 | int8 | int4 | gl4 | lut4 | trit | int32
deriving DecidableEq, Repr

/-- The format of a 4-bit code (Table Tiles-3). -/
def Fmt.ofCode (c : Nat) : Fmt :=
  match c with
  | 0 => .fp32 | 1 => .fp16 | 2 => .bf16 | 3 => .e4m3 | 4 => .e5m2 | 5 => .mxfp8 | 6 => .e3m2 | 7 => .e2m3
  | 8 => .mxfp4 | 9 => .mxint8 | 10 => .int8 | 11 => .int4 | 12 => .gl4 | 13 => .lut4 | 14 => .trit | _ => .int32

/-- Stored width of one unit in bits (R54, Table Formats-1); a TRIT unit is a byte of five trits. -/
def Fmt.width : Fmt → Nat
  | .fp32 | .int32 => 32
  | .fp16 | .bf16 => 16
  | .e4m3 | .e5m2 | .mxfp8 | .mxint8 | .int8 | .trit => 8
  | .e3m2 | .e2m3 => 6
  | .mxfp4 | .int4 | .gl4 | .lut4 => 4

/-- Block length L of Table Formats-3: 0 where the format has no block or its block is the whole row. -/
def Fmt.blockLen : Fmt → Nat
  | .mxfp8 | .e3m2 | .e2m3 | .mxfp4 | .mxint8 | .int4 => 32
  | .gl4 => 16
  | .lut4 => 256
  | _ => 0

/-- Width in bytes of one scale or codebook (R78); 0 for a format without scales. -/
def Fmt.scaleBytes : Fmt → Nat
  | .mxfp8 | .e3m2 | .e2m3 | .mxfp4 | .mxint8 | .gl4 => 1
  | .int4 | .trit => 2
  | .int8 => 4
  | .lut4 => 16
  | _ => 0

/-- Scales of a row of K elements: K / L, or one for INT8 and TRIT. -/
def Fmt.scalesPerRow (f : Fmt) (k : Nat) : Nat :=
  if f.scaleBytes = 0 then 0 else if f.blockLen = 0 then 1 else k / f.blockLen

/-- R78: K is a whole number of blocks, and makes each row a whole number of bytes. -/
def Fmt.kOk (f : Fmt) (k : Nat) : Bool :=
  (f.blockLen == 0 || k % f.blockLen == 0) && (f == .trit || k * f.width % 8 == 0)

/-- R78: bytes of one stored row of K elements. -/
def Fmt.rowBytes (f : Fmt) (k : Nat) : Nat :=
  if f = .trit then cdiv k 5 else cdiv (k * f.width) 8

/-- The binary floating-point encoding of a format's element, where it has one; `e5` is the E5 flag. -/
def Fmt.flt (f : Fmt) (e5 : Bool) : Option FltFmt :=
  match f with
  | .fp32 => some fp32F
  | .fp16 => some fp16F
  | .bf16 => some bf16F
  | .e4m3 => some e4m3F
  | .e5m2 => some e5m2F
  | .mxfp8 => some (if e5 then e5m2F else e4m3F)
  | .e3m2 => some e3m2F
  | .e2m3 => some e2m3F
  | .mxfp4 => some e2m1F
  | _ => none

/-- Twice the magnitude of a G4 level (Table Formats-8). -/
def g4Level2 (m : Nat) : Nat := if m = 7 then 8 else m

/-- R74: the value of a G4 code; 0x8 is −0. -/
def g4Value (c : Nat) : Val :=
  let d : Dy := ⟨g4Level2 (c % 8), -1⟩
  .fin (bit c 3) (if bit c 3 then d.neg else d)

/-- R72: digit i of a TRIT byte as an element. -/
def tritElem (byte i : Nat) : Val :=
  match byte / 3 ^ i % 3 with
  | 1 => .fin false ⟨1, 0⟩
  | 2 => .fin true ⟨-1, 0⟩
  | _ => Val.zero

/-- R68–R74: the value of an element code before any scale. LUT4 and TRIT units are decoded where the codebook or the
position is at hand. -/
def Fmt.elem (f : Fmt) (e5 : Bool) (c : Nat) : Val :=
  match f.flt e5 with
  | some g => g.decode c
  | none =>
    match f with
    | .mxint8 => Val.ofDy false ⟨sext 8 c, -6⟩
    | .int8 => Val.ofDy false ⟨sext 8 c, 0⟩
    | .int4 => Val.ofDy false ⟨sext 4 c, 0⟩
    | .int32 => Val.ofDy false ⟨sext 32 c, 0⟩
    | .gl4 => g4Value c
    | _ => Val.zero

/-- E8M0: code c is 2^(c − 127), 0xFF is NaN (R69). -/
def e8m0Value (c : Nat) : Val := if c = 255 then .nan else .fin false ⟨1, (c : Int) - 127⟩

/-- The value of a block or row scale (R76); 1 where the format has none, and for LUT4. -/
def Fmt.scaleValue (f : Fmt) (c : Nat) : Val :=
  match f with
  | .mxfp8 | .e3m2 | .e2m3 | .mxfp4 | .mxint8 => e8m0Value c
  | .int8 => fp32F.decode c
  | .int4 | .trit => bf16F.decode c
  | .gl4 => ue4m4F.decode c
  | _ => .fin false ⟨1, 0⟩

/-- A reader of scratch bytes. -/
abbrev Rd := Nat → Nat

/-- A little-endian number of `n` bytes. -/
def rdLe (rd : Rd) (a : Nat) : Nat → Nat
  | 0 => 0
  | n + 1 => rd a + 256 * rdLe rd (a + 1) n

/-- `w` bits (w ≤ 32) starting at bit `p` of the bytes from `a`, least significant first. -/
def rdBits (rd : Rd) (a p w : Nat) : Nat :=
  rdLe rd (a + p / 8) ((p % 8 + w + 7) / 8) / 2 ^ (p % 8) % 2 ^ w

/-- R73: TRIT byte values 243–255 are invalid. -/
def tritInvalid (b : Nat) : Bool := 243 ≤ b

/-- R75: a codebook that holds a NaN encoding is invalid. -/
def codebookInvalid (rd : Rd) (a : Nat) : Bool :=
  (List.range 16).any (fun i => rd (a + i) % 128 == 127)

/-- A tensor in the linear stored form of R78. -/
structure Tensor where
  fmt : Fmt
  e5 : Bool
  base : Nat
  scaleBase : Nat
  k : Nat
deriving DecidableEq, Repr

/-- R78: rows × K elements stored at `base`, the scale area at the next 64-byte boundary. -/
def tensorAt (f : Fmt) (e5 : Bool) (base rows k : Nat) : Tensor :=
  ⟨f, e5, base, alignUp (base + rows * f.rowBytes k) 64, k⟩

/-- Bytes of the whole stored form from its base. -/
def tensorBytes (f : Fmt) (rows k : Nat) : Nat :=
  if f.scaleBytes = 0 then rows * f.rowBytes k
  else alignUp (rows * f.rowBytes k) 64 + rows * f.scalesPerRow k * f.scaleBytes

/-- Bytes of the stored form where its base is not aligned. -/
def tensorEnd (f : Fmt) (base rows k : Nat) : Nat :=
  if f.scaleBytes = 0 then base + rows * f.rowBytes k
  else alignUp (base + rows * f.rowBytes k) 64 + rows * f.scalesPerRow k * f.scaleBytes

/-- Address of the scale of row r, element i. -/
def Tensor.scaleAddr (t : Tensor) (r i : Nat) : Nat :=
  t.scaleBase + (r * t.fmt.scalesPerRow t.k + (if t.fmt.blockLen = 0 then 0 else i / t.fmt.blockLen)) * t.fmt.scaleBytes

/-- The element value of row r, element i, before its scale. -/
def Tensor.elem (t : Tensor) (rd : Rd) (r i : Nat) : Val :=
  let row := t.base + r * t.fmt.rowBytes t.k
  match t.fmt with
  | .trit => tritElem (rd (row + i / 5)) (i % 5)
  | .lut4 => e4m3F.decode (rd (t.scaleAddr r i + rdBits rd row (i * 4) 4))
  | f => f.elem t.e5 (rdBits rd row (i * f.width) f.width)

/-- R76, R77: the full value of an element; `tt` is the tensor scale of GL4. -/
def Tensor.value (t : Tensor) (rd : Rd) (tt : Val) (r i : Nat) : Val :=
  let v := t.elem rd r i
  match t.fmt.scaleBytes, t.fmt with
  | 0, _ => v
  | _, .lut4 => v
  | n, f =>
    match f.scaleValue (rdLe rd (t.scaleAddr r i) n) with
    | .nan => .nan
    | x => let y := v.mul x; if f = .gl4 then y.mul tt else y

/-- R89: the scratch address of the first invalid TRIT byte or LUT4 codebook of a tensor of `rows` rows. -/
def Tensor.firstInvalid (t : Tensor) (rd : Rd) (rows : Nat) : Option Nat :=
  match t.fmt with
  | .trit =>
    (List.range (rows * t.fmt.rowBytes t.k)).find? (fun i => tritInvalid (rd (t.base + i))) |>.map (t.base + ·)
  | .lut4 =>
    (List.range (rows * t.fmt.scalesPerRow t.k)).find? (fun i => codebookInvalid rd (t.scaleBase + 16 * i))
      |>.map (fun i => t.scaleBase + 16 * i)
  | _ => none

/-- Bytes to be written from an address on, in ascending order. -/
abbrev Writes := List (Nat × List Byte)

/-- What a data operation gives: the bytes it writes, its format events (R90), and where it met an invalid code. -/
structure DataOut where
  writes : Writes
  sat : Nat
  nan : Nat
  invalid : Option Nat
deriving DecidableEq, Repr

def DataOut.none : DataOut := ⟨[], 0, 0, Option.none⟩

/-- Codes packed least significant bit first into bytes, `w` bits each (R78). -/
def packCodes (w : Nat) (cs : List Nat) : List Byte :=
  let n := cs.foldr (fun c acc => c % 2 ^ w + acc * 2 ^ w) 0
  leBytes ((cs.length * w + 7) / 8) n

/-- Codes of `n` bytes each, little-endian. -/
def codeBytes (n : Nat) (cs : List Nat) : List Byte := cs.flatMap (leBytes n)

/-- The conversion target of R87: a floating-point format or INT32. -/
def Fmt.convTo (f : Fmt) (r : Rnd) (v : Val) : Cv :=
  match f with
  | .int32 => convInt r 32 false v
  | _ => match f.flt false with
    | some g => g.conv r v
    | none => ⟨0, 0, 0⟩

/-- R87: CVT of LEN elements in rows of K from the stored form at SA to FMT_D at SD. -/
def cvt (rd : Rd) (fa fd : Fmt) (ae5 : Bool) (r : Rnd) (sa sd len k imm : Nat) : DataOut :=
  let kk := if fa.scaleBytes = 0 then len else k
  let rows := if kk = 0 then 0 else len / kk
  let t := tensorAt fa ae5 sa rows kk
  let tt := fp32F.decode imm
  let cs := (List.range len).map (fun i => fd.convTo r (t.value rd tt (i / kk) (i % kk)))
  { writes := [(sd, codeBytes (fd.width / 8) (cs.map (·.code)))]
    sat := (cs.map (·.sat)).sum, nan := (cs.map (·.nan)).sum
    invalid := t.firstInvalid rd rows }

/-- The largest magnitude of a block of finite values. -/
def maxMag (vs : List Val) : Dy := vs.foldl (fun a v => let d := v.dy.abs; if a.lt d then d else a) Dy.zero

/-- Exact floor of log2 of a positive dyadic. -/
def Dy.floorLog2 (d : Dy) : Int := (ilog2 d.m.natAbs : Int) + d.e

/-- emax of Table Formats-6 for an MX element type. -/
def mxEmax (f : Fmt) (e5 : Bool) : Int :=
  match f with
  | .mxfp8 => if e5 then 15 else 8
  | .e3m2 => 4
  | .e2m3 => 2
  | .mxfp4 => 2
  | _ => 0

/-- The smallest finite code of an encoding whose value is at least num / den × 2^e; the largest finite code if none is. -/
def FltFmt.ceilCode (f : FltFmt) (num den : Nat) (e : Int) : Nat :=
  let c := f.roundMag .towardZero num den e
  let d := f.magValue c
  -- c is the largest code at or below the quotient
  let exact := (Dy.mul d ⟨den, 0⟩).cmp ⟨num, e⟩ = 0
  Nat.min (if exact then c else c + 1) f.maxCode

/-- Table Formats-6: the scale code for a block with largest magnitude a > 0 (`sumAbs` and `n` serve TRIT, `t` GL4). -/
def scaleCode (f : Fmt) (e5 : Bool) (a sumAbs t : Dy) (n : Nat) : Nat :=
  match f with
  | .mxfp8 | .e3m2 | .e2m3 | .mxfp4 | .mxint8 =>
    let x := a.floorLog2 - mxEmax f e5
    ((max (-127) (min 127 x)) + 127).toNat
  | .int8 => (fp32F.convQ .nearest false a.m.natAbs 127 a.e).code
  | .int4 => bf16F.ceilCode a.m.natAbs 7 a.e
  | .gl4 => ue4m4F.ceilCode a.m.natAbs (4 * t.m.natAbs) (a.e - t.e)
  | .trit => (bf16F.convQ .nearest false sumAbs.m.natAbs n sumAbs.e).code
  | _ => 0

/-- R74, R86: a quotient converted to a G4 code. Magnitudes are compared as 2 × num / den × 2^e against the doubled levels. -/
def convG4 (r : Rnd) (neg : Bool) (num den : Nat) (e : Int) : Cv :=
  let n2 := if 0 ≤ e then 2 * num * 2 ^ e.toNat else 2 * num
  let d2 := if 0 ≤ e then den else den * 2 ^ (-e).toNat
  -- doubled levels 0..6 are consecutive integers, the top level is 8
  let below := fun (l : Nat) => l * d2 ≤ n2
  let idx := if below 8 then 7 else Nat.min 6 (n2 / d2)
  let lo := g4Level2 idx
  let hi := if idx = 7 then 8 else g4Level2 (idx + 1)
  let m := match r with
    | .towardZero => idx
    | .nearest =>
      if idx = 7 then 7 else
      let dlo := 2 * n2 - 2 * lo * d2
      let gap := (hi - lo) * d2
      if dlo < gap then idx else if gap < dlo then idx + 1 else if idx % 2 = 0 then idx else idx + 1
  let past := 8 * d2 < n2
  ⟨m + b2n neg * 8, b2n past, 0⟩

/-- An element x divided by a positive finite scale and converted under R86 (R88 step 3); `num / den × 2^e` is the
quotient's magnitude. -/
def quantElem (f : Fmt) (e5 : Bool) (r : Rnd) (neg : Bool) (num den : Nat) (e : Int) : Cv :=
  match f with
  | .gl4 => convG4 r neg num den e
  | .int8 | .mxint8 => convIntQ r 8 127 neg num den e
  | .int4 => convIntQ r 4 7 neg num den e
  | .trit => convIntQ r 2 1 neg num den e
  | _ => match f.flt e5 with
    | some g => g.convQ r neg num den e
    | none => ⟨0, 0, 0⟩

/-- One quantised block: its scale code and its element conversions (R88). -/
def quantBlock (f : Fmt) (e5 : Bool) (r : Rnd) (t : Dy) (vs : List Val) : Nat × List Cv :=
  if vs.any (fun v => !v.isFin) then
    let sc := match f with | .int8 => 0x7FC00000 | .int4 | .trit => 0x7FC0 | _ => 0xFF
    (sc, match vs.map (fun _ => (⟨0, 0, 0⟩ : Cv)) with
      | [] => []
      | c :: cs => { c with nan := 1 } :: cs)
  else
    let a := maxMag vs
    -- scale code 0x00 is 2^−127 in the MX formats, so the sign of a zero is kept; in the others it is a zero scale
    if a.isZero then (0, vs.map (fun v => match f with
      | .mxfp8 | .e3m2 | .e2m3 | .mxfp4 => quantElem f e5 r v.sgn 0 1 0
      | _ => ⟨0, 0, 0⟩)) else
    let sumAbs := vs.foldl (fun s v => s.add v.dy.abs) Dy.zero
    let sc := scaleCode f e5 a sumAbs t vs.length
    let x := (f.scaleValue sc).dy
    let xt := match f with
      | .gl4 => x.mul t
      | .mxint8 => x.mul ⟨1, -6⟩
      | _ => x
    (sc, vs.map (fun v =>
      if xt.isZero then ⟨0, 0, 0⟩
      else quantElem f e5 r v.sgn v.dy.m.natAbs xt.m.natAbs (v.dy.e - xt.e)))

/-- TRIT elements of a row packed five to a byte (R72). -/
def packTrits : List Nat → List Byte
  | a :: b :: c :: d :: e :: r =>
    let g := fun (x : Nat) => if x % 4 = 1 then 1 else if x % 4 = 3 then 2 else 0
    BitVec.ofNat 8 (g a + 3 * g b + 9 * g c + 27 * g d + 81 * g e) :: packTrits r
  | [] => []
  | l =>
    let g := fun (x : Nat) => if x % 4 = 1 then 1 else if x % 4 = 3 then 2 else 0
    [BitVec.ofNat 8 ((l.zipIdx.map (fun p => g p.1 * 3 ^ p.2)).sum)]

/-- LUT4: the index of the codebook entry nearest to x, the lower on a tie; NaN takes 0, an infinity the entry nearest
to it, that is the largest or smallest (R88). -/
def lutIndex (book : List Val) (v : Val) : Cv :=
  match v with
  | .nan => ⟨0, 0, 1⟩
  | _ =>
    let better := fun (x y : Dy) => match v with
      | .inf neg => if neg then x.lt y else y.lt x
      | _ => (x.sub v.dy).abs.lt (y.sub v.dy).abs
    let step := fun (best : Nat × Dy) (p : Val × Nat) => if better p.1.dy best.2 then (p.2, p.1.dy) else best
    let init := (0, (book.headD Val.zero).dy)
    ⟨(book.zipIdx.foldl step init).1, 0, 0⟩

/-- R88: QUANT of LEN elements in rows of K read by `src`, to FMT_D at SD; LUT4 codebooks are read at SB. -/
def quant (rd : Rd) (src : Nat → Val) (fd : Fmt) (e5 : Bool) (r : Rnd) (sb sd len k imm : Nat) : DataOut :=
  let rows := if k = 0 then 0 else len / k
  let t := (fp32F.decode imm).dy
  let scaleBase := alignUp (sd + rows * fd.rowBytes k) 64
  match fd with
  | .lut4 =>
    let groups := rows * (k / 256)
    let bad := (List.range groups).find? (fun i => codebookInvalid rd (sb + 16 * i))
    let cs := (List.range len).map (fun i =>
      let g := i / 256
      lutIndex ((List.range 16).map (fun j => e4m3F.decode (rd (sb + 16 * g + j)))) (src i))
    { writes := [(sd, packCodes 4 (cs.map (·.code))),
        (scaleBase, (List.range (16 * groups)).map (fun i => BitVec.ofNat 8 (rd (sb + i))))]
      sat := 0, nan := (cs.map (·.nan)).sum, invalid := bad.map (fun i => sb + 16 * i) }
  | _ =>
    let l := if fd.blockLen = 0 then k else fd.blockLen
    let nb := if l = 0 then 0 else len / l
    let blocks := (List.range nb).map (fun b =>
      quantBlock fd e5 r t ((List.range l).map (fun i => src (b * l + i))))
    let elems := blocks.flatMap (·.2)
    let rowOf := fun (i : Nat) => ((elems.drop (i * k)).take k).map (·.code)
    let bytes := (List.range rows).flatMap (fun i =>
      if fd = .trit then packTrits (rowOf i) else packCodes fd.width (rowOf i))
    { writes := [(sd, bytes), (scaleBase, codeBytes fd.scaleBytes (blocks.map (·.1)))]
      sat := (elems.map (·.sat)).sum, nan := (elems.map (·.nan)).sum, invalid := Option.none }

end Sys2Proof.Machine
end

