-- ==== Sys2Proof/Machine/VecMath.lean ====
section
/-! DEFINITION. The arithmetic of the vector unit (R46–R49): IEEE binary32 operations, table operations within the bounds of
Table Tiles-8, and the fixed-order reductions. -/

namespace Sys2Proof.Machine

/-- Working precision of the reference values of table operations, in fraction bits. -/
def tblPrec : Nat := 256

/-- ln 2 × 2^256, rounded down. -/
def ln2Fix : Int := 80260960185991308862233904206310070533990667611589946606122867505419956976171

/-- A dyadic as a fixed-point integer of `tblPrec` fraction bits, rounded toward −∞. -/
def Dy.fix (d : Dy) : Int :=
  let s := d.e + tblPrec
  if 0 ≤ s then d.m * (2 ^ s.toNat : Nat) else d.m / (2 ^ (-s).toNat : Nat)

/-- Product of two fixed-point integers. -/
def fixMul (a b : Int) : Int := a * b / (2 ^ tblPrec : Nat)

/-- e^r − 1 for fixed-point 0 ≤ r < ln 2, by its series. -/
def fixExpm1 (r : Int) : Int :=
  ((List.range 70).foldl (fun (p : Int × Int) (k : Nat) =>
    let t := fixMul p.1 r / (k + 1)
    (t, p.2 + t)) ((2 ^ tblPrec : Nat), 0)).2

/-- e^x to about `tblPrec` bits, as a dyadic; x is a fixed-point integer. -/
def expFix (x : Int) : Dy :=
  let n := x / ln2Fix
  let r := x - n * ln2Fix
  ⟨(2 ^ tblPrec : Nat) + fixExpm1 r, n - tblPrec⟩

/-- Quotient of two dyadics (`b` not zero), to `tblPrec` significant bits and more. -/
def Dy.div (a b : Dy) : Dy :=
  let k := 2 * tblPrec + ilog2 b.m.natAbs
  ⟨shl a.m k / (if b.m < 0 then -(b.m.natAbs : Int) else b.m.natAbs), a.e - b.e - k⟩

/-- ln of a positive dyadic, as a fixed-point integer. -/
def lnFix (d : Dy) : Int :=
  let l := ilog2 d.m.natAbs
  let y : Int := Dy.fix ⟨d.m, -(l : Int)⟩           -- in [1, 2)
  let one : Int := (2 ^ tblPrec : Nat)
  let z := (y - one) * one / (y + one)
  let z2 := fixMul z z
  let s := ((List.range 120).foldl (fun (p : Int × Int) (k : Nat) =>
    (fixMul p.1 z2, p.2 + p.1 / (2 * k + 1))) (z, 0)).2
  2 * s + (d.e + l) * ln2Fix

/-- 1 / (1 + e^−x) for a fixed-point x. -/
def sigmoidFix (x : Int) : Dy := Dy.div ⟨1, 0⟩ (Dy.add ⟨1, 0⟩ (expFix (-x)))

/-- x held to ±2^8 in fixed point: beyond it the logistic forms have reached their limits to FP32 accuracy. -/
def fixClamp (x : Int) : Int := max (-(256 * (2 ^ tblPrec : Nat))) (min (256 * (2 ^ tblPrec : Nat)) x)

/-- The reference value of a table operation at a finite, non-zero normal argument. -/
def tableRef (op : Nat) (a : Dy) : Dy :=
  let one : Int := (2 ^ tblPrec : Nat)
  match op with
  | 0x10 => Dy.div ⟨1, 0⟩ a
  | 0x11 =>
    -- 1/√a = √(2^(2k) / a) / 2^k
    let q := Dy.div ⟨1, 0⟩ a
    let e2 := q.e % 2
    let m := if e2 = 1 then q.m * 2 else q.m
    let e := (q.e - e2) / 2
    ⟨isqrt m.natAbs, e⟩
  | 0x12 => expFix (fixClamp a.fix)
  | 0x13 => ⟨lnFix a, -(tblPrec : Int)⟩
  | 0x14 => sigmoidFix (fixClamp a.fix)
  | 0x15 => a.mul (sigmoidFix (fixClamp a.fix))
  | 0x16 =>
    -- 0.5A(1 + tanh u) = A × sigmoid(2u), u = 0.797885 (A + 0.044715 A³)
    let c := Dy.div (Dy.mul a (Dy.add ⟨1, 0⟩ (Dy.div (Dy.mul ⟨44715, 0⟩ (a.mul a)) ⟨1000000, 0⟩))) ⟨1, 0⟩
    let u2 := Dy.div (Dy.mul ⟨2 * 797885, 0⟩ c) ⟨1000000, 0⟩
    let big : Dy := ⟨256, 0⟩
    let u2 := if big.lt u2 then big else if u2.lt big.neg then big.neg else u2
    a.mul (sigmoidFix (fixClamp u2.fix))
  | _ =>
    -- tanh x = 2 sigmoid(2x) − 1
    let s := sigmoidFix (fixClamp (2 * (Dy.fix (if (⟨128, 0⟩ : Dy).lt a.abs then ⟨if a.m < 0 then -128 else 128, 0⟩ else a))))
    Dy.add (Dy.mul ⟨2, 0⟩ s) ⟨-one, -(tblPrec : Int)⟩

/-- One ulp of an FP32 code's binade. -/
def ulpOf (c : Nat) : Dy := ⟨1, (Nat.max (c / 2 ^ 23 % 256) 1 : Int) - 150⟩

/-- `n × 2^e` as a dyadic. -/
def dy2 (n : Int) (e : Int) : Dy := ⟨n, e⟩

def Dy.max (a b : Dy) : Dy := if a.lt b then b else a

/-- Table Tiles-8: the error bound of an operation at argument `a` for the result code `y`. -/
def tableBound (op : Nat) (a : Dy) (y : Nat) : Dy :=
  let two := (ulpOf y).mul ⟨2, 0⟩
  match op with
  | 0x10 | 0x11 => ulpOf y
  | 0x12 => two
  | 0x13 => if (dy2 1 (-1)).le a && a.le (dy2 2 0) then dy2 1 (-23) else two
  | 0x14 | 0x17 => two.max (dy2 1 (-24))
  | _ => two.max ((dy2 1 (-24)).mul ((dy2 1 0).max a.abs))

/-- A code is a zero or a normal number. -/
def isNormalOrZero (c : Nat) : Bool :=
  let m := c % 2 ^ 31
  m == 0 || (2 ^ 23 ≤ m && m ≤ 0x7F7FFFFF)

/-- R49: is `y` a permitted result of the table operation at the finite non-zero argument `a`? -/
def tableOk (op : Nat) (a : Dy) (y : Nat) : Bool :=
  y < 2 ^ 32 && isNormalOrZero y && y != 0x80000000 &&
  (((fp32F.decode y).dy.sub (tableRef op a)).abs.le (tableBound op a y))

/-- A subnormal FP32 code flushed to +0 (R49). -/
def flushSub (c : Nat) : Nat := if c % 2 ^ 31 < 2 ^ 23 then 0 else c

/-- R49, Table Tiles-8: a table operation on an FP32 code. The value between the bounds is free (Config.vecTable); one
outside them is replaced by the nearest. -/
def tableOp (op a : Nat) : Nat :=
  let neg := bit a 31
  let mag := a % 2 ^ 31
  let inf := 0x7F800000
  let nan := 0x7FC00000
  let one := 0x3F800000
  if 0x7F800000 < mag then nan
  else if mag = inf then
    match op with
    | 0x10 => if neg then 0x80000000 else 0
    | 0x11 => if neg then nan else 0
    | 0x12 => if neg then 0 else inf
    | 0x13 => if neg then nan else inf
    | 0x14 => if neg then 0 else one
    | 0x17 => if neg then 0xBF800000 else one
    | _ => if neg then 0x80000000 else inf
  else if mag < 2 ^ 23 then
    -- zeros, and subnormals taken as zeros of their sign
    match op with
    | 0x10 => if neg then 0xFF800000 else inf
    | 0x11 => if neg then 0xFF800000 else inf
    | 0x12 => let y := Config.vecTable op 0
              if tableOk op Dy.zero y then y else one
    | 0x13 => 0xFF800000
    | 0x14 => let y := Config.vecTable op 0
              if tableOk op Dy.zero y then y else 0x3F000000
    | _ => let y := Config.vecTable op (if neg then 0x80000000 else 0)
           if tableOk op Dy.zero y then y else 0
  else
    let d := (fp32F.decode a).dy
    if neg && (op == 0x11 || op == 0x13) then nan
    else if op = 0x12 && (⟨8872, 0⟩ : Dy).lt (d.mul ⟨100, 0⟩) then inf
    else
      let y := Config.vecTable op a
      let z := flushSub (fp32F.convQ .nearest ((tableRef op d).m < 0) (tableRef op d).m.natAbs 1 (tableRef op d).e).code
      let under := op == 0x12 && ((tableRef op d).lt (dy2 1 (-126)))
      if under then 0 else if tableOk op d y then y else z

/-- A table operation on a value, as a value. -/
def tableVal (op : Nat) (v : Val) : Val := fp32F.decode (tableOp op (fp32Of v))

/-- The bytes of an FP32 or BF16 element. -/
def vecWidth (f : Fmt) : Nat := if f = .bf16 then 2 else 4

/-- Element i of a vector of FP32 or BF16 elements. -/
def vecElem (rd : Rd) (f : Fmt) (base i : Nat) : Val :=
  if f = .bf16 then bf16F.decode (rdLe rd (base + 2 * i) 2) else fp32F.decode (rdLe rd (base + 4 * i) 4)

/-- R47: an FP32 result written in FMT_D. A BF16 result is rounded from the FP32 result by RND, and is a conversion
whose events count; an FP32 result is written as it is, NaN as the canonical NaN. -/
def vecOut (fd : Fmt) (r : Rnd) (v : Val) : Cv :=
  if fd = .bf16 then bf16F.conv r (rn32 v) else ⟨fp32Of v, 0, 0⟩

/-- The elements of a vector result as written bytes and events. -/
def vecWrite (fd : Fmt) (r : Rnd) (sd : Nat) (vs : List Val) : DataOut :=
  let cs := vs.map (vecOut fd r)
  { writes := [(sd, codeBytes (vecWidth fd) (cs.map (·.code)))]
    sat := (cs.map (·.sat)).sum, nan := (cs.map (·.nan)).sum, invalid := Option.none }

/-- max and min (R46). The result with a NaN operand, and between zeros of different signs, is free. -/
def vecSel (op : Nat) (isMax : Bool) (a b : Val) : Val :=
  if a.isNaN || b.isNaN then fp32F.decode (Config.vecSelect op (fp32Of a) (fp32Of b) % 2 ^ 32)
  else
    match a, b with
    | .inf n, _ => if n = isMax then b else a
    | _, .inf n => if n = isMax then a else b
    | .fin _ d, .fin _ f =>
      if d.isZero && f.isZero then
        (if a = b then a else .fin (Config.vecSelect op (fp32Of a) (fp32Of b) % 2 = 1) Dy.zero)
      else if (d.lt f) = isMax then b else a
    | _, _ => .nan

/-- R48: the value of a balanced binary tree over a list of 2^n partials, lanes (0,1), (2,3) and so on. -/
def treeSum (addf : Val → Val → Val) : Nat → List Val → Val
  | 0, l => l.headD Val.zero
  | n + 1, l =>
    let rec pairs : List Val → List Val
      | a :: b :: r => addf a b :: pairs r
      | l => l
    treeSum addf n (pairs l)

/-- FP32 addition, one rounding. -/
def add32 (a b : Val) : Val := rn32 (a.add b)

/-- FP32 multiplication, one rounding. -/
def mul32 (a b : Val) : Val := rn32 (a.mul b)

/-- FP32 subtraction, one rounding. -/
def sub32 (a b : Val) : Val := rn32 (a.sub b)

/-- FP32 quotient of finite values by a positive finite value, one rounding; IEEE rules otherwise. -/
def div32 (a b : Val) : Val :=
  match a, b with
  | .nan, _ => .nan
  | _, .nan => .nan
  | .inf _, .inf _ => .nan
  | .inf n, .fin m _ => .inf (n != m)
  | .fin n _, .inf m => .fin (n != m) Dy.zero
  | .fin n d, .fin m f =>
    if f.isZero then (if d.isZero then .nan else .inf (n != m))
    else fp32F.decode (fp32F.convQ .nearest (n != m) d.m.natAbs f.m.natAbs (d.e - f.e)).code

/-- R48: the fixed-order sum of the segment elements given by `f`: 64 lanes in ascending order, then a balanced tree. -/
def laneSum (stepf : Val → Val → Val) (k : Nat) (f : Nat → Val) : Val :=
  let lane := fun (j : Nat) =>
    (List.range (cdiv (k - j) 64)).foldl (fun acc i => stepf acc (f (j + 64 * i))) Val.zero
  treeSum add32 6 ((List.range 64).map (fun j => if j < k then lane j else Val.zero))

/-- A square accumulated into an FP32 sum. -/
def addSq (acc x : Val) : Val :=
  if Config.sumSqFused then rn32 (acc.add (x.mul x)) else add32 acc (mul32 x x)

/-- The operands and fields of a VEC step. -/
structure VecIn where
  op : Nat
  sa : Nat
  sb : Nat
  sd : Nat
  imm : Nat
  len : Nat
  k : Nat
  fa : Fmt
  fb : Fmt
  fd : Fmt
  rnd : Rnd
deriving DecidableEq, Repr

/-- Element i of A. -/
def VecIn.a (v : VecIn) (rd : Rd) (i : Nat) : Val := vecElem rd v.fa v.sa i

/-- Element i of B. -/
def VecIn.b (v : VecIn) (rd : Rd) (i : Nat) : Val := vecElem rd v.fb v.sb i

/-- The immediate s as FP32. -/
def VecIn.s (v : VecIn) : Val := fp32F.decode v.imm

/-- A result of one element per element. -/
def VecIn.each (v : VecIn) (f : Nat → Val) : DataOut := vecWrite v.fd v.rnd v.sd ((List.range v.len).map f)

/-- A result of one element per segment of K; `f` takes the index of the segment's first element. -/
def VecIn.perSegment (v : VecIn) (f : Nat → Val) : DataOut :=
  vecWrite v.fd v.rnd v.sd ((List.range (if v.k = 0 then 0 else v.len / v.k)).map (fun g => f (g * v.k)))

/-- The largest element of a segment. -/
def segMax (v : VecIn) (rd : Rd) (base : Nat) : Val :=
  (List.range (v.k - 1)).foldl (fun m i => vecSel 0x21 true m (v.a rd (base + i + 1))) (v.a rd base)

def vecCopy (v : VecIn) (rd : Rd) : DataOut := v.each (v.a rd)
def vecAdd (v : VecIn) (rd : Rd) : DataOut := v.each (fun i => add32 (v.a rd i) (v.b rd i))
def vecSub (v : VecIn) (rd : Rd) : DataOut := v.each (fun i => sub32 (v.a rd i) (v.b rd i))
def vecMul (v : VecIn) (rd : Rd) : DataOut := v.each (fun i => mul32 (v.a rd i) (v.b rd i))

/-- D = A × B + D with one rounding (R46). -/
def vecFma (v : VecIn) (rd : Rd) : DataOut :=
  v.each (fun i => rn32 (((v.a rd i).mul (v.b rd i)).add (vecElem rd v.fd v.sd i)))

def vecMax (v : VecIn) (rd : Rd) : DataOut := v.each (fun i => vecSel 5 true (v.a rd i) (v.b rd i))
def vecMin (v : VecIn) (rd : Rd) : DataOut := v.each (fun i => vecSel 6 false (v.a rd i) (v.b rd i))
def vecAbs (v : VecIn) (rd : Rd) : DataOut := v.each (fun i => (v.a rd i).abs)
def vecNeg (v : VecIn) (rd : Rd) : DataOut := v.each (fun i => (v.a rd i).negate)
def vecMulS (v : VecIn) (rd : Rd) : DataOut := v.each (fun i => mul32 (v.a rd i) v.s)
def vecAddS (v : VecIn) (rd : Rd) : DataOut := v.each (fun i => add32 (v.a rd i) v.s)

/-- D = min(max(A, −|s|), |s|) (R46). -/
def vecClampS (v : VecIn) (rd : Rd) : DataOut :=
  v.each (fun i => vecSel 11 false (vecSel 11 true (v.a rd i) v.s.abs.negate) v.s.abs)

/-- A table operation per element (R49). -/
def vecTab (op : Nat) (v : VecIn) (rd : Rd) : DataOut := v.each (fun i => tableVal op (v.a rd i))

def vecRsum (v : VecIn) (rd : Rd) : DataOut :=
  v.perSegment (fun b => laneSum add32 v.k (fun i => v.a rd (b + i)))

def vecRmax (v : VecIn) (rd : Rd) : DataOut := v.perSegment (segMax v rd)

def vecRsumsq (v : VecIn) (rd : Rd) : DataOut :=
  v.perSegment (fun b => laneSum addSq v.k (fun i => v.a rd (b + i)))

/-- R46, R48: per segment D = A × B × rsqrt(sumsq(A)/K + s), each operation rounded to FP32 in the written order. -/
def vecRmsnorm (v : VecIn) (rd : Rd) : DataOut :=
  v.each (fun i =>
    let b := i / v.k * v.k
    let ss := laneSum addSq v.k (fun j => v.a rd (b + j))
    let m := add32 (div32 ss (.fin false ⟨v.k, 0⟩)) v.s
    mul32 (mul32 (v.a rd i) (v.b rd (i % v.k))) (tableVal 0x11 m))

/-- R46, R48: per segment D = e^(A − max) / Σ e^(A − max). -/
def vecSoftmax (v : VecIn) (rd : Rd) : DataOut :=
  v.each (fun i =>
    let b := i / v.k * v.k
    let mx := segMax v rd b
    let ex := fun (j : Nat) => tableVal 0x12 (sub32 (v.a rd j) mx)
    div32 (ex i) (laneSum add32 v.k (fun j => ex (b + j))))

/-- R46: rotary pairs, with (c, s′) the FP32 pair at B index i mod K/2. -/
def vecRope (v : VecIn) (rd : Rd) : DataOut :=
  v.each (fun n =>
    let i := n / 2
    let p := i % (v.k / 2)
    let c := vecElem rd .fp32 v.sb (2 * p)
    let s := vecElem rd .fp32 v.sb (2 * p + 1)
    let x := v.a rd (2 * i)
    let y := v.a rd (2 * i + 1)
    if n % 2 = 0 then sub32 (mul32 x c) (mul32 y s) else add32 (mul32 x s) (mul32 y c))

def vecSwiglu (v : VecIn) (rd : Rd) : DataOut :=
  v.each (fun i => mul32 (tableVal 0x15 (v.a rd i)) (v.b rd i))

/-- R46: D[i] = A[i] if (i mod K) < s, else −∞; s is an unsigned integer. -/
def vecMaskIdx (v : VecIn) (rd : Rd) : DataOut :=
  v.each (fun i => if i % v.k < v.imm then v.a rd i else .inf true)

end Sys2Proof.Machine
end

