-- ==== Sys2Proof/Machine/Operands.lean ====
section
/-! DEFINITION. The step descriptor (R33–R37): its fields, the LOOP strides added to them, the scratch and row ranges that
they name, and the checks before issue in the order of R474, opcode by opcode. -/

namespace Sys2Proof.Machine

/-- Fault causes of Table Tiles-5. -/
inductive Cause where
  | badOpcode | descReserved | badFormat | align | scratchRange | addressHole | loopDepth | stepTimeout | semOverflow
  | scratchParity | peerInvalid | peerAbsent | peerHalfDown | poisonConsumed | checksumMismatch | streamBusy
  | invalidCode | badField
deriving DecidableEq, Repr

/-- Codes of Table Tiles-5. -/
def Cause.code : Cause → Nat
  | .badOpcode => 0x01 | .descReserved => 0x02 | .badFormat => 0x03 | .align => 0x04 | .scratchRange => 0x05
  | .addressHole => 0x06 | .loopDepth => 0x07 | .stepTimeout => 0x08 | .semOverflow => 0x09 | .scratchParity => 0x0A
  | .peerInvalid => 0x0B | .peerAbsent => 0x0C | .peerHalfDown => 0x0D | .poisonConsumed => 0x0E
  | .checksumMismatch => 0x0F | .streamBusy => 0x10 | .invalidCode => 0x11 | .badField => 0x12

/-- A step descriptor as fetched: 256 bits, DW0 lowest (R33); the four address fields hold the sums of R37. -/
structure Desc where
  w : Nat
  addr : Int
  sa : Int
  sb : Int
  sd : Int
deriving DecidableEq, Repr

def Desc.opcode (d : Desc) : Nat := fld d.w 7 0
def Desc.wsem (d : Desc) : Fin 32 := ⟨fld d.w 12 8, Nat.mod_lt _ (by decide)⟩
def Desc.wen (d : Desc) : Bool := bit d.w 13
def Desc.ssem (d : Desc) : Fin 32 := ⟨fld d.w 18 14, Nat.mod_lt _ (by decide)⟩
def Desc.sen (d : Desc) : Bool := bit d.w 19
def Desc.ord (d : Desc) : Bool := bit d.w 20
def Desc.mod (d : Desc) : Nat := fld d.w 31 24
def Desc.rawAddr (d : Desc) : Nat := fld d.w 79 32
def Desc.count (d : Desc) : Nat := fld d.w 95 80
def Desc.rawSa (d : Desc) : Nat := fld d.w 116 96
def Desc.ae5 (d : Desc) : Bool := bit d.w 117
def Desc.be5 (d : Desc) : Bool := bit d.w 118
/-- DW4 whole: a 32-bit immediate. -/
def Desc.imm (d : Desc) : Nat := fld d.w 159 128
def Desc.rawSb (d : Desc) : Nat := fld d.w 148 128
def Desc.sbReserved (d : Desc) : Nat := fld d.w 159 149
def Desc.rawSd (d : Desc) : Nat := fld d.w 180 160
def Desc.de5 (d : Desc) : Bool := bit d.w 181
def Desc.len (d : Desc) : Nat := fld d.w 223 192
def Desc.m (d : Desc) : Nat := fld d.w 207 192
def Desc.n (d : Desc) : Nat := fld d.w 223 208
def Desc.k (d : Desc) : Nat := fld d.w 239 224
def Desc.fa (d : Desc) : Fmt := Fmt.ofCode (fld d.w 243 240)
def Desc.fb (d : Desc) : Fmt := Fmt.ofCode (fld d.w 247 244)
def Desc.fd (d : Desc) : Fmt := Fmt.ofCode (fld d.w 251 248)
def Desc.rnd (d : Desc) : Nat := fld d.w 253 252

/-- A descriptor with no stride added. -/
def Desc.ofNat (w : Nat) : Desc :=
  ⟨w, fld w 79 32, fld w 116 96, fld w 148 128, fld w 180 160⟩

/-- The fields that an opcode may name (R35). -/
inductive DField where
  | mod | addr | count | sa | ae5 | be5 | sb | sd | de5 | len | k | fa | fb | fd | rnd
deriving DecidableEq, Repr

def Desc.raw (d : Desc) : DField → Nat
  | .mod => d.mod | .addr => d.rawAddr | .count => d.count | .sa => d.rawSa | .ae5 => b2n d.ae5 | .be5 => b2n d.be5
  | .sb => d.imm | .sd => d.rawSd | .de5 => b2n d.de5 | .len => d.len | .k => d.k | .fa => fld d.w 243 240
  | .fb => fld d.w 247 244 | .fd => fld d.w 251 248 | .rnd => d.rnd

def allFields : List DField := [.mod, .addr, .count, .sa, .ae5, .be5, .sb, .sd, .de5, .len, .k, .fa, .fb, .fd, .rnd]

/-- A reserved bit of Table Tiles-2 is set, or a field outside `used` is not zero (R35). -/
def Desc.unusedSet (d : Desc) (used : List DField) : Bool :=
  fld d.w 23 21 != 0 || fld d.w 127 119 != 0 || fld d.w 191 182 != 0 || fld d.w 255 254 != 0 ||
  allFields.any (fun f => !used.contains f && d.raw f != 0)

/-- R90: an E5 flag with a format other than MXFP8. -/
def Desc.badE5 (d : Desc) : Bool :=
  (d.ae5 && d.fa != .mxfp8) || (d.be5 && d.fb != .mxfp8) || (d.de5 && d.fd != .mxfp8)

/-- End of the usable scratch range and of the parameter areas (Table Tiles-9). -/
def scrUsable : Nat := 0x1FF000
def scrParamEnd : Nat := 0x1FF400

/-- R36: a range that a step writes. -/
def wrRangeOk (a : Int) (n : Nat) : Bool := 0 ≤ a && a + n ≤ scrUsable

/-- R36: a range that a step only reads may lie wholly in the parameter areas instead. -/
def rdRangeOk (a : Int) (n : Nat) : Bool := wrRangeOk a n || ((scrUsable : Int) ≤ a && a + n ≤ scrParamEnd)

/-- R36: an ADDR outside the column; ADDR[47:29] must be 0 and the whole range below 0x1800_0000. -/
def holeAddr (a : Int) (n : Nat) : Bool := a < 0 || (2 ^ 29 : Int) ≤ a || (0x18000000 : Int) < a + n

def misaligned (a : Int) (n : Nat) : Bool := a % n != 0

/-- The first rule broken gives the cause (R474). -/
def firstBroken (rules : List (Cause × Bool)) : Option Cause := (rules.find? (·.2)).map (·.1)

/-- FP32 or BF16. -/
def Fmt.isVec (f : Fmt) : Bool := f == .fp32 || f == .bf16

def bytesOf (f : Fmt) : Nat := f.width / 8

/-- FP32 bits that are a positive normal number. -/
def posNormal32 (c : Nat) : Bool := 0x00800000 ≤ c && c < 0x7F800000

-- LAYOUT (R54, R55, R473) -------------------------------------------------------------------------------------------

/-- Lanes P of a LAYOUT kind; 0 for LINEAR. -/
def layoutLanes (kind : Nat) : Nat := match kind with | 1 => 64 | 2 => 32 | 3 => 16 | _ => 0

/-- R54: bytes of one line of a skewed tile. -/
def lineBytes (f : Fmt) (p : Nat) : Nat := p * f.width / 8

/-- R54: bytes that the skewed tile of LEN units per lane occupies. -/
def skewBytes (f : Fmt) (p len : Nat) : Nat := alignUp ((len + p - 1) * lineBytes f p) 64

/-- Scales of one lane of LEN units (R55). -/
def laneScales (f : Fmt) (len : Nat) : Nat :=
  if f.scaleBytes = 0 then 0 else if f.blockLen = 0 then 1 else len / f.blockLen

/-- Bytes of the scales of P lanes. -/
def laneScaleBytes (f : Fmt) (p len : Nat) : Nat := p * laneScales f len * f.scaleBytes

/-- R473: bytes of the whole source of a LAYOUT. -/
def layoutSrcBytes (d : Desc) : Nat :=
  let p := layoutLanes (d.mod % 8)
  if p = 0 then d.len else p * d.k * 64 + laneScaleBytes d.fa p d.len

/-- Bytes that a LAYOUT writes from SD. -/
def layoutDstBytes (d : Desc) : Nat :=
  let p := layoutLanes (d.mod % 8)
  if p = 0 then d.len else skewBytes d.fa p d.len + laneScaleBytes d.fa p d.len

def checkLayout (d : Desc) : Option Cause :=
  let kind := d.mod % 8
  let skew := kind != 0
  let col := d.mod < 128
  firstBroken [
    (.badOpcode, 4 ≤ kind),
    (.descReserved, d.badE5),
    (.badField, skew && (d.k == 0 || d.k * 64 < cdiv (d.len * d.fa.width) 8)),
    (.badField, skew && d.fa.blockLen != 0 && d.len % d.fa.blockLen != 0),
    (.align, misaligned d.sd 64 || misaligned (if col then d.addr else d.sa) 64),
    (.addressHole, col && holeAddr d.addr (layoutSrcBytes d)),
    (.scratchRange, !wrRangeOk d.sd (layoutDstBytes d) || (!col && !rdRangeOk d.sa (layoutSrcBytes d))),
    (.descReserved, fld d.mod 6 3 != 0 ||
      d.unusedSet [.mod, if col then .addr else .sa, .sd, .len, .k, .fa])]

-- MATMUL (R92–R95) --------------------------------------------------------------------------------------------------

/-- Rows R of a shape. -/
def shapeRows (mod : Nat) : Nat := match mod % 4 with | 0 => 64 | 1 => 32 | _ => 16

/-- Units of one lane of K elements: a TRIT unit is a byte of five. -/
def laneUnits (f : Fmt) (k : Nat) : Nat := if f = .trit then cdiv k 5 else k

/-- R93: bytes of one operand tile with its scale area, rounded up to 64. -/
def operandTile (f : Fmt) (r k : Nat) : Nat :=
  skewBytes f r (laneUnits f k) + alignUp (r * f.scalesPerRow k * f.scaleBytes) 64

/-- R93: bytes of an operand region of `n` tiles, with its tensor-scale line. -/
def operandRegion (f : Fmt) (r k n : Nat) : Nat := n * operandTile f r k + (if f = .gl4 then 64 else 0)

/-- Number of B tiles: C / R. -/
def bTiles (mod : Nat) : Nat := 4096 / shapeRows mod / shapeRows mod

/-- R94: the row stride of D. -/
def dStride (d : Desc) : Nat := alignUp (d.n * bytesOf d.fd) 64

/-- R94: bytes from the first to the last byte of D. -/
def dBytes (d : Desc) : Nat := if d.m = 0 then 0 else (d.m - 1) * dStride d + d.n * bytesOf d.fd

/-- R83: a format that MATMUL takes. -/
def Fmt.arrayOk (f : Fmt) : Bool := f != .fp32 && f != .int32

/-- R85: an output format of MATMUL. -/
def Fmt.outOk (f : Fmt) : Bool :=
  f == .fp32 || f == .fp16 || f == .bf16 || f == .e4m3 || f == .e5m2 || f == .int32

/-- R85: INT32 output needs INT8, INT4 or TRIT operands. -/
def Fmt.intIn (f : Fmt) : Bool := f == .int8 || f == .int4 || f == .trit

def matmulABytes (d : Desc) : Nat := operandRegion d.fa (shapeRows d.mod) d.k 1
def matmulBBytes (d : Desc) : Nat := operandRegion d.fb (shapeRows d.mod) d.k (bTiles d.mod)

def checkMatmul (d : Desc) : Option Cause :=
  let r := shapeRows d.mod
  let overlapI := fun (a : Int) (n : Nat) => d.sd < a + n && a < d.sd + dBytes d
  firstBroken [
    (.badOpcode, d.mod % 4 == 3),
    (.badFormat, !d.fa.arrayOk || !d.fb.arrayOk || !d.fd.outOk || (d.fd == .int32 && !(d.fa.intIn && d.fb.intIn))),
    (.descReserved, d.badE5),
    (.badField, d.m == 0 || r < d.m || d.n == 0 || 4096 / r < d.n),
    (.badField, d.k == 0 || !d.fa.kOk d.k || !d.fb.kOk d.k),
    (.badField, 2 ≤ d.rnd),
    (.badField, overlapI d.sa (matmulABytes d) || overlapI d.sb (matmulBBytes d)),
    (.align, misaligned d.sa 64 || misaligned d.sb 64 || misaligned d.sd 64),
    (.scratchRange, !rdRangeOk d.sa (matmulABytes d) || !rdRangeOk d.sb (matmulBBytes d) || !wrRangeOk d.sd (dBytes d)),
    (.descReserved, d.mod / 16 != 0 || d.sbReserved != 0 ||
      d.unusedSet [.mod, .sa, .sb, .sd, .len, .k, .fa, .fb, .fd, .rnd, .ae5, .be5])]

-- ATTEND (R124–R128) ------------------------------------------------------------------------------------------------

/-- R117: tokens that a page holds. -/
def tokensPerPage (dim e : Nat) : Nat := if dim * e = 0 then 0 else 16320 / (dim * e)

/-- Element bytes of a KV format: 1 for KV8 (FP8-E4M3), 2 for KV16 (BF16). -/
def kvBytes (f : Fmt) : Nat := if f = .e4m3 then 1 else 2

def isKvFmt (f : Fmt) : Bool := f == .bf16 || f == .e4m3

def headDimOk (n : Nat) : Bool := n == 64 || n == 128 || n == 256

def attG (d : Desc) : Nat := fld d.len 15 0
def attLast (d : Desc) : Nat := fld d.len 31 16
def attOut (d : Desc) : Nat := d.mod % 4
def attMask (d : Desc) : Nat := d.mod / 4 % 4

def checkAttend (d : Desc) : Option Cause :=
  let merge := attOut d == 2
  firstBroken [
    (.badOpcode, attOut d == 3 || attMask d == 3 || (merge && attMask d != 0)),
    (.badFormat, !isKvFmt d.fb || !(if merge then d.fa == .fp32 else d.fa.isVec) ||
      !(if attOut d == 1 then d.fd == .fp32 else d.fd.isVec)),
    (.descReserved, d.badE5),
    (.badField, d.count == 0 || (if merge then 256 else 4096) < d.count),
    (.badField, attG d == 0 || 16 < attG d || !headDimOk d.k),
    (.badField, !merge && (attLast d == 0 || tokensPerPage d.k (kvBytes d.fb) < attLast d)),
    (.align, misaligned d.sa 64 || (!merge && misaligned d.sb 64) || misaligned d.sd 64),
    (.scratchRange, !rdRangeOk d.sa 64 || (!merge && !rdRangeOk d.sb (8 * d.count)) || !wrRangeOk d.sd 0),
    (.descReserved, d.mod / 16 != 0 || (merge && (attLast d != 0 || d.imm != 0)) || d.sbReserved != 0 ||
      d.unusedSet [.mod, .sa, .sb, .sd, .count, .len, .k, .fa, .fb, .fd])]

-- VEC (R46, R87, R88) -----------------------------------------------------------------------------------------------

/-- The vector operations of Table Tiles-7. -/
def vecModOk (m : Nat) : Bool :=
  m ≤ 0x0B || (0x10 ≤ m && m ≤ 0x17) || (0x20 ≤ m && m ≤ 0x22) || (0x28 ≤ m && m ≤ 0x2B) || m == 0x30 || m == 0x31 ||
    m == 0x38

/-- Operations on segments of K. -/
def vecSegment (m : Nat) : Bool := (0x20 ≤ m && m ≤ 0x22) || m == 0x28 || m == 0x29 || m == 0x2A || m == 0x38

/-- Bytes of operand B read at SB; 0 where the operation has none. -/
def vecBBytes (d : Desc) : Nat :=
  match d.mod with
  | 0x01 | 0x02 | 0x03 | 0x04 | 0x05 | 0x06 | 0x2B => d.len * bytesOf d.fb
  | 0x28 => d.k * bytesOf d.fb
  | 0x2A => 8 * (d.k / 2)
  | 0x31 => if d.fd = .lut4 && d.k != 0 then 16 * (d.len / d.k * (d.k / 256)) else 0
  | _ => 0

/-- Does the operation name a scratch operand at SB? -/
def vecUsesB (d : Desc) : Bool :=
  match d.mod with
  | 0x01 | 0x02 | 0x03 | 0x04 | 0x05 | 0x06 | 0x28 | 0x2A | 0x2B => true
  | 0x31 => d.fd == .lut4
  | _ => false

/-- The row length of CVT: K where the source has scales, else the whole of LEN. -/
def cvtRow (d : Desc) : Nat := if d.fa.scaleBytes = 0 then d.len else d.k

/-- Bytes of operand A from SA. -/
def vecABytes (d : Desc) : Nat :=
  if d.mod = 0x30 then
    let k := cvtRow d
    if k = 0 then 0 else tensorEnd d.fa d.sa.toNat (d.len / k) k - d.sa.toNat
  else d.len * bytesOf d.fa

/-- Bytes of the destination from SD. -/
def vecDBytes (d : Desc) : Nat :=
  if d.mod = 0x31 then (if d.k = 0 then 0 else tensorEnd d.fd d.sd.toNat (d.len / d.k) d.k - d.sd.toNat)
  else if 0x20 ≤ d.mod && d.mod ≤ 0x22 then (if d.k = 0 then 0 else d.len / d.k * bytesOf d.fd)
  else d.len * bytesOf d.fd

def quantTarget (f : Fmt) : Bool :=
  match f with
  | .mxfp8 | .e3m2 | .e2m3 | .mxfp4 | .mxint8 | .int8 | .int4 | .gl4 | .lut4 | .trit => true
  | _ => false

def checkVec (d : Desc) : Option Cause :=
  let m := d.mod
  let isCvt := m == 0x30
  let isQ := m == 0x31
  firstBroken [
    (.badOpcode, !vecModOk m),
    (.badFormat, if isCvt then !d.fd.outOk
                 else if isQ then !(d.fa.isVec && quantTarget d.fd)
                 else !(d.fa.isVec && d.fb.isVec && d.fd.isVec)),
    (.descReserved, d.badE5),
    (.badField, 2 ≤ d.rnd),
    (.badField, (vecSegment m || isQ || (isCvt && d.fa.scaleBytes != 0)) && (d.k == 0 || d.len % d.k != 0)),
    (.badField, m == 0x2A && d.k % 2 == 1),
    (.badField, (isCvt && d.fa.scaleBytes != 0 && !d.fa.kOk d.k) || (isQ && !d.fd.kOk d.k)),
    (.badField, isQ && d.fd == .gl4 && !posNormal32 d.imm),
    (.scratchRange, !rdRangeOk d.sa (vecABytes d) || (vecUsesB d && !rdRangeOk d.sb (vecBBytes d)) ||
      !wrRangeOk d.sd (vecDBytes d)),
    (.descReserved, (vecUsesB d && d.sbReserved != 0) ||
      d.unusedSet [.mod, .sa, .sb, .sd, .len, .k, .fa, .fb, .fd, .rnd, .ae5, .be5, .de5])]

-- NB (R120, R121, R172, R179) ---------------------------------------------------------------------------------------

/-- Row stride of a source of `n` elements of format f in scratch. -/
def srcStride (f : Fmt) (n : Nat) : Nat := alignUp (n * bytesOf f) 64

/-- Bytes of `rows` source rows of n elements. -/
def srcBytes (f : Fmt) (rows n : Nat) : Nat := if rows = 0 then 0 else (rows - 1) * srcStride f n + n * bytesOf f

/-- Scratch ranges (SA, SB, SD lengths) that an NB operation names. -/
def nbRanges (d : Desc) : Nat × Nat × Nat :=
  match d.mod with
  | 1 => (0, 0, d.len * bytesOf d.fd)
  | 2 => (srcBytes d.fa d.count d.len, 4, 0)
  | 3 => (4 * d.count, 0, d.count * d.len)
  | 4 => (if d.len = 64 then 64 else 0, 0, 0)
  | 5 => (srcBytes d.fa d.count d.len, 8, 0)
  | 6 => (0, 0, 8 * d.count)
  | _ => (0, 0, 64)

/-- Fields of Table DRAM-7 and R120 that an NB operation uses. -/
def nbUsed (d : Desc) : List DField :=
  match d.mod with
  | 1 => [.mod, .addr, .count, .sd, .len, .fa, .fd]
  | 2 => [.mod, .addr, .count, .sa, .sb, .len, .fa, .fd]
  | 3 => [.mod, .addr, .count, .sa, .sd, .len]
  | 4 => if d.len = 64 then [.mod, .addr, .count, .sa, .len] else [.mod, .addr, .count, .len]
  | 5 => [.mod, .addr, .count, .sa, .sb, .len, .fa, .fd]
  | 6 => [.mod, .addr, .count, .sd, .len, .fa, .fd]
  | _ => [.mod, .addr, .count, .sd]

def nbFieldOk (d : Desc) : Bool :=
  let rows := 1 ≤ d.count && d.count ≤ 4096
  match d.mod with
  | 1 | 6 => rows && 1 ≤ d.len && d.len * bytesOf d.fa ≤ 1024
  | 2 => rows && 1 ≤ d.len && d.len * bytesOf d.fd ≤ 1024
  | 3 => rows && 64 ≤ d.len && d.len ≤ 1024 && d.len % 64 == 0
  | 4 => rows && (d.len == 0 || d.len == 64)
  | 5 => headDimOk d.len && 1 ≤ d.count && d.count ≤ tokensPerPage d.len (kvBytes d.fd)
  | _ => rows

def checkNb (d : Desc) : Option Cause :=
  let (na, nb, nd) := nbRanges d
  let u := nbUsed d
  let kv := d.mod == 5
  let past := fun (a : Int) (n : Nat) => n != 0 && nd != 0 && decide (d.sd < a + n) && decide (a < d.sd + nd)
  firstBroken [
    (.badOpcode, d.mod == 0 || 7 < d.mod),
    (.badFormat, (u.contains .fa && !d.fa.isVec) ||
      (u.contains .fd && !(if kv then isKvFmt d.fd else if d.mod == 6 then d.fd == .fp32 else d.fd.isVec))),
    (.descReserved, d.badE5),
    (.badField, !nbFieldOk d),
    (.badField, (u.contains .sa && past d.sa na) || (u.contains .sb && past d.sb nb)),
    (.align, misaligned d.addr (if kv then 16384 else 1024) || misaligned d.sa 64 || misaligned d.sb 64 || misaligned d.sd 64),
    (.addressHole, holeAddr d.addr (if kv then 16384 else d.count * 1024)),
    (.scratchRange, (u.contains .sa && !rdRangeOk d.sa na) || (u.contains .sb && !rdRangeOk d.sb nb) ||
      (u.contains .sd && !wrRangeOk d.sd nd)),
    (.descReserved, (u.contains .sb && d.sbReserved != 0) || d.unusedSet u)]

-- Row moves, SEND, SAMPLE and the control opcodes --------------------------------------------------------------------

def checkRowMove (d : Desc) (load : Bool) : Option Cause :=
  let a := if load then d.sd else d.sa
  let ok := if load then wrRangeOk a (d.count * 1024) else rdRangeOk a (d.count * 1024)
  firstBroken [
    (.descReserved, d.badE5),
    (.badField, d.count == 0 || 4096 < d.count),
    (.align, misaligned d.addr 1024 || misaligned a 64),
    (.addressHole, holeAddr d.addr (d.count * 1024)),
    (.scratchRange, !ok),
    (.descReserved, d.unusedSet [.addr, .count, if load then .sd else .sa])]

/-- SEND: PEER, DSEM, DSEN in ADDR (Table Tiles-4). -/
def sendPeer (d : Desc) : Fin 256 := ⟨fld d.rawAddr 7 0, Nat.mod_lt _ (by decide)⟩
def sendDsem (d : Desc) : Fin 32 := ⟨fld d.rawAddr 12 8, Nat.mod_lt _ (by decide)⟩
def sendDsen (d : Desc) : Bool := bit d.rawAddr 13

def checkSend (d : Desc) : Option Cause :=
  firstBroken [
    (.descReserved, d.badE5),
    (.align, misaligned d.sa 64 || misaligned d.sd 64 || d.len % 64 != 0),
    (.scratchRange, !rdRangeOk d.sa d.len || !wrRangeOk d.sd d.len),
    (.descReserved, d.rawAddr / 2 ^ 14 != 0 || d.unusedSet [.addr, .sa, .sd, .len])]

/-- Row stride of SAMPLE logits. -/
def sampleStride (d : Desc) : Nat := alignUp (d.len * bytesOf d.fa) 64

def checkSample (d : Desc) : Option Cause :=
  let n := if d.count = 0 then 0 else (d.count - 1) * sampleStride d + d.len * bytesOf d.fa
  -- VOCAB_BASE after the strides, apart from the unused bits of ADDR above it
  let vocab : Int := d.addr - (d.rawAddr / 2 ^ 32 * 2 ^ 32 : Nat)
  firstBroken [
    (.badFormat, !d.fa.isVec),
    (.descReserved, d.badE5),
    (.badField, d.count == 0 || 256 < d.count || d.len == 0 || vocab < 0 || (2 ^ 32 : Int) ≤ vocab),
    (.scratchRange, !rdRangeOk d.sa n || !rdRangeOk d.sb (2 * d.count)),
    (.descReserved, d.rawAddr / 2 ^ 32 != 0 || d.sbReserved != 0 ||
      d.unusedSet [.addr, .count, .sa, .sb, .len, .fa])]

def checkControl (d : Desc) : Option Cause :=
  match d.opcode with
  | 0x50 | 0x51 =>
    firstBroken [
      (.descReserved, d.badE5),
      (.badField, !(if d.opcode = 0x50 then d.wen else d.sen) || d.len == 0 || 65535 < d.len),
      (.descReserved, d.unusedSet [.len])]
  | 0x52 =>
    firstBroken [(.badOpcode, 3 < d.mod), (.descReserved, d.badE5), (.descReserved, d.unusedSet [.mod])]
  | 0x60 =>
    firstBroken [
      (.descReserved, d.badE5),
      (.badField, d.count == 0 || d.len % 256 == 0),
      (.descReserved, d.len / 256 != 0 || d.sbReserved != 0 || d.unusedSet [.addr, .count, .sa, .sb, .sd, .len])]
  | _ => firstBroken [(.descReserved, d.badE5), (.descReserved, d.unusedSet [])]

/-- R474: the cause that keeps a descriptor from issuing, if any (LOOP_DEPTH is found from the loop state). -/
def checkDesc (d : Desc) : Option Cause :=
  match d.opcode with
  | 0x00 | 0x50 | 0x51 | 0x52 | 0x60 | 0x7F => checkControl d
  | 0x01 => checkRowMove d true
  | 0x02 => checkRowMove d false
  | 0x03 => checkLayout d
  | 0x10 => checkMatmul d
  | 0x18 => checkAttend d
  | 0x20 => checkVec d
  | 0x30 => checkNb d
  | 0x40 => checkSend d
  | 0x48 => checkSample d
  | _ => some .badOpcode

/-- R37: the address fields that the strides of a LOOP change, by opcode and operation. -/
def stridedFields (d : Desc) : List DField :=
  match d.opcode with
  | 0x01 => [.addr, .sd]
  | 0x02 => [.addr, .sa]
  | 0x03 => [if d.mod < 128 then .addr else .sa, .sd]
  | 0x10 => [.sa, .sb, .sd]
  | 0x18 => if d.mod % 4 = 2 then [.sa, .sd] else [.sa, .sb, .sd]
  | 0x20 => if vecUsesB d then [.sa, .sb, .sd] else [.sa, .sd]
  | 0x30 => (nbUsed d).filter (fun f => f == .addr || f == .sa || f == .sb || f == .sd)
  | 0x40 => [.sa, .sd]
  | 0x48 => [.addr, .sa, .sb]
  | _ => []

/-- R37: the strides of the active loops added, without wrap. -/
def Desc.withStrides (d : Desc) (loops : List LoopFrame) : Desc :=
  let fs := stridedFields d
  loops.foldl (fun d f =>
    { d with
      addr := if fs.contains .addr then d.addr + f.iter * f.addr else d.addr
      sa := if fs.contains .sa then d.sa + f.iter * f.sa else d.sa
      sb := if fs.contains .sb then d.sb + f.iter * f.sb else d.sb
      sd := if fs.contains .sd then d.sd + f.iter * f.sd else d.sd }) d

end Sys2Proof.Machine
end

