-- ==== Sys2Proof/Machine/ArrayMath.lean ====
section
/-! DEFINITION. The arithmetic of the matrix array: operand regions (R92, R93), exact block accumulation (R99–R105), invalid
codes (R89, R96) and the debug capture (R115); and the skewing of the layout engine (R54, R55). -/

namespace Sys2Proof.Machine

/-- R54: unit u of lane p in a skewed tile at `base`. -/
def skewUnit (rd : Rd) (base : Nat) (f : Fmt) (r p u : Nat) : Nat :=
  rdBits rd (base + (u + p) * lineBytes f r) (p * f.width) f.width

/-- An operand tile: base of its skewed tile, format, E5 flag, lanes R, inner dimension K. -/
structure OpTile where
  base : Nat
  fmt : Fmt
  e5 : Bool
  r : Nat
  k : Nat
deriving DecidableEq, Repr

/-- R93: the scale area of an operand tile. -/
def OpTile.scales (o : OpTile) : Nat := o.base + skewBytes o.fmt o.r (laneUnits o.fmt o.k)

/-- R93: the address of the scale of lane p that covers element k. -/
def OpTile.scaleAddr (o : OpTile) (p k : Nat) : Nat :=
  o.scales + (p * o.fmt.scalesPerRow o.k + (if o.fmt.blockLen = 0 then 0 else k / o.fmt.blockLen)) * o.fmt.scaleBytes

/-- R82: element k of lane p, before its scale. -/
def OpTile.elem (o : OpTile) (rd : Rd) (p k : Nat) : Val :=
  match o.fmt with
  | .trit => tritElem (skewUnit rd o.base .trit o.r p (k / 5)) (k % 5)
  | .lut4 => e4m3F.decode (rd (o.scaleAddr p k + skewUnit rd o.base .lut4 o.r p k))
  | f => f.elem o.e5 (skewUnit rd o.base f o.r p k)

/-- The block or row scale of lane p at element k; 1 for LUT4 and formats without scales (R103). -/
def OpTile.scale (o : OpTile) (rd : Rd) (p k : Nat) : Val :=
  if o.fmt.scaleBytes = 0 || o.fmt = .lut4 then .fin false ⟨1, 0⟩
  else o.fmt.scaleValue (rdLe rd (o.scaleAddr p k) o.fmt.scaleBytes)

/-- The first of the invalid codes found, as (line on which it is consumed, address): the earliest line, and on one line the one listed
first. -/
def firstOnLine (l : List (Nat × Nat)) : Option (Nat × Nat) :=
  l.foldl (fun best c =>
    match best with
    | none => some c
    | some b => if c.1 < b.1 then some c else some b) none

/-- R89, R96: the invalid TRIT bytes or codebooks of a tile, padding included, each with the line on which the array consumes it. -/
def OpTile.invalidCodes (o : OpTile) (rd : Rd) : List (Nat × Nat) :=
  match o.fmt with
  | .trit =>
    ((List.range ((laneUnits .trit o.k + o.r - 1) * lineBytes .trit o.r)).filter (fun i => tritInvalid (rd (o.base + i)))).map
      (fun i => (i / lineBytes .trit o.r, o.base + i))
  | .lut4 =>
    let n := o.fmt.scalesPerRow o.k
    ((List.range (o.r * n)).filter (fun i => codebookInvalid rd (o.scales + 16 * i))).map
      (fun i => (256 * (i % n) + i / n, o.scales + 16 * i))
  | _ => []

/-- R93, R96: the line on which the array consumes the byte at `a` of an operand tile: the lines of the skewed tile, and each scale with the
first element that it covers. None for a byte that the array does not read. -/
def OpTile.lineOf (o : OpTile) (a : Nat) : Option Nat :=
  let lb := lineBytes o.fmt o.r
  let n := o.fmt.scalesPerRow o.k
  if a < o.base || lb = 0 then none
  else if a < o.base + (laneUnits o.fmt o.k + o.r - 1) * lb then some ((a - o.base) / lb)
  else if a < o.scales || o.scales + o.r * n * o.fmt.scaleBytes ≤ a then none
  else
    let j := (a - o.scales) / o.fmt.scaleBytes
    some (j / n + j % n * o.fmt.blockLen)

/-- The codebook that the edge converter holds for lane p once its last group has been loaded. -/
def OpTile.book (o : OpTile) (rd : Rd) (p : Nat) : BitVec 128 := BitVec.ofNat 128 (rdLe rd (o.scaleAddr p (o.k - 1)) 16)

/-- R91: the codebooks of an operand's lanes; none for an operand without codebooks. -/
def OpTile.books (o : OpTile) (rd : Rd) : List (BitVec 128) :=
  if o.fmt = .lut4 then (List.range o.r).map (o.book rd) else []

/-- R99: the accumulation block length Q. -/
def accBlock (a b : Fmt) : Nat :=
  if a = .gl4 || b = .gl4 then 16
  else if a.blockLen = 32 || b.blockLen = 32 then 32 else 64

/-- Marks of one output element (R102). -/
structure Marks where
  nan : Bool
  pos : Bool
  neg : Bool
deriving DecidableEq, Repr

/-- R102: the product of elements `a` and `b`, one of which is marked, as the marks judge it: with the scales of its block or without them
(Config.marksScaled). -/
def markProduct (xa xb a b : Val) : Val := if Config.marksScaled then (a.mul xa).mul (b.mul xb) else a.mul b

/-- R101, R102: the block register S_b and the marks of the products k0 to k1 − 1, under the scales of the block. -/
def blockSum (xa xb : Val) (a b : Nat → Val) (k0 k1 : Nat) : Dy × Marks :=
  (List.range (k1 - k0)).foldl (fun (p : Dy × Marks) i =>
    match (a (k0 + i)).mul (b (k0 + i)) with
    | .fin _ d => (p.1.add d, p.2)
    | _ =>
      match markProduct xa xb (a (k0 + i)) (b (k0 + i)) with
      | .inf n => (p.1, if n then { p.2 with neg := true } else { p.2 with pos := true })
      | _ => (p.1, { p.2 with nan := true }))
    (Dy.zero, ⟨false, false, false⟩)

/-- The accumulation of one output element: acc in WF52, the exact sum of the S_b, the marks, and acc after block
`cap` (or the last). -/
structure AccSt where
  acc : Val
  isum : Dy
  marks : Marks
  captured : Val
deriving DecidableEq, Repr

/-- R103: one block combined. `int` applies no scale (R105). -/
def combineBlock (int : Bool) (xa xb : Val) (s : Dy) (m : Marks) (st : AccSt) : AccSt :=
  let m0 : Marks := ⟨st.marks.nan || m.nan, st.marks.pos || m.pos, st.marks.neg || m.neg⟩
  if xa.isNaN || xb.isNaN then { st with marks := { m0 with nan := true }, isum := st.isum.add s }
  else if int then { st with marks := m0, isum := st.isum.add s }
  else if xa.isInf || xb.isInf then
    if s.isZero then { st with marks := { m0 with nan := true } }
    else
      let neg := (decide (s.m < 0) != (xa.sgn != xb.sgn))
      { st with marks := if neg then { m0 with neg := true } else { m0 with pos := true } }
  else
    let v := rnW (Val.ofDy false ((s.mul xa.dy).mul xb.dy))
    { st with acc := rnW (st.acc.add v), marks := m0 }

/-- R99–R103: one output element of lanes i of A and j of B. -/
def accumulate (rd : Rd) (oa ob : OpTile) (i j cap : Nat) (int : Bool) : AccSt :=
  let q := accBlock oa.fmt ob.fmt
  let k := oa.k
  let nb := cdiv k q
  (List.range nb).foldl (fun st b =>
    let k0 := q * b
    let xa := oa.scale rd i k0
    let xb := ob.scale rd j k0
    let (s, m) := blockSum xa xb (oa.elem rd i) (ob.elem rd j) k0 (Nat.min k (k0 + q))
    let st := combineBlock int xa xb s m st
    if b ≤ cap then { st with captured := st.acc } else st)
    { acc := Val.zero, isum := Dy.zero, marks := ⟨false, false, false⟩, captured := Val.zero }

/-- R104, R105: the code written for one output element; `dv` is the old value of D, +0 without accumulation. -/
def arrayResult (fd : Fmt) (r : Rnd) (ta tb dv : Val) (st : AccSt) : Cv :=
  match fd with
  | .int32 =>
    if st.marks.nan then ⟨0, 0, 1⟩ else convInt r 32 false (Val.ofDy false (st.isum.add dv.dy))
  | _ =>
    let v : Val :=
      if st.marks.nan || (st.marks.pos && st.marks.neg) || dv.isNaN ||
          (dv.isInf && ((dv.sgn && st.marks.pos) || (!dv.sgn && st.marks.neg))) then .nan
      else if st.marks.pos then .inf false
      else if st.marks.neg then .inf true
      else if dv.isInf then dv
      else
        let e := dv.dy.add ((ta.dy.mul tb.dy).mul st.acc.dy)
        Val.ofDy false e
    let c := fd.convTo r v
    -- a finite result that is exactly zero is written as +0
    match v with
    | .fin _ d => if d.isZero then ⟨0, 0, 0⟩ else c
    | _ => c

/-- The A tile of a MATMUL. -/
def matA (d : Desc) : OpTile := ⟨d.sa.toNat, d.fa, d.ae5, shapeRows d.mod, d.k⟩

/-- B tile s of a MATMUL. -/
def matB (d : Desc) (s : Nat) : OpTile :=
  ⟨d.sb.toNat + s * operandTile d.fb (shapeRows d.mod) d.k, d.fb, d.be5, shapeRows d.mod, d.k⟩

/-- R93: the tensor scale of an operand: the first 4 bytes of the line after its region, for GL4. -/
def tensorScale (rd : Rd) (f : Fmt) (line : Nat) : Nat := if f = .gl4 then rdLe rd line 4 else 0x3F800000

def matTAAt (d : Desc) : Nat := d.sa.toNat + matmulABytes d - 64
def matTBAt (d : Desc) : Nat := d.sb.toNat + matmulBBytes d - 64

def matTA (rd : Rd) (d : Desc) : Nat := tensorScale rd d.fa (matTAAt d)
def matTB (rd : Rd) (d : Desc) : Nat := tensorScale rd d.fb (matTBAt d)

/-- R95: a GL4 tensor scale must be positive and normal. -/
def tensorScalesOk (rd : Rd) (d : Desc) : Bool := posNormal32 (matTA rd d) && posNormal32 (matTB rd d)

/-- R89, R96: the invalid codes that the array consumes, each with its line, those of A before those of B. -/
def matCodes (rd : Rd) (d : Desc) : List (Nat × Nat) :=
  (matA d).invalidCodes rd ++ (List.range (bTiles d.mod)).flatMap (fun s => (matB d s).invalidCodes rd)

/-- The address of the first invalid code: the earliest line, and on one line A before B. -/
def matInvalid (rd : Rd) (d : Desc) : Option Nat := (firstOnLine (matCodes rd d)).map (·.2)

/-- Lines of the longer operand of a MATMUL. -/
def matLines (d : Desc) : Nat := Nat.max (laneUnits d.fa d.k) (laneUnits d.fb d.k) + 2 * shapeRows d.mod - 2

/-- R93–R96, R104: when a MATMUL reads the byte at `a`: 0 and 1 for the tensor scales of A and B, 2 + t for line t, and after the last line D,
row by row. None for a byte that it does not read. -/
def matKeys (d : Desc) (a : Nat) : List Nat :=
  let w := bytesOf d.fd
  let sd := d.sd.toNat
  (if d.fa = .gl4 && decide (matTAAt d ≤ a) && decide (a < matTAAt d + 4) then [0] else []) ++
  (if d.fb = .gl4 && decide (matTBAt d ≤ a) && decide (a < matTBAt d + 4) then [1] else []) ++
  ((matA d).lineOf a).toList.map (· + 2) ++
  (if d.sb.toNat ≤ a then
    let s := (a - d.sb.toNat) / operandTile d.fb (shapeRows d.mod) d.k
    if s < bTiles d.mod then ((matB d s).lineOf a).toList.map (· + 2) else []
  else []) ++
  (if bit d.mod 2 && decide (sd ≤ a) && decide ((a - sd) / dStride d < d.m) && decide ((a - sd) % dStride d < d.n * w) then
    [matLines d + 2 + (a - sd) / dStride d] else [])

/-- The line after which acc of element (row, col) is complete up to block `blk`: its last product meets there. -/
def captureLine (d : Desc) (row col blk : Nat) : Nat :=
  let k := Nat.min d.k (accBlock d.fa d.fb * (blk + 1)) - 1
  (if d.fa = .trit && d.fb = .trit then k / 5 else k) + row + col % shapeRows d.mod

/-- The accumulation of output element (i, j). -/
def matElem (rd : Rd) (d : Desc) (i j cap : Nat) : AccSt :=
  let r := shapeRows d.mod
  accumulate rd (matA d) (matB d (j / r)) i (j % r) cap (d.fd == .int32)

/-- R94, R104: the D rows of a MATMUL as writes, with their events. -/
def matmulOut (rd : Rd) (d : Desc) : DataOut :=
  let w := bytesOf d.fd
  let rows := (List.range d.m).map (fun i =>
    let base := d.sd.toNat + i * dStride d
    let cs := (List.range d.n).map (fun j =>
      let dv := if bit d.mod 2 then d.fd.elem false (rdLe rd (base + j * w) w) else Val.zero
      arrayResult d.fd (Rnd.ofField d.rnd) (fp32F.decode (matTA rd d)) (fp32F.decode (matTB rd d)) dv
        (matElem rd d i j 0))
    (base, cs))
  { writes := rows.map (fun p => (p.1, codeBytes w (p.2.map (·.code))))
    sat := (rows.map (fun p => (p.2.map (·.sat)).sum)).sum
    nan := (rows.map (fun p => (p.2.map (·.nan)).sum)).sum
    invalid := matInvalid rd d }

/-- R81, R115: the captured WF52 code of element (row, col) after block `blk` or the last. -/
def matCapture (rd : Rd) (d : Desc) (row col blk : Nat) : BitVec 52 :=
  BitVec.ofNat 52 (wf52F.conv .nearest (matElem rd d row col blk).captured).code

/-- R54: the skewed tile of P lanes of LEN units, source lane p at `src + p × K × 64`. -/
def skewTile (rd : Rd) (src : Nat) (f : Fmt) (p len k : Nat) : List Byte :=
  let b := lineBytes f p
  let lines := (List.range (len + p - 1)).flatMap (fun t =>
    let bits := (List.range p).foldl (fun acc q =>
      if q ≤ t && t - q < len then
        acc + rdBits rd (src + q * k * 64) ((t - q) * f.width) f.width * 2 ^ (q * f.width)
      else acc) 0
    leBytes b bits)
  padTo (skewBytes f p len) lines

/-- R89: the first invalid code that a skew LAYOUT consumes from its source. -/
def skewInvalid (rd : Rd) (src : Nat) (f : Fmt) (p len k : Nat) : Option Nat :=
  match f with
  | .trit => (List.range p).findSome? (fun q =>
      ((List.range len).find? (fun i => tritInvalid (rd (src + q * k * 64 + i)))).map (fun i => src + q * k * 64 + i))
  | .lut4 =>
    let area := src + p * k * 64
    ((List.range (p * laneScales .lut4 len)).find? (fun i => codebookInvalid rd (area + 16 * i))).map
      (fun i => area + 16 * i)
  | _ => none

/-- R54, R55: what a skew LAYOUT writes at SD. -/
def skewOut (rd : Rd) (d : Desc) (src : Nat) : DataOut :=
  let p := layoutLanes (d.mod % 8)
  let tile := skewTile rd src d.fa p d.len d.k
  let area := src + p * d.k * 64
  let scales := (List.range (laneScaleBytes d.fa p d.len)).map (fun i => BitVec.ofNat 8 (rd (area + i)))
  { writes := [(d.sd.toNat, tile), (d.sd.toNat + tile.length, scales)], sat := 0, nan := 0
    invalid := skewInvalid rd src d.fa p d.len d.k }

end Sys2Proof.Machine
end

