-- ==== Sys2Proof/Machine/AttendMath.lean ====
section
/-! DEFINITION. The arithmetic of the attention engine (R124–R132) and of KV_APPEND (R120–R122), over readers of scratch
bytes and of page bytes. -/

namespace Sys2Proof.Machine

/-- The page header of Table Attention-1. -/
structure PageHeader where
  scale : Nat
  pos0 : Nat
  kvf : Nat
  count : Nat
  ownerSlot : Nat
  ownerGen : Nat
deriving DecidableEq, Repr

def PageHeader.ofBytes (bs : List Byte) : PageHeader :=
  { scale := leAt bs 0 4, pos0 := leAt bs 4 4 % 2 ^ 20, kvf := fld (leAt bs 4 4) 29 28, count := leAt bs 8 2,
    ownerSlot := leAt bs 12 2, ownerGen := leAt bs 14 2 }

def PageHeader.toBytes (h : PageHeader) : List Byte :=
  leBytes 4 h.scale ++ leBytes 4 (h.pos0 + h.kvf * 2 ^ 28) ++ leBytes 4 h.count ++ leBytes 2 h.ownerSlot ++
    leBytes 2 h.ownerGen ++ List.replicate 48 0

/-- The query block header of Table Attention-4. -/
structure QueryHeader where
  sigma : Nat
  nq : Nat
  pageOff : Nat
  slice : Nat
  window : Nat
  reservedSet : Bool
deriving DecidableEq, Repr

def QueryHeader.read (rd : Rd) (a : Nat) : QueryHeader :=
  { sigma := rdLe rd a 4, nq := rdLe rd (a + 4) 2, pageOff := rdLe rd (a + 6) 2, slice := rdLe rd (a + 8) 2,
    window := rdLe rd (a + 12) 4 % 2 ^ 21
    reservedSet := rdLe rd (a + 10) 2 != 0 || rdLe rd (a + 12) 4 / 2 ^ 21 != 0 ||
      (List.range 48).any (fun i => rd (a + 16 + i) != 0) }

/-- A page-list entry of Table Attention-5. -/
structure PageEntry where
  base : Nat
  direct : Bool
  pos0 : Nat
  reservedSet : Bool
deriving DecidableEq, Repr

def PageEntry.ofNat (w : Nat) : PageEntry :=
  { base := w % 2 ^ 15, direct := bit w 15, pos0 := fld w 51 32,
    reservedSet := fld w 31 16 != 0 || fld w 63 52 != 0 }

/-- R126: the K page of an entry. -/
def PageEntry.kPage (e : PageEntry) (h : QueryHeader) : Nat :=
  if e.direct then e.base + (if h.slice = 0 then 0 else h.pageOff % h.slice) else e.base + h.pageOff

/-- R125: address of query position n, and of query row r. -/
def qPosAddr (sa n : Nat) : Nat := sa + 64 + 4 * n
def qRowsAt (sa nq : Nat) : Nat := sa + 64 + alignUp (4 * nq) 64
def qRowStride (d : Desc) : Nat := alignUp (d.k * bytesOf d.fa) 64
def qBlockBytes (d : Desc) (nq : Nat) : Nat := 64 + alignUp (4 * nq) 64 + nq * attG d * qRowStride d

/-- R127: the row stride and the length of the D range. -/
def attRowBytes (d : Desc) : Nat := if attOut d = 1 then 64 + 4 * d.k else alignUp (d.k * bytesOf d.fd) 64
def attDBytes (d : Desc) (nq : Nat) : Nat := nq * attG d * attRowBytes d

/-- R127: bytes of the partial sets of a MERGE. -/
def mergeBytes (d : Desc) (nq : Nat) : Nat := 64 + d.count * (nq * attG d) * (64 + 4 * d.k)

/-- Decoded pages of one entry: the scales of R130 and readers of key and value elements. -/
structure PagePair where
  pos0 : Nat
  tokens : Nat
  kScale : Val
  vScale : Val
  kBytes : List Byte
  vBytes : List Byte
deriving DecidableEq, Repr

/-- R117: element d of token t of a page. -/
def pageElem (f : Fmt) (bs : List Byte) (dim t i : Nat) : Val :=
  if f = .e4m3 then e4m3F.decode (leAt bs (64 + t * dim + i) 1)
  else bf16F.decode (leAt bs (64 + (t * dim + i) * 2) 2)

/-- R130: E is the function of VEC EXP, and exactly 1 for ±0, and so for a subnormal, which R49 treats as a zero of its sign. -/
def attExp (v : Val) : Val :=
  match v with
  | .fin _ d => if d.abs.lt ⟨1, -126⟩ then .fin false ⟨1, 0⟩ else tableVal 0x12 v
  | _ => tableVal 0x12 v

/-- Running state of one query row (R130). -/
structure RowSt where
  m : Val
  l : Val
  o : List Val
  nanMark : Bool
deriving DecidableEq, Repr

/-- Is the position masked for the query position? (R124) -/
def masked (mask window pos qpos : Nat) : Bool :=
  match mask with
  | 1 => qpos < pos
  | 2 => qpos < pos || pos + window ≤ qpos
  | _ => false

/-- Exact sum. -/
def sumVals (l : List Val) : Val := l.foldl Val.add Val.zero

/-- The larger of two values that are not NaN. -/
def maxVal (a b : Val) : Val :=
  match a, b with
  | .inf true, _ => b
  | _, .inf true => a
  | .inf false, _ => a
  | _, .inf false => b
  | .fin _ d, .fin _ e => if d.lt e then b else a
  | _, _ => .nan

/-- R130: one entry taken into a row. `q` is the query row, `ok` the tokens not masked. -/
def attEntry (kvf : Fmt) (dim : Nat) (sigma : Val) (q : List Val) (p : PagePair) (ok : Nat → Bool) (st : RowSt) : RowSt :=
  let toks := (List.range p.tokens).filter ok
  if toks.isEmpty then st else
  let score := fun t =>
    let dot := sumVals ((List.range dim).map (fun i => (q.getD i Val.zero).mul (pageElem kvf p.kBytes dim t i)))
    rn32 ((sigma.mul p.kScale).mul dot)
  let ss := toks.map (fun t => (t, score t))
  let badScore := ss.any (fun x => !x.2.isFin)
  let badVal := toks.any (fun t => (List.range dim).any (fun i => (pageElem kvf p.vBytes dim t i).isNaN))
  if badScore || badVal || st.nanMark then { st with nanMark := true } else
  let mp := ss.foldl (fun m x => maxVal m x.2) st.m
  let a := attExp (rn32 (st.m.sub mp))
  let ps := ss.map (fun x => (x.1, attExp (rn32 (x.2.sub mp))))
  let l := rn32 ((rn32 (st.l.mul a)).add (rn32 (sumVals (ps.map (·.2)))))
  let o := (List.range dim).map (fun i =>
    let sv := sumVals (ps.map (fun x => x.2.mul (pageElem kvf p.vBytes dim x.1 i)))
    rn32 ((rn32 ((st.o.getD i Val.zero).mul a)).add (rn32 (p.vScale.mul sv))))
  { m := mp, l := l, o := o, nanMark := false }

def RowSt.init (dim : Nat) : RowSt := { m := .inf true, l := Val.zero, o := List.replicate dim Val.zero, nanMark := false }

/-- A quotient rounded once into FP32 or BF16, nearest with ties to even (R131, R132). -/
def divInto (fd : Fmt) (a b : Val) : Cv :=
  let g := if fd = .bf16 then bf16F else fp32F
  match a, b with
  | .fin n d, .fin _ e =>
    if e.isZero then g.conv .nearest .nan else g.convQ .nearest n d.m.natAbs e.m.natAbs (d.e - e.e)
  | .fin n _, .inf _ => g.conv .nearest (.fin n Dy.zero)
  | .inf n, .fin _ _ => g.conv .nearest (.inf n)
  | _, _ => g.conv .nearest .nan

/-- What one output row gives: its bytes, saturations, 1 if it was written with a NaN (R131), 1 if it was empty. -/
structure RowOut where
  bytes : List Byte
  sat : Nat
  nan : Nat
  empty : Nat
deriving DecidableEq, Repr

/-- R131: a FINAL row. -/
def finalRow (fd : Fmt) (dim : Nat) (st : RowSt) : RowOut :=
  let w := bytesOf fd
  if st.nanMark then ⟨codeBytes w (List.replicate dim (if fd = .bf16 then 0x7FC0 else 0x7FC00000)), 0, 1, 0⟩
  else if st.l.dy.isZero && st.l.isFin then ⟨List.replicate (dim * w) 0, 0, 0, 1⟩
  else
    let cs := (List.range dim).map (fun i => divInto fd (st.o.getD i Val.zero) st.l)
    ⟨codeBytes w (cs.map (·.code)), (cs.map (·.sat)).sum, b2n (cs.any (fun c => c.nan != 0)), 0⟩

/-- R127, R131: a PARTIAL record. -/
def partialRow (dim : Nat) (st : RowSt) : RowOut :=
  if st.nanMark then
    ⟨leBytes 4 0x7FC00000 ++ leBytes 4 0x7FC00000 ++ List.replicate 56 0 ++ codeBytes 4 (List.replicate dim 0x7FC00000),
      0, 1, 0⟩
  else
    ⟨leBytes 4 (fp32Of st.m) ++ leBytes 4 (fp32Of st.l) ++ List.replicate 56 0 ++ codeBytes 4 (st.o.map fp32Of), 0,
      b2n (st.o.any (·.isNaN)), b2n (st.l.isFin && st.l.dy.isZero)⟩

/-- R132: a set of a MERGE row: m, l and o as read. -/
def mergeRow (fd : Fmt) (dim : Nat) (sets : List (Val × Val × List Val)) : RowOut :=
  let w := bytesOf fd
  let isPos := fun (l : Val) => match l with | .fin _ d => decide (0 < d.m) | .inf n => !n | .nan => false
  if sets.any (fun s => s.1.isNaN) then
    ⟨codeBytes w (List.replicate dim (if fd = .bf16 then 0x7FC0 else 0x7FC00000)), 0, 1, 0⟩
  else
    let live := sets.filter (fun s => isPos s.2.1)
    if live.isEmpty then ⟨List.replicate (dim * w) 0, 0, 0, 1⟩ else
    let m := live.foldl (fun m s => maxVal m s.1) (.inf true)
    let (l, o) := live.foldl (fun (p : Val × List Val) s =>
      let a := attExp (rn32 (s.1.sub m))
      (rn32 (p.1.add (rn32 (s.2.1.mul a))),
       (List.range dim).map (fun i => rn32 ((p.2.getD i Val.zero).add (rn32 ((s.2.2.getD i Val.zero).mul a))))))
      (Val.zero, List.replicate dim Val.zero)
    let cs := (List.range dim).map (fun i => divInto fd (o.getD i Val.zero) l)
    ⟨codeBytes w (cs.map (·.code)), (cs.map (·.sat)).sum, b2n (cs.any (fun c => c.nan != 0)), 0⟩

/-- R122: the smallest power of two not below max(HINT, a / 448), clamped, as FP32. `a` is a magnitude. -/
def kvScale (hint : Nat) (a : Dy) : Nat :=
  let h := (fp32F.decode hint).dy
  -- compare 448 × hint with a
  let useA := (h.mul ⟨448, 0⟩).lt a
  -- exponent of the smallest power of two at or above the maximum
  let num := if useA then a.m.natAbs else h.m.natAbs
  let den := if useA then 448 else 1
  let e := if useA then a.e else h.e
  let k := floorLog2 num den + e
  let exact := if 0 ≤ k - e then num == den * 2 ^ (k - e).toNat else num * 2 ^ (e - k).toNat == den
  let p := if exact then k else k + 1
  let p := max (-126) (min 127 p)
  (p + 127).toNat * 2 ^ 23

/-- R80, R122: one source element in the page's format. -/
def kvElem (fd : Fmt) (scale : Nat) (x : Val) : Cv :=
  if fd = .bf16 then bf16F.conv .nearest x
  else
    let s := (fp32F.decode scale).dy
    match x with
    | .fin n d => e4m3F.convQ .nearest n d.m.natAbs s.m.natAbs (d.e - s.e)
    | v => e4m3F.conv .nearest v

/-- Element `i` appended to a KV8 page whose SCALE is not positive and normal: R121 lets it pass where KVF is 0, and R80 gives no quotient. -/
def kvUnscaled (scale i : Nat) : Cv :=
  let v := Config.kvUnscaled scale i
  ⟨v % 256, v / 256 % 2, v / 512 % 2⟩

end Sys2Proof.Machine
end

