-- ==== Sys2Proof/Machine/Sector.lean ====
section
/-! DEFINITION. The sector code of R163: Reed-Solomon over GF(2^8), the decoding outcomes of Table DRAM-4, and poison
records (R166, R167). -/

namespace Sys2Proof.Machine

/-- Product by α in GF(2^8) with p(x) = 0x11D (R163). -/
def gfTwice (a : Nat) : Nat := if a < 128 then 2 * a else Nat.xor (2 * a) 0x11D

/-- Product in GF(2^8). -/
def gfMul (a b : Nat) : Nat :=
  ((List.range 8).foldl (fun (p : Nat × Nat) i =>
    (gfTwice p.1, if bit b i then Nat.xor p.2 p.1 else p.2)) (a, 0)).2

/-- α^i. -/
def gfPow (i : Nat) : Nat := (List.range (i % 255)).foldl (fun a _ => gfTwice a) 1

/-- The inverse: a^254. -/
def gfInv (a : Nat) : Nat :=
  (List.range 7).foldl (fun (acc : Nat) i =>
    let sq := (List.range (i + 1)).foldl (fun x _ => gfMul x x) a
    gfMul acc sq) 1

/-- The locator of symbol j: c_j is the coefficient of x^(71 − j). -/
def symLoc (j : Nat) : Nat := gfPow (71 - j)

/-- Σ over j of the symbols times α^(i (71 − j)), by Horner's scheme from symbol 0 down to symbol 71. -/
def syndromeAt (sym : Nat → Nat) (i : Nat) : Nat :=
  (List.range 72).foldl (fun acc j => Nat.xor (gfMul acc (gfPow i)) (sym j)) 0

/-- Syndromes S_0 to S_7 (R163). -/
def syndromes (sym : Nat → Nat) : List Nat := (List.range 8).map (syndromeAt sym)

/-- Symbol j of an error pattern. -/
def errSym (e : BitVec 576) (j : Nat) : Nat := e.toNat / 2 ^ (8 * j) % 256

/-- E_M: 0xFF in each check byte (R164). -/
def poisonMaskSym (j : Nat) : Nat := if 64 ≤ j then 255 else 0

/-- S_M, the syndrome of the poison mask. -/
def maskSyndromes : List Nat := syndromes poisonMaskSym

/-- The check bytes 0–7 of 64 data bytes: the remainder of data × x^8 by g(x) (R163), highest power first. -/
def checkBytes (data : List Nat) : List Nat :=
  -- g(x) without its leading term, highest power first
  let g := (List.range 8).foldl (fun (p : List Nat) i =>
      -- p(x) × (x + α^i): coefficients highest first, leading 1 kept
      (p ++ [0]).zipWith Nat.xor (0 :: p.map (gfMul (gfPow i)))) [1]
  let gl := g.drop 1
  data.foldl (fun (r : List Nat) c =>
    let top := Nat.xor c (r.headD 0)
    (r.drop 1 ++ [0]).zipWith Nat.xor (gl.map (gfMul top))) (List.replicate 8 0)

/-- A polynomial, lowest power first, at x. -/
def polyAt (p : List Nat) (x : Nat) : Nat := p.foldr (fun c acc => Nat.xor c (gfMul acc x)) 0

/-- Sum of two polynomials. -/
def polyAdd : List Nat → List Nat → List Nat
  | [], q => q
  | p, [] => p
  | a :: p, b :: q => Nat.xor a b :: polyAdd p q

/-- Product of two polynomials. -/
def polyMul (p q : List Nat) : List Nat :=
  p.foldr (fun c acc => polyAdd (q.map (gfMul c)) (0 :: acc)) []

/-- A polynomial without trailing zero coefficients. -/
def polyTrim (p : List Nat) : List Nat := (p.reverse.dropWhile (· == 0)).reverse

/-- The error locator of a syndrome with marked erasures, by the Berlekamp–Massey recursion started at the erasure
locator. Answers the locator and its length. -/
def locator (s : List Nat) (erase : List Nat) : List Nat × Nat :=
  let f := erase.length
  let gam := erase.foldl (fun p j => polyMul p [1, symLoc j]) [1]
  let out := (List.range (8 - f)).foldl (fun (st : List Nat × List Nat × Nat) r0 =>
      let (lam, b, l) := st
      let r := f + r0 + 1
      let delta := (List.range (lam.length)).foldl (fun acc i =>
        if i < r then Nat.xor acc (gfMul (lam.getD i 0) (s.getD (r - 1 - i) 0)) else acc) 0
      let xb := 0 :: b
      if delta = 0 then (lam, xb, l)
      else
        let t := polyAdd lam (xb.map (gfMul delta))
        if 2 * l ≤ r - 1 + f then (t, lam.map (gfMul (gfInv delta)), r + f - l)
        else (t, xb, l)) (gam, gam, f)
  (polyTrim out.1, out.2.2)

/-- The error pattern of a syndrome, where one with 2e + f ≤ 8 exists (R164): (symbol, magnitude) pairs. -/
def solveErrors (s : List Nat) (erase : List Nat) : Option (List (Nat × Nat)) :=
  if 8 < erase.length then none else
  let (lam, l) := locator s erase
  let roots := (List.range 72).filter (fun j => polyAt lam (gfInv (symLoc j)) == 0)
  let e := l - erase.length
  if roots.length = l && lam.length = l + 1 && 2 * e + erase.length ≤ 8 then
    let omega := (polyMul s lam).take 8
    let deriv := (lam.drop 1).zipIdx.map (fun p => if p.2 % 2 = 0 then p.1 else 0)
    let pat := roots.map (fun j =>
      let x := symLoc j
      let xi := gfInv x
      (j, gfMul x (gfMul (polyAt omega xi) (gfInv (polyAt deriv xi)))))
    let sym := fun j => ((pat.filter (fun p => p.1 == j)).map (·.2)).foldl Nat.xor 0
    if syndromes sym = s then some pat else none
  else none

/-- An error pattern as 576 bits. -/
def patBits (p : List (Nat × Nat)) : BitVec 576 :=
  p.foldl (fun e q => e ^^^ BitVec.ofNat 576 (q.2 * 2 ^ (8 * q.1))) 0

/-- The data part of an error pattern. -/
def errData (e : BitVec 576) : BitVec 512 := e.setWidth 512

/-- Poison causes of Table DRAM-6. -/
inductive PoisonCause where
  | uninitialised | uncorrectable | propagated | moveFailed | hostPoison | tileAbsent
deriving DecidableEq, Repr

def PoisonCause.code : PoisonCause → Nat
  | .uninitialised => 1
  | .uncorrectable => 2
  | .propagated => 3
  | .moveFailed => 4
  | .hostPoison => 5
  | .tileAbsent => 6

/-- R166: a poison record, little-endian. ORIGIN_KIND: 0 step program, 1 near-bank unit, 2 channel root or Dredger,
3 Barge, 4 host aperture. -/
def poisonRec (c : PoisonCause) (tile kind time : Nat) : BitVec 512 :=
  BitVec.ofNat 512 (c.code + (tile % 512) * 2 ^ 16 + (kind % 8) * 2 ^ 25 + (time % 2 ^ 64) * 2 ^ 64)

/-- CAUSE of a record. -/
def recCause (r : BitVec 512) : Nat := fld r.toNat 15 0

/-- ORIGIN_TILE of a record. -/
def recTile (r : BitVec 512) : Nat := fld r.toNat 24 16

/-- ORIGIN_KIND of a record. -/
def recKind (r : BitVec 512) : Nat := fld r.toNat 27 25

/-- What a sector read delivers (Table DRAM-4): the outcome 1–5, the data or record, and the corrected symbols. -/
structure SecRead where
  outcome : Nat
  data : BitVec 512
  poison : Bool
  fixed : List (Nat × Nat)
deriving DecidableEq, Repr

/-- R164: a stored sector decoded; `xfer` is the error pattern of this one transfer, `erase` the erased symbols, and
`n`, `key` select the free bytes of outcome 5. -/
def decodeSector (s : Sector) (xfer : BitVec 576) (erase : List Nat) (n key : Nat) : SecRead :=
  let e := s.err ^^^ xfer
  if e = 0 then
    ⟨if s.poison then 2 else 1, s.data, s.poison, []⟩
  else
    let es := syndromes (errSym e)
    let syn := if s.poison then es.zipWith Nat.xor maskSyndromes else es
    let got := s.data ^^^ errData e
    if syn.all (· == 0) then ⟨1, got, false, []⟩
    else if syn = maskSyndromes then ⟨2, got, true, []⟩
    else
      match solveErrors syn erase with
      | some p => ⟨3, got ^^^ errData (patBits p), false, p⟩
      | none =>
        match solveErrors (syn.zipWith Nat.xor maskSyndromes) erase with
        | some p => ⟨4, got ^^^ errData (patBits p), true, p⟩
        | none =>
          ⟨5, (List.range 64).foldl (fun acc i =>
              acc ||| BitVec.ofNat 512 ((Config.freeByte n (64 * key + i)).toNat * 2 ^ (8 * i))) 0, true, []⟩

/-- 64 bytes of a sector, lowest address first. -/
def sectorBytes (d : BitVec 512) : List Byte := leBytes 64 d.toNat

/-- A sector from 64 bytes. -/
def bytesSector (bs : List Byte) : BitVec 512 := BitVec.ofNat 512 (leNat (bs.take 64))

/-- A row (1 KiB) split into its 16 sectors. -/
def rowSectors (bs : List Byte) : List (BitVec 512) :=
  (List.range 16).map (fun i => bytesSector (bs.drop (64 * i)))

end Sys2Proof.Machine
end

