-- ==== Sys2Proof/Machine/Channel.lean ====
section
/-! DEFINITION. The vertical channel as its requesters see it: time, reports, reading and writing the rows of a column, and
what a read leaves behind at the channel root (R164, R188, R192, R198). -/

namespace Sys2Proof.Machine

/-- What a meaning may read of the rest of the machine: the time, the stored register values, and SEC_LOCK. -/
structure Env where
  time : Time
  reg : Nat → Nat
  lock : Bool
  /-- the fuse map in use -/
  fuse : Fuses

/-- The always-on timestamp in ns (R21). -/
def nowNs (t : Time) : Nat := 1000 * t.ticks

/-- Ticks that a block has missed. -/
def missedOf (t : Time) (b : TickBlock) : Nat :=
  ((t.missed.find? (fun p => p.1 = b)).map (·.2)).getD 0

/-- Ticks that a block has received (R22, R472). -/
def blockTicks (t : Time) (b : TickBlock) : Nat := t.ticks - missedOf t b

/-- R472: N ticks have arrived at the block since the tick count `since`. -/
def elapsed (t : Time) (b : TickBlock) (since n : Nat) : Bool := since + n ≤ blockTicks t b

/-- A report appended for the error aggregator. -/
def Fabric.report (f : Fabric) (e : Env) (code : Nat) (s : Suspect) (d1 d2 : Nat) (ctx : Option CtxId := none)
    (action : Nat := 0) : Fabric :=
  { f with reports := f.reports ++ [{ code := code, suspect := s, d1 := d1, d2 := d2, ctx := ctx, action := action,
                                      time := nowNs e.time }] }

def Fabric.site (f : Fabric) (x : SiteIx) : Site := tget f.sites Site.init x.val
def Fabric.setSite (f : Fabric) (x : SiteIx) (s : Site) : Fabric := { f with sites := tput f.sites x.val s }
def Fabric.col (f : Fabric) (x : SiteIx) : Column := tget f.cols Column.init x.val
def Fabric.setCol (f : Fabric) (x : SiteIx) (c : Column) : Fabric := { f with cols := tput f.cols x.val c }
def Fabric.cluster (f : Fabric) (c : ClusterId) : ClusterSt := tget f.clusters ClusterSt.init c.val
def Fabric.setCluster (f : Fabric) (c : ClusterId) (s : ClusterSt) : Fabric := { f with clusters := tput f.clusters c.val s }
def Fabric.sampler (f : Fabric) (c : ClusterId) : Sampler := tget f.samplers Sampler.init c.val
def Fabric.setSampler (f : Fabric) (c : ClusterId) (s : Sampler) : Fabric := { f with samplers := tput f.samplers c.val s }

/-- The physical site of a logical tile; none where the tile is absent (R15). -/
def Fabric.siteOf (f : Fabric) (t : TileId) : Option SiteIx :=
  ((f.cluster (tileCluster t)).siteOf[t.val % 16]'(Nat.mod_lt _ (by omega))).map
    (fun s => siteIxOf (tileCluster t) s.val)

/-- The logical tile that a site carries; none for a spare or a bad site. -/
def Fabric.tileOf (f : Fabric) (x : SiteIx) : Option TileId :=
  let c := siteCluster x
  ((List.finRange 16).find? (fun i => (f.cluster c).siteOf[i] = some ⟨siteNo x, Nat.mod_lt _ (by omega)⟩)).map
    (fun i => ⟨16 * c.val + i.val, by omega⟩)

def allClusters : List ClusterId := List.finRange 32
def allTiles : List TileId := List.finRange 512

/-- Rows of a column in slot-offset order (R154). -/
def rowsPerColumn : Nat := 393216

/-- The end of a column in slot offsets (R24). -/
def colEnd : Nat := 0x18000000

/-- R154: LAYER, BANK within the layer, ROW of a row index. -/
def riLayer (ri : Nat) : Nat := ri % 8
def riBank (ri : Nat) : Nat := ri / 8 % 16
def riRow (ri : Nat) : Nat := ri / 128

/-- The bank 0–127 of a column: LAYER × 16 + BANK. -/
def riBank128 (ri : Nat) : Nat := riLayer ri * 16 + riBank ri

/-- R190, R191: the spare row that stands for a row of a bank, by a VALID entry. -/
def Column.spareRow (c : Column) (bank row : Nat) : Option Nat :=
  c.rowRep.findSome? (fun p =>
    if p.1 / 32 = bank && p.2.getLsbD 31 && fld p.2.toNat 11 0 == row then some (fld p.2.toNat 16 12) else none)

/-- Physical rows: an addressable row by its RI, then the spare rows in bank and spare order (R185). -/
def spareAt (bank sp : Nat) : Nat := rowsPerColumn + 32 * bank + sp

/-- R191: the physical row of a row index. -/
def Column.phys (c : Column) (ri : Nat) : Nat :=
  match c.spareRow (riBank128 ri) (riRow ri) with
  | some sp => spareAt (riBank128 ri) sp
  | none => ri

/-- The bank of a physical row. -/
def physBank (p : Nat) : Nat := if p < rowsPerColumn then riBank128 p else (p - rowsPerColumn) / 32

/-- A spare row (32 × bank + spare) stands for a row. -/
def Column.spareInUse (c : Column) (k : Nat) : Bool :=
  c.rowRep.any (fun p => p.1 / 32 == k / 32 && p.2.getLsbD 31 && fld p.2.toNat 16 12 == k % 32)

/-- The test pattern of an unused spare row (R185). -/
def patternSector : Sector := { data := Config.testPattern, poison := false, err := 0 }

/-- What an unlisted sector of a physical row holds: the last fill (R171), or in an unused spare row the test pattern. -/
def Column.base (c : Column) (p : Nat) : Sector :=
  if rowsPerColumn ≤ p && !c.spareInUse (p - rowsPerColumn) then patternSector else c.fill

/-- A spare row about to be used: what it holds, the test pattern where nothing else, is kept for it. -/
def Column.takeSpare (c : Column) (k : Nat) : Column :=
  if c.spareInUse k then c else
  let key := fun (s : Nat) => 16 * (rowsPerColumn + k) + s
  { c with cells := (List.range 16).foldl (fun t s => tset t c.fill (key s) (tget c.cells patternSector (key s))) c.cells }

/-- The symbols of sector s of a bank that spare byte columns carry: symbol and spare (R159, R191). -/
def Column.colMap (c : Column) (bank s : Nat) : List (Nat × Nat) :=
  c.colRep.filterMap (fun p =>
    let w := p.2.toNat
    if p.1 / 8 = bank && p.2.getLsbD 31 && fld w 10 0 % 16 == s then some (fld w 10 0 / 16, fld w 13 11) else none)

/-- A byte of an error pattern replaced. -/
def setSym (e : BitVec 576) (j v : Nat) : BitVec 576 := e ^^^ BitVec.ofNat 576 (Nat.xor (errSym e j) (v % 256) * 2 ^ (8 * j))

/-- The error of spare byte n of a row. -/
def spareByte (b : BitVec 64) (n : Nat) : Nat := b.toNat / 2 ^ (8 * n) % 256
def setSpareByte (b : BitVec 64) (n v : Nat) : BitVec 64 :=
  b ^^^ BitVec.ofNat 64 (Nat.xor (spareByte b n) (v % 256) * 2 ^ (8 * n))

/-- Sector s of a physical row, each repaired bus byte taken from its spare column. -/
def Column.physSector (c : Column) (p s : Nat) : Sector :=
  let x := tget c.cells (c.base p) (16 * p + s)
  let b := tget c.spareBytes 0 p
  { x with err := (c.colMap (physBank p) s).foldl (fun e m => setSym e m.1 (spareByte b m.2)) x.err }

/-- What a sector (RI × 16 + sector) holds (R191). -/
def Column.sector (c : Column) (key : Nat) : Sector := c.physSector (c.phys (key / 16)) (key % 16)

/-- A sector of a physical row written: check bytes are computed at the root (R169), so earlier errors are gone, in the spare bytes that it
uses too. -/
def Column.putPhys (c : Column) (p s : Nat) (data : BitVec 512) (poison : Bool) : Column :=
  let b := (c.colMap (physBank p) s).foldl (fun b m => setSpareByte b m.2 0) (tget c.spareBytes 0 p)
  { c with cells := tset c.cells (c.base p) (16 * p + s) { data := data, poison := poison, err := 0 }
           spareBytes := tset c.spareBytes 0 p b }

def Column.putSector (c : Column) (key : Nat) (data : BitVec 512) (poison : Bool) : Column :=
  c.putPhys (c.phys (key / 16)) (key % 16) data poison

/-- A symbol of a sector disturbed where it is stored: in its spare column where it has one. -/
def Column.upset (c : Column) (key sym : Nat) (flip : Byte) : Column :=
  let p := c.phys (key / 16)
  let s := key % 16
  match (c.colMap (physBank p) s).find? (fun m => m.1 == sym % 72) with
  | some m =>
    let b := tget c.spareBytes 0 p
    { c with spareBytes := tset c.spareBytes 0 p (setSpareByte b m.2 (Nat.xor (spareByte b m.2) flip.toNat)) }
  | none =>
    let x := tget c.cells (c.base p) (16 * p + s)
    { c with cells := tset c.cells (c.base p) (16 * p + s)
              { x with err := x.err ^^^ BitVec.ofNat 576 (flip.toNat * 2 ^ (8 * (sym % 72))) } }

/-- Every addressable row, wherever it is held, written with one sector value: earlier errors are gone but in unused spares. -/
def Column.fillRows (c : Column) (v : Sector) : Column :=
  let unused := fun (p : Nat) => rowsPerColumn ≤ p && !c.spareInUse (p - rowsPerColumn)
  let clean := fun (p : Nat) (b : BitVec 64) =>
    if unused p then b else ((List.range 16).flatMap (c.colMap (physBank p))).foldl (fun b m => setSpareByte b m.2 0) b
  { c with
    fill := v, cells := c.cells.filter (fun q => unused (q.1 / 16))
    spareBytes := (c.spareBytes.map (fun q => (q.1, clean q.1 q.2))).filter (fun q => q.2 != 0) }

/-- The rows (RI) of a column that may hold anything but the last fill. -/
def Column.listedRows (c : Column) : List Nat :=
  ((c.cells.map (fun (p : Nat × Sector) => p.1 / 16) ++ c.spareBytes.map (fun (p : Nat × BitVec 64) => p.1)).filter (fun p => decide (p < rowsPerColumn)) ++
    c.rowRep.filterMap (fun (p : Nat × Word) => if p.2.getLsbD 31 then some (fld p.2.toNat 11 0 * 128 + p.1 / 32 % 16 * 8 + p.1 / 32 / 16) else none)).eraseDups

/-- The disturbances a command reports for a column. -/
def Column.upsets (c : Column) (us : List DramUpset) : Column :=
  us.foldl (fun c u => c.upset (u.off / 64) u.sym.val u.flip) c

/-- R200: symbols of sector s erased by dead lanes at boundaries that a transfer from the layer crosses. -/
def Column.erasures (c : Column) (layer s : Nat) : List Nat :=
  (c.lanes.filterMap (fun p => p.2.map (fun l => (p.1 / 144, l.dead)))).flatMap (fun p =>
    if p.1 ≤ layer then (p.2.filter (fun lane => lane / 8 % 16 = s)).map (fun lane => lane / 128) else [])
  |>.eraseDups

/-- A physical row read: its 16 sector results, in sector order. -/
def Column.readPhys (c : Column) (p free : Nat) (xfer : List SymErr) : List SecRead :=
  (List.range 16).map (fun s =>
    let x := (xfer.filter (fun e => e.sector.val = s)).foldl
      (fun (b : BitVec 576) e => b ^^^ BitVec.ofNat 576 (e.flip.toNat * 2 ^ (8 * e.sym.val))) 0
    decodeSector (c.physSector p s) x (c.erasures (physBank p / 16) s) free (16 * p + s))

/-- A row read on behalf of a requester. -/
def Column.readRow (c : Column) (ri free : Nat) (xfer : List SymErr) : List SecRead := c.readPhys (c.phys ri) free xfer

/-- COL_ROWS, LANE_THRESH of BSN_DRAM_REPAIR_CFG with their ranges. -/
def colRows (e : Env) : Nat := Nat.max 2 (fld (e.reg 0x4104) 23 16)
def laneThresh (e : Env) : Nat := Nat.max 1 (fld (e.reg 0x4104) 15 8)
def autoRow (e : Env) : Bool := bit (e.reg 0x4104) 0
def autoCol (e : Env) : Bool := bit (e.reg 0x4104) 1
def autoLane (e : Env) : Bool := bit (e.reg 0x4104) 2

/-- The bus bits that a corrected sector shows (R159, R198). -/
def fixedBits (s : Nat) (fixed : List (Nat × Nat)) : List Nat :=
  fixed.flatMap (fun p => ((List.range 8).filter (bit p.2)).map (fun b => 8 * (16 * p.1 + s) + b))

/-- What one sector result leaves at the channel root: counters, the read hint, and the correction history. -/
def Column.noteSector (c : Column) (ri s : Nat) (r : SecRead) : Column :=
  match r.outcome with
  | 3 | 4 =>
    { c with
      corrSectors := satAdd 16 c.corrSectors 1
      ownCorr := satAdd 16 c.ownCorr 1
      hint := c.hint.orElse (fun _ => some ri)
      corr := (fixedBits s r.fixed).foldl (fun l b => l ++ [{ n := c.xfers, layer := riLayer ri, busBit := b }]) c.corr
      colHits := r.fixed.foldl (fun l p =>
        let h := (riBank128 ri, 16 * p.1 + s, riRow ri)
        if l.contains h then l else l ++ [h]) c.colHits }
  | 5 =>
    { c with
      uncorrSectors := satAdd 16 c.uncorrSectors 1
      ownUncorr := satAdd 16 c.ownUncorr 1
      hint := c.hint.orElse (fun _ => some ri) }
  | _ => c

/-- R192: bus bytes (bank, byte) that have reached COL_ROWS rows in this lap. -/
def Column.colFaults (c : Column) (e : Env) : List (Nat × Nat) :=
  ((c.colHits.map (fun h => (h.1, h.2.1))).eraseDups).filter (fun k =>
    decide (colRows e ≤ (c.colHits.filter (fun g => (g.1, g.2.1) = k)).length))

/-- R192: each of them not yet due becomes due, or with automatic column repair off is reported once in the lap. Answers those to report. -/
def Column.markColDue (c : Column) (e : Env) : Column × List (Nat × Nat) :=
  let ks := c.colFaults e
  if autoCol e then ({ c with colDue := c.colDue ++ ks.filter (fun k => !c.colDue.contains k) }, [])
  else
    let new := ks.filter (fun k => !c.colTold.contains k)
    ({ c with colTold := c.colTold ++ new }, new)

/-- The row index of a row of bank 0–127. -/
def riOf (bank row : Nat) : Nat := row * 128 + bank % 16 * 8 + bank / 16

/-- R198: the bus bit is corrected in transfers from every layer above boundary b and in none from layers below; a bit
of one layer only is a column fault. Answers the boundary. -/
def laneBoundary (layers : List Nat) : Option Nat :=
  (List.range 7).find? (fun b => (List.range 8).all (fun l => layers.contains l == decide (b ≤ l)))

/-- The lane state of a group at a boundary. -/
def Column.lane (c : Column) (b g : Nat) : LaneSt :=
  (tget c.lanes none (144 * b + g)).getD { shifted := [], sparesBad := 0, dead := [] }

def Column.setLane (c : Column) (b g : Nat) (l : LaneSt) : Column := { c with lanes := tput c.lanes (144 * b + g) (some l) }

/-- Good spare lanes left in a group. -/
def LaneSt.sparesLeft (l : LaneSt) : Nat := 2 - l.shifted.length - l.sparesBad

/-- R198–R200 after a transfer: a lane declared failed starts a spare test where a spare remains, and is dead where none
does. Answers the column and whether a repair was exhausted or only reported. -/
def Column.declareLane (c : Column) (e : Env) : Column × List (Nat × Nat × Nat × Bool) :=
  let recent := c.corr.filter (fun r => c.xfers < r.n + 4096)
  let c := { c with corr := recent }
  let bits := (recent.map (·.busBit)).eraseDups
  bits.foldl (fun (p : Column × List (Nat × Nat × Nat × Bool)) bb =>
    let (c, out) := p
    let hits := c.corr.filter (fun r => r.busBit = bb)
    let ns := (hits.map (·.n)).eraseDups
    if ns.length < laneThresh e then (c, out) else
    match laneBoundary ((hits.map (·.layer)).eraseDups) with
    | none => (c, out)
    | some b =>
      let g := bb / 64
      let l := c.lane b g
      let c := { c with corr := c.corr.filter (fun r => r.busBit ≠ bb) }
      if !autoLane e then (c, out ++ [(b, g, bb, false)])
      else if l.dead.contains bb || c.laneTests.contains ⟨b, g, bb⟩ then (c, out)
      else
        -- a lane that a spare carries and that fails again has a bad spare
        let l := if l.shifted.contains bb then { l with shifted := l.shifted.erase bb, sparesBad := l.sparesBad + 1 } else l
        let c := c.setLane b g l
        if 0 < l.sparesLeft then ({ c with laneTests := c.laneTests ++ [⟨b, g, bb⟩] }, out)
        else
          ({ (c.setLane b g { l with dead := l.dead ++ [bb] }) with exhausted := true }, out ++ [(b, g, bb, true)]))
    (c, [])

/-- Everything a row read does at the channel root, for a requester class of Table DRAM-3. -/
def Fabric.noteRead (f : Fabric) (e : Env) (x : SiteIx) (cls ri : Nat) (rs : List SecRead) : Fabric :=
  let c := { f.col x with xfers := (f.col x).xfers + 1 }
  let c := rs.zipIdx.foldl (fun c p => c.noteSector ri p.2 p.1) c
  let (c, told) := c.markColDue e
  let (c, lanes) := c.declareLane e
  let f := f.setCol x c
  let f := told.foldl (fun f k => f.report e 0x0202 (.dram x (riOf k.1 0) (k.2 % 16)) 1 0x7F) f
  let f := rs.zipIdx.foldl (fun f p =>
    if p.1.outcome = 5 then f.report e 0x0201 (.dram x ri p.2) cls 0 else f) f
  lanes.foldl (fun f q =>
    if q.2.2.2 then f.report e 0x0203 (.tsvLane x q.1 q.2.1 q.2.2.1) 2 0
    else f.report e 0x0202 (.tsvLane x q.1 q.2.1 q.2.2.1) 2 0x7F) f

/-- A transfer that reads a row. -/
def Fabric.xferRead (f : Fabric) (e : Env) (x : SiteIx) (cls ri : Nat) (errs : List SymErr) : Fabric × List SecRead :=
  let rs := (f.col x).readRow ri f.free errs
  (f.noteRead e x cls ri rs, rs)

/-- R52: a completed write to a row clears every tag of the site that names the row. -/
def clearRowTags (s : Site) (rows : List Nat) : Site :=
  { s with tags := s.tags.filter (fun p => !(rows.any (fun ri => p.2 = 1024 * ri + 1))) }

/-- Transfers that write sectors of a column, with the tags they clear; each row is one transfer (R156). -/
def Fabric.xferWrite (f : Fabric) (x : SiteIx) (ws : List SectorWrite) : Fabric :=
  if ws.isEmpty then f else
  let c := ws.foldl (fun c w => c.putSector w.key w.data w.poison) (f.col x)
  let rows := (ws.map (fun w => w.key / 16)).eraseDups
  (f.setCol x { c with xfers := c.xfers + rows.length }).setSite x (clearRowTags (f.site x) rows)

/-- The sectors that a write request carries. -/
def RowReqRec.writes (r : RowReqRec) : List SectorWrite :=
  ((List.range 16).filter (bit r.mask)).zipIdx.map (fun p =>
    { key := 16 * r.ri + p.1, data := r.data.getD p.2 0, poison := r.poison })

/-- A request performed. -/
def Fabric.perform (f : Fabric) (e : Env) (x : SiteIx) (r : RowReqRec) (errs : List SymErr) : Fabric :=
  if r.write then f.xferWrite x r.writes else (f.xferRead e x r.cls r.ri errs).1

/-- R161: transfers to one row are performed in the order in which they reached the arbiter: those that wait for one of the rows come before a
transfer to it that is made now. -/
def Fabric.before (f : Fabric) (e : Env) (x : SiteIx) (ris : List Nat) : Fabric :=
  let mine := (f.col x).queue.filter (fun r => ris.contains r.ri)
  if mine.isEmpty then f else
  let c := f.col x
  mine.foldl (fun f r => f.perform e x r []) (f.setCol x { c with queue := c.queue.filter (fun r => !ris.contains r.ri) })

/-- A row read by a requester of a site's own column, after the earlier transfers to that row. -/
def Fabric.readRow (f : Fabric) (e : Env) (x : SiteIx) (cls ri : Nat) (errs : List SymErr) : Fabric × List SecRead :=
  (f.before e x [ri]).xferRead e x cls ri errs

/-- Several rows read in order. -/
def Fabric.readRows (f : Fabric) (e : Env) (x : SiteIx) (cls : Nat) (ris : List Nat) : Fabric × List (List SecRead) :=
  ris.foldl (fun (p : Fabric × List (List SecRead)) ri =>
    let (g, rs) := p.1.readRow e x cls ri []
    (g, p.2 ++ [rs])) (f, [])

/-- Sectors of a column written, after the earlier transfers to their rows. -/
def Fabric.writeSectors (f : Fabric) (e : Env) (x : SiteIx) (ws : List SectorWrite) : Fabric :=
  (f.before e x ((ws.map (fun w => w.key / 16)).eraseDups)).xferWrite x ws

end Sys2Proof.Machine
end

