-- ==== Sys2Proof/Machine/StepCore.lean ====
section
/-! DEFINITION. The step engine's shared operations: scratch with parity, tags and poison bits (R50–R53, R385), semaphores
(R39, R40), stream faults (R38), fetching and advancing (R31, R37), issue (R41, R474) and completion (R42). -/

namespace Sys2Proof.Machine

/-- The BAR0 offset of a register of a TILE_ window (R27). -/
def tileReg (t : TileId) (off : Nat) : Nat := 0xC00000 + 0x8000 * t.val + off

-- Scratch ------------------------------------------------------------------------------------------------------------

/-- The nine stored bits of a byte: an even number of ones (R51). -/
def withParity (b : Byte) : BitVec 9 :=
  let ones := ((List.range 8).filter (bit b.toNat)).length
  BitVec.ofNat 9 (b.toNat + 256 * (ones % 2))

/-- R51: is an odd number of the nine bits flipped? -/
def parityBad (c : BitVec 9) : Bool := ((List.range 9).filter (bit c.toNat)).length % 2 == 1

/-- A scratch byte as read. -/
def Site.byte (s : Site) (a : Nat) : Byte := (tget s.scratch 0 a).setWidth 8

/-- The reader of a site's scratch. -/
def Site.rd (s : Site) : Rd := fun a => (s.byte a).toNat

/-- Bytes of a scratch range. -/
def Site.bytes (s : Site) (a n : Nat) : List Byte := (List.range n).map (fun i => s.byte (a + i))

/-- A scratch byte written; its own parity bit is set, no other byte changes (R51). -/
def Site.putByte (s : Site) (a : Nat) (b : Byte) : Site := { s with scratch := tset s.scratch 0 a (withParity b) }

/-- R385: the poison bits after a write of [a, a + n): a block written whole takes the source's flag, a block written in
part is set by a poisoned source and otherwise keeps its bit. -/
def poisonAfter (t : Tab Bool) (a n : Nat) (src : Bool) : Tab Bool :=
  if n = 0 then t else
  (List.range ((a + n - 1) / 64 + 1 - a / 64)).foldl (fun t i =>
    let b := a / 64 + i
    let whole := decide (a ≤ 64 * b) && decide (64 * b + 64 ≤ a + n)
    if whole || src then tset t false b src else t) t

/-- R52: any write into a 1 KiB block clears its tag. -/
def tagsAfter (t : Tab Nat) (a n : Nat) : Tab Nat :=
  if n = 0 then t else t.filter (fun p => !(a / 1024 ≤ p.1 && p.1 ≤ (a + n - 1) / 1024))

/-- A scratch write applied; an entry with a tag names the row that filled the block at its address. -/
def Site.apply (s : Site) (w : ScratchWrite) : Site :=
  let s := w.bytes.zipIdx.foldl (fun s p => s.putByte (w.addr + p.2) p.1) s
  let s := { s with poison := poisonAfter s.poison w.addr w.bytes.length w.poison,
                    tags := tagsAfter s.tags w.addr w.bytes.length }
  match w.tag with
  | some row => { s with tags := tset s.tags 0 (w.addr / 1024) (row + 1) }
  | none => s

/-- The disturbances of scratch that a command reports. -/
def Site.upsets (s : Site) (us : List ScratchUpset) : Site :=
  us.foldl (fun s u => { s with scratch := tset s.scratch 0 u.addr ((tget s.scratch 0 u.addr) ^^^ u.flip) }) s

/-- The regions of a MATMUL in flight: A and B, and D from its first byte to its last (R111). -/
def StepRec.regions (r : StepRec) : List (Nat × Nat) :=
  match r.kind, r.scratch with
  | .matmul _ _ _, w :: ws =>
    let z := (w :: ws).getLast?.getD w
    r.reads ++ [(w.addr, z.addr + z.bytes.length - w.addr)]
  | _, _ => []

def anyOverlap (a b : List (Nat × Nat)) : Bool := a.any (fun p => b.any (fun q => overlaps p.1 p.2 q.1 q.2))

/-- R111: ranges written by a stream of the tile, or from outside it, spoil the MATMULs of the other streams that use them. -/
def Site.race (s : Site) (who : Option StreamId) (ws : List (Nat × Nat)) : Site :=
  { s with streams := Vector.ofFn (fun (st : StreamId) =>
      let v := s.streams[st]
      if who = some st then v
      else { v with steps := v.steps.map (fun r => if anyOverlap r.regions ws then { r with spoiled := true } else r) }) }

/-- The ranges of a list of scratch writes. -/
def writeRanges (ws : List ScratchWrite) : List (Nat × Nat) := ws.map (fun w => (w.addr, w.bytes.length))

/-- What reading scratch ranges meets first (R52, R53, R385). -/
inductive ReadBad where
  | refetch (block : Nat)
  | parity (addr : Nat)
  | poison (block : Nat)
deriving DecidableEq, Repr

/-- Parity first, in the order of the ranges; then, where the reader consumes poison, the first poisoned block. -/
def Site.checkReads (s : Site) (ranges : List (Nat × Nat)) (consumes : Bool) : Option ReadBad :=
  let bad := ranges.findSome? (fun r =>
    (s.scratch.find? (fun p => decide (r.1 ≤ p.1) && decide (p.1 < r.1 + r.2) && parityBad p.2)).map (·.1))
  match bad with
  | some a => some (if tget s.tags 0 (a / 1024) = 0 then .parity a else .refetch (a / 1024))
  | none =>
    if !consumes then none else
    (ranges.findSome? (fun r =>
      if r.2 = 0 then none else
      (s.poison.find? (fun p => p.2 && decide (r.1 / 64 ≤ p.1) && decide (p.1 ≤ (r.1 + r.2 - 1) / 64))).map (·.1))).map .poison

/-- Is the aligned 64-byte block that holds `a` poisoned? -/
def Site.blockPoison (s : Site) (a : Nat) : Bool := tget s.poison false (a / 64)

-- The array ----------------------------------------------------------------------------------------------------------

/-- R98, R112: the queue once every stopped MATMUL whose turn has come is gone, and the shape that the one at its head, or the
last one gone, has set. -/
def settleQueue : List ArrRec → Nat → List ArrRec × Nat
  | [], shape => ([], shape)
  | r :: l, _ => if r.live then (r :: l, r.mod % 4) else settleQueue l (r.mod % 4)

/-- The array with a changed queue: SHAPE and BUSY follow it. -/
def ArraySt.setQueue (a : ArraySt) (q : List ArrRec) : ArraySt :=
  let (q, shape) := settleQueue q a.shape
  { a with queue := q, shape := shape, busy := !q.isEmpty }

/-- Has the array taken step `id` of a stream? -/
def ArraySt.has (a : ArraySt) (st : StreamId) (id : Nat) : Bool := a.queue.any (fun r => r.live && r.stream == st && r.id == id)

/-- R98: a MATMUL that issues takes its place behind those before it; one that runs again after a reload keeps its place. -/
def ArraySt.enter (a : ArraySt) (st : StreamId) (id mod : Nat) : ArraySt :=
  if a.has st id then a else a.setQueue (a.queue ++ [{ stream := st, id := id, mod := mod, live := true }])

/-- A MATMUL gone from the array. -/
def ArraySt.leave (a : ArraySt) (st : StreamId) (id : Nat) : ArraySt :=
  { a.setQueue (a.queue.filter (fun r => !(r.live && r.stream == st && r.id == id))) with
      replay := if a.replay = some (st, id) then none else a.replay }

/-- R112: a MATMUL that bad data stops on one of its lines frees the array, and keeps the shape that it set. -/
def ArraySt.stop (a : ArraySt) (st : StreamId) (id mod : Nat) : ArraySt :=
  let a := a.enter st id mod
  { a.setQueue (a.queue.map (fun r => if r.live && r.stream == st && r.id == id then { r with live := false } else r)) with
      replay := if a.replay = some (st, id) then none else a.replay }

/-- The place of a MATMUL that waits for a reload is given up with its step (R52). -/
def ArraySt.unwait (a : ArraySt) (v : Stream) (st : StreamId) : ArraySt :=
  if v.refetch.isSome then a.leave st v.nextId else a

/-- R98: the array serves one MATMUL after another: one that stands behind another has not completed. -/
def ArraySt.behind (a : ArraySt) (st : StreamId) (id : Nat) : Bool :=
  a.has st id && !(match a.queue with
    | r :: _ => r.stream == st && r.id == id
    | [] => false)

-- Streams ------------------------------------------------------------------------------------------------------------

def Site.stream (s : Site) (st : StreamId) : Stream := s.streams[st]
def Site.setStream (s : Site) (st : StreamId) (v : Stream) : Site := { s with streams := s.streams.set st v }

/-- Every stream of a tile, in stream order. -/
def allStreams : List StreamId := [0, 1, 2, 3]

/-- Information that a fault report carries besides its cause: DETAIL2 of its kind, and the poisoned DRAM sector with its
record where one was consumed (R382). -/
structure FaultInfo where
  cause : Cause
  extra : Nat
  poisonAt : Option (Nat × BitVec 512)
  peer : Option TileId
deriving DecidableEq, Repr

def FaultInfo.of (c : Cause) : FaultInfo := { cause := c, extra := 0, poisonAt := none, peer := none }

/-- The report last sent names the tile of a cluster as its reporter. -/
def Fabric.reporter (f : Fabric) (c : ClusterId) : Fabric :=
  { f with reports := f.reports.dropLast ++ (f.reports.getLast?.map (fun r => { r with by_ := some c })).toList }

/-- R38, R385: the error record of a stream fault. -/
def Fabric.reportFault (f : Fabric) (e : Env) (x : SiteIx) (t : TileId) (off : Nat) (i : FaultInfo) : Fabric :=
  Fabric.reporter (match i.cause with
  | .poisonConsumed =>
    match i.poisonAt with
    | some (key, r) =>
      f.report e 0x0205 (.dram x (key / 16) (key % 16)) (recCause r + recKind r * 2 ^ 16) (recTile r)
    | none => f.report e 0x0205 (.site x) 3 t.val
  | .peerHalfDown =>
    f.report e 0x0101 (.half (match i.peer with | some p => tileHalf p | none => siteHalf x)) i.cause.code off none 6
  | .peerInvalid | .peerAbsent =>
    f.report e 0x0101 (match i.peer with | some p => .tile p | none => .site x) i.cause.code off
  | .checksumMismatch => f.report e 0x0101 (.site x) i.cause.code i.extra
  | c => f.report e 0x0101 (.site x) c.code off) (tileCluster t)

/-- R38: a stream enters FAULTED and reports to the token service engine and the aggregator. A fault of a step that was
already issued when the stream had faulted is reported in the same way, and LAST_FAULT keeps the first. -/
def Fabric.faultStream (f : Fabric) (e : Env) (x : SiteIx) (t : TileId) (st : StreamId) (off : Nat) (i : FaultInfo) :
    Fabric :=
  let s := f.site x
  let v := s.stream st
  let v := if v.state = .faulted then v
           else { v with state := .faulted, lastFault := i.cause.code, held := none, want := none, granted := false,
                         refetch := none, fence := none, ending := false }
  let s := { s.setStream st v with arr := s.arr.unwait (s.stream st) st }
  let s := if i.cause = .scratchParity then { s with parityFaults := satAdd 16 s.parityFaults 1 } else s
  let f := f.setSite x s
  let f := { f with inbox := f.inbox ++ [TileMsg.fault t st v.tag i.cause.code off (match i.poisonAt with | some (k, _) => k + 1 | none => i.extra)] }
  f.reportFault e x t off i

-- Semaphores ---------------------------------------------------------------------------------------------------------

/-- R40: takes that wait are served in stream order while the value satisfies them. -/
def Site.serve (s : Site) : Site :=
  allStreams.foldl (fun s st =>
    let v := s.stream st
    match v.want with
    | some (q, n) =>
      let c := s.sems[q]
      if v.state = .waiting && n ≤ c.toNat then
        { (s.setStream st { v with state := .running, want := none, granted := true }) with
            sems := s.sems.set q (BitVec.ofNat 16 (c.toNat - n)) }
      else s
    | none => s) s

/-- R39: units added to a semaphore; none passes 0xFFFF. Answers whether the counter overflowed. -/
def Site.add (s : Site) (q : Fin 32) (n : Nat) : Site × Bool :=
  let v := (s.sems[q]).toNat + n
  let past := decide (0xFFFF < v)
  (Site.serve { s with sems := s.sems.set q (BitVec.ofNat 16 (if past then 0xFFFF else v)) }, past)

/-- A local add by a stream: on overflow that stream faults with SEM_OVERFLOW (R39). -/
def Fabric.localAdd (f : Fabric) (e : Env) (x : SiteIx) (t : TileId) (st : StreamId) (off : Nat) (q : Fin 32) (n : Nat) :
    Fabric :=
  let (s, past) := (f.site x).add q n
  let f := f.setSite x s
  if past then f.faultStream e x t st off (FaultInfo.of .semOverflow) else f

/-- An add that arrives from outside the tile (R39): on overflow the lowest stream RUNNING or WAITING under the recorded
launch faults, or the overflow is only reported. -/
def Fabric.remoteAdd (f : Fabric) (e : Env) (x : SiteIx) (t : TileId) (q : Fin 32) (n : Nat) : Fabric :=
  let (s, past) := (f.site x).add q n
  let f := f.setSite x s
  if !past then f else
  let tag := s.semTags[q]
  match allStreams.find? (fun st => (s.stream st).tag = tag &&
      ((s.stream st).state = .running || (s.stream st).state = .waiting)) with
  | some st => f.faultStream e x t st (s.stream st).pc (FaultInfo.of .semOverflow)
  | none =>
    let f := { f with inbox := f.inbox ++ [TileMsg.fault t 0 tag (Cause.code .semOverflow) 0 0] }
    f.report e 0x0101 (.site x) (Cause.code .semOverflow) 0

-- Fetch and advance --------------------------------------------------------------------------------------------------

/-- The row of the fetch buffer that holds a slot offset. -/
def Stream.heldRow (v : Stream) (off : Nat) : Option FetchRow := v.fetched.find? (fun r => r.row = off / 1024)

/-- The descriptor at a slot offset, if it is held. -/
def Stream.descAt (v : Stream) (off : Nat) : Option Desc :=
  (v.heldRow off).map (fun r => Desc.ofNat (leAt r.bytes (off % 1024) 32))

/-- The poison record of the sector that holds a descriptor, if it carries the flag. -/
def Stream.poisonAt (v : Stream) (off : Nat) : Option (BitVec 512) :=
  match v.heldRow off with
  | some r => (r.poison.getD (off % 1024 / 64) none)
  | none => none

/-- The next offset after a descriptor, with the loops after it (R37). -/
def advance (pc : Nat) (loops : List LoopFrame) : Nat × List LoopFrame :=
  match loops with
  | [] => (pc, [])
  | f :: r =>
    -- the innermost loop stands first
    if pc = f.past then
      if f.iter + 1 < f.count then (f.first, { f with iter := f.iter + 1 } :: r)
      else advance pc r
    else (pc, f :: r)

/-- The stream moves past its current descriptor. -/
def Stream.next (v : Stream) : Stream :=
  let (pc, loops) := advance (v.pc + 32) v.loops
  { v with pc := pc, loops := loops, granted := false, want := none, fence := none }

/-- R31: a stream that has reached a descriptor in the hole, or in a held sector that carries poison, faults. -/
def Fabric.reach (f : Fabric) (e : Env) (x : SiteIx) (t : TileId) (st : StreamId) : Fabric :=
  let v := (f.site x).stream st
  if v.state ≠ .running || v.ending then f
  else if colEnd ≤ v.pc then f.faultStream e x t st v.pc (FaultInfo.of .addressHole)
  else
    match v.poisonAt v.pc with
    | some r => f.faultStream e x t st v.pc { FaultInfo.of .poisonConsumed with poisonAt := some (v.pc / 64, r) }
    | none => f

-- Issue --------------------------------------------------------------------------------------------------------------

/-- What an executed step does: at once nothing but its reads; its writes wait for completion (R42). -/
structure StepEff where
  kind : StepKind
  scratch : List ScratchWrite
  sectors : List SectorWrite
  sat : Nat
  nan : Nat
  empty : Nat
  sends : List SendRec
  slices : List (ClusterId × Slice)
deriving DecidableEq, Repr

def StepEff.none : StepEff :=
  { kind := .plain, scratch := [], sectors := [], sat := 0, nan := 0, empty := 0, sends := [], slices := [] }

/-- How the work of a step that has issued turns out. -/
inductive RunRes where
  | ok (e : StepEff)
  | fault (i : FaultInfo) (wrote : List ScratchWrite)
  | refetch (block : Nat)
deriving DecidableEq, Repr

/-- The work of a step: the fabric after its reads, its ranges for R41, and its result. -/
structure RunOut where
  f : Fabric
  reads : List (Nat × Nat)
  writes : List (Nat × Nat)
  rowReads : List Nat
  rowWrites : List Nat
  res : RunRes

/-- What the work of a step may read. -/
structure StepCtx where
  e : Env
  f : Fabric
  x : SiteIx
  t : TileId
  st : StreamId
  d : Desc
  off : Nat

def StepCtx.site (c : StepCtx) : Site := c.f.site c.x
def StepCtx.rd (c : StepCtx) : Rd := c.site.rd

/-- A read fault as a result (R52, R53, R385). -/
def badRes (b : ReadBad) : RunRes :=
  match b with
  | .refetch blk => .refetch blk
  | .parity a => .fault { FaultInfo.of .scratchParity with extra := a } []
  | .poison _ => .fault (FaultInfo.of .poisonConsumed) []

/-- R41: the ranges of the step conflict with an earlier incomplete step of the stream. -/
def hazard (steps : List StepRec) (o : RunOut) : Bool :=
  let hit := fun (a b : List (Nat × Nat)) => a.any (fun p => b.any (fun q => overlaps p.1 p.2 q.1 q.2))
  steps.any (fun s =>
    let w := s.scratch.map (fun p => (p.addr, p.bytes.length))
    hit w o.reads || hit w o.writes || hit s.reads o.writes ||
      s.rowWrites.any (fun ri => o.rowReads.contains ri || o.rowWrites.contains ri))

/-- The units a step takes from WSEM: LEN for WAIT, one with WEN otherwise. -/
def takeUnits (d : Desc) : Nat := if d.opcode = 0x50 then d.len else if d.wen then 1 else 0

/-- R37: a LOOP breaks the nesting rule: a third level, a body past the end of its enclosing body, or, in the part of the
body that is held, an END or such a LOOP. -/
def loopBad (v : Stream) (d : Desc) : Bool :=
  let first := v.pc + 32
  let past := first + 32 * (d.len % 256)
  let depth := v.loops.length
  let outer := match v.loops with | [] => true | f :: _ => decide (past ≤ f.past)
  decide (2 ≤ depth) || !outer ||
    (List.range (d.len % 256)).any (fun i =>
      match v.descAt (first + 32 * i) with
      | some b =>
        b.opcode == 0x7F ||
          (b.opcode == 0x60 && (decide (1 ≤ depth) || decide (past < first + 32 * i + 32 + 32 * (b.len % 256)) ||
            -- a third level inside the body of the nested LOOP
            (List.range (b.len % 256)).any (fun j => (v.descAt (first + 32 * (i + 1 + j))).any (fun c => c.opcode == 0x60))))
      | none => false)

/-- R37: END stands inside the body of a loop. -/
def endBad (v : Stream) (d : Desc) : Bool := d.opcode == 0x7F && !v.loops.isEmpty

/-- The cause that keeps the next descriptor of a stream from issuing (R474). -/
def issueCause (v : Stream) (d : Desc) : Option Cause :=
  match checkDesc d with
  | some c => some c
  | none => if endBad v d || (d.opcode == 0x60 && loopBad v d) then some .loopDepth else none

/-- The next descriptor of a stream with its strides, where the stream may issue it: RUNNING and not at its end. -/
def Stream.nextDesc (v : Stream) : Option Desc :=
  if v.state = .running && !v.ending && v.refetch.isNone && (v.poisonAt v.pc).isNone then
    (v.descAt v.pc).map (fun d => d.withStrides v.loops)
  else none

/-- The units taken, or the stream made to wait (R39, R45). Answers none where the stream now waits. -/
def Site.take (s : Site) (e : Env) (x : SiteIx) (st : StreamId) (d : Desc) : Site × Bool :=
  let n := takeUnits d
  let v := s.stream st
  if n = 0 || v.granted then (s, true)
  else
    let c := (s.sems[d.wsem]).toNat
    if n ≤ c then ({ s with sems := s.sems.set d.wsem (BitVec.ofNat 16 (c - n)) }, true)
    else
      (s.setStream st { v with state := .waiting, want := some (d.wsem, n),
                               waitFrom := blockTicks e.time (.stepEngine x) }, false)

/-- The record of a step whose work has been done (R41). -/
def mkRec (v : Stream) (d : Desc) (o : RunOut) (ef : StepEff) : StepRec :=
  { id := v.nextId, off := v.pc, kind := ef.kind, sen := if d.sen then some d.ssem else none, reads := o.reads,
    scratch := ef.scratch, rowReads := o.rowReads, sectors := ef.sectors, rowWrites := o.rowWrites, sat := ef.sat, nan := ef.nan, empty := ef.empty,
    spoiled := false }

/-- A slice sent toward a cluster sampler. -/
def Fabric.sendSlice (f : Fabric) (p : ClusterId × Slice) : Fabric :=
  let s := f.sampler p.1
  f.setSampler p.1 { s with inflight := s.inflight ++ [p.2] }

/-- The effect of a step entered in its stream: in flight until STEP_COMPLETE, its SENDs and slices under way. -/
def Fabric.enter (f : Fabric) (x : SiteIx) (st : StreamId) (d : Desc) (o : RunOut) (ef : StepEff) : Fabric :=
  let s := f.site x
  let v := s.stream st
  let r := mkRec v d o ef
  let v := { v with steps := v.steps ++ [r], nextId := v.nextId + 1, sends := v.sends ++ ef.sends,
                    slices := v.slices + ef.slices.length }
  let f := f.setSite x (s.setStream st v)
  ef.slices.foldl Fabric.sendSlice f

/-- The work of the current descriptor carried out and entered; a fault found after issue faults the stream, a parity
error in a tagged block waits for its reload (R52). -/
def Fabric.execute (f : Fabric) (e : Env) (x : SiteIx) (t : TileId) (st : StreamId) (d : Desc)
    (run : StepCtx → RunOut) : Fabric :=
  let v := (f.site x).stream st
  let o := run { e := e, f := f, x := x, t := t, st := st, d := d, off := v.pc }
  match o.res with
  | .ok ef =>
    let g := o.f.enter x st d o ef
    let s := g.site x
    (g.setSite x (s.setStream st (s.stream st).next)).reach e x t st
  | .fault i wrote =>
    let s := (wrote.foldl Site.apply (o.f.site x)).race (some st) (writeRanges wrote)
    (o.f.setSite x s).faultStream e x t st v.pc i
  | .refetch b =>
    let s := o.f.site x
    o.f.setSite x (s.setStream st { (s.stream st) with
      refetch := some { block := b, row := (tget s.tags 0 b - 1) / 1024, off := v.pc } })

/-- A step command: the next descriptor of the stream is of the command's kind (`sel`), its checks are made, its units
taken, its order conditions held, and its work carried out. Nothing happens where the descriptor is another, or where a
condition of R41 does not hold yet. -/
def Fabric.issue (f : Fabric) (e : Env) (x : SiteIx) (t : TileId) (st : StreamId) (sel : Desc → Bool)
    (run : StepCtx → RunOut) : Fabric :=
  let v := (f.site x).stream st
  match v.nextDesc with
  | none => f
  | some d =>
    if !sel d then f else
    match issueCause v d with
    | some c => f.faultStream e x t st v.pc (FaultInfo.of c)
    | none =>
      if d.ord && !v.steps.isEmpty then f else
      let o := run { e := e, f := f, x := x, t := t, st := st, d := d, off := v.pc }
      if hazard v.steps o then f else
      let (s, ok) := (f.site x).take e x st d
      let f := f.setSite x s
      if !ok then f else f.execute e x t st d run

/-- A control opcode: it has no work of its own. `act` is what it does once it issues; `ready` its own condition. -/
def Fabric.issueControl (f : Fabric) (e : Env) (x : SiteIx) (t : TileId) (st : StreamId) (sel : Desc → Bool)
    (ready : Site → Stream → Desc → Bool) (act : Fabric → Desc → Fabric) : Fabric :=
  let v := (f.site x).stream st
  match v.nextDesc with
  | none => f
  | some d =>
    if !sel d then f else
    match issueCause v d with
    | some c => f.faultStream e x t st v.pc (FaultInfo.of c)
    | none =>
      if (d.ord && !v.steps.isEmpty) || !ready (f.site x) v d then f else
      let (s, ok) := (f.site x).take e x st d
      let f := f.setSite x s
      if !ok then f else (act f d).reach e x t st

/-- The stream of a site changed. -/
def Fabric.modStream (f : Fabric) (x : SiteIx) (st : StreamId) (g : Stream → Stream) : Fabric :=
  let s := f.site x
  f.setSite x (s.setStream st (g (s.stream st)))

/-- A control opcode passed by: the stream moves on, and its SEN unit is added. -/
def Fabric.passBy (f : Fabric) (e : Env) (x : SiteIx) (t : TileId) (st : StreamId) (d : Desc) : Fabric :=
  let off := ((f.site x).stream st).pc
  let f := f.modStream x st Stream.next
  if d.sen then f.localAdd e x t st off d.ssem 1 else f

/-- R42: what a completed step leaves: its scratch and row writes are visible and its events counted. -/
def Fabric.commit (f : Fabric) (e : Env) (x : SiteIx) (st : StreamId) (r : StepRec) : Fabric :=
  let s := (r.scratch.foldl Site.apply (f.site x)).race (some st) (writeRanges r.scratch)
  let s := { s with nanOut := satAdd 16 s.nanOut r.nan, satCount := satAdd 16 s.satCount r.sat,
                    emptyRows := satAdd 16 s.emptyRows r.empty }
  (f.setSite x s).writeSectors e x r.sectors

/-- R111: the step as it completes: D of a MATMUL whose regions another stream has written, or is writing, while it ran holds
unspecified bytes. -/
def Site.settled (s : Site) (free : Nat) (st : StreamId) (r : StepRec) : StepRec :=
  let writing := allStreams.any (fun u => u != st && (s.stream u).steps.any (fun q => anyOverlap r.regions (writeRanges q.scratch)))
  if r.spoiled || writing then
    { r with scratch := r.scratch.map (fun w =>
        { w with bytes := (List.range w.bytes.length).map (fun i => Config.freeByte free (w.addr + i)) }) }
  else r

/-- WINDOW_MS and SUSPECT_THRESH of TILE_MM_CHK_CFG with their ranges; the window in ticks. -/
def chkWindow (e : Env) (t : TileId) : Nat := 1000 * clampN 10 60000 (fld (e.reg (tileReg t 0x138)) 23 8)
def chkThresh (e : Env) (t : TileId) : Nat := Nat.max 1 (fld (e.reg (tileReg t 0x138)) 7 0)

/-- R110: CHK_REPLAYS or CHK_FAULTS has increased by one, in the device's own counts; SUSPECT_THRESH of these within WINDOW_MS, which ends
at its last tick (R472), make the tile suspect. -/
def Fabric.countCheck (f : Fabric) (e : Env) (x : SiteIx) (t : TileId) : Fabric :=
  let s := f.site x
  let now := blockTicks e.time (.stepEngine x)
  let ev := (s.arr.events ++ [now]).filter (fun n => now < n + chkWindow e t)
  if chkThresh e t ≤ ev.length then
    (f.setSite x { s with arr := { s.arr with events := [], suspect := true } }).report e 0x0102 (.site x) 110 0
  else f.setSite x { s with arr := { s.arr with events := ev } }

/-- A MATMUL done leaves the array; where it was a replay, the replay has passed (R109). -/
def Fabric.arrayDone (f : Fabric) (e : Env) (x : SiteIx) (t : TileId) (st : StreamId) (id : Nat) : Fabric :=
  let s := f.site x
  let a := s.arr.leave st id
  if s.arr.replay = some (st, id) then
    (f.setSite x { s with arr := { a with replays := satAdd 16 a.replays 1 } }).countCheck e x t
  else f.setSite x { s with arr := a }

/-- Everything that happens when step `id` of a stream completes. -/
def Fabric.complete (f : Fabric) (e : Env) (x : SiteIx) (t : TileId) (st : StreamId) (id : Nat) : Fabric :=
  let v := (f.site x).stream st
  match v.steps.find? (fun r => r.id = id) with
  | none => f
  | some r =>
    -- a SIGNAL waits for every earlier step, a MATMUL for those before it in the array
    let early := match r.kind with
      | .signal _ _ => v.steps.any (fun q => q.id < id)
      | .matmul _ _ _ => (f.site x).arr.behind st id
      | _ => false
    if early then f else
      let f := f.commit e x st ((f.site x).settled f.free st r)
      let f := f.modStream x st (fun v => { v with steps := v.steps.filter (fun q => q.id ≠ id) })
      let f := match r.kind with
        | .signal q n => f.localAdd e x t st r.off q n
        | .matmul _ _ _ => f.arrayDone e x t st id
        | _ => f
      match r.kind, r.sen with
      | .signal _ _, _ => f
      | _, some q => f.localAdd e x t st r.off q 1
      | _, none => f

end Sys2Proof.Machine
end

