-- ==== Sys2Proof/Machine/StepUnits.lean ====
section
/-! DEFINITION. The work of each opcode of Table Tiles-4 once it has issued: row moves, layouts, the matrix array, attention,
vectors, near-bank operations, SEND and SAMPLE. -/

namespace Sys2Proof.Machine

/-- A result without rows, or with no conflict of rows. -/
def StepCtx.outS (c : StepCtx) (reads writes : List (Nat × Nat)) (r : RunRes) : RunOut :=
  { f := c.f, reads := reads, writes := writes, rowReads := [], rowWrites := [], res := r }

/-- The row indices from a slot offset on. -/
def rowsFrom (addr : Int) (n : Nat) : List Nat := (List.range n).map (fun i => addr.toNat / 1024 + i)

/-- Sectors of a row result as scratch writes of 64 bytes at `a`, with the row's tag if the block is filled whole and
aligned (R52, R385). -/
def rowToScratch (a ri : Nat) (rs : List SecRead) : List ScratchWrite :=
  rs.zipIdx.map (fun p => { addr := a + 64 * p.2, bytes := sectorBytes p.1.data, poison := p.1.poison, tag := none }) ++
    (if a % 1024 = 0 then [{ addr := a, bytes := [], poison := false, tag := some (1024 * ri) }] else [])

/-- ROW_LOAD (R35): COUNT rows into scratch at SD; poison is carried as block marks (R385). -/
def runRowLoad (c : StepCtx) : RunOut :=
  let ris := rowsFrom c.d.addr c.d.count
  let sd := c.d.sd.toNat
  let (f, rows) := c.f.readRows c.e c.x 4 ris
  let ws := (ris.zip rows).zipIdx.flatMap (fun p => rowToScratch (sd + 1024 * p.2) p.1.1 p.1.2)
  { f := f, reads := [], writes := [(sd, 1024 * c.d.count)], rowReads := ris, rowWrites := [],
    res := .ok { StepEff.none with scratch := ws } }

/-- Sector writes of whole rows from scratch at `a`; a poisoned block gives a record with cause PROPAGATED (R166, R385). -/
def scratchToRows (c : StepCtx) (a : Nat) (ris : List Nat) (kind : Nat) : List SectorWrite :=
  let s := c.site
  ris.zipIdx.flatMap (fun p => (List.range 16).map (fun i =>
    let b := a + 1024 * p.2 + 64 * i
    if s.blockPoison b then
      { key := 16 * p.1 + i, data := poisonRec .propagated c.t.val kind (nowNs c.e.time), poison := true }
    else { key := 16 * p.1 + i, data := bytesSector (s.bytes b 64), poison := false }))

/-- ROW_STORE (R35): COUNT rows from scratch at SA. -/
def runRowStore (c : StepCtx) : RunOut :=
  let ris := rowsFrom c.d.addr c.d.count
  let sa := c.d.sa.toNat
  let rg := [(sa, 1024 * c.d.count)]
  { f := c.f, reads := rg, writes := [], rowReads := [], rowWrites := ris
    res := match c.site.checkReads rg false with
      | some b => badRes b
      | none => .ok { StepEff.none with sectors := scratchToRows c sa ris 0 } }

/-- The rows that a column range touches. -/
def rangeRows (a n : Nat) : List Nat :=
  if n = 0 then [] else (List.range ((a + n - 1) / 1024 + 1 - a / 1024)).map (· + a / 1024)

/-- The bytes of a column range read through rows, and the first poisoned sector that it touches. -/
structure ColBytes where
  first : Nat
  rows : List (List SecRead)
deriving DecidableEq, Repr

/-- A byte of a column range by its slot offset. -/
def ColBytes.byte (b : ColBytes) (off : Nat) : Nat :=
  match (b.rows.getD (off / 1024 - b.first) []).drop (off % 1024 / 64) with
  | r :: _ => r.data.toNat / 2 ^ (8 * (off % 64)) % 256
  | [] => 0

/-- The sector result that holds a slot offset. -/
def ColBytes.sec (b : ColBytes) (off : Nat) : Option SecRead :=
  (b.rows.getD (off / 1024 - b.first) [])[off % 1024 / 64]?

/-- The record that a poisoned read delivers: the stored record, or cause UNCORRECTABLE for outcome 5 (Table DRAM-4). -/
def deliveredRec (c : StepCtx) (r : SecRead) : BitVec 512 :=
  if r.outcome = 5 then poisonRec .uncorrectable c.t.val 2 (nowNs c.e.time) else r.data

/-- The first poisoned sector of [a, a + n): its key and delivered record. -/
def ColBytes.firstPoison (b : ColBytes) (c : StepCtx) (a n : Nat) : Option (Nat × BitVec 512) :=
  if n = 0 then none else
  (List.range ((a + n - 1) / 64 + 1 - a / 64)).findSome? (fun i =>
    let k := a / 64 + i
    match b.sec (64 * k) with
    | some r => if r.poison then some (k, deliveredRec c r) else none
    | none => none)

/-- A column range read for a step. -/
def StepCtx.readCol (c : StepCtx) (cls a n : Nat) : Fabric × ColBytes :=
  let ris := rangeRows a n
  let (f, rows) := c.f.readRows c.e c.x cls ris
  (f, { first := a / 1024, rows := rows })

/-- A poison fault of a DRAM sector. -/
def poisonFault (p : Nat × BitVec 512) : RunRes := .fault { FaultInfo.of .poisonConsumed with poisonAt := some p } []

/-- LAYOUT LINEAR (R54, R55): LEN bytes unchanged. -/
def runLinear (c : StepCtx) : RunOut :=
  let n := c.d.len
  let sd := c.d.sd.toNat
  let chunks := (List.range (cdiv n 64)).map (fun i => (64 * i, Nat.min 64 (n - 64 * i)))
  if c.d.mod < 128 then
    let a := c.d.addr.toNat
    let (f, cb) := c.readCol 4 a n
    let ws := chunks.map (fun p =>
      ({ addr := sd + p.1, bytes := (List.range p.2).map (fun i => BitVec.ofNat 8 (cb.byte (a + p.1 + i)))
         poison := ((cb.sec (a + p.1)).map (·.poison)).getD false, tag := none } : ScratchWrite))
    -- blocks filled from one whole row keep the row's tag
    let tagged := (List.range (n / 1024 + 1)).filterMap (fun i =>
      let dst := alignUp sd 1024 + 1024 * i
      let src := a + (dst - sd)
      if dst + 1024 ≤ sd + n && src % 1024 = 0 then
        some ({ addr := dst, bytes := [], poison := false, tag := some src } : ScratchWrite) else none)
    { f := f, reads := [], writes := [(sd, n)], rowReads := rangeRows a n, rowWrites := []
      res := .ok { StepEff.none with scratch := ws ++ tagged } }
  else
    let a := c.d.sa.toNat
    let s := c.site
    let ws := chunks.map (fun p =>
      ({ addr := sd + p.1, bytes := s.bytes (a + p.1) p.2, poison := s.blockPoison (a + p.1), tag := none } : ScratchWrite))
    c.outS [(a, n)] [(sd, n)] (match s.checkReads [(a, n)] false with
      | some b => badRes b
      | none => .ok { StepEff.none with scratch := ws })

/-- The writes of a data operation as scratch writes. -/
def dataWrites (o : DataOut) : List ScratchWrite :=
  o.writes.map (fun p => { addr := p.1, bytes := p.2, poison := false, tag := none })

/-- R89: unspecified contents of the destination ranges after an invalid code. -/
def freeWrites (c : StepCtx) (ranges : List (Nat × Nat)) : List ScratchWrite :=
  ranges.map (fun r => { addr := r.1, bytes := (List.range r.2).map (fun i => Config.freeByte c.f.free (r.1 + i)),
                         poison := false, tag := none })

/-- The result of a data operation: an invalid code faults and leaves the destination unspecified (R89). -/
def dataRes (c : StepCtx) (o : DataOut) (dst : List (Nat × Nat)) : RunRes :=
  match o.invalid with
  | some a => .fault { FaultInfo.of .invalidCode with extra := a } (freeWrites c dst)
  | none => .ok { StepEff.none with scratch := dataWrites o, sat := o.sat, nan := o.nan }

/-- LAYOUT of a skew kind (R54, R55). -/
def runSkew (c : StepCtx) : RunOut :=
  let n := layoutSrcBytes c.d
  let dst := [(c.d.sd.toNat, layoutDstBytes c.d)]
  if c.d.mod < 128 then
    let a := c.d.addr.toNat
    let (f, cb) := c.readCol 4 a n
    { f := f, reads := [], writes := dst, rowReads := rangeRows a n, rowWrites := []
      res := match cb.firstPoison c a n with
        | some p => poisonFault p
        | none => dataRes c (skewOut cb.byte c.d a) dst }
  else
    let a := c.d.sa.toNat
    c.outS [(a, n)] dst (match c.site.checkReads [(a, n)] true with
      | some b => badRes b
      | none => dataRes c (skewOut c.rd c.d a) dst)

/-- What can stop a MATMUL while it reads: a byte with a parity error or poison, a tensor scale, or an invalid code. -/
inductive MatBad where
  | read (b : ReadBad)
  | scale
  | code (a : Nat)
deriving DecidableEq, Repr

/-- Everything that would stop a MATMUL, each with the place in the order of its reads (R95, R112): 3 × the key of R93's reads, and within one
key a parity error, poison, and then the value itself. -/
def matBads (s : Site) (d : Desc) : List (Nat × MatBad) :=
  s.scratch.flatMap (fun p =>
    if parityBad p.2 then (matKeys d p.1).map (fun k =>
      (3 * k, .read (if tget s.tags 0 (p.1 / 1024) = 0 then .parity p.1 else .refetch (p.1 / 1024)))) else []) ++
  s.poison.flatMap (fun p =>
    if p.2 then (List.range 64).flatMap (fun i => (matKeys d (64 * p.1 + i)).map (fun k => (3 * k + 1, .read (.poison p.1)))) else []) ++
  (if posNormal32 (matTA s.rd d) then [] else [(2, .scale)]) ++
  (if posNormal32 (matTB s.rd d) then [] else [(5, .scale)]) ++
  (matCodes s.rd d).map (fun q => (3 * (q.1 + 2) + 2, .code q.2))

/-- The entry that comes first, and of several at one place the one listed first. -/
def firstMatBad (l : List (Nat × MatBad)) : Option (Nat × MatBad) :=
  l.foldl (fun best c =>
    match best with
    | none => some c
    | some b => if c.1 < b.1 then some c else some b) none

/-- What stopped a MATMUL, as a result. -/
def MatBad.res : MatBad → RunRes
  | .read b => badRes b
  | .scale => .fault (FaultInfo.of .badField) []
  | .code a => .fault { FaultInfo.of .invalidCode with extra := a } []

/-- R115: the capture of an armed element of the stream's next MATMUL, where acc was complete to the block before the place `upto` in the order
of reads. -/
def ArraySt.capture (a : ArraySt) (rd : Rd) (d : Desc) (st : StreamId) (upto : Option Nat) : ArraySt :=
  let sel := a.dbgSel.toNat
  let row := fld sel 25 20
  let col := fld sel 19 12
  let blk := fld sel 11 0
  let done := match upto with
    | some k => decide (3 * (captureLine d row col blk + 2) + 2 < k)
    | none => true
  if bit sel 31 && fld sel 30 29 == st.val && decide (row < shapeRows d.mod) && decide (col < 4096 / shapeRows d.mod) && done then
    { a with dbgSel := BitVec.ofNat 32 (sel % 2 ^ 31), dbgValid := true, dbgData := matCapture rd d row col blk }
  else a

/-- MATMUL (R92–R106): it takes its place in the array, its operands are read and checked line by line, D is computed whole, and written when the
step completes. -/
def runMatmul (c : StepCtx) : RunOut :=
  let d := c.d
  let acc := bit d.mod 2
  let rg := [(d.sa.toNat, matmulABytes d), (d.sb.toNat, matmulBBytes d)] ++
    (if acc then [(d.sd.toNat, dBytes d)] else [])
  let dst := [(d.sd.toNat, dBytes d)]
  let s := c.site
  let id := (s.stream c.st).nextId
  let out := fun (a : ArraySt) (r : RunRes) =>
    ({ f := c.f.setSite c.x { s with arr := a }, reads := rg, writes := dst, rowReads := [], rowWrites := [], res := r } : RunOut)
  match firstMatBad (matBads s d) with
  | some (_, .read (.refetch b)) => out (s.arr.enter c.st id d.mod) (.refetch b)
  | some (k, b) =>
    -- before line 0 the array has not been entered; on a line it keeps the shape of the step that it stops
    if k < 6 then out (s.arr.leave c.st id) b.res
    else out ((s.arr.stop c.st id d.mod).capture c.rd d c.st (some k)) b.res
  | none =>
    let o := matmulOut c.rd d
    let a := (s.arr.enter c.st id d.mod).capture c.rd d c.st none
    out { a with bookA := (matA d).books c.rd, bookB := (List.range (bTiles d.mod)).flatMap (fun s => (matB d s).books c.rd) }
      (.ok { StepEff.none with kind := .matmul d.mod d.m d.n, scratch := dataWrites o, sat := o.sat, nan := o.nan })

/-- The vector operations of Table Tiles-7, by MOD. -/
def vecDo (d : Desc) (rd : Rd) : DataOut :=
  let v : VecIn := { op := d.mod, sa := d.sa.toNat, sb := d.sb.toNat, sd := d.sd.toNat,
                     imm := if d.mod = 0x28 then Config.rmsnormS d.imm % 2 ^ 32 else d.imm, len := d.len, k := d.k,
                     fa := d.fa, fb := d.fb, fd := d.fd, rnd := Rnd.ofField d.rnd }
  match d.mod with
  | 0x00 => vecCopy v rd | 0x01 => vecAdd v rd | 0x02 => vecSub v rd | 0x03 => vecMul v rd | 0x04 => vecFma v rd
  | 0x05 => vecMax v rd | 0x06 => vecMin v rd | 0x07 => vecAbs v rd | 0x08 => vecNeg v rd | 0x09 => vecMulS v rd
  | 0x0A => vecAddS v rd | 0x0B => vecClampS v rd
  | 0x10 | 0x11 | 0x12 | 0x13 | 0x14 | 0x15 | 0x16 | 0x17 => vecTab d.mod v rd
  | 0x20 => vecRsum v rd | 0x21 => vecRmax v rd | 0x22 => vecRsumsq v rd
  | 0x28 => vecRmsnorm v rd | 0x29 => vecSoftmax v rd | 0x2A => vecRope v rd | 0x2B => vecSwiglu v rd
  | 0x30 => cvt rd d.fa d.fd d.ae5 (Rnd.ofField d.rnd) d.sa.toNat d.sd.toNat d.len d.k d.imm
  | 0x31 => quant rd (vecElem rd d.fa d.sa.toNat) d.fd d.de5 (Rnd.ofField d.rnd) d.sb.toNat d.sd.toNat d.len d.k d.imm
  | _ => vecMaskIdx v rd

/-- VEC (R46). -/
def runVec (c : StepCtx) : RunOut :=
  let d := c.d
  let rg := [(d.sa.toNat, vecABytes d)] ++ (if vecUsesB d then [(d.sb.toNat, vecBBytes d)] else []) ++
    (if d.mod = 4 then [(d.sd.toNat, vecDBytes d)] else [])
  let dst := [(d.sd.toNat, vecDBytes d)]
  c.outS rg dst (match c.site.checkReads rg true with
    | some b => badRes b
    | none => dataRes c (vecDo d c.rd) dst)

-- Attention ----------------------------------------------------------------------------------------------------------

/-- A page read by the attention engine or KV_APPEND: its bytes and sector results. -/
structure PageRead where
  bytes : List Byte
  secs : List SecRead
deriving DecidableEq, Repr

/-- The first sectors of a page (slot offset 16 KiB × page) that `n` bytes cover. -/
def readPage (f : Fabric) (e : Env) (x : SiteIx) (cls page n : Nat) : Fabric × PageRead :=
  let ris := (List.range (cdiv n 1024)).map (· + 16 * page)
  let (f, rows) := f.readRows e x cls ris
  let secs := rows.flatMap id
  (f, { bytes := secs.flatMap (fun s => sectorBytes s.data), secs := secs })

/-- The first poisoned sector among the first `n` bytes of a page: its key and record. -/
def PageRead.firstPoison (p : PageRead) (c : StepCtx) (page n : Nat) : Option (Nat × BitVec 512) :=
  ((p.secs.take (cdiv n 64)).zipIdx.find? (fun s => s.1.poison)).map
    (fun s => (256 * page + s.2, deliveredRec c s.1))

/-- R128, R129: one page of an entry checked: poison in its header, the header's fields, then poison in an element sector. -/
def checkPage (c : StepCtx) (p : PageRead) (page pos0 tokens : Nat) : Option (Cause × Option (Nat × BitVec 512)) :=
  let e := kvBytes c.d.fb
  let h := PageHeader.ofBytes p.bytes
  match p.firstPoison c page 64 with
  | some q => some (.poisonConsumed, some q)
  | none =>
    if h.pos0 != pos0 || h.count < tokens || (c.d.fb == .e4m3 && !posNormal32 h.scale) then some (.badField, none)
    else if h.kvf != (if c.d.fb = .e4m3 then 2 else 1) then some (.badFormat, none)
    else
      match p.firstPoison c page (64 + tokens * c.d.k * e) with
      | some q => some (.poisonConsumed, some q)
      | none => none

/-- What taking the page list has come to: the fabric, the decoded pages so far, or the first failure. -/
structure PageWalk where
  f : Fabric
  pages : List PagePair
  rows : List Nat
  bad : Option (Cause × Option (Nat × BitVec 512))

/-- One page-list entry (R126, R128). -/
def takeEntry (c : StepCtx) (h : QueryHeader) (last : Bool) (w : PageWalk) (en : PageEntry) : PageWalk :=
  if w.bad.isSome then w else
  let e := kvBytes c.d.fb
  let tokens := if last then attLast c.d else tokensPerPage c.d.k e
  if en.direct && h.slice == 0 then { w with bad := some (.badField, none) } else
  let kp := en.kPage h
  let region := tget c.f.kvRegion none c.t.val
  let inRegion := fun (p : Nat) => match region with
    | some (a, n) => decide (a ≤ p * 16384) && decide (p * 16384 + 16384 ≤ a + n)
    | none => false
  if 24575 < kp + 1 || !inRegion kp || !inRegion (kp + 1) then { w with bad := some (.addressHole, none) } else
  if en.reservedSet || 1048576 < en.pos0 + tokens then { w with bad := some (.badField, none) } else
  let n := 64 + tokens * c.d.k * e
  let (f, pk) := readPage w.f c.e c.x 2 kp n
  match checkPage c pk kp en.pos0 tokens with
  | some b => { w with f := f, bad := some b }
  | none =>
    let (f, pv) := readPage f c.e c.x 2 (kp + 1) n
    match checkPage c pv (kp + 1) en.pos0 tokens with
    | some b => { w with f := f, bad := some b }
    | none =>
      let one : Val := .fin false ⟨1, 0⟩
      let sc := fun (p : PageRead) => if c.d.fb = .e4m3 then fp32F.decode (PageHeader.ofBytes p.bytes).scale else one
      { w with
        f := f
        rows := w.rows ++ (List.range 32).map (· + 16 * kp)
        pages := w.pages ++ [{ pos0 := en.pos0, tokens := tokens, kScale := sc pk, vScale := sc pv,
                               kBytes := pk.bytes, vBytes := pv.bytes }] }

/-- The result rows of an ATTEND as one scratch write per row. -/
def attWrites (d : Desc) (rows : List RowOut) : StepEff :=
  { StepEff.none with
    scratch := rows.zipIdx.map (fun p =>
      { addr := d.sd.toNat + p.2 * attRowBytes d, bytes := p.1.bytes, poison := false, tag := none })
    sat := (rows.map (·.sat)).sum, nan := (rows.map (·.nan)).sum, empty := (rows.map (·.empty)).sum }

/-- The header and query-position checks of R128. -/
def attHeaderOk (d : Desc) (h : QueryHeader) (pos : List Nat) : Bool :=
  let merge := attOut d == 2
  1 ≤ h.nq && h.nq ≤ 256 && h.nq * attG d ≤ 256 &&
    (merge || (posNormal32 h.sigma && !h.reservedSet &&
      (attMask d != 2 || (1 ≤ h.window && h.window ≤ 1048576)) && pos.all (fun p => p < 2 ^ 20)))

/-- ATTEND with OUT FINAL or PARTIAL (R130, R131). -/
def runAttend (c : StepCtx) : RunOut :=
  let d := c.d
  let sa := d.sa.toNat
  let list := (d.sb.toNat, 8 * d.count)
  let h := QueryHeader.read c.rd sa
  let fail := fun (reads : List (Nat × Nat)) (r : RunRes) => c.outS reads [] r
  match c.site.checkReads [(sa, 64)] true with
  | some b => fail [(sa, 64)] (badRes b)
  | none =>
    let nq := h.nq
    let posRange := (sa + 64, 4 * (if nq ≤ 256 then nq else 0))
    match c.site.checkReads [posRange] true with
    | some b => fail [(sa, 64), posRange] (badRes b)
    | none =>
      let pos := (List.range (if nq ≤ 256 then nq else 0)).map (fun n => rdLe c.rd (qPosAddr sa n) 4)
      let rg := [(sa, qBlockBytes d nq), list]
      let dst := (d.sd.toNat, attDBytes d nq)
      if !attHeaderOk d h pos then fail [(sa, 64), posRange] (.fault (FaultInfo.of .badField) [])
      else if !rdRangeOk d.sa (qBlockBytes d nq) || !wrRangeOk d.sd (attDBytes d nq) then
        fail rg (.fault (FaultInfo.of .scratchRange) [])
      else if overlaps dst.1 dst.2 sa (qBlockBytes d nq) || overlaps dst.1 dst.2 list.1 list.2 then
        fail rg (.fault (FaultInfo.of .badField) [])
      else
        match c.site.checkReads rg true with
        | some b => fail rg (badRes b)
        | none =>
          let entries := (List.range d.count).map (fun i => PageEntry.ofNat (rdLe c.rd (d.sb.toNat + 8 * i) 8))
          let w := entries.zipIdx.foldl (fun w p => takeEntry c h (p.2 + 1 == d.count) w p.1)
            { f := c.f, pages := [], rows := [], bad := none }
          let res := match w.bad with
            | some (cause, p) => .fault { FaultInfo.of cause with poisonAt := p } []
            | none =>
              let rows := (List.range (nq * attG d)).map (fun r =>
                let q := (List.range d.k).map (fun i =>
                  vecElem c.rd d.fa (qRowsAt sa nq + r * qRowStride d) i)
                let qp := pos.getD (r / attG d) 0
                let st := w.pages.foldl (fun st p =>
                  attEntry d.fb d.k (fp32F.decode h.sigma) q p
                    (fun t => !masked (attMask d) h.window (p.pos0 + t) qp) st) (RowSt.init d.k)
                if attOut d = 0 then finalRow d.fd d.k st else partialRow d.k st)
              .ok (attWrites d rows)
          { f := w.f, reads := rg, writes := [dst], rowReads := w.rows, rowWrites := [], res := res }

/-- ATTEND with OUT MERGE (R132). -/
def runMerge (c : StepCtx) : RunOut :=
  let d := c.d
  let sa := d.sa.toNat
  let h := QueryHeader.read c.rd sa
  match c.site.checkReads [(sa, 64)] true with
  | some b => c.outS [(sa, 64)] [] (badRes b)
  | none =>
    let nr := h.nq * attG d
    let rg := [(sa, mergeBytes d h.nq)]
    let dst := (d.sd.toNat, attDBytes d h.nq)
    if !attHeaderOk d h [] then c.outS [(sa, 64)] [] (.fault (FaultInfo.of .badField) [])
    else if !rdRangeOk d.sa (mergeBytes d h.nq) || !wrRangeOk d.sd (attDBytes d h.nq) then
      c.outS rg [] (.fault (FaultInfo.of .scratchRange) [])
    else if overlaps dst.1 dst.2 sa (mergeBytes d h.nq) then c.outS rg [] (.fault (FaultInfo.of .badField) [])
    else
      match c.site.checkReads rg true with
      | some b => c.outS rg [] (badRes b)
      | none =>
        let recAt := fun (i r : Nat) => sa + 64 + (i * nr + r) * (64 + 4 * d.k)
        let rows := (List.range nr).map (fun r =>
          mergeRow d.fd d.k ((List.range d.count).map (fun i =>
            let a := recAt i r
            (fp32F.decode (rdLe c.rd a 4), fp32F.decode (rdLe c.rd (a + 4) 4),
             (List.range d.k).map (fun j => fp32F.decode (rdLe c.rd (a + 64 + 4 * j) 4))))))
        c.outS rg [dst] (.ok (attWrites d rows))

-- Near-bank operations (R172–R178) -----------------------------------------------------------------------------------

/-- Element e of a row result in a format. -/
def rowElem (fm : Fmt) (rs : List SecRead) (i : Nat) : Val :=
  let w := bytesOf fm
  let off := i * w
  match rs[off / 64]? with
  | some r => vecElem (fun a => r.data.toNat / 2 ^ (8 * a) % 256) fm (off % 64) 0
  | none => Val.zero

/-- Does any sector that holds the first `n` bytes of a row carry poison? -/
def rowPoison (rs : List SecRead) (n : Nat) : Bool := (rs.take (cdiv n 64)).any (·.poison)

/-- REDUCE (R173). -/
def runReduce (c : StepCtx) : RunOut :=
  let d := c.d
  let ris := rowsFrom d.addr d.count
  let (f, rows) := c.f.readRows c.e c.x 3 ris
  let bad := rows.any (fun r => rowPoison r (d.len * bytesOf d.fa))
  let cs := (List.range d.len).map (fun i =>
    let v := match rows with
      | [] => Val.zero
      | r :: rest => rest.foldl (fun acc q => add32 acc (rowElem d.fa q i)) (rowElem d.fa r i)
    d.fd.convTo .nearest v)
  let w : ScratchWrite := { addr := d.sd.toNat, bytes := codeBytes (bytesOf d.fd) (cs.map (·.code)), poison := bad, tag := none }
  { f := f, reads := [], writes := [(d.sd.toNat, d.len * bytesOf d.fd)], rowReads := ris, rowWrites := []
    res := .ok { StepEff.none with scratch := [w], sat := (cs.map (·.sat)).sum, nan := (cs.map (·.nan)).sum } }

/-- R161: the rows of a locked pair are written in the transfer that follows their read, with nothing between them. -/
def StepCtx.pair (c : StepCtx) (f : Fabric) (ws : List SectorWrite) : Fabric := f.writeSectors c.e c.x ws

/-- SCALE_ADD (R174): rows in place as locked pairs; a poisoned sector or addend block gives a PROPAGATED record (R385). -/
def runScaleAdd (c : StepCtx) : RunOut :=
  let d := c.d
  let ris := rowsFrom d.addr d.count
  let sa := d.sa.toNat
  let rg := [(sa, srcBytes d.fa d.count d.len), (d.sb.toNat, 4)]
  let s := c.site
  match s.checkReads rg false with
  | some b => { f := c.f, reads := rg, writes := [], rowReads := ris, rowWrites := ris, res := badRes b }
  | none =>
    let (f, rows) := c.f.readRows c.e c.x 3 ris
    let w := bytesOf d.fd
    let sc := fp32F.decode (rdLe c.rd d.sb.toNat 4)
    let sPoison := s.blockPoison d.sb.toNat
    let perRow := (ris.zip rows).zipIdx.map (fun p =>
      let base := sa + p.2 * srcStride d.fa d.len
      let cs := (List.range d.len).map (fun i =>
        d.fd.convTo .nearest ((sc.mul (rowElem d.fd p.1.2 i)).add (vecElem c.rd d.fa base i)))
      let old := p.1.2.flatMap (fun r => sectorBytes r.data)
      let bytes := codeBytes w (cs.map (·.code)) ++ old.drop (d.len * w)
      let secs := (List.range 16).map (fun i =>
        let touched := decide (64 * i < d.len * w)
        let rowBad := ((p.1.2)[i]?.map (·.poison)).getD false
        let lo := 64 * i / w
        let addBad := touched && (sPoison || (List.range (64 / w)).any (fun j =>
          decide (lo + j < d.len) && s.blockPoison (base + (lo + j) * bytesOf d.fa)))
        if rowBad || addBad then
          ({ key := 16 * p.1.1 + i, data := poisonRec .propagated c.t.val 1 (nowNs c.e.time), poison := true } : SectorWrite)
        else { key := 16 * p.1.1 + i, data := bytesSector (bytes.drop (64 * i)), poison := false })
      (secs, (cs.map (·.sat)).sum, (cs.map (·.nan)).sum))
    { f := c.pair f (perRow.flatMap (·.1)), reads := rg, writes := [], rowReads := ris, rowWrites := ris
      res := .ok { StepEff.none with
        sat := (perRow.map (·.2.1)).sum, nan := (perRow.map (·.2.2)).sum } }

/-- What a GATHER has done so far. -/
structure GatherSt where
  f : Fabric
  rows : List Nat
  writes : List ScratchWrite
  bad : Option Cause

/-- GATHER (R175, R179): entries in list order; a fault on entry i leaves the rows of the entries below it. -/
def runGather (c : StepCtx) : RunOut :=
  let d := c.d
  let sa := d.sa.toNat
  let rg := [(sa, 4 * d.count)]
  let dst := [(d.sd.toNat, d.count * d.len)]
  match c.site.checkReads rg true with
  | some b => c.outS rg dst (badRes b)
  | none =>
    let g := (List.range d.count).foldl (fun (g : GatherSt) i =>
      if g.bad.isSome then g else
      let en := rdLe c.rd (sa + 4 * i) 4
      let ri := d.addr.toNat / 1024 + en % 2 ^ 19
      if en / 2 ^ 19 ≠ 0 then { g with bad := some .descReserved }
      else if rowsPerColumn ≤ ri then { g with bad := some .addressHole }
      else
        let (f, rs) := g.f.readRow c.e c.x 3 ri []
        let ws := (List.range (d.len / 64)).map (fun j =>
          ({ addr := d.sd.toNat + i * d.len + 64 * j, bytes := ((rs[j]?).map (fun r => sectorBytes r.data)).getD []
             poison := ((rs[j]?).map (·.poison)).getD false, tag := none } : ScratchWrite))
        { g with f := f, rows := g.rows ++ [ri], writes := g.writes ++ ws })
      { f := c.f, rows := [], writes := [], bad := none }
    { f := g.f, reads := rg, writes := dst, rowReads := g.rows, rowWrites := []
      res := match g.bad with
        | some cause => .fault (FaultInfo.of cause) g.writes
        | none => .ok { StepEff.none with scratch := g.writes } }

/-- FILL (R176): every sector of every row takes the pattern, or zeros; it overwrites poison (R385). -/
def runFill (c : StepCtx) : RunOut :=
  let d := c.d
  let ris := rowsFrom d.addr d.count
  let rg := if d.len = 64 then [(d.sa.toNat, 64)] else []
  let s := c.site
  let pat := if d.len = 64 then bytesSector (s.bytes d.sa.toNat 64) else 0
  let poison := d.len = 64 && s.blockPoison d.sa.toNat
  let data := if poison then poisonRec .propagated c.t.val 1 (nowNs c.e.time) else pat
  { f := c.f, reads := rg, writes := [], rowReads := [], rowWrites := ris
    res := match s.checkReads rg false with
      | some b => badRes b
      | none => .ok { StepEff.none with sectors := ris.flatMap (fun ri => (List.range 16).map (fun i =>
          { key := 16 * ri + i, data := data, poison := poison })) } }

/-- RMS_STATS (R177). -/
def runRmsStats (c : StepCtx) : RunOut :=
  let d := c.d
  let ris := rowsFrom d.addr d.count
  let (f, rows) := c.f.readRows c.e c.x 3 ris
  let outs := rows.map (fun rs =>
    let vs := (List.range d.len).map (rowElem d.fa rs)
    let anyNan := vs.any (·.isNaN)
    let ss := if anyNan then .nan else laneSum addSq d.len (fun i => rowElem d.fa rs i)
    let mx := if anyNan then .nan else if vs.any (·.isInf) then .inf false else Val.fin false (maxMag vs)
    (leBytes 4 (fp32Of ss) ++ leBytes 4 (fp32Of mx), b2n anyNan * 2, rowPoison rs (d.len * bytesOf d.fa)))
  let ws := outs.zipIdx.map (fun p =>
    ({ addr := d.sd.toNat + 8 * p.2, bytes := p.1.1, poison := p.1.2.2, tag := none } : ScratchWrite))
  { f := f, reads := [], writes := [(d.sd.toNat, 8 * d.count)], rowReads := ris, rowWrites := []
    res := .ok { StepEff.none with scratch := ws, nan := (outs.map (·.2.1)).sum } }

/-- R187: what scrubbing a row comes to: sectors to rewrite, and the counts corrected, confirmed uncorrectable, and found
poisoned. `again` is the second read of a row with an outcome 5. -/
structure Scrub where
  writes : List SectorWrite
  corrected : Nat
  confirmed : Nat
  poisoned : Nat
deriving DecidableEq, Repr

def scrubRow (ri tile now : Nat) (rs again : List SecRead) : Scrub :=
  (rs.zip again).zipIdx.foldl (fun s p =>
    let k := 16 * ri + p.2
    match p.1.1.outcome with
    | 2 => { s with poisoned := s.poisoned + 1 }
    | 3 | 4 => { s with corrected := s.corrected + 1,
                        writes := s.writes ++ [{ key := k, data := p.1.1.data, poison := p.1.1.poison }] }
    | 5 =>
      match p.1.2.outcome with
      | 5 => { s with confirmed := s.confirmed + 1,
                      writes := s.writes ++ [{ key := k, data := poisonRec .uncorrectable tile 2 now, poison := true }] }
      | 3 | 4 => { s with corrected := s.corrected + 1,
                          writes := s.writes ++ [{ key := k, data := p.1.2.data, poison := p.1.2.poison }] }
      | _ => s
    | _ => s) { writes := [], corrected := 0, confirmed := 0, poisoned := 0 }

/-- One row scrubbed as the Dredger does (R187), as a locked pair: read, read again where a sector reached outcome 5, and written where a sector
changes. -/
def Fabric.scrub (f : Fabric) (e : Env) (x : SiteIx) (cls ri tile : Nat) (errs : List SymErr) : Fabric × Scrub :=
  let (f, rs) := f.readRow e x cls ri errs
  let (f, again) := if rs.any (fun r => r.outcome = 5) then f.readRow e x cls ri [] else (f, rs)
  let s := scrubRow ri tile (nowNs e.time) rs again
  (f.writeSectors e x s.writes, s)

/-- R192: a row repair due, or only reported where automatic row repair is off. -/
def Fabric.rowRepairDue (f : Fabric) (e : Env) (x : SiteIx) (ri : Nat) : Fabric :=
  if autoRow e then
    let c := f.col x
    f.setCol x { c with rowDue := if c.rowDue.contains ri then c.rowDue else c.rowDue ++ [ri] }
  else f.report e 0x0202 (.dram x ri 0) 0 0x7F

/-- CHECK_RECOMP (R178): a sector confirmed uncorrectable makes a row repair due (R192). -/
def runCheckRecomp (c : StepCtx) : RunOut :=
  let d := c.d
  let ris := rowsFrom d.addr d.count
  let (f, ss) := ris.foldl (fun (p : Fabric × List Scrub) ri =>
    let (g, s) := p.1.scrub c.e c.x 3 ri c.t.val []
    (if s.confirmed = 0 then g else g.rowRepairDue c.e c.x ri, p.2 ++ [s])) (c.f, [])
  let total := fun (g : Scrub → Nat) => (ss.map g).sum
  let bytes := leBytes 4 (total (·.corrected)) ++ leBytes 4 (total (·.confirmed)) ++ leBytes 4 (total (·.poisoned)) ++
    List.replicate 52 0
  { f := f, reads := [], writes := [(d.sd.toNat, 64)], rowReads := ris, rowWrites := ris
    res := .ok { StepEff.none with
      scratch := [{ addr := d.sd.toNat, bytes := bytes, poison := false, tag := none }] } }

/-- KV_APPEND (R120–R122). A poisoned source block makes the sectors of its elements records, a poisoned parameter block every sector written
(R385). -/
def runKvAppend (c : StepCtx) : RunOut :=
  let d := c.d
  let page := d.addr.toNat / 16384
  let sa := d.sa.toNat
  let sb := d.sb.toNat
  let dim := d.len
  let e := kvBytes d.fd
  let src := (sa, srcBytes d.fa d.count dim)
  let rg := [(sb, 8), src]
  let s := c.site
  let ris := (List.range 16).map (· + 16 * page)
  let out := fun (f : Fabric) (r : RunRes) =>
    ({ f := f, reads := rg, writes := [], rowReads := ris, rowWrites := ris, res := r } : RunOut)
  match s.checkReads [(sb, 8)] false with
  | some b => out c.f (badRes b)
  | none =>
    let hint := rdLe c.rd sb 4
    let pw := rdLe c.rd (sb + 4) 4
    let pos := pw % 2 ^ 20
    if pw / 2 ^ 20 ≠ 0 then out c.f (.fault (FaultInfo.of .descReserved) [])
    else if d.fd == .e4m3 && !posNormal32 hint then out c.f (.fault (FaultInfo.of .badField) [])
    else if 1048576 < pos + d.count then out c.f (.fault (FaultInfo.of .badField) [])
    else
      let (f, pr) := readPage c.f c.e c.x 3 page 16384
      let h := PageHeader.ofBytes pr.bytes
      let kvf := if d.fd = .e4m3 then 2 else 1
      match pr.firstPoison c page 64 with
      | some p => out f (poisonFault p)
      | none =>
        if (h.kvf != 0 && h.kvf != kvf) || h.kvf == 3 then out f (.fault (FaultInfo.of .badFormat) [])
        else if h.kvf == 2 && h.count != 0 && !posNormal32 h.scale then out f (.fault (FaultInfo.of .badField) [])
        else if tokensPerPage dim e < h.count + d.count then out f (.fault (FaultInfo.of .badField) [])
        else if pos != h.pos0 + h.count then out f (.fault (FaultInfo.of .badField) [])
        else
          match s.checkReads [src] false with
          | some b => out f (badRes b)
          | none =>
            let elem := fun (t i : Nat) => vecElem c.rd d.fa (sa + t * srcStride d.fa dim) i
            let all := (List.range d.count).flatMap (fun t => (List.range dim).map (elem t))
            let scale := if d.fd == .e4m3 && h.count = 0 then kvScale hint (maxMag (all.filter (·.isFin))) else h.scale
            let sPoison := s.blockPoison sb
            -- an element sector is written whole: what it held before, poison included, is gone
            let cs := if d.fd == .e4m3 && !posNormal32 scale then
                all.zipIdx.map (fun p => kvUnscaled scale p.2)
              else all.map (kvElem d.fd scale)
            let newBytes := codeBytes e (cs.map (·.code))
            let first := 64 + h.count * dim * e
            let h' := { h with scale := if d.fd == Fmt.e4m3 then scale else 0, kvf := kvf, count := h.count + d.count }
            let body := pr.bytes.take first ++ newBytes ++ pr.bytes.drop (first + newBytes.length)
            let lo := first / 64
            let hi := (first + newBytes.length - 1) / 64
            let tokBytes := dim * e
            let secs := (List.range (hi + 1 - lo)).map (fun j =>
              let i := lo + j
              -- source blocks whose elements fall into sector i
              let srcBad := (List.range d.count).any (fun t =>
                let a := first + t * tokBytes
                overlaps a tokBytes (64 * i) 64 &&
                  (List.range (cdiv (dim * bytesOf d.fa) 64)).any (fun b =>
                    let e0 := a + (64 * b / bytesOf d.fa) * e
                    overlaps e0 (64 / bytesOf d.fa * e) (64 * i) 64 &&
                      s.blockPoison (sa + t * srcStride d.fa dim + 64 * b)))
              if srcBad || sPoison then
                ({ key := 256 * page + i, data := poisonRec .propagated c.t.val 1 (nowNs c.e.time), poison := true } : SectorWrite)
              else { key := 256 * page + i, data := bytesSector (body.drop (64 * i)), poison := false })
            -- element sectors first, the header last
            let ws := secs ++ [if sPoison then
                ({ key := 256 * page, data := poisonRec .propagated c.t.val 1 (nowNs c.e.time), poison := true } : SectorWrite)
              else { key := 256 * page, data := bytesSector h'.toBytes, poison := false }]
            out (c.pair f ws) (.ok { StepEff.none with
              sat := (cs.map (·.sat)).sum, nan := (cs.map (·.nan)).sum })

-- SEND and SAMPLE ----------------------------------------------------------------------------------------------------

/-- SEND (R35, R43, R59): the peer is judged, the bytes are read, and the SEND is under way until its delivery. -/
def runSend (c : StepCtx) : RunOut :=
  let d := c.d
  let rg := [(d.sa.toNat, d.len)]
  let s := c.site
  let en := s.peers[(sendPeer d)]
  let peer : TileId := ⟨en.toNat % 512, Nat.mod_lt _ (by decide)⟩
  let fault := fun (k : Cause) => .fault { FaultInfo.of k with peer := some peer } []
  c.outS rg [] (
    if !bit en.toNat 15 then fault .peerInvalid
    else if c.f.fenced[tileHalf peer] && tileHalf peer != tileHalf c.t then fault .peerHalfDown
    else if (c.f.siteOf peer).isNone then fault .peerAbsent
    else
      match s.checkReads rg true with
      | some b => badRes b
      | none =>
        let id := (s.stream c.st).nextId
        .ok { StepEff.none with
          kind := .send id
          sends := [{ id := id, peer := peer, dst := d.sd.toNat, data := s.bytes d.sa.toNat d.len
                      dsem := if sendDsen d then some (sendDsem d) else none, off := (s.stream c.st).pc }] })

/-- SAMPLE (R35, R60): the whole slot table is read and checked before any slice is sent. -/
def runSample (c : StepCtx) : RunOut :=
  let d := c.d
  let w := bytesOf d.fa
  let sa := d.sa.toNat
  let sb := d.sb.toNat
  let table := (sb, 2 * d.count)
  let rg := [table, (sa, (d.count - 1) * sampleStride d + d.len * w)]
  let s := c.site
  c.outS rg [] (
    match s.checkReads [table] true with
    | some b => badRes b
    | none =>
      let words := (List.range d.count).map (fun i => rdLe c.rd (sb + 2 * i) 2)
      if words.any (fun v => v != 0xFFFF && v / 2 ^ 13 != 0) then .fault (FaultInfo.of .descReserved) []
      else
        let rows := words.zipIdx.filter (fun p => p.1 != 0xFFFF)
        match s.checkReads (rows.map (fun p => (sa + p.2 * sampleStride d, d.len * w))) true with
        | some b => badRes b
        | none =>
          let slices := rows.map (fun p =>
            ((⟨fld p.1 12 8, Nat.mod_lt _ (by decide)⟩ : ClusterId),
             ({ tile := c.t, stream := c.st, slot := fld p.1 7 0, vocabBase := d.addr.toNat
                logits := (List.range d.len).map (fun i =>
                  let v := rdLe c.rd (sa + p.2 * sampleStride d + i * w) w
                  if w = 2 then v * 2 ^ 16 else v) } : Slice)))
          .ok { StepEff.none with kind := .sample slices.length, slices := slices })

/-- The work of any opcode that has some: what the engine runs again after a refetch (R52). -/
def runAny (c : StepCtx) : RunOut :=
  match c.d.opcode with
  | 0x01 => runRowLoad c
  | 0x02 => runRowStore c
  | 0x03 => if c.d.mod % 8 = 0 then runLinear c else runSkew c
  | 0x10 => runMatmul c
  | 0x18 => if attOut c.d = 2 then runMerge c else runAttend c
  | 0x20 => runVec c
  | 0x30 =>
    match c.d.mod with
    | 1 => runReduce c
    | 2 => runScaleAdd c
    | 3 => runGather c
    | 4 => runFill c
    | 5 => runKvAppend c
    | 6 => runRmsStats c
    | _ => runCheckRecomp c
  | 0x40 => runSend c
  | _ => runSample c

end Sys2Proof.Machine
end

