-- ==== Sys2Proof/Machine/Mesh.lean ====
section
/-! DEFINITION. The paths of packets between clusters (R56, R58, R288), and the hold on injections while a half switches its routing. -/

namespace Sys2Proof.Machine

/-- Rows and columns of the logical grid of a half (R13). -/
def gridRow (c : Nat) : Nat := c % 16 / 4
def gridCol (c : Nat) : Nat := c % 4

/-- The direction 0 N, 1 E, 2 S, 3 W in which a packet leaves along its row from column `a` to column `b`: the column
nearest the Basin is column 0, in the West half the eastern one. -/
def rowDir (h a b : Nat) : Nat := if (b < a) = (h = 0) then 1 else 3

/-- The hops (cluster, direction) along a row. -/
def rowHops (h row a b : Nat) : List (Nat × Nat) :=
  (List.range (if a < b then b - a else a - b)).map (fun i =>
    (16 * h + 4 * row + (if a < b then a + i else a - i), rowDir h a b))

/-- The hops along a column. -/
def colHops (h col a b : Nat) : List (Nat × Nat) :=
  (List.range (if a < b then b - a else a - b)).map (fun i =>
    (16 * h + 4 * (if a < b then a + i else a - i) + col, if a < b then 2 else 0))

/-- R56, R58: the links from cluster `a` to cluster `b` of one half, row first or column first. -/
def meshPath (columnFirst : Bool) (a b : Nat) : List (Nat × Nat) :=
  let h := a / 16
  if columnFirst then colHops h (gridCol a) (gridRow a) (gridRow b) ++ rowHops h (gridRow b) (gridCol a) (gridCol b)
  else rowHops h (gridRow a) (gridCol a) (gridCol b) ++ colHops h (gridCol b) (gridRow a) (gridRow b)

/-- Is a mesh link out of service? -/
def Fabric.meshDown (f : Fabric) (q : Nat × Nat) : Bool := bit (tget f.clusters ClusterSt.init q.1).linkDown.toNat q.2

/-- A hop of a packet: out of a cluster switch into a neighbour, over half link n, or through the Basin crossbar. -/
inductive Hop where
  | mesh (c dir : Nat)
  | link (n : Nat)
  | crossbar
deriving DecidableEq, Repr

/-- The half whose mesh a hop belongs to. -/
def Hop.half : Hop → Option HalfId
  | .mesh c _ => some ⟨c / 16 % 2, Nat.mod_lt _ (by decide)⟩
  | _ => none

/-- R288: the row of a half whose link carries the traffic of `row`; its own where no link is UP. -/
def Fabric.exitRow (f : Fabric) (h row : Nat) : Nat := ((f.routes.getD (4 * h + row) none).getD row)

/-- R56, R58, R288: the path of a packet from cluster `a` to cluster `b`. To the other half it runs along its row to column 0, along column 0 to
the row whose link carries that traffic, over that link, the crossbar and the link that carries the destination row, and on to its row and
column. -/
def Fabric.path (f : Fabric) (a b : ClusterId) : List Hop :=
  let h := a.val / 16
  let g := b.val / 16
  let hops := fun (l : List (Nat × Nat)) => l.map (fun p => Hop.mesh p.1 p.2)
  if h = g then hops (meshPath (f.cluster a).columnFirst a.val b.val) else
  let r := gridRow a.val
  let q := gridRow b.val
  hops (rowHops h r (gridCol a.val) 0 ++ colHops h 0 r (f.exitRow h r)) ++
    [.link (4 * h + f.exitRow h r), .crossbar, .link (4 * g + f.exitRow g q)] ++
    hops (colHops g 0 (f.exitRow g q) q ++ rowHops g q 0 (gridCol b.val))

/-- R58, R288: a packet from `a` to `b` would enter a mesh whose half is switching its routing, and is held. -/
def Fabric.injectHeld (f : Fabric) (a b : ClusterId) : Bool :=
  (f.path a b).any (fun p => match p.half with | some h => f.switching[h] | none => false)

/-- Does the path of a packet use the mesh of a half? -/
def Fabric.uses (f : Fabric) (h : HalfId) (a b : ClusterId) : Bool := (f.path a b).any (fun p => p.half == some h)

/-- R58: no packet is in the mesh of a half: no SEND whose path uses it is undelivered, but for those that a cluster switch holds at their
destination, and no slice is. -/
def Fabric.meshEmpty (f : Fabric) (h : HalfId) : Bool :=
  allTiles.all (fun t =>
    match f.siteOf t with
    | none => true
    | some x => allStreams.all (fun st => ((f.site x).stream st).sends.all (fun r =>
        (tget f.held [] r.peer.val).contains (.send t st r.id) || !f.uses h (tileCluster t) (tileCluster r.peer)))) &&
  allClusters.all (fun c => (f.sampler c).inflight.all (fun s => !f.uses h (tileCluster s.tile) c))

/-- The routing of a half switched once its mesh is empty: column first where that was ordered, and its rows' traffic over the links now
chosen. -/
def Fabric.switchRoutes (f : Fabric) (h : HalfId) : Fabric :=
  let f := { f with
    switching := f.switching.set h false, toColumn := f.toColumn.set h false
    routes := (List.range 8).map (fun i => if i / 4 = h.val then f.routesNext.getD i none else f.routes.getD i none) }
  f

end Sys2Proof.Machine
end

