-- ==== Sys2Proof/Machine/TileOps.lean ====
section
/-! DEFINITION. The commands of the step streams at the level of the fabric: launch, fetch, issue of each opcode, completion,
delivery, refetch and abort (chapter "Tiles, clusters and step programs"). -/

namespace Sys2Proof.Machine

/-- The cluster switch holds packets for the tile: its site is being cut over (R66), or the lock gate of its cluster is closed (R412). -/
def Fabric.holding (f : Fabric) (t : TileId) : Bool :=
  f.gated.getLsbD (tileCluster t).val ||
  match f.cut[tileHalf t] with
  | some c => c.tile = t
  | none => false

/-- A packet that the cluster switch holds for a tile (R66 step 2, R67). -/
def Fabric.hold (f : Fabric) (t : TileId) (p : HeldPacket) : Fabric :=
  { f with held := tput f.held t.val (tget f.held [] t.val ++ [p]) }

/-- R30: a LAUNCH that reaches a stream. -/
def Fabric.takeLaunch (f : Fabric) (e : Env) (x : SiteIx) (t : TileId) (p : LaunchPkt) : Fabric :=
  let s := f.site x
  let v := s.stream p.stream
  if v.state = .idle || v.state = .faulted then
    let s := (s.apply { addr := scrUsable + 256 * p.stream.val, bytes := padTo 256 p.params, poison := false, tag := none }).race
      none [(scrUsable + 256 * p.stream.val, 256)]
    let clear := (List.finRange 32).filter (fun i => p.semClear.getLsbD i.val)
    let s := clear.foldl (fun s i => { s with sems := s.sems.set i 0, semTags := s.semTags.set i p.tag }) s
    let v := { v with state := .running, tag := p.tag, lastFault := 0, pc := p.start.toNat, start := p.start.toNat,
                      params := padTo 256 p.params, fetched := [], loops := [], want := none, granted := false,
                      refetch := none, fence := none, ending := false, endSen := none, held := none }
    (f.setSite x (s.setStream p.stream v)).reach e x t p.stream
  else { f with inbox := f.inbox ++ [TileMsg.busy t p.stream p.tag] }

/-- The streams of a launch stop and enter FAULTED (R228). -/
def Fabric.takeAbort (f : Fabric) (x : SiteIx) (tag : BitVec 16) : Fabric :=
  let s := f.site x
  let s := allStreams.foldl (fun s st =>
    let v := s.stream st
    if v.tag = tag && (v.state = .running || v.state = .waiting) then
      { s.setStream st { v with state := .faulted, want := none, granted := false, refetch := none, fence := none
                                ending := false } with arr := s.arr.unwait v st }
    else s) s
  f.setSite x s

/-- The packet leaves the control network. -/
def Fabric.dropCtl (f : Fabric) (t : TileId) (p : CtlPkt) : Fabric := { f with ctl := f.ctl.erase (t, p) }

/-- LAUNCH: delivered, held by the cluster switch, or discarded at an absent tile. It waits outside a half that switches its routing (R58). -/
def Fabric.launch (f : Fabric) (e : Env) (t : TileId) (p : LaunchPkt) : Fabric :=
  if f.switching[tileHalf t] then f else
  let f := f.dropCtl t (.launch p)
  match f.siteOf t with
  | none => f
  | some x => if f.holding t || !(f.site x).ready then f.hold t (.launch p) else f.takeLaunch e x t p

/-- ABORT: as LAUNCH. -/
def Fabric.abort (f : Fabric) (t : TileId) (tag : BitVec 16) : Fabric :=
  if f.switching[tileHalf t] then f else
  let f := f.dropCtl t (.abort tag)
  match f.siteOf t with
  | none => f
  | some x => if f.holding t || !(f.site x).ready then f.hold t (.abort tag) else f.takeAbort x tag

/-- The disturbances that a step command reports, applied to the site and its column. -/
def Fabric.disturb (f : Fabric) (x : SiteIx) (su : List ScratchUpset) (du : List DramUpset) : Fabric :=
  (f.setSite x ((f.site x).upsets su)).setCol x ((f.col x).upsets du)

/-- Does the descriptor's work use the column? -/
def usesColumn (d : Desc) : Bool :=
  match d.opcode with
  | 0x01 | 0x02 | 0x18 | 0x30 => true
  | 0x03 => d.mod < 128
  | _ => false

/-- The column of a site accepts requests (R171, R201). -/
def Fabric.colReady (f : Fabric) (x : SiteIx) : Bool := (f.col x).phase = .ready

/-- R58, R288: the packets of a SEND or SAMPLE would enter a mesh that holds new injections. -/
def Fabric.sendHeld (f : Fabric) (x : SiteIx) (t : TileId) (d : Desc) : Bool :=
  let s := f.site x
  match d.opcode with
  | 0x40 => f.injectHeld (tileCluster t) (tileCluster ⟨(s.peers[sendPeer d]).toNat % 512, Nat.mod_lt _ (by decide)⟩)
  | 0x48 => (List.range d.count).any (fun i =>
      let w := rdLe s.rd (d.sb.toNat + 2 * i) 2
      w != 0xFFFF && f.injectHeld (tileCluster t) ⟨fld w 12 8, Nat.mod_lt _ (by decide)⟩)
  | _ => false

/-- A step command on the site that carries the tile. -/
def Fabric.stepCmd (f : Fabric) (e : Env) (i : StepIn) (sel : Desc → Bool) (run : StepCtx → RunOut) : Fabric :=
  match f.siteOf i.tile with
  | none => f
  | some x =>
    let f := f.disturb x i.scratchUps i.dramUps
    f.issue e x i.tile i.stream (fun d => sel d && (!usesColumn d || f.colReady x) && !f.sendHeld x i.tile d) run

/-- A control opcode on the site that carries the tile. -/
def Fabric.controlCmd (f : Fabric) (e : Env) (i : StepIn) (sel : Desc → Bool) (ready : Site → Stream → Desc → Bool)
    (act : SiteIx → Fabric → Desc → Fabric) : Fabric :=
  match f.siteOf i.tile with
  | none => f
  | some x =>
    let f := f.disturb x i.scratchUps i.dramUps
    f.issueControl e x i.tile i.stream sel ready (act x)

/-- DESCRIPTOR_FETCH (R31): one row of descriptors enters the fetch buffer: the row of the next descriptor, or the row
after it. A descriptor in the hole or in a poisoned sector faults the stream when it is reached. -/
def Fabric.fetch (f : Fabric) (e : Env) (i : StepIn) : Fabric :=
  match f.siteOf i.tile with
  | none => f
  | some x =>
    let f := f.disturb x i.scratchUps i.dramUps
    let v := (f.site x).stream i.stream
    if !(v.state = .running || v.state = .waiting) || v.ending || !f.colReady x then f else
    let cur := v.pc / 1024
    let want := if (v.heldRow v.pc).isNone then cur else cur + 1
    if v.fetched.any (fun r => r.row = want) || rowsPerColumn ≤ want then f.reach e x i.tile i.stream else
    let (f, rs) := f.readRow e x 4 want []
    let row : FetchRow :=
      { row := want, bytes := rs.flatMap (fun r => sectorBytes r.data)
        poison := rs.map (fun r => if r.poison then
          some (if r.outcome = 5 then poisonRec .uncorrectable i.tile.val 2 (nowNs e.time) else r.data) else none) }
    (f.modStream x i.stream (fun v =>
      { v with fetched := v.fetched.filter (fun r => r.row = cur || r.row = cur + 1) ++ [row] })).reach e x i.tile i.stream

def opIs (n : Nat) (d : Desc) : Bool := d.opcode == n
def opModIs (n m : Nat) (d : Desc) : Bool := d.opcode == n && d.mod == m

/-- The opcodes of Table Tiles-4. -/
def opKnown (d : Desc) : Bool :=
  [0x00, 0x01, 0x02, 0x03, 0x10, 0x18, 0x20, 0x30, 0x40, 0x48, 0x50, 0x51, 0x52, 0x60, 0x7F].contains d.opcode

/-- NOP: only its WEN take and its SEN add (R35). A descriptor of no known opcode is met here too, and faults (R474). -/
def Fabric.nop (f : Fabric) (e : Env) (i : StepIn) : Fabric :=
  f.controlCmd e i (fun d => opIs 0x00 d || !opKnown d) (fun _ _ _ => true) (fun x f d => f.passBy e x i.tile i.stream d)

/-- WAIT: LEN units from WSEM (R39). -/
def Fabric.wait (f : Fabric) (e : Env) (i : StepIn) : Fabric :=
  f.controlCmd e i (opIs 0x50) (fun _ _ _ => true) (fun x f d => f.passBy e x i.tile i.stream d)

/-- The work of SIGNAL: none; LEN units are added when it completes, after every earlier step (R35). -/
def runSignal (c : StepCtx) : RunOut :=
  c.outS [] [] (.ok { StepEff.none with kind := .signal c.d.ssem c.d.len })

def Fabric.signal (f : Fabric) (e : Env) (i : StepIn) : Fabric := f.stepCmd e i (opIs 0x51) runSignal

/-- The steps of every stream of a tile that are in flight. -/
def Site.inFlight (s : Site) : List (StreamId × Nat) :=
  allStreams.flatMap (fun st => (s.stream st).steps.map (fun r => (st, r.id)) ++
    (if (s.stream st).refetch.isSome then [(st, (s.stream st).nextId)] else []))

/-- FENCE: later steps wait until the condition of Table Tiles-6 holds. A FENCE of scope TILE waits for the steps that were in
flight when it was reached, and not for those that other streams issue after it. -/
def Fabric.fence (f : Fabric) (e : Env) (i : StepIn) (scope : Nat) : Fabric :=
  f.controlCmd e i (fun d => opIs 0x52 d && (d.mod == scope || (scope == 0 && 3 < d.mod)))
    (fun _ v _ => match scope with
      | 0 => v.steps.isEmpty
      | 1 => true
      | 2 => v.steps.isEmpty && v.sends.all (fun p => tileHalf p.peer != tileHalf i.tile)
      | _ => v.steps.isEmpty && v.sends.isEmpty && v.slices == 0)
    (fun x f d =>
      let s := f.site x
      let left := ((s.stream i.stream).fence.getD s.inFlight).filter (fun p => s.inFlight.contains p)
      if scope == 1 && !left.isEmpty then
        f.modStream x i.stream (fun v => { v with fence := some left, granted := true })
      else f.passBy e x i.tile i.stream d)

/-- LOOP (R37): the body that follows is entered for its first iteration. -/
def Fabric.loop (f : Fabric) (e : Env) (i : StepIn) : Fabric :=
  f.controlCmd e i (opIs 0x60) (fun _ _ _ => true) (fun x f d =>
    let v := (f.site x).stream i.stream
    let first := v.pc + 32
    let fr : LoopFrame :=
      { first := first, past := first + 32 * (d.len % 256), count := d.count, iter := 0, addr := sext 48 d.rawAddr
        sa := sext 21 d.rawSa, sb := sext 21 d.rawSb, sd := sext 21 d.rawSd }
    let f := f.modStream x i.stream (fun v => { v with pc := first, loops := fr :: v.loops, granted := false, want := none })
    if d.sen then f.localAdd e x i.tile i.stream v.pc d.ssem 1 else f)

/-- END (R32): the stream waits for its earlier steps and deliveries. -/
def Fabric.endStep (f : Fabric) (e : Env) (i : StepIn) : Fabric :=
  f.controlCmd e i (opIs 0x7F) (fun _ _ _ => true) (fun x f d =>
    f.modStream x i.stream (fun v =>
      { v with ending := true, endSen := if d.sen then some d.ssem else none, pc := v.pc + 32, granted := false, want := none }))

/-- STEP_COMPLETE (R42). -/
def Fabric.stepComplete (f : Fabric) (e : Env) (t : TileId) (st : StreamId) (id : Nat) : Fabric :=
  match f.siteOf t with
  | none => f
  | some x => f.complete e x t st id

/-- END_COMPLETION (R32): every earlier step done and every SEND and SAMPLE delivered; the stream reports and is IDLE. -/
def Fabric.endCompletion (f : Fabric) (e : Env) (t : TileId) (st : StreamId) : Fabric :=
  match f.siteOf t with
  | none => f
  | some x =>
    let s := f.site x
    let v := s.stream st
    if v.state = .running && v.ending && v.steps.isEmpty && v.sends.isEmpty && v.slices = 0 then
      let f := f.setSite x (s.setStream st { v with state := .idle, ending := false, endSen := none })
      let f := match v.endSen with
        | some q => f.localAdd e x t st (v.pc - 32) q 1
        | none => f
      { f with inbox := f.inbox ++ [TileMsg.ended t st v.tag] }
    else f

/-- TILE_SEM_TIMEOUT in ticks; none where the limit is disabled. -/
def semLimit (v : Nat) : Option Nat := if v = 0 then none else some (clampN 1000 10000000 v)

/-- STEP_TIMEOUT (R45). -/
def Fabric.stepTimeout (f : Fabric) (e : Env) (t : TileId) (st : StreamId) : Fabric :=
  match f.siteOf t with
  | none => f
  | some x =>
    let v := (f.site x).stream st
    match semLimit (e.reg (tileReg t 0x100)) with
    | some n =>
      if v.state = .waiting && elapsed e.time (.stepEngine x) v.waitFrom n then
        f.faultStream e x t st v.pc (FaultInfo.of .stepTimeout)
      else f
    | none => f

/-- The bytes of a SEND in the peer's scratch, and its DSEM unit (R43). -/
def Fabric.deliver (f : Fabric) (e : Env) (r : SendRec) : Fabric :=
  match f.siteOf r.peer with
  | none => f
  | some y =>
    let w : ScratchWrite := { addr := r.dst, bytes := r.data, poison := false, tag := none }
    let f := f.setSite y (((f.site y).apply w).race none (writeRanges [w]))
    match r.dsem with
    | some q => f.remoteAdd e y r.peer q 1
    | none => f

/-- SEND_DELIVERY: SENDs of one stream to one peer are delivered in issue order; a tile that is not ready has the packet
held by its cluster switch; a packet into a fenced half is discarded and its stream faults, one out of a fenced half or to an
absent tile is discarded (R43, R59, R66, R67, R292). -/
def Fabric.sendDelivery (f : Fabric) (e : Env) (t : TileId) (st : StreamId) (id : Nat) : Fabric :=
  match f.siteOf t with
  | none => f
  | some x =>
    let v := (f.site x).stream st
    match v.sends.find? (fun r => r.id = id) with
    | none => f
    | some r =>
      if v.sends.any (fun q => q.peer = r.peer && q.id < id) then f else
      let gone := fun (f : Fabric) => f.modStream x st (fun v => { v with sends := v.sends.filter (fun q => q.id ≠ id) })
      if tileHalf r.peer != tileHalf t && f.fenced[tileHalf t] then gone f
      else if tileHalf r.peer != tileHalf t && f.fenced[tileHalf r.peer] then
        (gone f).faultStream e x t st r.off { FaultInfo.of .peerHalfDown with peer := some r.peer }
      else
      match f.siteOf r.peer with
      | none => gone f
      | some y =>
        if f.holding r.peer || !(f.site y).ready then
          if (tget f.held [] r.peer.val).contains (.send t st id) then f else f.hold r.peer (.send t st id)
        else (gone f).deliver e r

/-- SCRATCH_REFETCH (R52): the tagged block is reloaded from its row, and the consuming step runs again from its start. -/
def Fabric.refetch (f : Fabric) (e : Env) (t : TileId) (ups : List DramUpset) : Fabric :=
  match f.siteOf t with
  | none => f
  | some x =>
    match allStreams.find? (fun st => ((f.site x).stream st).refetch.isSome) with
    | none => f
    | some st =>
      let v := (f.site x).stream st
      match v.refetch with
      | none => f
      | some r =>
        let f := f.setCol x ((f.col x).upsets ups)
        let row := r.row
        let (f, rs) := f.readRow e x 4 row []
        let s := (rowToScratch (1024 * r.block) row rs).foldl Site.apply (f.site x)
        let s := { s with refetches := satAdd 16 s.refetches 1 }
        let f := f.setSite x (s.setStream st { (s.stream st) with refetch := none })
        match rs.zipIdx.find? (fun p => p.1.poison) with
        | some p =>
          f.faultStream e x t st v.pc
            { FaultInfo.of .poisonConsumed with
                poisonAt := some (16 * row + p.2,
                  if p.1.outcome = 5 then poisonRec .uncorrectable t.val 2 (nowNs e.time) else p.1.data) }
        | none =>
          match (v.descAt v.pc) with
          | some d => f.execute e x t st (d.withStrides v.loops) runAny
          | none => f

/-- R108: the failing checks named in the physical rows and columns of the grid. R109: kind, MM_ROW and MM_COL. -/
def locateFault (shape : Nat) (rows cols : List (Fin 64)) : Nat × Nat × Nat :=
  let r := shapeRows shape
  let low := fun (l : List (Fin 64)) => (l.map (·.val)).foldl Nat.min 63
  match rows, cols with
  | [y], [x] =>
    let band := y.val / r
    let seg := x.val / r
    (1, y.val % r, r * (band * (64 / r) + seg) + x.val % r)
  | [], _ => (3, 0, low cols)
  | _, _ => (2, low rows % r, 64 * (low rows / r))

/-- The checked MATMUL in the array whose block the checks judge: the first of the current shape. -/
def ArraySt.checked (a : ArraySt) : Option ArrRec := a.queue.find? (fun r => r.live && bit r.mod 3 && r.mod % 4 == a.shape)

/-- CHECKSUM_MISMATCH (R109): a mismatch of the checked MATMUL in the array is located. The first mismatch has the step run once more;
one of that second run (`again`) faults the step. `rows` and `cols` are the checks that failed in block `block`. -/
def Fabric.checksumMismatch (f : Fabric) (e : Env) (t : TileId) (block : Nat) (rows cols : List (Fin 64)) (again : Bool) : Fabric :=
  match f.siteOf t with
  | none => f
  | some x =>
    let s := f.site x
    match s.arr.checked with
    | none => f
    | some r =>
      if (rows.isEmpty && cols.isEmpty) || again != (s.arr.replay == some (r.stream, r.id)) then f else
      let (k, row, col) := locateFault (r.mod % 4) rows cols
      let arr := { s.arr with kind := k, row := row, col := col }
      if !again then f.setSite x { s with arr := { arr with replay := some (r.stream, r.id) } }
      else
        let v := s.stream r.stream
        let off := ((v.steps.find? (fun q => q.id = r.id)).map (·.off)).getD v.pc
        let v := { v with steps := v.steps.filter (fun q => q.id ≠ r.id) }
        let arr := arr.leave r.stream r.id
        let s := { (s.setStream r.stream v) with arr := { arr with faults := satAdd 16 arr.faults 1 } }
        let f := (f.setSite x s).countCheck e x t
        let status := k * 2 ^ 30 + row * 2 ^ 24 + col * 2 ^ 16 + b2n s.arr.dbgValid * 8 + b2n s.arr.busy * 4 + s.arr.shape
        f.faultStream e x t r.stream off { FaultInfo.of .checksumMismatch with extra := status + block * 2 ^ 32 }

end Sys2Proof.Machine
end

