-- ==== Sys2Proof/Machine/DramOps.lean ====
section
/-! DEFINITION. The commands of the vertical channels and stacked DRAM at the level of the fabric: the arbiter, refresh, the
Dredger, repairs, lanes and start-up (R153–R203). -/

namespace Sys2Proof.Machine

/-- Requests that a class holds (Table DRAM-3). -/
def classCap (c : Nat) : Nat := match c with | 0 => 1 | 1 => 32 | 2 => 32 | 3 => 16 | 4 => 128 | _ => 1

/-- A request as the arbiter holds it. -/
def RowReqRec.of (r : RowReq) : RowReqRec :=
  { cls := r.cls.val, ri := r.ri % rowsPerColumn, mask := r.mask.toNat, data := r.data, poison := false, write := r.write
    fetch := r.fetch, stream := r.stream }

/-- A class has room for one more request. -/
def Column.hasRoom (c : Column) (cls : Nat) : Bool := decide ((c.queue.filter (fun q => q.cls = cls)).length < classCap cls)

/-- R162: a request enters the arbiter; where its class is full, or others of the class wait already, it waits. -/
def Column.enqueue (c : Column) (r : RowReqRec) : Column :=
  if c.hasRoom r.cls && !c.waiting.any (fun q => q.cls = r.cls) then { c with queue := c.queue ++ [r] }
  else { c with waiting := c.waiting ++ [r] }

/-- Requests that arrive at one moment, in the order of their classes (R160). -/
def Column.admitReqs (c : Column) (rs : List RowReq) : Column :=
  ((List.range 6).flatMap (fun k => rs.filter (fun r => r.cls.val = k))).foldl (fun c r => c.enqueue (.of r)) c

/-- The oldest request that waits for a class with room enters it. -/
def Column.refill (c : Column) : Column :=
  match c.waiting.find? (fun r => c.hasRoom r.cls) with
  | some r => { c with waiting := c.waiting.erase r, queue := c.queue ++ [r] }
  | none => c

/-- R158, R160, R161: a request is ready when its bank is free and no earlier request to its row is pending. -/
def Column.ready (c : Column) (i : Nat) (r : RowReqRec) : Bool :=
  decide (tget c.busy 0 (physBank (c.phys r.ri)) ≤ c.ps) && !((c.queue.take i).any (fun q => q.ri = r.ri))

/-- The oldest ready request of those that `sel` picks, by its place in the queue. -/
def Column.oldest (c : Column) (sel : RowReqRec → Bool) : Option Nat :=
  (c.queue.zipIdx.find? (fun p => sel p.1 && c.ready p.2 p.1)).map (·.2)

/-- R160: within STEP descriptor fetches come first, and after them the streams in round robin. Answers the place, and the stream next in turn. -/
def Column.oldestStep (c : Column) : Option (Nat × Nat) :=
  match c.oldest (fun r => r.cls = 4 && r.fetch) with
  | some i => some (i, c.stepRr)
  | none => (List.range 4).findSome? (fun k =>
      (c.oldest (fun r => r.cls = 4 && !r.fetch && r.stream.val == (c.stepRr + k) % 4)).map (fun i => (i, (c.stepRr + k + 1) % 4)))

/-- The slot that comes next may go to class DUE: at most one slot in 16 (R160). -/
def Column.dueSlot (c : Column) : Bool := c.lastDue = 0 || decide (c.lastDue + 16 ≤ c.slots + 1)

/-- A grant: the place of the request in the queue, and the turns that follow. -/
structure Grant where
  place : Nat
  rr : Nat
  stepRr : Nat
deriving DecidableEq, Repr

/-- R160: the request granted: DUE first but in at most one slot in 16, then EXT, ATT, NB, STEP in round robin, IDLE when no other is ready. -/
def grant (c : Column) : Option Grant :=
  let of := fun (i rr sr : Nat) => ({ place := i, rr := rr, stepRr := sr } : Grant)
  match (if c.dueSlot then c.oldest (fun r => r.cls = 0) else none) with
  | some i => some (of i c.rr c.stepRr)
  | none =>
    match (List.range 4).findSome? (fun k =>
        let cls := (c.rr + k) % 4 + 1
        if cls = 4 then (c.oldestStep).map (fun p => of p.1 (cls % 4) p.2)
        else (c.oldest (fun r => r.cls = cls)).map (fun i => of i (cls % 4) c.stepRr)) with
    | some r => some r
    | none => (c.oldest (fun r => r.cls = 5)).map (fun i => of i c.rr c.stepRr)

/-- R157: a slot of 8 steps at the cadence that the pace limiter of the site sets, in ps. -/
def slotPs (flim : Nat) : Nat := 800000 / Nat.max 10 flim

/-- A slot passes. -/
def Column.passSlot (c : Column) (flim : Nat) : Column := { c with slots := c.slots + 1, ps := c.ps + slotPs flim }

/-- R158: a transfer makes its bank busy for 40 ns from its grant, or 44 ns above 85 °C. -/
def Column.occupy (c : Column) (ri : Nat) : Column :=
  let b := physBank (c.phys ri)
  let hot := match c.layers.toList[b / 16]? with
    | some l => decide (680 < l.temp)
    | none => false
  { c with busy := tset c.busy 0 b (c.ps + (if hot then 44000 else 40000)) }

/-- ROW_TRANSFER: requests reach the arbiter, and one slot passes; where a request is granted its row is read, or its masked sectors are written
(R156–R162, R164). -/
def Fabric.rowTransfer (f : Fabric) (e : Env) (x : SiteIx) (arrivals : List RowReq) (errs : List SymErr) : Fabric :=
  let c := (f.col x).admitReqs arrivals
  let f := f.setCol x c
  if c.phase ≠ .ready then f else
  let flim := (f.site x).flim
  match grant c with
  | none => f.setCol x (c.passSlot flim)
  | some g =>
    match c.queue[g.place]? with
    | none => f
    | some r =>
      let c := { (c.occupy r.ri).passSlot flim with
        queue := c.queue.eraseIdx g.place, rr := g.rr, stepRr := g.stepRr, lastDue := if r.cls = 0 then c.slots + 1 else c.lastDue }
      let c := (errs.filter (fun s => s.persist)).foldl (fun c s => c.upset (16 * r.ri + s.sector.val) s.sym.val s.flip) c.refill
      (f.setCol x c).perform e x r (errs.filter (fun s => !s.persist))

/-- REFRESH_BURST (R182): the next 8 rows of a bank are refreshed, which makes it busy for 200 ns; 388 bursts make a round. Refresh runs whenever
the array rail is up (R184). -/
def Fabric.refreshBurst (f : Fabric) (x : SiteIx) (bank : Fin 128) : Fabric :=
  let c := f.col x
  if c.phase = .down then f else f.setCol x { c with
    burst := tset c.burst 0 bank.val ((tget c.burst 0 bank.val + 1) % 388)
    busy := tset c.busy 0 bank.val (Nat.max (tget c.busy 0 bank.val) c.ps + 200000) }

/-- CONTROL_TEMPERATURE_UPDATE (R183): the interval halves above 85.0 °C; the time at or below 83.0 °C starts or ends. -/
def Fabric.controlTemp (f : Fabric) (e : Env) (x : SiteIx) : Fabric :=
  match tget f.tempMsgs [] x.val with
  | [] => f
  | ts =>
    let now := blockTicks e.time (.channelRoot x)
    let c := f.col x
    let upd := fun (i : Nat) (l : LayerSt) =>
      match ts[i]? with
      | none => l
      | some t =>
        { l with
          temp := t, updated := now, stale := false
          fast := l.fast || decide (680 < t)
          coolSince := if t ≤ 664 then some (l.coolSince.getD now) else none }
    { (f.setCol x { c with layers := Vector.ofFn (fun (i : Fin 8) => upd i.val c.layers[i]) }) with
        tempMsgs := tset f.tempMsgs [] x.val [] }

/-- A layer of a column changed. -/
def Column.modLayer (c : Column) (i : Fin 8) (g : LayerSt → LayerSt) : Column :=
  { c with layers := c.layers.set i (g c.layers[i]) }

/-- REFRESH_RELAX (R183): after 1 s at or below 83 °C the interval is 80 µs again. -/
def Fabric.refreshRelax (f : Fabric) (e : Env) (x : SiteIx) (i : Fin 8) : Fabric :=
  let c := f.col x
  match (c.layers[i]).coolSince with
  | some n =>
    if elapsed e.time (.channelRoot x) n 1000000 then f.setCol x (c.modLayer i (fun l => { l with fast := false })) else f
  | none => f

/-- TEMPERATURE_UPDATE_TIMEOUT (R183): without an update for 1 s, 40 µs until updates resume. -/
def Fabric.tempTimeout (f : Fabric) (e : Env) (x : SiteIx) (i : Fin 8) : Fabric :=
  let c := f.col x
  if elapsed e.time (.channelRoot x) (c.layers[i]).updated 1000000 then
    f.setCol x (c.modLayer i (fun l => { l with stale := true }))
  else f

/-- R182–R184: the burst interval of a layer in µs. -/
def burstInterval (c : Column) (l : LayerSt) : Nat := if l.fast || l.stale || c.fallback then 40 else 80

/-- Rows of a Dredger lap (R185). -/
def lapRows : Nat := 397312

/-- MIN_LAP_S with its range. -/
def minLapS (e : Env) : Nat := clampN 60 86400 (fld (e.reg 0x4100) 16 0)

/-- R192: what a scrub of a row in a lap makes due: a sector confirmed uncorrectable, or one corrected in this lap and the last. -/
def Fabric.scrubDue (f : Fabric) (e : Env) (x : SiteIx) (ri : Nat) (s : Scrub) : Fabric :=
  let c := f.col x
  let fixed := (s.writes.filter (fun w => !(w.poison && recCause w.data = 2))).map (·.key)
  let due := fixed.any (fun k => c.prevCorr.contains k) || s.confirmed ≠ 0
  let f := f.setCol x { c with lapCorr := (c.lapCorr ++ fixed).eraseDups }
  if due then f.rowRepairDue e x ri else f

/-- The end of a lap (R189). -/
def Fabric.lapEnd (f : Fabric) (e : Env) (x : SiteIx) : Fabric :=
  let c := f.col x
  let now := blockTicks e.time (.channelRoot x)
  let ms := (now - c.lapFrom) / 1000
  let late := decide (1250000 * c.minLap < now - c.lapFrom)
  let c := { c with pos := 0, laps := (c.laps + 1) % 4096, lastLapMs := ms % 2 ^ 27, lapLate := late, lapFrom := now,
                    prevCorr := c.lapCorr, lapCorr := [], colHits := [], colTold := [], minLap := minLapS e }
  let f := f.setCol x c
  if late then f.report e 0x0204 (.site x) ms 0 else f

/-- R186: the schedule position of the Dredger. -/
def schedulePos (c : Column) (now : Nat) : Nat := lapRows * (now - c.lapFrom) / (1000000 * Nat.max 1 c.minLap)

/-- R186, R188: the Dredger asks for a slot in class DUE: a row is hinted, or its lap position lags the schedule. -/
def dredgeDue (c : Column) (now : Nat) : Bool := c.hint.isSome || decide (c.pos < schedulePos c now)

/-- R160, R186: the Dredger has a slot: one of class DUE, which comes after 16 slots at the latest, or an IDLE one, which no other ready request
wants and which keeps IDLE_GAP as far as whole ticks tell. None where it has none now. -/
def dredgeSlot (e : Env) (flim now : Nat) (c : Column) : Option Column :=
  if dredgeDue c now then
    let n := if c.lastDue = 0 then c.slots + 1 else Nat.max (c.slots + 1) (c.lastDue + 16)
    some { c with ps := c.ps + (n - c.slots) * slotPs flim, slots := n, lastDue := n }
  else
    let gap := match c.lastIdle with
      | some t => decide (64 * fld (e.reg 0x4100) 31 24 < 1000 * (now - t + 1))
      | none => true
    if gap && !(c.queue.zipIdx.any (fun p => c.ready p.2 p.1)) then some { c.passSlot flim with lastIdle := some now } else none

/-- The addressable row for which a spare row (32 × bank + spare) stands. -/
def Column.rowOfSpare (c : Column) (k : Nat) : Option Nat :=
  c.rowRep.findSome? (fun p =>
    if p.1 / 32 = k / 32 && p.2.getLsbD 31 && fld p.2.toNat 16 12 == k % 32 then some (riOf (k / 32) (fld p.2.toNat 11 0)) else none)

/-- R185: an unused spare row (32 × bank + spare) is checked against its test pattern and written again; one that cannot be corrected is marked
bad. -/
def Fabric.checkSpare (f : Fabric) (x : SiteIx) (k : Nat) (errs : List SymErr) : Fabric :=
  let c := f.col x
  let p := rowsPerColumn + k
  let good := fun (rs : List SecRead) => rs.all (fun r => r.outcome ≠ 5 && !r.poison && r.data == Config.testPattern)
  let ok := good (c.readPhys p f.free errs) || good (c.readPhys p f.free [])
  let c := (List.range 16).foldl (fun c s => c.putPhys p s Config.testPattern false) { c with xfers := c.xfers + 2 }
  f.setCol x (if ok || c.badRows.contains k then c else { c with badRows := c.badRows ++ [k] })

/-- A row scrubbed in a lap or after a hint (R187), with what that makes due (R192). -/
def Fabric.scrubLap (f : Fabric) (e : Env) (x : SiteIx) (ri : Nat) (errs : List SymErr) : Fabric :=
  let tile := ((f.tileOf x).map (·.val)).getD 0
  let c := (errs.filter (fun s => s.persist)).foldl (fun c s => c.upset (16 * ri + s.sector.val) s.sym.val s.flip) (f.col x)
  let (f, s) := (f.setCol x c).scrub e x 0 ri tile (errs.filter (fun s => !s.persist))
  f.scrubDue e x ri s

/-- DREDGER_SCRUB (R185–R188): the hinted row, or the row at the lap position, is scrubbed as a locked pair; a spare row in use is scrubbed as the
row for which it stands, and one not in use is checked. -/
def Fabric.dredge (f : Fabric) (e : Env) (x : SiteIx) (errs : List SymErr) : Fabric :=
  if (f.col x).phase ≠ .ready then f else
  match dredgeSlot e (f.site x).flim (blockTicks e.time (.channelRoot x)) (f.col x) with
  | none => f
  | some c =>
    let f := f.setCol x c
    match c.hint with
    | some ri =>
      let f := f.scrubLap e x ri errs
      f.setCol x { f.col x with hint := none }
    | none =>
      let f :=
        if c.pos < rowsPerColumn then f.scrubLap e x c.pos errs
        else match c.rowOfSpare (c.pos - rowsPerColumn) with
          | some ri => f.scrubLap e x ri errs
          | none => f.checkSpare x (c.pos - rowsPerColumn) errs
      let c := f.col x
      let f := f.setCol x { c with pos := c.pos + 1 }
      if c.pos + 1 = lapRows then f.lapEnd e x else f

/-- VALID and the spare numbers of a bank's row entries. -/
def Column.rowEntries (c : Column) (bank : Nat) : List (Nat × Word) :=
  (List.range 32).filterMap (fun i =>
    let w := tget c.rowRep 0 (32 * bank + i)
    if w.getLsbD 31 then some (i, w) else none)

def Column.colEntries (c : Column) (bank : Nat) : List (Nat × Word) :=
  (List.range 8).filterMap (fun i =>
    let w := tget c.colRep 0 (8 * bank + i)
    if w.getLsbD 31 then some (i, w) else none)

/-- R193 step 1: the lowest free spare row of a bank that is not marked bad, and the table index to use: the entry of the same row, else the
lowest free one. -/
def Column.freeRowSpare (c : Column) (bank row : Nat) : Option (Nat × Nat) :=
  let es := c.rowEntries bank
  match (List.range 32).find? (fun s => !(es.any (fun p => fld p.2.toNat 16 12 = s)) && !c.badRows.contains (32 * bank + s)) with
  | none => none
  | some s =>
    match es.find? (fun p => fld p.2.toNat 11 0 = row) with
    | some p => some (s, p.1)
    | none => ((List.range 32).find? (fun i => !(es.any (fun p => p.1 = i)))).map (fun i => (s, i))

def Column.freeColSpare (c : Column) (bank bb : Nat) : Option (Nat × Nat) :=
  let es := c.colEntries bank
  match (List.range 8).find? (fun s => !(es.any (fun p => fld p.2.toNat 13 11 = s)) && !c.badCols.contains (8 * bank + s)) with
  | none => none
  | some s =>
    match es.find? (fun p => fld p.2.toNat 10 0 = bb) with
    | some p => some (s, p.1)
    | none => ((List.range 8).find? (fun i => !(es.any (fun p => p.1 = i)))).map (fun i => (s, i))

/-- The spare that an entry names is left for another, and marked bad (R191, R399). -/
def markBad (l : List Nat) (per : Nat) (old : Word) (lo : Nat) (bank : Nat) : List Nat :=
  let k := per * bank + old.toNat / 2 ^ lo % per
  if old.getLsbD 31 && !l.contains k then l ++ [k] else l

/-- R195: no spare of the kind is left. -/
def Fabric.exhaust (f : Fabric) (e : Env) (x : SiteIx) (s : Suspect) (kind : Nat) : Fabric :=
  (f.setCol x { f.col x with exhausted := true }).report e 0x0203 s kind 0

/-- ROW_REPAIR (R193). -/
def Fabric.rowRepair (f : Fabric) (e : Env) (x : SiteIx) (bank : Fin 128) (row : Fin 3072) : Fabric :=
  let ri := riOf bank.val row.val
  let c := f.col x
  if c.phase ≠ .ready then f else
  let f := f.setCol x { c with rowDue := c.rowDue.filter (· ≠ ri) }
  match c.freeRowSpare bank.val row.val with
  | none => f.exhaust e x (.dram x ri 0) 0
  | some (sp, i) =>
    let (f, _) := f.scrub e x 0 ri (((f.tileOf x).map (·.val)).getD 0) []
    -- all 16 sectors, as the row now reads, go to the spare row
    let c := f.col x
    let rs := c.readRow ri f.free []
    let old := tget c.rowRep 0 (32 * bank.val + i)
    let entry : Word := BitVec.ofNat 32 (row.val + sp * 2 ^ 12 + 2 ^ 30 + 2 ^ 31)
    let c := { c with
      badRows := markBad c.badRows 32 old 12 bank.val, rowRep := tset c.rowRep 0 (32 * bank.val + i) entry, xfers := c.xfers + 1 }
    let c := rs.zipIdx.foldl (fun c p => c.putSector (16 * ri + p.2) p.1.data p.1.poison) c
    (f.setCol x c).report e 0x0202 (.dram x ri 0) 0 sp

/-- COLUMN_REPAIR (R194): dual writing is turned on and the rewrite of the bank begins. -/
def Fabric.columnRepair (f : Fabric) (e : Env) (x : SiteIx) (bank : Fin 128) (bb : Fin 1152) : Fabric :=
  let c := f.col x
  if c.phase ≠ .ready then f
  else if c.dual.isSome then
    -- one at a time: the repair stays due
    f.setCol x { c with colDue := if c.colDue.contains (bank.val, bb.val) then c.colDue else c.colDue ++ [(bank.val, bb.val)] }
  else
  let c := { c with colDue := c.colDue.filter (fun p => p ≠ (bank.val, bb.val)) }
  let f := f.setCol x c
  match c.freeColSpare bank.val bb.val with
  | none => f.exhaust e x (.dram x (riOf bank.val 0) (bb.val % 16)) 1
  | some _ => f.setCol x { c with dual := some (bank.val, bb.val) }

/-- R194: the rewrite of a row of the bank, as a locked pair: sector s is read and decoded, and the corrected byte is written; a sector confirmed
uncorrectable becomes a poison record. -/
def Fabric.columnRow (f : Fabric) (e : Env) (x : SiteIx) (ri s tile : Nat) : Fabric :=
  let (f, rs) := f.readRow e x 0 ri []
  let (f, again) := if rs.any (fun r => r.outcome = 5) then f.readRow e x 0 ri [] else (f, rs)
  f.writeSectors e x ((scrubRow ri tile (nowNs e.time) rs again).writes.filter (fun w => w.key = 16 * ri + s))

/-- The spare byte `n` of every row of a bank holds what it stands for. -/
def Column.cleanSpare (c : Column) (bank n : Nat) : Column :=
  { c with spareBytes := (c.spareBytes.map (fun p => if physBank p.1 = bank then (p.1, setSpareByte p.2 n 0) else p)).filter (fun p => p.2 != 0) }

/-- COLUMN_REPAIR_COMPLETE (R194): the 3,104 rows of the bank have been rewritten as locked pairs, reads switch to the spare column, and the entry is
written. A row that holds nothing but the last fill decodes without an error, and is only counted. -/
def Fabric.columnRepairDone (f : Fabric) (e : Env) (x : SiteIx) (bank : Fin 128) : Fabric :=
  let c := f.col x
  match c.dual with
  | none => f
  | some (b, bb) =>
    if b ≠ bank.val then f else
    match c.freeColSpare b bb with
    | none => f
    | some (sp, i) =>
      let tile := ((f.tileOf x).map (·.val)).getD 0
      let from_ := c.xfers
      let rows := c.listedRows.filter (fun ri => riBank128 ri = b)
      let f := rows.foldl (fun f ri => f.columnRow e x ri (bb % 16) tile) f
      let c := f.col x
      let old := tget c.colRep 0 (8 * b + i)
      let entry : Word := BitVec.ofNat 32 (bb + sp * 2 ^ 11 + 2 ^ 30 + 2 ^ 31)
      let c := { c.cleanSpare b sp with
        dual := none, badCols := markBad c.badCols 8 old 11 b, colRep := tset c.colRep 0 (8 * b + i) entry
        xfers := Nat.max c.xfers (from_ + 6208) }
      (f.setCol x c).report e 0x0202 (.dram x (riOf b 0) (bb % 16)) 1 sp

/-- SPARE_LANE_TEST (R199, R389): a pending repair switches the group's shift point when its spare passes; a spare that
fails is marked bad and the other is tried; with none left the lane is dead (R200). -/
def Fabric.spareLaneTest (f : Fabric) (e : Env) (x : SiteIx) (b : Fin 8) (g : Fin 144) (pass : Bool) : Fabric :=
  let c := f.col x
  let l := c.lane b.val g.val
  match c.laneTests.find? (fun t => t.boundary = b.val && t.group = g.val) with
  | some t =>
    let done := c.laneTests.erase t
    if pass then
      ((f.setCol x { (c.setLane b.val g.val { l with shifted := l.shifted ++ [t.lane] }) with laneTests := done }).report e
        0x0202 (.tsvLane x b.val g.val t.lane) 2 (l.shifted.length + l.sparesBad))
    else
      let l := { l with sparesBad := l.sparesBad + 1 }
      if 0 < l.sparesLeft then f.setCol x (c.setLane b.val g.val l)
      else
        ((f.setCol x { (c.setLane b.val g.val { l with dead := l.dead ++ [t.lane] }) with
            laneTests := done, exhausted := true }).report e 0x0203 (.tsvLane x b.val g.val t.lane) 2 0)
  | none =>
    if pass || l.sparesLeft = 0 then f
    else (f.setCol x (c.setLane b.val g.val { l with sparesBad := l.sparesBad + 1 })).report e 0x0202
      (.tsvLane x b.val g.val 0) 2 0x7F

/-- R196: the control lanes of each boundary that fail, by the lanes that fail their training. -/
def ctlBad (bad : List LaneLoc) : Vector (BitVec 6) 8 :=
  Vector.ofFn (fun (b : Fin 8) => bad.foldl (fun (m : BitVec 6) p =>
    if p.boundary = b && 9216 ≤ p.lane.val then m ||| BitVec.ofNat 6 (2 ^ (p.lane.val - 9216)) else m) 0)

/-- R196: a triplicated set works while two of its three lanes do. -/
def ctlSetOk (m : BitVec 6) (k : Nat) : Bool := decide ((((List.range 3).filter (fun i => m.getLsbD (3 * k + i))).length) ≤ 1)
def ctlOk (v : Vector (BitVec 6) 8) : Bool := v.toList.all (fun m => ctlSetOk m 0 && ctlSetOk m 1)

/-- LANE_TRAINING_DONE (R201): lanes that fail take a spare or are dead (R200); refresh starts at 40 µs; the fused repairs
are loaded; the fill of the column begins. A column that cannot train at all is unusable. -/
def Fabric.laneTrained (f : Fabric) (e : Env) (x : SiteIx) (bad : List LaneLoc) (usable : Bool)
    (fusedRows fusedCols : List (Nat × Word)) : Fabric :=
  let c := f.col x
  let ctl := ctlBad bad
  if c.phase ≠ .training then f
  else if !usable || !ctlOk ctl then f.setCol x { c with phase := .unusable, ctlLanes := ctl }
  else
    let now := blockTicks e.time (.channelRoot x)
    let c := { c with
      phase := .filling, ctlLanes := ctl
      layers := Vector.replicate 8 { LayerSt.init with updated := now }
      rowRep := fusedRows.foldl (fun t p => tset t 0 p.1 p.2) c.rowRep
      colRep := fusedCols.foldl (fun t p => tset t 0 p.1 p.2) c.colRep }
    (bad.filter (fun p => p.lane.val < 9216)).foldl (fun f p =>
      let c := f.col x
      let g := p.lane.val / 64
      let l := c.lane p.boundary.val g
      if l.shifted.contains p.lane.val || l.dead.contains p.lane.val then f
      else if 0 < l.sparesLeft then f.setCol x (c.setLane p.boundary.val g { l with shifted := l.shifted ++ [p.lane.val] })
      else (f.setCol x { (c.setLane p.boundary.val g { l with dead := l.dead ++ [p.lane.val] }) with exhausted := true }).report e
        0x0203 (.tsvLane x p.boundary.val g p.lane.val) 2 0) (f.setCol x c)

/-- COLUMN_FILL_DONE (R171): every row is poison with cause UNINITIALISED, one timestamp; requests are accepted and the
first lap starts. -/
def Fabric.fillDone (f : Fabric) (e : Env) (x : SiteIx) : Fabric :=
  let c := f.col x
  if c.phase ≠ .filling then f else
  f.setCol x { c with
    phase := .ready, cells := [], spareBytes := [], pos := 0, lapFrom := blockTicks e.time (.channelRoot x), minLap := minLapS e
    lapCorr := [], prevCorr := [], colHits := [], colTold := [], hint := none
    fill := { data := poisonRec .uninitialised (((f.tileOf x).map (·.val)).getD 0) 2 (nowNs e.time), poison := true, err := 0 } }

/-- REPAIR_TABLE_RELOAD (R202): the channel root loads its tables and lane settings from Lockkeeper's record, accepts requests, and the Dredger
starts its first lap. What the tables still hold stays. -/
def Fabric.repairReload (f : Fabric) (e : Env) (x : SiteIx) (rows cols : List (Nat × Word)) (lanes : List (Nat × LaneSt)) : Fabric :=
  let c := f.col x
  if c.phase ≠ .reloading then f else
  let load := fun (t : Tab Word) (p : Nat × Word) => if (tget t 0 p.1).getLsbD 31 then t else tset t 0 p.1 p.2
  f.setCol x { c with
    phase := .ready, rowRep := rows.foldl load c.rowRep, colRep := cols.foldl load c.colRep
    lanes := lanes.foldl (fun t p => if (tget t none p.1).isSome then t else tput t p.1 (some p.2)) c.lanes
    pos := 0, lapFrom := blockTicks e.time (.channelRoot x), minLap := minLapS e
    lapCorr := [], prevCorr := [], colHits := [], colTold := [], hint := none }

end Sys2Proof.Machine
end

