-- ==== Sys2Proof/Machine/Samplers.lean ====
section
/-! DEFINITION. The cluster samplers (R60–R64, R232–R234): arming, reducing slices, and the draw. -/

namespace Sys2Proof.Machine

/-- An FP32 code of a finite number as a number that orders values; the two zeros are equal. -/
def ordKey (c : Nat) : Int := if c < 2 ^ 31 then (c : Int) else -((c : Int) - 2 ^ 31)

/-- R61: rank order, the larger value first and of equal values the lower token ID. -/
def rankBefore (a b : Nat × Nat) : Bool := ordKey b.1 < ordKey a.1 || (ordKey a.1 == ordKey b.1 && a.2 < b.2)

/-- A candidate put into a list in rank order. -/
def rankInsert (a : Nat × Nat) : List (Nat × Nat) → List (Nat × Nat)
  | [] => [a]
  | b :: r => if rankBefore a b then a :: b :: r else b :: rankInsert a r

/-- The 256 first candidates in rank order (R61). -/
def rankTop (l : List (Nat × Nat)) : List (Nat × Nat) := l.foldl (fun acc a => (rankInsert a acc).take 256) []

/-- An FP32 code that is NaN or infinite (R64). -/
def notFinite (c : Nat) : Bool := 0x7F800000 ≤ c % 2 ^ 31

/-- What a sampler keeps of a slice (R61), with the temperature factor `r` of the slot. -/
def keepSlice (r : Nat) (s : Slice) : KeptSlice :=
  let top := rankTop (s.logits.zipIdx.map (fun p => (p.1, s.vocabBase + p.2)))
  let m := (top.headD (0, 0)).1
  let mv := fp32F.decode m
  let rv := fp32F.decode r
  let z := fun i => fp32F.decode (s.logits.getD i 0)
  let sum := laneSum add32 s.logits.length (fun i => attExp (mul32 (sub32 (z i) mv) rv))
  { base := s.vocabBase, count := s.logits.length, max := m, sum := fp32Of sum, top := top }

/-- The slot table entry of a sampler. -/
def Sampler.slot (s : Sampler) (i : Nat) : Option SamplerSlot := tget s.slots none i
def Sampler.setSlot (s : Sampler) (i : Nat) (v : Option SamplerSlot) : Sampler := { s with slots := tset s.slots none i v }

/-- SAMPLER_ARM (R60): the slot takes the parameters and expects its slices anew. -/
def Fabric.armSlot (f : Fabric) (c : ClusterId) (slot : Nat) (p : ArmParams) : Fabric :=
  f.setSampler c ((f.sampler c).setSlot slot (some { params := p, slices := [] }))

/-- A slot fails with SAMPLE_INVALID and is disarmed (R60, R64). -/
def Fabric.failSlot (f : Fabric) (c : ClusterId) (slot : Nat) : Fabric :=
  { f.setSampler c ((f.sampler c).setSlot slot none) with
      results := f.results ++ [{ cluster := c, slot := slot, token := none, logprob := 0, alts := [] }] }

/-- A slice discarded and counted (R60). -/
def Fabric.discardSlice (f : Fabric) (c : ClusterId) : Fabric :=
  f.setSampler c { f.sampler c with discarded := (f.sampler c).discarded + 1 }

/-- A slice reaches a slot (R60, R61, R64). -/
def Fabric.takeSlice (f : Fabric) (c : ClusterId) (s : Slice) : Fabric :=
  match (f.sampler c).slot s.slot with
  | none => f.discardSlice c
  | some v =>
    if v.params.nslice ≤ v.slices.length then f.discardSlice c
    else if v.slices.any (fun k => k.base = s.vocabBase) then (f.discardSlice c).failSlot c s.slot
    else if s.logits.any notFinite then f.failSlot c s.slot
    else f.setSampler c ((f.sampler c).setSlot s.slot
      (some { v with slices := v.slices ++ [keepSlice v.params.tempFactor s] }))

/-- A SAMPLE slice of a stream is delivered (R43). -/
def Fabric.sliceDelivered (f : Fabric) (s : Slice) : Fabric :=
  match f.siteOf s.tile with
  | none => f
  | some x => f.modStream x s.stream (fun v => { v with slices := v.slices - 1 })

/-- LOGIT_SLICE: the n-th slice under way to the sampler of the cluster arrives. -/
def Fabric.logitSlice (f : Fabric) (c : ClusterId) (n : Nat) : Fabric :=
  let s := f.sampler c
  match s.inflight[n]? with
  | none => f
  | some sl => ((f.setSampler c { s with inflight := s.inflight.eraseIdx n }).sliceDelivered sl).takeSlice c sl

-- The generator ------------------------------------------------------------------------------------------------------

/-- One round of Philox-4x32 (R63). -/
def philoxRound (k : Nat × Nat) (c : Nat × Nat × Nat × Nat) : Nat × Nat × Nat × Nat :=
  let p0 := 0xD2511F53 * c.1
  let p1 := 0xCD9E8D57 * c.2.2.1
  (Nat.xor (Nat.xor (p1 / 2 ^ 32) c.2.1) k.1, p1 % 2 ^ 32, Nat.xor (Nat.xor (p0 / 2 ^ 32) c.2.2.2) k.2, p0 % 2 ^ 32)

/-- Philox-4x32-10: output word 0 for a key and a counter whose words are c0 to c3 (R63). -/
def philox0 (key : Nat) (ctr : Nat × Nat × Nat × Nat) : Nat :=
  let k0 := key % 2 ^ 32
  let k1 := key / 2 ^ 32 % 2 ^ 32
  ((List.range 10).foldl (fun c i =>
    philoxRound ((k0 + i * 0x9E3779B9) % 2 ^ 32, (k1 + i * 0xBB67AE85) % 2 ^ 32) c) ctr).1

/-- The uniform value of R63: the top 24 bits of output word 0. -/
def uniform (key counter : Nat) : Val :=
  let w := philox0 key (counter % 2 ^ 32, counter / 2 ^ 32 % 2 ^ 32, counter / 2 ^ 64 % 2 ^ 32, counter / 2 ^ 96 % 2 ^ 32)
  .fin false ⟨(w / 256 : Nat), -24⟩

-- The draw -----------------------------------------------------------------------------------------------------------

/-- A slice put among others in ascending VOCAB_BASE. -/
def baseInsert (a : KeptSlice) : List KeptSlice → List KeptSlice
  | [] => [a]
  | b :: r => if a.base ≤ b.base then a :: b :: r else b :: baseInsert a r

/-- The least value that both are at or above, as FP32 values. -/
def Val.ge (a b : Val) : Bool := b.dy.le a.dy

/-- Top-p (R233 step 2): how many of the first `n` ranks remain. -/
def topP (s topp : Val) : List Val → Val → Nat → Nat
  | [], _, k => k
  | e :: r, c, k =>
    let c' := add32 c (div32 e s)
    if c'.ge topp then k + 1 else topP s topp r c' (k + 1)

/-- The first kept rank whose running sum exceeds `th`, or the last kept rank (R233 step 4). -/
def drawRank (th : Val) : List (Nat × Val) → Val → Nat → Nat
  | [], _, last => last
  | (j, e) :: r, c, _ =>
    let c' := add32 c e
    if th.dy.lt c'.dy then j else drawRank th r c' j

/-- R233, R234: the result of a complete slot. -/
def sampleSlot (c : ClusterId) (slot : Nat) (v : SamplerSlot) : SampleResult :=
  let p := v.params
  let slices := v.slices.foldl (fun l s => baseInsert s l) []
  let cands := rankTop (slices.flatMap (·.top))
  let m := fp32F.decode (cands.headD (0, 0)).1
  let r := fp32F.decode p.tempFactor
  let s := slices.foldl (fun s k =>
    add32 s (mul32 (attExp (mul32 (sub32 (fp32F.decode k.max) m) r)) (fp32F.decode k.sum))) Val.zero
  let sc := cands.map (fun q => mul32 (sub32 (fp32F.decode q.1) m) r)
  let es := sc.map attExp
  let nc := cands.length
  let rank :=
    if p.method = 0 then 0 else
    let n := Nat.min (if p.topK = 0 then 256 else p.topK) nc
    let n := topP s (fp32F.decode p.topP) (es.take n) Val.zero 0
    let t := mul32 (fp32F.decode p.minP) (es.headD Val.zero)
    let kept := ((es.take n).zipIdx.filter (fun q => q.2 == 0 || q.1.ge t)).map (fun q => (q.2, q.1))
    let total := kept.foldl (fun a q => add32 a q.2) Val.zero
    drawRank (mul32 (uniform p.key p.counter) total) kept Val.zero 0
  let lg := tableVal 0x13 s
  let lp := fun j => fp32Of (sub32 (sc.getD j Val.zero) lg)
  { cluster := c, slot := slot, token := some (cands.getD rank (0, 0)).2, logprob := lp rank
    alts := (List.range (Nat.min p.nalt nc)).map (fun j => ((cands.getD j (0, 0)).2, lp j)) }

/-- SAMPLER_RESULT (R60, R61): a slot that holds its armed number of slices sends its result and is disarmed. -/
def Fabric.samplerResult (f : Fabric) (c : ClusterId) (slot : Nat) : Fabric :=
  match (f.sampler c).slot slot with
  | none => f
  | some v =>
    if v.slices.length = v.params.nslice then
      { f.setSampler c ((f.sampler c).setSlot slot none) with results := f.results ++ [sampleSlot c slot v] }
    else f

/-- R67: a reset that includes the cluster disarms its sampler's slots. -/
def Fabric.resetSampler (f : Fabric) (c : ClusterId) : Fabric :=
  f.setSampler c { f.sampler c with slots := [], inflight := [] }

end Sys2Proof.Machine
end

