-- ==== Sys2Proof/Machine/SiteOps.lean ====
section
/-! DEFINITION. The mesh (R56–R58), the cut-over of a tile (R66), the coming-up of a site after reset (R67), and the
read-to-clear counters of a tile (R91, R467). -/

namespace Sys2Proof.Machine

-- Mesh ---------------------------------------------------------------------------------------------------------------

/-- R58: the first pair of clusters of a half between which both routes are broken. -/
def Fabric.lostRoute (f : Fabric) (h : HalfId) : Option (Nat × Nat) :=
  (List.range 16).findSome? (fun i =>
    ((List.range 16).find? (fun j =>
      (meshPath false (16 * h.val + i) (16 * h.val + j)).any f.meshDown &&
      (meshPath true (16 * h.val + i) (16 * h.val + j)).any f.meshDown)).map (fun j => (16 * h.val + i, 16 * h.val + j)))

/-- MESH_FLIT_RETRY (R58): the flit is sent again; nothing is lost. -/
def Fabric.meshRetry (f : Fabric) (c : ClusterId) : Fabric :=
  f.setCluster c { f.cluster c with retries := (f.cluster c).retries + 1 }

/-- MESH_LANE_FAIL (R58): a spare replaces the lane; with both spares used, the half is ordered to column-first routing and
its switches hold new injections; a pair of tiles without a route is reported. -/
def Fabric.meshLaneFail (f : Fabric) (e : Env) (c : ClusterId) (dir : Fin 4) : Fabric :=
  let s := f.cluster c
  let n := s.laneFails[dir] + 1
  let third := decide (2 < n)
  let s := { s with laneFails := s.laneFails.set dir n,
                    linkDown := if third then s.linkDown ||| BitVec.ofNat 4 (2 ^ dir.val) else s.linkDown }
  let f := f.setCluster c s
  let h := clusterHalf c
  let f := if third && !s.columnFirst then { f with switching := f.switching.set h true, toColumn := f.toColumn.set h true } else f
  let f := f.report e 0x0305 (.meshLink c dir.val) (2 - n) (b2n (third || s.columnFirst))
  if third then
    match f.lostRoute h with
    | some (a, b) => f.report e 0x0306 (.half h) (a + b * 2 ^ 16) 0 none 6
    | none => f
  else f

/-- COLUMN_FIRST_SWITCH (R58, R288): the mesh of the half has emptied; its switches route along columns first where that was ordered, and
the hold on injections ends. -/
def Fabric.columnFirst (f : Fabric) (h : HalfId) : Fabric :=
  if f.switching[h] && f.meshEmpty h then
    let g := if f.toColumn[h] then
        (List.range 16).foldl (fun f i =>
          let c : ClusterId := ⟨(16 * h.val + i) % 32, Nat.mod_lt _ (by decide)⟩
          f.setCluster c { f.cluster c with columnFirst := true }) f
      else f
    g.switchRoutes h
  else f

-- Held packets and cut-over ------------------------------------------------------------------------------------------

/-- The packets that a switch holds for a tile, delivered in arrival order (R66 step 6, R67). -/
def Fabric.deliverHeld (f : Fabric) (e : Env) (t : TileId) : Fabric :=
  let ps := tget f.held [] t.val
  let f := { f with held := tset f.held [] t.val [] }
  ps.foldl (fun f p =>
    match p with
    | .launch q => f.launch e t q
    | .abort g => f.abort t g
    | .send src st id => f.sendDelivery e src st id
    | .coll dst data sem => f.deliver e { id := 0, peer := t, dst := dst, data := data, dsem := sem, off := 0 }) f

/-- R66 steps 1–3: the cut-over begins; the streams of the old site stop issuing. -/
def Fabric.beginCut (f : Fabric) (t : TileId) (src dst : SiteIx) : Fabric :=
  let s := f.site src
  let s := allStreams.foldl (fun s st =>
    let v := s.stream st
    s.setStream st { v with held := some v.state, state := if v.state = .faulted then .faulted else .quiesced }) s
  { f.setSite src s with cut := f.cut.set (siteHalf src) (some { tile := t, src := src, dst := dst, phase := .quiescing }) }

/-- STREAMS_QUIESCED (R66 step 4): every issued step at the old site is complete, and the copy of its state begins. -/
def Fabric.streamsQuiesced (f : Fabric) (h : HalfId) : Fabric :=
  match f.cut[h] with
  | some c =>
    if c.phase = .quiescing && allStreams.all (fun st =>
        ((f.site c.src).stream st).steps.isEmpty && ((f.site c.src).stream st).refetch.isNone) then
      { f with cut := f.cut.set h (some { c with phase := .copying }) }
    else f
  | none => f

/-- The state that a cut-over copies into the new site, whose own pace, code and condition stay (R66 step 4). -/
def copyState (src dst : Site) : Site :=
  { src with
      arr := { dst.arr with kind := src.arr.kind, row := src.arr.row, col := src.arr.col
                            faults := src.arr.faults, replays := src.arr.replays }
      ready := true, failed := dst.failed, flim := dst.flim, bank := dst.bank, code := dst.code }

/-- R16: a cluster's map written as one act, which counts as one change. -/
def Fabric.writeMap (f : Fabric) (c : ClusterId) (g : ClusterSt → ClusterSt) : Fabric :=
  f.setCluster c { g (f.cluster c) with mapGen := (f.cluster c).mapGen + 1 }

/-- R16: a cluster's map changed as one act; MAP_GEN counts a change of the map or the spare, or of the sites declared bad. -/
def Fabric.changeMap (f : Fabric) (c : ClusterId) (g : ClusterSt → ClusterSt) : Fabric :=
  let a := f.cluster c
  let b := g a
  if b.siteOf = a.siteOf && b.spare = a.spare && b.bad = a.bad then f.setCluster c b else f.writeMap c g

/-- The site number of a site within its cluster. -/
def siteFin (x : SiteIx) : Fin 17 := ⟨siteNo x, Nat.mod_lt _ (by decide)⟩

/-- A logical tile moves from its bad site to the spare. -/
def moveTile (i : Fin 16) (src dst : SiteIx) (s : ClusterSt) : ClusterSt :=
  { s with
      siteOf := s.siteOf.set i (some (siteFin dst))
      spare := if s.spare = some (siteFin dst) then none else s.spare
      bad := s.bad ||| BitVec.ofNat 17 (2 ^ siteNo src) }

/-- The place of a tile in its cluster. -/
def tileFin (t : TileId) : Fin 16 := ⟨t.val % 16, Nat.mod_lt _ (by decide)⟩

/-- R66 step 7: each stream returns to the state it held, its waits with it. -/
def resumeStreams (s : Site) : Site :=
  allStreams.foldl (fun s st =>
    let v := s.stream st
    match v.held with
    | some q => s.setStream st { v with state := if v.state = .faulted then .faulted else q, held := none }
    | none => s) s

/-- STATE_COPY_COMPLETE (R66 steps 5–7): the site map moves the tile, held packets are delivered, and the streams go on. -/
def Fabric.stateCopied (f : Fabric) (e : Env) (h : HalfId) : Fabric :=
  match f.cut[h] with
  | some c =>
    if c.phase = .copying then
      let s := resumeStreams (copyState (f.site c.src) (f.site c.dst))
      let f := (f.setSite c.dst (Site.serve s)).setSite c.src Site.init
      let f := f.changeMap (tileCluster c.tile) (moveTile (tileFin c.tile) c.src c.dst)
      { f with cut := f.cut.set h none }.deliverHeld e c.tile
    else f
  | none => f

-- Coming up ----------------------------------------------------------------------------------------------------------

/-- R67: what a reset leaves of a site: the loaded code banks, the pace limit and the condition of the site stay. -/
def Site.reset (s : Site) : Site :=
  { Site.init with failed := s.failed, flim := s.flim, bank := s.bank, code := s.code }

/-- R67: a site reset; packets for its tile are held until the scratch fill is done. -/
def Fabric.resetSite (f : Fabric) (x : SiteIx) : Fabric := f.setSite x (f.site x).reset

/-- A value that the manual does not state, drawn at the free counter. -/
def Fabric.freeNat (f : Fabric) (k : Nat) : Nat := Config.freeWord f.free k

/-- SCRATCH_FILL_DONE (R67, R114, R151): scratch holds zeros, the built-in tests have ended, and held packets are released;
a test that fails is reported. -/
def Fabric.fillScratch (f : Fabric) (e : Env) (x : SiteIx) (mmOk attOk : Bool) : Fabric :=
  if (f.site x).ready then f else
  let f := f.setSite x { f.site x with
    scratch := [], poison := [], tags := [], ready := true, failed := (f.site x).failed || !mmOk || !attOk }
  let f := if mmOk then f else f.report e 0x0103 (.site x) (f.freeNat 0) 0
  let f := if attOk then f else f.report e 0x0103 (.site x) (f.freeNat 1) 0
  match f.tileOf x with
  | some t => if f.holding t then f else f.deliverHeld e t
  | none => f

-- Read-to-clear counters ---------------------------------------------------------------------------------------------

/-- R7, R17, R91: a read-to-clear counter of a tile window: the value read, and the tile with the counter cleared. Nothing
for an absent tile. -/
def Fabric.readTile (f : Fabric) (t : TileId) (value : Site → Nat) (clear : Site → Site) : Fabric × Nat :=
  match f.siteOf t with
  | none => (f, 0)
  | some x => (f.setSite x (clear (f.site x)), value (f.site x))

def Fabric.readScratchErr (f : Fabric) (t : TileId) : Fabric × Nat :=
  f.readTile t (fun s => s.parityFaults * 2 ^ 16 + s.refetches) (fun s => { s with parityFaults := 0, refetches := 0 })

def Fabric.readFmtEvents (f : Fabric) (t : TileId) : Fabric × Nat :=
  f.readTile t (fun s => s.nanOut * 2 ^ 16 + s.satCount) (fun s => { s with nanOut := 0, satCount := 0 })

def Fabric.readMmChk (f : Fabric) (t : TileId) : Fabric × Nat :=
  f.readTile t (fun s => s.arr.faults * 2 ^ 16 + s.arr.replays)
    (fun s => { s with arr := { s.arr with faults := 0, replays := 0 } })

def Fabric.readAttEvents (f : Fabric) (t : TileId) : Fabric × Nat :=
  f.readTile t (fun s => s.emptyRows) (fun s => { s with emptyRows := 0 })

def Fabric.readDramErr (f : Fabric) (t : TileId) : Fabric × Nat :=
  match f.siteOf t with
  | none => (f, 0)
  | some x =>
    let c := f.col x
    (f.setCol x { c with uncorrSectors := 0, corrSectors := 0 }, c.uncorrSectors * 2 ^ 16 + c.corrSectors)

/-- TILE_MM_DBG_SEL (R7, R115): the select is written unless SEC_LOCK is set; EN = 1 clears DBG_VALID. -/
def Fabric.writeDbgSel (f : Fabric) (e : Env) (t : TileId) (v : Word) : Fabric :=
  if e.lock then f else
  match f.siteOf t with
  | none => f
  | some x =>
    let s := f.site x
    f.setSite x { s with arr := { s.arr with dbgSel := v &&& 0xE3FFFFFF
                                             dbgValid := if v.getLsbD 31 then false else s.arr.dbgValid } }

/-- PEER_TABLE_WRITE: word i of the peer table of a site holds entries 2i and 2i + 1 (R65, R470). -/
def Fabric.writePeers (f : Fabric) (x : SiteIx) (word : Fin 128) (v : Word) : Fabric :=
  let s := f.site x
  f.setSite x { s with peers := (s.peers.set (2 * word.val) (v.setWidth 16 &&& 0x81FF) (by omega)).set (2 * word.val + 1)
                                  ((v >>> 16).setWidth 16 &&& 0x81FF) (by omega) }

end Sys2Proof.Machine
end

