-- ==== Sys2Proof/Machine/Rings.lean ====
section
/-! DEFINITION. The Thigal rings as every other part uses them: tags of host reads, MSI-X messages, events, completion records,
fences and descriptor fetch (R248–R265). -/

namespace Sys2Proof.Machine

def Dev.ctx (d : Dev) (c : CtxId) : Ctx := tget d.host.ctxs Ctx.init c.val
def Dev.setCtx (d : Dev) (c : CtxId) (v : Ctx) : Dev := { d with host := { d.host with ctxs := tput d.host.ctxs c.val v } }
def Dev.modCtx (d : Dev) (c : CtxId) (g : Ctx → Ctx) : Dev := d.setCtx c (g (d.ctx c))
def Dev.send (d : Dev) (o : Out) : Dev := { d with out := d.out ++ [o] }

/-- Ticks of the host interface. -/
def hostNow (e : Env) : Nat := blockTicks e.time .hostInterface

/-- Contexts that have been touched since the device reset; every other one is DISABLED with reset values. -/
def Dev.liveCtxs (d : Dev) : List CtxId := d.host.ctxs.map (fun p => ⟨p.1 % 4096, Nat.mod_lt _ (by decide)⟩)

/-- Is the function present: the PF, or an enabled VF? -/
def Dev.funcOn (d : Dev) (f : FuncId) : Bool := f.val ≤ d.host.vfs

/-- R241, R266: a function may issue requests. -/
def Dev.canIssue (d : Dev) (f : FuncId) : Bool :=
  d.host.linkUp && tget d.host.bme false f.val && d.funcOn f

-- Images in force --------------------------------------------------------------------------------------------------

def Dev.setLkk (d : Dev) (g : Lkk → Lkk) : Dev := { d with lkk := g d.lkk }

/-- Core B has taken over in a handover, and core A has not rejoined (Table Bringup-8 steps 3 and 4). -/
def Lkk.taken (k : Lkk) : Bool :=
  k.mode == .handover && (match k.op with | some (.newImage _) => false | some .handover => false | _ => true)

/-- Lockkeeper acts on records now (R418–R422). -/
def Dev.lkkRuns (d : Dev) : Bool :=
  (d.lkk.mode == .lockstep || d.lkk.mode == .single || d.lkk.taken) && !d.lkk.clkLost && 5 ≤ d.lkk.bootStage && d.lkk.bootStage != 0x1F

/-- The image in force of a component; for a node, VERSION plus one (0 stands for an empty bank). -/
def Comp.active (c : Comp) : Option FwInfo := if c.activeB then c.b else c.a
def Dev.comp (d : Dev) (n : Nat) : Comp := tget d.lkk.comps (Comp.factory n) n
def Dev.codeOf (d : Dev) (n : Nat) : Nat := match (d.comp n).active with | some i => i.version + 1 | none => 0

-- Configuration -----------------------------------------------------------------------------------------------------

def Dev.cfg (d : Dev) (f : FuncId) : CfgSt := tget d.host.cfg CfgSt.init f.val
def Dev.setCfg (d : Dev) (f : FuncId) (v : CfgSt) : Dev := { d with host := { d.host with cfg := tset d.host.cfg CfgSt.init f.val v } }

/-- ATS is enabled on the function; only VFs have it (Table Host-1). -/
def Dev.ats (d : Dev) (f : FuncId) : Bool := f != 0 && (d.cfg f).ats

/-- The most bytes that one read from an address brings: Max_Read_Request_Size, and none past its 4 KiB page. -/
def Dev.readLen (d : Dev) (addr : Nat) : Nat := Nat.min (d.cfg 0).mrrs (4096 - addr % 4096)

/-- An uncorrectable error that AER logs: 12 a poisoned completion, 14 a completion timeout, 16 an unexpected completion. -/
def Dev.aerLog (d : Dev) (f : FuncId) (n : Nat) : Dev := d.setCfg f { d.cfg f with aer := Nat.lor (d.cfg f).aer (2 ^ n) }

-- Ring sizes ---------------------------------------------------------------------------------------------------------

def Ctx.sqSize (v : Ctx) : Nat := 2 ^ fld v.ringSize 3 0
def Ctx.cqSize (v : Ctx) : Nat := 2 ^ fld v.ringSize 11 8
def Ctx.eqSize (v : Ctx) : Nat := 2 ^ fld v.ringSize 19 16

/-- Entries from index `a` up to index `b` of a ring of size `n`. -/
def ringDist (n a b : Nat) : Nat := (b + n - a % n) % n

def Ctx.cqFree (v : Ctx) : Nat := v.cqSize - 1 - ringDist v.cqSize v.cqHead v.cqTail
def Ctx.eqFree (v : Ctx) : Nat := v.eqSize - 1 - ringDist v.eqSize v.eqHead v.eqTail

/-- DONE_DSN: the lowest DSN whose FINAL or DONE is not written; NEXT_DSN when none is outstanding. -/
def Ctx.doneDsn (v : Ctx) : Nat := v.open_.headD v.nextDsn

/-- R261: has DONE_DSN reached WAIT_DSN? -/
def dsnReached (done wait : Nat) : Bool := (done + 65536 - wait % 65536) % 65536 < 32768

-- Tags ---------------------------------------------------------------------------------------------------------------

/-- Tags that a function holds outstanding (R263). -/
def Dev.tagsOf (d : Dev) (f : FuncId) : Nat :=
  (d.host.tags.filter (fun p => match p.2 with
    | some t => t.func == f && t.quar.isNone
    | none => false)).length

/-- VF_TAG_LIMIT with its range. -/
def vfTagLimit (e : Env) : Nat := clampN 16 16384 (fld (e.reg 0x4308) 14 0)

/-- R263: the lowest tag that is neither outstanding nor in quarantine. -/
def Dev.freeTag (d : Dev) : Option Nat :=
  (List.range (Nat.min 16384 (d.host.tags.length + 1))).find? (fun t => (tget d.host.tags none t).isNone)

/-- R263: may a function draw a tag? -/
def Dev.tagFree (d : Dev) (e : Env) (f : FuncId) : Bool :=
  d.canIssue f && !(f.val != 0 && decide (vfTagLimit e ≤ d.tagsOf f)) && d.freeTag.isSome

/-- R263: a request that draws the tag `t`. -/
def Dev.drawTag (d : Dev) (e : Env) (f : FuncId) (use : ReadUse) (page t : Nat) (o : Out) : Dev :=
  let st : TagSt := { func := f, use := use, page := page, at_ := hostNow e, quar := none, timedOut := false }
  { d with host := { d.host with tags := tset d.host.tags none t (some st), expired := d.host.expired.filter (fun p => p.1 != t) } }.send o

/-- The entry of the translation cache for a page of a function. -/
def Dev.atcEntry (d : Dev) (f : FuncId) (page : Nat) : Option AtcEntry := d.host.atc.find? (fun t => t.func == f && t.page == page)

/-- Where a read of an address goes: the address itself, or its translation where ATS is enabled (R270). -/
def Dev.readAddr (d : Dev) (f : FuncId) (addr : Nat) : Option Nat :=
  if d.ats f then ((d.atcEntry f (addr / 4096)).filter (·.r)).map (fun t => 4096 * t.dst + addr % 4096) else some addr

/-- R263: a read issued for a function, where a tag is there and its limit allows; otherwise nothing happens yet. -/
def Dev.issueRead (d : Dev) (e : Env) (f : FuncId) (use : ReadUse) (addr len : Nat) : Option Dev :=
  if !d.tagFree e f then none else
  match d.freeTag, d.readAddr f addr with
  | some t, some a => some (d.drawTag e f use (addr / 4096) t (if d.ats f then .hostReadAt f.val t a len else .hostRead f.val t a len))
  | _, _ => none

/-- Is a read for this use outstanding? -/
def Dev.reading (d : Dev) (u : ReadUse) : Bool :=
  d.host.tags.any (fun p => match p.2 with
    | some t => t.use == u && t.quar.isNone
    | none => false)

/-- R270: a translation request for a page that the function is to use, where it has none that serves. -/
def Dev.wantPage (d : Dev) (e : Env) (f : FuncId) (page : Nat) (write : Bool) : Dev :=
  let serves := (d.atcEntry f page).any (fun t => if write then t.w else t.r)
  if !d.ats f || serves || d.reading (.translate f page) || !d.tagFree e f then d else
  match d.freeTag with
  | some t => d.drawTag e f (.translate f page) page t (.translate f.val t page)
  | none => d

/-- A read whose completion the same command brings: it goes out with the lowest free tag, which it gives back. -/
def Dev.readNow (d : Dev) (e : Env) (f : FuncId) (addr len : Nat) : Dev × Bool :=
  let d := d.wantPage e f (addr / 4096) false
  if !d.tagFree e f then (d, false) else
  match d.freeTag, d.readAddr f addr with
  | some t, some a => (d.send (if d.ats f then .hostReadAt f.val t a len else .hostRead f.val t a len), true)
  | _, _ => (d, false)

/-- A read of at most `len` bytes from an address: issued where it may be; the flag says so. -/
def Dev.startRead (d : Dev) (e : Env) (f : FuncId) (use : ReadUse) (addr len : Nat) : Dev × Bool :=
  let d := d.wantPage e f (addr / 4096) false
  match d.issueRead e f use addr (Nat.min len (d.readLen addr)) with
  | some d => (d, true)
  | none => (d, false)

-- Writes -------------------------------------------------------------------------------------------------------------

/-- The memory writes that carry bytes to an address: none above Max_Payload_Size, none across a 4 KiB boundary (R240, R241). -/
def writePieces (mps : Nat) : Nat → Nat → List Byte → List (Nat × List Byte)
  | 0, _, _ => []
  | n + 1, a, bs =>
    if bs.isEmpty then [] else
    let k := Nat.max 1 (Nat.min mps (4096 - a % 4096))
    (a, bs.take k) :: writePieces mps n (a + k) (bs.drop k)

/-- The writes that wait, sent as far as their pages are translated; those of one function stay in order (R270). -/
def Dev.drainPosts (e : Env) : List Post → List FuncId → List Post → Dev → Dev
  | [], _, kept, d => { d with host := { d.host with posts := kept } }
  | p :: r, blocked, kept, d =>
    if blocked.contains p.func then Dev.drainPosts e r blocked (kept ++ [p]) d
    else match p.vec with
      | some v => Dev.drainPosts e r blocked kept (d.send (.msix p.func.val v))
      | none =>
        if !d.ats p.func then Dev.drainPosts e r blocked kept (d.send (.hostWrite p.func.val p.addr p.bytes p.ep))
        else match (d.atcEntry p.func (p.addr / 4096)).filter (·.w) with
          | some t => Dev.drainPosts e r blocked kept (d.send (.hostWriteAt p.func.val (4096 * t.dst + p.addr % 4096) p.bytes p.ep))
          | none => Dev.drainPosts e r (p.func :: blocked) (kept ++ [p]) (d.wantPage e p.func (p.addr / 4096) true)

/-- The writes of a function go at once: it uses no translations, and none of it waits. -/
def Dev.direct (d : Dev) (f : FuncId) : Bool := !d.ats f && !d.host.posts.any (fun p => p.func == f)

/-- A write of bytes for a context under its function's ID (R241). -/
def Dev.hostPut (d : Dev) (e : Env) (c : CtxId) (addr : Nat) (bytes : List Byte) (ep : Bool) : Dev :=
  let f := (d.ctx c).func
  let ps := writePieces (d.cfg 0).mps bytes.length addr bytes
  if d.direct f then ps.foldl (fun d p => d.send (.hostWrite f.val p.1 p.2 ep)) d
  else Dev.drainPosts e (d.host.posts ++ ps.map (fun p => { ctx := some c, func := f, addr := p.1, bytes := p.2, ep := ep, vec := none })) [] [] d

/-- A context's writes that have not gone out. -/
def Dev.postsOf (d : Dev) (c : CtxId) : Bool := d.host.posts.any (fun p => p.ctx == some c)

-- MSI-X --------------------------------------------------------------------------------------------------------------

/-- Key of a vector: PF 2,048 vectors, each VF 16. -/
def vecKey (f : FuncId) (vec : Nat) : Nat := 4096 * f.val + vec

/-- A message on a vector; a masked vector sets its pending bit. -/
def Dev.msix (d : Dev) (f : FuncId) (vec : Nat) : Dev :=
  if !d.canIssue f then d else
  let v := tget d.host.msix MsixEntry.init (vecKey f vec)
  if v.masked then { d with host := { d.host with msix := tset d.host.msix MsixEntry.init (vecKey f vec) { v with pending := true } } }
  else if d.host.posts.any (fun p => p.func == f) then
    { d with host := { d.host with posts := d.host.posts ++ [{ ctx := none, func := f, addr := 0, bytes := [], ep := false, vec := some vec }] } }
  else d.send (.msix f.val vec)

/-- R258: do the conditions of moderation hold? -/
def Ctx.irqDue (v : Ctx) (now : Nat) : Bool :=
  bit v.irq 31 && v.armed && v.phase != .resetPending &&
  (Nat.max 1 (fld v.irq 23 16) ≤ v.pend || (1 ≤ v.pend && v.pendSince + fld v.irqTime 15 0 ≤ now) || v.evPend)

/-- R258: the message is sent when its conditions hold. -/
def Dev.irqEval (d : Dev) (e : Env) (c : CtxId) : Dev :=
  let v := d.ctx c
  if v.irqDue (hostNow e) then
    (d.setCtx c { v with armed := false, pend := 0, evPend := false }).msix v.func (fld v.irq 10 0)
  else d

/-- One more item pending for moderation. -/
def Ctx.addPending (v : Ctx) (now : Nat) : Ctx :=
  { v with pend := v.pend + 1, pendSince := if v.pend = 0 then now else v.pendSince }

-- Events -------------------------------------------------------------------------------------------------------------

/-- Event bytes (Table Host-10). -/
def eventBytes (etype cause arg time : Nat) (phase : Bool) : List Byte :=
  leBytes 4 (etype + 256 * (cause % 256)) ++ leBytes 4 arg ++ leBytes 8 time ++ leBytes 12 0 ++ leBytes 4 (b2n phase * 2 ^ 31)

/-- An event record written at EQ_TAIL. -/
def Dev.putEvent (d : Dev) (e : Env) (c : CtxId) (etype cause arg : Nat) : Dev :=
  let v := d.ctx c
  let d := d.hostPut e c (v.eqBase + 32 * v.eqTail) (eventBytes etype cause arg (nowNs e.time) v.eqPhase) false
  let tail := (v.eqTail + 1) % v.eqSize
  (d.setCtx c { (v.addPending (hostNow e)) with
    eqTail := tail, eqPhase := if tail = 0 then !v.eqPhase else v.eqPhase, evPend := true }).irqEval e c

/-- R257: an ordinary event: written while two slots are free, otherwise dropped and counted. -/
def Dev.event (d : Dev) (e : Env) (c : CtxId) (etype cause arg : Nat) : Dev :=
  let v := d.ctx c
  if !d.canIssue v.func || v.phase = .resetPending then d
  else if 2 ≤ v.eqFree && !v.eqLost then d.putEvent e c etype cause arg
  else d.setCtx c { v with evGone := v.evGone + 1, evLost := satAdd 16 v.evLost 1, eqLost := true }

/-- R248: a ring fault. -/
def Dev.ringFault (d : Dev) (e : Env) (c : CtxId) (cause : Nat) : Dev :=
  let v := d.ctx c
  if v.phase = .active || v.phase = .draining || v.phase = .disabled then
    (d.setCtx c { v with phase := .faulted, cause := cause }).event e c 0x01 cause v.nextDsn
  else d

-- Fetch --------------------------------------------------------------------------------------------------------------

/-- Requests of a context in QUEUED (R218). -/
def Dev.queuedOf (d : Dev) (c : CtxId) : Nat := (d.svc.queue.filter (fun r => r.ctx = c)).length

/-- R261: entries from NEXT_DSN that a holding fence lets pass. -/
def Dev.fenceRoom (d : Dev) (v : Ctx) : Nat :=
  v.fences.toList.foldl (fun n s =>
    match s with
    | none => n
    | some f =>
      if dsnReached (d.ctx f.waitCtx).doneDsn f.waitDsn then n
      else
        let k := (f.atDsn + 65536 - v.nextDsn) % 65536
        if k < 32768 then Nat.min n k else n) 65536

/-- R221, R239, R252: how many entries the next fetch reads; 0 where none may start. -/
def Dev.fetchCount (d : Dev) (c : CtxId) : Nat :=
  let v := d.ctx c
  if v.phase != .active || v.fetching != 0 || !d.fab.mapValid then 0 else
  let n := Nat.min (Nat.min 16 (d.readLen (v.sqBase + 64 * v.sqHead) / 64)) (Nat.min (v.sqSize - v.sqHead) (ringDist v.sqSize v.sqHead v.sqTail))
  let unchecked := (d.host.ctxs.map (fun p => p.2.fetched.length + p.2.fetching)).sum
  Nat.min n (Nat.min (d.fenceRoom v) (Nat.min (64 - d.queuedOf c - v.fetched.length) (16384 - d.svc.queue.length - unchecked)))

/-- R252: a fetch started for a context where one may; the flag says that it was. -/
def Dev.startFetch (d : Dev) (e : Env) (c : CtxId) : Dev × Bool :=
  let n := d.fetchCount c
  if n = 0 then (d, false) else
  let v := d.ctx c
  let r := d.startRead e v.func (.fetch c n) (v.sqBase + 64 * v.sqHead) (64 * n)
  if r.2 then (r.1.modCtx c (fun v => { v with fetching := n }), true) else r

def Dev.pumpFetch (d : Dev) (e : Env) (c : CtxId) : Dev := (d.startFetch e c).1

-- Records ------------------------------------------------------------------------------------------------------------

/-- Record bytes (Tables Service-11 and Host-9). -/
def CplRec.bytes (r : CplRec) (time sqHead : Nat) (phase : Bool) : List Byte :=
  leBytes 4 (r.rtype + 2 ^ 8 * r.endCode + 2 ^ 16 * r.opcode) ++ leBytes 4 r.seqId ++ leBytes 8 r.tag ++ leBytes 4 r.count ++
  leBytes 4 (r.tokens % 2 ^ 21 + 2 ^ 24 * r.detail) ++ leBytes 4 time ++
  leBytes 4 (sqHead % 2 ^ 16 + 2 ^ 16 * r.cls + b2n phase * 2 ^ 31)

/-- R250: the last record of a DRAINING context has been written. -/
def Dev.drainCheck (d : Dev) (e : Env) (c : CtxId) : Dev :=
  let v := d.ctx c
  if v.phase = .draining && v.open_.isEmpty && v.fetching = 0 then
    (d.event e c 0x02 0 v.doneDsn).modCtx c (fun v => { v with phase := .disabled })
  else d

/-- R261: fetches that a fence has held go on where another context's records have satisfied it. -/
def Dev.pumpFences (d : Dev) (e : Env) : Dev :=
  (d.liveCtxs.filter (fun c => (d.ctx c).fences.toList.any Option.isSome)).foldl (fun d c => d.pumpFetch e c) d

/-- R255: the record at the head of the held ones written at CQ_TAIL. -/
def Dev.putRecord (d : Dev) (e : Env) (c : CtxId) (h : HeldRec) : Dev :=
  let v := d.ctx c
  let d := d.hostPut e c (v.cqBase + 32 * v.cqTail) (h.rcd.bytes (nowNs e.time) v.sqHead v.cqPhase) false
  let tail := (v.cqTail + 1) % v.cqSize
  let last := h.rcd.rtype != 1
  let d := d.setCtx c { (v.addPending (hostNow e)) with
    cqTail := tail, cqPhase := if tail = 0 then !v.cqPhase else v.cqPhase, cqStall := false, held := v.held.drop 1
    open_ := if last then v.open_.erase h.rcd.dsn else v.open_ }
  ((d.irqEval e c).drainCheck e c).pumpFences e

/-- The held records find no free slot (R256). -/
def Ctx.noSlot (v : Ctx) (now : Nat) : Ctx := { v with held := v.held.map (fun h => { h with full := some (h.full.getD now) }) }

/-- R256, R259: held records written as far as their flush reads and the free slots allow; a flush read follows the writes that it is to
push. -/
def Dev.pumpRecords (d : Dev) (e : Env) (c : CtxId) : Nat → Dev
  | 0 => d
  | n + 1 =>
    let v := d.ctx c
    match v.held with
    | [] => d
    | h :: _ =>
      if !d.canIssue v.func || v.phase = .resetPending || v.flushing then d
      else
        match (if bit v.cfg 0 && !h.flushed then h.rcd.last else none) with
        | some a =>
          if d.postsOf c then d else
          let r := d.startRead e v.func (.flush c) (a / 4 * 4) 4
          if r.2 then r.1.modCtx c (fun v => { v with flushing := true }) else r.1
        | none => if v.cqFree = 0 then d.setCtx c (v.noSlot (hostNow e)) else (d.putRecord e c h).pumpRecords e c n

/-- A record for a request of a context; none where the context is being reset (R219). A request has at most one held record (R256): a FINAL
takes the place of a held PROGRESS, whose count it carries (R217). -/
def Dev.record (d : Dev) (e : Env) (c : CtxId) (r : CplRec) : Dev :=
  let v := d.ctx c
  if v.phase = .resetPending || v.phase = .disabled then d
  else
    let h : HeldRec := { rcd := r, since := hostNow e, flushed := false, full := none }
    let same := fun (k : HeldRec) => k.rcd.dsn == r.dsn && k.rcd.rtype == 1
    let held := if v.held.any same then v.held.map (fun k => if same k then { k with rcd := r } else k) else v.held ++ [h]
    (d.setCtx c { v with held := held }).pumpRecords e c (v.held.length + 1)

/-- CLASS of the descriptors of an opcode (Table Host-12); a KV_EXPORT to a queue pair says so itself. -/
def descClass (opcode : Nat) : Nat :=
  match opcode with
  | 1 => 1
  | 3 => 1
  | 4 => 3
  | 6 => 1
  | 0x10 => 3
  | _ => 0

/-- The FINAL or DONE record of a descriptor; `cls` is 0 where its opcode gives the CLASS. -/
def Dev.done (d : Dev) (e : Env) (c : CtxId) (dsn opcode tag code : Nat) (seqId : Nat := 0xFFFFFFFF) (count : Nat := 0)
    (tokens : Nat := 0) (detail : Nat := 0) (cls : Nat := 0) (last : Option Nat := none) : Dev :=
  d.record e c { dsn := dsn, rtype := if opcode = 1 then 2 else 3, endCode := code, opcode := opcode, seqId := seqId, tag := tag,
                 count := count, tokens := tokens, detail := detail, cls := if cls = 0 then descClass opcode else cls, last := last }

def modelFin (m : Nat) : ModelSlotId := ⟨m % 16, Nat.mod_lt _ (by decide)⟩

-- Reads that wait ----------------------------------------------------------------------------------------------------

/-- The GENERATE of a context with a DSN that still reads its prompt. -/
def Dev.promptReq (d : Dev) (c : CtxId) (dsn : Nat) : Option GenReq :=
  (d.svc.queue ++ d.svc.seqs.filterMap (fun p => p.2.bind (·.req))).find? (fun r => r.ctx == c && r.dsn == dsn && !r.ready)

/-- The RUN_GRAPH of a context with a DSN that still reads its input. -/
def Dev.graphReq (d : Dev) (c : CtxId) (dsn : Nat) : Option (ModelSlotId × GraphReq) :=
  d.svc.models.findSome? (fun p => (p.2.graphs.find? (fun g => g.ctx == c && g.dsn == dsn && !g.ready)).map (fun g => (modelFin p.1, g)))

def portFin : BargePort → Fin 2
  | .host => 0
  | .tier2 => 1

/-- R149: classes in strict order, but a pending class 2 move after seven others. -/
def Dev.pickMove (d : Dev) (port : BargePort) : Option (Nat × Move) :=
  let ms := d.svc.moves.zipIdx.filter (fun p => p.1.port == port)
  let two := ms.find? (fun p => p.1.cls == 2)
  let first := [0, 1, 2, 3].findSome? (fun c => ms.find? (fun p => p.1.cls == c))
  match two with
  | some p => if 7 ≤ d.svc.since2[portFin port] then some (p.2, p.1) else first.map (fun q => (q.2, q.1))
  | none => first.map (fun q => (q.2, q.1))

/-- A page that a move reads from host memory: the read's use, and the page's address (R237, R269). -/
def Dev.pageRead (d : Dev) (m : Move) : Option (ReadUse × Nat) :=
  match tget d.svc.seqs none m.seq.val with
  | none => none
  | some s =>
    let use := ReadUse.page s.ctx m.seq m.gen m.pos0 m.page
    match m.kind with
    | .swapIn =>
      (s.groups.find? (fun g => g.pos0 = m.pos0)).map (fun g => (use, (d.ctx s.ctx).swapBase + g.spill + 0x4000 * m.page))
    | .import_ =>
      (d.svc.imports.find? (fun i => i.seq = some m.seq)).map (fun i =>
        let k := s.groups.findIdx (fun x => x.pos0 = m.pos0)
        (use, i.addr + fld (leAt i.img (0x40 + 16 * k) 16) 127 64 + 0x4000 * m.page))
    | _ => none

/-- What a use would read next: for which function, from where, and how many bytes at most; none where it wants no read now. -/
def Dev.nextRead (d : Dev) : ReadUse → Option (FuncId × Nat × Nat)
  | .prompt c dsn => (d.promptReq c dsn).map (fun r => ((d.ctx c).func, r.promptAddr + r.got.length, Nat.min 4096 (4 * r.promptLen - r.got.length)))
  | .graphIn c dsn => (d.graphReq c dsn).map (fun p => ((d.ctx c).func, p.2.inAddr + p.2.got.length, Nat.min 4096 (p.2.inLen - p.2.got.length)))
  | .model c m =>
    match (tget d.svc.models ModelSlot.init m.val).op with
    | some o => if o.ctx = c && o.got < o.len then some (0, o.addr + o.got, o.len - o.got) else none
    | none => none
  | .page c q gen pos0 page =>
    match d.pickMove .host with
    | some (_, m) =>
      match d.pageRead m with
      | some (u, a) => if u = .page c q gen pos0 page && m.got < 16384 then some ((d.ctx c).func, a + m.got, 16384 - m.got) else none
      | none => none
    | none => none
  | .fetch c _ => if d.fetchCount c = 0 then none else some ((d.ctx c).func, (d.ctx c).sqBase + 64 * (d.ctx c).sqHead, 64 * d.fetchCount c)
  | .flush c =>
    match (d.ctx c).held with
    | h :: _ => if (d.ctx c).flushing || !bit (d.ctx c).cfg 0 || h.flushed then none else h.rcd.last.map (fun a => ((d.ctx c).func, a / 4 * 4, 4))
    | [] => none
  | .translate _ _ => none

/-- Class of R242 of a read: 1 records, 2 fetches, 3 request data, 4 Barge moves. -/
def ReadUse.cls : ReadUse → Nat
  | .flush _ => 1
  | .fetch _ _ => 2
  | .page _ _ _ _ _ => 4
  | _ => 3

/-- A read that waits is started where it may be; the flag says that it was. -/
def Dev.startUse (d : Dev) (e : Env) (u : ReadUse) : Dev × Bool :=
  match u with
  | .flush c =>
    let d' := d.pumpRecords e c ((d.ctx c).held.length + 1)
    (d', (d'.ctx c).flushing && !(d.ctx c).flushing)
  | .fetch c _ => d.startFetch e c
  | _ =>
    if d.reading u then (d, false) else
    match d.nextRead u with
    | some (f, a, n) => d.startRead e f u a n
    | none => (d, false)

/-- The reads of a use that are outstanding end with the command that brings their data; where none is, one goes out now. The flag is clear
while it must wait. -/
def Dev.finishRead (d : Dev) (e : Env) (u : ReadUse) (f : FuncId) (addr len : Nat) : Dev × Bool :=
  if d.reading u then
    ({ d with host := { d.host with tags := d.host.tags.filter (fun p => match p.2 with
        | some t => !(t.use == u && t.quar.isNone)
        | none => true) } }, true)
  else d.readNow e f addr (Nat.min len (d.readLen addr))

/-- R242: after an issue of class k, each lower class that still has reads waiting counts one more, and k counts anew. -/
def shareAfter (k : Nat) (us : List ReadUse) (s : Nat × Nat × Nat) : Nat × Nat × Nat :=
  let next := fun (c n : Nat) => if c = k then 0 else if k < c && us.any (fun u => u.cls == c) then n + 1 else n
  (next 2 s.1, next 3 s.2.1, next 4 s.2.2)

/-- R242: which of the reads that wait is issued next: one of a class that has been passed over seven times, else the highest class's. -/
def pickRead (us : List ReadUse) (s : Nat × Nat × Nat) : Option ReadUse :=
  let first := fun (c : Nat) => us.find? (fun u => u.cls == c)
  let due := fun (c n : Nat) => if 7 ≤ n then first c else none
  ((due 4 s.2.2).orElse (fun _ => due 3 s.2.1)).orElse (fun _ => (due 2 s.1).orElse (fun _ => [1, 2, 3, 4].findSome? first))

/-- The reads that wait, issued in the order of R242 as far as tags and limits allow. -/
def Dev.startUses (e : Env) : Nat → List ReadUse → Dev → Dev
  | 0, _, d => d
  | n + 1, us, d =>
    match pickRead us d.host.share with
    | none => d
    | some u =>
      let us := us.erase u
      let r := d.startUse e u
      let d := if r.2 then { r.1 with host := { r.1.host with share := shareAfter u.cls us r.1.host.share } } else r.1
      Dev.startUses e n us d

/-- Every use that may want a read. -/
def Dev.waitingUses (d : Dev) : List ReadUse :=
  d.liveCtxs.flatMap (fun c => (if (d.ctx c).held.isEmpty then [] else [.flush c]) ++ (if d.fetchCount c = 0 then [] else [.fetch c 0])) ++
  (d.svc.queue ++ d.svc.seqs.filterMap (fun p => p.2.bind (·.req))).filterMap (fun r => if r.ready then none else some (.prompt r.ctx r.dsn)) ++
  d.svc.models.flatMap (fun p =>
    p.2.graphs.filterMap (fun g => if g.ready then none else some (ReadUse.graphIn g.ctx g.dsn)) ++
    (match p.2.op with | some o => if p.2.phase == .reading then [ReadUse.model o.ctx (modelFin p.1)] else [] | none => [])) ++
  (match d.pickMove .host with | some (_, m) => (match d.pageRead m with | some (u, _) => [u] | none => []) | none => [])

/-- Every read that waits for a tag, a fence or room is started where it may. -/
def Dev.pump (d : Dev) (e : Env) : Dev :=
  let us := d.waitingUses
  Dev.startUses e us.length us d

end Sys2Proof.Machine
end

