-- ==== Sys2Proof/Machine/KvOps.lean ====
section
/-! DEFINITION. The KV page store: groups, page tables and local group lists in the service rows, reclaim, and the Barge's page
moves (R116–R119, R136–R150, R236). -/

namespace Sys2Proof.Machine

-- Access -------------------------------------------------------------------------------------------------------------

def Dev.seq (d : Dev) (q : SeqSlot) : Option Seq := tget d.svc.seqs none q.val
def Dev.setSeq (d : Dev) (q : SeqSlot) (s : Option Seq) : Dev := { d with svc := { d.svc with seqs := tset d.svc.seqs none q.val s } }
def Dev.model (d : Dev) (m : ModelSlotId) : ModelSlot := tget d.svc.models ModelSlot.init m.val
def Dev.setModel (d : Dev) (m : ModelSlotId) (v : ModelSlot) : Dev := { d with svc := { d.svc with models := tput d.svc.models m.val v } }
def Dev.kvt (d : Dev) (t : TileId) : Option KvTile := tget d.svc.kv none t.val
def Dev.setKvt (d : Dev) (t : TileId) (v : Option KvTile) : Dev := { d with svc := { d.svc with kv := tset d.svc.kv none t.val v } }
def Dev.onFab (d : Dev) (g : Fabric → Fabric) : Dev := { d with fab := g d.fab }

/-- Ticks of the token service engine. -/
def svcNow (e : Env) : Nat := blockTicks e.time .tokenService

def slotFin (q : Nat) : SeqSlot := ⟨q % 65536, Nat.mod_lt _ (by decide)⟩
def tileOfNat (t : Nat) : TileId := ⟨t % 512, Nat.mod_lt _ (by decide)⟩

/-- Every sequence slot that is not EMPTY, in ascending order. -/
def Dev.liveSeqs (d : Dev) : List (SeqSlot × Seq) := d.svc.seqs.filterMap (fun p => p.2.map (fun s => (slotFin p.1, s)))

/-- SEQ_ID (R212). -/
def seqId (q : SeqSlot) (gen : Nat) : Nat := q.val + 2 ^ 16 * (gen % 2 ^ 16)

/-- The sequence that a SEQ_ID names. -/
def Dev.seqById (d : Dev) (id : Nat) : Option (SeqSlot × Seq) :=
  let q := slotFin (id % 2 ^ 16)
  match d.seq q with
  | some s => if s.gen = id / 2 ^ 16 % 2 ^ 16 then some (q, s) else none
  | none => none

-- Layout of an image (R117, R118) ------------------------------------------------------------------------------------

def Image.dim (i : Image) : Nat := 64 * 2 ^ i.dcode
def Image.elemBytes (i : Image) : Nat := if i.kv8 then 1 else 2
/-- T_p: tokens of a page. -/
def Image.tp (i : Image) : Nat := 16320 / (i.dim * i.elemBytes)
/-- Pages of a group. -/
def Image.pages (i : Image) : Nat := 2 * i.layers * i.heads

/-- The image of the model slot of a sequence, or a blank one. -/
def Dev.imgOf (d : Dev) (m : Nat) : Image :=
  ((d.model (modelFin m)).img).getD
    { level := 2, id := 0, vtiles := 0, span := false, vocab := 0, layers := 1, heads := 1, dcode := 0, kv8 := false,
      eos := [], len := 0, prefill := 255, decode := 255, nentry := 0, layout := 0, sections := [] }

/-- The device address of a slot offset (R24). -/
def devAddr (t : TileId) (off : Nat) : Nat := 2 ^ 29 * t.val + off

-- Columns ------------------------------------------------------------------------------------------------------------

/-- R17: the site whose DRAM an access to a tile's slot reaches; none where the tile is absent or the map names a site declared bad. -/
def Fabric.accessSite (f : Fabric) (t : TileId) : Option SiteIx :=
  (f.siteOf t).filter (fun x => !(f.cluster (tileCluster t)).bad.getLsbD (siteNo x))

/-- R17: a write to an absent tile is discarded and reported. -/
def Fabric.absentWrite (f : Fabric) (e : Env) (t : TileId) : Fabric := f.report e 0x0806 (.tile t) 0 0

/-- Bytes written to a tile's slot from a 64-byte aligned offset, as whole sectors. -/
def Fabric.slotWrite (f : Fabric) (e : Env) (t : TileId) (off : Nat) (bytes : List Byte) : Fabric :=
  match f.accessSite t with
  | none => f.absentWrite e t
  | some x =>
    f.writeSectors e x ((List.range (cdiv bytes.length 64)).map (fun i =>
      { key := off / 64 + i, data := bytesSector (padTo 64 (bytes.drop (64 * i))), poison := false }))

/-- Sectors of a tile's slot written as a poison record (R150). -/
def Fabric.slotPoison (f : Fabric) (e : Env) (t : TileId) (off n : Nat) (c : PoisonCause) (kind : Nat) : Fabric :=
  match f.accessSite t with
  | none => f.absentWrite e t
  | some x =>
    f.writeSectors e x ((List.range n).map (fun i =>
      { key := off / 64 + i, data := poisonRec c t.val kind (nowNs e.time), poison := true }))

/-- Zeros in `n` sectors from key `k` (R140). -/
def Column.zeroSectors (c : Column) (k n : Nat) : Column := (List.range n).foldl (fun c i => c.putSector (k + i) 0 false) c

/-- The zero fill of a range of a tile's slot. -/
def Fabric.slotZero (f : Fabric) (e : Env) (t : TileId) (off bytes : Nat) : Fabric :=
  match f.accessSite t with
  | none => f.absentWrite e t
  | some x =>
    let rows := (List.range (cdiv bytes 1024)).map (fun i => off / 1024 + i)
    let f := f.before e x rows
    let c := (f.col x).zeroSectors (off / 64) (bytes / 64)
    (f.setCol x { c with xfers := c.xfers + rows.length }).setSite x (clearRowTags (f.site x) rows)

/-- A tile's slot read by the Barge or the token service engine, class EXT: `n` sectors from a 64-byte aligned offset, with
the places of the poisoned ones. An absent tile gives poison with the cause TILE_ABSENT (R17, R167). -/
def Fabric.slotRead (f : Fabric) (e : Env) (t : TileId) (off n : Nat) : Fabric × List Byte × List Nat :=
  match f.accessSite t with
  | none => (f, (List.range n).flatMap (fun _ => sectorBytes (poisonRec .tileAbsent t.val 2 (nowNs e.time))), List.range n)
  | some x =>
    let k := off / 64
    let r0 := k / 16
    let rows := (List.range ((k + n + 15) / 16 - r0)).map (fun i => r0 + i)
    let (f, rs) := f.readRows e x 1 rows
    let secs := ((rs.flatMap id).drop (k % 16)).take n
    (f, secs.flatMap (fun s => sectorBytes s.data), (secs.zipIdx.filter (fun p => p.1.poison || p.1.outcome == 5)).map (·.2))

-- Free groups --------------------------------------------------------------------------------------------------------

/-- FREE_GROUPS and TOTAL_GROUPS. -/
def Dev.freeGroups (d : Dev) : Nat := (d.svc.kv.map (fun p => match p.2 with | some k => k.free.length | none => 0)).sum
def Dev.totalGroups (d : Dev) : Nat := (d.svc.kv.map (fun p => match p.2 with | some k => k.total | none => 0)).sum

/-- BSN_KV_CFG (R142–R145, R148). -/
def kvMode (e : Env) : Bool := bit (e.reg 0x4000) 0
def kvLow (e : Env) : Nat := fld (e.reg 0x4000) 15 8
def kvHigh (e : Env) : Nat := Nat.max (kvLow e + 1) (fld (e.reg 0x4000) 23 16)
def kvMinRes (e : Env) : Nat := Nat.max 1 (fld (e.reg 0x4000) 27 24)
def kvLead (e : Env) : Nat := Nat.max 1 (fld (e.reg 0x4000) 7 4)
/-- WAIT_MS in ticks. -/
def kvWait (e : Env) : Nat := 1000 * clampN 10 10000 (fld (e.reg 0x400C) 15 0)

/-- Capacity of the decoded tier-2 memory in bytes (R296). -/
def T2St.capBytes (t : T2St) : Nat := (t.dec.toList.map (fun v => if bit v 31 then fld v 28 14 else 0)).sum * 2 ^ 28

/-- The tier-2 decoders hold capacity (R142). -/
def Dev.t2Room (d : Dev) : Bool := d.lnk.t2.up && d.lnk.t2.capBytes != 0

/-- MODE_EFF (R142). -/
def Dev.modeEff (d : Dev) (e : Env) : Bool := kvMode e && d.t2Room

/-- R142: the mode of a reclaim: the one in which it began, while it goes on. -/
def Dev.reclaimT2 (d : Dev) (e : Env) : Bool := (if d.svc.reclaiming then d.svc.spillMode else kvMode e) && d.t2Room

/-- R143: below the low mark; at or above the high mark with `n` groups to spare. -/
def Dev.belowLow (d : Dev) (e : Env) : Bool := 256 * d.freeGroups < kvLow e * d.totalGroups
def Dev.atHigh (d : Dev) (e : Env) (n : Nat := 0) : Bool := kvHigh e * d.totalGroups + 256 * n ≤ 256 * d.freeGroups

/-- Tiles with a KV region of a model slot. -/
def Dev.kvTiles (d : Dev) (m : Nat) : List (TileId × KvTile) :=
  d.svc.kv.filterMap (fun p => match p.2 with
    | some k => if k.model = m then some (tileOfNat p.1, k) else none
    | none => none)

/-- A number put into a rising list. -/
def natInsert (n : Nat) : List Nat → List Nat
  | [] => [n]
  | a :: r => if n < a then n :: a :: r else a :: natInsert n r

/-- Groups whose pages are in the stack (R138, Table Attention-12). -/
def inStack (g : Group) : Bool := g.gst == 0 || g.gst == 1 || g.gst == 4

/-- R139: the tile that gives the next group: fewest groups of the sequence, then most free groups, then the lowest ID. -/
def Dev.pickTile (d : Dev) (m : Nat) (s : Seq) : Option (TileId × KvTile) :=
  let own := fun (t : TileId) => (s.groups.filter (fun g => g.tile == t && (inStack g || g.gst == 3 || g.gst == 6))).length
  let better := fun (a b : TileId × KvTile) =>
    own a.1 < own b.1 || (own a.1 == own b.1 && b.2.free.length < a.2.free.length)
  ((d.kvTiles m).filter (fun p => !p.2.free.isEmpty && (d.fab.siteOf p.1).isSome && !d.fab.fenced[tileHalf p.1])).foldl
    (fun best p =>
      match best with
      | none => some p
      | some b => if better p b then some p else some b) none

-- Service rows -------------------------------------------------------------------------------------------------------

/-- The lowest run of `n` free service rows of a tile. -/
def KvTile.freeRun (k : KvTile) (n : Nat) : Option Nat :=
  (List.range k.srvRows).find? (fun i => (List.range n).all (fun j => decide (i + j < k.srvRows) && !k.srvUsed.contains (i + j)))

/-- Rows taken from a tile: the row index in the column of the first. -/
def Dev.takeRows (d : Dev) (t : TileId) (n : Nat) : Option (Dev × Nat) :=
  match d.kvt t with
  | none => none
  | some k =>
    match k.freeRun n with
    | none => none
    | some i => some (d.setKvt t (some { k with srvUsed := k.srvUsed ++ (List.range n).map (i + ·) }), k.srvRow + i)

/-- Rows given back. -/
def Dev.giveRows (d : Dev) (t : TileId) (row n : Nat) : Dev :=
  match d.kvt t with
  | none => d
  | some k => d.setKvt t (some { k with srvUsed := k.srvUsed.filter (fun r => !(decide (row ≤ k.srvRow + r) && decide (k.srvRow + r < row + n))) })

/-- Rows given back now, or when no launch holds the sequence any more. -/
def Dev.dropRows (d : Dev) (q : SeqSlot) (s : Seq) (t : TileId) (row n : Nat) : Dev :=
  if s.inLaunch = 0 then d.giveRows t row n
  else { d with svc := { d.svc with rowsLater := d.svc.rowsLater ++ [(t, row, n, q, s.gen)] } }

/-- A group entry (Table Attention-9). -/
def Group.entry (g : Group) : Nat :=
  (if g.gst == 0 then g.base else 0) + 2 ^ 15 * g.tile.val + 2 ^ 24 * g.gst + 2 ^ 27 * b2n g.poison +
  2 ^ 32 * g.pos0 + 2 ^ 64 * g.spill

/-- A page-table block (R137): 63 entries and NEXT. -/
def blockBytes (gs : List Group) (next : Nat) : List Byte :=
  padTo 1008 ((gs.take 63).flatMap (fun g => leBytes 16 g.entry)) ++ leBytes 8 next ++ leBytes 8 0

/-- A page-list entry (Table Attention-5). -/
def listEntry (base pos0 : Nat) (direct : Bool) : List Byte := leBytes 8 (base % 2 ^ 15 + 2 ^ 15 * b2n direct + 2 ^ 32 * pos0)

/-- The 64-byte descriptor of a sequence slot, which Lockkeeper reads for diagnosis (R136, Table Attention-8). -/
def Dev.skd (d : Dev) (q : SeqSlot) : List Byte :=
  match tget d.svc.seqs none q.val with
  | none => leBytes 4 (tget d.svc.gens 0 q.val % 2 ^ 16 * 2 ^ 16) ++ leBytes 60 0
  | some s =>
    let at_ := fun (b : TileId × Nat) => devAddr b.1 (1024 * b.2)
    let n := fun (k : Nat) => (s.groups.filter (fun g => g.gst == k)).length
    leBytes 4 (s.gen % 2 ^ 16 * 2 ^ 16 + s.ctx.val) ++ leBytes 4 (s.kst * 2 ^ 24 + s.tokens % 2 ^ 21) ++
    leBytes 8 ((s.blocks.head?.map at_).getD 0) ++ leBytes 8 ((s.blocks.getLast?.map at_).getD 0) ++
    leBytes 4 s.groups.length ++ leBytes 4 (n 0) ++ leBytes 4 (n 5) ++ leBytes 4 (n 2) ++ leBytes 24 0

/-- Where the next page-table block goes (R137). -/
def Dev.blockTile (d : Dev) (s : Seq) (first : Group) : Option TileId :=
  let ok := fun (t : TileId) => match d.kvt t with
    | some k => (k.freeRun 1).isSome
    | none => false
  if ok first.tile then some first.tile else
  ((d.kvTiles s.model).filter (fun p => ok p.1)).foldl (fun best p =>
    match best with
    | none => some p
    | some b => if b.2.srvRows - b.2.srvUsed.length < p.2.srvRows - p.2.srvUsed.length then some p else some b) none
  |>.map (·.1)

/-- Page-table blocks for every 63 groups; none where a service row is wanting (R143). -/
def Dev.growBlocks (d : Dev) (s : Seq) : Nat → Option (Dev × Seq)
  | 0 => some (d, s)
  | n + 1 =>
    if cdiv s.groups.length 63 ≤ s.blocks.length then some (d, s) else
    match s.groups[63 * s.blocks.length]? with
    | none => some (d, s)
    | some g =>
      match d.blockTile s g with
      | none => none
      | some t =>
        match d.takeRows t 1 with
        | none => none
        | some (d, r) => d.growBlocks { s with blocks := s.blocks ++ [(t, r)] } n

/-- The local group list of one tile brought up to date (R138); groups on their way into the tile have their places kept. -/
def Dev.syncList (d : Dev) (e : Env) (q : SeqSlot) (s : Seq) (t : TileId) : Option (Dev × Seq) :=
  let gs := s.groups.filter (fun g => g.tile == t && inStack g)
  let need := cdiv (s.groups.filter (fun g => g.tile == t && (inStack g || g.gst == 3 || g.gst == 6))).length 128
  let old := s.lists.find? (fun l => l.tile = t)
  let others := s.lists.filter (fun l => l.tile ≠ t)
  let write := fun (d : Dev) (row : Nat) =>
    d.onFab (fun f => f.slotWrite e t (1024 * row) (padTo (1024 * need) (gs.flatMap (fun g => listEntry g.base g.pos0 false))))
  match old with
  | some l =>
    if need = 0 then some (d.dropRows q s t l.row l.rows, { s with lists := others })
    else if need ≤ l.rows then some (write d l.row, { s with lists := others ++ [{ l with count := gs.length }] })
    else
      match d.takeRows t need with
      | none => none
      | some (d, r) =>
        some (write (d.dropRows q s t l.row l.rows) r, { s with lists := others ++ [{ tile := t, row := r, rows := need, count := gs.length }] })
  | none =>
    if need = 0 then some (d, s) else
    match d.takeRows t need with
    | none => none
    | some (d, r) => some (write d r, { s with lists := others ++ [{ tile := t, row := r, rows := need, count := gs.length }] })

/-- Page table and local lists of a sequence made to agree with its groups; none where a service row is wanting. -/
def Dev.syncSeq (d : Dev) (e : Env) (q : SeqSlot) (s : Seq) : Option Dev :=
  match d.growBlocks s (s.groups.length + 1) with
  | none => none
  | some (d, s) =>
    let tiles := ((s.groups.map (·.tile)) ++ (s.lists.map (·.tile))).eraseDups
    let r := tiles.foldl (fun (r : Option (Dev × Seq)) t => r.bind (fun p => p.1.syncList e q p.2 t)) (some (d, s))
    match r with
    | none => none
    | some (d, s) =>
      let d := s.blocks.zipIdx.foldl (fun (d : Dev) p =>
        let next := match s.blocks[p.2 + 1]? with
          | some b => devAddr b.1 (1024 * b.2)
          | none => 0
        d.onFab (fun f => f.slotWrite e p.1.1 (1024 * p.1.2) (blockBytes (s.groups.drop (63 * p.2)) next))) d
      some (d.setSeq q (some s))

/-- The same where nothing can be wanting: a failure leaves the tables as they were. -/
def Dev.resync (d : Dev) (e : Env) (q : SeqSlot) (s : Seq) : Dev := (d.syncSeq e q s).getD (d.setSeq q (some s))

-- Allocation ---------------------------------------------------------------------------------------------------------

/-- A page header (Table Attention-1) of an empty page. -/
def emptyHeader (pos0 : Nat) (q : SeqSlot) (gen : Nat) : List Byte :=
  padTo 64 (leBytes 4 0 ++ leBytes 4 (pos0 % 2 ^ 20) ++ leBytes 4 0 ++ leBytes 4 (q.val + 2 ^ 16 * (gen % 2 ^ 16)))

/-- The slot offset of a page of a group. -/
def pageOff (base page : Nat) : Nat := 0x4000 * (base + page)

/-- A free group taken for a sequence under R139, its page headers written: tile and BASE. -/
def Dev.takeGroup (d : Dev) (e : Env) (q : SeqSlot) (s : Seq) (pos0 : Nat) : Option (Dev × TileId × Nat) :=
  match d.pickTile s.model s with
  | none => none
  | some (t, k) =>
    match k.free with
    | [] => none
    | b :: rest =>
      let d := d.setKvt t (some { k with free := rest })
      let n := (d.imgOf s.model).pages
      some (d.onFab (fun f => (List.range n).foldl (fun f p => f.slotWrite e t (pageOff b p) (emptyHeader pos0 q s.gen)) f), t, b)

/-- R139: the next group of a sequence. -/
def Dev.allocGroup (d : Dev) (e : Env) (q : SeqSlot) : Option Dev :=
  match d.seq q with
  | none => none
  | some s =>
    let pos0 := s.groups.length * (d.imgOf s.model).tp
    match d.takeGroup e q s pos0 with
    | none => none
    | some (d, t, b) =>
      d.syncSeq e q { s with groups := s.groups ++ [{ pos0 := pos0, tile := t, base := b, gst := 0, poison := false, spill := 0,
                                                      left := 0, bad := [] }] }

/-- R140: a group goes back, to be zero-filled once no launch names it. -/
def Dev.freeGroup (d : Dev) (t : TileId) (base : Nat) : Dev :=
  match d.kvt t with
  | none => d
  | some k => d.setKvt t (some { k with freed := k.freed ++ [base] })

/-- Is the group named by a launch in flight? -/
def Dev.named (d : Dev) (t : TileId) (base : Nat) : Bool := d.svc.launches.any (fun l => l.names.contains (t, base))

/-- GROUP_FREE (R140): the zero fill of a freed group starts. -/
def Dev.groupFree (d : Dev) (t : TileId) (base : Nat) : Dev :=
  match d.kvt t with
  | none => d
  | some k =>
    if k.freed.contains base && !d.named t base && !d.fab.fenced[tileHalf t] && (d.fab.siteOf t).isSome then
      d.setKvt t (some { k with freed := k.freed.erase base, filling := k.filling ++ [base] })
    else d

-- Ends ---------------------------------------------------------------------------------------------------------------

/-- Bytes of a group. -/
def Dev.groupBytes (d : Dev) (m : Nat) : Nat := 0x4000 * (d.imgOf m).pages

/-- Swap space of a sequence's groups released (R147). -/
def Dev.dropSwap (d : Dev) (c : CtxId) (g : Group) : Dev :=
  { d with svc := { d.svc with swap := d.svc.swap.filter (fun p => !(p.1 == c && p.2.1 == g.spill / 0x4000)) } }

/-- Tier-2 memory of a group released. -/
def Dev.dropT2 (d : Dev) (g : Group) : Dev := { d with svc := { d.svc with t2Used := d.svc.t2Used.filter (fun p => p.1 != g.spill) } }

/-- What a group holds given back, by its state (Table Attention-12). -/
def Dev.dropGroup (d : Dev) (c : CtxId) (g : Group) : Dev :=
  match g.gst with
  | 0 => d.freeGroup g.tile g.base
  | 1 => (d.freeGroup g.tile g.base).dropSwap c g
  | 2 => d.dropSwap c g
  | 3 => (d.freeGroup g.tile g.base).dropSwap c g
  | 4 => (d.freeGroup g.tile g.base).dropT2 g
  | 5 => d.dropT2 g
  | _ => (d.freeGroup g.tile g.base).dropT2 g

/-- A slot becomes EMPTY: groups, swap space, tier-2 memory and service rows go back, its moves are abandoned. -/
def Dev.freeSeq (d : Dev) (q : SeqSlot) : Dev :=
  match d.seq q with
  | none => d
  | some s =>
    let d := s.groups.foldl (fun d g => d.dropGroup s.ctx g) d
    let d := s.lists.foldl (fun d l => d.dropRows q s l.tile l.row l.rows) d
    let d := s.blocks.foldl (fun d b => d.dropRows q s b.1 b.2 1) d
    let d := d.setSeq q none
    { d with svc := { d.svc with
        gens := tset d.svc.gens 0 q.val ((s.gen + 1) % 2 ^ 16)
        moves := d.svc.moves.filter (fun m => !(m.seq == q && m.gen == s.gen && (match m.kind with | .landing _ _ _ => false | _ => true)))
        t2Acks := d.svc.t2Acks.filter (fun a => a.1 != q)
        owners := d.svc.owners.filter (fun o => !(o.seq == q && o.gen == s.gen)) } }

/-- The address of the last word that the output entries 0 to `count − 1` cover (R213, R259). -/
def lastWord (r : GenReq) (count : Nat) : Option Nat :=
  if count = 0 then none else
  let entry := if r.logprob then 80 else 4
  some (r.outAddr + count * entry - 4)

/-- The FINAL record of a GENERATE. -/
def Dev.finalRec (d : Dev) (e : Env) (q : SeqSlot) (s : Seq) (r : GenReq) (code detail : Nat) : Dev :=
  d.done e r.ctx r.dsn 1 r.tag code (seqId q s.gen) s.count s.tokens detail 1 (lastWord r s.count)

/-- A KV_EXPORT of a sequence that ends has its DONE with the same END code (R211). -/
def Dev.endExports (d : Dev) (e : Env) (q : SeqSlot) (gen code : Nat) : Dev :=
  let xs := d.svc.exports.filter (fun x => x.seq = q)
  let d := { d with svc := { d.svc with exports := d.svc.exports.filter (fun x => decide (x.seq ≠ q))
                                        moves := d.svc.moves.filter (fun m => !(m.seq == q && m.kind == .export_)) } }
  xs.foldl (fun d x => d.done e x.ctx x.dsn 3 x.tag code (seqId q gen) 0 0 0 (x.dest + 1)) d

/-- The end of a sequence that is not HELD: its records are made, and its slot becomes EMPTY. -/
def Dev.dropSeq (d : Dev) (e : Env) (q : SeqSlot) (code : Nat) (detail : Nat := 0) : Dev :=
  match d.seq q with
  | none => d
  | some s =>
    let d := match s.req with
      | some r => d.finalRec e q s r code detail
      | none => d
    (d.endExports e q s.gen code).freeSeq q

/-- R218: a sequence ends with an END code: HELD where HOLD_KV is set, the code is EOS, MAX_NEW, SEQ_LIMIT or CANCELLED and the sequence
ends from DECODE; EMPTY otherwise, and where it is cancelled while SWAPPED (R146). -/
def Dev.endSeq (d : Dev) (e : Env) (q : SeqSlot) (code : Nat) (detail : Nat := 0) : Dev :=
  match d.seq q with
  | none => d
  | some s =>
    if s.kst = 5 then d else
    match s.req with
    | some r =>
      if r.holdKv && [1, 2, 3, 4].contains code && s.phase == .decode && s.kst != 3 then
        (d.finalRec e q s r code detail).setSeq q (some { s with phase := .held, req := none, ending := none, waitFrom := none, bump := 0 })
      else d.dropSeq e q code detail
    | none => d.dropSeq e q code detail

/-- A record of a request has not been written yet (R256). -/
def Dev.recordHeld (d : Dev) (c : CtxId) (dsn : Nat) : Bool := (d.ctx c).held.any (fun h => h.rcd.dsn == dsn)

/-- A sequence goes to LOST, and to EMPTY once its end is reported (R146, R150). -/
def Dev.loseSeq (d : Dev) (e : Env) (q : SeqSlot) (code : Nat) : Dev :=
  match d.seq q with
  | none => d
  | some s =>
    if s.kst = 5 then d else
    match s.req with
    | none => d.dropSeq e q code
    | some r =>
      let d := (d.finalRec e q s r code 0).endExports e q s.gen code
      if d.recordHeld r.ctx r.dsn then d.setSeq q (some { s with kst := 5, ending := none, waitFrom := none, exporting := false })
      else d.freeSeq q

/-- LOST sequences whose end has been reported become EMPTY (R146). -/
def Dev.freeLost (d : Dev) : Dev :=
  d.liveSeqs.foldl (fun d p =>
    match p.2.req with
    | some r => if p.2.kst = 5 && !d.recordHeld r.ctx r.dsn then d.freeSeq p.1 else d
    | none => d) d

/-- Everything that waits for a tag, a fence or room is started where it may, and LOST sequences whose end is reported go. -/
def Dev.pumpAll (d : Dev) (e : Env) : Dev := (d.pump e).freeLost

-- Reclaim ------------------------------------------------------------------------------------------------------------

/-- PRIO_CAP, MAX_SEQ and WEIGHT of a context (BSN_TS_CTX_DATA). -/
def Dev.ctxData (d : Dev) (c : CtxId) : Nat := tget d.svc.ctxData 0x04000010 c.val
def Dev.prioCap (d : Dev) (c : CtxId) : Nat := fld (d.ctxData c) 9 8
def Dev.maxSeq (d : Dev) (c : CtxId) : Nat := if fld (d.ctxData c) 31 16 = 0 then 65536 else fld (d.ctxData c) 31 16
def Dev.weight (d : Dev) (c : CtxId) : Nat := Nat.max 1 (fld (d.ctxData c) 7 0)

/-- R220: the class in which a request of a context runs. -/
def Dev.classOf (d : Dev) (c : CtxId) (prio : Nat) : Nat := Nat.max prio (d.prioCap c)

/-- The class of a sequence for reclaim: HELD sequences count as class 3. -/
def Dev.seqClass (d : Dev) (s : Seq) : Nat := if s.phase = .held then 3 else d.classOf s.ctx s.prio

/-- STACK groups of a sequence. -/
def Seq.stackGroups (s : Seq) : List Group := s.groups.filter (fun g => g.gst = 0)

/-- Units of 16 KiB in a group's swap allocation (R269). -/
def Dev.swapUnit (d : Dev) (m : Nat) : Nat := (d.imgOf m).pages

/-- The lowest free unit of a context's swap area (R269), in units of 16 KiB. -/
def Dev.freeSwap (d : Dev) (c : CtxId) (unit : Nat) : Option Nat :=
  let used := (d.svc.swap.filter (fun p => p.1 = c)).map (·.2)
  ((List.range ((d.ctx c).swapSize / Nat.max 1 unit)).find? (fun i =>
    used.all (fun u => decide (u.1 + u.2 ≤ i * unit) || decide (i * unit + unit ≤ u.1)))).map (· * unit)

/-- Whole free units of a context's swap area. -/
def Dev.swapRoom (d : Dev) (c : CtxId) (unit : Nat) : Nat :=
  let used := (d.svc.swap.filter (fun p => p.1 = c)).map (·.2)
  ((List.range ((d.ctx c).swapSize / Nat.max 1 unit)).filter (fun i =>
    used.all (fun u => decide (u.1 + u.2 ≤ i * unit) || decide (i * unit + unit ≤ u.1)))).length

/-- RESIDENT sequences with STACK groups of the lowest priority class present. -/
def Dev.reclaimable (d : Dev) : List (SeqSlot × Seq) :=
  let rs := d.liveSeqs.filter (fun p => p.2.kst == 1 && !p.2.exporting)
  let low := rs.foldl (fun c p => Nat.max c (d.seqClass p.2)) 0
  rs.filter (fun p => d.seqClass p.2 = low && !p.2.stackGroups.isEmpty)

/-- R144: the victim of PREEMPT_SWAP: the most recently admitted whose context has room. -/
def Dev.swapVictim (d : Dev) : Option (SeqSlot × Seq) :=
  (d.reclaimable.filter (fun p => p.2.stackGroups.length ≤ d.swapRoom p.2.ctx (d.swapUnit p.2.model))).foldl (fun best p =>
    match best with
    | none => some p
    | some b => if b.2.order < p.2.order then some p else some b) none

/-- R145: the victim of SPILL_T2 with the group to spill: most STACK groups, the lower slot on a tie. -/
def Dev.spillVictim (d : Dev) (e : Env) : Option (SeqSlot × Seq × Group) :=
  let best := d.reclaimable.foldl (fun best p =>
    match best with
    | none => some p
    | some b => if b.2.stackGroups.length < p.2.stackGroups.length then some p else some b) (none : Option (SeqSlot × Seq))
  match best with
  | none => none
  | some (q, s) =>
    let keep := s.groups.length - kvMinRes e
    ((s.groups.take keep).find? (fun g => g.gst = 0)).map (fun g => (q, s, g))

/-- A place in tier-2 memory for a group: the lowest free multiple of its size from the base of the decoded range, which is the base or the
first one after a place in use. -/
def Dev.freeT2 (d : Dev) (size : Nat) : Option Nat :=
  let base := 0x10000000000
  let ok := fun (a : Nat) => d.svc.t2Used.all (fun p => decide (p.1 + p.2 ≤ a) || decide (a + size ≤ p.1)) &&
    decide (a + size ≤ base + d.lnk.t2.capBytes)
  ((base :: d.svc.t2Used.map (fun p => base + cdiv (p.1 + p.2 - base) size * size)).filter ok).min?

/-- The group of a sequence with a POS0 changed. -/
def Seq.modGroup (s : Seq) (pos0 : Nat) (g : Group → Group) : Seq :=
  { s with groups := s.groups.map (fun x => if x.pos0 = pos0 then g x else x) }

/-- The page moves of a group. -/
def Dev.queueMoves (d : Dev) (e : Env) (port : BargePort) (cls : Nat) (kind : MoveKind) (q : SeqSlot) (s : Seq) (pos0 : Nat) : Dev :=
  let n := (d.imgOf s.model).pages
  { d with svc := { d.svc with moves := d.svc.moves ++ (List.range n).map (fun p =>
      { port := port, cls := cls, kind := kind, seq := q, gen := s.gen, pos0 := pos0, page := p, since := blockTicks e.time .barge }) } }

/-- R144: a victim is chosen for the host; its moves start with SWAP_OUT. -/
def Dev.preempt (d : Dev) : Dev :=
  match d.swapVictim with
  | some (q, s) => d.setSeq q (some { s with kst := 2 })
  | none => d

/-- One reclaim step (R144, R145), in the mode of this reclaim. -/
def Dev.reclaimStep (d : Dev) (e : Env) : Dev :=
  if d.reclaimT2 e then
    match d.spillVictim e with
    | none => d
    | some (q, s, g) =>
      match d.freeT2 (d.groupBytes s.model) with
      | some a =>
        let d := { d with svc := { d.svc with t2Used := d.svc.t2Used ++ [(a, d.groupBytes s.model)] } }
        let s := s.modGroup g.pos0 (fun g => { g with gst := 4, spill := a, left := (d.imgOf s.model).pages })
        (d.resync e q s).queueMoves e .tier2 2 .spill q s g.pos0
      | none => { d with svc := { d.svc with t2Fallbacks := satAdd 16 d.svc.t2Fallbacks 1 } }.preempt
  else d.preempt

/-- Is a reclaim step under way: a sequence going out, a group on its way, or a group not yet filled? -/
def Dev.reclaimBusy (d : Dev) : Bool :=
  d.liveSeqs.any (fun p => p.2.kst == 2 || p.2.groups.any (fun g => g.gst == 4)) ||
  d.svc.kv.any (fun p => match p.2 with
    | some k => !k.freed.isEmpty || !k.filling.isEmpty
    | none => false)

/-- R143: reclaim starts below the low mark and goes on, a step at a time, until the high mark. -/
def Dev.reclaim (d : Dev) (e : Env) : Dev :=
  let on := (d.svc.reclaiming || d.belowLow e) && !d.atHigh e
  let d := { d with svc := { d.svc with reclaiming := on, spillMode := if d.svc.reclaiming then d.svc.spillMode else kvMode e } }
  if on && !d.reclaimBusy then d.reclaimStep e else d

/-- R143: no further reclaim is possible. -/
def Dev.noReclaim (d : Dev) (e : Env) : Bool :=
  !d.reclaimBusy && d.swapVictim.isNone && !(d.reclaimT2 e && (d.spillVictim e).any (fun v => (d.freeT2 (d.groupBytes v.2.1.model)).isSome))

/-- ALLOCATION_WAIT_TIMEOUT (R143). -/
def Dev.allocTimeout (d : Dev) (e : Env) (q : SeqSlot) : Dev :=
  match d.seq q with
  | none => d
  | some s =>
    match s.waitFrom with
    | none => d
    | some t0 =>
      if t0 + kvWait e ≤ svcNow e && d.noReclaim e then
        match d.svc.imports.find? (fun i => i.seq = some q) with
        | some i =>
          let d := { d with svc := { d.svc with imports := d.svc.imports.filter (fun j => j.seq ≠ some q) } }
          (d.done e i.ctx i.dsn 4 i.tag 0x05).freeSeq q
        | none => d.endSeq e q 0x05
      else d.reclaim e

-- Swaps --------------------------------------------------------------------------------------------------------------

/-- R147 step 3: the STACK group with the lowest POS0 gets its place in the swap area and its moves are queued, or waits for a place; with
none left the sequence is SWAPPED. -/
def Dev.nextOut (d : Dev) (e : Env) (q : SeqSlot) (s : Seq) : Dev :=
  match s.stackGroups with
  | [] => d.resync e q { s with kst := 3 }
  | g :: _ =>
    match d.freeSwap s.ctx (d.swapUnit s.model) with
    | none => d.setSeq q (some s)
    | some u =>
      let d := { d with svc := { d.svc with swap := d.svc.swap ++ [(s.ctx, u, d.swapUnit s.model)] } }
      let s := s.modGroup g.pos0 (fun g => { g with gst := 1, spill := 0x4000 * u, left := (d.imgOf s.model).pages })
      (d.resync e q s).queueMoves e .host 2 .swapOut q s g.pos0

/-- SWAP_OUT (R147): once no launch holds the victim, its STACK groups go out one after another. -/
def Dev.swapOut (d : Dev) (e : Env) (q : SeqSlot) : Dev :=
  match d.seq q with
  | none => d
  | some s =>
    if s.kst != 2 || s.inLaunch != 0 || s.groups.any (fun g => g.gst == 1) then d
    else if s.stackGroups.length > d.swapRoom s.ctx (d.swapUnit s.model) && s.groups.all (fun g => g.gst != 2) then d.setSeq q (some { s with kst := 1 })
    else d.nextOut e q s

/-- R144: the swapped sequence that returns next: the highest class, in order of admission. -/
def Dev.returning (d : Dev) : Option (SeqSlot × Seq) :=
  (d.liveSeqs.filter (fun p => p.2.kst = 3)).foldl (fun best p =>
    match best with
    | none => some p
    | some b =>
      if d.seqClass p.2 < d.seqClass b.2 || (d.seqClass p.2 == d.seqClass b.2 && p.2.order < b.2.order) then some p else some b) none

/-- SWAP_IN (R144, R147): groups are allocated for the sequence and its reads queued. -/
def Dev.swapIn (d : Dev) (e : Env) : Dev :=
  match d.returning with
  | none => d
  | some (q, s) =>
    let back := s.groups.filter (fun g => g.gst = 2)
    if !d.atHigh e back.length then d else
    let r := back.foldl (fun (r : Option Dev) g =>
      match r with
      | none => none
      | some d =>
        match d.seq q with
        | none => none
        | some s =>
          match d.takeGroup e q s g.pos0 with
          | none => none
          | some (d, t, b) =>
            let s := s.modGroup g.pos0 (fun g => { g with gst := 3, tile := t, base := b, left := (d.imgOf s.model).pages })
            (d.syncSeq e q s).map (fun d => d.queueMoves e .host 1 .swapIn q s g.pos0)) (some (d.setSeq q (some { s with kst := 4 })))
    r.getD d

/-- T2_RETURN (R145): above twice the high mark, a T2 group of the highest class comes back, newest POS0 first. -/
def Dev.t2Return (d : Dev) (e : Env) : Dev :=
  if 256 * d.freeGroups ≤ 2 * (kvHigh e * d.totalGroups) then d else
  let cands := (d.liveSeqs.filter (fun p => p.2.kst = 1)).flatMap (fun p =>
    (p.2.groups.filter (fun g => g.gst == 5)).map (fun g => (p.1, p.2, g)))
  let best := cands.foldl (fun best p =>
    match best with
    | none => some p
    | some b =>
      if d.seqClass p.2.1 < d.seqClass b.2.1 || (d.seqClass p.2.1 == d.seqClass b.2.1 && decide (b.2.2.pos0 < p.2.2.pos0)) then some p
      else some b) (none : Option (SeqSlot × Seq × Group))
  match best with
  | none => d
  | some (q, s, g) =>
    match d.takeGroup e q s g.pos0 with
    | none => d
    | some (d', t, b) =>
      let s := s.modGroup g.pos0 (fun g => { g with gst := 6, tile := t, base := b, left := (d.imgOf s.model).pages })
      match d'.syncSeq e q s with
      | none => d
      | some d => d.queueMoves e .tier2 1 .t2Return q s g.pos0

end Sys2Proof.Machine
end

