-- ==== Sys2Proof/Machine/Barge.lean ====
section
/-! DEFINITION. The Barge: page moves and their failures, landing slices, tier-2 acknowledgements, KV export and import
(R147–R150, R236, R237). -/

namespace Sys2Proof.Machine

/-- CRC-32C of a byte string (R204): reflected, all ones in and out. -/
def crc32c (bs : List Byte) : Nat :=
  let step := fun (c : Nat) => if c % 2 = 1 then Nat.xor (c / 2) 0x82F63B78 else c / 2
  Nat.xor (bs.foldl (fun c b => (List.range 8).foldl (fun c _ => step c) (Nat.xor c b.toNat)) 0xFFFFFFFF) 0xFFFFFFFF

-- Choosing a move ----------------------------------------------------------------------------------------------------

/-- The move leaves its queue. -/
def Dev.takeMove (d : Dev) (i : Nat) (m : Move) : Dev :=
  { d with svc := { d.svc with
      moves := d.svc.moves.eraseIdx i
      since2 := d.svc.since2.set (portFin m.port) (if m.cls = 2 then 0 else d.svc.since2[portFin m.port] + 1) } }

/-- Bytes of a page toward the host, or one write to a 64-byte unit with EP on the poisoned ones (R387). -/
def Dev.putHost (d : Dev) (e : Env) (c : CtxId) (addr : Nat) (bytes : List Byte) (poison : List Nat) : Dev :=
  if poison.isEmpty then d.hostPut e c addr bytes false
  else (List.range (cdiv bytes.length 64)).foldl (fun d i =>
    d.hostPut e c (addr + 64 * i) ((bytes.drop (64 * i)).take 64) (poison.contains i)) d

/-- Owner slot and generation of a page header (Table Attention-1). -/
def pageOwner (bs : List Byte) : Nat × Nat := (leAt bs 12 2, leAt bs 14 2)

/-- R150: an owner mismatch abandons the move; the sequence goes to LOST. -/
def Dev.ownerLost (d : Dev) (e : Env) (q : SeqSlot) (s : Seq) (pos0 : Nat) : Dev :=
  (d.onFab (fun f => f.report e 0x0603 (.sequence (seqId q s.gen)) 0 pos0 (some s.ctx))).loseSeq e q 0x06

/-- A page written as poison by the Barge (R150, POISON_MOVES). -/
def Dev.pageBad (d : Dev) (e : Env) (t : TileId) (off : Nat) : Dev :=
  let d := d.onFab (fun f => f.slotPoison e t off 256 .moveFailed 3)
  { d with svc := { d.svc with poisonMoves := satAdd 16 d.svc.poisonMoves 1 } }

/-- A page of a context's sequence that comes back from outside written into the stack; a failed read or poison makes it poison (R150). -/
def Dev.pageIn (d : Dev) (e : Env) (m : Move) (c : Option CtxId) (t : TileId) (off : Nat) (bad : Bool) (r : MoveResult) : Dev :=
  match r with
  | .readError | .mediaError .. =>
    (d.pageBad e t off).onFab (fun f => f.report e 0x0603 (.sequence (seqId m.seq m.gen)) (if m.port = .host then 1 else 2) m.pos0 c)
  | .done bytes poison =>
    if poison.isEmpty && !bad then d.onFab (fun f => f.slotWrite e t off (padTo 16384 bytes)) else d.pageBad e t off

/-- Does the result of a read make its page poison? -/
def poisonsPage : MoveResult → Bool
  | .readError | .mediaError .. => true
  | .done _ p => !p.isEmpty

/-- Is the page that came back owned by the sequence? A page that could not be read is not checked. -/
def ownerOk (q : SeqSlot) (gen : Nat) (bytes : List Byte) (poison : List Nat) : Bool :=
  poison.contains 0 || pageOwner bytes == (q.val, gen % 2 ^ 16)

-- Groups complete ----------------------------------------------------------------------------------------------------

/-- R147 steps 3 to 5: a group is out, and the next one follows; with the last one the sequence is SWAPPED. -/
def Dev.groupOut (d : Dev) (e : Env) (q : SeqSlot) (s : Seq) (g : Group) : Dev :=
  let s := s.modGroup g.pos0 (fun g => { g with gst := 2 })
  (((d.freeGroup g.tile g.base).resync e q s).nextOut e q (((d.freeGroup g.tile g.base).resync e q s).seq q |>.getD s)).reclaim e

/-- R147 steps 8 and 9: a group is back; with the last one the sequence is RESIDENT. -/
def Dev.groupBack (d : Dev) (e : Env) (q : SeqSlot) (s : Seq) (g : Group) : Dev :=
  let d := if g.gst = 3 then d.dropSwap s.ctx g else d.dropT2 g
  let s := s.modGroup g.pos0 (fun g => { g with gst := 0, spill := 0, bad := [] })
  let s := if s.kst == 4 && s.groups.all (fun g => g.gst == 0 || g.gst == 5) then { s with kst := 1, since := svcNow e, bump := 0 } else s
  d.resync e q s

/-- R147: a spill is complete when every page has moved and tier-2 has acknowledged every write. -/
def Dev.spillDone (d : Dev) (e : Env) (q : SeqSlot) (pos0 : Nat) : Dev :=
  match d.seq q with
  | none => d
  | some s =>
    match s.groups.find? (fun g => g.pos0 == pos0 && g.gst == 4) with
    | none => d
    | some g =>
      if g.left != 0 || d.svc.t2Acks.any (fun a => a.1 == q && a.2.1 == pos0) then d
      else ((d.freeGroup g.tile g.base).resync e q (s.modGroup pos0 (fun g => { g with gst := 5 }))).reclaim e

-- Export -------------------------------------------------------------------------------------------------------------

/-- Offset of the groups in an export image: the first 16 KiB boundary after the entries (R236). -/
def exportBase (groups : Nat) : Nat := alignUp (0x40 + 16 * groups) 0x4000

/-- Groups of an export: ⌈(TOKENS − 1) / T_p⌉. -/
def exportGroups (tokens tp : Nat) : Nat := cdiv (tokens - 1) (Nat.max 1 tp)

/-- The header of an export image without its CRC. -/
def exportHeader (img : Image) (s : Seq) (crc : Nat) : List Byte :=
  leBytes 4 0x56454B47 ++ leBytes 4 1 ++ leBytes 8 img.id ++ leBytes 4 (s.tokens % 2 ^ 21) ++ leBytes 4 s.lastToken ++
  leBytes 4 (exportGroups s.tokens img.tp) ++ leBytes 4 img.layout ++ leBytes 4 crc ++ leBytes 28 0

/-- Header and group entries of an export image (R236). -/
def exportHead (img : Image) (s : Seq) : List Byte :=
  let n := exportGroups s.tokens img.tp
  exportHeader img s (crc32c (exportHeader img s 0)) ++
  (s.groups.take n).zipIdx.flatMap (fun p =>
    leBytes 16 (2 ^ 27 * b2n p.1.poison + 2 ^ 32 * p.1.pos0 + 2 ^ 64 * (exportBase n + p.2 * (0x4000 * img.pages))))

/-- The bytes of an export image. -/
def exportLen (img : Image) (s : Seq) : Nat :=
  let n := exportGroups s.tokens img.tp
  exportBase n + n * (0x4000 * img.pages)

/-- Bytes of an export placed at its destination: host memory, or an RDMA WRITE. -/
def Dev.exportPut (d : Dev) (e : Env) (x : Export) (off : Nat) (bytes : List Byte) (poison : List Nat) : Dev :=
  if x.dest = 0 then d.putHost e x.ctx (x.addr + off) bytes poison
  else { d with svc := { d.svc with rdma := d.svc.rdma ++
          [{ ctx := x.ctx, dsn := x.dsn, qpn := x.qpn, rkey := x.rkey, va := x.addr + off, bytes := bytes }] } }

/-- The record of an export whose data is visible to its observer class (R259), and the release it asked for. -/
def Dev.exportDone (d : Dev) (e : Env) (x : Export) : Dev :=
  let d := { d with svc := { d.svc with exports := d.svc.exports.filter (fun y => !(y.ctx == x.ctx && y.dsn == x.dsn)) } }
  let gen := match d.seq x.seq with | some s => s.gen | none => 0
  let d := d.done e x.ctx x.dsn 3 x.tag 0 (seqId x.seq gen) x.bytes 0 0 (if x.dest = 0 then 1 else 2)
    (if x.dest = 0 then some (x.addr + x.bytes - 4) else none)
  match d.seq x.seq with
  | none => d
  | some s => if x.release then d.freeSeq x.seq else d.setSeq x.seq (some { s with exporting := false })

/-- One page of an export (R237). -/
def Dev.exportPage (d : Dev) (e : Env) (m : Move) (s : Seq) (g : Group) (r : MoveResult) : Dev :=
  match d.svc.exports.find? (fun x => x.seq = m.seq) with
  | none => d
  | some x =>
    let img := d.imgOf s.model
    let off := exportBase (exportGroups s.tokens img.tp) + (g.pos0 / Nat.max 1 img.tp) * (0x4000 * img.pages) + 0x4000 * m.page
    let (d, bytes, poison) :=
      if inStack g then
        let (f, bs, p) := d.fab.slotRead e g.tile (pageOff g.base m.page) 256
        ({ d with fab := f }, bs, p)
      else
        match r with
        | .done bs p => (d, padTo 16384 bs, p)
        | .readError | .mediaError .. => (d, List.replicate 16384 0, List.range 256)
    if !ownerOk m.seq s.gen bytes poison then d.ownerLost e m.seq s m.pos0 else
    let s := if poison.isEmpty then s else s.modGroup g.pos0 (fun g => { g with poison := true })
    let d := (d.resync e m.seq s).exportPut e x off bytes poison
    let x := { x with left := x.left - 1 }
    if x.left = 0 then
      let d := d.exportPut e x 0 (exportHead img s) []
      let x := { x with waiting := x.dest != 0, bytes := exportLen img s }
      if x.dest = 0 then d.exportDone e x
      else { d with svc := { d.svc with exports := d.svc.exports.map (fun y => if y.ctx = x.ctx && y.dsn = x.dsn then x else y) } }
    else { d with svc := { d.svc with exports := d.svc.exports.map (fun y => if y.ctx = x.ctx && y.dsn = x.dsn then x else y) } }

-- Moves --------------------------------------------------------------------------------------------------------------

/-- A page leaves the stack for the host or tier-2. -/
def Dev.pageOut (d : Dev) (e : Env) (m : Move) (s : Seq) (g : Group) : Dev :=
  let (f, bytes, poison) := d.fab.slotRead e g.tile (pageOff g.base m.page) 256
  let d := { d with fab := f }
  if !ownerOk m.seq s.gen bytes poison then d.ownerLost e m.seq s m.pos0
  else
    let g' : Group := { g with left := g.left - 1, poison := g.poison || !poison.isEmpty,
                               bad := if poison.isEmpty then g.bad else g.bad ++ [m.page] }
    let s := s.modGroup g.pos0 (fun _ => g')
    let d := d.resync e m.seq s
    let s := (d.seq m.seq).getD s
    match m.kind with
    | .swapOut =>
      let d := d.putHost e s.ctx ((d.ctx s.ctx).swapBase + g.spill + 0x4000 * m.page) bytes poison
      if g'.left = 0 then d.groupOut e m.seq s g' else d
    | _ =>
      let d := d.send (.t2Write (g.spill + 0x4000 * m.page) bytes poison)
      let d := { d with svc := { d.svc with t2Acks := d.svc.t2Acks ++ [(m.seq, m.pos0, 256)] } }
      d.spillDone e m.seq m.pos0

/-- A page comes back into the group allocated for it. -/
def Dev.pageBack (d : Dev) (e : Env) (m : Move) (s : Seq) (g : Group) (r : MoveResult) : Dev :=
  let mismatch := match r with
    | .done bs p => !ownerOk m.seq s.gen bs p
    | .readError | .mediaError .. => false
  if mismatch then d.ownerLost e m.seq s m.pos0
  else
    let bad := m.kind == .swapIn && g.bad.contains m.page
    let d := d.pageIn e m (some s.ctx) g.tile (pageOff g.base m.page) bad r
    let g' := { g with left := g.left - 1, poison := g.poison || bad || poisonsPage r }
    let s := s.modGroup g.pos0 (fun _ => g')
    if g'.left = 0 then d.groupBack e m.seq s g' else d.setSeq m.seq (some s)

/-- The slot offset of page k of landing slice n of a tile (R119). -/
def Dev.slicePage (d : Dev) (t : TileId) (heads n k : Nat) : Nat :=
  0x4000 * (((d.kvt t).map (·.landBase)).getD 0 + 2 * heads * n + k)

/-- A page of a layer lands in a slice; with the last of the layer LAND_READY gets its unit (R148). A page that is not the sequence's is
not written, and the sequence goes to LOST (R150); the launch goes on for the others. -/
def Dev.landPage (d : Dev) (e : Env) (m : Move) (r : MoveResult) (tag : BitVec 16) (layer slice : Nat) : Dev :=
  match d.svc.launches.find? (fun l => l.tag = tag) with
  | none => d
  | some l =>
    match l.land.find? (fun j => j.groups.contains (m.seq, m.pos0) && j.left.any (fun p => p.1 = layer)) with
    | none => d
    | some j =>
      let img := d.imgOf l.model.val
      let live := (d.seq m.seq).filter (fun s => s.gen = m.gen)
      let foreign := match r with
        | .done bs p => !ownerOk m.seq m.gen bs p
        | .readError | .mediaError .. => false
      let d :=
        if foreign then (match live with | some s => d.ownerLost e m.seq s m.pos0 | none => d)
        else
          let d := d.pageIn e m (live.map (·.ctx)) j.tile (d.slicePage j.tile img.heads slice (m.page - 2 * layer * img.heads)) false r
          match live with
          | some s => if poisonsPage r then d.resync e m.seq (s.modGroup m.pos0 (fun g => { g with poison := true })) else d
          | none => d
      let left := ((j.left.find? (fun p => p.1 = layer)).map (·.2)).getD 1 - 1
      let j' := { j with left := if left = 0 then j.left.filter (fun p => p.1 ≠ layer)
                                 else j.left.map (fun p => if p.1 = layer then (layer, left) else p) }
      let l' := { l with land := l.land.map (fun k => if k.tile = j.tile then j' else k) }
      let d := { d with svc := { d.svc with launches := d.svc.launches.map (fun k => if k.tag = tag then l' else k) } }
      if left = 0 then
        match d.fab.siteOf j.tile with
        | some x => d.onFab (fun f => f.remoteAdd e x j.tile j.ready 1)
        | none => d
      else d

/-- The record of an import whose pages are all written, and its HELD sequence (R237). -/
def Dev.importDone (d : Dev) (e : Env) (i : Import) (q : SeqSlot) (s : Seq) : Dev :=
  let tokens := leAt i.img 0x10 4 % 2 ^ 21
  let s := { s with phase := .held, tokens := tokens, lastToken := leAt i.img 0x14 4, waitFrom := none, exporting := false,
                    groups := s.groups.zipIdx.map (fun p => { p.1 with poison := bit (leAt i.img (0x40 + 16 * p.2) 16) 27 }) }
  let d := { d with svc := { d.svc with imports := d.svc.imports.filter (fun j => !(j.ctx == i.ctx && j.dsn == i.dsn)) } }
  ((d.resync e q s).done e i.ctx i.dsn 4 i.tag 0 (seqId q s.gen) 0 tokens 0 3).reclaim e

/-- One page of an import written into its group with the new owner (R149, R237); poison where its group is marked or its read fails. -/
def Dev.importPage (d : Dev) (e : Env) (m : Move) (s : Seq) (g : Group) (r : MoveResult) : Dev :=
  match d.svc.imports.find? (fun i => i.seq = some m.seq) with
  | none => d
  | some i =>
    let k := s.groups.findIdx (fun x => x.pos0 = g.pos0)
    let ge := leAt i.img (0x40 + 16 * k) 16
    let off := pageOff g.base m.page
    let d :=
      if bit ge 27 || poisonsPage r then d.pageBad e g.tile off
      else
        let bs := padTo 16384 (i.img.drop (fld ge 127 64 + 0x4000 * m.page))
        d.onFab (fun f => f.slotWrite e g.tile off (bs.take 12 ++ leBytes 2 m.seq.val ++ leBytes 2 s.gen ++ bs.drop 16))
    let i' := { i with left := some (i.left.getD 1 - 1) }
    if i'.left = some 0 then d.importDone e i' m.seq s
    else { d with svc := { d.svc with imports := d.svc.imports.map (fun j => if j.ctx = i.ctx && j.dsn = i.dsn then i' else j) } }

/-- Does the move read tier-2? -/
def Move.readsT2 (m : Move) : Bool := m.port == .tier2 && m.kind != .spill

/-- A tier-2 read that comes with poison or an error counts in POISON_RD; the media-error event record of the device becomes an error
record (R297). -/
def Dev.noteT2Read (d : Dev) (e : Env) (m : Move) (r : MoveResult) : Dev :=
  let d := if m.readsT2 && poisonsPage r then { d with lnk := { d.lnk with t2 := { d.lnk.t2 with poisonRd := satAdd 16 d.lnk.t2.poisonRd 1 } } } else d
  match r with
  | .mediaError dev etype dpa => d.onFab (fun f => f.report e 0x0601 (.t2Device dev.val) etype (dpa % 2 ^ 32))
  | _ => d

/-- What a finished move does to its sequence. -/
def Dev.moveEffect (d : Dev) (e : Env) (m : Move) (s : Seq) (g : Group) (r : MoveResult) : Dev :=
  match m.kind with
  | .swapOut => d.pageOut e m s g
  | .spill => d.pageOut e m s g
  | .swapIn => d.pageBack e m s g r
  | .t2Return => d.pageBack e m s g r
  | .export_ =>
    -- a group that has gone to tier-2 since its move was queued is read there (R237)
    if m.port == .host && (g.gst == 5 || g.gst == 6) then
      { d with svc := { d.svc with moves := d.svc.moves ++ [{ m with port := .tier2, since := blockTicks e.time .barge }] } }
    else d.exportPage e m s g r
  | .import_ => d.importPage e m s g r
  | .landing _ _ _ => d

/-- The move with index i of the list finishes. -/
def Dev.moveEnds (d : Dev) (e : Env) (i : Nat) (m : Move) (r : MoveResult) : Dev :=
  let d := d.takeMove i m
  match m.kind with
  | .landing tag layer slice => d.landPage e m r tag layer slice
  | _ =>
    match d.seq m.seq with
    | none => d
    | some s =>
      match s.groups.find? (fun g => g.pos0 = m.pos0) with
      | none => d
      | some g => if s.gen ≠ m.gen then d else d.moveEffect e m s g r

/-- The reads of host memory that a move needs have brought its page, are under way, or can go out; the flag is clear while they wait for a
tag or a translation (R263, R269, R270). -/
def Dev.pageHere (d : Dev) (e : Env) (m : Move) : Dev × Bool :=
  match d.pageRead m, tget d.svc.seqs none m.seq.val with
  | some (u, a), some s => if 16384 ≤ m.got then (d, true) else d.finishRead e u (d.ctx s.ctx).func (a + m.got) (16384 - m.got)
  | _, _ => (d, true)

/-- BARGE_MOVE_COMPLETE: the move that R149 puts first on the port finishes; a page of host memory must have been read. -/
def Dev.moveDone (d : Dev) (e : Env) (port : BargePort) (r : MoveResult) : Dev :=
  match d.pickMove port with
  | none => d
  | some (i, m) =>
    let h := d.pageHere e m
    if h.2 then ((h.1.noteT2Read e m r).moveEnds e i m r).pumpAll e else h.1

/-- T2_TIMEOUT in ticks (R297). -/
def t2Limit (e : Env) : Nat := 1000 * clampN 1 1000 (fld (e.reg 0x300004) 15 0)

/-- T2_READ_TIMEOUT (R297): the read under way on the tier-2 port has had no response. -/
def Dev.t2Timeout (d : Dev) (e : Env) : Dev :=
  match d.pickMove .tier2 with
  | none => d
  | some (i, m) =>
    if m.readsT2 && m.since + t2Limit e ≤ blockTicks e.time .barge then
      let d := { d with lnk := { d.lnk with t2 := { d.lnk.t2 with timeouts := satAdd 16 d.lnk.t2.timeouts 1 } } }
      d.moveEnds e i m .readError
    else d

/-- T2_WRITE_ACK (R295): the CXL.mem completion of one 64-byte write arrives. -/
def Dev.t2Ack (d : Dev) (e : Env) : Dev :=
  match d.svc.t2Acks with
  | [] => d
  | (q, p, n) :: rest =>
    if n ≤ 1 then ({ d with svc := { d.svc with t2Acks := rest } }).spillDone e q p
    else { d with svc := { d.svc with t2Acks := (q, p, n - 1) :: rest } }

/-- The moves of one layer of a landing job. -/
def Dev.landLayer (d : Dev) (e : Env) (tag : BitVec 16) (img : Image) (lead : Nat) (j : LandJob) : Dev × LandJob :=
  let layer := j.next
  let ring := layer % (lead + 1)
  let n := j.groups.length
  let per := 2 * img.heads
  let ms := j.groups.zipIdx.flatMap (fun p =>
    (List.range per).map (fun k =>
      ({ port := .tier2, cls := 0, kind := .landing tag layer (j.slices.getD (ring * n + p.2) 0), seq := p.1.1
         gen := match d.seq p.1.1 with | some s => s.gen | none => 0
         pos0 := p.1.2, page := 2 * layer * img.heads + k, since := blockTicks e.time .barge } : Move)))
  ({ d with svc := { d.svc with moves := d.svc.moves ++ ms } },
    { j with next := layer + 1, left := j.left ++ [(layer, n * per)] })

/-- LANDING_COPY (R148 step 2): a unit is taken from LAND_FREE and the next layer of the tile is copied. -/
def Dev.landingCopy (d : Dev) (e : Env) (t : TileId) : Dev :=
  match d.fab.siteOf t with
  | none => d
  | some x =>
    match d.svc.launches.find? (fun l => l.land.any (fun j => j.tile == t && decide (j.next < (d.imgOf l.model.val).layers))) with
    | none => d
    | some l =>
      match l.land.find? (fun j => j.tile = t) with
      | none => d
      | some j =>
        let s := d.fab.site x
        let n := (s.sems[j.free]).toNat
        if n = 0 then d else
        let d := d.onFab (fun f => f.setSite x { s with sems := s.sems.set j.free (BitVec.ofNat 16 (n - 1)) })
        let (d, j') := d.landLayer e l.tag (d.imgOf l.model.val) (kvLead e) j
        { d with svc := { d.svc with launches := d.svc.launches.map (fun k =>
            if k.tag = l.tag then { k with land := k.land.map (fun i => if i.tile = t then j' else i) } else k) } }

-- Import -------------------------------------------------------------------------------------------------------------

/-- The lowest EMPTY sequence slot. -/
def Dev.emptySlot (d : Dev) : Option SeqSlot :=
  ((List.range (Nat.min 65536 (d.svc.seqs.length + 1))).find? (fun q => (tget d.svc.seqs none q).isNone)).map slotFin

/-- A new sequence in a slot. -/
def newSeq (gen : Nat) (c : CtxId) (model : Nat) (prio order now : Nat) : Seq :=
  { gen := gen, ctx := c, model := model, phase := .prefill, kst := 1, tokens := 0, lastToken := 0, input := [], inputPos := 0,
    fed := 0, req := none, count := 0, prio := prio, order := order, groups := [], lists := [], blocks := [], inLaunch := 0,
    ending := none, waitFrom := none, since := now, bump := 0, exporting := false }

/-- One import as far as slots and groups allow (R143, R237). -/
def Dev.tryImport (d : Dev) (e : Env) (i : Import) : Dev :=
  if i.left.isSome then d else
  let img := d.imgOf i.model
  let tokens := leAt i.img 0x10 4 % 2 ^ 21
  let need := exportGroups tokens img.tp
  let put := fun (d : Dev) (q : SeqSlot) =>
    match (List.range need).foldl (fun (r : Option Dev) k => r.bind (fun d =>
        match d.seq q with
        | some s => if k < s.groups.length then some d else d.allocGroup e q
        | none => none)) (some d) with
    | none =>
      match d.seq q with
      | some s => (d.setSeq q (some { s with waitFrom := some (s.waitFrom.getD (svcNow e)) })).reclaim e
      | none => d
    | some d =>
      match d.seq q with
      | none => d
      | some s =>
        let d := d.setSeq q (some { s with waitFrom := none, exporting := true })
        if need = 0 then d.importDone e i q s
        else
          let i' := { i with seq := some q, left := some (need * img.pages) }
          let d := { d with svc := { d.svc with imports := d.svc.imports.map (fun j => if j.ctx = i.ctx && j.dsn = i.dsn then i' else j) } }
          s.groups.foldl (fun d g => d.queueMoves e .host 3 .import_ q s g.pos0) d
  match i.seq with
  | some q => put d q
  | none =>
    match d.emptySlot with
    | none => d
    | some q =>
      let s := newSeq (tget d.svc.gens 0 q.val) i.ctx i.model i.prio d.svc.orderNext (svcNow e)
      let d := d.setSeq q (some { s with phase := .held })
      put { d with svc := { d.svc with
        orderNext := d.svc.orderNext + 1
        imports := d.svc.imports.map (fun j => if j.ctx = i.ctx && j.dsn = i.dsn then { j with seq := some q } else j) } } q

/-- GROUP_ZERO_FILL_COMPLETE (R140): the group counts in FREE_GROUPS; imports that waited go on. -/
def Dev.groupFilled (d : Dev) (e : Env) (t : TileId) (base : Nat) : Dev :=
  match d.kvt t with
  | none => d
  | some k =>
    if k.filling.contains base then
      let d := d.onFab (fun f => f.slotZero e t (pageOff base 0) (0x4000 * (d.imgOf k.model).pages))
      let d := d.setKvt t (some { k with filling := k.filling.erase base, free := natInsert base k.free })
      (d.svc.imports.foldl (fun d i => d.tryImport e i) d).reclaim e
    else d

end Sys2Proof.Machine
end

