-- ==== Sys2Proof/Machine/Launch.lean ====
section
/-! DEFINITION. Scheduling and launches of the token service engine: batches by deficit round robin, parameter blocks and batch
tables, completion, faults and replays, and token delivery (R220–R235). -/

namespace Sys2Proof.Machine

-- Registers ----------------------------------------------------------------------------------------------------------

def batchMax (e : Env) : Nat := fld (e.reg 0x4200) 31 24 + 1
/-- AGE_MS in ticks; 0: off. -/
def ageTicks (e : Env) : Nat := 10000 * fld (e.reg 0x4200) 23 16
def prefillShare (e : Env) : Nat := Nat.max 1 (fld (e.reg 0x4200) 15 12)
def pipeDepth (e : Env) : Nat := clampN 1 8 (fld (e.reg 0x4200) 11 8)
def chunkTok (e : Env) : Nat := 64 * clampN 1 64 (fld (e.reg 0x4200) 7 0)

-- Readiness ----------------------------------------------------------------------------------------------------------

/-- A token of the sequence has been sampled and is not delivered yet. -/
def Dev.undelivered (d : Dev) (q : SeqSlot) (gen : Nat) : Bool := d.svc.owners.any (fun o => o.seq == q && o.gen == gen)

/-- May the sequence be placed in a launch at all (R219, R223, R256)? -/
def Dev.placeable (d : Dev) (m : Nat) (q : SeqSlot) (s : Seq) : Bool :=
  s.model == m && s.kst == 1 && s.inLaunch == 0 && s.ending.isNone && !d.undelivered q s.gen &&
  (match s.req with
   | some r => r.ready && !d.recordHeld r.ctx r.dsn
   | none => false)

/-- R223: ready for decode. -/
def Dev.decodeReady (d : Dev) (m : Nat) : List (SeqSlot × Seq) :=
  d.liveSeqs.filter (fun p => p.2.phase == .decode && d.placeable m p.1 p.2)

/-- Ready for a prefill chunk. -/
def Dev.prefillReady (d : Dev) (m : Nat) : List (SeqSlot × Seq) :=
  d.liveSeqs.filter (fun p => p.2.phase == .prefill && d.placeable m p.1 p.2 && decide (p.2.fed < p.2.input.length))

-- Deficit round robin ------------------------------------------------------------------------------------------------

/-- A row that waits: its sequence, context, class with ageing, and the tokens it still has. -/
structure WaitRow where
  seq : SeqSlot
  ctx : CtxId
  cls : Nat
  tokens : Nat
deriving DecidableEq, Repr

/-- Credits, the context served last in each class, the rows chosen with their tokens, and the token budget left. -/
structure Drr where
  credits : Tab Nat
  last : Vector Nat 4
  rows : List (SeqSlot × Nat)
  budget : Nat
deriving DecidableEq, Repr

def clsFin (c : Nat) : Fin 4 := ⟨c % 4, Nat.mod_lt _ (by decide)⟩

/-- Key of a credit: a context in a class. -/
def creditKey (x : CtxId) (c : Nat) : Nat := 4 * x.val + c

/-- R222: the cost of a row: 16 for decode, ⌈n / 4⌉ for a prefill row of n tokens. -/
def rowCost (prefill : Bool) (budget tokens : Nat) : Nat := if prefill then cdiv (Nat.min tokens budget) 4 else 16

/-- The context with ready work in circular order after the last one served. -/
def nextCtx (last : Nat) (items : List WaitRow) : Option CtxId :=
  let low := fun (l : List WaitRow) => l.foldl (fun (b : Option CtxId) w =>
    match b with
    | none => some w.ctx
    | some x => if w.ctx < x then some w.ctx else some x) none
  (low (items.filter (fun w => last < w.ctx.val))).orElse (fun _ => low items)

/-- Rows of one context taken while its credit pays for them. -/
def drrTake (prefill : Bool) (cap : Nat) (x : CtxId) (c : Nat) : List WaitRow → Drr → Drr × List WaitRow
  | [], r => (r, [])
  | w :: ws, r =>
    if w.ctx ≠ x then
      let (r, left) := drrTake prefill cap x c ws r
      (r, w :: left)
    else
      let k := rowCost prefill r.budget w.tokens
      let have_ := tget r.credits 0 (creditKey x c)
      if r.rows.length < cap && r.budget != 0 && k ≤ have_ then
        let n := if prefill then Nat.min w.tokens r.budget else 1
        drrTake prefill cap x c ws
          { r with credits := tset r.credits 0 (creditKey x c) (have_ - k), rows := r.rows ++ [(w.seq, n)],
                   budget := if prefill then r.budget - n else r.budget }
      else (r, w :: ws)

/-- One class of R222; `fuel` bounds the visits, and `others` are the credits of the ready work that stands outside the batch. -/
def drrClass (weight : CtxId → Nat) (prefill : Bool) (cap : Nat) (others : List Nat) (c : Nat) : Nat → List WaitRow → Drr → Drr
  | 0, _, r => r
  | fuel + 1, items, r =>
    if cap ≤ r.rows.length || r.budget == 0 then r else
    match nextCtx r.last[clsFin c] items with
    | none => r
    | some x =>
      let r := { r with credits := tset r.credits 0 (creditKey x c) (tget r.credits 0 (creditKey x c) + weight x),
                        last := r.last.set (clsFin c) x.val }
      let (r, left) := drrTake prefill cap x c items r
      let r := if left.any (fun w => w.ctx = x) || others.contains (creditKey x c) then r else { r with credits := tset r.credits 0 (creditKey x c) 0 }
      drrClass weight prefill cap others c fuel left r

/-- R222: the rows of a batch, class by class. Items stand oldest first. -/
def drr (weight : CtxId → Nat) (prefill : Bool) (cap budget : Nat) (others : List Nat) (items : List WaitRow) (credits : Tab Nat)
    (last : Vector Nat 4) : Drr :=
  -- a context without ready work in a class has no credit there
  let credits := credits.filter (fun p => others.contains p.1 || items.any (fun w => creditKey w.ctx w.cls = p.1))
  (List.range 4).foldl (fun r c =>
    let mine := items.filter (fun w => w.cls = c)
    drrClass weight prefill cap others c (mine.length * 1100 + 1) mine r) { credits := credits, last := last, rows := [], budget := budget }

/-- A waiting sequence put among others, the one that has waited longest first. -/
def ageInsert (p : SeqSlot × Seq) : List (SeqSlot × Seq) → List (SeqSlot × Seq)
  | [] => [p]
  | a :: r => if p.2.since < a.2.since then p :: a :: r else a :: ageInsert p r

/-- The class of a waiting sequence, with ageing (R220, R225). -/
def Dev.waitClass (d : Dev) (s : Seq) : Nat := d.classOf s.ctx s.prio - s.bump

/-- Waiting rows from sequences, oldest first. -/
def Dev.waitRows (d : Dev) (ps : List (SeqSlot × Seq)) : List WaitRow :=
  (ps.foldl (fun l p => ageInsert p l) []).map (fun p =>
    { seq := p.1, ctx := p.2.ctx, cls := d.waitClass p.2, tokens := p.2.input.length - p.2.fed })

/-- The credits of all ready work: rows ready for decode, chunks ready for prefill, and requests whose prompt is read, but for those that a
test leaves out. -/
def Dev.readyWork (d : Dev) (skipRow : SeqSlot × Seq → Bool) (skipQueue : Bool) : List Nat :=
  let rows := (List.range 16).flatMap (fun m => d.decodeReady m ++ d.prefillReady m)
  (rows.filter (fun p => !skipRow p)).map (fun p => creditKey p.2.ctx (d.waitClass p.2)) ++
    (if skipQueue then [] else (d.svc.queue.filter (·.ready)).map (fun r => creditKey r.ctx (d.classOf r.ctx r.prio - r.bump)))

-- Building a launch --------------------------------------------------------------------------------------------------

/-- The logical tile that performs the role of a virtual tile (R226, R230). -/
def ModelSlot.roleTile (m : ModelSlot) (v : Nat) : Option TileId :=
  let v := match m.rots.find? (fun r => r.members.head? = some v) with
    | some r => r.members.getD r.active v
    | none => v
  m.bind[v]?

/-- The KVREGION section of a logical tile of the slot. -/
def ModelSlot.kvOf (m : ModelSlot) (t : TileId) : Option KvRegion :=
  match m.bind.zipIdx.find? (fun p => p.1 = t) with
  | some p => m.kvs.find? (fun k => k.vtile = p.2)
  | none => none

/-- The part of a tile's launch area that a launch uses: eight parts in turn. -/
def launchPart (k : KvRegion) (launchSeq : Nat) : Nat :=
  let size := (k.laEnd - k.laStart) / 8 / 64 * 64
  k.laStart + size * (launchSeq % 8)

/-- The landing list of a row on a tile at a ring position: DIRECT entries in ascending POS0. -/
def LandJob.listFor (j : LandJob) (kt : KvTile) (per ring : Nat) (q : SeqSlot) : List Byte :=
  j.groups.zipIdx.flatMap (fun p =>
    if p.1.1 = q then
      listEntry (kt.landBase + per * (j.slices.getD (ring * j.groups.length + p.2) 0)) p.1.2 true
    else [])

/-- Offsets of consecutive byte strings. -/
def offsets (start : Nat) : List (List Byte) → List Nat
  | [] => []
  | b :: r => start :: offsets (start + b.length) r

/-- The batch table, prompt tokens and landing lists of one tile, and the parameter fields that name them: BT_OFF, PR_OFF,
LL_STRIDE. -/
def Dev.tileTables (d : Dev) (e : Env) (l : Launch) (launchSeq : Nat) (t : TileId) : Dev × Nat × Nat × Nat :=
  let m := d.model l.model
  match m.kvOf t, d.kvt t with
  | some k, some kt =>
    if l.rows.isEmpty then (d, 0, 0, 0) else
    let img := d.imgOf l.model.val
    let bt := launchPart k launchSeq
    let pr := alignUp (bt + 32 * l.rows.length) 64
    let inputs := l.rows.map (fun r =>
      if l.kind = 1 then
        match d.seq r.seq with
        | some s => ((s.input.drop (r.pos - s.inputPos)).take r.ntok).flatMap (leBytes 4)
        | none => []
      else [])
    let ll := alignUp (pr + (inputs.map List.length).sum) 64
    let job := l.land.find? (fun j => j.tile = t)
    let lists := fun (ring : Nat) => l.rows.map (fun r =>
      match job with
      | some j => j.listFor kt (2 * img.heads) ring r.seq
      | none => [])
    let stride := alignUp ((lists 0).map List.length).sum 64
    let tokOff := offsets 0 inputs
    let llOff := offsets ll (lists 0)
    let rowBytes := l.rows.zipIdx.flatMap (fun p =>
      let r := p.1
      let gl : Option ListRows := (d.seq r.seq).bind (fun s => s.lists.find? (fun x => x.tile = t))
      let n := ((lists 0).getD p.2 []).length / 8
      leBytes 4 (seqId r.seq r.gen) ++ leBytes 4 r.pos ++
      leBytes 2 r.ntok ++ leBytes 2 (match r.sample with | some (c, s) => s % 256 + 256 * c.val | none => 0xFFFF) ++
      leBytes 4 (if l.kind = 1 then tokOff.getD p.2 0 else r.token) ++
      leBytes 4 (match gl with | some x => 1024 * x.row | none => 0) ++ leBytes 4 (match gl with | some x => x.count | none => 0) ++
      leBytes 4 (if n = 0 then 0 else llOff.getD p.2 0) ++ leBytes 4 n)
    let d := d.onFab (fun f => f.slotWrite e t bt rowBytes)
    let d := if l.kind = 1 then d.onFab (fun f => f.slotWrite e t pr (inputs.flatMap id)) else d
    let d := if stride = 0 then d else
      (List.range (kvLead e + 1)).foldl (fun d ring => d.onFab (fun f => f.slotWrite e t (ll + stride * ring) ((lists ring).flatMap id))) d
    (d, bt, if l.kind = 1 then pr else 0, stride)
  | _, _ => (d, 0, 0, 0)

/-- Tables written and packets formed for every record of the entry (R226, R227). -/
def Dev.buildPackets (d : Dev) (e : Env) (l : Launch) (launchSeq : Nat) : Dev × List (TileId × LaunchPkt) :=
  let m := d.model l.model
  match m.entries.find? (fun x => x.num = l.entry) with
  | none => (d, [])
  | some en =>
    let tiles := (en.recs.filterMap (fun r => m.roleTile r.vtile)).eraseDups
    let (d, tabs) := tiles.foldl (fun (p : Dev × List (TileId × Nat × Nat × Nat)) t =>
      let (d, bt, pr, st) := p.1.tileTables e l launchSeq t
      (d, p.2 ++ [(t, bt, pr, st)])) (d, [])
    (d, en.recs.filterMap (fun r =>
      (m.roleTile r.vtile).map (fun t =>
        let (bt, pr, st) := ((tabs.find? (fun x => x.1 = t)).map (·.2)).getD (0, 0, 0)
        let (lr, lf) := match l.land.find? (fun j => j.tile = t) with
          | some j => (j.ready.val, j.free.val)
          | none => (0, 0)
        let params := leBytes 4 (l.kind + 2 ^ 8 * l.entry + 2 ^ 16 * l.rows.length) ++ leBytes 4 launchSeq ++ leBytes 4 bt ++
          leBytes 4 (lr + 2 ^ 8 * lf) ++ leBytes 4 st ++ leBytes 4 pr ++
          leBytes 4 (match l.graph with | some g => g.inLen | none => 0) ++ leBytes 36 0 ++ padTo 192 r.template
        (t, { stream := r.stream, start := BitVec.ofNat 32 r.start, tag := l.tag, semClear := BitVec.ofNat 32 r.semClear,
              params := params }))))

/-- Packets put on the control network. -/
def Dev.sendPackets (d : Dev) (ps : List (TileId × LaunchPkt)) : Dev :=
  d.onFab (fun f => { f with ctl := f.ctl ++ ps.map (fun p => (p.1, CtlPkt.launch p.2)) })

/-- Header COUNT of a page as the column holds it (R229). -/
def Fabric.pageCount (f : Fabric) (t : TileId) (page : Nat) : Nat :=
  match f.siteOf t with
  | none => 0
  | some x => fld ((f.col x).sector (256 * page)).data.toNat 79 64

/-- Tiles of T2 groups of the rows, with the groups: what must land (R148). -/
def Dev.landNeeds (d : Dev) (rows : List Row) : List (TileId × List (SeqSlot × Nat)) :=
  let gs := rows.flatMap (fun r =>
    match d.seq r.seq with
    | some s => (s.groups.filter (fun g => g.gst == 5 || g.gst == 6)).map (fun g => (g.tile, r.seq, g.pos0))
    | none => [])
  ((gs.map (·.1)).eraseDups).map (fun t => (t, (gs.filter (fun g => g.1 = t)).map (·.2)))

/-- Free landing slices of a tile. -/
def KvTile.freeSlices (k : KvTile) : List Nat := (List.range k.landSlices).filter (fun i => !k.landUsed.contains i)

/-- Landing slices and semaphores taken for a launch; which semaphores the engine names is open. -/
def Dev.takeLanding (d : Dev) (lead : Nat) (rows : List Row) : Dev × List LandJob :=
  (d.landNeeds rows).foldl (fun (p : Dev × List LandJob) q =>
    match p.1.kvt q.1 with
    | none => p
    | some k =>
      let use := k.freeSlices.take (q.2.length * (lead + 1))
      let n := p.1.fab.free
      let ready : Fin 32 := ⟨Config.freeChoice n (2 * q.1.val) % 32, Nat.mod_lt _ (by decide)⟩
      let other : Fin 32 := ⟨(ready.val + 1 + Config.freeChoice n (2 * q.1.val + 1) % 31) % 32, Nat.mod_lt _ (by decide)⟩
      (p.1.setKvt q.1 (some { k with landUsed := k.landUsed ++ use }),
        p.2 ++ [{ tile := q.1, next := 0, ready := ready, free := other, slices := use, groups := q.2, left := [] }]))
    (d, [])

/-- Is there room in the landing slices of every tile for the rows? -/
def Dev.landRoom (d : Dev) (lead : Nat) (rows : List Row) : Bool :=
  (d.landNeeds rows).all (fun q => match d.kvt q.1 with
    | some k => q.2.length * (lead + 1) ≤ k.freeSlices.length
    | none => false)

/-- R148 step 2: layers 0 to PREFETCH_LEAD are copied at the launch. -/
def Dev.startLanding (d : Dev) (e : Env) (l : Launch) : Dev × Launch :=
  let img := d.imgOf l.model.val
  let (d, jobs) := l.land.foldl (fun (p : Dev × List LandJob) j =>
    let (d, j) := (List.range (Nat.min (kvLead e + 1) img.layers)).foldl (fun (q : Dev × LandJob) _ =>
      q.1.landLayer e l.tag img (kvLead e) q.2) (p.1, { j with next := 0, left := [] })
    (d, p.2 ++ [j])) (d, [])
  (d, { l with land := jobs })

/-- Clusters of the slot's tiles from the starting one on (R231). -/
def ModelSlot.clusters (m : ModelSlot) : List ClusterId :=
  let cs := (List.range 32).filter (fun c => m.bind.any (fun t => t.val / 16 = c))
  let k := if cs.isEmpty then 0 else m.startCl % cs.length
  (cs.drop k ++ cs.take k).map (fun c => ⟨c % 32, Nat.mod_lt _ (by decide)⟩)

/-- Sampler slots that no row in flight uses (R231, R60). -/
def Dev.freeSamplers (d : Dev) (m : ModelSlot) : List (ClusterId × Nat) :=
  m.clusters.flatMap (fun c =>
    ((List.range 256).filter (fun s =>
      ((d.fab.sampler c).slot s).isNone && !d.svc.owners.any (fun o => o.cluster == c && o.slot == s) &&
      !d.svc.arms.any (fun a => a.1 == c && a.2.1 == s))).map (fun s => (c, s)))

/-- R232: what arming fixes for the token at position q. -/
def armParams (r : GenReq) (nslice q : Nat) : ArmParams :=
  let random := r.method == 1 && r.temp != 0
  { nslice := nslice, method := if random then 1 else 0
    tempFactor := if random then fp32Of (div32 (.fin false ⟨1, 0⟩) (fp32F.decode r.temp)) else 0x3F800000
    topK := r.topK, topP := r.topP, minP := r.minP, nalt := r.nalt, key := r.seed, counter := q }

/-- A launch tag that no launch in flight uses. -/
def Dev.freshTag (d : Dev) : Nat :=
  ((List.range (d.svc.launches.length + 1)).map (fun i => (d.svc.tagNext + i) % 65536)).find? (fun t =>
    !d.svc.launches.any (fun l => l.tag.toNat = t)) |>.getD d.svc.tagNext

/-- May the slot launch at all (R223, R230, R239, R292, R414)? -/
def Dev.mayLaunch (d : Dev) (e : Env) (m : ModelSlotId) : Bool :=
  let s := d.model m
  s.phase == .loaded && !s.failed && d.fab.mapValid && !d.svc.holdAll && s.rots.all (fun r => r.next.isNone) &&
  s.bind.all (fun t => !d.fab.fenced[tileHalf t]) &&
  decide ((d.svc.launches.filter (fun l => l.model = m)).length < pipeDepth e)

/-- LAUNCH_TAG of a message of a tile. -/
def msgTag (m : TileMsg) : BitVec 16 :=
  match m with
  | .ended _ _ t => t
  | .fault _ _ t _ _ _ => t
  | .busy _ _ t => t

/-- A launch entered: tables, landings, armings, packets; its rows are in flight. -/
def Dev.enterLaunch (d : Dev) (e : Env) (m : ModelSlotId) (entry kind nslice : Nat) (rows : List Row) (graph : Option GraphReq) : Dev :=
  let ms := d.model m
  let tag : BitVec 16 := BitVec.ofNat 16 d.freshTag
  -- what has been reported under the tag belongs to no launch in flight (R39)
  let d := d.onFab (fun f => { f with inbox := f.inbox.filter (fun m => msgTag m != tag) })
  let (d, land) := d.takeLanding (kvLead e) rows
  let names := rows.flatMap (fun r => match d.seq r.seq with
    | some s => (s.groups.filter inStack).map (fun g => (g.tile, g.base))
    | none => [])
  let img := d.imgOf m.val
  let counts := rows.flatMap (fun r => match d.seq r.seq with
    | some s => (s.groups.filter (fun g => decide (g.pos0 < r.pos + r.ntok) && decide (r.pos < g.pos0 + img.tp))).flatMap (fun g =>
        (List.range img.pages).map (fun p => (g.tile, g.base + p, d.fab.pageCount g.tile (g.base + p))))
    | none => [])
  let arms := rows.filterMap (fun r => match r.sample, (d.seq r.seq).bind (·.req) with
    | some (c, s), some q => some (c, s, armParams q nslice (r.pos + r.ntok))
    | _, _ => none)
  let l : Launch := { tag := tag, model := m, entry := entry, kind := kind, rows := rows, graph := graph, told := false, streams := [],
                      packets := [], names := names, counts := counts, fault := none, parity := 0, parityAt := none, chk := 0, land := land,
                      arms := arms }
  let (d, ps) := d.buildPackets e l ms.launchSeq
  let l := { l with packets := ps, streams := ps.map (fun p => (p.1, p.2.stream)) }
  let (d, l) := d.startLanding e l
  let owners := rows.filterMap (fun r => r.sample.map (fun p =>
    ({ cluster := p.1, slot := p.2, launch := tag, seq := r.seq, gen := r.gen } : SlotOwner)))
  let d := rows.foldl (fun d r => match d.seq r.seq with
    | some s => d.setSeq r.seq (some { s with inLaunch := s.inLaunch + 1, bump := 0, waitFrom := none,
                                              fed := if kind = 1 then s.fed + r.ntok else s.fed })
    | none => d) d
  let d := { d with svc := { d.svc with
    launches := d.svc.launches ++ [l], owners := d.svc.owners ++ owners, arms := d.svc.arms ++ arms
    tagNext := (tag.toNat + 1) % 65536 } }
  let d := d.setModel m { d.model m with launchSeq := (ms.launchSeq + 1) % 2 ^ 32, recent := (decide (kind ≠ 2) :: ms.recent).take 16 }
  (d.sendPackets ps).reclaim e

/-- Groups for the positions that a row appends (R139, R224); none where an allocation is held. -/
def Dev.growSeq (d : Dev) (e : Env) (q : SeqSlot) (upto : Nat) : Nat → Option Dev
  | 0 => none
  | n + 1 =>
    match d.seq q with
    | none => none
    | some s =>
      let tp := Nat.max 1 (d.imgOf s.model).tp
      if cdiv upto tp ≤ s.groups.length then some d else (d.allocGroup e q).bind (fun d => d.growSeq e q upto n)

/-- Rows made of the chosen sequences: groups allocated, sampler slots assigned; a sequence whose allocation is held, or for
which no slice or slot is left, is not placed. -/
def Dev.makeRows (d : Dev) (e : Env) (prefill : Bool) (chosen : List (SeqSlot × Nat)) (slots : List (ClusterId × Nat)) :
    Dev × List Row :=
  let r := chosen.foldl (fun (p : Dev × List Row × List (ClusterId × Nat)) c =>
    let (d, rows, slots) := p
    match d.seq c.1 with
    | none => p
    | some s =>
      let pos := if prefill then s.inputPos + s.fed else s.tokens - 1
      let n := if prefill then c.2 else 1
      match d.growSeq e c.1 (pos + n) (pos + n + 1) with
      | none => ((d.setSeq c.1 (some { s with waitFrom := some (s.waitFrom.getD (svcNow e)) })).reclaim e, rows, slots)
      | some d =>
        let last := !prefill || decide (s.fed + n = s.input.length)
        match last, slots with
        | true, [] => (d, rows, slots)
        | _, _ =>
          let row : Row := { seq := c.1, gen := s.gen, pos := pos, ntok := n, token := if prefill then 0 else s.lastToken,
                             sample := if last then slots.head? else none }
          if d.landRoom (kvLead e) (rows ++ [row]) then (d, rows ++ [row], if last then slots.drop 1 else slots)
          else (d, rows, slots)) (d, [], slots)
  (r.1, r.2.1)

/-- The entry of a number. -/
def ModelSlot.entry (m : ModelSlot) (n : Nat) : Option Entry := m.entries.find? (fun x => x.num = n)

/-- DECODE_LAUNCH (R223). -/
def Dev.decodeLaunch (d : Dev) (e : Env) (m : ModelSlotId) : Dev :=
  let s := d.model m
  match s.img.bind (fun i => s.entry i.decode) with
  | none => d
  | some en =>
    if !d.mayLaunch e m then d else
    let items := d.waitRows (d.decodeReady m.val)
    let others := d.readyWork (fun p => p.2.model == m.val && p.2.phase == .decode) false
    let r := drr d.weight false (Nat.min (batchMax e) en.maxBatch) 1 others items d.svc.credits d.svc.lastCtx
    if r.rows.isEmpty then d else
    let d := { d with svc := { d.svc with credits := r.credits, lastCtx := r.last } }
    let (d, rows) := d.makeRows e false r.rows (d.freeSamplers s)
    if rows.isEmpty then d else d.enterLaunch e m en.num 2 en.nslice rows none

/-- R224: may the next launch be prefill or RUN_GRAPH? -/
def Dev.shareLeft (d : Dev) (e : Env) (m : ModelSlotId) : Bool :=
  (d.decodeReady m.val).isEmpty || decide ((((d.model m).recent.take 15).filter id).length < prefillShare e)

/-- PREFILL_LAUNCH (R224). -/
def Dev.prefillLaunch (d : Dev) (e : Env) (m : ModelSlotId) : Dev :=
  let s := d.model m
  match s.img.bind (fun i => s.entry i.prefill) with
  | none => d
  | some en =>
    if !d.mayLaunch e m || !d.shareLeft e m then d else
    let items := d.waitRows (d.prefillReady m.val)
    let others := d.readyWork (fun p => p.2.model == m.val && p.2.phase == .prefill) false
    let r := drr d.weight true en.maxBatch (chunkTok e) others items d.svc.credits d.svc.lastCtx
    if r.rows.isEmpty then d else
    let d := { d with svc := { d.svc with credits := r.credits, lastCtx := r.last } }
    let (d, rows) := d.makeRows e true r.rows (d.freeSamplers s)
    if rows.isEmpty then d else d.enterLaunch e m en.num 1 en.nslice rows none

/-- GRAPH_LAUNCH (R238): the RUN_GRAPH of the highest class, then the oldest, whose input is in place. -/
def Dev.graphLaunch (d : Dev) (e : Env) (m : ModelSlotId) : Dev :=
  let s := d.model m
  if !d.mayLaunch e m || !d.shareLeft e m then d else
  let cls := fun (g : GraphReq) => d.classOf g.ctx g.prio - g.bump
  let pick := (s.graphs.filter (·.ready)).foldl (fun best g =>
    match best with
    | none => some g
    | some b => if cls g < cls b then some g else some b) (none : Option GraphReq)
  match pick with
  | none => d
  | some g =>
    let d := d.setModel m { s with graphs := s.graphs.filter (fun x => !(x.ctx == g.ctx && x.dsn == g.dsn)) }
    d.enterLaunch e m g.entry 3 0 [] (some g)

-- Release ------------------------------------------------------------------------------------------------------------

/-- An END that waited for the last launch of the sequence (R219). -/
def Dev.settle (d : Dev) (e : Env) (q : SeqSlot) : Dev :=
  match d.seq q with
  | none => d
  | some s =>
    match s.ending with
    | some code => if s.inLaunch = 0 && !d.undelivered q s.gen then d.endSeq e q code else d
    | none => d

/-- A MODEL_UNLOAD whose launches have all completed (R209). -/
def Dev.finishUnload (d : Dev) (e : Env) (m : ModelSlotId) : Dev :=
  let s := d.model m
  if s.phase = .unloading && !d.svc.launches.any (fun l => l.model = m) then
    let d := { d with svc := { d.svc with kv := d.svc.kv.filter (fun p => match p.2 with
      | some k => k.model != m.val
      | none => true) } }
    let d := d.setModel m ModelSlot.init
    let d := d.onFab (fun f => { f with kvRegion := s.bind.foldl (fun t b => tset t none b.val none) f.kvRegion })
    match s.op with
    | some o => d.done e o.ctx o.dsn 0x11 o.tag 0
    | none => d
  else d

/-- A launch leaves: its messages, rows, slices and names with it. -/
def Dev.leaveLaunch (d : Dev) (e : Env) (l : Launch) : Dev :=
  let d := d.onFab (fun f => { f with
    inbox := f.inbox.filter (fun m => msgTag m != l.tag) })
  let d := { d with svc := { d.svc with
    launches := d.svc.launches.filter (fun k => k.tag ≠ l.tag)
    moves := d.svc.moves.filter (fun m => match m.kind with
      | .landing t _ _ => t != l.tag
      | _ => true) } }
  let d := l.land.foldl (fun d j => match d.kvt j.tile with
    | some k => d.setKvt j.tile (some { k with landUsed := k.landUsed.filter (fun i => !j.slices.contains i) })
    | none => d) d
  let d := l.rows.foldl (fun d r => match d.seq r.seq with
    | some s => if s.gen = r.gen then d.setSeq r.seq (some { s with inLaunch := s.inLaunch - 1, since := svcNow e }) else d
    | none => d) d
  let busy := fun (q : SeqSlot) (g : Nat) => d.svc.launches.any (fun k => k.rows.any (fun r => r.seq == q && r.gen == g))
  let later := d.svc.rowsLater.filter (fun p => !busy p.2.2.2.1 p.2.2.2.2)
  let d := { d with svc := { d.svc with rowsLater := d.svc.rowsLater.filter (fun p => busy p.2.2.2.1 p.2.2.2.2) } }
  let d := later.foldl (fun d p => d.giveRows p.1 p.2.1 p.2.2.1) d
  let d := l.rows.foldl (fun d r => match d.seq r.seq with
    | some s => if s.gen = r.gen then d.settle e r.seq else d
    | none => d) d
  d.finishUnload e l.model

/-- RUN_GRAPH_OUTPUT (R238, R387). -/
def Dev.graphOutput (d : Dev) (e : Env) (l : Launch) (g : GraphReq) : Dev :=
  let m := d.model l.model
  if l.told then d else
  if g.cancelled then d.done e g.ctx g.dsn 6 g.tag 0x04 else
  match m.entry l.entry with
  | none => d
  | some en =>
    match m.bind[en.outVt]? with
    | none => d
    | some t =>
      let (f, hdr, p) := d.fab.slotRead e t en.outOff 1
      let d := { d with fab := f }
      let n := leAt hdr 0 4
      if !p.isEmpty then d.done e g.ctx g.dsn 6 g.tag 0x09 0xFFFFFFFF 0 0 0x0E 1
      else if g.outCap < n || en.outMax < n then d.done e g.ctx g.dsn 6 g.tag 0x14
      else
        let (f, bs, p) := d.fab.slotRead e t (en.outOff + 64) (cdiv n 64)
        let d := { d with fab := f }
        if !p.isEmpty then d.done e g.ctx g.dsn 6 g.tag 0x09 0xFFFFFFFF 0 0 0x0E 1
        else
          let d := d.putHost e g.ctx g.outAddr (bs.take n) []
          d.done e g.ctx g.dsn 6 g.tag 0 0xFFFFFFFF n 0 0 1 (if n = 0 then none else some (g.outAddr + n - 1))

/-- Has every stream of the launch reported END? -/
def Dev.launchEnded (d : Dev) (l : Launch) : Bool :=
  l.streams.all (fun s => d.fab.inbox.any (fun m => match m with
    | .ended t st tag => t == s.1 && st == s.2 && tag == l.tag
    | _ => false))

/-- LAUNCH_COMPLETE (R226). -/
def Dev.launchComplete (d : Dev) (e : Env) (tag : BitVec 16) : Dev :=
  match d.svc.launches.find? (fun l => l.tag = tag) with
  | none => d
  | some l =>
    if l.fault.isSome || !d.launchEnded l then d else
    let d := match l.graph with
      | some g => d.graphOutput e l g
      | none => d
    d.leaveLaunch e l

-- Faults -------------------------------------------------------------------------------------------------------------

/-- The first fault of a launch in the messages received. -/
def Dev.firstFault (d : Dev) (tag : BitVec 16) : Option LaunchFault :=
  d.fab.inbox.findSome? (fun m => match m with
    | .fault t _ g c _ x => if g = tag then some { tile := t, cause := c, extra := x } else none
    | .busy t _ g => if g = tag then some { tile := t, cause := 0x10, extra := 0 } else none
    | _ => none)

/-- Has every stream of the launch stopped, with no packet of it under way and none of its steps in flight? -/
def Dev.launchStopped (d : Dev) (l : Launch) : Bool :=
  !d.fab.ctl.any (fun p => match p.2 with
    | .launch k => k.tag == l.tag
    | .abort t => t == l.tag) &&
  l.streams.all (fun s => d.fab.fenced[tileHalf s.1] || match d.fab.siteOf s.1 with
    | none => true
    | some x =>
      let v := (d.fab.site x).stream s.2
      v.tag != l.tag || ((v.state == .idle || v.state == .faulted) && v.steps.isEmpty))

/-- R228: ABORT to every tile of the launch. -/
def Dev.sendAborts (d : Dev) (l : Launch) : Dev :=
  d.onFab (fun f => { f with ctl := f.ctl ++ ((l.streams.map (·.1)).eraseDups).map (fun t => (t, CtlPkt.abort l.tag)) })

/-- R229: the headers of the pages it appends to hold their recorded COUNT again, with KVF 0 and SCALE 0 where that was 0. -/
def Dev.restoreHeaders (d : Dev) (e : Env) (l : Launch) : Dev :=
  l.counts.foldl (fun d c =>
    match d.fab.accessSite c.1 with
    | none => d
    | some x =>
      let s := (d.fab.col x).sector (256 * c.2.1)
      if s.poison then d else
      let w := setFld s.data.toNat 79 64 c.2.2
      let w := if c.2.2 = 0 then setFld (setFld w 61 60 0) 31 0 0 else w
      d.onFab (fun f => f.writeSectors e x [{ key := 256 * c.2.1, data := BitVec.ofNat 512 w, poison := false }])) d

/-- LAUNCH_REPLAY (R229): headers restored, the launch sent again, its undelivered sampler slots armed again. -/
def Dev.replay (d : Dev) (e : Env) (l : Launch) (rows : List Row) : Dev :=
  let d := d.restoreHeaders e l
  let d := d.onFab (fun f => { f with
    inbox := f.inbox.filter (fun m => msgTag m != l.tag),
    acted := f.acted ++ ((l.fault.bind (fun q => f.siteOf q.tile)).map Suspect.site).toList })
  let l := { l with fault := none, rows := rows,
                    land := l.land.map (fun (j : LandJob) => { j with groups := j.groups.filter (fun g => rows.any (fun r => r.seq = g.1)) }) }
  let ms := d.model l.model
  let d := { d with svc := { d.svc with
    replays := satAdd 16 d.svc.replays 1
    moves := d.svc.moves.filter (fun m => match m.kind with
      | .landing t _ _ => t != l.tag
      | _ => true) } }
  let (d, ps) := d.buildPackets e l (match l.packets.head? with
    | some p => leAt p.2.params 4 4
    | none => ms.launchSeq)
  let l := { l with packets := ps }
  let (d, l) := d.startLanding e l
  let arms := l.arms.filter (fun a =>
    d.svc.owners.any (fun o => o.cluster == a.1 && o.slot == a.2.1 && o.launch == l.tag) &&
    !d.fab.results.any (fun r => r.cluster == a.1 && r.slot == a.2.1))
  let d := { d with svc := { d.svc with
    launches := d.svc.launches.map (fun (k : Launch) => if k.tag = l.tag then l else k), arms := d.svc.arms ++ arms } }
  d.sendPackets ps

/-- Every row of the launch ends with an END code (R228). -/
def Dev.endRows (d : Dev) (e : Env) (l : Launch) (code detail : Nat) : Dev :=
  let d := l.rows.foldl (fun d r => match d.seq r.seq with
    | some s => if s.gen = r.gen then d.endSeq e r.seq code detail else d
    | none => d) d
  let d := match l.graph with
    | some g => if l.told then d else if g.cancelled then d.done e g.ctx g.dsn 6 g.tag 0x04 0xFFFFFFFF 0 0 0 1
                else d.done e g.ctx g.dsn 6 g.tag code 0xFFFFFFFF 0 0 detail 1
    | none => d
  d.leaveLaunch e l

/-- The sequence that owns a page of a tile: a group in the stack, or a landing slice of a launch (R150). -/
def Dev.pageSeq (d : Dev) (l : Launch) (t : TileId) (page : Nat) : Option SeqSlot :=
  let img := d.imgOf l.model.val
  match d.liveSeqs.find? (fun p => p.2.groups.any (fun g =>
      g.tile == t && inStack g && decide (g.base ≤ page) && decide (page < g.base + img.pages))) with
  | some p => some p.1
  | none =>
    (l.land.find? (fun j => j.tile = t)).bind (fun j =>
      match d.kvt t with
      | none => none
      | some k =>
        let n := j.groups.length
        (j.slices.zipIdx.find? (fun s =>
          decide (k.landBase + 2 * img.heads * s.1 ≤ page) && decide (page < k.landBase + 2 * img.heads * (s.1 + 1)))).bind
          (fun s => (j.groups[s.2 % Nat.max 1 n]?).map (·.1)))

/-- R53: a SCRATCH_PARITY fault of a launch counts on its tile, and the third in a row there is reported. -/
def Dev.noteParity (d : Dev) (e : Env) (l : Launch) (t : TileId) : Dev × Launch :=
  let n := match l.parityAt with
    | some (u, k) => if u = t then k + 1 else 1
    | none => 1
  let d := if n = 3 then
      (match d.fab.siteOf t with
       | some x => d.onFab (fun f => f.report e 0x0102 (.site x) 53 0)
       | none => d)
    else d
  (d, { l with parityAt := some (t, n) })

/-- Table Service-16: what the first fault of a launch leads to, once its streams have stopped. The requests of a failed slot end with
BAD_MODEL (R239). -/
def Dev.actOnFault (d : Dev) (e : Env) (l : Launch) (q : LaunchFault) : Dev :=
  let give := fun (d : Dev) (detail : Nat) =>
    ({ d with svc := { d.svc with launchFaults := satAdd 16 d.svc.launchFaults 1 } }).endRows e l 0x09 detail
  if (d.model l.model).failed then d.endRows e l 0x0C 0 else
  match q.cause with
  | 0x0A =>
    let (d, l) := d.noteParity e l q.tile
    if 2 ≤ l.parity then give d 0x0A else d.replay e { l with parity := l.parity + 1 } l.rows
  | 0x0F => if 1 ≤ l.chk then give d 0x0F else d.replay e { l with chk := l.chk + 1, parity := 0, parityAt := none } l.rows
  | 0x0E =>
    match (if q.extra = 0 then none else d.pageSeq l q.tile ((q.extra - 1) / 256)) with
    | none => give d 0x0E
    | some s =>
      let rows := l.rows.filter (fun r => r.seq ≠ s)
      let d := d.loseSeq e s 0x06
      if rows.isEmpty && l.graph.isNone then d.leaveLaunch e l else d.replay e { l with parity := 0, parityAt := none } rows
  | 0x0D => d.endRows e l 0x07 0
  | c => give d c

/-- LAUNCH_FAULT (R228): the first fault of the launch sends its ABORTs; once every stream of the launch has stopped, the engine
acts on that fault. -/
def Dev.launchFault (d : Dev) (e : Env) (tag : BitVec 16) : Dev :=
  match d.svc.launches.find? (fun l => l.tag = tag) with
  | none => d
  | some l =>
    match l.fault.orElse (fun _ => d.firstFault tag) with
    | none => d
    | some q =>
      let d := if l.fault.isSome then d else d.sendAborts l
      let l := { l with fault := some q }
      let d := { d with svc := { d.svc with launches := d.svc.launches.map (fun (k : Launch) => if k.tag = tag then l else k) } }
      if d.launchStopped l then d.actOnFault e l q else d

-- Tokens -------------------------------------------------------------------------------------------------------------

/-- The bytes of an output entry (R213). -/
def outEntry (r : GenReq) (token : Nat) (s : SampleResult) : List Byte :=
  if !r.logprob then leBytes 4 token
  else
    leBytes 4 token ++ leBytes 4 s.logprob ++
    (List.range 8).flatMap (fun a => match (s.alts.take r.nalt)[a]? with
      | some p => leBytes 4 p.1 ++ leBytes 4 p.2
      | none => leBytes 4 0xFFFFFFFF ++ leBytes 4 0xFF800000) ++ leBytes 8 0

/-- R235: the END that a delivered token brings: EOS, MAX_NEW, SEQ_LIMIT, in this order. -/
def stopCode (img : Image) (r : GenReq) (token count pos : Nat) : Option Nat :=
  if !r.ignoreEos && img.eos.contains token then some 0x01
  else if count = r.maxNew then some 0x02
  else if pos = 1048575 then some 0x03
  else none

/-- A token at position `s.tokens` delivered to its sequence. -/
def Dev.deliverToken (d : Dev) (e : Env) (q : SeqSlot) (s : Seq) (r : GenReq) (token : Nat) (res : SampleResult) : Dev :=
  let entry := if r.logprob then 80 else 4
  let d := d.hostPut e r.ctx (r.outAddr + s.count * entry) (outEntry r token res) false
  let pos := s.tokens
  let s := { s with tokens := s.tokens + 1, count := s.count + 1, lastToken := token, phase := .decode, since := svcNow e }
  let d := d.setSeq q (some s)
  let d := { d with svc := { d.svc with tokAt := svcNow e :: d.svc.tokAt.filter (fun k => svcNow e < k + 1000000) } }
  match (stopCode (d.imgOf s.model) r token s.count pos).orElse (fun _ => s.ending) with
  | some code => d.endSeq e q code
  | none =>
    if r.reportEvery != 0 && s.count % r.reportEvery = 0 then
      d.record e r.ctx { dsn := r.dsn, rtype := 1, endCode := 0, opcode := 1, seqId := seqId q s.gen, tag := r.tag,
                         count := s.count, tokens := s.tokens, detail := 0, cls := 1, last := lastWord r s.count }
    else d

/-- TOKEN_DELIVERY (R235): the oldest sampler result goes to the row that its slot serves; one without a row is discarded. -/
def Dev.tokenDelivery (d : Dev) (e : Env) : Dev :=
  match d.fab.results with
  | [] => d
  | res :: rest =>
    let d := d.onFab (fun f => { f with results := rest })
    match d.svc.owners.find? (fun o => o.cluster == res.cluster && o.slot == res.slot) with
    | none => d
    | some o =>
      let d := { d with svc := { d.svc with owners := d.svc.owners.filter (fun p => p ≠ o) } }
      match d.seq o.seq with
      | none => d
      | some s =>
        match s.req, res.token with
        | some r, some t => if s.gen = o.gen && s.kst ≠ 5 then d.deliverToken e o.seq s r t res else d
        | some _, none => if s.gen = o.gen then d.endSeq e o.seq 0x08 else d
        | none, _ => d

/-- SAMPLER_ARM (R60, R232): the slot is armed with the parameters that the engine holds for it. -/
def Dev.samplerArm (d : Dev) (c : ClusterId) (slot : Nat) : Dev :=
  match d.svc.arms.find? (fun a => a.1 == c && a.2.1 == slot) with
  | none => d
  | some a =>
    ({ d with svc := { d.svc with arms := d.svc.arms.erase a } }).onFab (fun f => f.armSlot c slot a.2.2)

end Sys2Proof.Machine
end

