-- ==== Sys2Proof/Machine/Images.lean ====
section
/-! DEFINITION. Model images: header, section table and section contents with the checks of R204–R206 and R475, binding (R208), and
the division of a KV region (R119). -/

namespace Sys2Proof.Machine

-- Header and section table -------------------------------------------------------------------------------------------

/-- Are `n` bytes from `off` zero? -/
def zeroAt (bs : List Byte) (off n : Nat) : Bool := ((bs.drop off).take n).all (fun b => b == 0)

/-- A section entry of Table Service-2. -/
def readSection (bs : List Byte) (i : Nat) : Section :=
  let o := 0x80 + 32 * i
  { styp := leAt bs o 1, vtile := fld (leAt bs o 4) 17 8, off := leAt bs (o + 8) 8, len := leAt bs (o + 16) 8, dest := leAt bs (o + 24) 8 }

/-- The header of Table Service-1 with its section table. -/
def readImage (bs : List Byte) : Image :=
  let w18 := leAt bs 0x18 4
  let neos := leAt bs 0x1C 1 % 16
  { level := leAt bs 4 1, id := leAt bs 8 8, vtiles := fld (leAt bs 0x10 4) 9 0, span := bit (leAt bs 0x10 4) 10
    vocab := leAt bs 0x14 4, layers := fld w18 7 0, heads := fld w18 12 8, dcode := fld w18 17 16, kv8 := bit w18 18
    eos := (List.range neos).map (fun i => leAt bs (0x20 + 4 * i) 4), len := leAt bs 0x40 8, prefill := leAt bs 0x48 1
    decode := leAt bs 0x49 1, nentry := leAt bs 0x4A 1, layout := w18
    sections := (List.range (leAt bs 6 2)).map (readSection bs) }

/-- R205: a section entry is well-formed for its image. -/
def sectionOk (i : Image) (bs : List Byte) (k : Nat) (s : Section) : Bool :=
  let o := 0x80 + 32 * k
  let tileScope := s.styp == 1 || s.styp == 2 || s.styp == 4
  1 ≤ s.styp && s.styp ≤ 5 && !(s.styp == 5 && i.level == 1) &&
  (if tileScope then decide (s.vtile < i.vtiles) else s.vtile == 0x3FF) &&
  fld (leAt bs o 4) 31 18 == 0 && leAt bs (o + 4) 4 == 0 && s.off % 64 == 0 && s.off + s.len ≤ i.len &&
  (match s.styp with
   | 1 => s.len % 1024 == 0 && s.dest % 1024 == 0 && decide (s.dest + s.len ≤ 0x18000000)
   | 2 => s.len == 512 && s.dest == 0
   | 4 => s.len == 32 && s.dest == 0
   | 5 => s.len % 64 == 0 && s.dest == 0
   | _ => s.dest == 0)

/-- No two sections of a type name the same virtual tile (R475). -/
def uniqueTiles (ss : List Section) (t : Nat) : Bool :=
  let vs := (ss.filter (fun s => s.styp = t)).map (·.vtile)
  vs.eraseDups.length == vs.length

/-- R204, Table Service-7 step 1: the END code of the first check that fails; `levels` are the lowest and the highest level that the TSE image
in force accepts (R415). -/
def headerError (levels : Nat × Nat) (bs : List Byte) (imageLen : Nat) : Option Nat :=
  let i := readImage bs
  let n := leAt bs 6 2
  if leAt bs 0 4 ≠ 0x4D494C47 then some 0x11
  else if (i.level ≠ 1 ∧ i.level ≠ 2) ∨ i.level < levels.1 ∨ levels.2 < i.level then some 0x0B
  else if leAt bs 5 1 == 0 && 1 ≤ n && n ≤ 4096 && 1 ≤ i.vtiles && i.vtiles ≤ (if i.span then 512 else 256) &&
      fld (leAt bs 0x10 4) 31 11 == 0 && 1 ≤ i.vocab && i.vocab ≤ 16777216 && 1 ≤ i.layers && 1 ≤ i.heads && i.heads ≤ 16 &&
      fld i.layout 15 13 == 0 && i.dcode != 3 && fld i.layout 31 19 == 0 && i.eos.length ≤ 8 && fld (leAt bs 0x1C 4) 31 4 == 0 &&
      zeroAt bs (0x20 + 4 * i.eos.length) (4 * (8 - i.eos.length)) && i.len == imageLen && 0x80 + 32 * n ≤ i.len &&
      ((i.prefill == 0xFF) == (i.decode == 0xFF)) && 1 ≤ i.nentry && leAt bs 0x4B 1 == 0 && leAt bs 0x4C 4 == 0 &&
      zeroAt bs 0x54 0x2C && i.sections.zipIdx.all (fun p => sectionOk i bs p.2 p.1) &&
      (i.sections.filter (fun s => s.styp = 3)).length == i.nentry && uniqueTiles i.sections 2 && uniqueTiles i.sections 4
    then none
  else some 0x11

-- Section contents ---------------------------------------------------------------------------------------------------

/-- The bytes of a section. -/
def sectionBytes (bs : List Byte) (s : Section) : List Byte := (bs.drop s.off).take s.len

/-- A launch record of Table Service-5. -/
def readRec (bs : List Byte) : LaunchRec :=
  let w := leAt bs 0 4
  { vtile := fld w 9 0, stream := ⟨fld w 11 10, Nat.mod_lt _ (by decide)⟩, start := leAt bs 4 4, semClear := leAt bs 8 4
    template := (bs.drop 0x40).take 192 }

/-- An entry of Table Service-4. -/
def readEntry (bs : List Byte) : Entry :=
  { num := leAt bs 0 1, kind := leAt bs 1 1, maxBatch := leAt bs 4 2, nslice := fld (leAt bs 6 2) 6 0, inVt := fld (leAt bs 8 4) 9 0
    inOff := leAt bs 0x0C 4, inMax := leAt bs 0x10 4, outVt := fld (leAt bs 0x14 4) 9 0, outOff := leAt bs 0x18 4
    outMax := leAt bs 0x1C 4, recs := (List.range (leAt bs 2 2)).map (fun i => readRec (bs.drop (64 + 256 * i))) }

/-- A KVREGION section. -/
def readKv (bs : List Byte) (s : Section) : KvRegion :=
  let b := sectionBytes bs s
  { vtile := s.vtile, start := leAt b 0 4, stop := leAt b 4 4, landSlices := leAt b 8 2, laStart := leAt b 0x0C 4, laEnd := leAt b 0x10 4 }

/-- The rotation sets of a ROTSET section. -/
def readRots (bs : List Byte) (s : Section) : List RotSet :=
  (List.range (s.len / 64)).map (fun i =>
    let b := sectionBytes bs s
    let n := leAt b (64 * i) 1 % 32
    { members := (List.range n).map (fun k => leAt b (64 * i + 4 + 2 * k) 2), active := 0, next := none })

def imageEntries (bs : List Byte) (i : Image) : List Entry :=
  (i.sections.filter (fun s => s.styp = 3)).map (fun s => readEntry (sectionBytes bs s))
def imageKvs (bs : List Byte) (i : Image) : List KvRegion := (i.sections.filter (fun s => s.styp = 4)).map (readKv bs)
def imageRots (bs : List Byte) (i : Image) : List RotSet := (i.sections.filter (fun s => s.styp = 5)).flatMap (readRots bs)

/-- COLUMN sections of a virtual tile as (DEST, bytes). -/
def imageColumns (bs : List Byte) (i : Image) (v : Nat) : List (Nat × List Byte) :=
  (i.sections.filter (fun s => s.styp == 1 && s.vtile == v)).map (fun s => (s.dest, sectionBytes bs s))

/-- The checks of an ENTRY section (Table Service-4, Table Service-5, R475). -/
def entryOk (bs : List Byte) (i : Image) (s : Section) : Bool :=
  let b := sectionBytes bs s
  let en := readEntry b
  let n := leAt b 2 2
  let kv := fun (v : Nat) => (imageKvs bs i).find? (fun k => k.vtile = v)
  let clear := fun (v off len : Nat) => match kv v with
    | some k => !overlaps off len k.start (k.stop - k.start) && !overlaps off len k.laStart (k.laEnd - k.laStart)
    | none => true
  1 ≤ n && n ≤ 2048 && s.len == 64 + 256 * n && 1 ≤ en.kind && en.kind ≤ 3 && 1 ≤ en.maxBatch && en.maxBatch ≤ 256 &&
  fld (leAt b 4 4) 31 23 == 0 && zeroAt b 0x20 0x20 && fld (leAt b 8 4) 31 10 == 0 && fld (leAt b 0x14 4) 31 10 == 0 &&
  (if en.kind = 3 then
     en.nslice == 0 && decide (en.inVt < i.vtiles) && decide (en.outVt < i.vtiles) && en.inOff % 64 == 0 && en.outOff % 64 == 0 &&
     decide (en.inOff + en.inMax ≤ 0x18000000) && decide (en.outOff + 64 + en.outMax ≤ 0x18000000) &&
     clear en.inVt en.inOff en.inMax && clear en.outVt en.outOff (64 + en.outMax)
   else decide (1 ≤ en.nslice) && decide (en.nslice ≤ 64) && zeroAt b 8 0x18) &&
  (List.range n).all (fun k =>
    let r := b.drop (64 + 256 * k)
    fld (leAt r 0 4) 31 12 == 0 && decide (fld (leAt r 0 4) 9 0 < i.vtiles) && zeroAt r 0x0C 0x34)

/-- The checks of a KVREGION section: aligned, in the column, clear of the COLUMN sections of its tile. -/
def kvOk (bs : List Byte) (i : Image) (s : Section) : Bool :=
  let k := readKv bs s
  [k.start, k.stop, k.laStart, k.laEnd].all (fun a => a % 0x4000 == 0 && decide (a ≤ 0x18000000)) && k.start ≤ k.stop &&
  k.laStart ≤ k.laEnd && leAt (sectionBytes bs s) 0x0A 2 == 0 && zeroAt (sectionBytes bs s) 0x14 0x0C &&
  (i.sections.filter (fun c => c.styp == 1 && c.vtile == s.vtile)).all (fun c =>
    !overlaps c.dest c.len k.start (k.stop - k.start) && !overlaps c.dest c.len k.laStart (k.laEnd - k.laStart))

/-- A COLUMN put among others in ascending DEST. -/
def destInsert (a : Nat × List Byte) : List (Nat × List Byte) → List (Nat × List Byte)
  | [] => [a]
  | b :: r => if a.1 ≤ b.1 then a :: b :: r else b :: destInsert a r

/-- The checks of a ROTSET section (Table Service-3, R475). -/
def rotOk (bs : List Byte) (i : Image) (s : Section) : Bool :=
  let b := sectionBytes bs s
  let cols := fun v => (imageColumns bs i v).foldl (fun l c => destInsert c l) []
  (List.range (s.len / 64)).all (fun k =>
    let r := b.drop (64 * k)
    let n := leAt r 0 4
    let ms := (List.range n).map (fun j => leAt r (4 + 2 * j) 2)
    2 ≤ n && n ≤ 16 && ms.all (fun v => decide (v < i.vtiles)) && ms.eraseDups.length == ms.length &&
    zeroAt r (4 + 2 * n) (32 - 2 * n) && zeroAt r 0x24 28 &&
    ms.all (fun v => cols v == cols (ms.headD 0)))

/-- The checks of a PEERS section. -/
def peersOk (bs : List Byte) (i : Image) (s : Section) : Bool :=
  let b := sectionBytes bs s
  (List.range 256).all (fun k =>
    let w := leAt b (2 * k) 2
    fld w 14 10 == 0 && (!bit w 15 || decide (fld w 9 0 < i.vtiles)))

/-- R204, R475: the whole image, once read, is valid: its CHECK and the contents of its sections. -/
def imageOk (bs : List Byte) (i : Image) : Bool :=
  bs.length == i.len && headerError (1, 2) bs i.len == none &&
  crc32c (bs.take 0x50 ++ leBytes 4 0 ++ bs.drop 0x54) == leAt bs 0x50 4 &&
  i.sections.all (fun s => match s.styp with
    | 2 => peersOk bs i s
    | 3 => entryOk bs i s
    | 4 => kvOk bs i s
    | 5 => rotOk bs i s
    | _ => true) &&
  (List.range i.nentry).all (fun n => ((imageEntries bs i).filter (fun x => x.num = n)).length == 1) &&
  (i.prefill == 0xFF ||
    ((imageEntries bs i).any (fun x => x.num == i.prefill && x.kind == 1) &&
     (imageEntries bs i).any (fun x => x.num == i.decode && x.kind == 2)))

-- Binding ------------------------------------------------------------------------------------------------------------

/-- Logical tiles that another image holds. -/
def Dev.boundTiles (d : Dev) : List TileId := d.svc.models.flatMap (fun p => p.2.bind)

/-- Present logical tiles of a half that no image holds, in ascending ID. -/
def Dev.freeTiles (d : Dev) (h : HalfId) : List TileId :=
  (List.finRange 512).filter (fun t => tileHalf t = h && (d.fab.siteOf t).isSome && !d.boundTiles.contains t)

/-- R208: the logical tiles that the virtual tiles are bound to; none where there are too few. -/
def Dev.bindTiles (d : Dev) (span : Bool) (n : Nat) : Option (List TileId) :=
  if span then
    let ts := d.freeTiles 0 ++ d.freeTiles 1
    if d.fab.halfUp[(0 : HalfId)] && d.fab.halfUp[(1 : HalfId)] && decide (n ≤ ts.length) then some (ts.take n) else none
  else if d.fab.halfUp[(0 : HalfId)] && decide (n ≤ (d.freeTiles 0).length) then some ((d.freeTiles 0).take n)
  else if d.fab.halfUp[(1 : HalfId)] && decide (n ≤ (d.freeTiles 1).length) then some ((d.freeTiles 1).take n)
  else none

/-- R119: a KV region divided into service rows, landing slices and groups. -/
def divideKv (model : Nat) (i : Image) (k : KvRegion) : KvTile :=
  let rows := (k.stop - k.start) / 1024
  let srv := alignUp (cdiv rows 64) 16
  let land := (k.start + 1024 * srv) / 0x4000
  let first := land + k.landSlices * (2 * i.heads)
  let n := (k.stop / 0x4000 - first) / Nat.max 1 i.pages
  { model := model, srvRow := k.start / 1024, srvRows := Nat.min srv rows, srvUsed := [], landBase := land, landSlices := k.landSlices
    landUsed := [], total := n, free := (List.range n).map (fun j => first + j * i.pages), freed := [], filling := [] }

/-- R65, R207 step 6: the peer table of the tile that carries virtual tile v, with the logical IDs of the bound peers. -/
def ModelSlot.peersOf (m : ModelSlot) (i : Image) (v : Nat) : Vector (BitVec 16) 256 :=
  match i.sections.find? (fun s => s.styp == 2 && s.vtile == v) with
  | none => Vector.replicate 256 0
  | some s =>
    let b := sectionBytes m.raw s
    Vector.ofFn (fun (k : Fin 256) =>
      let w := leAt b (2 * k.val) 2
      if bit w 15 then
        match m.roleTile (fld w 9 0) with
        | some t => BitVec.ofNat 16 (t.val + 2 ^ 15)
        | none => 0
      else 0)

/-- The peer tables of every bound tile written (R207 step 6, R230). -/
def Dev.writeAllPeers (d : Dev) (m : ModelSlotId) : Dev :=
  let s := d.model m
  match s.img with
  | none => d
  | some i =>
    s.bind.zipIdx.foldl (fun d p => match d.fab.siteOf p.1 with
      | some x => d.onFab (fun f => f.setSite x { f.site x with peers := s.peersOf i p.2 })
      | none => d) d

/-- MODEL_ZERO_FILL_COMPLETE (R207 step 4): every row of every bound slot holds zeros. -/
def Dev.modelZeroed (d : Dev) (m : ModelSlotId) : Dev :=
  let s := d.model m
  if s.phase ≠ .zeroing then d else
  let d := s.bind.foldl (fun d t => match d.fab.siteOf t with
    | some x => d.onFab (fun f =>
        let f := f.setCol x ((f.col x).fillRows { data := 0, poison := false, err := 0 })
        f.setSite x { f.site x with tags := [] })
    | none => d) d
  d.setModel m { s with phase := .copying }

/-- MODEL_COPY_COMPLETE (R207 steps 5–8). -/
def Dev.modelCopied (d : Dev) (e : Env) (m : ModelSlotId) : Dev :=
  let s := d.model m
  match s.phase, s.img with
  | .copying, some i =>
    let d := s.bind.zipIdx.foldl (fun d p =>
      (imageColumns s.raw i p.2).foldl (fun d c => d.onFab (fun f => f.slotWrite e p.1 c.1 c.2)) d) d
    let s := { s with phase := .loaded, entries := imageEntries s.raw i, kvs := imageKvs s.raw i, rots := imageRots s.raw i,
                      launchSeq := 0, recent := [], graphs := [] }
    let d := (d.setModel m s).writeAllPeers m
    let d := s.kvs.foldl (fun d k => match s.bind[k.vtile]? with
      | some t =>
        let d := d.setKvt t (some (divideKv m.val i k))
        d.onFab (fun f => { f with kvRegion := tset f.kvRegion none t.val (some (k.start, k.stop - k.start)) })
      | none => d) d
    match s.op with
    | some o => (d.setModel m { d.model m with op := none }).done e o.ctx o.dsn 0x10 o.tag 0 0xFFFFFFFF 0 0 0 3
    | none => d
  | _, _ => d

end Sys2Proof.Machine
end

