-- ==== Sys2Proof/Machine/Requests.lean ====
section
/-! DEFINITION. The descriptors of the submission rings (R210–R219, R236–R238), admission, ageing and work rotation (R221, R225,
R230, R231). -/

namespace Sys2Proof.Machine

-- The head of a ring -------------------------------------------------------------------------------------------------

/-- Word i of a descriptor, and a pair of words. -/
def dword (w i : Nat) : Nat := fld w (32 * i + 31) (32 * i)
def dpair (w i : Nat) : Nat := fld w (32 * i + 63) (32 * i)

/-- The opcodes of Table Service-8. -/
def descKnown (op : Nat) : Bool := [1, 2, 3, 4, 5, 6, 0x10, 0x11].contains op

/-- R211: descriptors of no known opcode at the head of a context's fetched ones end with BAD_DESC. -/
def Dev.drainBad (d : Dev) (e : Env) (c : CtxId) : Nat → Dev
  | 0 => d
  | n + 1 =>
    match (d.ctx c).fetched with
    | [] => d
    | (dsn, w) :: rest =>
      if descKnown (fld w 7 0) then d
      else ((d.modCtx c (fun v => { v with fetched := rest })).done e c dsn (fld w 7 0) (dpair w 2) 0x0A).drainBad e c n

/-- R260: a MODEL_LOAD or MODEL_UNLOAD of the ring that names the slot has no DONE yet. -/
def Dev.modelWaits (d : Dev) (c : CtxId) (m : Nat) : Bool :=
  match (d.model (modelFin m)).op with
  | some o => o.ctx = c
  | none => false

/-- The next descriptor of a context, where it has the opcode and R260 lets it be checked. -/
def Dev.headDesc (d : Dev) (c : CtxId) (op : Nat) : Option (Nat × Nat) :=
  match (d.ctx c).fetched with
  | [] => none
  | (dsn, w) :: _ =>
    if fld w 7 0 ≠ op then none else
    let names := match op with
      | 1 => some (fld w 35 32)
      | 4 => some (fld w 35 32)
      | 6 => some (fld w 35 32)
      | 0x10 => some (fld w 19 16)
      | 0x11 => some (fld w 19 16)
      | _ => none
    match names with
    | some m => if d.modelWaits c m then none else some (dsn, w)
    | none => some (dsn, w)

/-- The descriptor leaves the fetched ones. -/
def Dev.popDesc (d : Dev) (e : Env) (c : CtxId) : Dev :=
  let d := d.modCtx c (fun v => { v with fetched := v.fetched.drop 1 })
  d.drainBad e c ((d.ctx c).fetched.length + 1)

/-- A check: what fails, its END code, and the byte offset of the field. -/
abbrev Check := Bool × Nat × Nat

/-- The first check that fails (R211). -/
def firstBad (cs : List Check) : Option (Nat × Nat) := (cs.find? (fun c => c.1)).map (fun c => (c.2.1, if c.2.1 = 0x0A then c.2.2 else 0))

/-- DLVL (R206): 1 or 2, and 2 alone where the descriptor came with level 2, as far as the TSE image in force accepts it (R415). -/
def Dev.levelBad (d : Dev) (w : Nat) (only2 : Bool) : Check :=
  let l := fld w 15 8
  let taken := match (d.comp 3).active with | some i => decide (i.descMin ≤ l) && decide (l ≤ i.descN) | none => true
  (!((l == 2 || (l == 1 && !only2)) && taken), 0x0B, 0)

/-- Reserved bits of a word. -/
def resBad (w i hi lo : Nat) : Check := (fld (dword w i) hi lo != 0, 0x0A, 4 * i)

/-- A descriptor taken from its ring: refused with the END code of its first failing check, or acted on. -/
def Dev.takeDesc (d : Dev) (e : Env) (c : CtxId) (op : Nat) (checks : Nat → List Check) (act : Dev → Nat → Nat → Dev) : Dev :=
  match d.headDesc c op with
  | none => d
  | some (dsn, w) =>
    let d := d.popDesc e c
    match firstBad (checks w) with
    | some (code, off) => d.done e c dsn op (dpair w 2) code 0xFFFFFFFF 0 0 off (if op = 3 && bit w 16 then 2 else 0)
    | none => act d dsn w

/-- The read of its image's head that a KV_IMPORT or MODEL_LOAD makes once its other checks have passed; the flag is clear while it waits for a
tag or a translation (R263, R270). -/
def Dev.headRead (d : Dev) (e : Env) (c : CtxId) (op : Nat) (f : FuncId) (pre : Nat → List Check) : Dev × Bool :=
  match d.headDesc c op with
  | none => (d, true)
  | some (_, w) => if (firstBad (pre w)).isSome then (d, true) else d.readNow e f (dpair w 4) (d.readLen (dpair w 4))

-- GENERATE -----------------------------------------------------------------------------------------------------------

/-- A slot that serves GENERATE and KV_IMPORT: loaded, not failed, with PREFILL and DECODE entries (R216, R475). -/
def Dev.servesTokens (d : Dev) (m : Nat) : Bool :=
  let s := d.model (modelFin m)
  s.phase == .loaded && !s.failed && (match s.img with | some i => i.prefill != 0xFF | none => false)

/-- A slot that serves RUN_GRAPH. -/
def Dev.serves (d : Dev) (m : Nat) : Bool :=
  let s := d.model (modelFin m)
  s.phase == .loaded && !s.failed

/-- R292 step 4: a slot bound to a fenced half. -/
def Dev.slotFenced (d : Dev) (m : Nat) : Bool := (d.model (modelFin m)).bind.any (fun t => d.fab.fenced[tileHalf t])

/-- A HELD sequence of the context with the SEQ_ID. -/
def Dev.heldSeq (d : Dev) (c : CtxId) (id : Nat) : Option (SeqSlot × Seq) :=
  match d.seqById id with
  | some (q, s) =>
    if s.ctx = c && s.phase == .held && !s.exporting && !d.svc.imports.any (fun i => i.seq == some q) then some (q, s) else none
  | none => none

/-- The checks of GENERATE (Table Service-9, R206). -/
def Dev.genChecks (d : Dev) (c : CtxId) (w : Nat) : List Check :=
  let lvl1 := fld w 15 8 == 1
  let cont := bit w 23
  let temp := dword w 10
  let topp := dword w 11
  let minp := dword w 12
  let nalt := fld (dword w 1) 7 4
  [ d.levelBad w false
  , (lvl1 && fld w 23 22 != 0, 0x0A, 0x00)
  , resBad w 1 31 17, resBad w 6 31 21, resBad w 7 31 21
  , (lvl1 && minp != 0, 0x0A, 0x30)
  , (fld w 19 18 ≥ 2, 0x0A, 0x00)
  , (!d.servesTokens (fld (dword w 1) 3 0), 0x0C, 0x04)
  , (nalt > 8 || (!bit w 20 && nalt != 0), 0x0A, 0x04)
  , (fld (dword w 1) 16 8 > 256, 0x0A, 0x04)
  , (dpair w 4 % 64 != 0, 0x0A, 0x10)
  , (fld (dword w 6) 20 0 == 0 && !cont, 0x0A, 0x18)
  , (fld (dword w 7) 20 0 == 0 || fld (dword w 7) 20 0 > 1048576, 0x0A, 0x1C)
  , (dpair w 8 % 64 != 0, 0x0A, 0x20)
  , (!(temp == 0 || (2 ^ 23 ≤ temp && temp ≤ 0x42C80000)), 0x0A, 0x28)
  , (!(1 ≤ topp && topp ≤ 0x3F800000), 0x0A, 0x2C)
  , (!(minp < 0x3F800000 || minp == 0x80000000), 0x0A, 0x30)
  , (!cont && dword w 13 != 0, 0x0A, 0x34)
  , (cont && (d.heldSeq c (dword w 13)).isNone, 0x0F, 0x34) ]

/-- The request that a GENERATE makes. -/
def genReq (c : CtxId) (dsn w now : Nat) : GenReq :=
  { ctx := c, dsn := dsn, prio := fld w 17 16, method := fld w 19 18, logprob := bit w 20, ignoreEos := bit w 21
    holdKv := bit w 22, cont := bit w 23, reportEvery := fld w 31 24, model := fld (dword w 1) 3 0, nalt := fld (dword w 1) 7 4
    topK := fld (dword w 1) 16 8, tag := dpair w 2, promptAddr := dpair w 4, promptLen := fld (dword w 6) 20 0
    maxNew := fld (dword w 7) 20 0, outAddr := dpair w 8, temp := dword w 10, topP := dword w 11
    minP := if fld w 15 8 = 1 then 0 else dword w 12, contSeq := dword w 13, seed := dpair w 14, got := []
    ready := fld (dword w 6) 20 0 == 0, since := now, bump := 0 }

/-- R218: the input of a CONT once its prompt is there: LAST_TOKEN, then the prompt, from position TOKENS − 1 on. -/
def Seq.contInput (s : Seq) (prompt : List Nat) : Seq :=
  { s with input := s.lastToken :: prompt, inputPos := s.tokens - 1, fed := 0, tokens := s.tokens + prompt.length }

/-- A GENERATE that continues a HELD sequence (R218). -/
def Dev.genCont (d : Dev) (e : Env) (c : CtxId) (r : GenReq) : Dev :=
  match d.heldSeq c r.contSeq with
  | none => d
  | some (q, s) =>
    if 1048576 ≤ s.tokens + r.promptLen then
      d.done e c r.dsn 1 r.tag 0x03 (seqId q s.gen) 0 s.tokens 0 1
    else
      let s := { s with phase := .prefill, req := some r, count := 0, prio := r.prio, ending := none, since := svcNow e, bump := 0,
                        input := [], inputPos := 0, fed := 0 }
      let s := if r.ready then s.contInput [] else s
      (d.setSeq q (some s)).pumpAll e

/-- GENERATE (R212). -/
def Dev.generate (d : Dev) (e : Env) (c : CtxId) : Dev :=
  d.takeDesc e c 1 (d.genChecks c) (fun d dsn w =>
    let r := genReq c dsn w (svcNow e)
    if d.slotFenced r.model then d.done e c dsn 1 r.tag 0x07
    else if r.cont then d.genCont e c r
    else ({ d with svc := { d.svc with queue := d.svc.queue ++ [r] } }).pumpAll e)

/-- The tokens of a prompt that has been read. -/
def promptTokens (bs : List Byte) (n : Nat) : List Nat := (List.range n).map (fun i => leAt bs (4 * i) 4)

/-- A request leaves with an END code before it has a sequence of its own (R213), or gives its sequence back to HELD. -/
def Dev.failReq (d : Dev) (e : Env) (r : GenReq) (code : Nat) : Dev :=
  if r.cont then
    match d.liveSeqs.find? (fun p => match p.2.req with
        | some x => x.ctx == r.ctx && x.dsn == r.dsn
        | none => false) with
    | some (q, s) =>
      (d.setSeq q (some { s with phase := .held, req := none, count := 0 })).done e r.ctx r.dsn 1 r.tag code (seqId q s.gen) 0 s.tokens 0 1
    | none => d
  else
    ({ d with svc := { d.svc with queue := d.svc.queue.filter (fun x => !(x.ctx == r.ctx && x.dsn == r.dsn)) } }).done e r.ctx r.dsn 1
      r.tag code 0xFFFFFFFF 0 0 0 1

/-- Bytes of a prompt arrive (R213): once all are there, a token at or above VOCAB ends the request. -/
def Dev.promptBytes (d : Dev) (e : Env) (r : GenReq) (bs : List Byte) : Dev :=
  let got := r.got ++ bs
  let full := decide (4 * r.promptLen ≤ got.length)
  let toks := promptTokens got r.promptLen
  if full && toks.any (fun t => decide ((d.imgOf r.model).vocab ≤ t)) then d.failReq e r 0x0D
  else
    let r' := { r with got := got, ready := full }
    if r.cont then
      match d.liveSeqs.find? (fun p => p.2.req = some r) with
      | some (q, s) =>
        let s := { s with req := some r' }
        d.setSeq q (some (if full then s.contInput toks else s))
      | none => d
    else { d with svc := { d.svc with queue := d.svc.queue.map (fun x => if x = r then r' else x) } }

-- Admission ----------------------------------------------------------------------------------------------------------

/-- R221: may the request be admitted now? -/
def Dev.admissible (d : Dev) (e : Env) (r : GenReq) : Bool :=
  r.ready && (d.emptySlot).isSome && decide ((d.liveSeqs.filter (fun p => p.2.ctx = r.ctx)).length < d.maxSeq r.ctx) &&
  (let need := cdiv r.promptLen (Nat.max 1 (d.imgOf r.model).tp)
   kvLow e * d.totalGroups + 256 * need ≤ 256 * d.freeGroups)

/-- A request takes a sequence slot. -/
def Dev.admitReq (d : Dev) (e : Env) (r : GenReq) : Dev :=
  let d := { d with svc := { d.svc with queue := d.svc.queue.filter (fun x => !(x.ctx == r.ctx && x.dsn == r.dsn)) } }
  match d.emptySlot with
  | none => d
  | some q =>
    let s := newSeq (tget d.svc.gens 0 q.val) r.ctx r.model r.prio d.svc.orderNext (svcNow e)
    let d := { d with svc := { d.svc with orderNext := d.svc.orderNext + 1 } }
    (d.setSeq q (some { s with tokens := r.promptLen, input := promptTokens r.got r.promptLen, req := some r })).pumpAll e

/-- ADMISSION (R141, R221): requests of a slot that no longer serves end with BAD_MODEL, a prompt of 1,048,576 tokens or more ends
with SEQ_LIMIT, and of the rest the first by class, credit and age that may be admitted is. -/
def Dev.admission (d : Dev) (e : Env) : Dev :=
  match d.svc.queue.find? (fun r => !d.servesTokens r.model) with
  | some r => d.failReq e r 0x0C
  | none =>
    match d.svc.queue.find? (fun r => r.ready && decide (1048576 ≤ r.promptLen)) with
    | some r => d.failReq e r 0x03
    | none =>
      let items := (d.svc.queue.zipIdx.filter (fun p => d.admissible e p.1)).map (fun p =>
        ({ seq := slotFin p.2, ctx := p.1.ctx, cls := d.classOf p.1.ctx p.1.prio - p.1.bump, tokens := p.1.promptLen } : WaitRow))
      let r := drr d.weight false 1 1 (d.readyWork (fun _ => false) true) items d.svc.credits d.svc.admLast
      match r.rows with
      | [] => d
      | (i, _) :: _ =>
        match d.svc.queue[i.val]? with
        | some q => ({ d with svc := { d.svc with admLast := r.last, credits := r.credits } }).admitReq e q
        | none => d

/-- R225: has an item that waits since `since`, with `bump` classes gained, waited for a further AGE_MS? -/
def ageDue (e : Env) (cls since bump : Nat) : Bool :=
  ageTicks e != 0 && decide (bump < cls) && elapsed e.time .tokenService since (ageTicks e * (bump + 1))

/-- AGEING (R225). -/
def Dev.ageing (d : Dev) (e : Env) (w : WaitRef) : Dev :=
  match w with
  | .request c dsn =>
    { d with svc := { d.svc with queue := d.svc.queue.map (fun r =>
        if r.ctx == c && r.dsn == dsn && ageDue e (d.classOf r.ctx r.prio) r.since r.bump then { r with bump := r.bump + 1 } else r) } }
  | .sequence q =>
    match d.seq q with
    | some s =>
      if (d.decodeReady s.model ++ d.prefillReady s.model).any (fun p => p.1 == q) && ageDue e (d.classOf s.ctx s.prio) s.since s.bump then
        d.setSeq q (some { s with bump := s.bump + 1 })
      else d
    | none => d
  | .graph c dsn =>
    { d with svc := { d.svc with models := d.svc.models.map (fun p =>
        (p.1, { p.2 with graphs := p.2.graphs.map (fun g =>
          if g.ctx == c && g.dsn == dsn && ageDue e (d.classOf g.ctx g.prio) g.since g.bump then { g with bump := g.bump + 1 } else g) })) } }

-- CANCEL and RELEASE -------------------------------------------------------------------------------------------------

/-- R219: a sequence with a request is cancelled: at once where it is suspended or in no launch, otherwise after its launch. -/
def Dev.cancelSeq (d : Dev) (e : Env) (q : SeqSlot) : Dev :=
  match d.seq q with
  | none => d
  | some s =>
    if s.inLaunch = 0 && !d.undelivered q s.gen then d.endSeq e q 0x04 else d.setSeq q (some { s with ending := some (s.ending.getD 0x04) })

/-- The checks of CANCEL. -/
def Dev.cancelChecks (d : Dev) (c : CtxId) (w : Nat) : List Check :=
  let byTag := bit w 16
  let ok := match d.seqById (dword w 1) with
    | some (_, s) => s.ctx == c && s.req.isSome && s.kst != 5
    | none => false
  [ d.levelBad w false, resBad w 0 31 17, (fld w 511 192 != 0, 0x0A, 0x18)
  , (byTag && dword w 1 != 0, 0x0A, 0x04), (!byTag && !ok, 0x0F, 0x04), (!byTag && dpair w 4 != 0, 0x0A, 0x10) ]

/-- CANCEL (R219). -/
def Dev.cancel (d : Dev) (e : Env) (c : CtxId) : Dev :=
  d.takeDesc e c 2 (d.cancelChecks c) (fun d dsn w =>
    if bit w 16 then
      let tag := dpair w 4
      let qs := d.svc.queue.filter (fun r => r.ctx == c && r.tag == tag)
      let ss := d.liveSeqs.filter (fun p => match p.2.req with
        | some r => r.ctx == c && r.tag == tag && p.2.kst != 5
        | none => false)
      let gs := (d.svc.models.flatMap (fun p => p.2.graphs)).filter (fun g => g.ctx == c && g.tag == tag)
      let ls := d.svc.launches.filter (fun l => match l.graph with
        | some g => g.ctx == c && g.tag == tag && !g.cancelled && !l.told
        | none => false)
      let d := qs.foldl (fun d r => d.failReq e r 0x04) d
      let d := ss.foldl (fun d p => d.cancelSeq e p.1) d
      let d := gs.foldl (fun d g => (({ d with svc := { d.svc with models := d.svc.models.map (fun (p : Nat × ModelSlot) =>
        (p.1, { p.2 with graphs := p.2.graphs.filter (fun (x : GraphReq) => x ≠ g) })) } }).done e c g.dsn 6 g.tag 0x04)) d
      let d := { d with svc := { d.svc with launches := d.svc.launches.map (fun (l : Launch) =>
        if ls.contains l then { l with graph := l.graph.map (fun (g : GraphReq) => { g with cancelled := true }) } else l) } }
      d.done e c dsn 2 (dpair w 2) 0 0xFFFFFFFF (qs.length + ss.length + gs.length + ls.length)
    else
      match d.seqById (dword w 1) with
      | some (q, _) => (d.cancelSeq e q).done e c dsn 2 (dpair w 2) 0 (dword w 1) 1
      | none => d)

/-- RELEASE (R218). -/
def Dev.release (d : Dev) (e : Env) (c : CtxId) : Dev :=
  d.takeDesc e c 5 (fun w => [ d.levelBad w true, resBad w 0 31 16, (fld w 511 128 != 0, 0x0A, 0x10)
                             , ((d.heldSeq c (dword w 1)).isNone, 0x0F, 0x04) ]) (fun d dsn w =>
    match d.heldSeq c (dword w 1) with
    | some (q, _) => (d.freeSeq q).done e c dsn 5 (dpair w 2) 0 (dword w 1)
    | none => d)

-- Export and import --------------------------------------------------------------------------------------------------

/-- The checks of KV_EXPORT. -/
def Dev.exportChecks (d : Dev) (c : CtxId) (w : Nat) : List Check :=
  let cap := match d.heldSeq c (dword w 1) with
    | some (_, s) => decide (dpair w 6 < exportLen (d.imgOf s.model) s)
    | none => false
  -- R312: an RC queue pair in RTS, owned by the issuing context
  let qpn := fld (dword w 8) 23 0
  let r := (tget d.net.qps Qp.init qpn).rcd
  let qpOk := qpn < 8192 && fld r 2 0 == 1 && !bit r 3 && fld r 5 4 == 1 && fld r 27 16 == c.val
  [ d.levelBad w true, resBad w 0 31 18, resBad w 8 31 24, (fld w 511 320 != 0, 0x0A, 0x28), (bit w 16 && !qpOk, 0x10, 0)
  , ((d.heldSeq c (dword w 1)).isNone, 0x0F, 0x04), (dpair w 4 % 4096 != 0, 0x0A, 0x10), (cap, 0x14, 0x18) ]

/-- KV_EXPORT (R237): the pages of every group are queued as class 3 moves. -/
def Dev.kvExport (d : Dev) (e : Env) (c : CtxId) : Dev :=
  d.takeDesc e c 3 (d.exportChecks c) (fun d dsn w =>
    match d.heldSeq c (dword w 1) with
    | none => d
    | some (q, s) =>
      let img := d.imgOf s.model
      let gs := s.groups.take (exportGroups s.tokens img.tp)
      let x : Export := { ctx := c, dsn := dsn, tag := dpair w 2, seq := q, dest := b2n (bit w 16), addr := dpair w 4
                          qpn := fld (dword w 8) 23 0, rkey := dword w 9, release := bit w 17, left := gs.length * img.pages, bytes := 0
                          waiting := false }
      let d := d.setSeq q (some { s with exporting := true })
      if x.left = 0 then
        let x := { x with bytes := exportLen img s, waiting := x.dest != 0 }
        let d := ({ d with svc := { d.svc with exports := d.svc.exports ++ [x] } }).exportPut e x 0 (exportHead img s) []
        if x.dest = 0 then d.exportDone e x else d
      else
        let d := { d with svc := { d.svc with exports := d.svc.exports ++ [x] } }
        gs.foldl (fun d g => d.queueMoves e (if g.gst = 5 || g.gst = 6 then .tier2 else .host) 3 .export_ q s g.pos0) d)

/-- R236, R237: an import image is valid for the slot; the END code where it is not. -/
def Dev.importError (d : Dev) (m : Nat) (bs : List Byte) (len : Nat) : Option Nat :=
  let img := d.imgOf m
  let tokens := leAt bs 0x10 4 % 2 ^ 21
  let n := exportGroups tokens img.tp
  if leAt bs 0 4 == 0x56454B47 && leAt bs 4 4 == 1 && leAt bs 8 8 == img.id && fld (leAt bs 0x10 4) 31 21 == 0 &&
      leAt bs 0x1C 4 == img.layout && zeroAt bs 0x24 28 &&
      crc32c (bs.take 0x20 ++ leBytes 4 0 ++ (bs.drop 0x24).take 28) == leAt bs 0x20 4 && leAt bs 0x18 4 == n && 1 ≤ tokens then
    if 1048576 < tokens then some 0x03
    else if bs.length < exportBase n + n * (0x4000 * img.pages) || len < exportBase n + n * (0x4000 * img.pages) then some 0x11
    else none
  else some 0x11

/-- The checks of KV_IMPORT before its source is read. -/
def Dev.importPre (d : Dev) (w : Nat) : List Check :=
  let m := fld (dword w 1) 3 0
  [ d.levelBad w true, resBad w 0 31 18, resBad w 1 31 4, (fld w 511 256 != 0, 0x0A, 0x20)
  , (!d.servesTokens m, 0x0C, 0x04), (dpair w 4 % 4096 != 0, 0x0A, 0x10), (d.slotFenced m, 0x07, 0x04) ]

/-- The checks of KV_IMPORT. -/
def Dev.importChecks (d : Dev) (img : Option (List Byte)) (w : Nat) : List Check :=
  let bad := match img with
    | none => some 0x0E
    | some bs => d.importError (fld (dword w 1) 3 0) bs (dpair w 6)
  d.importPre w ++ [(bad.isSome, bad.getD 0, 0x10)]

/-- KV_IMPORT (R237): `img` is what the host read of the source gives, none where it fails. -/
def Dev.kvImport (d : Dev) (e : Env) (c : CtxId) (img : Option (List Byte)) : Dev :=
  let r := d.headRead e c 4 (d.ctx c).func d.importPre
  if !r.2 then r.1 else
  r.1.takeDesc e c 4 (r.1.importChecks img) (fun d dsn w =>
    match img with
    | none => d
    | some bs =>
      let i : Import := { ctx := c, dsn := dsn, tag := dpair w 2, prio := fld w 17 16, model := fld (dword w 1) 3 0, addr := dpair w 4
                          seq := none, img := bs, left := none }
      ({ d with svc := { d.svc with imports := d.svc.imports ++ [i] } }).tryImport e i)

-- RUN_GRAPH ----------------------------------------------------------------------------------------------------------

/-- The GRAPH entry that a RUN_GRAPH names. -/
def Dev.graphEntry (d : Dev) (m n : Nat) : Option Entry := ((d.model (modelFin m)).entry n).bind (fun x => if x.kind = 3 then some x else none)

/-- The checks of RUN_GRAPH. -/
def Dev.graphChecks (d : Dev) (w : Nat) : List Check :=
  let m := fld (dword w 1) 3 0
  let en := d.graphEntry m (fld w 31 24)
  let inMax := match en with | some x => x.inMax | none => 0
  [ d.levelBad w false, resBad w 0 23 18, resBad w 1 31 4, (fld w 511 320 != 0, 0x0A, 0x28)
  , (d.serves m && en.isNone, 0x0A, 0x00), (!d.serves m, 0x0C, 0x04), (dpair w 4 % 64 != 0, 0x0A, 0x10)
  , (dword w 6 % 64 != 0 || inMax < dword w 6, 0x0A, 0x18), (dpair w 8 % 64 != 0, 0x0A, 0x20) ]

/-- RUN_GRAPH (R238): the copy of the input into its staging starts. -/
def Dev.runGraph (d : Dev) (e : Env) (c : CtxId) : Dev :=
  d.takeDesc e c 6 d.graphChecks (fun d dsn w =>
    let m := modelFin (fld (dword w 1) 3 0)
    if d.slotFenced m.val then d.done e c dsn 6 (dpair w 2) 0x07 else
    let g : GraphReq := { ctx := c, dsn := dsn, prio := fld w 17 16, entry := fld w 31 24, inAddr := dpair w 4, inLen := dword w 6
                          outCap := dword w 7, outAddr := dpair w 8, tag := dpair w 2, got := [], ready := dword w 6 == 0
                          cancelled := false, since := svcNow e, bump := 0 }
    (d.setModel m { d.model m with graphs := (d.model m).graphs ++ [g] }).pumpAll e)

/-- Bytes of a RUN_GRAPH input arrive; the whole input goes to its staging in IN_VTILE's slot. -/
def Dev.graphBytes (d : Dev) (e : Env) (m : ModelSlotId) (g : GraphReq) (bs : List Byte) : Dev :=
  let got := g.got ++ bs
  let full := decide (g.inLen ≤ got.length)
  let s := d.model m
  let d := d.setModel m { s with graphs := s.graphs.map (fun x => if x = g then { g with got := if full then [] else got, ready := full } else x) }
  if full then
    match s.entry g.entry with
    | some en => match s.bind[en.inVt]? with
      | some t => d.onFab (fun f => f.slotWrite e t en.inOff (got.take g.inLen))
      | none => d
    | none => d
  else d

/-- A RUN_GRAPH that ends before its launch. -/
def Dev.failGraph (d : Dev) (e : Env) (m : ModelSlotId) (g : GraphReq) (code : Nat) : Dev :=
  let s := d.model m
  (d.setModel m { s with graphs := s.graphs.filter (fun x => x ≠ g) }).done e g.ctx g.dsn 6 g.tag code

-- Model slots --------------------------------------------------------------------------------------------------------

/-- R210: MODEL_LOAD and MODEL_UNLOAD belong to contexts of the PF. -/
def Dev.pfOnly (d : Dev) (c : CtxId) : Check := ((d.ctx c).func != 0, 0x10, 0)

/-- The checks of MODEL_LOAD before its image is read. -/
def Dev.loadPre (d : Dev) (c : CtxId) (w : Nat) : List Check :=
  [ d.pfOnly c, d.levelBad w false, resBad w 0 31 20, (dword w 1 != 0, 0x0A, 0x04), (fld w 511 256 != 0, 0x0A, 0x20)
  , ((d.model (modelFin (fld w 19 16))).phase != .empty, 0x13, 0x00), (dpair w 4 % 4096 != 0, 0x0A, 0x10) ]

/-- The image levels that the TSE image in force accepts. -/
def Dev.imageLevels (d : Dev) : Nat × Nat := match (d.comp 3).active with | some i => (i.imgMin, i.imgN) | none => (1, 2)

/-- The checks of MODEL_LOAD with step 1 of Table Service-7. -/
def Dev.loadChecks (d : Dev) (c : CtxId) (hdr : Option (List Byte)) (w : Nat) : List Check :=
  let bad := match hdr with
    | none => some 0x0E
    | some bs => headerError d.imageLevels bs (dpair w 6)
  d.loadPre c w ++ [(bad.isSome, bad.getD 0, 0x18)]

/-- MODEL_LOAD (R207 step 1): `hdr` holds the header and the section table as read, none where the read fails. -/
def Dev.modelLoad (d : Dev) (e : Env) (c : CtxId) (hdr : Option (List Byte)) : Dev :=
  let r := d.headRead e c 0x10 0 (d.loadPre c)
  if !r.2 then r.1 else
  r.1.takeDesc e c 0x10 (r.1.loadChecks c hdr) (fun d dsn w =>
    match hdr with
    | none => d
    | some bs =>
      (d.setModel (modelFin (fld w 19 16)) { ModelSlot.init with
        phase := .reading, op := some { ctx := c, dsn := dsn, tag := dpair w 2, addr := dpair w 4, len := dpair w 6 }
        img := some (readImage bs) }).pumpAll e)

/-- A load that fails leaves the slot empty and its tiles unbound (R207). -/
def Dev.loadFails (d : Dev) (e : Env) (m : ModelSlotId) (code : Nat) : Dev :=
  let s := d.model m
  let d := d.setModel m ModelSlot.init
  match s.op with
  | some o => d.done e o.ctx o.dsn 0x10 o.tag code
  | none => d

/-- The reads of an image have brought it, are under way, or can go out; the flag is clear while they wait (R263). -/
def Dev.imageIn (d : Dev) (e : Env) (m : ModelSlotId) : Dev × Bool :=
  match (d.model m).op with
  | none => (d, true)
  | some o => if o.len ≤ o.got then (d, true) else d.finishRead e (.model o.ctx m) 0 (o.addr + o.got) (o.len - o.got)

/-- MODEL_IMAGE_READ_COMPLETE (R207 steps 2 and 3): `img` is the whole image, none where the read fails. It waits while no read of it can go
out. -/
def Dev.imageRead (d : Dev) (e : Env) (m : ModelSlotId) (img : Option (List Byte)) : Dev :=
  if (d.model m).phase != .reading then d else
  let r := d.imageIn e m
  if !r.2 then r.1 else
  let d := r.1
  let s := d.model m
  match s.phase, s.img with
  | .reading, some i =>
    match img with
    | none => d.loadFails e m 0x0E
    | some bs =>
      if !imageOk bs i then d.loadFails e m 0x11 else
      match d.bindTiles i.span i.vtiles with
      | none => d.loadFails e m 0x12
      | some ts => d.setModel m { s with phase := .zeroing, raw := bs, bind := ts, img := some (readImage bs) }
  | _, _ => d

/-- Does the slot have work that keeps it from being unloaded (R209)? -/
def Dev.modelBusy (d : Dev) (m : ModelSlotId) : Bool :=
  d.liveSeqs.any (fun p => p.2.model = m.val) || !(d.model m).graphs.isEmpty ||
  d.svc.launches.any (fun l => l.model == m && l.graph.isSome)

/-- The checks of MODEL_UNLOAD. -/
def Dev.unloadChecks (d : Dev) (c : CtxId) (w : Nat) : List Check :=
  let m := modelFin (fld w 19 16)
  let p := (d.model m).phase
  [ d.pfOnly c, d.levelBad w false, resBad w 0 31 21, (dword w 1 != 0, 0x0A, 0x04), (fld w 511 128 != 0, 0x0A, 0x10)
  , (p == .empty, 0x0C, 0x00), (p != .loaded, 0x13, 0x00), (!bit w 20 && d.modelBusy m, 0x13, 0x00) ]

/-- Every sequence and request of a slot ends with a code, sequences in no state of HELD (R209, R292); a RUN_GRAPH in flight has its record
now and its launch goes on without one. -/
def Dev.endModelWork (d : Dev) (e : Env) (m : ModelSlotId) (code : Nat) : Dev :=
  let is := d.svc.imports.filter (fun i => i.model = m.val)
  let d := { d with svc := { d.svc with imports := d.svc.imports.filter (fun i => decide (i.model ≠ m.val)) } }
  let d := is.foldl (fun d i => d.done e i.ctx i.dsn 4 i.tag code) d
  let d := (d.liveSeqs.filter (fun p => p.2.model = m.val)).foldl (fun d p => if p.2.kst = 5 then d else d.dropSeq e p.1 code) d
  let d := (d.model m).graphs.foldl (fun d g => d.failGraph e m g code) d
  let ls := d.svc.launches.filter (fun l => l.model == m && l.graph.isSome && !l.told)
  let d := ls.foldl (fun d l => match l.graph with
    | some g => d.done e g.ctx g.dsn 6 g.tag code
    | none => d) d
  { d with svc := { d.svc with launches := d.svc.launches.map (fun (l : Launch) =>
    if l.model = m && l.graph.isSome then { l with told := true } else l) } }

/-- MODEL_UNLOAD (R209). -/
def Dev.modelUnload (d : Dev) (e : Env) (c : CtxId) : Dev :=
  d.takeDesc e c 0x11 (d.unloadChecks c) (fun d dsn w =>
    let m := modelFin (fld w 19 16)
    let d := d.endModelWork e m 0x04
    let d := d.setModel m { d.model m with phase := .unloading, op := some { ctx := c, dsn := dsn, tag := dpair w 2 } }
    d.finishUnload e m)

-- Rotation -----------------------------------------------------------------------------------------------------------

def rotMs (e : Env) : Nat := Nat.max 1 (fld (e.reg 0x4204) 15 0)
def rotOn (e : Env) : Bool := bit (e.reg 0x4204) 16

/-- The wear score of the tile that carries a virtual tile. -/
def Dev.wearOf (d : Dev) (s : ModelSlot) (v : Nat) : Nat :=
  match (s.bind[v]?).bind d.fab.siteOf with
  | some x => tget d.svc.wear 0 x.val
  | none => 0

/-- R230: the member that takes the role, if another does: the lowest score, the lower logical ID on a tie, and at least 8 below. -/
def Dev.rotNext (d : Dev) (s : ModelSlot) (r : RotSet) : Option Nat :=
  let best := r.members.zipIdx.foldl (fun (b : Option (Nat × Nat)) p =>
    match b with
    | none => some p
    | some q =>
      let a := d.wearOf s p.1
      let c := d.wearOf s q.1
      if a < c || (a == c && decide (((s.bind[p.1]?).map Fin.val).getD 0 < ((s.bind[q.1]?).map Fin.val).getD 0)) then some p else some q) none
  match best with
  | some (v, i) => if i ≠ r.active && d.wearOf s v + 8 ≤ d.wearOf s (r.members.getD r.active 0) then some i else none
  | none => none

/-- ROTATION_CHECK (R230, R231). -/
def Dev.rotationCheck (d : Dev) (e : Env) : Dev :=
  if rotOn e && elapsed e.time .tokenService d.svc.rotAt (1000 * rotMs e) then
    let d := { d with svc := { d.svc with rotAt := svcNow e } }
    { d with svc := { d.svc with models := d.svc.models.map (fun p =>
      if p.2.phase = .loaded then
        (p.1, { p.2 with startCl := p.2.startCl + 1, rots := p.2.rots.map (fun r => { r with next := d.rotNext p.2 r }) })
      else p) } }
  else d

/-- ROTATION_SWITCH (R230): with no launch of the slot in flight, the role moves and the peer tables that name it are rewritten. -/
def Dev.rotationSwitch (d : Dev) (m : ModelSlotId) : Dev :=
  let s := d.model m
  if d.svc.launches.any (fun l => l.model = m) || s.rots.all (fun r => r.next.isNone) then d
  else (d.setModel m { s with rots := s.rots.map (fun r => { r with active := r.next.getD r.active, next := none }) }).writeAllPeers m

end Sys2Proof.Machine
end

