-- ==== Sys2Proof/Machine/HostOps.lean ====
section
/-! DEFINITION. The host interface as commands reach it: doorbells, context control and binding, host reads, resets of
functions and contexts, the stack aperture (R241–R272). -/

namespace Sys2Proof.Machine

-- Reaching a context -------------------------------------------------------------------------------------------------

/-- R247: the context that a BAR2 page of a function belongs to; the flag says that a PF write is discarded and counted. -/
def Dev.bellCtx (d : Dev) (b : Bell) : Option (CtxId × Bool) :=
  if b.func = 0 then some (b.page, (d.ctx b.page).func != 0)
  else if d.funcOn b.func && decide (b.page.val < 16) then
    (d.liveCtxs.find? (fun c => (d.ctx c).func == b.func && (d.ctx c).loc == b.page.val)).map (fun c => (c, false))
  else none

/-- R247: does a function reach the window of a context for writing? -/
def Dev.owns (d : Dev) (f : FuncId) (c : CtxId) : Bool := (d.ctx c).func == f && d.funcOn f

/-- R247: does a function reach the window for reading? -/
def Dev.sees (d : Dev) (f : FuncId) (c : CtxId) : Bool := f == 0 || d.owns f c

/-- A doorbell write counted as discarded. -/
def Ctx.dropBell (v : Ctx) : Ctx := { v with dbDropped := satAdd 16 v.dbDropped 1 }

/-- R253, R254: a doorbell of the size it must have, in a state that accepts it. -/
def Dev.bell (d : Dev) (b : Bell) (size : Nat) (ok : CtxPhase → Bool) (act : CtxId → Nat → Dev) : Dev :=
  match d.bellCtx b with
  | none => d
  | some (c, dropped) =>
    if dropped then d.modCtx c Ctx.dropBell
    else if b.size ≠ size then d
    else if !ok (d.ctx c).phase then d.modCtx c Ctx.dropBell
    else act c b.v.toNat

def CtxPhase.isActive (p : CtxPhase) : Bool := p == .active
def CtxPhase.rings (p : CtxPhase) : Bool := p == .active || p == .draining || p == .faulted

/-- SQ_TAIL (R252, R254). -/
def Dev.sqTail (d : Dev) (e : Env) (b : Bell) : Dev :=
  d.bell b 4 CtxPhase.isActive (fun c v =>
    if v % 2 ^ 32 < (d.ctx c).sqSize then (d.modCtx c (fun x => { x with sqTail := v % 2 ^ 32 })).pumpAll e
    else d.ringFault e c 0x02)

/-- R254: is a head value within the circular range from the current head to the current tail? -/
def headOk (size head tail v : Nat) : Bool := decide (v < size) && decide (ringDist size head v ≤ ringDist size head tail)

/-- CQ_HEAD (R254, R256): slots become free and held records are written. -/
def Dev.cqHead (d : Dev) (e : Env) (b : Bell) : Dev :=
  d.bell b 4 CtxPhase.rings (fun c v =>
    let x := d.ctx c
    if headOk x.cqSize x.cqHead x.cqTail (v % 2 ^ 32) then
      (d.setCtx c { x with cqHead := v % 2 ^ 32 }).pumpRecords e c (x.held.length + 1)
    else d.ringFault e c 0x02)

/-- R257: with two slots free again, the EV_LOST event is written. -/
def Dev.eventsFree (d : Dev) (e : Env) (c : CtxId) : Dev :=
  let v := d.ctx c
  if v.eqLost && decide (2 ≤ v.eqFree) && d.canIssue v.func then
    (d.setCtx c { v with eqLost := false, evGone := 0 }).putEvent e c 0x04 0 v.evGone
  else d

/-- EQ_HEAD (R254, R257). -/
def Dev.eqHead (d : Dev) (e : Env) (b : Bell) : Dev :=
  d.bell b 4 CtxPhase.rings (fun c v =>
    let x := d.ctx c
    if headOk x.eqSize x.eqHead x.eqTail (v % 2 ^ 32) then (d.setCtx c { x with eqHead := v % 2 ^ 32 }).eventsFree e c
    else d.ringFault e c 0x02)

/-- IRQ_ARM (R258). -/
def Dev.irqArm (d : Dev) (e : Env) (b : Bell) : Dev :=
  d.bell b 4 CtxPhase.rings (fun c _ => (d.modCtx c (fun x => { x with armed := true })).irqEval e c)

/-- R261: the context that WAIT_CTX names for the function that writes the fence. -/
def Dev.fenceCtx (d : Dev) (f : FuncId) (w : Nat) : Option CtxId :=
  if f = 0 then
    let c : CtxId := ⟨w % 4096, Nat.mod_lt _ (by decide)⟩
    if (d.ctx c).func = 0 then some c else none
  else d.liveCtxs.find? (fun c => (d.ctx c).func == f && (d.ctx c).loc == w)

/-- FENCE_DOORBELL (R261, Table Host-13). -/
def Dev.fenceBell (d : Dev) (e : Env) (b : Bell) (i : Fin 4) : Dev :=
  d.bell b 8 CtxPhase.isActive (fun c v =>
    let x := d.ctx c
    let drop := d.event e c 0x05 i.val (v % 2 ^ 32)
    if fld v 31 28 != 0 || fld v 62 48 != 0 then drop
    else if !bit v 63 then
      match x.fences[i] with
      | some s => if dsnReached (d.ctx s.waitCtx).doneDsn s.waitDsn then d else (d.setCtx c { x with fences := x.fences.set i none }).pumpAll e
      | none => d
    else
      match d.fenceCtx b.func (fld v 27 16) with
      | none => drop
      | some w =>
        let fetched := 32768 ≤ (fld v 15 0 + 65536 - (x.nextDsn + x.fetching) % 65536) % 65536
        if x.fences[i].isSome || fetched then drop
        else (d.setCtx c { x with fences := x.fences.set i (some { atDsn := fld v 15 0, waitCtx := w, waitDsn := fld v 47 32 }) }).pumpAll e)

-- Context control ----------------------------------------------------------------------------------------------------

/-- The checks of ENABLE (R249). -/
def Ctx.configOk (v : Ctx) : Bool :=
  v.sqBase % 4096 == 0 && v.cqBase % 4096 == 0 && v.eqBase % 4096 == 0 &&
  decide (6 ≤ fld v.ringSize 3 0) && decide (6 ≤ fld v.ringSize 11 8) &&
  decide (4 ≤ fld v.ringSize 19 16) && decide (fld v.ringSize 19 16 ≤ 12) &&
  (!bit v.irq 31 || decide (fld v.irq 10 0 < (if v.func = 0 then 2048 else 16))) &&
  v.swapBase % 16384 == 0 && decide (v.swapBase + v.swapSize * 16384 ≤ 2 ^ 64)

/-- What a successful ENABLE sets (R249). -/
def Ctx.started (v : Ctx) : Ctx :=
  { v with
    phase := .active, cause := 0, sqHead := 0, sqTail := 0, cqHead := 0, cqTail := 0, eqHead := 0, eqTail := 0, nextDsn := 0
    cqPhase := true, eqPhase := true, armed := true, fences := Vector.replicate 4 none, open_ := [], fetched := [], fetching := 0
    held := [], flushing := false, cqStall := false, pend := 0, evPend := false }

/-- ENABLE (R249). -/
def Dev.enable (d : Dev) (e : Env) (f : FuncId) (c : CtxId) : Dev :=
  if !d.owns f c || (d.ctx c).phase != .disabled then d
  else if (d.ctx c).configOk then (d.modCtx c Ctx.started).eventsFree e c
  else d.ringFault e c 0x01

/-- DISABLE (R250). -/
def Dev.disable (d : Dev) (e : Env) (f : FuncId) (c : CtxId) : Dev :=
  if !d.owns f c || (d.ctx c).phase != .active then d
  else (d.modCtx c (fun v => { v with phase := .draining })).drainCheck e c

def ResetKind.rank : ResetKind → Nat
  | .cmd => 0
  | .bme => 1
  | .flr => 2
  | .pfFlr => 3

/-- The window registers at their reset values (Table Host-16 step 3). -/
def Ctx.resetWindow (v : Ctx) : Ctx :=
  let z := Ctx.init
  { v with sqBase := z.sqBase, cqBase := z.cqBase, eqBase := z.eqBase, ringSize := z.ringSize, irq := z.irq, irqTime := z.irqTime,
           cfg := z.cfg, swapBase := z.swapBase, swapSize := z.swapSize, evLost := 0, dbDropped := 0 }

/-- Indices, DSNs, held records and fence slots cleared (Table Host-7 steps 2 and 7). -/
def Ctx.cleared (v : Ctx) : Ctx :=
  { v with
    cause := 0, sqHead := 0, sqTail := 0, cqHead := 0, cqTail := 0, eqHead := 0, eqTail := 0, nextDsn := 0, cqPhase := false
    eqPhase := false, open_ := [], fetched := [], fetching := 0, fences := Vector.replicate 4 none, held := [], flushing := false
    cqStall := false, eqLost := false, evGone := 0, armed := false, pend := 0, evPend := false }

/-- Launches in flight that name a group of the context. -/
def Dev.launchesNaming (d : Dev) (c : CtxId) : List (BitVec 16) :=
  let gs := (d.liveSeqs.filter (fun p => p.2.ctx = c)).flatMap (fun p => p.2.groups.map (fun g => (g.tile, g.base)))
  (d.svc.launches.filter (fun l => l.names.any (fun n => gs.contains n))).map (·.tag)

/-- A model operation of a context that is being reset: a load leaves its slot empty, an unload goes on without a record. -/
def Dev.endModelOp (d : Dev) (c : CtxId) (m : ModelSlotId) : Dev :=
  let s := d.model m
  match s.op with
  | some o =>
    if o.ctx ≠ c then d
    else if s.phase == .unloading then d.setModel m { s with op := none } else d.setModel m ModelSlot.init
  | none => d

/-- Table Host-7 steps 3 and 4: every request, sequence and move of the context ends with no record (R219). -/
def Dev.endCtxWork (d : Dev) (c : CtxId) : Dev :=
  let d := { d with svc := { d.svc with
    queue := d.svc.queue.filter (fun r => r.ctx ≠ c)
    models := d.svc.models.map (fun (p : Nat × ModelSlot) => (p.1, { p.2 with graphs := p.2.graphs.filter (fun (g : GraphReq) => g.ctx ≠ c) }))
    launches := d.svc.launches.map (fun (l : Launch) => match l.graph with
      | some g => if g.ctx = c then { l with graph := none } else l
      | none => l)
    exports := d.svc.exports.filter (fun x => x.ctx ≠ c)
    imports := d.svc.imports.filter (fun i => i.ctx ≠ c)
    rdma := d.svc.rdma.filter (fun r => r.ctx ≠ c) } }
  let d := (d.liveSeqs.filter (fun p => p.2.ctx = c)).foldl (fun d p => d.freeSeq p.1) d
  (List.finRange 16).foldl (fun d m => d.endModelOp c m) d

/-- R261: fences that wait on a context in RESET_PENDING are released. -/
def Dev.breakFences (d : Dev) (e : Env) (w : CtxId) : Dev :=
  d.liveCtxs.foldl (fun d c =>
    if c = w then d else
    (List.finRange 4).foldl (fun d i =>
      match (d.ctx c).fences[i] with
      | some f =>
        if f.waitCtx = w then
          let arg := if (d.ctx c).func = 0 then w.val else (d.ctx w).loc
          (d.modCtx c (fun v => { v with fences := v.fences.set i none })).event e c 0x06 i.val arg
        else d
      | none => d) d) d

/-- R251, Table Host-7 steps 1–5: a context reset starts. -/
def Dev.startReset (d : Dev) (e : Env) (c : CtxId) (k : ResetKind) : Dev :=
  let v := d.ctx c
  if v.phase = .resetPending then
    d.setCtx c { v with reset := some (match v.reset with
      | some j => if j.rank < k.rank then k else j
      | none => k) }
  else
    let tags := d.launchesNaming c
    let d := d.setCtx c { v.cleared with phase := .resetPending, reset := some k, waitTags := tags }
    let d := { d with host := { d.host with posts := d.host.posts.filter (fun p => p.ctx != some c) } }
    ((d.endCtxWork c).breakFences e c).pumpAll e

/-- RESET (R247, R249, R251). -/
def Dev.resetCtx (d : Dev) (e : Env) (f : FuncId) (c : CtxId) : Dev :=
  if (d.owns f c || f == 0) && (d.ctx c).phase != .resetPending then d.startReset e c .cmd else d

/-- The context that a host read serves; a translation request serves a function. -/
def ReadUse.ctx : ReadUse → Option CtxId
  | .fetch c _ => some c
  | .flush c => some c
  | .prompt c _ => some c
  | .graphIn c _ => some c
  | .model c _ => some c
  | .page c _ _ _ _ => some c
  | .translate _ _ => none

/-- Are reads of the context outstanding? -/
def Dev.readsOf (d : Dev) (c : CtxId) : Bool :=
  d.host.tags.any (fun p => match p.2 with
    | some t => t.use.ctx == some c && t.quar.isNone
    | none => false)

/-- CONTEXT_RESET_COMPLETE (Table Host-7 steps 5–7). -/
def Dev.resetDone (d : Dev) (e : Env) (c : CtxId) : Dev :=
  let v := d.ctx c
  if v.phase = .resetPending && !d.readsOf c && decide (v.quarEnd ≤ hostNow e) &&
      v.waitTags.all (fun t => !d.svc.launches.any (fun l => l.tag == t)) then
    let w := { v.cleared with phase := .disabled, reset := none, waitTags := [] }
    match v.reset with
    | some .flr => d.setCtx c w.resetWindow
    | some .pfFlr => d.setCtx c { w.resetWindow with func := 0, loc := 0 }
    | _ => d.setCtx c w
  else d

/-- BSN_CTX_BIND (R246). -/
def Dev.bind (d : Dev) (e : Env) (f : FuncId) (v : Word) : Dev :=
  if f ≠ 0 then d else
  let c : CtxId := ⟨fld (e.reg 0x4300) 11 0 % 4096, Nat.mod_lt _ (by decide)⟩
  let fn := fld v.toNat 8 0
  let k := fld v.toNat 19 16
  let g : FuncId := ⟨fn % 256, Nat.mod_lt _ (by decide)⟩
  let taken := fn != 0 && d.liveCtxs.any (fun x => x != c && (d.ctx x).func.val == fn && (d.ctx x).loc == k)
  if 256 ≤ fn || (fn == 0 && k != 0) || taken || (d.ctx c).phase != .disabled then
    { d with host := { d.host with rejected := true } }
  else { d.modCtx c (fun x => { x with func := g, loc := k }) with host := { (d.modCtx c (fun x => { x with func := g, loc := k })).host with rejected := false } }

/-- CQ_STALL (R256): a record has been held for want of a slot for 100 ms. -/
def Dev.cqStall (d : Dev) (e : Env) (c : CtxId) : Dev :=
  let v := d.ctx c
  match v.held with
  | [] => d
  | h :: _ =>
    if !v.cqStall && v.phase != .resetPending && v.cqFree = 0 && h.full.any (fun t => elapsed e.time .hostInterface t 100000) then
      (d.setCtx c { v with cqStall := true }).event e c 0x03 0 h.rcd.dsn
    else d

-- Host reads ---------------------------------------------------------------------------------------------------------

/-- The upper end in µs of a sub-range of the completion timeout, by its code in Device Control 2 (R264). PRESUMED: the codes of PCI Express
Base; a code that names no sub-range acts as the default. -/
def ctoUs : Nat → Nat
  | 1 => 100
  | 2 => 10000
  | 5 => 55000
  | 6 => 210000
  | 9 => 900000
  | 10 => 3500000
  | 13 => 13000000
  | 14 => 64000000
  | _ => 50000

/-- T_CTO of a function in µs (R264). -/
def Dev.cto (d : Dev) (f : FuncId) : Nat := ctoUs (d.cfg f).cto

/-- A tag leaves use. -/
def Dev.dropTag (d : Dev) (t : TagId) : Dev := { d with host := { d.host with tags := tset d.host.tags none t.val none } }

/-- R270: invalidations whose requests have all completed are answered. -/
def Dev.invalidated (d : Dev) : Dev :=
  let open_ := fun (t : Nat) => match tget d.host.tags none t with
    | some s => s.quar.isNone
    | none => false
  let left := d.host.inval.map (fun p => (p.1, p.2.1, p.2.2.filter open_))
  let done := left.filter (fun p => p.2.2.isEmpty)
  done.foldl (fun d p => d.send (.invalidateDone p.1.val p.2.1))
    { d with host := { d.host with inval := left.filter (fun p => !p.2.2.isEmpty) } }

/-- The descriptors of a fetch that has completed (R252): DSNs are given, satisfied fence slots emptied. -/
def Dev.fetchedData (d : Dev) (e : Env) (c : CtxId) (n : Nat) (bs : List Byte) : Dev :=
  let v := d.ctx c
  if v.phase = .resetPending || v.phase = .disabled || v.fetching = 0 then d else
  let ds := (List.range n).map (fun i => ((v.nextDsn + i) % 65536, leNat (padTo 64 (bs.drop (64 * i)))))
  let next := (v.nextDsn + n) % 65536
  let past := fun (s : Option FenceSlot) => match s with
    | some f => if (f.atDsn + 65536 - next) % 65536 < 32768 then some f else none
    | none => none
  let d := d.setCtx c { v with
    fetching := 0, sqHead := (v.sqHead + n) % v.sqSize, nextDsn := next, open_ := v.open_ ++ ds.map (·.1)
    fetched := v.fetched ++ ds, fences := v.fences.map past }
  (d.drainBad e c ((d.ctx c).fetched.length + 1)).drainCheck e c

/-- The move with its index for which a page is read. -/
def Dev.pageMove (d : Dev) (u : ReadUse) : Option (Nat × Move) :=
  (d.svc.moves.zipIdx.find? (fun p => match d.pageRead p.1 with
    | some (v, _) => v == u
    | none => false)).map (fun p => (p.2, p.1))

/-- Table Host-14: what a failed read does to its consumer; `cause` is HOST_READ or TRANSLATION. -/
def Dev.useFails (d : Dev) (e : Env) (u : ReadUse) (cause : Nat) : Dev :=
  match u with
  | .fetch c _ =>
    if (d.ctx c).fetching = 0 then d
    else ((d.modCtx c (fun v => { v with fetching := 0 })).ringFault e c cause).drainCheck e c
  | .flush c =>
    let v := d.ctx c
    if !v.flushing then d else
    match v.held with
    | [] => d.setCtx c { v with flushing := false }
    | h :: hs =>
      ((d.setCtx c { v with flushing := false, held := { h with flushed := true } :: hs }).ringFault e c cause).pumpRecords e c
        (v.held.length + 1)
  | .prompt c dsn => match d.promptReq c dsn with
    | some r => d.failReq e r 0x0E
    | none => d
  | .graphIn c dsn => match d.graphReq c dsn with
    | some (m, g) => d.failGraph e m g 0x0E
    | none => d
  | .model _ m => if (d.model m).phase == .reading then d.loadFails e m 0x0E else d
  | .page .. => match d.pageMove u with
    | some (i, m) => d.moveEnds e i m .readError
    | none => d
  | .translate .. => d

/-- R264: a read that waits for the translation of a page fails. -/
def Dev.waitFails (d : Dev) (e : Env) (f : FuncId) (page cause : Nat) (u : ReadUse) : Dev :=
  match d.nextRead u with
  | some (g, a, _) =>
    if g ≠ f || a / 4096 ≠ page then d else
    match u with
    | .fetch c _ => (d.modCtx c (fun v => { v with fetching := d.fetchCount c })).useFails e u cause
    | .flush c => (d.modCtx c (fun v => { v with flushing := true })).useFails e u cause
    | _ => d.useFails e u cause
  | none => d

/-- R264: the writes to a page whose translation is refused are discarded, and their contexts are FAULTED with TRANSLATION. -/
def Dev.dropPosts (d : Dev) (e : Env) (f : FuncId) (page : Nat) : Dev :=
  let mine := fun (p : Post) => p.func == f && p.vec.isNone && p.addr / 4096 == page
  let cs := ((d.host.posts.filter mine).filterMap (·.ctx)).eraseDups
  cs.foldl (fun d c => d.ringFault e c 0x04) { d with host := { d.host with posts := d.host.posts.filter (fun p => !mine p) } }

/-- R270: the answer to a translation request: what it allows goes into the cache, and what it refuses fails. -/
def Dev.translated (d : Dev) (e : Env) (f : FuncId) (page : Nat) (t : AtcEntry) (cause : Nat) : Dev :=
  let atc := d.host.atc.filter (fun x => !(x.func == f && x.page == page)) ++ (if t.r || t.w then [t] else [])
  let d := { d with host := { d.host with atc := atc.drop (atc.length - 4096) } }
  let d := if t.r then d else d.waitingUses.foldl (fun d u => d.waitFails e f page cause u) d
  let d := if t.w then d else d.dropPosts e f page
  Dev.drainPosts e d.host.posts [] [] d

/-- Table Host-14: what a failed read does. A translation request that fails allows nothing. -/
def Dev.readFails (d : Dev) (e : Env) (u : ReadUse) (cause : Nat) : Dev :=
  match u with
  | .translate f page => d.translated e f page { func := f, page := page, dst := 0, r := false, w := false } cause
  | _ => d.useFails e u cause

/-- The bytes of a page or of an image that a read has brought, counted. -/
def Dev.countGot (d : Dev) (u : ReadUse) : Dev :=
  match u with
  | .model c m =>
    let s := d.model m
    match s.op with
    | some o => if o.ctx = c && s.phase == .reading then d.setModel m { s with op := some { o with got := o.got + Nat.min (d.readLen (o.addr + o.got)) (o.len - o.got) } } else d
    | none => d
  | .page .. =>
    match d.pageMove u with
    | some (i, m) =>
      match d.pageRead m with
      | some (_, a) =>
        let m' := { m with got := m.got + Nat.min (d.readLen (a + m.got)) (16384 - m.got) }
        { d with svc := { d.svc with moves := d.svc.moves.set i m' } }
      | none => d
    | none => d
  | _ => d

/-- Data that a host read returns, given to its consumer. -/
def Dev.readData (d : Dev) (e : Env) (u : ReadUse) (bs : List Byte) : Dev :=
  match u with
  | .fetch c n => d.fetchedData e c n bs
  | .flush c =>
    let v := d.ctx c
    if !v.flushing then d else
    match v.held with
    | [] => d.setCtx c { v with flushing := false }
    | h :: hs =>
      (d.setCtx c { v with flushing := false, held := { h with flushed := true } :: hs }).pumpRecords e c (v.held.length + 1)
  | .prompt c dsn => match d.promptReq c dsn with
    | some r => d.promptBytes e r (padTo (Nat.min (d.readLen (r.promptAddr + r.got.length)) (4 * r.promptLen - r.got.length)) bs)
    | none => d
  | .graphIn c dsn => match d.graphReq c dsn with
    | some (m, g) => d.graphBytes e m g (padTo (Nat.min (d.readLen (g.inAddr + g.got.length)) (g.inLen - g.got.length)) bs)
    | none => d
  | .translate f page =>
    -- PRESUMED: the translation entry of PCI Express Base: bits 63:12 the address, bit 1 writes and bit 0 reads allowed
    let w := leAt (padTo 8 bs) 0 8
    d.translated e f page { func := f, page := page, dst := w / 4096, r := bit w 0, w := bit w 1 } 0x04
  | _ => d.countGot u

/-- R265, R266: a completion for a tag in quarantine, or for a read that timed out earlier, is discarded and counted. -/
def Dev.lateCompletion (d : Dev) (tag : TagId) : Dev :=
  match tget d.host.tags none tag.val with
  | some t =>
    match t.quar with
    | some _ =>
      if t.timedOut then ({ d with host := { d.host with lateCpl := satAdd 16 d.host.lateCpl 1 } }).aerLog t.func 16
      else { d with host := { d.host with discCpl := satAdd 16 d.host.discCpl 1 } }
    | none => d
  | none =>
    match d.host.expired.find? (fun p => p.1 = tag.val) with
    | some p => ({ d with host := { d.host with lateCpl := satAdd 16 d.host.lateCpl 1 } }).aerLog p.2 16
    | none => d

/-- HOST_READ_COMPLETION (R263, R264). -/
def Dev.readCompletion (d : Dev) (e : Env) (tag : TagId) (r : HostReadResult) : Dev :=
  match tget d.host.tags none tag.val with
  | none => d.lateCompletion tag
  | some t =>
    if t.quar.isSome then d.lateCompletion tag else
    let d := d.dropTag tag
    let d := if r = .poisoned then d.aerLog t.func 12 else d
    let d := match r with
      | .data bs => d.readData e t.use bs
      | .refused => d.readFails e t.use 0x04
      | _ => d.readFails e t.use 0x03
    d.invalidated.pumpAll e

/-- COMPLETION_TIMEOUT (R264, R265). -/
def Dev.readTimeout (d : Dev) (e : Env) (tag : TagId) : Dev :=
  match tget d.host.tags none tag.val with
  | none => d
  | some t =>
    if t.quar.isSome || !elapsed e.time .hostInterface t.at_ (d.cto t.func) then d else
    let q := { t with quar := some (hostNow e + 2 * d.cto t.func), timedOut := true }
    let d := ({ d with host := { d.host with tags := tset d.host.tags none tag.val (some q) } }).aerLog t.func 14
    ((d.readFails e t.use 0x03).invalidated).pumpAll e

/-- QUARANTINE_END (R265, R266): the tag returns to the pool. -/
def Dev.quarantineEnd (d : Dev) (e : Env) (tag : TagId) : Dev :=
  match tget d.host.tags none tag.val with
  | none => d
  | some t =>
    match t.quar with
    | some q =>
      if q ≤ hostNow e then
        let d := d.dropTag tag
        let d := if t.timedOut then { d with host := { d.host with expired := d.host.expired ++ [(tag.val, t.func)] } } else d
        d.pumpAll e
      else d
    | none => d

-- Functions ----------------------------------------------------------------------------------------------------------

/-- Table Host-15 for one function: its requests stop, its tags are quarantined, its contexts enter RESET_PENDING. -/
def Dev.stopFunction (d : Dev) (e : Env) (f : FuncId) (k : ResetKind) : Dev :=
  let until_ := hostNow e + 2 * d.cto f
  let d := { d with host := { d.host with
    bme := tset d.host.bme false f.val false
    tags := d.host.tags.map (fun (p : Nat × Option TagSt) => match p.2 with
      | some t => if t.func = f && t.quar.isNone then (p.1, some { t with quar := some until_, timedOut := false }) else p
      | none => p)
    inval := d.host.inval.filter (fun p => p.1 ≠ f)
    posts := d.host.posts.filter (fun p => p.func ≠ f) } }
  d.liveCtxs.foldl (fun d c =>
    if (d.ctx c).func = f then (d.startReset e c k).modCtx c (fun v => { v with quarEnd := Nat.max v.quarEnd until_ }) else d) d

/-- A context that nothing has touched is bound to the PF and DISABLED: it enters RESET_PENDING too, which the model shows by
listing it. -/
def Dev.listCtxs (d : Dev) (cs : List CtxId) : Dev := cs.foldl (fun d c => d.setCtx c (d.ctx c)) d

/-- BUS_MASTER_ENABLE_CLEAR (R266). -/
def Dev.bmeClear (d : Dev) (e : Env) (f : FuncId) : Dev :=
  let d := if f = 0 then d.listCtxs (List.finRange 4096) else d
  d.stopFunction e f .bme

/-- BUS_MASTER_ENABLE_SET (R266). -/
def Dev.bmeSet (d : Dev) (e : Env) (f : FuncId) : Dev :=
  if d.host.perst || !d.funcOn f then d
  else ({ d with host := { d.host with bme := tset d.host.bme false f.val true, linkUp := true } }).pumpAll e

/-- Table Host-16 step 3: MSI-X table and configuration space of a function at reset values, with its contexts' windows. -/
def Dev.resetFunction (d : Dev) (f : FuncId) : Dev :=
  let d := { d with host := { d.host with
    msix := d.host.msix.filter (fun p => p.1 / 4096 ≠ f.val)
    cfg := tset d.host.cfg CfgSt.init f.val CfgSt.init
    atc := d.host.atc.filter (fun t => t.func ≠ f) } }
  d.liveCtxs.foldl (fun d c => if (d.ctx c).func = f then d.modCtx c Ctx.resetWindow else d) d

/-- An FLR of a VF (R267). -/
def Dev.flrVf (d : Dev) (e : Env) (f : FuncId) : Dev := (d.stopFunction e f .flr).resetFunction f

/-- An FLR of the PF (Table Host-16): every function and every context. -/
def Dev.flrPf (d : Dev) (e : Env) : Dev :=
  let d := d.listCtxs (List.finRange 4096)
  let fs := (List.finRange 256).filter (fun f => d.funcOn f || d.liveCtxs.any (fun c => (d.ctx c).func = f))
  let d := fs.foldl (fun d f => (d.stopFunction e f .pfFlr).resetFunction f) d
  let d := { d with
    host := { d.host with
      vfs := 0, lateCpl := 0, discCpl := 0, aptPoison := 0, aptPartial := 0, rejected := false
      ctxs := d.host.ctxs.map (fun (p : Nat × Ctx) => (p.1, { p.2 with dbDropped := 0, evLost := 0 })) }
    regs := tdel (tdel d.regs 0x4300) 0x4308 }
  d

/-- FUNCTION_LEVEL_RESET (R267). -/
def Dev.flr (d : Dev) (e : Env) (f : FuncId) : Dev :=
  if f = 0 then d.flrPf e else if d.funcOn f then d.flrVf e f else d

/-- HOST_LINK_LOSS (R272). -/
def Dev.linkLoss (d : Dev) (e : Env) : Dev :=
  let d := d.flrPf e
  { d with host := { d.host with linkUp := false } }

/-- PERST_N_ASSERT (R404). -/
def Dev.perstAssert (d : Dev) (e : Env) : Dev :=
  if d.host.perst then d else
  let d := d.flrPf e
  { d with host := { d.host with linkUp := false, perst := true }, lkk := { d.lkk with lastLevel := 0, lastCause := 4 } }

/-- ATS_INVALIDATION (R270). -/
def Dev.atsInvalidate (d : Dev) (f : FuncId) (page : Nat) : Dev :=
  if f = 0 || !d.funcOn f then d else
  let ts := (d.host.tags.filter (fun p => match p.2 with
    | some t => t.func == f && t.page == page && t.quar.isNone
    | none => false)).map (·.1)
  ({ d with host := { d.host with
    atc := d.host.atc.filter (fun t => !(t.func == f && t.page == page))
    inval := d.host.inval ++ [(f, page, ts)] } }).invalidated

/-- VF_ENABLE (R246): VFs 1 to n are enabled. -/
def Dev.vfEnable (d : Dev) (e : Env) (n : Fin 256) : Dev :=
  if d.host.vfs = 0 then ({ d with host := { d.host with vfs := n.val } }).pumpAll e else d

-- Read-to-clear counters ---------------------------------------------------------------------------------------------

/-- R91: a read-to-clear register of the PF: the value is returned and the counters are cleared. Another function has no such
register in its BAR0 (R243). -/
def Dev.readRc (d : Dev) (f : FuncId) (value : Nat) (clear : Dev → Dev) : Dev :=
  if f = 0 then (clear d).send (.regValue value) else d.send (.regValue 0)

def Dev.readCtxErr (d : Dev) (f : FuncId) (c : CtxId) : Dev :=
  let v := d.ctx c
  if d.sees f c then
    (d.setCtx c { v with evLost := 0, dbDropped := 0 }).send (.regValue (v.evLost * 2 ^ 16 + v.dbDropped))
  else d.send (.regValue 0)

def Dev.readHostErr (d : Dev) (f : FuncId) : Dev :=
  d.readRc f (d.host.lateCpl * 2 ^ 16 + d.host.discCpl) (fun d => { d with host := { d.host with lateCpl := 0, discCpl := 0 } })

def Dev.readAptErr (d : Dev) (f : FuncId) : Dev :=
  d.readRc f (d.host.aptPoison * 2 ^ 16 + d.host.aptPartial) (fun d => { d with host := { d.host with aptPoison := 0, aptPartial := 0 } })

def Dev.readBargeErr (d : Dev) (f : FuncId) : Dev :=
  d.readRc f (d.svc.poisonMoves * 2 ^ 16 + d.svc.t2Fallbacks) (fun d => { d with svc := { d.svc with poisonMoves := 0, t2Fallbacks := 0 } })

def Dev.readLaunchErr (d : Dev) (f : FuncId) : Dev :=
  d.readRc f (d.svc.launchFaults * 2 ^ 16 + d.svc.replays) (fun d => { d with svc := { d.svc with launchFaults := 0, replays := 0 } })

-- The stack aperture -------------------------------------------------------------------------------------------------

/-- The tile and slot offset of a stack address (R24). -/
def stackTile (addr : Nat) : TileId := ⟨addr / 2 ^ 29 % 512, Nat.mod_lt _ (by decide)⟩
def stackOff (addr : Nat) : Nat := addr % 2 ^ 29

/-- Does a range of the aperture touch a hole, or leave the slot in which it starts? -/
def inHole (addr len : Nat) : Bool := decide (colEnd < stackOff addr + len) || decide (2 ^ 38 < addr + len)

/-- An error record of the aperture (Table Errors-4, 0x0206). -/
def Dev.apertureReport (d : Dev) (e : Env) (f : FuncId) (d1 addr : Nat) : Dev :=
  d.onFab (fun g => g.report e 0x0206 (.function f) d1 (addr % 2 ^ 32))

/-- R171, R202: the channel of the tile's column holds requests. -/
def Dev.colHolds (d : Dev) (t : TileId) : Bool :=
  match d.fab.accessSite t with
  | some x => (d.fab.col x).phase == .training || (d.fab.col x).phase == .filling || (d.fab.col x).phase == .reloading
  | none => false

def Dev.holdApt (d : Dev) (a : AptAccess) : Dev := { d with host := { d.host with aptHeld := d.host.aptHeld ++ [a] } }

/-- HOST_APERTURE_READ (R25, R28, R168, R268). -/
def Dev.apertureRead (d : Dev) (e : Env) (f : FuncId) (addr len : Nat) (ups : List DramUpset) : Dev :=
  let t := stackTile addr
  if f ≠ 0 || !d.fab.mapValid || len = 0 || 4096 < len || inHole addr len then d.send .unsupported
  else if d.fab.fenced[tileHalf t] then (d.apertureReport e f (d.fab.freeNat 2) addr).send .unsupported
  else if d.colHolds t then d.holdApt (.read f addr len)
  else
    let d := match d.fab.accessSite t with
      | some x => d.onFab (fun g => g.setCol x ((g.col x).upsets ups))
      | none => d
    let off := stackOff addr
    let k := off / 64
    let (g, bs, poison) := d.fab.slotRead e t (64 * k) ((off + len + 63) / 64 - k)
    let bs := bs.zipIdx.map (fun p => if poison.contains (p.2 / 64) then Config.freeByte d.fab.free (2 ^ 29 * t.val + 64 * k + p.2) else p.1)
    let d := ({ d with fab := g }).send (.aperture ((bs.drop (off % 64)).take len) poison)
    match poison with
    | [] => d
    | i :: _ => d.apertureReport e f 1 (2 ^ 29 * t.val + 64 * (k + i))

/-- HOST_APERTURE_WRITE (R17, R25, R28, R170, R268). -/
def Dev.apertureWrite (d : Dev) (e : Env) (f : FuncId) (addr : Nat) (bs : List Byte) (ep : Bool) : Dev :=
  let t := stackTile addr
  let off := stackOff addr
  if f ≠ 0 || !d.fab.mapValid || bs.isEmpty then d
  else if off % 64 ≠ 0 || bs.length % 64 ≠ 0 then
    ({ d with host := { d.host with aptPartial := satAdd 16 d.host.aptPartial 1 } }).apertureReport e f 2 addr
  else if inHole addr bs.length then d.apertureReport e f 0 addr
  else if d.fab.fenced[tileHalf t] then d.apertureReport e f (d.fab.freeNat 2) addr
  else if d.colHolds t then d.holdApt (.write f addr bs ep)
  else
    match d.fab.accessSite t with
    | none => d.apertureReport e f (d.fab.freeNat 2) addr
    | some _ =>
      if ep then
        let d := d.onFab (fun g => g.slotPoison e t off (bs.length / 64) .hostPoison 4)
        { d with host := { d.host with aptPoison := satAdd 16 d.host.aptPoison 1 } }
      else d.onFab (fun g => g.slotWrite e t off bs)

/-- R171: the accesses that waited for columns are made in order, as far as their columns take requests now. -/
def Dev.resumeApt (d : Dev) (e : Env) : Dev :=
  let held := d.host.aptHeld
  held.foldl (fun d a => match a with
    | .read f addr len => d.apertureRead e f addr len []
    | .write f addr bs ep => d.apertureWrite e f addr bs ep) { d with host := { d.host with aptHeld := [] } }

end Sys2Proof.Machine
end

