-- ==== Sys2Proof/Machine/RoceOps.lean ====
section
/-! DEFINITION. Queue pairs and the RoCEv2 transport (R303–R312): requests, acknowledgements, retries, congestion reaction. -/

namespace Sys2Proof.Machine

-- The record of a queue pair (Table Net-2) ---------------------------------------------------------------------------

def Qp.f (q : Qp) (byte hi lo : Nat) : Nat := fld q.rcd (8 * byte + hi) (8 * byte + lo)
def Qp.setF (q : Qp) (byte hi lo v : Nat) : Qp := { q with rcd := setFld q.rcd (8 * byte + hi) (8 * byte + lo) v }
def Qp.state (q : Qp) : Nat := q.f 0 2 0
def Qp.ud (q : Qp) : Bool := bit q.rcd 3
def Qp.owner (q : Qp) : Nat := q.f 0 5 4
def Qp.port (q : Qp) : PortId := ⟨q.f 0 13 10 % 16, Nat.mod_lt _ (by decide)⟩
def Qp.sub (q : Qp) : Fin 2 := ⟨q.f 0 14 14 % 2, Nat.mod_lt _ (by decide)⟩
def Qp.ctx (q : Qp) : Nat := q.f 0 27 16
def Qp.destQpn (q : Qp) : Nat := q.f 4 23 0
def Qp.prio (q : Qp) : Fin 8 := ⟨q.f 4 29 27 % 8, Nat.mod_lt _ (by decide)⟩
def Qp.sqPsn (q : Qp) : Nat := q.f 8 23 0
def Qp.rqPsn (q : Qp) : Nat := q.f 0xC 23 0
def Qp.timeoutTicks (q : Qp) : Nat := cdiv (4096 * 2 ^ Nat.max 1 (q.f 0x10 20 16)) 1000
def Qp.retry (q : Qp) : Nat := q.f 0x10 23 21
def Qp.maxOut (q : Qp) : Nat := if q.f 0x10 31 24 = 0 then 256 else q.f 0x10 31 24
def Qp.mtu (q : Qp) : Nat :=
  match q.f 4 26 24 with
  | 3 => 1024
  | 4 => 2048
  | _ => 4096
def Qp.vlan (q : Qp) : Option (BitVec 12) := if q.f 0x1E 12 12 = 1 then some (BitVec.ofNat 12 (q.f 0x1E 11 0)) else none
def Qp.dmac (q : Qp) : BitVec 48 := BitVec.ofNat 48 (q.f 0x18 47 0)
def Qp.qkey (q : Qp) : Nat := q.f 0x14 31 0
def Qp.sip (q : Qp) : Nat := q.f 0x20 127 0
def Qp.dip (q : Qp) : Nat := q.f 0x30 127 0

def qpFin (n : Nat) : QpId := ⟨n % 8192, Nat.mod_lt _ (by decide)⟩

def Dev.qp (d : Dev) (i : QpId) : Qp := tget d.net.qps Qp.init i.val
def Dev.setQp (d : Dev) (i : QpId) (q : Qp) : Dev := { d with net := { d.net with qps := tput d.net.qps i.val q } }
def Dev.port (d : Dev) (n : PortId) : Port := d.net.ports[n]
def Dev.setPort (d : Dev) (n : PortId) (p : Port) : Dev := { d with net := { d.net with ports := d.net.ports.set n p } }

/-- Ticks of the ports and queue pairs. -/
def netNow (e : Env) : Nat := blockTicks e.time .network

/-- NET_PORT_CFG_n. -/
def portCfg (e : Env) (n : PortId) : Nat := e.reg (0x200000 + 0x40 * n.val)
def portEn (e : Env) (n : PortId) : Bool := bit (portCfg e n) 31
def portSplit (e : Env) (n : PortId) : Bool := bit (portCfg e n) 30

/-- The rate LINE of a sub-port in Mb/s. -/
def lineRate (e : Env) (n : PortId) : Nat := if portSplit e n then 400000 else 800000

def Dev.subUp (d : Dev) (n : PortId) (s : Fin 2) : Bool := bit (d.port n).up.toNat s.val

/-- Are frames of the queue pair's priority paused (R311)? -/
def Dev.paused (d : Dev) (q : Qp) : Bool := ((d.port q.port).pause[q.prio]).isSome

/-- R303: a frame dropped and counted. -/
def Dev.rxDrop (d : Dev) (n : PortId) : Dev :=
  d.setPort n { d.port n with rxDrop := satAdd 16 (d.port n).rxDrop 1 }

-- Sending ------------------------------------------------------------------------------------------------------------

/-- The opcode of packet k of a message of n packets. -/
def rcOpcode (w : WorkReq) (k n : Nat) : Nat :=
  (if w.write then 6 else 0) +
  (if n = 1 then (if w.imm.isSome then 5 else 4)
   else if k = 0 then 0
   else if k + 1 = n then (if w.imm.isSome then 3 else 2)
   else 1)

/-- A packet toward a queue pair's remote end (R309: ECT(0), never CE). -/
def Qp.pkt (q : Qp) (opcode psn syndrome : Nat) (payload : List Byte) : RocePkt :=
  { port := q.port, sub := q.sub, src := BitVec.ofNat 128 q.sip, dst := BitVec.ofNat 128 q.dip, opcode := BitVec.ofNat 8 opcode
    qp := BitVec.ofNat 24 q.destQpn, psn := BitVec.ofNat 24 psn, ackReq := false, ce := false, good := true
    syndrome := BitVec.ofNat 8 syndrome, msn := 0, va := 0, rkey := 0, dmaLen := 0, imm := 0, payload := payload
    vlan := q.vlan, prio := q.prio, dmac := q.dmac, dscp := BitVec.ofNat 6 (q.f 0xC 29 24), sport := BitVec.ofNat 16 (q.f 0x10 15 0)
    qkey := BitVec.ofNat 32 q.qkey }

/-- Packet k of a message. -/
def Qp.packet (q : Qp) (w : WorkReq) (k : Nat) : RocePkt :=
  { q.pkt (rcOpcode w k w.packets) (w.psn + k) 0 ((w.bytes.drop (q.mtu * k)).take q.mtu) with
    ackReq := k + 1 == w.packets
    va := BitVec.ofNat 64 (if k = 0 then w.va else 0)
    rkey := BitVec.ofNat 32 (if k = 0 then w.rkey else 0)
    dmaLen := BitVec.ofNat 32 (if k = 0 && w.write then w.bytes.length else 0)
    imm := BitVec.ofNat 32 (if k + 1 = w.packets then w.imm.getD 0 else 0) }

/-- Packets of a message from packet k on, where the port is up and the priority not paused. -/
def Dev.emit (d : Dev) (q : Qp) (w : WorkReq) (k : Nat) : Dev :=
  if !d.subUp q.port q.sub || d.paused q then d
  else (List.range (w.packets - k)).foldl (fun d i => d.send (.roce (q.packet w (k + i)))) d

/-- A packet with no message behind it: an acknowledgement, a NAK, a CNP. -/
def Dev.sendPkt (d : Dev) (q : Qp) (opcode psn syndrome : Nat) : Dev :=
  if d.subUp q.port q.sub then d.send (.roce (q.pkt opcode psn syndrome [])) else d

/-- R308: work requests outstanding across the device. -/
def Dev.outstanding (d : Dev) : Nat := (d.net.qps.map (fun p => p.2.out.length)).sum

/-- R308: waiting requests of a queue pair are sent as far as the limits allow. -/
def Dev.pumpQp (d : Dev) (e : Env) (i : QpId) : Nat → Dev
  | 0 => d
  | n + 1 =>
    let q := d.qp i
    match q.wait with
    | [] => d
    | w :: rest =>
      if q.state ≠ 1 || q.rnr.isSome || decide (q.maxOut ≤ q.out.length) || decide (16384 ≤ d.outstanding) || d.paused q then d
      else
        let w := { w with psn := q.sqPsn, packets := Nat.max 1 (cdiv w.bytes.length q.mtu) }
        let q' := ({ q with
          wait := rest, out := q.out ++ [w], una := if q.out.isEmpty then w.psn else q.una
          sentAt := if q.out.isEmpty then netNow e else q.sentAt }).setF 8 23 0 (w.psn + w.packets)
        ((d.setQp i q').emit q' w 0).pumpQp e i n

/-- Every queue pair sends what it may. -/
def Dev.pumpNet (d : Dev) (e : Env) : Dev :=
  d.net.qps.foldl (fun d p => d.pumpQp e (qpFin p.1) (p.2.wait.length + 1)) d

/-- A message posted on an RC queue pair. -/
def Dev.post (d : Dev) (e : Env) (i : QpId) (w : WorkReq) : Dev :=
  let q := d.qp i
  (d.setQp i { q with wait := q.wait ++ [w] }).pumpQp e i (q.wait.length + 1)

/-- A UD SEND to a remote queue pair over the addresses of an RC record; it is sent at once (R308). -/
def Dev.sendUd (d : Dev) (u : QpId) (via : Qp) (qpn : Nat) (payload : List Byte) : Dev :=
  let q := d.qp u
  if q.state ≠ 1 || !q.ud || q.owner ≠ 2 || !d.subUp q.port q.sub then d
  else
    let p := { q.pkt 0x64 q.sqPsn 0 payload with
      dst := BitVec.ofNat 128 via.dip, qp := BitVec.ofNat 24 qpn, dmac := via.dmac, vlan := via.vlan, srcQp := BitVec.ofNat 24 u.val }
    (d.setQp u (q.setF 8 23 0 (q.sqPsn + 1))).send (.roce p)

-- Exports over the network (R312) ------------------------------------------------------------------------------------

/-- Pieces in ascending order of address joined from a base on, gaps filled with zeros. -/
def joinPieces (base : Nat) (ps : List (Nat × List Byte)) : List Byte :=
  (ps.foldl (fun l p => destInsert p l) []).foldl (fun (acc : List Byte) p => padTo (p.1 - base) acc ++ p.2) []

/-- An export whose queue pair cannot carry it ends with FAULTED and DETAIL 0 (R312). -/
def Dev.exportFails (d : Dev) (e : Env) (c : CtxId) (dsn : Nat) : Dev :=
  match d.svc.exports.find? (fun x => x.ctx == c && x.dsn == dsn) with
  | none => d
  | some x =>
    let d := { d with svc := { d.svc with
      exports := d.svc.exports.filter (fun y => !(y.ctx == c && y.dsn == dsn))
      rdma := d.svc.rdma.filter (fun r => !(r.ctx == c && r.dsn == dsn))
      moves := d.svc.moves.filter (fun m => !(m.kind == MoveKind.export_ && m.seq == x.seq)) } }
    match d.seq x.seq with
    | some s => (d.setSeq x.seq (some { s with exporting := false })).done e c dsn 3 x.tag 0x09 (seqId x.seq s.gen)
    | none => d.done e c dsn 3 x.tag 0x09

/-- R312: the image of an export that has been read is written as RDMA WRITE messages of at most 1 MiB, in ascending address
order; the last carries the SEQ_ID. -/
def Dev.exportSend (d : Dev) (e : Env) (x : Export) : Dev :=
  let mine := d.svc.rdma.filter (fun r => r.ctx == x.ctx && r.dsn == x.dsn)
  if !x.waiting || mine.isEmpty then d else
  let i := qpFin x.qpn
  let bytes := padTo x.bytes (joinPieces x.addr (mine.map (fun r => (r.va, r.bytes))))
  let n := Nat.max 1 (cdiv bytes.length 0x100000)
  let id := match d.seq x.seq with
    | some s => seqId x.seq s.gen
    | none => 0
  let d := { d with svc := { d.svc with rdma := d.svc.rdma.filter (fun r => !(r.ctx == x.ctx && r.dsn == x.dsn)) } }
  if (d.qp i).state ≠ 1 then d.exportFails e x.ctx x.dsn
  else (List.range n).foldl (fun d k =>
    d.post e i { write := true, imm := if k + 1 = n then some id else none, va := x.addr + 0x100000 * k, rkey := x.rkey
                 bytes := (bytes.drop (0x100000 * k)).take 0x100000, psn := 0, packets := 0, export_ := some (x.ctx, x.dsn) }) d

/-- Every export that is ready for the network. -/
def Dev.exportsSend (d : Dev) (e : Env) : Dev := d.svc.exports.foldl (fun d x => d.exportSend e x) d

-- Acknowledgements ---------------------------------------------------------------------------------------------------

/-- The distance from one PSN to another. -/
def psnDist (a b : Nat) : Nat := (b + 2 ^ 24 - a % 2 ^ 24) % 2 ^ 24

/-- Every packet up to a PSN is acknowledged: finished work requests leave, and an export with none left is done (R307, R312). -/
def Dev.acked (d : Dev) (e : Env) (i : QpId) (psn : Nat) : Dev :=
  let q := d.qp i
  let n := psnDist q.una psn
  if psnDist q.una q.sqPsn ≤ n then d else
  let fin := q.out.takeWhile (fun w => decide (psnDist q.una (w.psn + w.packets - 1) ≤ n))
  let q' := { q with out := q.out.drop fin.length, una := (psn + 1) % 2 ^ 24, tries := 0, sentAt := netNow e }
  let d := d.setQp i q'
  let exps := (fin.filterMap (fun (w : WorkReq) => w.export_)).eraseDups
  let d := exps.foldl (fun d c =>
    if (q'.out ++ q'.wait).any (fun w => w.export_ == some c) then d
    else
      match d.svc.exports.find? (fun x => x.ctx == c.1 && x.dsn == c.2) with
      | some x => d.exportDone e x
      | none => d) d
  d.pumpNet e

/-- Go-back-N: everything from the oldest unacknowledged PSN on is sent again. -/
def Dev.resend (d : Dev) (e : Env) (i : QpId) : Dev :=
  let q := { d.qp i with sentAt := netNow e, rnr := none }
  q.out.foldl (fun d w => d.emit q w (let k := psnDist w.psn q.una; if k < w.packets then k else 0)) (d.setQp i q)

/-- Does a packet reach a queue pair in RTS on its sub-port (R303), with the VLAN tag that it requires and, on UD, its Q_Key? -/
def Dev.roceQp (d : Dev) (p : RocePkt) : Option QpId :=
  let i := qpFin p.qp.toNat
  let q := d.qp i
  if p.good && d.subUp p.port p.sub && decide (p.qp.toNat < 8192) && q.state == 1 && q.port == p.port && q.sub == p.sub &&
      q.sip == p.dst.toNat && (q.vlan.isNone || p.vlan == q.vlan) && (!q.ud || p.qkey.toNat == q.qkey) then some i else none

/-- RNR timers of the InfiniBand transport in units of 10 µs, by code (PRESUMED). -/
def rnrUnits (code : Nat) : Nat :=
  ([65536, 1, 2, 3, 4, 6, 8, 12, 16, 24, 32, 48, 64, 96, 128, 192, 256, 384, 512, 768, 1024, 1536, 2048, 3072, 4096, 6144, 8192,
    12288, 16384, 24576, 32768, 49152] : List Nat).getD (code % 32) 1

/-- RNR_TIMER_EXPIRY (R307). -/
def Dev.rnrExpiry (d : Dev) (e : Env) (i : QpId) : Dev :=
  match (d.qp i).rnr with
  | some t => if t ≤ netNow e && (d.qp i).state == 1 then (d.resend e i).pumpQp e i ((d.qp i).wait.length + 1) else d
  | none => d

-- Congestion ---------------------------------------------------------------------------------------------------------

/-- NET_CC_CFG. -/
def ccEn (e : Env) : Bool := bit (e.reg 0x201000) 31
def ccAi (e : Env) : Nat := Nat.max 1 (fld (e.reg 0x201000) 23 16)
def ccInc (e : Env) : Nat := Nat.max 1 (fld (e.reg 0x201000) 15 8)
def cnpGap (e : Env) : Nat := fld (e.reg 0x201000) 7 0

def Dy.half (a : Dy) : Dy := a.mul ⟨1, -1⟩
def Dy.maxD (a b : Dy) : Dy := if a.lt b then b else a
def Dy.minD (a b : Dy) : Dy := if a.lt b then a else b

/-- The rate limit at RTS (R310). -/
def RateSt.start (line : Nat) : RateSt := { rc := Dy.ofInt line, rt := Dy.ofInt line, alpha := Dy.ofInt 1, stage := 0 }

/-- RMIN of R310 in Mb/s; in this unit every rate is an exact dyadic number. -/
def rMin : Dy := Dy.ofInt 100

/-- α × (1 − G) with G = 1/256. -/
def alphaDown (a : Dy) : Dy := a.mul ⟨255, -8⟩

def RateSt.onCnp (r : RateSt) : RateSt :=
  { rt := r.rc, rc := Dy.maxD rMin (r.rc.mul ((Dy.ofInt 1).sub r.alpha.half)), alpha := (alphaDown r.alpha).add ⟨1, -8⟩, stage := 0 }

/-- R310: INC_US without a CNP. -/
def RateSt.increase (r : RateSt) (line ai : Nat) : RateSt :=
  let rt := if r.stage < 5 then r.rt else Dy.minD (Dy.ofInt line) (r.rt.add (Dy.ofInt (1000 * ai)))
  { rt := rt, rc := Dy.minD (Dy.ofInt line) (rt.add r.rc).half, alpha := alphaDown r.alpha, stage := if r.stage < 5 then r.stage + 1 else r.stage }

/-- R309: a packet with CE asks for a CNP, at most one per CNP_GAP_US. -/
def Dev.ceSeen (d : Dev) (e : Env) (i : QpId) : Dev :=
  let q := d.qp i
  let due := match q.cnpSent with
    | some t => decide (t + cnpGap e ≤ netNow e)
    | none => true
  if due then (d.setQp i { q with cnpSent := some (netNow e) }).sendPkt q 0x81 0 0 else d

/-- A CNP on a queue pair. -/
def Dev.cnpSeen (d : Dev) (e : Env) (i : QpId) : Dev :=
  let q := d.qp i
  if ccEn e && !q.ud then d.setQp i { q with rate := q.rate.onCnp, incAt := netNow e } else d

/-- RATE_INCREASE (R310). -/
def Dev.rateIncrease (d : Dev) (e : Env) (i : QpId) : Dev :=
  let q := d.qp i
  if ccEn e && q.state == 1 && !q.ud && decide (q.incAt + ccInc e ≤ netNow e) then
    d.setQp i { q with rate := q.rate.increase (lineRate e q.port) (ccAi e), incAt := netNow e }
  else d

-- Receive buffers ----------------------------------------------------------------------------------------------------

/-- Bytes in the receive buffer of a priority of a port. -/
def Dev.rxFill (d : Dev) (n : PortId) (prio : Fin 8) : Nat :=
  ((d.net.qps.filter (fun p => p.2.port == n && p.2.prio == prio)).map (fun p => p.2.rx)).sum

/-- PFC_EN of a priority. -/
def pfcEn (e : Env) (n : PortId) (prio : Fin 8) : Bool := bit (portCfg e n) (16 + prio.val)

/-- R311: the peer is paused at 75 % of the buffer, and resumed at 50 %. -/
def Dev.pfcCheck (d : Dev) (e : Env) (n : PortId) (prio : Fin 8) : Dev :=
  let p := d.port n
  let fill := d.rxFill n prio
  let b := BitVec.ofNat 8 (2 ^ prio.val)
  if !d.subUp n 0 && !d.subUp n 1 then d
  else if !p.sentPause.getLsbD prio.val && pfcEn e n prio && decide (3 * Config.portBuffer ≤ 4 * fill) then
    (d.setPort n { p with sentPause := p.sentPause ||| b }).send (.pfc n prio true)
  else if p.sentPause.getLsbD prio.val && decide (2 * fill ≤ Config.portBuffer) then
    (d.setPort n { p with sentPause := p.sentPause &&& ~~~b }).send (.pfc n prio false)
  else d

/-- The collective engine takes bytes of a queue pair out of the buffers. -/
def Dev.rxTake (d : Dev) (e : Env) (i : QpId) (n : Nat) : Dev :=
  let q := d.qp i
  (d.setQp i { q with rx := q.rx - n }).pfcCheck e q.port q.prio

-- Inbound requests ---------------------------------------------------------------------------------------------------

/-- R306, R307, R311: an inbound request at a queue pair in RTS. A SEND with Immediate is no SEND: it is refused as an invalid request. -/
def Dev.inbound (d : Dev) (e : Env) (i : QpId) (p : RocePkt) : Dev :=
  let q := d.qp i
  let op := p.opcode.toNat
  let psn := p.psn.toNat
  if q.ud then
    if op = 0x64 && q.owner == 2 then d else d.rxDrop p.port
  else if (op ≤ 2 || op = 4) && q.owner = 2 then
    let n := psnDist q.rqPsn psn
    if n = 0 then
      if !pfcEn e q.port q.prio && decide (Config.portBuffer < d.rxFill q.port q.prio + p.payload.length) then d.rxDrop p.port
      else if Config.rxBuffer < q.rx + p.payload.length then d.sendPkt q 0x11 psn 0x21
      else
        let d := (d.setQp i ({ q with nakSent := false, rx := q.rx + p.payload.length }.setF 0xC 23 0 (psn + 1))).pfcCheck e q.port q.prio
        if p.ackReq then d.sendPkt q 0x11 psn 0x1F else d
    else if 2 ^ 23 ≤ n then d.sendPkt q 0x11 (q.rqPsn + 2 ^ 24 - 1) 0x1F
    else if q.nakSent then d
    else (d.setQp i { q with nakSent := true }).sendPkt q 0x11 q.rqPsn 0x60
  else if (op = 3 || op = 5) && q.owner = 2 then (d.rxDrop p.port).sendPkt q 0x11 psn 0x61
  else if op ≤ 0x0C || op = 0x13 || op = 0x14 then (d.rxDrop p.port).sendPkt q 0x11 psn 0x62
  else d.rxDrop p.port

/-- ROCE_SEND_RECEIVE (R303, R306). -/
def Dev.roceReceive (d : Dev) (e : Env) (p : RocePkt) : Dev :=
  match d.roceQp p with
  | none => d.rxDrop p.port
  | some i => (if p.ce then d.ceSeen e i else d).inbound e i p

/-- CNP (R310). -/
def Dev.cnpReceive (d : Dev) (e : Env) (p : RocePkt) : Dev :=
  match d.roceQp p with
  | none => d.rxDrop p.port
  | some i => d.cnpSeen e i

end Sys2Proof.Machine
end

