-- ==== Sys2Proof/Machine/Coll.lean ====
section
/-! DEFINITION. The collective engine (R299, R315–R323): groups, HELLO, slices from tiles, messages from peers, delivery. -/

namespace Sys2Proof.Machine

def Dev.group (d : Dev) (g : GroupId) : CollGroup := tget d.net.groups CollGroup.init g.val
def Dev.setGroup (d : Dev) (g : GroupId) (v : CollGroup) : Dev := { d with net := { d.net with groups := tput d.net.groups g.val v } }
def groupFin (n : Nat) : GroupId := ⟨n % 64, Nat.mod_lt _ (by decide)⟩

/-- NET_COLL_LEVELS: the lowest level spoken and the current one, by the COLL image in force (R415, R423). -/
def Dev.levelMin (d : Dev) : Nat := match (d.comp 5).active with | some i => i.clvlMin | none => 0
def Dev.levelMax (d : Dev) : Nat := match (d.comp 5).active with | some i => i.clvlN | none => 0
/-- TIMEOUT_MS in ticks. -/
def collLimit (e : Env) : Nat := 1000 * clampN 1 10000 (fld (e.reg 0x201004) 15 0)

/-- Ranks of the other members of a group with their entries. -/
def CollGroup.peers (g : CollGroup) : List (Nat × Nat) :=
  ((List.range g.n).filter (fun r => r != g.rank)).map (fun r => (r, tget g.members 0 r))

/-- The RC queue pair of a member. -/
def CollGroup.memberQp (g : CollGroup) (r : Nat) : QpId := qpFin (fld (tget g.members 0 r) 12 0)

/-- One more message or slice dropped. -/
def Dev.msgDrop (d : Dev) : Dev := { d with net := { d.net with msgDropped := satAdd 16 d.net.msgDropped 1 } }

-- Messages (Table Net-5) ---------------------------------------------------------------------------------------------

/-- The 32-byte header of a message about an operation. -/
def opHeader (mtype level group rank : Nat) (o : CollOp) (chunk status : Nat) : List Byte :=
  leBytes 4 (mtype + level * 2 ^ 8 + group * 2 ^ 16 + rank * 2 ^ 24) ++ leBytes 4 o.opSeq ++
  leBytes 4 (o.op + b2n o.bf16 * 4 + o.localN * 2 ^ 16) ++ leBytes 4 o.elems ++ leBytes 4 chunk ++ leBytes 4 o.root ++ leBytes 4 0 ++
  leBytes 4 status

/-- A HELLO (R316). -/
def helloBytes (lo hi : Nat) (id : Nat) (g : CollGroup) : List Byte :=
  leBytes 4 (1 + hi * 2 ^ 8 + id * 2 ^ 16 + g.rank * 2 ^ 24) ++ leBytes 4 0 ++ leBytes 4 0 ++ leBytes 4 0 ++ leBytes 8 g.gid ++
  leBytes 4 (lo + hi * 2 ^ 8 + g.n * 2 ^ 16) ++ leBytes 4 0

/-- An RC queue pair that the collective engine owns (R315). -/
def Qp.collRc (q : Qp) : Bool := !q.ud && q.owner == 2

/-- A message to one member over the group's UD queue pair. -/
def Dev.udTo (d : Dev) (g : CollGroup) (r : Nat) (bytes : List Byte) : Dev :=
  d.sendUd (qpFin g.udq) (d.qp (g.memberQp r)) (fld (tget g.members 0 r) 39 16) bytes

/-- A HELLO to every member. -/
def Dev.sendHellos (d : Dev) (id : GroupId) : Dev :=
  let g := d.group id
  g.peers.foldl (fun d p => d.udTo g p.1 (helloBytes d.levelMin d.levelMax id.val g)) d

/-- A message over a member's RC queue pair; none over one that the engine does not own (R315). -/
def Dev.rcTo (d : Dev) (e : Env) (g : CollGroup) (r : Nat) (bytes : List Byte) : Dev :=
  if !(d.qp (g.memberQp r)).collRc then d else
  d.post e (g.memberQp r) { write := false, imm := none, va := 0, rkey := 0, bytes := bytes, psn := 0, packets := 0, export_ := none }

-- Results ------------------------------------------------------------------------------------------------------------

def CollOp.width (o : CollOp) : Nat := if o.bf16 then 2 else 4
def CollOp.chunks (o : CollOp) : Nat := cdiv o.elems 4096
def CollOp.chunkLen (o : CollOp) (c : Nat) : Nat := Nat.min 4096 (o.elems - 4096 * c)

/-- An element code of DTYPE widened to FP32 (R319: exact). -/
def CollOp.widen (o : CollOp) (x : Nat) : Nat := if o.bf16 then x * 2 ^ 16 else x

/-- The code of one element of a local contribution. -/
def CollOp.elem (o : CollOp) (idx k : Nat) : Option Nat :=
  (o.slices.find? (fun s => s.1 == idx && decide (s.2.1 ≤ k) && decide (k < s.2.1 + s.2.2.length))).bind (fun s => s.2.2[k - s.2.1]?)

/-- Elements from `k` on, n of them, where all have come. -/
def CollOp.run (o : CollOp) (idx k n : Nat) : Option (List Nat) := (List.range n).mapM (fun i => o.elem idx (k + i))

/-- One chunk of a local contribution in FP32. -/
def CollOp.localChunk (o : CollOp) (idx c : Nat) : Option (List Nat) :=
  (o.run idx (4096 * c) (o.chunkLen c)).map (fun l => l.map o.widen)

/-- R320: acc + local, one rounding an element (R47). -/
def addChunk (acc x : List Nat) : List Nat :=
  List.zipWith (fun a b => fp32Of (rn32 ((fp32F.decode a).add (fp32F.decode b)))) acc x

/-- R320: the chunk of an ALLREDUCE extended with the local contributions, where it and they are there. -/
def CollOp.accumulate (o : CollOp) (rank c : Nat) : Option (List Nat) :=
  let base := if rank = 0 then o.localChunk 0 c else (o.partials.find? (fun p => p.1 = c)).map (·.2)
  let first := if rank = 0 then 1 else 0
  (List.range (o.localN - first)).foldl (fun acc i =>
    match acc, o.localChunk (first + i) c with
    | some a, some x => some (addChunk a x)
    | _, _ => none) base

/-- A message that an operation sends: to which rank, of which type, with which chunk and payload. -/
structure CollMsg where
  rank : Nat
  mtype : Nat
  chunk : Nat
  payload : List Byte

def CollOp.addResult (o : CollOp) (c : Nat) (x : List Nat) : CollOp := { o with results := o.results ++ [(c, x)] }

/-- One chunk of an ALLREDUCE or a BROADCAST moved on as far as it can be. -/
def CollOp.stepChunk (g : CollGroup) (p : CollOp × List CollMsg) (c : Nat) : CollOp × List CollMsg :=
  let (o, ms) := p
  if o.sent.contains c then p
  else if o.op = 1 then
    match o.accumulate g.rank c with
    | none => p
    | some x =>
      let o := { o with sent := o.sent ++ [c] }
      if g.rank + 1 < g.n then (o, ms ++ [{ rank := g.rank + 1, mtype := 2, chunk := c, payload := codeBytes 4 x }])
      else (o.addResult c x, if 1 < g.n then ms ++ [{ rank := 0, mtype := 3, chunk := c, payload := codeBytes 4 x }] else ms)
  else if o.root / Nat.max 1 o.localN = g.rank then
    match o.localChunk (o.root % Nat.max 1 o.localN) c with
    | none => p
    | some x =>
      ({ o with sent := o.sent ++ [c] }.addResult c x,
        if 1 < g.n then ms ++ [{ rank := (g.rank + 1) % g.n, mtype := 3, chunk := c, payload := codeBytes 4 x }] else ms)
  else p

/-- An ALLGATHER sends its own contributions once all are there. -/
def CollOp.stepGather (g : CollGroup) (o : CollOp) : CollOp × List CollMsg :=
  if o.gathers.any (fun p => p.1 = g.rank) then (o, []) else
  match (List.range o.localN).mapM (fun i => o.run i 0 o.elems) with
  | none => (o, [])
  | some ls =>
    let x := ls.flatMap id
    ({ o with gathers := o.gathers ++ [(g.rank, x)] },
      g.peers.map (fun p => { rank := p.1, mtype := 4, chunk := 0, payload := codeBytes o.width x }))

def CollOp.advance (g : CollGroup) (o : CollOp) : CollOp × List CollMsg :=
  if o.op = 3 then o.stepGather g else (List.range o.chunks).foldl (CollOp.stepChunk g) (o, [])

/-- R321: every element of the result has reached this device, and every contributor is known. -/
def CollOp.complete (g : CollGroup) (o : CollOp) : Bool :=
  o.contribs.length == o.localN &&
  (if o.op = 3 then (List.range g.n).all (fun r => o.gathers.any (fun p => p.1 = r))
   else (List.range o.chunks).all (fun c => o.results.any (fun p => p.1 = c)))

/-- An FP32 code in the format of delivery: BF16 is rounded once under RND 0 (R319). -/
def CollOp.narrow (o : CollOp) (x : Nat) : Nat := if o.bf16 then (bf16F.conv .nearest (fp32F.decode x)).code else x

/-- The bytes of the result. -/
def CollOp.resultBytes (g : CollGroup) (o : CollOp) : List Byte :=
  if o.op = 3 then
    (List.range g.n).flatMap (fun r => codeBytes o.width (((o.gathers.find? (fun p => p.1 = r)).map (·.2)).getD []))
  else
    (List.range o.chunks).flatMap (fun c => codeBytes o.width ((((o.results.find? (fun p => p.1 = c)).map (·.2)).getD []).map o.narrow))

-- Delivery -----------------------------------------------------------------------------------------------------------

/-- Bytes of the engine to a tile: held by its cluster switch where the tile is not ready, discarded toward a fenced half or an
absent tile. -/
def Dev.collSend (d : Dev) (e : Env) (t : TileId) (dst : Nat) (bytes : List Byte) (sem : Option (Fin 32)) : Dev :=
  match d.fab.siteOf t with
  | none => d
  | some x =>
    if d.fab.fenced[tileHalf t] then d
    else if d.fab.holding t || !(d.fab.site x).ready then d.onFab (fun f => f.hold t (.coll dst bytes sem))
    else d.onFab (fun f => f.deliver e { id := 0, peer := t, dst := dst, data := bytes, dsem := sem, off := 0 })

def semFin (n : Nat) : Fin 32 := ⟨n % 32, Nat.mod_lt _ (by decide)⟩

/-- The status record and the RET_SEM unit (R321); a status address outside usable scratch takes no record. -/
def Dev.collStatus (d : Dev) (e : Env) (o : CollOp) (c : Contrib) (code : Nat) : Dev :=
  d.collSend e c.tile c.statusSd (if c.statusSd + 8 ≤ 0x1FF000 then leBytes 4 code ++ leBytes 4 o.opSeq else []) (some (semFin c.sem))

/-- The operation leaves the engine. -/
def Dev.dropOp (d : Dev) (o : CollOp) : Dev :=
  { d with net := { d.net with ops := d.net.ops.filter (fun p => !(p.group == o.group && p.opSeq == o.opSeq)) } }

/-- A failed operation (R321): status and unit to its tiles, ABORT three times to every member. -/
def Dev.collFail (d : Dev) (e : Env) (o : CollOp) (code : Nat) : Dev :=
  let g := d.group o.group
  let d := o.contribs.foldl (fun d c => d.collStatus e o c code) (d.dropOp o)
  let d := { d with net := { d.net with opsFailed := satAdd 16 d.net.opsFailed 1 } }
  g.peers.foldl (fun d p => (List.range 3).foldl (fun d _ =>
    d.udTo g p.1 (opHeader 5 g.level o.group.val g.rank o 0 code)) d) d

/-- Does a queue pair of the group stand in ERROR? -/
def Dev.groupQpError (d : Dev) (g : CollGroup) : Bool := g.peers.any (fun p => (d.qp (g.memberQp p.1)).state == 2)

/-- The operation moved on: its messages are sent, and a complete result is delivered. -/
def Dev.collRun (d : Dev) (e : Env) (o : CollOp) : Dev :=
  let g := d.group o.group
  let (o, ms) := o.advance g
  let d := { d with net := { d.net with ops := d.net.ops.map (fun p => if p.group == o.group && p.opSeq == o.opSeq then o else p) } }
  let d := ms.foldl (fun d m => d.rcTo e g m.rank (opHeader m.mtype g.level o.group.val g.rank o m.chunk 0 ++ m.payload)) d
  if o.complete g then
    let r := o.resultBytes g
    o.contribs.foldl (fun d c => (d.collSend e c.tile c.retSd r none).collStatus e o c 0) (d.dropOp o)
  else d

-- Slices (Table Net-4) -----------------------------------------------------------------------------------------------

/-- Word i of a header, bits hi to lo. -/
def hw (h i hi lo : Nat) : Nat := fld h (32 * i + hi) (32 * i + lo)

/-- A non-zero reserved bit of a slice header (R323). -/
def sliceReserved (h : Nat) : Bool :=
  hw h 0 7 3 != 0 || hw h 0 15 14 != 0 || hw h 0 31 26 != 0 || hw h 2 15 10 != 0 || hw h 2 31 21 != 0 || hw h 6 31 21 != 0 ||
  hw h 7 31 21 != 0

/-- The operation of a group with a number. -/
def Dev.collOp (d : Dev) (g : GroupId) (n : Nat) : Option CollOp := d.net.ops.find? (fun o => o.group == g && o.opSeq == n)

/-- R317: does the group's level provide the operation? -/
def levelOk (level : Nat) (o : CollOp) : Bool := (level == 1 && !o.bf16 && (o.op == 1 || o.op == 2)) || (level == 2 && decide (1 ≤ o.op))

/-- The operation that a slice header describes. -/
def sliceOp (g : GroupId) (h : Nat) : CollOp :=
  { group := g, opSeq := hw h 1 31 0, op := hw h 0 1 0, bf16 := bit h 2, localN := hw h 0 25 16, elems := hw h 3 31 0, root := hw h 5 31 16
    since := none, contribs := [], slices := [], partials := [], results := [], sent := [], gathers := [] }

/-- Do two headers name one operation alike? -/
def CollOp.same (a b : CollOp) : Bool :=
  a.op == b.op && a.bf16 == b.bf16 && a.localN == b.localN && a.elems == b.elems && a.root == b.root

/-- R321, Table Net-6: MISMATCH of a slice. -/
def sliceMismatch (g : CollGroup) (o : CollOp) (t : TileId) (h : Nat) : Bool :=
  let idx := hw h 2 9 0
  let n := hw h 5 15 0
  let off := hw h 4 31 0
  let total := if o.op = 3 then g.n * o.localN * o.elems else o.elems
  !o.same (sliceOp o.group h) || o.localN == 0 || decide (512 < o.localN) || decide (o.localN ≤ idx) ||
  o.contribs.any (fun c => (c.idx == idx) != (c.tile == t) ||
    (c.idx == idx && !(c.sem == hw h 2 20 16 && c.retSd == hw h 6 20 0 && c.statusSd == hw h 7 20 0))) ||
  decide (992 < n * o.width) || decide (o.elems < off + n) ||
  o.slices.any (fun s => s.1 == idx && overlaps off n s.2.1 s.2.2.length) ||
  (o.op == 2 && (decide (g.n * o.localN ≤ o.root) || (n != 0 && g.rank * o.localN + idx != o.root))) ||
  decide (0x1FF000 < hw h 6 20 0 + total * o.width) || decide (0x1FF000 < hw h 7 20 0 + 8)

/-- Codes of the elements of a slice. -/
def sliceCodes (o : CollOp) (n : Nat) (bs : List Byte) : List Nat := (List.range n).map (fun i => leAt bs (o.width * i) o.width)

/-- The COLL image is being switched: operations in flight end first (R413). -/
def Dev.collQuiet (d : Dev) : Bool := match d.lkk.op with | some (.quiet _) => true | _ => false

/-- Is there room for one more operation (R322)? -/
def Dev.collRoom (d : Dev) (g : GroupId) : Bool :=
  let live := d.net.ops.filter (fun o => o.since.isSome)
  !d.collQuiet && decide (live.length < 64) && decide ((live.filter (fun o => o.group = g)).length < 16)

/-- A slice taken into its operation. -/
def Dev.takeSlice (d : Dev) (e : Env) (g : GroupId) (o : CollOp) (t : TileId) (h : Nat) (bs : List Byte) : Dev :=
  let gr := d.group g
  let idx := hw h 2 9 0
  let bad := sliceMismatch gr o t h
  let c : Contrib := { idx := idx, tile := t, sem := hw h 2 20 16, retSd := hw h 6 20 0, statusSd := hw h 7 20 0 }
  let o := { o with
    since := some (o.since.getD (blockTicks e.time .collective))
    contribs := if o.contribs.any (fun x => x.tile = t) then o.contribs else o.contribs ++ [c] }
  let d := { d with net := { d.net with ops := d.net.ops.filter (fun (p : CollOp) => !(p.group == g && p.opSeq == o.opSeq)) ++ [o] } }
  if d.net.doomed.contains (g, o.opSeq) then
    ({ d with net := { d.net with doomed := d.net.doomed.filter (fun p => p ≠ (g, o.opSeq)) } }).collFail e o 5
  else if gr.gstate ≠ 2 then d.collFail e o 7
  else if d.groupQpError gr then d.collFail e o 3
  else if !levelOk gr.level o then d.collFail e o 4
  else if bad then d.collFail e o 5
  else
    let n := hw h 5 15 0
    d.collRun e (if n = 0 then o else { o with slices := o.slices ++ [(idx, hw h 4 31 0, sliceCodes o n bs)] })

/-- One slice at the engine's port (R299, R318, R321–R323). -/
def Dev.sliceAt (d : Dev) (e : Env) (t : TileId) (hdr : BitVec 256) (bs : List Byte) : Dev :=
  let h := hdr.toNat
  let g := groupFin (hw h 0 13 8)
  let n := hw h 1 31 0
  if d.fab.fenced[tileHalf t] then
    match d.collOp g n with
    | some o => d.collFail e o 6
    | none => d
  else if sliceReserved h then
    let d := d.msgDrop
    match d.collOp g n with
    | some o => d.collFail e o 5
    | none => { d with net := { d.net with doomed := d.net.doomed ++ [(g, n)] } }
  else
    match d.collOp g n with
    | some o =>
      if o.since.isNone && !d.collRoom g then { d with net := { d.net with held := d.net.held ++ [{ tile := t, hdr := hdr, elems := bs }] } }
      else d.takeSlice e g o t h bs
    | none =>
      if d.collRoom g then d.takeSlice e g (sliceOp g h) t h bs
      else { d with net := { d.net with held := d.net.held ++ [{ tile := t, hdr := hdr, elems := bs }] } }

/-- R322: held slices go on, in arrival order, as operations end. -/
def Dev.collRelease (d : Dev) (e : Env) : Dev :=
  let hs := d.net.held
  hs.foldl (fun d h => d.sliceAt e h.tile h.hdr h.elems) { d with net := { d.net with held := [] } }

/-- COLLECTIVE_SLICE (R318). -/
def Dev.collSlice (d : Dev) (e : Env) (t : TileId) (hdr : BitVec 256) (bs : List Byte) : Dev := (d.sliceAt e t hdr bs).collRelease e

-- Messages of peers --------------------------------------------------------------------------------------------------

/-- A non-zero reserved bit of a message header (Table Net-5). -/
def msgReserved (h : Nat) : Bool :=
  hw h 0 23 22 != 0 || hw h 2 15 3 != 0 || hw h 2 31 26 != 0 || (hw h 0 7 0 != 1 && hw h 5 31 16 != 0) || hw h 6 31 23 != 0

/-- The operation that a message header describes. -/
def msgOp (g : GroupId) (h : Nat) : CollOp :=
  { group := g, opSeq := hw h 1 31 0, op := hw h 2 1 0, bf16 := bit h (64 + 2), localN := hw h 2 25 16, elems := hw h 3 31 0
    root := hw h 5 15 0, since := none, contribs := [], slices := [], partials := [], results := [], sent := [], gathers := [] }

/-- A message dropped; its operation, if in flight, fails. -/
def Dev.dropMsg (d : Dev) (e : Env) (g : GroupId) (n code : Nat) : Dev :=
  let d := d.msgDrop
  match d.collOp g n with
  | some o => (d.collFail e o code).collRelease e
  | none => d

/-- The rank from which a PARTIAL or RESULT of an operation comes, and whether this device takes one (R320). -/
def chainFrom (g : CollGroup) (mtype : Nat) (o : CollOp) : Option Nat :=
  let r := g.rank
  if mtype = 2 then (if o.op = 1 && r != 0 then some (r - 1) else none)
  else
    let start := if o.op = 1 then g.n - 1 else o.root / Nat.max 1 o.localN
    if o.op == 3 || r == start || g.n == 0 then none else some ((r + g.n - 1) % g.n)

/-- A PARTIAL, RESULT or GATHER that reaches the engine over the queue pair of a member (R320, R323): the checks, and the
operation it is for. -/
def Dev.withMsg (d : Dev) (e : Env) (q : QpId) (hdr : BitVec 256) (bs : List Byte) (mtype : Nat)
    (act : Dev → CollGroup → CollOp → Nat → Dev) : Dev :=
  if !(d.qp q).collRc || (d.qp q).state ≠ 1 then d else
  let d := d.rxTake e q (32 + bs.length)
  let h := hdr.toNat
  let g := groupFin (hw h 0 21 16)
  let gr := d.group g
  let n := hw h 1 31 0
  let src := hw h 0 31 24
  let o := (d.collOp g n).getD (msgOp g h)
  let len := if mtype = 4 then o.localN * o.elems * o.width else 4 * o.chunkLen (hw h 4 31 0)
  let from_ := if mtype = 4 then (if o.op = 3 && src != gr.rank && decide (src < gr.n) then some src else none) else chainFrom gr mtype o
  if gr.gstate ≠ 2 then d.dropMsg e g n 7
  else if hw h 0 15 8 ≠ gr.level || !levelOk gr.level o then d.dropMsg e g n 4
  else if msgReserved h || hw h 0 7 0 != mtype || !o.same (msgOp g h) || from_ != some src || gr.memberQp src != q || bs.length != len ||
      (mtype != 4 && decide (o.chunks ≤ hw h 4 31 0)) then d.dropMsg e g n 5
  else
    let d := if (d.collOp g n).isSome then d else { d with net := { d.net with ops := d.net.ops ++ [o] } }
    (act d gr o (hw h 4 31 0)).collRelease e

/-- Little-endian FP32 codes. -/
def wordCodes (w : Nat) (bs : List Byte) : List Nat := (List.range (bs.length / w)).map (fun i => leAt bs (w * i) w)

/-- PARTIAL (R320). -/
def Dev.collPartial (d : Dev) (e : Env) (q : QpId) (hdr : BitVec 256) (bs : List Byte) : Dev :=
  d.withMsg e q hdr bs 2 (fun d _ o c =>
    if o.partials.any (fun p => p.1 = c) then d
    else d.collRun e { o with partials := o.partials ++ [(c, wordCodes 4 bs)] })

/-- RESULT (R320): delivered here and forwarded unless the chain ends. -/
def Dev.collResult (d : Dev) (e : Env) (q : QpId) (hdr : BitVec 256) (bs : List Byte) : Dev :=
  d.withMsg e q hdr bs 3 (fun d g o c =>
    if o.results.any (fun p => p.1 = c) then d
    else
      let start := if o.op = 1 then g.n - 1 else o.root / Nat.max 1 o.localN
      let next := (g.rank + 1) % g.n
      let d := if next = start then d else d.rcTo e g next (opHeader 3 g.level o.group.val g.rank o c 0 ++ bs)
      d.collRun e (o.addResult c (wordCodes 4 bs)))

/-- GATHER_MESSAGE (R320). -/
def Dev.collGather (d : Dev) (e : Env) (q : QpId) (hdr : BitVec 256) (bs : List Byte) : Dev :=
  d.withMsg e q hdr bs 4 (fun d _ o _ =>
    let src := hw hdr.toNat 0 31 24
    if o.gathers.any (fun p => p.1 = src) then d
    else d.collRun e { o with gathers := o.gathers ++ [(src, wordCodes o.width bs)] })

/-- COLL_ABORT (R321, R323). -/
def Dev.collAbort (d : Dev) (e : Env) (g : GroupId) (hdr : BitVec 256) : Dev :=
  if msgReserved hdr.toNat then d.msgDrop
  else
    match d.collOp g (hw hdr.toNat 1 31 0) with
    | some o => (d.collFail e o 2).collRelease e
    | none => d

/-- COLLECTIVE_TIMEOUT (Table Net-6). -/
def Dev.collTimeout (d : Dev) (e : Env) (g : GroupId) (n : Nat) : Dev :=
  match d.collOp g n with
  | some o =>
    match o.since with
    | some t => if elapsed e.time .collective t (collLimit e) then (d.collFail e o 1).collRelease e else d
    | none => d
  | none => d

/-- Every operation of a group fails. -/
def Dev.failGroupOps (d : Dev) (e : Env) (g : GroupId) (code : Nat) : Dev :=
  (d.net.ops.filter (fun o => o.group = g)).foldl (fun d o => d.collFail e o code) d

/-- Operations with a contributor in a half fail with HALF_DOWN (R299). -/
def Dev.failHalfOps (d : Dev) (e : Env) (h : HalfId) : Dev :=
  ((d.net.ops.filter (fun o => o.contribs.any (fun c => tileHalf c.tile = h))).foldl (fun d o => d.collFail e o 6) d).collRelease e

-- Groups -------------------------------------------------------------------------------------------------------------

/-- R316: once every member has been heard, the group is READY at the lowest MAX, or FAILED where the levels do not overlap. -/
def Dev.helloCheck (d : Dev) (id : GroupId) : Dev :=
  let g := d.group id
  if g.gstate = 0 || g.gstate = 3 || !(g.peers.all (fun p => g.heard.any (fun x => x.rank = p.1))) then d
  else
    let lo := g.heard.foldl (fun m x => Nat.max m x.min) d.levelMin
    let hi := g.heard.foldl (fun m x => Nat.min m x.max) d.levelMax
    if lo ≤ hi then d.setGroup id { g with gstate := 2, level := hi } else d.setGroup id { g with gstate := 3, level := 0 }

/-- HELLO (R316, R323). -/
def Dev.hello (d : Dev) (e : Env) (id : GroupId) (hdr : BitVec 256) : Dev :=
  let h := hdr.toNat
  let g := d.group id
  let r := hw h 0 31 24
  if msgReserved h || hw h 0 7 0 ≠ 1 then d.msgDrop
  else if g.gstate = 0 || g.gstate = 3 || g.n ≤ r || r = g.rank then d
  else
    let ready := g.gstate = 2
    let d := if ready then (d.failGroupOps e id 8).collRelease e else d
    if hw h 6 22 16 ≠ g.n || fld h 191 128 ≠ g.gid then d.setGroup id { g with gstate := 3, level := 0 }
    else
      let x : Heard := { rank := r, min := hw h 6 7 0, max := hw h 6 15 8 }
      let d := (d.setGroup id { g with heard := g.heard.filter (fun y => y.rank ≠ r) ++ [x] }).helloCheck id
      if ready then d.udTo g r (helloBytes d.levelMin d.levelMax id.val g) else d

/-- HELLO_TIMER (R316): every 1 ms in HELLO, a HELLO to every member. -/
def Dev.helloTimer (d : Dev) (e : Env) (id : GroupId) : Dev :=
  let g := d.group id
  if g.gstate = 1 && elapsed e.time .collective g.helloAt 1000 then
    (d.setGroup id { g with helloAt := blockTicks e.time .collective }).sendHellos id
  else d

/-- GSTATE_HELLO (R315, R316). -/
def Dev.gstateHello (d : Dev) (e : Env) (f : FuncId) (id : GroupId) : Dev :=
  if f ≠ 0 then d else
  let d := (d.failGroupOps e id 7).collRelease e
  let d := d.setGroup id { d.group id with gstate := 1, level := 0, heard := [], helloAt := blockTicks e.time .collective }
  (d.sendHellos id).helloCheck id

/-- GSTATE_OFF (R315). -/
def Dev.gstateOff (d : Dev) (e : Env) (f : FuncId) (id : GroupId) : Dev :=
  if f ≠ 0 then d else
  let d := (d.failGroupOps e id 7).collRelease e
  d.setGroup id { d.group id with gstate := 0, level := 0, heard := [] }

def Dev.readCollErr (d : Dev) (f : FuncId) : Dev :=
  d.readRc f (d.net.opsFailed * 2 ^ 16 + d.net.msgDropped) (fun d => { d with net := { d.net with opsFailed := 0, msgDropped := 0 } })

-- Queue pairs that fail ----------------------------------------------------------------------------------------------

/-- Outstanding and waiting work requests of a queue pair fail: exports with them end (R307, R312). -/
def Dev.failRequests (d : Dev) (e : Env) (i : QpId) : Dev :=
  let q := d.qp i
  let exps := ((q.out ++ q.wait).filterMap (fun (w : WorkReq) => w.export_)).eraseDups
  exps.foldl (fun d c => d.exportFails e c.1 c.2) (d.setQp i { q with out := [], wait := [], rnr := none, tries := 0 })

/-- A queue pair enters ERROR (R307, R321). -/
def Dev.qpError (d : Dev) (e : Env) (i : QpId) : Dev :=
  let d := d.setQp i ((d.qp i).setF 0 2 0 2)
  let d := d.failRequests e i
  let d := (d.svc.exports.filter (fun x => x.dest != 0 && x.qpn == i.val)).foldl (fun d x => d.exportFails e x.ctx x.dsn) d
  let gs := (List.finRange 64).filter (fun g => (d.group g).peers.any (fun p => (d.group g).memberQp p.1 = i))
  ((gs.foldl (fun d g => d.failGroupOps e g 3) d).collRelease e).pumpNet e

/-- A retransmission, or ERROR once RETRY of them have brought no progress. -/
def Dev.retryQp (d : Dev) (e : Env) (i : QpId) : Dev :=
  let q := d.qp i
  if q.tries < q.retry then (d.setQp i { q with tries := q.tries + 1 }).resend e i else d.qpError e i

/-- RC_RETRY_TIMEOUT (R307). -/
def Dev.retryTimeout (d : Dev) (e : Env) (i : QpId) : Dev :=
  let q := d.qp i
  if q.state = 1 && !q.ud && !q.out.isEmpty && q.rnr.isNone && decide (q.sentAt + q.timeoutTicks ≤ netNow e) then d.retryQp e i else d

/-- ROCE_ACK (R307): an acknowledgement, a NAK for a PSN out of sequence, or a NAK that ends the queue pair. -/
def Dev.roceAck (d : Dev) (e : Env) (p : RocePkt) : Dev :=
  match d.roceQp p with
  | none => d.rxDrop p.port
  | some i =>
    let d := if p.ce then d.ceSeen e i else d
    let s := p.syndrome.toNat
    if s / 32 = 0 then d.acked e i p.psn.toNat
    else if s = 0x60 then (d.acked e i (p.psn.toNat + 2 ^ 24 - 1)).retryQp e i
    else if s / 32 = 3 then d.qpError e i
    else d

/-- RNR_NAK (R307). -/
def Dev.rnrNak (d : Dev) (e : Env) (p : RocePkt) : Dev :=
  match d.roceQp p with
  | none => d.rxDrop p.port
  | some i =>
    let d := if p.ce then d.ceSeen e i else d
    let d := d.acked e i (p.psn.toNat + 2 ^ 24 - 1)
    if (d.qp i).out.isEmpty then d
    else d.setQp i { d.qp i with rnr := some (netNow e + 10 * rnrUnits (p.syndrome.toNat % 32)) }

/-- CE_PACKET (R309): a packet that carries CE brings a CNP and is then handled by its kind. -/
def Dev.cePacket (d : Dev) (e : Env) (p : RocePkt) : Dev :=
  let p := { p with ce := true }
  let op := p.opcode.toNat
  if op = 0x11 then (if p.syndrome.toNat / 32 = 1 then d.rnrNak e p else d.roceAck e p)
  else if op = 0x81 then d.cnpReceive e p
  else d.roceReceive e p

/-- The first bad field of a record for RTS (R305): its byte offset. -/
def Qp.badField (q : Qp) (split : Bool) : Option Nat :=
  if q.f 0 9 6 != 0 || bit q.rcd 15 || q.f 0 31 28 != 0 || q.owner = 3 || (q.sub.val = 1 && !split) then some 0
  else if bit q.rcd (8 * 4 + 31) || q.f 4 26 24 < 3 || 5 < q.f 4 26 24 then some 4
  else if q.f 8 31 24 != 0 then some 8
  else if q.f 0xC 31 30 != 0 then some 0xC
  else if q.f 0x1E 15 13 != 0 then some 0x1E
  else if q.ud == false && q.f 0x14 31 0 != 0 then some 0x14
  else if q.f 4 30 30 = 0 && q.sip / 2 ^ 32 != 0 then some 0x24
  else if q.f 4 30 30 = 0 && q.dip / 2 ^ 32 != 0 then some 0x34
  else none

/-- QP_RTS (R305): word 0 is written with STATE = 1. -/
def Dev.qpRts (d : Dev) (e : Env) (f : FuncId) (i : QpId) (v : Word) : Dev :=
  let q := d.qp i
  if f ≠ 0 || q.state ≠ 0 || fld v.toNat 2 0 ≠ 1 then d
  else
    let q := q.setF 0 31 0 v.toNat
    match q.badField (portSplit e q.port) with
    | some off =>
      (d.setQp i (q.setF 0 2 0 2)).onFab (fun g => g.report e 0x0704 (.queuePair i.val) off 0)
    | none =>
      d.setQp i { q with out := [], wait := [], una := q.sqPsn, tries := 0, rnr := none, rate := RateSt.start (lineRate e q.port)
                         incAt := netNow e, cnpSent := none, nakSent := false, rx := 0 }

/-- QP_RESET (R305): outstanding work requests fail, and the record returns to RESET. -/
def Dev.qpReset (d : Dev) (e : Env) (f : FuncId) (i : QpId) (v : Word) : Dev :=
  let q := d.qp i
  if f ≠ 0 || fld v.toNat 2 0 ≠ 0 then d
  else if q.state = 0 then d.setQp i (q.setF 0 31 0 v.toNat)
  else
    let d := d.failRequests e i
    ((d.setQp i ({ d.qp i with rx := 0 }.setF 0 2 0 0)).pfcCheck e q.port q.prio).pumpNet e

end Sys2Proof.Machine
end

