-- ==== Sys2Proof/Machine/LinkOps.lean ====
section
/-! DEFINITION. The half links with their flits, lanes and training, the Towpath, the fence of a half, and the tier-2 port
(R276–R298). -/

namespace Sys2Proof.Machine

-- Access -------------------------------------------------------------------------------------------------------------

def Dev.link (d : Dev) (n : LinkId) : LinkSt := d.lnk.links[n]
def Dev.setLink (d : Dev) (n : LinkId) (l : LinkSt) : Dev := { d with lnk := { d.lnk with links := d.lnk.links.set n l } }

/-- The half of a link. -/
def linkHalf (n : LinkId) : HalfId := ⟨n.val / 4, by omega⟩

def endOther : LinkEnd → LinkEnd
  | .basin => .half
  | .half => .basin

def LinkSt.at_ (l : LinkSt) : LinkEnd → EndSt
  | .basin => l.basin
  | .half => l.half

def LinkSt.setAt (l : LinkSt) (e : LinkEnd) (v : EndSt) : LinkSt :=
  match e with
  | .basin => { l with basin := v }
  | .half => { l with half := v }

/-- The direction that an end receives: 0 Basin to half, 1 half to Basin. -/
def rxDir : LinkEnd → Nat
  | .half => 0
  | .basin => 1

/-- LNK_CFG. -/
def retrainMax (e : Env) : Nat := Nat.max 1 (fld (e.reg 0x100000) 27 24)
def lnkLimit (e : Env) : Nat := clampN 2 1000 (fld (e.reg 0x100000) 15 0)

-- Flits --------------------------------------------------------------------------------------------------------------

/-- CRC-64 of R277: polynomial 0x42F0_E1EB_A9EA_3693, most significant bit first, all ones in and out. -/
def crc64 (bs : List Byte) : Nat :=
  let step := fun (c : Nat) => if 2 ^ 63 ≤ c then Nat.xor (c * 2 % 2 ^ 64) 0x42F0E1EBA9EA3693 else c * 2
  Nat.xor (bs.foldl (fun c b => (List.range 8).foldl (fun c _ => step c) (Nat.xor c (b.toNat * 2 ^ 56))) (2 ^ 64 - 1)) (2 ^ 64 - 1)

/-- A flit from its header and payload (Table Basin-3). -/
def mkFlit (hdr : Nat) (payload : List Byte) : List Byte :=
  let b := leBytes 8 hdr ++ padTo 240 payload
  b ++ leBytes 8 (crc64 b)

def flitOk (f : Flit) : Bool := f.bytes.length == 256 && leAt f.bytes 248 8 == crc64 (f.bytes.take 248)
def flitHdr (f : Flit) : Nat := leAt f.bytes 0 8
def flitPayload (f : Flit) : List Byte := (f.bytes.drop 8).take 240

/-- ACK of every flit that an end sends: the last SEQ it accepted (R281). -/
def EndSt.ack (v : EndSt) : Nat := (v.exp + 4095) % 4096

/-- A header with the ACK of the end. -/
def EndSt.hdr (v : EndSt) (seq ftype first : Nat) (nak : Bool) : Nat :=
  seq + v.ack * 2 ^ 12 + 2 ^ 24 + b2n nak * 2 ^ 25 + ftype * 2 ^ 26 + first * 2 ^ 28

/-- An IDLE flit (R281), with or without NAK. -/
def EndSt.idle (v : EndSt) (nak : Bool) : List Byte := mkFlit (v.hdr v.next 0 0 nak) []

/-- A LINKCTL flit (Table Basin-5). -/
def EndSt.ctl (v : EndSt) (kind pc dir width : Nat) (good : BitVec 66) (exp : Nat) : List Byte :=
  mkFlit (v.hdr 0 2 0 false)
    (leBytes 1 kind ++ leBytes 1 pc ++ leBytes 1 dir ++ leBytes 1 width ++ leBytes 9 good.toNat ++ leBytes 3 0 ++ leBytes 2 exp)

/-- A held flit with the ACK and the CRC of the moment at which it is sent again. -/
def EndSt.again (v : EndSt) (b : List Byte) : List Byte :=
  let h := leAt b 0 8
  mkFlit (v.hdr (fld h 11 0) 1 (fld h 31 28) false) ((b.drop 8).take 240)

-- Crossbar packets ---------------------------------------------------------------------------------------------------

/-- A crossbar packet as it crosses a link (R277): a header of 16 bytes, then the payload in whole units. -/
def Packet.bytes (p : Packet) : List Byte :=
  leBytes 2 p.dst ++ leBytes 2 p.dstTile ++ leBytes 2 p.srcTile ++ leBytes 1 p.vc ++ [0] ++ leBytes 2 p.payload.length ++ leBytes 1 p.kind ++
    List.replicate 5 0 ++ padTo ((p.payload.length + 15) / 16 * 16) p.payload

/-- The bytes that the packet whose header comes first takes. -/
def packetLen (b : List Byte) : Nat := 16 + (leAt b 8 2 + 15) / 16 * 16

/-- The packet whose header comes first. -/
def packetOf (b : List Byte) : Packet :=
  { dst := leAt b 0 2, dstTile := leAt b 2 2, srcTile := leAt b 4 2, vc := leAt b 6 1, kind := leAt b 10 1
    payload := (b.drop 16).take (leAt b 8 2) }

/-- Whole packets from units on, at most `k` of them, and what has come of the last. A unit of zeros, or a header with more than 1,024 bytes
of payload, begins no packet. -/
def takePackets : Nat → List Byte → List Packet × List Byte
  | 0, b => ([], b)
  | k + 1, b =>
    if (b.take 16).all (· == 0) || 1024 < leAt b 8 2 then ([], [])
    else if packetLen b ≤ b.length then
      let r := takePackets k (b.drop (packetLen b))
      (packetOf b :: r.1, r.2)
    else ([], b)

/-- The packets that end in a flit's payload, and what has come of one that runs on: `rx` came before, and the first header stands in unit
`first` (R277). -/
def takeFlit (rx : List Byte) (first : Nat) (p : List Byte) : List Packet × List Byte :=
  let rest := takePackets 15 (p.drop (16 * first))
  if rx.isEmpty then rest
  else if p.length < packetLen rx - rx.length then ([], rx ++ p)
  else (packetOf (rx ++ p) :: rest.1, rest.2)

/-- U of R279, and OLDEST. -/
def EndSt.unacked (v : EndSt) : Nat := v.buf.length
def EndSt.oldest (v : EndSt) : Nat := (v.next + 4096 - v.buf.length % 4096) % 4096

/-- The flits OLDEST to a are freed where a lies in that range (R281). -/
def EndSt.free (v : EndSt) (a now : Nat) : EndSt :=
  let k := (a + 4096 - v.oldest) % 4096
  if k < v.unacked then { v with buf := v.buf.drop (k + 1), timer := now } else v

/-- The flits up to EXP − 1 are freed (R282). -/
def EndSt.freeTo (v : EndSt) (exp now : Nat) : EndSt := v.free ((exp + 4095) % 4096) now

/-- Every held flit sent again. -/
def Dev.replayFlits (d : Dev) (n : LinkId) (e : LinkEnd) (v : EndSt) : Dev :=
  v.buf.foldl (fun d b => d.send (.flit n e (v.again b))) d

-- Width and maps -----------------------------------------------------------------------------------------------------

/-- Good lanes of a mask. -/
def lanesGood (m : BitVec 66) : Nat := ((List.range 66).filter (fun i => m.getLsbD i)).length

/-- Table Basin-4, under the light there is (Table Net-7); 0 where the direction has failed. -/
def chooseWidth (cap n : Nat) : Nat := Nat.min cap (if 64 ≤ n then 64 else if 32 ≤ n then 32 else if 16 ≤ n then 16 else 0)

/-- R284: the lanes that carry data: the W lowest-numbered ones of the map. -/
def lanesUsed (m : BitVec 66) (w : Nat) : List Nat := ((List.range 66).filter (fun i => m.getLsbD i)).take w

/-- A link that is FAILED, or trains again after that and is not yet UP (R288). -/
def LinkSt.failing (l : LinkSt) : Bool := l.phase == .failed || l.retry

/-- R288: the row whose link carries the traffic of a row whose own link has FAILED: the nearest whose link is UP, the lower on a tie; none
for a row that uses its own link. -/
def Dev.rowLink (d : Dev) (h : HalfId) (row : Nat) : Option Nat :=
  let is := fun (p : LinkSt → Bool) (r : Nat) => ((d.lnk.links.toList)[4 * h.val + r]?).any p
  if is LinkSt.failing row then
    ((List.range 4).flatMap (fun k => (if k ≤ row then [row - k] else []) ++ (if row + k < 4 then [row + k] else []))).find?
      (is (fun l => l.phase == .up))
  else none

/-- R288: the rows' traffic is to go over the links that R288 names; a half in service holds new injections until its mesh is empty
and the routing has switched. -/
def Dev.reroute (d : Dev) (h : HalfId) : Dev :=
  let want := (List.range 8).map (fun i => if i / 4 = h.val then d.rowLink h (i % 4) else d.fab.routesNext.getD i none)
  d.onFab (fun f =>
    if f.halfUp[h] then { f with routesNext := want, switching := if want = f.routesNext then f.switching else f.switching.set h true }
    else
      { f with routesNext := want
               routes := (List.range 8).map (fun i => if i / 4 = h.val then want.getD i none else f.routes.getD i none) })

-- The fence of a half ------------------------------------------------------------------------------------------------

/-- Packets discarded, counted in LNK_FENCE_DROPS. -/
def Dev.fenceDrop (d : Dev) (n : Nat) : Dev := { d with lnk := { d.lnk with fenceDrops := satAdd 16 d.lnk.fenceDrops n } }

/-- The half of a message of a tile. -/
def msgTile : TileMsg → TileId
  | .ended t _ _ => t
  | .fault t _ _ _ _ _ => t
  | .busy t _ _ => t

/-- Table Basin-7 step 2: packets to or from the half that the crossbar has not delivered. SENDs toward the half stay listed at
their streams, which get their notices with SEND_DELIVERY (step 3). -/
def Dev.discardHalf (d : Dev) (h : HalfId) : Dev :=
  let f := d.fab
  let inb := f.inbox.filter (fun m => tileHalf (msgTile m) = h)
  let ctl := f.ctl.filter (fun p => tileHalf p.1 = h)
  let res := f.results.filter (fun r => clusterHalf r.cluster = h)
  let out := (f.sites.filter (fun p => decide (p.1 / 272 = h.val))).flatMap (fun p =>
    p.2.streams.toList.flatMap (fun v => v.sends.filter (fun r => tileHalf r.peer ≠ h)))
  let f := { f with
    inbox := f.inbox.filter (fun m => tileHalf (msgTile m) ≠ h), ctl := f.ctl.filter (fun p => tileHalf p.1 ≠ h)
    results := f.results.filter (fun r => clusterHalf r.cluster ≠ h) }
  ({ d with fab := f }).fenceDrop (inb.length + ctl.length + res.length + out.length)

/-- Table Basin-7 step 4 for one model slot. -/
def Dev.loseModel (d : Dev) (e : Env) (m : ModelSlotId) : Dev :=
  let d := d.endModelWork e m 0x07
  let d := (d.svc.queue.filter (fun r => r.model = m.val)).foldl (fun d r => d.failReq e r 0x07) d
  let d := (d.svc.imports.filter (fun i => i.model = m.val)).foldl (fun d i =>
    ({ d with svc := { d.svc with imports := d.svc.imports.filter (fun j => j ≠ i) } }).done e i.ctx i.dsn 4 i.tag 0x07) d
  (d.svc.launches.filter (fun l => l.model = m)).foldl (fun d l =>
    let d := d.sendAborts l
    let q : LaunchFault := match l.streams with
      | s :: _ => { tile := s.1, cause := 0x0D, extra := 0 }
      | [] => { tile := 0, cause := 0x0D, extra := 0 }
    { d with svc := { d.svc with launches := d.svc.launches.map (fun (k : Launch) =>
        if k.tag = l.tag then { k with fault := some (k.fault.getD q) } else k) } }) d

/-- Table Basin-7 step 5: groups of the half leave FREE_GROUPS, to be zero-filled before they return (R294). -/
def Dev.loseGroups (d : Dev) (h : HalfId) : Dev :=
  d.svc.kv.foldl (fun d p => match p.2 with
    | some k =>
      let t := tileOfNat p.1
      if tileHalf t = h then d.setKvt t (some { k with freed := k.freed ++ k.filling ++ k.free, filling := [], free := [] }) else d
    | none => d) d

/-- R245: the register shadow keeps the values of a half that goes out of service. -/
def Dev.keepView (d : Dev) (h : HalfId) : Dev :=
  if !d.fab.halfUp[h] then d else
  { d with seen := d.seen.set h (some { sites := d.fab.sites, cols := d.fab.cols, clusters := d.fab.clusters, pwr := d.pwr, thm := d.thm
                                        wear := d.svc.wear }) }

/-- Does the move bring a page into the half or take one out of it? -/
def Dev.moveTouches (d : Dev) (h : HalfId) (m : Move) : Bool :=
  match m.kind with
  | .landing tag _ _ =>
    d.svc.launches.any (fun l => l.tag == tag && l.land.any (fun j => tileHalf j.tile == h && j.groups.contains (m.seq, m.pos0)))
  | _ => ((d.seq m.seq).bind (fun s => s.groups.find? (fun g => g.pos0 = m.pos0))).any (fun g => tileHalf g.tile == h)

/-- Table Basin-7 step 5: every move to or from the half is abandoned. -/
def Dev.dropMoves (d : Dev) (h : HalfId) : Dev :=
  { d with svc := { d.svc with moves := d.svc.moves.filter (fun m => !d.moveTouches h m) } }

/-- The fence of a half (R292, Table Basin-7). -/
def Dev.fenceHalf (d : Dev) (e : Env) (h : HalfId) (c : FenceCause) : Dev :=
  if d.fab.fenced[h] then d else
  let d := d.keepView h
  let d := d.onFab (fun f => { f with halfUp := f.halfUp.set h false, fenced := f.fenced.set h true })
  let d := { d with lnk := { d.lnk with cause := d.lnk.cause.set h (some c) } }
  let d := (d.discardHalf h).dropMoves h
  let d := (List.finRange 16).foldl (fun d m => if (d.model m).bind.any (fun t => tileHalf t = h) then d.loseModel e m else d) d
  let dead := d.fab.ctl.filter (fun p => tileHalf p.1 = h)
  let d := (d.onFab (fun f => { f with ctl := f.ctl.filter (fun p => tileHalf p.1 ≠ h) })).fenceDrop dead.length
  let d := (d.loseGroups h).failHalfOps e h
  d.onFab (fun f => f.report e 0x0303 (.half h) c.code 0 none 6)

-- A link that fails --------------------------------------------------------------------------------------------------

/-- A link becomes FAILED (R282, R284, R288, R325): its unacknowledged flits are discarded; with the fourth of a half the half is
fenced. -/
def Dev.linkFails (d : Dev) (e : Env) (n : LinkId) (attempts : Nat) : Dev :=
  let l := d.link n
  if l.phase = .failed then d else
  let drop := l.basin.buf.length + l.half.buf.length
  let clear := fun (v : EndSt) => { v with buf := [], prop := none, nakAt := none, rx := [] }
  let again := l.retry
  let d := (d.setLink n { l with phase := .failed, basin := clear l.basin, half := clear l.half, failedAt := e.time.ticks, retry := false }).fenceDrop drop
  let d := if again then d else d.onFab (fun f => f.report e 0x0302 (.halfLink n 0 0x7F) attempts 0)
  let h := linkHalf n
  if (List.range 4).all (fun r => match (d.lnk.links.toList)[4 * h.val + r]? with
      | some k => k.phase == .failed
      | none => false) then d.fenceHalf e h .links
  else d.reroute h

-- Proposals ----------------------------------------------------------------------------------------------------------

/-- R285 step 1: the receiving end proposes a map and switches its receiver to it. -/
def Dev.proposeMap (d : Dev) (e : Env) (n : LinkId) (s : LinkEnd) (good : BitVec 66) (w : Nat) : Dev :=
  let l := d.link n
  let v := l.at_ s
  let pc := (v.pc + 1) % 256
  let p : Proposal := { retrain := false, pc := pc, width := w, good := good, oldWidth := v.width, oldGood := v.rxMap
                        since := e.time.ticks, last := e.time.ticks }
  let v := { v with pc := pc, prop := some p, rxMap := good, width := w }
  (d.setLink n (l.setAt s v)).send (.flit n s (v.ctl 1 pc (rxDir s) w good 0))

/-- R284, R286: an end assesses its lanes: with fewer than 16 good ones the link has failed; else it proposes a change that is needed, where
it has no proposal outstanding. -/
def Dev.assess (d : Dev) (e : Env) (n : LinkId) (s : LinkEnd) : Dev :=
  let l := d.link n
  let v := l.at_ s
  let w := chooseWidth d.lnk.wcap (lanesGood v.good)
  if l.phase ≠ .up && l.phase ≠ .recovery then d
  else if w = 0 then d.linkFails e n 0
  else if l.phase ≠ .up || v.prop.isSome then d
  else if w ≠ v.width || (lanesUsed v.rxMap v.width).any (fun i => !v.good.getLsbD i) then d.proposeMap e n s v.good w
  else d

/-- An end gives up its own proposal and returns its receiver to the map in force (R286). -/
def EndSt.abandon (v : EndSt) : EndSt :=
  match v.prop with
  | some p => if p.retrain then { v with prop := none } else { v with prop := none, rxMap := p.oldGood, width := p.oldWidth }
  | none => v

/-- Both directions on the W lowest-numbered of the lanes that their receivers hold to be good (R284). -/
def LinkSt.remap (l : LinkSt) (cap : Nat) : LinkSt :=
  let wb := chooseWidth cap (lanesGood l.basin.good)
  let wh := chooseWidth cap (lanesGood l.half.good)
  { l with
    basin := { l.basin with rxMap := l.basin.good, width := wb, txMap := l.half.good, txWidth := wh, prop := none, nakAt := none }
    half := { l.half with rxMap := l.half.good, width := wh, txMap := l.basin.good, txWidth := wb, prop := none, nakAt := none } }

/-- A RETRAIN flit (R289 step 4): the direction that the proposing end receives, with its W and its lanes, and the EXP of its receiver. -/
def EndSt.retrainCtl (v : EndSt) (s : LinkEnd) (cap : Nat) : List Byte :=
  v.ctl 3 v.pc (rxDir s) (chooseWidth cap (lanesGood v.good)) v.good v.exp

/-- An end proposes RETRAIN (R285, R286): the link enters RECOVERY. -/
def Dev.proposeRetrain (d : Dev) (e : Env) (n : LinkId) (s : LinkEnd) : Dev :=
  let l := d.link n
  let v := (l.at_ s).abandon
  let pc := (v.pc + 1) % 256
  let p : Proposal := { retrain := true, pc := pc, width := v.width, good := v.rxMap, oldWidth := v.width, oldGood := v.rxMap
                        since := e.time.ticks, last := e.time.ticks }
  let v := { v with pc := pc, prop := some p }
  let l := if l.phase = .up then { l with phase := .recovery, retrains := satAdd 8 l.retrains 1 } else l
  (d.setLink n (l.setAt s v)).send (.flit n s (v.retrainCtl s d.lnk.wcap))

-- Flits that arrive --------------------------------------------------------------------------------------------------

/-- R280: one NAK, and no further one until an acceptance or 1 µs. -/
def Dev.sendNak (d : Dev) (e : Env) (n : LinkId) (s : LinkEnd) : Dev :=
  let l := d.link n
  let v := l.at_ s
  let due := match v.nakAt with
    | some t => decide (t + 1 ≤ e.time.ticks)
    | none => true
  if due then (d.setLink n (l.setAt s { v with nakAt := some e.time.ticks })).send (.flit n s (v.idle true)) else d

/-- R281: the ACK, or the NAK, of a good flit acts on the transmitter of the end that receives it. -/
def Dev.takeAck (d : Dev) (e : Env) (n : LinkId) (s : LinkEnd) (h : Nat) : Dev :=
  let l := d.link n
  let v := l.at_ s
  if !bit h 24 then d else
  let a := fld h 23 12
  let v' := v.free a e.time.ticks
  if bit h 25 then
    if v'.oldest = (a + 1) % 4096 then
      (d.setLink n { (l.setAt s v') with replays := satAdd 16 l.replays 1 }).replayFlits n s v'
    else d.setLink n (l.setAt s v')
  else d.setLink n (l.setAt s v')

/-- A flit that fails its CRC (R278). -/
def Dev.crcError (d : Dev) (n : LinkId) : Dev :=
  let l := d.link n
  d.setLink n { l with crcErrs := satAdd 16 l.crcErrs 1 }

/-- A DATA flit that the far transmitter sends for the first time: it has the SEQ NEXT, and the transmitter keeps it until it is
acknowledged, whether or not it arrives (R279). -/
def Dev.noteSent (d : Dev) (e : Env) (n : LinkId) (s : LinkEnd) (f : Flit) : Dev :=
  let l := d.link n
  let t := l.at_ (endOther s)
  if flitOk f && fld (flitHdr f) 27 26 = 1 && fld (flitHdr f) 11 0 = t.next && decide (t.unacked < 2047) then
    d.setLink n (l.setAt (endOther s) { t with next := (t.next + 1) % 4096, buf := t.buf ++ [f.bytes],
                                                   timer := if t.buf.isEmpty then e.time.ticks else t.timer })
  else d

/-- Packets delivered by an end; those from a fenced half are discarded and counted (Table Basin-7 step 2). -/
def Dev.deliverPackets (d : Dev) (n : LinkId) (s : LinkEnd) (ps : List Packet) : Dev :=
  if s == .basin && d.fab.fenced[linkHalf n] then d.fenceDrop ps.length
  else ps.foldl (fun d p => d.send (.linkPacket n s p)) d

/-- A DATA flit arrives (R278–R281). -/
def Dev.flitArrives (d : Dev) (e : Env) (n : LinkId) (s : LinkEnd) (f : Flit) : Dev :=
  if !flitOk f then (d.crcError n).sendNak e n s
  else if fld (flitHdr f) 27 26 ≠ 1 then d
  else
    let d := d.noteSent e n s f
    let v := (d.link n).at_ s
    let seq := fld (flitHdr f) 11 0
    let k := (v.exp + 4096 - seq) % 4096
    if k = 0 then
      let t := (d.link n).at_ (endOther s)
      if t.next = seq && 2047 ≤ t.unacked then d else
      let d := d.takeAck e n s (flitHdr f)
      let l := d.link n
      let r := takeFlit (l.at_ s).rx (fld (flitHdr f) 31 28) (flitPayload f)
      let v := { (l.at_ s) with exp := (seq + 1) % 4096, nakAt := none, rx := r.2 }
      ((d.setLink n (l.setAt s v)).send (.flit n s (v.idle false))).deliverPackets n s r.1
    else
      let d := d.takeAck e n s (flitHdr f)
      if k ≤ 2047 then
        let l := d.link n
        d.setLink n { l with dupFlits := satAdd 16 l.dupFlits 1 }
      else d.sendNak e n s

/-- DATA_FLIT: the far end has sent the lost flits before, and then this one arrives. -/
def Dev.dataFlit (d : Dev) (e : Env) (n : LinkId) (s : LinkEnd) (lost : List Flit) (f : Flit) : Dev :=
  if (d.link n).phase ≠ .up then d else (lost.foldl (fun d g => d.noteSent e n s g) d).flitArrives e n s f

/-- IDLE_FLIT (R278, R281). -/
def Dev.idleFlit (d : Dev) (e : Env) (n : LinkId) (s : LinkEnd) (f : Flit) : Dev :=
  if (d.link n).phase ≠ .up then d
  else if !flitOk f then d.crcError n
  else if fld (flitHdr f) 27 26 ≠ 0 then d
  else d.takeAck e n s (flitHdr f)

/-- A LINKCTL flit of a kind that an end receives while its link is up or in recovery; a bad one is discarded and counted. -/
def Dev.ctlFlit (d : Dev) (e : Env) (n : LinkId) (s : LinkEnd) (f : Flit) (kind : Nat) (act : Dev → Nat → Dev) : Dev :=
  let ph := (d.link n).phase
  if ph ≠ .up && ph ≠ .recovery then d
  else if !flitOk f then d.crcError n
  else if fld (flitHdr f) 27 26 ≠ 2 || leAt f.bytes 8 1 ≠ kind then d
  else act (d.takeAck e n s (flitHdr f)) (leAt f.bytes 9 1)

/-- The end has a RETRAIN of its own outstanding. -/
def EndSt.retraining (v : EndSt) : Bool := v.prop.any (fun p => p.retrain)

/-- MAP (R285 step 2, R286): the transmitter of the end switches and answers. A RETRAIN of its own supersedes the MAP. -/
def Dev.mapFlit (d : Dev) (e : Env) (n : LinkId) (s : LinkEnd) (f : Flit) : Dev :=
  d.ctlFlit e n s f 1 (fun d pc =>
    let l := d.link n
    let v := l.at_ s
    let w := leAt f.bytes 11 1
    let good := BitVec.ofNat 66 (leAt f.bytes 12 9)
    if v.retraining || (s == .basin && v.prop.isSome) || leAt f.bytes 10 1 != (rxDir (endOther s)) || !(w == 64 || w == 32 || w == 16) then d
    else
      let had := v.prop.isSome
      let v := { v.abandon with txMap := good, txWidth := w }
      let d := (d.setLink n (l.setAt s v)).send (.flit n s (v.ctl 2 pc (rxDir (endOther s)) 0 0 0))
      if had then d.assess e n s else d)

/-- MAPACK (R285, R286): the change is complete. -/
def Dev.mapAck (d : Dev) (e : Env) (n : LinkId) (s : LinkEnd) (f : Flit) : Dev :=
  d.ctlFlit e n s f 2 (fun d pc =>
    let l := d.link n
    let v := l.at_ s
    match v.prop with
    | some p =>
      if p.retrain || p.pc ≠ pc then d
      else
        let d := d.setLink n { (l.setAt s { v with prop := none }) with mapChanges := satAdd 8 l.mapChanges 1 }
        (d.onFab (fun g => g.report e 0x0301 (.halfLink n (rxDir s) 0x7F) p.width (lanesGood p.good))).assess e n s
    | none => d)

/-- MAPACK_TIMEOUT (R285 step 4). -/
def Dev.mapTimeout (d : Dev) (e : Env) (n : LinkId) (s : LinkEnd) : Dev :=
  let l := d.link n
  let v := l.at_ s
  match v.prop with
  | some p =>
    if p.retrain || l.phase ≠ .up then d
    else if p.since + 10 ≤ e.time.ticks then d.proposeRetrain e n s
    else if p.last + 1 ≤ e.time.ticks then
      (d.setLink n (l.setAt s { v with prop := some { p with last := e.time.ticks } })).send (.flit n s (v.ctl 1 p.pc (rxDir s) p.width p.good 0))
    else d
  | none => d

/-- The flits that the far receiver has are freed and the rest replayed (R282). -/
def Dev.resume (d : Dev) (e : Env) (n : LinkId) (s : LinkEnd) (exp : Nat) : Dev :=
  let l := d.link n
  let v := { (l.at_ s).freeTo exp e.time.ticks with nakAt := none, timer := e.time.ticks }
  (d.setLink n (l.setAt s v)).replayFlits n s v

/-- W and the lanes that a RETRAIN proposes, taken by the transmitter of the end that receives it; none where it proposes none. -/
def EndSt.takeMap (v : EndSt) (s : LinkEnd) (f : Flit) : EndSt :=
  let w := leAt f.bytes 11 1
  if leAt f.bytes 10 1 = rxDir (endOther s) && (w = 64 || w = 32 || w = 16) then
    { v with txMap := BitVec.ofNat 66 (leAt f.bytes 12 9), txWidth := w }
  else v

/-- RETRAIN (R286, R289): it supersedes a MAP in progress; the Basin ignores one that crosses its own RETRAIN. -/
def Dev.retrainFlit (d : Dev) (e : Env) (n : LinkId) (s : LinkEnd) (f : Flit) : Dev :=
  d.ctlFlit e n s f 3 (fun d pc =>
    let l := d.link n
    let v := l.at_ s
    if s == .basin && v.retraining then d
    else
      let l := if l.phase = .up then { l with phase := .recovery, retrains := satAdd 8 l.retrains 1 } else l
      let v := v.abandon.takeMap s f
      let d := (d.setLink n (l.setAt s v)).send (.flit n s (v.ctl 4 pc (rxDir (endOther s)) 0 0 v.exp))
      d.resume e n s (leAt f.bytes 24 2 % 4096))

/-- A training attempt fails (R282, R289). -/
def Dev.trainFails (d : Dev) (e : Env) (n : LinkId) : Dev :=
  let l := d.link n
  let k := l.tries + 1
  if retrainMax e ≤ k || l.retry then ({ d with lnk := (d.setLink n { l with tries := k }).lnk }).linkFails e n k
  else d.setLink n { l with tries := k, phase := if l.phase = .training then .down else l.phase }

/-- RETRAINACK (R282, R286, R289): the training completes on the lanes that the ends now hold to be good, and numbering goes on; with fewer
than 16 in a direction the attempt fails. -/
def Dev.retrainAck (d : Dev) (e : Env) (n : LinkId) (s : LinkEnd) (f : Flit) : Dev :=
  d.ctlFlit e n s f 4 (fun d pc =>
    let l := d.link n
    let v := l.at_ s
    match v.prop with
    | some p =>
      if !p.retrain || p.pc ≠ pc then d
      else
        let r := l.remap d.lnk.wcap
        if r.basin.width = 0 || r.half.width = 0 then d.trainFails e n
        else (d.setLink n { r with phase := .up, tries := 0 }).resume e n s (leAt f.bytes 24 2 % 4096)
    | none => d)

/-- LNK_TIMEOUT (R282). -/
def Dev.lnkTimeout (d : Dev) (e : Env) (n : LinkId) (s : LinkEnd) : Dev :=
  let l := d.link n
  let v := l.at_ s
  if l.phase = .up && v.unacked != 0 && decide (v.timer + lnkLimit e ≤ e.time.ticks) then
    d.setLink n { l with phase := .recovery, retrains := satAdd 8 l.retrains 1, basin := l.basin.abandon, half := l.half.abandon }
  else d

-- Lanes --------------------------------------------------------------------------------------------------------------

/-- LANE_BAD (R283–R285). -/
def Dev.laneBad (d : Dev) (e : Env) (n : LinkId) (s : LinkEnd) (lane : Fin 66) : Dev :=
  let l := d.link n
  let v := l.at_ s
  if !v.good.getLsbD lane.val then d
  else (d.setLink n (l.setAt s { v with good := v.good &&& ~~~(BitVec.ofNat 66 (2 ^ lane.val)) })).assess e n s

/-- MARGIN_WARNING (R287): a weak lane in use is exchanged for a calibrated spare; it then returns to the spares or is bad. -/
def Dev.marginWarning (d : Dev) (e : Env) (n : LinkId) (s : LinkEnd) (lane : Fin 66) (regains : Bool) : Dev :=
  let l := d.link n
  let v := l.at_ s
  let m := v.good &&& ~~~(BitVec.ofNat 66 (2 ^ lane.val))
  let spare := decide (v.width ≤ lanesGood m)
  if l.phase ≠ .up || v.prop.isSome || !spare || !(lanesUsed v.rxMap v.width).contains lane.val then d
  else
    let d := d.proposeMap e n s m v.width
    if regains then d
    else
      let l := d.link n
      d.setLink n (l.setAt s { (l.at_ s) with good := m })

-- Training -----------------------------------------------------------------------------------------------------------

/-- LINK_TRAINING_START (Table Basin-6 step 1): there is light, and both clocks run, one that was lost having come back. -/
def Dev.trainStart (d : Dev) (n : LinkId) : Dev :=
  let l := d.link n
  if l.phase = .down && d.lnk.wcap != 0 then d.setLink n { l with phase := .training, clockLost := false } else d

/-- Steps 3 to 6 of Table Basin-6 with the lanes found good in the two directions. -/
def Dev.trained (d : Dev) (e : Env) (n : LinkId) (goodBH goodHB : BitVec 66) : Dev :=
  let l := d.link n
  if l.phase ≠ .training && l.phase ≠ .recovery then d else
  let base := fun (v : EndSt) (m : BitVec 66) =>
    if l.phase = .training then { v with next := 0, buf := [], exp := 0, rx := [], good := m } else { v with good := m }
  let r := ({ l with basin := { base l.basin goodHB with pc := (l.basin.pc + 1) % 256 }, half := base l.half goodBH }).remap d.lnk.wcap
  if l.clockLost || r.basin.width = 0 || r.half.width = 0 then d.trainFails e n
  else
    let d := d.setLink n { r with phase := .up, tries := 0, retry := false }
    let d := d.send (.flit n .basin (r.basin.retrainCtl .basin d.lnk.wcap))
    let d := d.send (.flit n .basin (r.basin.ctl 3 r.basin.pc 0 r.half.width r.half.good r.basin.exp))
    let d := d.send (.flit n .half (r.half.ctl 4 r.basin.pc 1 0 0 r.half.exp))
    ((d.resume e n .basin r.half.exp).resume e n .half r.basin.exp).reroute (linkHalf n)

/-- FAILED_LINK_RETRY (R288): Lockkeeper retries every 1 s, through Table Basin-6, whose step 1 asks for both clocks and light. -/
def Dev.linkRetry (d : Dev) (e : Env) (n : LinkId) : Dev :=
  let l := d.link n
  if l.phase = .failed && d.lkkRuns && d.lnk.wcap != 0 && decide (l.failedAt + 1000000 ≤ e.time.ticks) then
    d.setLink n { l with phase := .training, retry := true, failedAt := e.time.ticks, clockLost := false }
  else d

-- The Towpath --------------------------------------------------------------------------------------------------------

/-- A Towpath trunk of the half works: packets reach its nodes (R290, R291). -/
def Dev.towUp (d : Dev) (h : HalfId) : Bool := d.lnk.trunk[h] != 2

/-- TRUNK_FAIL (R291, R292). -/
def Dev.trunkFail (d : Dev) (e : Env) (h : HalfId) (k : Fin 2) : Dev :=
  let i : Fin 4 := ⟨2 * h.val + k.val, by omega⟩
  let j : Fin 4 := ⟨2 * h.val + (1 - k.val), by omega⟩
  if !d.lnk.trunkOk[i] then d else
  let d := { d with lnk := { d.lnk with trunkOk := d.lnk.trunkOk.set i false } }
  let active : Nat := if d.lnk.trunkOk[j] then 1 - k.val else 2
  let d := { d with lnk := { d.lnk with
    trunk := if d.lnk.trunk[h] = k.val || active = 2 then d.lnk.trunk.set h active else d.lnk.trunk } }
  let d := d.onFab (fun f => f.report e 0x0304 (.trunk h k.val) 0 0)
  if active = 2 then d.fenceHalf e h .towpath else d

-- Tier-2 -------------------------------------------------------------------------------------------------------------

/-- The decoders of R296 for devices of given capacities in MiB, 0 for a position without one: COMMIT, WAYS, SIZE and BASE in units of 256 MiB. -/
def t2Decoders (caps : List Nat) : Vector Nat 4 :=
  let dec := fun (ways size base : Nat) => if size = 0 then 0 else 2 ^ 31 + ways * 2 ^ 29 + size * 2 ^ 14 + base
  let there := caps.filter (· ≠ 0)
  let n := there.length
  if (n = 2 || n = 4) && there.all (fun c => c == there.headD 0) then
    Vector.ofFn (fun (i : Fin 4) => if i = 0 then dec (if n = 2 then 1 else 2) (Nat.min 16384 (n * (there.headD 0 / 256))) 0 else 0)
  else
    Vector.ofFn (fun (i : Fin 4) =>
      let base := ((caps.take i.val).map (· / 256)).sum
      dec 0 (Nat.min ((caps.getD i.val 0) / 256) (16384 - base)) base)

/-- TIER2_LINK_UP (R296): up to four devices; tier-2 memory is treated as empty. -/
def Dev.t2Up (d : Dev) (caps : List Nat) : Dev :=
  if d.lnk.t2.up || !d.lnk.t2.clock then d
  else { d with
    lnk := { d.lnk with t2 := { d.lnk.t2 with up := true, caps := caps.take 4, dec := t2Decoders (caps.take 4) } }
    svc := { d.svc with t2Used := [] } }

/-- TIER2_LOST (R150, R298). -/
def Dev.t2Lost (d : Dev) (e : Env) : Dev :=
  if !d.lnk.t2.up then d else
  let d := { d with lnk := { d.lnk with t2 := { d.lnk.t2 with up := false, caps := [], dec := Vector.replicate 4 0 } } }
  let d := d.onFab (fun f => f.report e 0x0602 (.basinBlock 2) 0 0)
  let d := (d.liveSeqs.filter (fun p => p.2.groups.any (fun g => g.gst == 4 || g.gst == 5 || g.gst == 6))).foldl
    (fun d p => d.loseSeq e p.1 0x06) d
  { d with svc := { d.svc with t2Used := [], t2Acks := [] } }

-- Read-to-clear counters ---------------------------------------------------------------------------------------------

def Dev.readT2Err (d : Dev) (f : FuncId) : Dev :=
  d.readRc f (d.lnk.t2.poisonRd * 2 ^ 16 + d.lnk.t2.timeouts)
    (fun d => { d with lnk := { d.lnk with t2 := { d.lnk.t2 with poisonRd := 0, timeouts := 0 } } })

def Dev.readFenceErr (d : Dev) (f : FuncId) : Dev :=
  d.readRc f d.lnk.fenceDrops (fun d => { d with lnk := { d.lnk with fenceDrops := 0 } })

def Dev.readLnkErr (d : Dev) (f : FuncId) (n : LinkId) : Dev :=
  let l := d.link n
  d.readRc f (l.replays * 2 ^ 16 + l.crcErrs) (fun d => d.setLink n { l with replays := 0, crcErrs := 0 })

def Dev.readLnkEvents (d : Dev) (f : FuncId) (n : LinkId) : Dev :=
  let l := d.link n
  d.readRc f (l.retrains * 2 ^ 24 + l.mapChanges * 2 ^ 16 + l.dupFlits)
    (fun d => d.setLink n { l with retrains := 0, mapChanges := 0, dupFlits := 0 })

end Sys2Proof.Machine
end

