-- ==== Sys2Proof/Machine/NetOps.lean ====
section
/-! DEFINITION. Ethernet ports, address resolution, PFC, the PTP clock, light and the light cartridges (R301–R303, R311,
R313, R314, R324–R333). -/

namespace Sys2Proof.Machine

/-- A register of the register map written by its BAR0 offset. -/
def Dev.putReg (d : Dev) (off v : Nat) : Dev := { d with regs := tput d.regs off v }

-- Ports --------------------------------------------------------------------------------------------------------------

/-- A port taken down: sub-ports and lanes. -/
def Port.down (p : Port) : Port := { p with up := 0, locked := 0 }

/-- R302: a write that changes SPLIT or MAX_FRAME while EN = 1 is discarded. -/
def cfgFrozen (old v : Nat) : Bool := bit old 31 && (bit v 30 != bit old 30 || fld v 13 0 != fld old 13 0)

/-- Ports that Table Net-7 lights: the lowest-numbered enabled ones. -/
def litPorts (cap : Nat) : Nat := match cap with
  | 64 => 16
  | 32 => 12
  | 16 => 6
  | _ => 0

/-- Is a MAP outstanding on a link? -/
def Dev.mapsOpen (d : Dev) : Bool :=
  d.lnk.links.toList.any (fun l => l.phase == .up && (l.basin.prop.isSome || l.half.prop.isSome))

/-- R326: light restored to the ports that have it back, and withdrawn from those given up once every MAPACK is in. -/
def Dev.lightPorts (d : Dev) (e : Env) : Dev :=
  let en := fun (n : PortId) => match d.regs.find? (fun p => p.1 = 0x200000 + 0x40 * n.val) with
    | some p => bit p.2 31
    | none => portEn e n
  let on := ((List.finRange 16).filter en).take (litPorts d.lnk.wcap)
  (List.finRange 16).foldl (fun d n =>
    let p := d.port n
    let dark := en n && !on.contains n
    if dark == p.dark || (dark && d.mapsOpen) then d
    else d.setPort n (if dark then { p.down with dark := true } else { p with dark := false })) d

/-- PORT_ENABLE (R302). -/
def Dev.portEnable (d : Dev) (e : Env) (f : FuncId) (n : PortId) (v : Word) : Dev :=
  let old := portCfg e n
  if f ≠ 0 || !v.getLsbD 31 || cfgFrozen old v.toNat then d
  else (d.putReg (0x200000 + 0x40 * n.val) (v &&& 0xC0FF3FFF).toNat).lightPorts e

/-- PORT_DISABLE (R302). -/
def Dev.portDisable (d : Dev) (e : Env) (f : FuncId) (n : PortId) (v : Word) : Dev :=
  let old := portCfg e n
  if f ≠ 0 || v.getLsbD 31 || cfgFrozen old v.toNat then d
  else
    let d := d.putReg (0x200000 + 0x40 * n.val) (v &&& 0xC0FF3FFF).toNat
    (d.setPort n { (d.port n).down with dark := false }).lightPorts e

/-- Lanes of a sub-port. -/
def subLanes (split : Bool) (s : Nat) : BitVec 8 := if split then (if s = 0 then 0x0F else 0xF0) else 0xFF

/-- PORT_UP (R302). -/
def Dev.portUp (d : Dev) (e : Env) (n : PortId) (s : Fin 2) : Dev :=
  let p := d.port n
  if portEn e n && !p.dark && !p.clkLost && (s.val = 0 || portSplit e n) then
    d.setPort n { p with up := p.up ||| BitVec.ofNat 2 (2 ^ s.val), locked := p.locked ||| subLanes (portSplit e n) s.val }
  else d

/-- LANE_LOCK_LOSS (R324): the lane relocks within 100 µs; how many codewords are lost meanwhile is open. -/
def Dev.laneLockLoss (d : Dev) (n : PortId) (lane : Fin 8) : Dev :=
  let p := d.port n
  if p.locked.getLsbD lane.val then d.setPort n { p with fecUncorr := satAdd 16 p.fecUncorr (d.fab.freeNat 3) } else d

/-- LANE_LOCK_TIMEOUT (R324): the sub-port goes down until the lane is recalibrated. -/
def Dev.laneLockTimeout (d : Dev) (e : Env) (n : PortId) (lane : Fin 8) : Dev :=
  let p := d.port n
  let s := if portSplit e n then lane.val / 4 else 0
  if p.locked.getLsbD lane.val then
    d.setPort n { p with up := p.up &&& ~~~(BitVec.ofNat 2 (2 ^ s)), locked := p.locked &&& ~~~(BitVec.ofNat 8 (2 ^ lane.val)) }
  else d

/-- ETH_PORT_CLOCK_LOSS and its return (Table Net-11). -/
def Dev.portClockLoss (d : Dev) (n : PortId) : Dev := d.setPort n { (d.port n).down with clkLost := true }
def Dev.portClockReturn (d : Dev) (n : PortId) : Dev := d.setPort n { d.port n with clkLost := false }

def Dev.readPortErr (d : Dev) (f : FuncId) (n : PortId) : Dev :=
  let p := d.port n
  d.readRc f (p.fecUncorr * 2 ^ 16 + p.rxDrop) (fun d => d.setPort n { p with fecUncorr := 0, rxDrop := 0 })

/-- MAC address of a sub-port (Table Net-1). -/
def macOf (e : Env) (n : PortId) (s : Fin 2) : Nat := e.reg 0x200800 + e.reg 0x200804 * 2 ^ 32 + 2 * n.val + s.val

/-- R303 item 2: an address asked for that is the SIP of a queue pair in RTS on the sub-port is answered. -/
def Dev.resolve (d : Dev) (e : Env) (n : PortId) (s : Fin 2) (ipv : Nat) (ip : Nat) : Dev :=
  if !d.subUp n s then d
  else if d.net.qps.any (fun p => p.2.state == 1 && p.2.port == n && p.2.sub == s && p.2.f 4 30 30 == ipv && p.2.sip == ip) then
    d.send (.neighbor n s.val (macOf e n s) ip)
  else d.rxDrop n

/-- ARP_REQUEST and NEIGHBOR_SOLICITATION (R303). -/
def Dev.arp (d : Dev) (e : Env) (n : PortId) (s : Fin 2) (ip : BitVec 128) : Dev := d.resolve e n s 0 ip.toNat
def Dev.neighborSol (d : Dev) (e : Env) (n : PortId) (s : Fin 2) (ip : BitVec 128) : Dev := d.resolve e n s 1 ip.toNat

-- PFC ----------------------------------------------------------------------------------------------------------------

/-- PFC_FRAME (R311): a quantum is 512 bit times of the port; 0 resumes. -/
def Dev.pfcFrame (d : Dev) (e : Env) (n : PortId) (prio : Fin 8) (quanta : BitVec 16) : Dev :=
  let p := d.port n
  if !bit (portCfg e n) (16 + prio.val) then d
  else if quanta = 0 then (d.setPort n { p with pause := p.pause.set prio none }).pumpNet e
  else d.setPort n { p with pause := p.pause.set prio (some (netNow e + quanta.toNat * 512 / lineRate e n)) }

/-- PFC_PAUSE_EXPIRY (R311). -/
def Dev.pfcExpiry (d : Dev) (e : Env) (n : PortId) (prio : Fin 8) : Dev :=
  let p := d.port n
  match p.pause[prio] with
  | some t => if t ≤ netNow e then (d.setPort n { p with pause := p.pause.set prio none }).pumpNet e else d
  | none => d

-- IEEE 1588 ----------------------------------------------------------------------------------------------------------

/-- A signed 16-bit value that saturates (OFFSET_NS). -/
def satOffset (x : Int) : Int := max (-32768) (min 32767 x)

/-- The servo's view of one measured offset (R313): LOCKED after 10 s within ±100 ns, cleared beyond ±1 µs; PTP time is set by the offset. -/
def PtpSt.measure (s : PtpSt) (now : Nat) (x : Int) : PtpSt :=
  let inside := decide (x.natAbs ≤ 100)
  let since := if inside then some (s.inSince.getD now) else none
  let lock := match since with
    | some t => decide (t + 10000000 ≤ now)
    | none => false
  { s with offset := satOffset x, inSince := since, locked := lock || (s.locked && decide (x.natAbs ≤ 1000)), adj := s.adj - x }

/-- PTP_MESSAGE (R303, R313, R314): a message on the sub-port, domain and transport that NET_PTP_CFG selects. -/
def Dev.ptpMessage (d : Dev) (e : Env) (n : PortId) (s : Fin 2) (m : PtpMsg) : Dev :=
  let c := e.reg 0x201010
  if !d.subUp n s then d
  else if !bit c 6 || fld c 3 0 ≠ n.val || fld c 4 4 ≠ s.val || fld c 15 8 ≠ m.domain.toNat || bit c 7 ≠ m.udp then d.rxDrop n
  else if d.net.ptp.clkLost || !d.lkkRuns then d
  else
    let p := { d.net.ptp with valid := true }
    match m.offset with
    | some x => { d with net := { d.net with ptp := p.measure (netNow e) x } }
    | none => ({ d with net := { d.net with ptp := p } }).send (.ptpDelayReq n s m.domain.toNat m.udp)

/-- PTP time in ns, and PPS_OUT: high for 1 ms at each of its seconds while VALID is 1 (R314, Table Lands-3). -/
def Dev.ptpNs (d : Dev) (e : Env) : Int := nowNs e.time + d.net.ptp.adj
def Dev.ppsOut (d : Dev) (e : Env) : Bool := d.net.ptp.valid && decide (d.ptpNs e % 1000000000 < 1000000)

/-- A write of NET_PTP_CFG: VALID is 0 while EN is 0 (R314). -/
def Dev.ptpCfg (d : Dev) (v : Nat) : Dev :=
  if bit v 6 then d else { d with net := { d.net with ptp := { d.net.ptp with valid := false, inSince := none } } }

/-- PTP_CLOCK_LOSS and its return (Table Net-11, R314). -/
def Dev.ptpClockLoss (d : Dev) : Dev := { d with net := { d.net with ptp := { d.net.ptp with clkLost := true, valid := false, inSince := none } } }
def Dev.ptpClockReturn (d : Dev) : Dev := { d with net := { d.net with ptp := { d.net.ptp with clkLost := false } } }

-- Light --------------------------------------------------------------------------------------------------------------

def Dev.cart (d : Dev) (k : CartId) : Cart := d.net.carts[k]
def Dev.setCart (d : Dev) (k : CartId) (c : Cart) : Dev := { d with net := { d.net with carts := d.net.carts.set k c } }

/-- min(P_MAX, P_R). -/
def Cart.usable (c : Cart) : Nat := Nat.min c.pmax c.rated

/-- The capacity C of R325 as a fraction, over the SERVING cartridges. -/
def Dev.lightC (d : Dev) : Nat × Nat :=
  d.net.carts.toList.foldl (fun p c =>
    if c.cstate = .serving && c.rated != 0 then (p.1 * c.rated + c.usable * p.2, p.2 * c.rated) else p) (0, 1)

/-- C without one cartridge. -/
def Dev.lightWithout (d : Dev) (k : CartId) : Nat × Nat := (d.setCart k { d.cart k with cstate := .draining }).lightC

/-- Table Net-7: the width for which there is light. -/
def lightCap (c : Nat × Nat) : Nat :=
  if 3 * c.2 ≤ c.1 then 64 else if 2 * c.2 ≤ c.1 then 32 else if c.2 ≤ c.1 then 16 else 0

/-- The demand of a mode, in units of one P_R. -/
def lightDemand (cap : Nat) : Nat := match cap with
  | 64 => 3
  | 32 => 2
  | 16 => 1
  | _ => 0

/-- Hours and drive-weighted hours brought up to date (R329). -/
def Cart.accrue (c : Cart) (now : Nat) : Cart :=
  if c.cstate = .serving || c.cstate = .draining then
    let t := now - c.servedFrom
    let on := c.onRest + t
    let dr := c.driveRest + t * c.drive
    { c with servedFrom := now, onHours := c.onHours + on / 3600000000, onRest := on % 3600000000
             driveHours := c.driveHours + dr / 360000000000, driveRest := dr % 360000000000 }
  else { c with servedFrom := now }

/-- R325: the drive of a serving cartridge, as a percentage of P_R, at the fraction `demand / C` of min(P_MAX, P_R), at most all
of it. -/
def driveOf (c : Cart) (demand : Nat) (cap : Nat × Nat) : Nat :=
  if c.rated = 0 then 0 else Nat.min (100 * c.usable / c.rated) (100 * demand * cap.2 * c.usable / (Nat.max 1 cap.1 * c.rated))

/-- R325: the setpoints of the serving cartridges; one that must be authenticated again keeps its own (R333). -/
def Dev.setDrives (d : Dev) (e : Env) : Dev :=
  let c := d.lightC
  { d with net := { d.net with carts := d.net.carts.map (fun k =>
      if k.cstate = .serving && !k.recheck then { k.accrue e.time.ticks with drive := driveOf k (lightDemand (lightCap c)) c } else k) } }

/-- Every end of every link assesses its width. -/
def Dev.assessAll (d : Dev) (e : Env) : Dev :=
  (List.finRange 8).foldl (fun d n => (d.assess e n .basin).assess e n .half) d

/-- LIGHT_MODE_CHANGE (R325, R326, Table Net-7). -/
def Dev.lightUpdate (d : Dev) (e : Env) : Dev :=
  let cap := lightCap d.lightC
  let d := d.setDrives e
  let d := { d with lnk := { d.lnk with wcap := cap } }
  if cap = 0 then
    let d := (List.finRange 8).foldl (fun d n => if (d.link n).phase = .down then d else d.linkFails e n 0) d
    ((d.fenceHalf e 0 .links).fenceHalf e 1 .links).lightPorts e
  else (d.assessAll e).lightPorts e

-- Cartridges ---------------------------------------------------------------------------------------------------------

/-- CART_FAULT (0x0701): the state entered and C × 100. -/
def Dev.cartReport (d : Dev) (e : Env) (k : CartId) (s : CState) : Dev :=
  d.onFab (fun f => f.report e 0x0701 (.cartridge k) s.code (100 * d.lightC.1 / d.lightC.2))

/-- CART_PRESENCE (R328). -/
def Dev.cartPresence (d : Dev) (k : CartId) : Dev :=
  let c := d.cart k
  if c.cstate = .absent then d.setCart k { Cart.init with cstate := .checking, present := true } else { d with net := { d.net with carts := d.net.carts.set k { c with present := true } } }

/-- R330: a serving cartridge is lost: the others are boosted, a draining one serves again, and the mode follows. -/
def Dev.cartLost (d : Dev) (e : Env) (k : CartId) (s : CState) : Dev :=
  let d := d.setCart k { (d.cart k).accrue e.time.ticks with cstate := s, drive := 0, output := 0, boost := false }
  let d := (List.finRange 4).foldl (fun d j =>
    let c := d.cart j
    if j = k then d
    else if c.cstate = .draining then d.setCart j { c.accrue e.time.ticks with cstate := .serving }
    else if c.cstate = .serving then (d.setCart j { c with boost := true }).send (.pin (.cartBoost j) true)
    else d) d
  (d.lightUpdate e).cartReport e k s

/-- CART_LIGHT_LOSS (R328, R330). -/
def Dev.cartLightLoss (d : Dev) (e : Env) (k : CartId) : Dev :=
  if (d.cart k).cstate = .serving || (d.cart k).cstate = .draining then d.cartLost e k .failed else d

/-- INTERLOCK_OPEN (R328, R457): a cartridge that gives no light fails alone. -/
def Dev.interlockOpen (d : Dev) (e : Env) (k : CartId) : Dev :=
  match (d.cart k).cstate with
  | .serving => d.cartLost e k .failed
  | .draining => d.cartLost e k .failed
  | .checking => (d.setCart k { d.cart k with cstate := .failed, drive := 0, output := 0, boost := false }).cartReport e k .failed
  | .removeOk => (d.setCart k { d.cart k with cstate := .failed, drive := 0, output := 0, boost := false }).cartReport e k .failed
  | .absent => d
  | .rejected => d
  | .failed => d

/-- CART_I3C_SILENT (R328). -/
def Dev.cartSilent (d : Dev) (e : Env) (k : CartId) : Dev :=
  if !d.net.cartClkLost && ((d.cart k).cstate = .serving || (d.cart k).cstate = .draining) then d.cartLost e k .failed else d

/-- CART_CHECK_COMPLETE (R327, R328, R333). -/
def Dev.cartChecked (d : Dev) (e : Env) (k : CartId) (r : CartCheck) : Dev :=
  let c := d.cart k
  let ok := r.recordOk && r.rootKey == e.fuse.cartRoot && r.signatureOk && r.continuityOk
  if d.net.cartClkLost then d
  else if c.cstate = .checking then
    if ok then
      (d.setCart k { c with cstate := .serving, rated := r.rated, pmax := r.pmax, onHours := r.onHours, driveHours := r.driveHours
                            memOn := r.onHours, memDrive := r.driveHours, onRest := 0, driveRest := 0, servedFrom := e.time.ticks, readAt := e.time.ticks
                            wroteAt := e.time.ticks, fitAt := e.time.ticks }).lightUpdate e
    else (d.setCart k { c with cstate := .rejected }).cartReport e k .rejected
  else if c.recheck && c.cstate = .serving then
    if ok then (d.setCart k { c with recheck := false }).setDrives e else d.cartLost e k .failed
  else d

/-- CART_REMOVED (R328, R331): without PREPARE it is a loss of light. -/
def Dev.cartRemoved (d : Dev) (e : Env) (k : CartId) : Dev :=
  let d := if (d.cart k).cstate = .serving || (d.cart k).cstate = .draining then d.cartLost e k .failed else d
  d.setCart k Cart.init

/-- The life counters written into the cartridge (R329). -/
def Cart.writeLife (c : Cart) (now : Nat) : Cart :=
  let c := c.accrue now
  { c with memOn := c.onHours, memDrive := c.driveHours, wroteAt := now }

/-- NET_CART_CTRL as the write leaves it: CART and FORCE. -/
def Dev.cartCtrl (d : Dev) (e : Env) (k : CartId) (force : Bool) : Dev :=
  d.putReg 0x202000 (fld (e.reg 0x202000) 31 16 * 2 ^ 16 + b2n force * 2 ^ 5 + k.val)

/-- PREPARE (R331). -/
def Dev.prepare (d : Dev) (e : Env) (k : CartId) (force : Bool) : Dev :=
  let c := d.lightWithout k
  let busy := (List.finRange 4).any (fun j => j != k && ((d.cart j).cstate == .draining || (d.cart j).cstate == .removeOk))
  if d.net.cartClkLost || busy || ((d.cart k).cstate == .serving && !force && decide (c.1 < 3 * c.2)) then
    { d with net := { d.net with refused := true } }
  else if (d.cart k).cstate ≠ .serving then { d with net := { d.net with refused := false } }
  else
    let d := { d with net := { d.net with refused := false } }
    (d.setCart k { (d.cart k).writeLife e.time.ticks with cstate := .draining }).lightUpdate e

/-- CANCEL_CARTRIDGE (R328). -/
def Dev.cancelCart (d : Dev) (e : Env) (k : CartId) : Dev :=
  if (d.cart k).cstate = .draining || (d.cart k).cstate = .removeOk then
    (d.setCart k { (d.cart k).accrue e.time.ticks with cstate := .serving }).lightUpdate e
  else d

/-- CART_DRAIN_COMPLETE (Table Net-10 step 3). -/
def Dev.cartDrained (d : Dev) (e : Env) (k : CartId) : Dev :=
  if (d.cart k).cstate = .draining then
    d.setCart k { (d.cart k).accrue e.time.ticks with cstate := .removeOk, drive := 0, output := 0 }
  else d

/-- Served time of a cartridge in µs. -/
def Cart.onUs (c : Cart) : Nat := c.onHours * 3600000000 + c.onRest

/-- Lockkeeper's class 4 work goes on (R420). -/
def Dev.telemetry (d : Dev) : Bool := d.lkkRuns && d.lkk.shed < 2

/-- CART_TELEMETRY (R329): a change of P_MAX may change the mode. -/
def Dev.cartTelemetry (d : Dev) (e : Env) (k : CartId) (r : CartReading) : Dev :=
  let c := d.cart k
  if d.net.cartClkLost || !d.telemetry || !(c.cstate == .serving || c.cstate == .draining) || e.time.ticks < c.readAt + 100000 then d
  else
    let c := c.accrue e.time.ticks
    let c := { c with pmax := r.pmax, output := r.output, lines := r.lines, current := r.current, temp := r.temp, readAt := e.time.ticks, samples := c.samples ++ [(c.onUs, r.pmax)] }
    let d := d.setCart k c
    if lightCap d.lightC = d.lnk.wcap then d.setDrives e else d.lightUpdate e

/-- LIFE_COUNTER_WRITE (R329): every 10 minutes. -/
def Dev.lifeWrite (d : Dev) (e : Env) (k : CartId) : Dev :=
  let c := d.cart k
  if d.net.cartClkLost || !(c.cstate == .serving || c.cstate == .draining) || e.time.ticks < c.wroteAt + 600000000 then d
  else d.setCart k (c.writeLife e.time.ticks)

/-- The hours until the least-squares line of P_MAX against ON_HOURS reaches P_R (R329); none where no line is determined. -/
def eolHours (samples : List (Nat × Nat)) (now rated : Nat) : Option Nat :=
  let n : Int := samples.length
  let sx : Int := (samples.map (fun p => (p.1 : Int))).sum
  let sy : Int := (samples.map (fun p => (p.2 : Int))).sum
  let sxx : Int := (samples.map (fun p => (p.1 : Int) * p.1)).sum
  let sxy : Int := (samples.map (fun p => (p.1 : Int) * p.2)).sum
  let den := n * sxx - sx * sx
  if den = 0 then none else
  let b := n * sxy - sx * sy
  -- the line at `now` and P_R, both times n × den
  let here := sy * den + b * (n * now - sx)
  let there := (rated : Int) * (n * den)
  if here ≤ there then some 0
  else if 0 ≤ b then some 655350
  else some (Nat.min 655350 ((here - there) / (-b * n * 3600000000)).toNat)

/-- EOL_FIT (R329): hourly. -/
def Dev.eolFit (d : Dev) (e : Env) (k : CartId) : Dev :=
  let c := d.cart k
  if !d.telemetry || !(c.cstate == .serving || c.cstate == .draining) || e.time.ticks < c.fitAt + 3600000000 then d
  else
    let c := c.accrue e.time.ticks
    let recent := c.samples.filter (fun p => decide (c.onUs ≤ p.1 + 3600000000000))
    let c := { c with samples := recent, fitAt := e.time.ticks }
    match eolHours recent c.onUs c.rated with
    | none => d.setCart k c
    | some h =>
      let warn := decide (h < fld (e.reg 0x202000) 31 16)
      let d := d.setCart k { c with eolHours := h, eolWarn := c.eolWarn || warn }
      if warn && !c.eolWarn then d.onFab (fun f => f.report e 0x0702 (.cartridge k) h 0) else d

/-- CART_CONTROL_CLOCK_LOSS and its return (Table Net-11). -/
def Dev.cartClockLoss (d : Dev) (e : Env) : Dev :=
  if d.net.cartClkLost then d
  else ({ d with net := { d.net with cartClkLost := true } }).onFab (fun f => f.report e 0x0703 (.basinBlock 10) 0 0)
def Dev.cartClockReturn (d : Dev) : Dev := { d with net := { d.net with cartClkLost := false } }

end Sys2Proof.Machine
end

