-- ==== Sys2Proof/Machine/Sensors.lean ====
section
/-! DEFINITION. What sensors, the Onion model and the ageing data say of a place: control temperatures (R362), thermal limits
(R367), ceilings and curves (R335, R338, R339). -/

namespace Sys2Proof.Machine

/-- Ticks of Weir. -/
def pwrNow (e : Env) : Nat := blockTicks e.time .weir

def Dy.frac (a : Dy) : Frac := if 0 ≤ a.e then Frac.ofInt (a.m * (2 ^ a.e.toNat : Nat)) else Frac.mk2 a.m (2 ^ a.e.natAbs)

/-- A temperature in 0.125 °C. -/
def eighths (r : Int) : Dy := ⟨r, -3⟩

def allSites : List SiteIx := List.finRange 544
def siteOfNat (n : Nat) : SiteIx := ⟨n % 544, Nat.mod_lt _ (by decide)⟩

/-- The 17 sites of a logical cluster. -/
def clusterSites (c : ClusterId) : List SiteIx := (List.range 17).map (siteIxOf c)

/-- The sites that carry the logical tiles of a cluster. -/
def Dev.carriers (d : Dev) (c : ClusterId) : List SiteIx :=
  (d.fab.cluster c).siteOf.toList.filterMap (fun s => s.map (fun s => siteIxOf c s.val))

-- Temperatures -------------------------------------------------------------------------------------------------------

def Dev.sen (d : Dev) (s : SensorId) : SenSt := tget d.thm.sens SenSt.init (senKey s)
def Dev.setSen (d : Dev) (s : SensorId) (v : SenSt) : Dev :=
  { d with thm := { d.thm with sens := tset d.thm.sens SenSt.init (senKey s) v } }

/-- A sensor in use: it reads, and is neither withheld nor suspect (R360, R364). -/
def SenSt.inUse (v : SenSt) : Bool := v.reading.isSome && v.off == 0 && !v.suspect
def SenSt.value (v : SenSt) : Dy := eighths (v.reading.getD 0)

/-- T̂ of a node of a column. -/
def Dev.hat (d : Dev) (x : SiteIx) (n : Nat) : Dy := tget d.thm.hat Dy.zero (11 * x.val + n)

/-- The sensor of the R-layer bank under a column's cluster. -/
def bankSensor (x : SiteIx) : SensorId := .rlayer (siteHalf x) ⟨sitePcl x % 19, Nat.mod_lt _ (by decide)⟩

/-- T̂ at a sensor. For the bank of a cluster it is the mean over the cluster's columns; the other banks and the Basin have no node. -/
def Dev.hatAt (d : Dev) : SensorId → Option Dy
  | .logic x _ => some (d.hat x 1)
  | .dram x l => some (d.hat x (2 + l.val))
  | .rlayer h b =>
    if b.val < 16 then
      let s := (List.range 17).foldl (fun a i => a.add (d.hat (siteOfNat (272 * h.val + 17 * b.val + i)) 0)) Dy.zero
      let f := (Dy.frac s).div (Frac.ofNat 17)
      some (eighths (f.mul (Frac.ofNat 8)).floor)
    else none
  | .basin _ => none

/-- The control temperature at a sensor (R362, R365). -/
def Dev.ctlTemp (d : Dev) (s : SensorId) : Option Dy :=
  let blind := match s with
    | .logic x _ => d.thm.blind.contains x.val
    | .dram x _ => d.thm.blind.contains x.val
    | _ => false
  if blind then (d.hatAt s).map (fun t => t.add (Dy.ofInt 5)) else
  if (d.sen s).inUse then some (d.sen s).value else
  match d.hatAt s with
  | some t => some t
  | none => (d.sen s).reading.map eighths

/-- The control temperature at a sensor is one of the model (R362, R371). -/
def Dev.ofModel (d : Dev) (s : SensorId) : Bool :=
  (d.hatAt s).isSome && (!(d.sen s).inUse || (match s with
    | .logic x _ => d.thm.blind.contains x.val
    | .dram x _ => d.thm.blind.contains x.val
    | _ => false))

/-- The control temperature of a site's logic: the higher of its two sensors'. -/
def Dev.logicTemp (d : Dev) (x : SiteIx) : Dy :=
  Dy.maxD ((d.ctlTemp (.logic x 0)).getD Dy.zero) ((d.ctlTemp (.logic x 1)).getD Dy.zero)

/-- The mean logic temperature of a cluster, over the sites that carry its tiles (R353). -/
def Dev.clusterTemp (d : Dev) (c : ClusterId) : Frac :=
  let xs := d.carriers c
  if xs.isEmpty then Frac.zero else
  ((Frac.sum (xs.map (fun x => Dy.frac (d.logicTemp x)))).div (Frac.ofNat xs.length))

/-- The thermal limit of a logical tile in 10 Mstep/s: min(f_in, f_tile) (R367). -/
def Dev.thermalLimit (d : Dev) (t : TileId) : Nat :=
  Nat.min (160 - tget d.thm.drop 0 t.val) (d.thm.fIn.getD 160)

-- Ceilings and curves ------------------------------------------------------------------------------------------------

/-- The characterisation of a site: the field one where R339 has repeated it, else the fused one. -/
def Dev.charOf (d : Dev) (e : Env) (x : SiteIx) : SiteChar :=
  (tget d.pwr.chars none x.val).getD (tget e.fuse.chars SiteChar.typical x.val)

/-- The ceiling of a site in 10 Mstep/s: never above the fused one (R339, R406). -/
def Dev.ceilOf (d : Dev) (e : Env) (x : SiteIx) : Nat :=
  let c := (tget e.fuse.chars SiteChar.typical x.val).ceiling
  match tget d.pwr.ceil none x.val with
  | some k => Nat.min k c
  | none => c

def Dev.ageOf (d : Dev) (x : SiteIx) : Frac := (tget d.pwr.age none x.val).getD Frac.zero

/-- The cadence of a point, in 10 Mstep/s (R335). -/
def pointCadence (k : Nat) : Nat := 80 + 5 * k

/-- The fused maximum cadence of the variant. -/
def Env.maxCadence (e : Env) : Nat := pointCadence e.fuse.point

/-- A curve read at a cadence in 10 Mstep/s, between its points (R339), in 0.1 mV; none beyond the last point. -/
def curveAt (volts : List Nat) (f : Frac) : Option Frac :=
  let x := (f.sub (Frac.ofNat 80)).div (Frac.ofNat 5)
  if x.lt Frac.zero then volts.head?.map Frac.ofNat else
  let i := x.floor.toNat
  match volts[i]? with
  | none => none
  | some a =>
    let r := x.sub (Frac.ofNat i)
    if r.num = 0 then some (Frac.ofNat a) else
    volts[i + 1]?.map (fun b => (Frac.ofNat a).add ((Frac.ofInt (Int.ofNat b - Int.ofNat a)).mul r))

/-- MARGIN_PCT and LEARN_SHIFT. -/
def marginPct (e : Env) : Nat := clampN 1 10 (fld (e.reg 0x400018) 15 8)
def learnShift (e : Env) : Nat := clampN 1 6 (fld (e.reg 0x400018) 7 0)

def Dev.clp (d : Dev) (c : ClusterId) : ClPower := tget d.pwr.cls ClPower.init c.val
def Dev.setClp (d : Dev) (c : ClusterId) (v : ClPower) : Dev := { d with pwr := { d.pwr with cls := tput d.pwr.cls c.val v } }

/-- V_c(k) in 2.5 mV: the highest of the voltages that the carrying sites need at f(k) × (1 + MARGIN_PCT / 100), with the bond
compensation of R391, rounded up. None where it would exceed 0.900 V (R335). -/
def Dev.voltOf (d : Dev) (e : Env) (c : ClusterId) (k : Nat) : Option Nat :=
  let f := Frac.mk2 (pointCadence k * (100 + marginPct e) : Nat) 100
  let need := (d.carriers c).map (fun x =>
    curveAt (d.charOf e x).volts (f.mul ((Frac.ofNat 1).add (d.ageOf x))))
  if need.any (fun v => v.isNone) then none else
  let v := (need.filterMap id).foldl Frac.max (Frac.ofNat 5500)
  let u := ((v.add (Frac.ofNat (d.clp c).bond)).div (Frac.ofNat 25)).ceil.toNat
  if 360 < u then none else some u

/-- The same, clipped at 0.900 V. -/
def Dev.voltClip (d : Dev) (e : Env) (c : ClusterId) (k : Nat) : Nat := (d.voltOf e c k).getD 360

/-- The lowest ceiling among the carrying sites of a cluster. -/
def Dev.clusterCeil (d : Dev) (e : Env) (c : ClusterId) : Nat :=
  (d.carriers c).foldl (fun a x => Nat.min a (d.ceilOf e x)) 160

/-- A point usable on a cluster, for its voltage. -/
def Dev.pointOk (d : Dev) (e : Env) (c : ClusterId) (k : Nat) : Bool := (d.voltOf e c k).isSome

/-- The usable top point of a cluster (R336, R350); 0 where no point is usable. -/
def Dev.topPoint (d : Dev) (e : Env) (c : ClusterId) : Nat :=
  let m := Nat.min e.maxCadence (d.clusterCeil e c)
  let k := (((List.range 17).filter (fun k => d.pointOk e c k && pointCadence k ≤ m)).getLast?).getD 0
  if (d.clp c).lowered.isSome then k - 1 else k

end Sys2Proof.Machine
end

