-- ==== Sys2Proof/Machine/PowerOps.lean ====
section
/-! DEFINITION. Power: Weir's control period, operating points and fixed-rate mode, header switches and banks, over-current latches, and
Sluice (chapter "Power delivery, domains and the Weir power controller"). -/

namespace Sys2Proof.Machine

-- Registers ----------------------------------------------------------------------------------------------------------

def safePoint (e : Env) : Nat := Nat.min 16 (fld (e.reg 0x400040) 4 0)
def fixedPoint (e : Env) : Nat := Nat.min 16 (fld (e.reg 0x400040) 12 8)
def derateOf (e : Env) : Nat := Nat.min 50 (fld (e.reg 0x400020) 23 16)
def holdTicks (e : Env) : Nat := 1000 * Nat.max 1 (fld (e.reg 0x400020) 15 8)
/-- The cut level of a cluster bank, A (PWR_OC_CFG). -/
def clOcA (e : Env) : Nat := clampN 20 56 (fld (e.reg 0x400030) 7 0)

/-- CAP_EFF in mW (R351, R350). -/
def Dev.capEffMw (d : Dev) (e : Env) : Nat :=
  let f := e.fuse.capW
  let w := fld (e.reg 0x400000) 15 0
  let a := if w = 0 then f else clampN (Nat.min 300 f) f w
  let b := Nat.min a (d.pwr.pldmCap.getD f)
  if d.pwr.derated then 10 * b * (100 - derateOf e) else 1000 * b

-- Pace limiters ------------------------------------------------------------------------------------------------------

/-- R61: the limiter of a sampler domain is held at f(k) of its cluster's point, never above the fused maximum; while the rail still rises
to a higher point the limit stays where it was (R337). -/
def Dev.samplerPace (d : Dev) (e : Env) (c : ClusterId) : Dev :=
  let k := Nat.min (pointCadence (d.clp c).pt) e.maxCadence
  d.onFab (fun f =>
    let s := f.sampler c
    f.setSampler c { s with flim := if (d.clp c).raise.isSome then Nat.min s.flim k else k })

/-- The cadence limit of a cluster's sampler: its limiter, and the floor of 0.10 Gstep/s under a Sluice cut (R61, R348). -/
def Dev.samplerLimit (d : Dev) (c : ClusterId) : Nat :=
  let a := (d.fab.sampler c).flim
  if d.pwr.cut.getLsbD c.val then Nat.min a 10 else a

/-- FLIM of the carrying sites of a cluster as Weir writes it: the cluster's point, the ceiling, the fused maximum and the thermal
limit (R336), at least 0.10 Gstep/s; its sampler's limiter follows the point (R61). -/
def Dev.refreshPace (d : Dev) (e : Env) (c : ClusterId) : Dev :=
  (List.finRange 16).foldl (fun d i =>
    let t : TileId := ⟨16 * c.val + i.val, by omega⟩
    match d.fab.siteOf t with
    | some x =>
      let v := Nat.max 10 (Nat.min (Nat.min (d.clp c).lim (d.ceilOf e x)) (Nat.min e.maxCadence (d.thermalLimit t)))
      d.onFab (fun f => f.setSite x { f.site x with flim := v })
    | none => d) (d.samplerPace e c)

/-- A hardwired limit is in force in the column of a site: that of a sensor that is not suspect (R368 stage 5). -/
def Dev.hardLimited (d : Dev) (x : SiteIx) : Bool :=
  let held := fun (s : SensorId) => (d.sen s).hard && !(d.sen s).suspect
  held (.logic x 0) || held (.logic x 1) || (List.finRange 8).any (fun l => held (.dram x l))

/-- The limit at which a site is held: FLIM, the floor of 0.10 Gstep/s under a cut (R348), 0.40 under a hardwired limit (R368). -/
def Dev.paceLimit (d : Dev) (x : SiteIx) : Nat :=
  let a := (d.fab.site x).flim
  let a := if d.pwr.cut.getLsbD (siteCluster x).val then Nat.min a 10 else a
  if d.hardLimited x then Nat.min a 40 else a

/-- A cluster is ordered to a point and a limit (R337): in a raise the rail slews first and the limit follows when it has settled; in a
lowering the limit falls first. -/
def Dev.setPoint (d : Dev) (e : Env) (c : ClusterId) (k lim : Nat) : Dev :=
  let v := d.clp c
  let u := d.voltClip e c k
  let settled := v.volt = u && v.vset = u
  let v := { v with pt := k, vset := u }
  let v := if settled then { v with lim := lim, raise := none }
           else if lim ≤ v.lim then { v with lim := lim, raise := none }
           else { v with raise := some lim }
  (d.setClp c v).refreshPace e c

/-- Weir orders a point: its command crosses the Towpath (R290). -/
def Dev.orderPoint (d : Dev) (e : Env) (c : ClusterId) (k lim : Nat) : Dev :=
  if d.towUp (clusterHalf c) then d.setPoint e c k lim else d

/-- RAIL_SETTLED (R337): the bank reports that its rail has reached the setpoint, and a raised limit takes effect. -/
def Dev.railSettled (d : Dev) (e : Env) (c : ClusterId) : Dev :=
  let v := d.clp c
  if v.volt = v.vset && v.raise.isNone then d else
  (d.setClp c { v with volt := v.vset, lim := v.raise.getD v.lim, raise := none }).refreshPace e c

-- Phases -------------------------------------------------------------------------------------------------------------

/-- The phases in flight on the tiles of a cluster, as 256 × slot + entry (R353). -/
def Dev.phasesOn (d : Dev) (c : ClusterId) : List Nat :=
  ((d.svc.launches.filter (fun l => l.packets.any (fun p => tileCluster p.1 = c))).map (fun l => 256 * l.model.val + l.entry)).eraseDups

/-- The launches changed: a phase of a cluster lasts only while it is the one in flight. -/
def Dev.notePhases (d : Dev) : Dev :=
  allClusters.foldl (fun d c =>
    let v := d.clp c
    match v.only with
    | some p => if d.phasesOn c = [p] then d else d.setClp c { v with only := none }
    | none => d) d

def kInit (e : Env) (c : ClusterId) : Frac := Frac.mk2 (tget e.fuse.power ClusterFuse.typical c.val).kInit 1000

def Dev.coef (d : Dev) (e : Env) (c : ClusterId) (phase : Nat) : Frac := (tget (d.clp c).coef none phase).getD (kInit e c)

/-- The phase that the prediction of a cluster uses: the one in flight with the highest coefficient; none where it is IDLE. -/
def Dev.phaseOf (d : Dev) (e : Env) (c : ClusterId) : Option Nat :=
  (d.phasesOn c).foldl (fun a p => match a with
    | none => some p
    | some q => if (d.coef e c q).lt (d.coef e c p) then some p else some q) none

/-- MODEL_LOAD: the coefficients of the slot return to K_INIT (R353). -/
def Dev.forgetPhases (d : Dev) (m : Nat) : Dev :=
  allClusters.foldl (fun d c =>
    let v := d.clp c
    if v.coef.isEmpty then d else d.setClp c { v with coef := v.coef.filter (fun p => decide (p.1 / 256 ≠ m)) }) d

-- Prediction ---------------------------------------------------------------------------------------------------------

/-- Where a value lies in a rising list: the interval's first index; none outside. -/
def intervalOf (l : List Nat) (v : Frac) : Option Nat :=
  ((List.range (l.length - 1)).find? (fun i =>
    (Frac.ofNat (l[i]?.getD 0)).le v && v.le (Frac.ofNat (l[i + 1]?.getD 0))))

/-- L_c(V, T) in W, interpolated linearly in the fused table (R353). V in 0.1 mV. -/
def leakage (e : Env) (c : ClusterId) (volt : Nat) (temp : Frac) : Frac :=
  let t := tget e.fuse.power ClusterFuse.typical c.val
  match intervalOf t.volts (Frac.ofNat volt), intervalOf t.temps temp with
  | some i, some j =>
    let at_ := fun (a b : Nat) => Frac.ofNat (t.leak[t.temps.length * a + b]?.getD 0)
    let part := fun (l : List Nat) (k : Nat) (v : Frac) =>
      let a := l[k]?.getD 0
      let b := l[k + 1]?.getD 0
      if a = b then Frac.zero else (v.sub (Frac.ofNat a)).div (Frac.ofInt (Int.ofNat b - Int.ofNat a))
    let mix := fun (x y r : Frac) => x.add ((y.sub x).mul r)
    let r := part t.temps j temp
    let lo := mix (at_ i j) (at_ i (j + 1)) r
    let hi := mix (at_ (i + 1) j) (at_ (i + 1) (j + 1)) r
    (mix lo hi (part t.volts i (Frac.ofNat volt))).div (Frac.ofNat 1000)
  | _, _ => Frac.mk2 (Config.leakOutside c.val volt (temp.mul (Frac.ofNat 8)).floor : Nat) 1000

/-- V² × f, in V² Gstep/s: V in 2.5 mV, f in 10 Mstep/s. -/
def v2f (u f : Nat) : Frac := Frac.mk2 ((u * u * f : Nat) : Int) 16000000

/-- pred(c, k) in W (R353). An IDLE cluster is predicted at its leakage. -/
def Dev.predict (d : Dev) (e : Env) (c : ClusterId) (coef : Frac) (k : Nat) : Frac :=
  let u := d.voltClip e c k
  (coef.mul (v2f u (pointCadence k))).add (leakage e c (25 * u) (d.clusterTemp c))

/-- The coefficient used for a cluster in this period: 0 for an IDLE one. -/
def Dev.coefNow (d : Dev) (e : Env) (c : ClusterId) : Frac :=
  match d.phaseOf e c with
  | some p => d.coef e c p
  | none => Frac.zero

-- Budgets ------------------------------------------------------------------------------------------------------------

/-- A limit P_w in mW as scaled by CAP_EFF / fused cap (R351). -/
def Dev.windowLimit (d : Dev) (e : Env) (w : Nat) : Frac :=
  let cap := d.capEffMw e
  if w = 10000 then Frac.ofNat cap
  else Frac.mk2 ((if w = 10 then e.fuse.p1ms else e.fuse.p100ms) * cap : Nat) e.fuse.capW

/-- B_w in mW for a window of w periods (R352): measured input energy of the last w − 1, a period not measured counting at the
limit. -/
def Dev.windowBudget (d : Dev) (e : Env) (w : Nat) : Frac :=
  let p := d.windowLimit e w
  let h := d.pwr.hist.take (w - 1)
  let used := (Frac.ofNat (h.foldl (· + ·) 0)).add (p.mul (Frac.ofNat (w - 1 - h.length)))
  (p.mul (Frac.ofNat w)).sub used

/-- Bcl in W (R352). -/
def Dev.clusterBudget (d : Dev) (e : Env) : Frac :=
  let b := ((d.windowBudget e 10).min (d.windowBudget e 1000)).min (d.windowBudget e 10000)
  let past := match d.pwr.lastBcl with
    | some l => ((Frac.mk2 d.pwr.clMw 1000).sub l).max Frac.zero
    | none => Frac.zero
  ((b.sub (Frac.ofNat d.pwr.other)).div (Frac.ofNat 1000)).sub past

-- Assignment ---------------------------------------------------------------------------------------------------------

/-- A cluster as the assignment sees it: number, top point, whether it may be raised, and its predictions at points 0–16. -/
structure Share where
  c : Nat
  top : Nat
  busy : Bool
  pred : List Frac
  pt : Nat

/-- The cluster raised next: busy, below its top, at the lowest point, ties to the lower number. -/
def nextShare (l : List Share) : Option Share :=
  l.foldl (fun a s =>
    if s.busy && s.pt < s.top then
      match a with
      | none => some s
      | some b => if s.pt < b.pt then some s else a
    else a) none

/-- The loop of R354, with fuel for every raise there can be. -/
def assignPoints (bcl : Frac) : Nat → List Share → Frac → List Share
  | 0, l, _ => l
  | n + 1, l, p =>
    match nextShare l with
    | none => l
    | some s =>
      let dp := ((s.pred[s.pt + 1]?).getD Frac.zero).sub ((s.pred[s.pt]?).getD Frac.zero)
      if bcl.lt (p.add dp) then l
      else assignPoints bcl n (l.map (fun q => if q.c = s.c then { q with pt := q.pt + 1 } else q)) (p.add dp)

def Dev.bound (d : Dev) (c : ClusterId) : Bool := d.boundTiles.any (fun t => tileCluster t = c)

/-- Weir drives the cluster: its half is up in R354 and not fenced. -/
def Dev.driven (d : Dev) (c : ClusterId) : Bool := d.pwr.ctl[clusterHalf c] && !d.fab.fenced[clusterHalf c]

/-- The clusters as R354 sees them. -/
def Dev.shares (d : Dev) (e : Env) : List Share :=
  allClusters.filterMap (fun c =>
    if d.pwr.ctl[clusterHalf c] then
      let k := d.coefNow e c
      some { c := c.val, top := d.topPoint e c, busy := d.driven c && (d.phaseOf e c).isSome
             pred := (List.range 17).map (d.predict e c k), pt := 0 }
    else none)

def predSum (l : List Share) : Frac := Frac.sum (l.map (fun s => (s.pred[s.pt]?).getD Frac.zero))

/-- A departure from fixed-rate mode counted (R356). -/
def Dev.depart (d : Dev) : Dev :=
  if d.pwr.fixed then { d with pwr := { d.pwr with departs := satAdd 16 d.pwr.departs 1 } } else d

/-- The points of R354, and below all points 0 the limits of R355. -/
def Dev.assign (d : Dev) (e : Env) : Dev :=
  let bcl := d.clusterBudget e
  let l := d.shares e
  let p0 := predSum l
  let d := { d with pwr := { d.pwr with lastBcl := some bcl } }
  if bcl.lt p0 then
    let leak := Frac.sum (l.map (fun s => leakage e (clusterFin s.c) (25 * d.voltClip e (clusterFin s.c) 0) (d.clusterTemp (clusterFin s.c))))
    let dyn := p0.sub leak
    let r := if Frac.zero.lt dyn then ((Frac.ofNat 80).mul ((bcl.sub leak).div dyn)).floor.toNat else 10
    let lim := clampN 10 80 r
    let d := l.foldl (fun d s => d.orderPoint e (clusterFin s.c) 0 (if s.busy then lim else 80)) d
    { d with pwr := { d.pwr with capLimited := true } }
  else
    let d := (assignPoints bcl 600 l p0).foldl (fun d s => d.orderPoint e (clusterFin s.c) s.pt (pointCadence s.pt)) d
    { d with pwr := { d.pwr with capLimited := false } }
where clusterFin (n : Nat) : ClusterId := ⟨n % 32, Nat.mod_lt _ (by decide)⟩

/-- Fixed-rate mode over a period (R356): the mode is left where its prediction would exceed the budget. -/
def Dev.holdFixed (d : Dev) (e : Env) : Dev :=
  let k := fixedPoint e
  let bcl := d.clusterBudget e
  let l := (d.shares e).map (fun s => if d.bound (Dev.assign.clusterFin s.c) then { s with pt := k } else s)
  if bcl.lt (predSum l) then
    let v := fld (e.reg 0x400040) 30 0
    (({ d with pwr := { d.pwr with fixed := false, broken := true } }).putReg 0x400040 v).assign e
  else
    let d := { d with pwr := { d.pwr with lastBcl := some bcl } }
    l.foldl (fun d s => d.orderPoint e (Dev.assign.clusterFin s.c) s.pt (pointCadence s.pt)) d

/-- K of a cluster moves toward the measured value, where one phase was in flight throughout (R353). -/
def Dev.learn (d : Dev) (e : Env) (c : ClusterId) (mw : Nat) : Dev :=
  let v := d.clp c
  match v.only with
  | none => d
  | some p =>
    let w := v2f v.volt v.lim
    if w.num = 0 then d else
    let s := Frac.mk2 1 (2 ^ learnShift e)
    let k := d.coef e c p
    let x := ((Frac.mk2 mw 1000).sub (leakage e c (25 * v.volt) (d.clusterTemp c))).div w
    d.setClp c { v with coef := tput v.coef p (some ((k.add (x.mul s)).sub (k.mul s))) }

/-- A new period begins: the phase in flight is remembered where it is the only one. -/
def Dev.openPeriod (d : Dev) : Dev :=
  allClusters.foldl (fun d c =>
    let ps := d.phasesOn c
    let only := match ps with | [p] => some p | _ => none
    if (d.clp c).only = only then d else d.setClp c { d.clp c with only := only }) d

/-- WEIR_CONTROL_PERIOD (R352–R356): the period measured, coefficients learned, the budget formed and the points assigned. -/
def Dev.controlPeriod (d : Dev) (e : Env) (m : PowerMeas) : Dev :=
  if d.pwr.absent || !d.pwr.vaon then d else
  let cl := m.clMw.foldl (· + ·) 0
  let d := allClusters.foldl (fun d c => d.learn e c (m.clMw[c.val]?.getD 0)) d
  let d := allClusters.foldl (fun d c => match m.clCur[c.val]? with
    | some a => d.setClp c { d.clp c with cur := a }
    | none => d) d
  let d := { d with pwr := { d.pwr with
    hist := ((cl + m.otherMw) :: d.pwr.hist).take 10000, clMw := cl, other := m.otherMw, capEff := d.capEffMw e
    vinCur := Vector.ofFn (fun (h : Fin 2) => (m.vinCur[h.val]?).getD 0) } }
  (if d.pwr.fixed then d.holdFixed e else d.assign e).openPeriod

-- Fixed-rate mode ----------------------------------------------------------------------------------------------------

/-- FIXED_EN = 1 is refused (R356). -/
def Dev.fixedRefused (d : Dev) (e : Env) (k : Nat) : Bool :=
  let cs := allClusters.filter d.bound
  let need := Frac.sum (cs.map (fun c => d.predict e c (kInit e c) k))
  cs.any (fun c => !d.pointOk e c k || (d.carriers c).any (fun x => match d.fab.tileOf x with
    | some t => d.boundTiles.contains t && d.ceilOf e x < pointCadence k
    | none => false)) ||
  decide (e.maxCadence < pointCadence k) ||
  (((Frac.ofNat (d.capEffMw e)).sub (Frac.ofNat d.pwr.other)).div (Frac.ofNat 1000)).lt need

/-- FIXED_EN: a write of PWR_MODE (R356). Bit 29 clears FIXED_BROKEN; the points are written; FIXED_EN = 1 enters the mode or is
refused, and 0 leaves it. -/
def Dev.writeMode (d : Dev) (e : Env) (f : FuncId) (v : Word) : Dev :=
  if f ≠ 0 then d else
  let w := v.toNat
  let points := fld w 12 0 - fld w 7 5 * 32
  let d := if bit w 29 then { d with pwr := { d.pwr with broken := false } } else d
  if bit w 31 then
    if d.fixedRefused e (Nat.min 16 (fld w 12 8)) then
      ({ d with pwr := { d.pwr with fixed := false, refused := true } }).putReg 0x400040 points
    else ({ d with pwr := { d.pwr with fixed := true, refused := false } }).putReg 0x400040 (points + 2 ^ 31)
  else ({ d with pwr := { d.pwr with fixed := false } }).putReg 0x400040 points

-- Weir's other periods -----------------------------------------------------------------------------------------------

/-- RING_MONITOR_READ (R339, R340): the ageing shift and the field ceiling of each site read; a ceiling never rises, and one below 0.80
Gstep/s is reported once. -/
def Dev.ringRead (d : Dev) (e : Env) (rs : List RingReading) : Dev :=
  if d.pwr.absent || !elapsed e.time .weir d.pwr.ringAt 1000000 then d else
  let d := { d with pwr := { d.pwr with ringAt := pwrNow e } }
  rs.foldl (fun d r =>
    let x := r.site
    let ring := (d.charOf e x).ring
    if ring = 0 then d else
    let a := (Frac.ofNat 1).sub (Frac.mk2 r.freq ring)
    let fused := (tget e.fuse.chars SiteChar.typical x.val).ceiling
    let c := Nat.min (d.ceilOf e x) ((Frac.ofNat fused).mul ((Frac.ofNat 1).sub a)).floor.toNat
    let d := { d with pwr := { d.pwr with age := tput d.pwr.age x.val (some a), ceil := tput d.pwr.ceil x.val (some c) } }
    let d := if d.towUp (siteHalf x) then d.refreshPace e (siteCluster x) else d
    if c < 80 && !d.pwr.told.contains x.val then
      ({ d with pwr := { d.pwr with told := d.pwr.told ++ [x.val] } }).onFab (fun f => f.report e 0x0102 (.site x) 340 0)
    else d) d

/-- The mean logic temperature of a site over the last second (R341). -/
def Dev.meanTemp (d : Dev) (x : SiteIx) : Frac :=
  let l := tget d.thm.past [] x.val
  if l.isEmpty then Dy.frac (d.logicTemp x)
  else (Frac.sum (l.map Dy.frac)).div (Frac.ofNat l.length)

/-- AGE and HEAT of a site (R341). -/
def Dev.wearAge (d : Dev) (x : SiteIx) : Nat := ((d.ageOf x).mul (Frac.ofNat 2000)).floor.toNat
def Dev.wearHeat (d : Dev) (x : SiteIx) : Nat := ((d.meanTemp x).sub (Frac.ofNat 60)).floor.toNat

/-- WEAR_SCORE (R341): min(255, AGE + HEAT) of the site of every logical tile goes to the token service engine. -/
def Dev.wearScore (d : Dev) (e : Env) : Dev :=
  if d.pwr.absent || !elapsed e.time .weir d.pwr.wearAt 100000 then d else
  let d := { d with pwr := { d.pwr with wearAt := pwrNow e } }
  allClusters.foldl (fun d c => (d.carriers c).foldl (fun d x =>
    { d with svc := { d.svc with wear := tset d.svc.wear 0 x.val (Nat.min 255 (d.wearAge x + d.wearHeat x)) } }) d) d

/-- POWER_BOND_CHECK (R391), every second: a drop above 15 mV at 20 A or more, scaled to 40 A, is added to every V_c(k) of the cluster; a record for
the first, and for each 5 mV of further increase. -/
def Dev.bondCheck (d : Dev) (e : Env) (c : ClusterId) (drop cur : Nat) : Dev :=
  if d.pwr.absent || !elapsed e.time .weir (d.clp c).bondAt 1000000 then d else
  let v := { d.clp c with bondAt := pwrNow e }
  let s := cdiv (drop * 400) cur
  if drop ≤ 150 || cur < 200 || s ≤ v.bond then d.setClp c v else
  let first := v.bondTold = 0
  let n := if first then 1 else (s - v.bondTold) / 50
  let d := d.setClp c { v with bond := s, bondTold := if first then s else v.bondTold + 50 * n }
  (List.range n).foldl (fun d _ => d.onFab (fun f => f.report e 0x0403 (.bank (clusterHalf c) (clusterPcl c)) drop cur)) d

-- Domains ------------------------------------------------------------------------------------------------------------

def domHalf (i : DomainIx) : HalfId := ⟨i.val / 288, by omega⟩
def domPcl (i : DomainIx) : Nat := i.val % 288 / 18
def domUnit (i : DomainIx) : Nat := i.val % 18
/-- The site of a domain; none for a sampler domain. -/
def domSite (i : DomainIx) : Option SiteIx :=
  if domUnit i < 17 then some (siteOfNat (272 * (domHalf i).val + 17 * domPcl i + domUnit i)) else none
def domCluster (i : DomainIx) : ClusterId := siteCluster (siteOfNat (272 * (domHalf i).val + 17 * domPcl i))
def domAt (h pcl unit : Nat) : DomainIx := ⟨(288 * h + 18 * pcl + unit) % 576, Nat.mod_lt _ (by decide)⟩
def domOf (x : SiteIx) : DomainIx := domAt (siteHalf x).val (sitePcl x) (siteNo x)

def Dev.dom (d : Dev) (i : DomainIx) : DomSt := tget d.pwr.doms DomSt.init i.val
def Dev.setDom (d : Dev) (i : DomainIx) (v : DomSt) : Dev := { d with pwr := { d.pwr with doms := tset d.pwr.doms DomSt.init i.val v } }
def Dev.bankSt (d : Dev) (h : HalfId) (b : Nat) : BankPhase := tget d.pwr.banks .off (20 * h.val + b)
def Dev.setBank (d : Dev) (h : HalfId) (b : Nat) (v : BankPhase) : Dev :=
  { d with pwr := { d.pwr with banks := tset d.pwr.banks .off (20 * h.val + b) v } }

def Dev.siteOn (d : Dev) (x : SiteIx) : Bool := (d.dom (domOf x)).state == .on

/-- A site domain that has reached ON: its site enters the state of R67 (R342). -/
def Dev.siteFresh (d : Dev) (i : DomainIx) : Dev :=
  match domSite i with
  | some x => d.onFab (fun f => f.setSite x { Site.init with failed := (f.site x).failed, flim := (f.site x).flim })
  | none => d

/-- The site of a domain as power leaves it: its logic state is lost, its code banks with it. The register shadow goes on showing its window
(R343). -/
def Dev.siteDark (d : Dev) (i : DomainIx) : Dev :=
  match domSite i with
  | some x => d.onFab (fun f =>
    let s := f.site x
    f.setSite x { Site.init with
      failed := s.failed, flim := s.flim, shadow := some s.shown, arr := { ArraySt.init with faults := s.arr.faults, replays := s.arr.replays }
      parityFaults := s.parityFaults, refetches := s.refetches, nanOut := s.nanOut, satCount := s.satCount, emptyRows := s.emptyRows })
  | none => d.onFab (fun f => f.setSampler (domCluster i) { f.sampler (domCluster i) with slots := [], inflight := [] })

/-- R343: the sampler domain of a cluster is ON while any of its sites is. -/
def Dev.samplerFollows (d : Dev) (i : DomainIx) : Dev :=
  let h := (domHalf i).val
  let p := domPcl i
  let s := domAt h p 17
  let any := (List.range 17).any (fun u => let q := (d.dom (domAt h p u)).state; q == .on || q == .ramping)
  if !any && (d.dom s).state == .on then (d.setDom s { d.dom s with state := .off, stage := 0 }).siteDark s else d

/-- Orders that wait begin while fewer than four site domains of their cluster ramp, in ascending site order (R344). -/
def Dev.pumpOrders (d : Dev) : Dev :=
  let sorted := d.pwr.orders.foldl (fun a i => a.filter (fun j => j.val < i.val) ++ [i] ++ a.filter (fun j => i.val < j.val)) []
  sorted.foldl (fun d i =>
    let h := (domHalf i).val
    let p := domPcl i
    let n := ((List.range 17).filter (fun u => (d.dom (domAt h p u)).state == .ramping)).length
    if domUnit i = 17 || n < 4 then
      let d := { d with pwr := { d.pwr with orders := d.pwr.orders.filter (fun j => j ≠ i) } }
      d.setDom i { d.dom i with state := .ramping, stage := 0, idleAt := none }
    else d) d

def Dev.orderOn (d : Dev) (i : DomainIx) : Dev :=
  if d.pwr.orders.contains i then d else { d with pwr := { d.pwr with orders := d.pwr.orders ++ [i] } }

/-- A site declared bad, or one that has failed, stays OFF (R343). -/
def Dev.siteBad (d : Dev) (x : SiteIx) : Bool := (d.fab.cluster (siteCluster x)).bad.getLsbD (siteNo x)

/-- POWER_ON_ORDER (R342–R344): an OFF domain whose bank is up begins its ramp or waits for it; the sampler comes with the first site. -/
def Dev.powerOn (d : Dev) (i : DomainIx) : Dev :=
  let bad := match domSite i with | some x => d.siteBad x | none => false
  if (d.dom i).state ≠ .off || d.bankSt (domHalf i) (domPcl i) ≠ .up || bad then d else
  let s := domAt (domHalf i).val (domPcl i) 17
  let d := d.orderOn i
  let d := if (d.dom s).state == .off then d.orderOn s else d
  d.pumpOrders

/-- Table Power-4: rail target in percent at the end of a stage. -/
def stageTarget (k : Nat) : Nat := ([30, 60, 80, 90, 95, 97, 98, 98][k]?).getD 98

/-- A domain opens its header and latches (R344, R345, Table Power-5); reported to Weir and the aggregator. -/
def Dev.latch (d : Dev) (e : Env) (i : DomainIx) (stage cur : Nat) : Dev :=
  let v := d.dom i
  let c := domCluster i
  let d := d.setDom i { v with state := .latched, stage := 0, latched := v.latched + 1, idleAt := none }
  let d := d.setClp c { d.clp c with latches := Nat.min 15 ((d.clp c).latches + 1) }
  let d := (d.siteDark i).samplerFollows i
  let s : Suspect := match domSite i with | some x => .site x | none => .sampler c
  (d.onFab (fun f => f.report e 0x0104 s stage cur)).pumpOrders

/-- Table Power-8 step 6: when nothing of a half ramps any more, its limiters go to f(SAFE_POINT) and R354 begins. -/
def Dev.beginControl (d : Dev) (e : Env) (h : HalfId) : Dev :=
  let busy := (List.range 288).any (fun k =>
    let i := domAt h.val (k / 18) (k % 18)
    (d.dom i).state == .ramping || d.pwr.orders.contains i)
  if d.pwr.ctl[h] || busy then d else
  let d := { d with pwr := { d.pwr with ctl := d.pwr.ctl.set h true } }
  (allClusters.filter (fun c => clusterHalf c = h)).foldl (fun d c =>
    (d.setClp c { d.clp c with pt := safePoint e, lim := pointCadence (safePoint e), raise := none }).refreshPace e c) d

/-- HEADER_STAGE_CLOSE (R344): the newest stage has ended with the rail at `pct` percent of VCL. Below its target the domain latches;
else the next stage closes, and after stage 7 the domain is ON and its site enters the state of R67. -/
def Dev.stageClose (d : Dev) (e : Env) (i : DomainIx) (pct : Nat) : Dev :=
  let v := d.dom i
  if v.state ≠ .ramping then d
  else if v.stage = 0 then d.setDom i { v with stage := 1 }
  else if pct < stageTarget (v.stage - 1) then d.latch e i (v.stage - 1) (d.fab.freeNat 3)
  else if v.stage < 8 then d.setDom i { v with stage := v.stage + 1 }
  else
    let d := (d.setDom i { v with state := .on, stage := 8 }).siteFresh i
    (d.pumpOrders).beginControl e (domHalf i)

/-- RAMP_FAULT (R344): the newest stage has exceeded its current limit; current in 10 mA. -/
def Dev.rampFault (d : Dev) (e : Env) (i : DomainIx) (cur : Nat) : Dev :=
  let v := d.dom i
  if v.state ≠ .ramping || v.stage = 0 then d else d.latch e i (v.stage - 1) cur

/-- DOMAIN_SHORT (R345). -/
def Dev.domainShort (d : Dev) (e : Env) (i : DomainIx) (cur : Nat) : Dev :=
  if (d.dom i).state ≠ .on then d else d.latch e i (d.fab.freeNat 3) cur

/-- POWER_OFF_ORDER (R342): an ON domain opens its header. -/
def Dev.powerOff (d : Dev) (i : DomainIx) : Dev :=
  if (d.dom i).state ≠ .on then d else
  ((d.setDom i { d.dom i with state := .off, stage := 0, idleAt := none }).siteDark i).samplerFollows i

/-- RETRY_ORDER (R346): a LATCHED domain ramps again, under the limit of R344, unless it has latched twice since
the last cold reset. -/
def Dev.retry (d : Dev) (i : DomainIx) : Dev :=
  let v := d.dom i
  if v.state ≠ .latched || 2 ≤ v.latched || d.bankSt (domHalf i) (domPcl i) ≠ .up then d else (d.orderOn i).pumpOrders

/-- SPARE_CHARACTERISATION (R339, R343, R389): every 168 h the spare of a cluster is powered on, characterised again, and powered off. -/
def Dev.spareChar (d : Dev) (e : Env) (x : SiteIx) (r : SiteChar) : Dev :=
  if (d.fab.cluster (siteCluster x)).spare ≠ some (siteFin x) || d.siteBad x || d.pwr.absent then d
  else if (d.dom (domOf x)).state ≠ .off || d.bankSt (siteHalf x) (sitePcl x) ≠ .up then d
  else if !elapsed e.time .weir (tget d.pwr.charAt 0 x.val) 604800000000 then d else
  let d := { d with pwr := { d.pwr with charAt := tput d.pwr.charAt x.val (pwrNow e) } }
  if r.pass then
    let c := Nat.min (d.ceilOf e x) r.ceiling
    { d with pwr := { d.pwr with chars := tput d.pwr.chars x.val (some r), ceil := tput d.pwr.ceil x.val (some c)
                                 age := tput d.pwr.age x.val (some Frac.zero) } }
  else d.onFab (fun f => f.report e 0x0103 (.site x) (f.freeNat 2) 0)

/-- The tile of a site is bound by a model slot (R343). -/
def Dev.siteBound (d : Dev) (x : SiteIx) : Bool :=
  match d.fab.tileOf x with
  | some t => d.boundTiles.contains t
  | none => false

/-- SITE_UNBIND_OFF (R343): a site whose tile has been unbound for 1 s is powered OFF. -/
def Dev.unbindOff (d : Dev) (e : Env) (x : SiteIx) : Dev :=
  let i := domOf x
  match (d.dom i).idleAt with
  | some t => if d.siteBound x || !elapsed e.time .weir t 1000000 then d else d.powerOff i
  | none => d

/-- The bindings or tests changed: a site ON and tested whose tile no slot binds is unbound from now on; one that is bound is not
(R343). -/
def Dev.noteIdle (d : Dev) (e : Env) : Dev :=
  allSites.foldl (fun d x =>
    let i := domOf x
    let v := d.dom i
    let idle := v.state == .on && (d.fab.site x).ready && (d.fab.tileOf x).isSome && !d.siteBound x
    if idle && v.idleAt.isNone then d.setDom i { v with idleAt := some (pwrNow e) }
    else if !idle && v.idleAt.isSome then d.setDom i { v with idleAt := none } else d) d

/-- R208, R343: every OFF site of the tiles to be bound is powered on. -/
def Dev.powerTiles (d : Dev) (ts : List TileId) : Dev :=
  ts.foldl (fun d t => match d.fab.siteOf t with
    | some x => d.powerOn (domOf x)
    | none => d) d

-- Banks --------------------------------------------------------------------------------------------------------------

/-- A cluster bank without output: its domains lose their rail. -/
def Dev.dropCluster (d : Dev) (h : HalfId) (pcl : Nat) : Dev :=
  let c := siteCluster (siteOfNat (272 * h.val + 17 * pcl))
  let d := d.setClp c { d.clp c with volt := 0, vset := 0, lim := 0, raise := none }
  (List.range 18).foldl (fun d u =>
    let i := domAt h.val pcl u
    let d := { d with pwr := { d.pwr with orders := d.pwr.orders.filter (fun j => j ≠ i) } }
    if (d.dom i).state == .on || (d.dom i).state == .ramping then
      (d.setDom i { d.dom i with state := .off, stage := 0, idleAt := none }).siteDark i else d) d

/-- The columns of a half without VMESH, VDRAM or VCHD: out of service, their contents to be filled (R409). -/
def Dev.dropColumns (d : Dev) (h : HalfId) : Dev :=
  d.onFab (fun f => { f with cols := f.cols.map (fun p => if p.1 / 272 = h.val then (p.1, { p.2 with phase := .down }) else p) })

/-- Every bank of a half loses VIN_h, from which it converts, and Weir's control of the half ends. -/
def Dev.dropHalf (d : Dev) (h : HalfId) : Dev :=
  let d := (List.range 19).foldl (fun d b =>
    if d.bankSt h b == .up || d.bankSt h b == .starting then
      let d := d.setBank h b .off
      if b < 16 then d.dropCluster h b else d.dropColumns h
    else d) d
  { d with pwr := { d.pwr with ctl := d.pwr.ctl.set h false } }

/-- A bank goes to a state in which it has no output. Bank 19 stands for the input VIN_h, which feeds every bank of the half. -/
def Dev.bankDown (d : Dev) (h : HalfId) (b : Nat) (v : BankPhase) : Dev :=
  let d := d.setBank h b v
  if b < 16 then d.dropCluster h b else if b = 19 then d.dropHalf h else d.dropColumns h

/-- BANK_SHORT_LATCH (R347): a bank above its short level latches off. A latched VMESH, VDRAM, VCHD or VIN fences its half at once. -/
def Dev.bankLatch (d : Dev) (e : Env) (h : HalfId) (b : BankId) (cur : Nat) : Dev :=
  if d.bankSt h b.val = .latched then d else
  let d := d.bankDown h b.val .latched
  let d := { d with pwr := { d.pwr with bankLatches := tmod d.pwr.bankLatches 0 (20 * h.val + b.val) (· + 1) } }
  let d := d.onFab (fun f => f.report e 0x0401 (.bank h b.val) cur 0 none (if b.val < 16 then 0 else 6))
  if b.val < 16 then
    let c := siteCluster (siteOfNat (272 * h.val + 17 * b.val))
    d.setClp c { d.clp c with latches := Nat.min 15 ((d.clp c).latches + 1) }
  else d.fenceHalf e h .rail

/-- The next four cluster banks of a half that are off begin their soft-start, in ascending logical cluster (Table Power-8 step 4). -/
def Dev.startBanks (d : Dev) (h : HalfId) : Dev :=
  let pcls := (allClusters.filter (fun c => clusterHalf c = h)).map clusterPcl
  if pcls.any (fun p => d.bankSt h p == .starting) then d else
  ((pcls.filter (fun p => d.bankSt h p == .off)).take 4).foldl (fun d p => d.setBank h p .starting) d

/-- Table Power-8 step 5 (R343): the sites that carry logical tiles are ordered on, the samplers first. -/
def Dev.orderSites (d : Dev) (h : HalfId) : Dev :=
  (allClusters.filter (fun c => clusterHalf c = h)).foldl (fun d c =>
    (d.carriers c).foldl (fun d x => d.powerOn (domOf x)) d) d

/-- BANK_SOFT_START_DONE (R357). The channel roots leave reset with the image in force in their code banks (R407). -/
def Dev.softStarted (d : Dev) (e : Env) (h : HalfId) (b : BankId) : Dev :=
  if d.bankSt h b.val ≠ .starting then d else
  let d := d.setBank h b.val .up
  if b.val = 16 then
    [17, 18].foldl (fun d k => if d.bankSt h k == .off then d.setBank h k .starting else d) d
  else if b.val = 17 || b.val = 18 then
    if d.bankSt h 17 == .up && d.bankSt h 18 == .up then
      (allSites.filter (fun x => siteHalf x = h)).foldl (fun d x =>
        if (d.fab.col x).phase = .down then
          (d.setLkk (fun k => { k with chroot := tput k.chroot x.val { bank := 0, a := d.codeOf 8, b := 0 } })).onFab
            (fun f => f.setCol x { f.col x with phase := .training })
        else d) d
    else d
  else if b.val < 16 then
    let c := siteCluster (siteOfNat (272 * h.val + 17 * b.val))
    let u := d.voltClip e c (safePoint e)
    let d := (d.setClp c { d.clp c with volt := u, vset := u }).startBanks h
    if (List.range 16).all (fun p => d.bankSt h p == .up || d.bankSt h p == .latched) then d.orderSites h else d
  else d

/-- DOMAIN_CMD fields (R470): PCL, and the domain or bank it names. -/
def cmdPcl (v : Word) : Nat := fld v.toNat 3 0
def cmdUnit (v : Word) : Nat := fld v.toNat 8 4
def cmdBank (u pcl : Nat) : Option Nat := if u = 18 then some pcl else if 19 ≤ u && u ≤ 21 then some (u - 3) else none

/-- DOMAIN_ON (R470). -/
def Dev.cmdOn (d : Dev) (h : HalfId) (v : Word) : Dev :=
  if cmdUnit v < 18 then d.powerOn (domAt h.val (cmdPcl v) (cmdUnit v)) else
  match cmdBank (cmdUnit v) (cmdPcl v) with
  | some b => if d.bankSt h b == .off && d.pwr.vin[h] then d.setBank h b .starting else d
  | none => d

/-- DOMAIN_OFF (R470). -/
def Dev.cmdOff (d : Dev) (h : HalfId) (v : Word) : Dev :=
  if cmdUnit v < 18 then d.powerOff (domAt h.val (cmdPcl v) (cmdUnit v)) else
  match cmdBank (cmdUnit v) (cmdPcl v) with
  | some b => if d.bankSt h b == .up then d.bankDown h b .off else d
  | none => d

-- Sluice -------------------------------------------------------------------------------------------------------------

/-- The logical clusters that a source covers (Table Power-6). -/
def cutScope : CutSource → BitVec 32
  | .alert => 0xFFFFFFFF
  | .bank c => BitVec.ofNat 32 (2 ^ c.val)
  | .half h => if h = 0 then 0x0000FFFF else 0xFFFF0000
  | .vin h => if h = 0 then 0x0000FFFF else 0xFFFF0000

/-- Sluice cuts step issue in clusters (R348): a departure where one holds a bound tile. -/
def Dev.cutClusters (d : Dev) (m : BitVec 32) : Dev :=
  let d := { d with pwr := { d.pwr with cut := d.pwr.cut ||| m } }
  if allClusters.any (fun c => m.getLsbD c.val && d.bound c) then d.depart else d

/-- Sluice cuts step issue in the scope of a source. -/
def Dev.cutBy (d : Dev) (s : CutSource) : Dev :=
  ({ d with pwr := { d.pwr with sources := if d.pwr.sources.contains s then d.pwr.sources else d.pwr.sources ++ [s] } }).cutClusters (cutScope s)

/-- OVER_CURRENT_CUT (R347, R348, R350): the cut, and after 16 of one bank within 1 ms a lower top point for 1 s. -/
def Dev.overCurrent (d : Dev) (e : Env) (s : CutSource) : Dev :=
  if s = .alert || !d.pwr.vaon || d.pwr.sources.contains s then d else
  let d := d.cutBy s
  let d := { d with pwr := { d.pwr with ocCuts := satAdd 16 d.pwr.ocCuts 1 } }
  match s with
  | .bank c =>
    let v := d.clp c
    let cuts := (v.cuts.filter (fun t => pwrNow e < t + 1000)) ++ [pwrNow e]
    if cuts.length < 16 then d.setClp c { v with cuts := cuts }
    else
      let d := d.setClp c { v with cuts := [], lowered := some (pwrNow e) }
      let d := if d.bound c && d.topPoint e c < fixedPoint e then d.depart else d
      d.onFab (fun f => f.report e 0x0402 (.bank (clusterHalf c) (clusterPcl c)) 0 0)
  | _ => d

/-- PWR_ALERT_N goes low (R348, R350, R455): without effect while the main rails are absent. -/
def Dev.alert (d : Dev) (e : Env) : Dev :=
  if !d.pwr.vaon || !(d.pwr.vin[(0 : HalfId)] || d.pwr.vin[(1 : HalfId)] || d.pwr.vbsn) || d.pwr.sources.contains .alert then d else
  let d := d.cutBy .alert
  { d with pwr := { d.pwr with alertCuts := satAdd 16 d.pwr.alertCuts 1, alertAt := some (pwrNow e), derated := true } }

/-- A cluster is covered by a source that is not clear. A trip never clears (R372). -/
def Dev.covered (d : Dev) (c : Nat) : Bool := d.thm.tripped || d.pwr.sources.any (fun s => (cutScope s).getLsbD c)

/-- CLUSTER_RESTORE (R349): the lowest logical cluster under a cut that no source covers returns to its point; clusters of a fenced
half are skipped. -/
def Dev.restoreNext (d : Dev) : Dev :=
  match (List.range 32).find? (fun c => d.pwr.cut.getLsbD c && !d.covered c && !d.fab.fenced[clusterHalf ⟨c % 32, Nat.mod_lt _ (by decide)⟩]) with
  | some c => { d with pwr := { d.pwr with cut := d.pwr.cut &&& ~~~(BitVec.ofNat 32 (2 ^ c)) } }
  | none => d

/-- CUT_RELEASE (R349): a source has been clear for 1 µs; the first cluster is restored. -/
def Dev.release_ (d : Dev) (s : CutSource) : Dev :=
  if !d.pwr.sources.contains s then d else
  ({ d with pwr := { d.pwr with sources := d.pwr.sources.filter (fun q => q ≠ s) } }).restoreNext

/-- DERATE_END (R350): HOLD_MS since the last alert. -/
def Dev.derateEnd (d : Dev) (e : Env) : Dev :=
  match d.pwr.alertAt with
  | some t => if pwrNow e < t + holdTicks e then d else { d with pwr := { d.pwr with derated := false, alertAt := none } }
  | none => d

/-- TOP_POINT_RESTORE (R350). -/
def Dev.topRestore (d : Dev) (e : Env) (c : ClusterId) : Dev :=
  match (d.clp c).lowered with
  | some t => if pwrNow e < t + 1000000 then d else d.setClp c { d.clp c with lowered := none }
  | none => d

-- Loss of Weir -------------------------------------------------------------------------------------------------------

/-- WEIR_SILENCE (R358): an R-layer controller without a command for 1 ms moves its clusters to SAFE_POINT. -/
def Dev.weirSilent (d : Dev) (e : Env) (h : HalfId) : Dev :=
  let d := { d with pwr := { d.pwr with absent := true } }
  (allClusters.filter (fun c => clusterHalf c = h && d.pwr.ctl[h])).foldl (fun d c =>
    d.setPoint e c (safePoint e) (pointCadence (safePoint e))) d

/-- R352: the windows restart as if each had run at its limit. -/
def Dev.restartWindows (d : Dev) : Dev := { d with pwr := { d.pwr with hist := [], lastBcl := none, clMw := 0 } }

/-- WEIR_RESUME (R358, R369). -/
def Dev.weirResume (d : Dev) : Dev :=
  if !d.pwr.absent then d else ({ d with pwr := { d.pwr with absent := false }, thm := { d.thm with resync := true } }).restartWindows

-- Read-to-clear counters ---------------------------------------------------------------------------------------------

/-- PWR_SLUICE_CNT and PWR_FIXED_CNT (R91). -/
def Dev.readSluice (d : Dev) (f : FuncId) : Dev :=
  d.readRc f (d.pwr.alertCuts * 2 ^ 16 + d.pwr.ocCuts) (fun d => { d with pwr := { d.pwr with alertCuts := 0, ocCuts := 0 } })

def Dev.readFixed (d : Dev) (f : FuncId) : Dev :=
  d.readRc f d.pwr.departs (fun d => { d with pwr := { d.pwr with departs := 0 } })

end Sys2Proof.Machine
end

