-- ==== Sys2Proof/Machine/ThermOps.lean ====
section
/-! DEFINITION. Sensors, the Onion model, tray data, throttling, the thermal-interface estimate and the trip (chapter "Thermal
sensing, the Onion model and cooling faults"). -/

namespace Sys2Proof.Machine

-- Tray ---------------------------------------------------------------------------------------------------------------

/-- AF_RATED in 0.1 L/s; 0 stands for 800 (THM_CFG, R463). -/
def afRated (e : Env) : Nat := let a := fld (e.reg 0x500008) 31 16; if a = 0 then 800 else a
def warnPct (e : Env) : Nat := clampN 5 100 (fld (e.reg 0x500008) 7 0)
def alarmPct (e : Env) : Nat := let a := fld (e.reg 0x500008) 15 8; if warnPct e < a then a else warnPct e + 5
def thetaSa (e : Env) : Nat := fld (e.reg 0x50000C) 15 0

/-- T_eff in 0.5 °C (R366): 45 °C while tray data is lost or has not come. -/
def Dev.tEff (d : Dev) (e : Env) : Nat :=
  if d.thm.trayLost then 90 else
  let t := d.thm.tray
  if t.flow < afRated e then t.inlet + 4 * cdiv ((afRated e - t.flow) * 10) (afRated e) else t.inlet

/-- TRAY_READ (R359, R360, R366): tray data that is missing or fails its check counts as no reading. -/
def Dev.trayRead (d : Dev) (e : Env) (r : Option TrayReading) : Dev :=
  match r with
  | some t => if d.thm.sideLost || !d.pwr.vaon then d else
      { d with thm := { d.thm with tray := t, trayAt := some e.time.ticks, trayLost := false } }
  | none => d

/-- TRAY_LOST (R366): no valid reading for 1 s, after the first 5 s from start-up. -/
def Dev.trayLoss (d : Dev) (e : Env) : Dev :=
  let since := Nat.max (d.thm.trayAt.getD 0) (d.thm.startAt + 5000000)
  if !d.pwr.vaon || e.time.ticks < since + 1000000 || (d.thm.trayLost && d.thm.trayAt.isSome) then d else
  ({ d with thm := { d.thm with trayLost := true, trayAt := some (d.thm.trayAt.getD 0) } }).onFab
    (fun f => f.report e 0x0503 (.basinBlock 12) 0 0)

-- Limits ------------------------------------------------------------------------------------------------------------

/-- f_in at a T_eff in 0.5 °C, in 10 Mstep/s; none up to 40.0 °C (R366). -/
def inletLimit (e : Env) (t : Nat) : Option Nat :=
  if t ≤ 80 then none else some (e.maxCadence * (1000 - 15 * (Nat.min t 90 - 80)) / 1000)

/-- Tiles whose thermal limit lies below their cluster's point, and their limits written. -/
def Dev.applyLimits (d : Dev) (e : Env) : Dev :=
  let n := (List.finRange 512).foldl (fun n t =>
    if (d.fab.siteOf t).isSome && d.thermalLimit t < pointCadence (d.clp (tileCluster t)).pt then n + 1 else n) 0
  let d := { d with thm := { d.thm with throttled := n } }
  (allClusters.filter (fun c => d.towUp (clusterHalf c))).foldl (fun d c => d.refreshPace e c) d

/-- A thermal limit that fell below the fixed cadence is a departure (R356). -/
def Dev.thermalDepart (d0 d : Dev) (e : Env) : Dev :=
  if !d.pwr.fixed then d else
  let k := pointCadence (fixedPoint e)
  (d.boundTiles.filter (fun t => d.thermalLimit t < k && k ≤ d0.thermalLimit t)).foldl (fun d _ => d.depart) d

/-- INLET_LIMIT_UPDATE (R366): f_in follows T_eff at most once per second and with a hysteresis of 0.5 K. -/
def Dev.inletUpdate (d : Dev) (e : Env) : Dev :=
  let t := d.tEff e
  let early := match d.thm.fInAt with | some a => decide (pwrNow e < a + 1000000) | none => false
  let near := d.thm.fInAt.isSome && t + 1 > d.thm.fInT && d.thm.fInT + 1 > t
  if d.pwr.absent || early || near then d else
  Dev.thermalDepart d (({ d with thm := { d.thm with
    fIn := inletLimit e t, fInT := t, fInAt := some (pwrNow e), inletHigh := decide (90 < t) } }).applyLimits e) e

/-- The excess e of a tile: control temperature less throttle level, the largest of those R367 lists. -/
def Dev.excess (d : Dev) (t : TileId) (x : SiteIx) : Dy :=
  let past := fun (s : SensorId) (level : Int) => (d.ctlTemp s).map (fun v => v.sub (Dy.ofInt level))
  let h := siteHalf x
  let l := [past (.logic x 0) 100, past (.logic x 1) 100] ++ (List.finRange 8).map (fun i => past (.dram x i) 90) ++
    [past (bankSensor x) 100, past (.rlayer h 16) 100, past (.rlayer h 17) 100, past (.rlayer h 18) 100] ++
    (List.finRange 25).map (fun i => past (.basin i) 100)
  let _ := t
  (l.filterMap id).foldl Dy.maxD (Dy.ofInt (-300))

/-- THROTTLE_UPDATE (R367), every 1 ms. -/
def Dev.throttle (d : Dev) (e : Env) : Dev :=
  if d.pwr.absent || d.thm.tripped then d else
  let d' := (List.finRange 512).foldl (fun d t =>
    match d.fab.siteOf t with
    | none => d
    | some x =>
      let ex := d.excess t x
      let f := 160 - tget d.thm.drop 0 t.val
      let f := if Dy.zero.lt ex then Nat.max 10 (f - (Dy.frac (ex.add ex)).ceil.toNat)
               else if ex.le (Dy.ofInt (-2)) then Nat.min 160 (f + 1) else f
      let n := if f = 10 && Dy.zero.lt ex then tget d.thm.floor 0 t.val + 1 else 0
      let d := { d with thm := { d.thm with drop := tset d.thm.drop 0 t.val (160 - f), floor := tset d.thm.floor 0 t.val n } }
      if n = 1001 then d.onFab (fun g => g.report e 0x0505 (.site x) ((Dy.frac ex).mul (Frac.ofNat 8)).floor.toNat 0) else d) d
  Dev.thermalDepart d (d'.applyLimits e) e

-- The Onion model ----------------------------------------------------------------------------------------------------

/-- Layer sensors of a column: two of the site, eight of the DRAM. -/
def colSensors (x : SiteIx) : List SensorId :=
  [.logic x 0, .logic x 1] ++ (List.finRange 8).map (fun i => .dram x i)

/-- The reading of a node whose sensor is in use: for the site, the mean of its sensors in use (R363). -/
def Dev.nodeReading (d : Dev) (x : SiteIx) (n : Nat) : Option Dy :=
  let ss : List SensorId :=
    if n = 0 then [bankSensor x]
    else if n = 1 then [.logic x 0, .logic x 1]
    else if n ≤ 9 then [.dram x ⟨(n - 2) % 8, Nat.mod_lt _ (by decide)⟩] else []
  match ss.filter (fun s => (d.sen s).inUse) with
  | [] => none
  | [a] => some (d.sen a).value
  | a :: b :: _ => some (((d.sen a).value.add (d.sen b).value).half)

/-- E_n of a layer (R363): over the layers above and below whose sensors are in use, the mean of T_nb + T̂_n − T̂_nb; with none, T̂_n. -/
def Dev.estimate (d : Dev) (x : SiteIx) (n : Nat) : Dy :=
  let est := fun (m : Nat) => (d.nodeReading x m).map (fun t => (t.add (d.hat x n)).sub (d.hat x m))
  match (if 1 ≤ n then est (n - 1) else none), (if n < 9 then est (n + 1) else none) with
  | some a, some b => (a.add b).half
  | some a, none => a
  | none, some b => b
  | none, none => d.hat x n

/-- The absolute difference of two temperatures in 0.125 K. -/
def diff8 (a b : Dy) : Nat := ((Dy.frac (a.sub b).abs).mul (Frac.ofNat 8)).ceil.toNat

/-- R363, R364: a sensor differs from its estimate by more than 4 K. Of the two sensors of a site that differ from each other by more than
4 K, the one further from the estimate counts as differing. -/
def Dev.differs (d : Dev) (s : SensorId) : Nat :=
  match s with
  | .dram x l => diff8 (d.sen s).value (d.estimate x (2 + l.val))
  | .logic x i =>
    let e := d.estimate x 1
    let o := d.sen (.logic x (1 - i))
    let a := diff8 (d.sen s).value e
    let p := diff8 (d.sen s).value o.value
    if o.inUse && diff8 o.value e < a then Nat.max a p else a
  | _ => 0

/-- One sensor of a column checked over a period (R364): withheld while it differs by more than 4 K, suspect when
the difference has lasted 100 periods after the first. A period without a reading breaks the count. -/
def Dev.checkSensor (d0 : Dev) (d : Dev) (e : Env) (s : SensorId) : Dev :=
  let v := d.sen s
  if v.suspect then d else
  if v.reading.isNone then (if v.off = 0 then d else d.setSen s { v with off := 0 }) else
  let g := d0.differs s
  if g ≤ 32 then (if v.off = 0 then d else d.setSen s { v with off := 0 })
  else if v.off < 100 then d.setSen s { v with off := v.off + 1, diff := g }
  else (d.setSen s { v with off := v.off + 1, suspect := true, diff := g }).onFab (fun f => f.report e 0x0501 (.sensor s) g 0)

/-- The suspect sensors of a column. -/
def Dev.suspects (d : Dev) (x : SiteIx) : Nat := ((colSensors x).filter (fun s => (d.sen s).suspect)).length

/-- R365: a column with more than two suspect sensors is BLIND. -/
def Dev.checkBlind (d : Dev) (e : Env) (x : SiteIx) : Dev :=
  let n := d.suspects x
  let was := d.thm.blind.contains x.val
  if 2 < n && !was then
    ({ d with thm := { d.thm with blind := d.thm.blind ++ [x.val] } }).onFab (fun f => f.report e 0x0502 (.site x) n 0)
  else if n ≤ 2 && was then { d with thm := { d.thm with blind := d.thm.blind.filter (fun k => k ≠ x.val) } }
  else d

/-- The temperature of the sink base (R361), in °C. -/
def Dev.sinkBase (d : Dev) (e : Env) : Frac :=
  let t := Frac.mk2 (d.tEff e) 2
  let th := thetaSa e
  if th = 0 then t else
  let p := (d.pwr.hist.headD 0)
  let r := Frac.mk2 (Config.pow08 (afRated e) d.thm.tray.flow : Nat) 65536
  t.add ((Frac.mk2 ((th * p : Nat) : Int) 1000000).mul r)

/-- The power that a node receives over the period, in mW (R361): 8 % of the bank's output to the R-layer, the bank's output to the sites
by their step counts, row transfers and refresh bursts to the DRAM layers. -/
def Dev.nodePower (d : Dev) (e : Env) (r : OnionIn) (x : SiteIx) (n : Nat) : Frac :=
  let v := d.clp (siteCluster x)
  let bank := Frac.mk2 ((v.cur * v.volt : Nat) : Int) 40
  let of_ := fun (y : SiteIx) => ((r.steps.find? (fun p => p.1 = y)).map (·.2)).getD 0
  let t := e.fuse.thermal[siteHalf x]
  if n = 0 then bank.mul (Frac.mk2 8 1700)
  else if n = 1 then
    let all := ((clusterSites (siteCluster x)).map of_).foldl (· + ·) 0
    if all = 0 then bank.div (Frac.ofNat 17) else bank.mul (Frac.mk2 (of_ x) all)
  else if n ≤ 9 then
    let q := r.rows.filter (fun p => p.1 = x && p.2.1 = n - 2)
    let nj : Nat := (q.map (fun p => p.2.2.1 * t.rowNj + p.2.2.2 * t.refreshNj)).foldl (fun (a b : Nat) => a + b) 0
    Frac.mk2 (Int.ofNat nj) 1000
  else Frac.zero

/-- R_cs of a half in 0.1 mK/W: the estimate where it is formed, 120 (R462) else. -/
def Dev.rcsOf (d : Dev) (h : HalfId) : Nat :=
  let v := (d.thm.rcs[h]).vals
  if v.isEmpty then 120 else (v.map (·.2)).foldl (· + ·) 0 / v.length

/-- The net heat flow into a node, in mW. -/
def Dev.nodeFlow (d : Dev) (e : Env) (r : OnionIn) (x : SiteIx) (n : Nat) : Frac :=
  let t := e.fuse.thermal[siteHalf x]
  let here := Dy.frac (d.hat x n)
  let from_ := fun (g : Nat) (o : Frac) => (o.sub here).mul (Frac.ofNat g)
  let col := x.val % 272
  let below := if n = 0 then Frac.zero else from_ (t.up[n - 1]?.getD 0) (Dy.frac (d.hat x (n - 1)))
  let above := if n = 10 then
      ((d.sinkBase e).sub here).mul (Frac.mk2 10000000 (272 * Nat.max 1 (d.rcsOf (siteHalf x))))
    else from_ (t.up[n]?.getD 0) (Dy.frac (d.hat x (n + 1)))
  let side := Frac.sum ((t.near.filter (fun p => p.1 = col || p.2 = col)).map (fun p =>
    let o := if p.1 = col then p.2 else p.1
    from_ (t.side[n]?.getD 0) (Dy.frac (d.hat (siteOfNat (272 * (siteHalf x).val + o)) n))))
  (((d.nodePower e r x n).add below).add above).add side

/-- The readings of a period taken in: one outside 0–150 °C is none (R360). -/
def Dev.takeReadings (d : Dev) (r : OnionIn) : Dev :=
  let of_ := fun (s : SensorId) => (r.readings.find? (fun p => p.1 = s)).bind (fun p =>
    if 0 ≤ p.2 && p.2 ≤ 1200 then some p.2 else none)
  let put := fun (d : Dev) (s : SensorId) => d.setSen s { d.sen s with reading := of_ s }
  let d := allSites.foldl (fun d x => (colSensors x).foldl put d) d
  let d := [(0 : HalfId), 1].foldl (fun d h => (List.finRange 19).foldl (fun d b => put d (.rlayer h b)) d) d
  (List.finRange 25).foldl (fun d i => put d (.basin i)) d

def Dev.setHat (d : Dev) (x : SiteIx) (n : Nat) (v : Dy) : Dev :=
  { d with thm := { d.thm with hat := tset d.thm.hat Dy.zero (11 * x.val + n) v } }

/-- R373, R369: the model starts at the readings; a node without one starts at the inlet temperature at the first start, and keeps its
value when Weir has run again. -/
def Dev.startModel (d : Dev) (e : Env) : Dev :=
  if d.thm.ran ≠ 0 && !d.thm.resync then d else
  let first := d.thm.ran = 0
  let d := allSites.foldl (fun d x => (List.range 11).foldl (fun d n =>
    match d.nodeReading x n with
    | some t => d.setHat x n t
    | none => if first then d.setHat x n ⟨if d.thm.trayLost then d.tEff e else d.thm.tray.inlet, -1⟩ else d) d) d
  { d with thm := { d.thm with resync := false } }

/-- ONION_MODEL_PERIOD (R361–R365): readings, integration, withholding, correction, and what follows for the control temperatures. -/
def Dev.onionPeriod (d : Dev) (e : Env) (r : OnionIn) : Dev :=
  if d.pwr.absent || !d.pwr.vaon then d else
  let d := (d.takeReadings r).startModel e
  -- integration of every node from the state before it
  let d := allSites.foldl (fun d' x => (List.range 11).foldl (fun d' n =>
    let w := d.nodeFlow e r x n
    let rise := Config.onionRise w.num w.den ((e.fuse.thermal[siteHalf x]).cap[n]?.getD 0)
    d'.setHat x n ((d.hat x n).add ⟨rise, -16⟩)) d') d
  -- withholding begins after 10 s of model operation (R373)
  let d := if d.thm.ran < 10000 then d else
    let d0 := d
    let d := allSites.foldl (fun d x => (colSensors x).foldl (fun d s => Dev.checkSensor d0 d e s) d) d
    allSites.foldl (fun d x => d.checkBlind e x) d
  -- correction of the nodes whose sensor is in use, with a gain of 1/8
  let d := allSites.foldl (fun d x => (List.range 10).foldl (fun d n =>
    match d.nodeReading x n with
    | some t => d.setHat x n ((d.hat x n).add ((t.sub (d.hat x n)).mul ⟨1, -3⟩))
    | none => d) d) d
  let past := allSites.foldl (fun p x => tput p x.val ((d.logicTemp x :: tget p [] x.val).take 1000)) d.thm.past
  { d with thm := { d.thm with past := past, ran := d.thm.ran + 1 } }

/-- CONTROL_TEMPERATURE_SEND (R362): each channel root is sent the control temperatures of its eight layers. -/
def Dev.sendTemps (d : Dev) : Dev :=
  if d.pwr.absent then d else
  (allSites.filter (fun x => d.towUp (siteHalf x))).foldl (fun d x =>
    let ts := (List.finRange 8).map (fun l => ((Dy.frac ((d.ctlTemp (.dram x l)).getD Dy.zero)).mul (Frac.ofNat 8)).floor)
    d.onFab (fun f => { f with tempMsgs := tput f.tempMsgs x.val ts })) d

/-- SUSPECT_WRITE (R364, R470): bits 0–1 the site sensors, bits 2–9 M1–M8; 0 clears a mark, 1 sets it. -/
def Dev.writeSuspects (d : Dev) (e : Env) (x : SiteIx) (v : Word) : Dev :=
  let d := (colSensors x).zipIdx.foldl (fun d p =>
    let s := d.sen p.1
    let b := v.getLsbD p.2
    if s.suspect = b then d else d.setSen p.1 { s with suspect := b, off := 0 }) d
  d.checkBlind e x

-- The hardwired limit ------------------------------------------------------------------------------------------------

/-- The stage 5 level of a sensor and its release level, in 0.125 °C (R368); none where it has no stage 5. -/
def hardLevel : SensorId → Option (Int × Int)
  | .logic _ _ => some (864, 800)
  | .dram _ _ => some (800, 736)
  | _ => none

/-- HARDWIRED_LIMIT and HARDWIRED_LIMIT_RELEASE (R368 stage 5): readings in 0.125 °C. -/
def Dev.hardLimit (d : Dev) (s : SensorId) (reading : Nat) : Dev :=
  match hardLevel s with
  | some (on, _) => if (d.sen s).suspect || (reading : Int) < on then d else d.setSen s { d.sen s with hard := true }
  | none => d

def Dev.hardRelease (d : Dev) (s : SensorId) (reading : Nat) : Dev :=
  match hardLevel s with
  | some (_, off) => if off < (reading : Int) then d else d.setSen s { d.sen s with hard := false }
  | none => d

-- The trip -----------------------------------------------------------------------------------------------------------

/-- The trip level of a sensor in 0.125 °C (Table Thermal-2). -/
def tripLevel : SensorId → Nat
  | .dram _ _ => 840
  | _ => 920

/-- KIND and INDEX of a sensor as THM_TRIP_0 codes them. INDEX of a site sensor is which of the two it is. -/
def sensorCode : SensorId → Nat × Nat
  | .logic _ i => (0, i.val)
  | .dram _ l => (1, l.val)
  | .rlayer _ b => (2, b.val)
  | .basin i => (3, i.val)

/-- Half, PCL and site of a sensor; site 0x1F where none applies. -/
def sensorPlace : SensorId → Nat × Nat × Nat
  | .logic x _ => ((siteHalf x).val, sitePcl x, siteNo x)
  | .dram x _ => ((siteHalf x).val, sitePcl x, siteNo x)
  | .rlayer h b => (h.val, if b.val < 16 then b.val else 0, 0x1F)
  | .basin _ => (0, 0, 0x1F)

def tripWord (s : SensorId) (byModel : Bool) (temp : Nat) : Nat :=
  let k := sensorCode s
  let p := sensorPlace s
  2 ^ 31 + k.1 * 2 ^ 29 + b2n byModel * 2 ^ 28 + p.1 * 2 ^ 27 + p.2.1 % 16 * 2 ^ 23 + p.2.2 * 2 ^ 18 + k.2 * 2 ^ 13 + temp % 2048

/-- THERMAL_TRIP (R371, Table Thermal-3): by a reading of a sensor that is not suspect on two readings in a row, in 0.125 °C, or by the control
temperature that the model gives for its place. -/
def Dev.thermalTrip (d : Dev) (e : Env) (s : SensorId) (byModel : Bool) (reading : Nat) : Dev :=
  let temp := if byModel then ((Dy.frac ((d.ctlTemp s).getD Dy.zero)).mul (Frac.ofNat 8)).floor.toNat else reading
  let seen := if byModel then d.ofModel s && !d.pwr.absent else !(d.sen s).suspect
  if d.thm.tripped || !d.pwr.vaon || temp < tripLevel s || !seen then d else
  let w := tripWord s byModel temp
  let d := { d with thm := { d.thm with tripped := true, trip := some { word := w, time := nowNs e.time } } }
  let d := (d.send (.pin .thermtripN false)).cutClusters 0xFFFFFFFF
  let d := (d.fenceHalf e 0 .reset).fenceHalf e 1 .reset
  let d := (d.dropHalf 0).dropHalf 1
  let d := { d with pwr := { d.pwr with orders := [] } }
  d.onFab (fun f => f.report e 0x0506 (.sensor s) w 0 none 6)

-- The thermal interface ----------------------------------------------------------------------------------------------

/-- RCS of a half: the mean over the last hour; none before the first (R370). -/
def TimSt.rcs (t : TimSt) : Option Nat :=
  if t.vals.isEmpty then none else some ((t.vals.map (·.2)).foldl (· + ·) 0 / t.vals.length)

/-- RCS_ESTIMATE (R370): a steady interval of 60 s has ended, and the adjusted R_cs of the half is r, in 0.1 mK/W. RCS_BASE is formed over
the first 100 h of steady intervals. -/
def Dev.rcsEstimate (d : Dev) (e : Env) (h : HalfId) (r : Nat) : Dev :=
  if thetaSa e = 0 || d.pwr.absent then d else
  let t := d.thm.rcs[h]
  let vals := (pwrNow e, r) :: t.vals.filter (fun p => pwrNow e < p.1 + 3600000000)
  let open_ := t.base.isNone
  let sum := if open_ then t.baseSum + r else t.baseSum
  let n := if open_ then t.baseN + 1 else t.baseN
  let t := { t with vals := vals, baseSum := sum, baseN := n, base := if open_ && n = 6000 then some (sum / 6000) else t.base }
  let rcs := t.rcs.getD 0
  let past := fun (pct : Nat) => match t.base with | some b => decide (b * (100 + pct) < rcs * 100) | none => false
  let warn := past (warnPct e) && !t.warn
  let alarm := past (alarmPct e) && !t.alarm
  let t := { t with warn := past (warnPct e), alarm := past (alarmPct e) }
  let d := { d with thm := { d.thm with rcs := d.thm.rcs.set h t } }
  let d := if warn then d.onFab (fun f => f.report e 0x0504 (.half h) 0 rcs) else d
  if alarm then d.onFab (fun f => f.report e 0x0504 (.half h) 1 rcs) else d

/-- A write of THETA_SA starts the baseline again (R370). -/
def Dev.restartBase (d : Dev) : Dev :=
  { d with thm := { d.thm with rcs := d.thm.rcs.map (fun t => { t with baseSum := 0, baseN := 0, base := none, warn := false, alarm := false }) } }

end Sys2Proof.Machine
end

