-- ==== Sys2Proof/Machine/ResetOps.lean ====
section
/-! DEFINITION. Resets of cluster, half compute, compute and Basin level (R408–R412, Table Bringup-4), the fence's lifting (R294), and
the failing of model slots whose columns are cleared (R239). -/

namespace Sys2Proof.Machine

def bothHalves : List HalfId := [0, 1]

-- Model slots --------------------------------------------------------------------------------------------------------

/-- The launches of a slot end with a fault of a cause, and their tiles are sent ABORT. -/
def Dev.breakLaunches (d : Dev) (hit : Launch → Bool) (cause : Nat) : Dev :=
  (d.svc.launches.filter hit).foldl (fun d l =>
    let d := d.sendAborts l
    let q : LaunchFault := match l.streams with
      | s :: _ => { tile := s.1, cause := cause, extra := 0 }
      | [] => { tile := 0, cause := cause, extra := 0 }
    { d with svc := { d.svc with launches := d.svc.launches.map (fun (k : Launch) =>
        if k.tag = l.tag then { k with fault := some (k.fault.getD q) } else k) } }) d

/-- R239, R396: a slot fails: its requests end with BAD_MODEL, its sequences and groups are lost, its launches end. -/
def Dev.failModel (d : Dev) (e : Env) (m : ModelSlotId) : Dev :=
  let s := d.model m
  if s.phase = .empty || s.failed then d else
  let d := d.endModelWork e m 0x0C
  let d := (d.svc.queue.filter (fun r => r.model = m.val)).foldl (fun d r => d.failReq e r 0x0C) d
  let d := d.breakLaunches (fun l => l.model = m) (Cause.code .scratchParity)
  d.setModel m { d.model m with failed := true }

/-- Every slot bound to one of the tiles fails. -/
def Dev.failTiles (d : Dev) (e : Env) (ts : List TileId) : Dev :=
  (List.finRange 16).foldl (fun d m => if (d.model m).bind.any (fun t => ts.contains t) then d.failModel e m else d) d

/-- R395, R410: the token service engine receives, for every launch with a stream on one of the tiles, a fault of cause SCRATCH_PARITY. -/
def Dev.parityFaults (d : Dev) (ts : List TileId) : Dev :=
  d.svc.launches.foldl (fun d l =>
    match l.streams.find? (fun s => ts.contains s.1) with
    | some s => d.onFab (fun f => { f with inbox := f.inbox ++ [TileMsg.fault s.1 s.2 l.tag (Cause.code .scratchParity) 0 0] })
    | none => d) d

/-- The peer tables of every slot with a tile among those named are written again from its binding (R395, R410). -/
def Dev.rewritePeers (d : Dev) (ts : List TileId) : Dev :=
  (List.finRange 16).foldl (fun d m =>
    if (d.model m).phase = .loaded && (d.model m).bind.any (fun t => ts.contains t) then d.writeAllPeers m else d) d

-- Scope --------------------------------------------------------------------------------------------------------------

/-- The clusters in the scope of a reset (Table Bringup-3). -/
def resetScope (level target : Nat) : BitVec 32 :=
  if level = 1 then BitVec.ofNat 32 (2 ^ (target % 32))
  else if level = 2 then (if target % 2 = 0 then 0x0000FFFF else 0xFFFF0000)
  else 0xFFFFFFFF

def ResetSt.covers (r : ResetSt) (c : ClusterId) : Bool := r.scope.getLsbD c.val
/-- A half is in the scope of a reset of half compute level or wider. -/
def ResetSt.half (r : ResetSt) (h : HalfId) : Bool := 2 ≤ r.level && r.scope.getLsbD (16 * h.val)

def scopeTiles (r : ResetSt) : List TileId := (List.finRange 512).filter (fun t => r.covers (tileCluster t))
def scopeSites (r : ResetSt) : List SiteIx := allSites.filter (fun x => r.covers (siteCluster x))

-- The order ----------------------------------------------------------------------------------------------------------

/-- A site enters the repair record as bad, with the code of the record for which it is (R399). -/
def Dev.markBad (d : Dev) (x : SiteIx) (cause : Nat) : Dev :=
  d.setLkk (fun k => if k.bad.contains x then k else { k with bad := k.bad ++ [x], causes := tput k.causes x.val cause })

/-- Table Errors-10: a migration in a scope that is reset, or fenced, is abandoned, to begin again with the tile at the spare; the old site is
bad. -/
def Dev.abandonMig (d : Dev) (hit : ClusterId → Bool) : Dev :=
  bothHalves.foldl (fun d (h : HalfId) =>
    let m := d.lkk.mig[h]
    if (m.state = .copy || m.state = .cutover) && hit (siteCluster m.src) then
      let d := (d.onFab (fun f => { f with cut := f.cut.set h none })).markBad m.src m.cause
      d.setLkk (fun k => { k with
        mig := k.mig.set h { m with state := .idle, copying := false }, migHeld := k.migHeld ++ [(m.tile, m.src, m.dst)] })
    else d) d

/-- Abandoned migrations restart (Table Errors-10): the tile is mapped to the spare, the old site is powered off, and the copy begins at row 0
where the columns have kept their contents. -/
def Dev.restartMigs (d : Dev) (hit : ClusterId → Bool) (kept : Bool) : Dev :=
  let qs := d.lkk.migHeld.filter (fun q => hit (tileCluster q.1))
  let d := d.setLkk (fun k => { k with migHeld := k.migHeld.filter (fun q => !hit (tileCluster q.1)) })
  qs.foldl (fun d q =>
    let (t, a, s) := q
    let d := (d.onFab (fun f => f.changeMap (tileCluster t) (moveTile (tileFin t) a s))).powerOff (domOf a)
    if kept then
      let m := { d.lkk.mig[siteHalf a] with state := .copy, tile := t, src := a, dst := s, copying := true, rows := 0, mapped := true, took := 0 }
      d.setLkk (fun k => { k with mig := k.mig.set (siteHalf a) m })
    else d) d

/-- An order for a reset (R411): at or below the level in progress it is discarded with REFUSED; a wider one takes the place of the one in
progress, its scope included. Steps 1 and 2 of Table Bringup-4 follow. -/
def Dev.orderReset (d : Dev) (e : Env) (level target cause : Nat) (clear : Bool) : Dev :=
  let refuse := match d.lkk.rst with | some r => decide (level ≤ r.level) | none => false
  if refuse then d.setLkk (fun k => { k with refused := true }) else
  let s := resetScope level target
  let r : ResetSt := match d.lkk.rst with
    | some q => { level := level, scope := s ||| q.scope, clear := clear || q.clear, cause := cause, asserted := false }
    | none => { level := level, scope := s, clear := clear, cause := cause, asserted := false }
  let d := d.setLkk (fun k => { k with rst := some r, refused := false })
  let d := if r.half 0 then d.fenceHalf e 0 .reset else d
  let d := if r.half 1 then d.fenceHalf e 1 .reset else d
  let d := if level = 1 then d.parityFaults (scopeTiles r) else d
  d.abandonMig r.covers

/-- A write of BSN_RESET_CTRL by the PF (CLUSTER_RESET to BASIN_RESET): GO, CLEAR and TARGET. -/
def Dev.writeReset (d : Dev) (e : Env) (f : FuncId) (level : Nat) (v : Word) : Dev :=
  if f ≠ 0 || !v.getLsbD 31 then d else d.orderReset e level (fld v.toNat 4 0) 0 (v.getLsbD 30)

-- Assertion ----------------------------------------------------------------------------------------------------------

/-- A site under reset (R67, R408): its state, its code banks emptied and loaded again with the image in force (R407). -/
def Dev.resetSite (d : Dev) (x : SiteIx) : Dev :=
  let code := if d.siteOn x then (d.codeOf 6, 0) else (0, 0)
  d.onFab (fun f => f.setSite x { (f.site x).reset with bank := 0, code := code })

/-- A channel root under reset: queue and lap positions are lost, its code banks are emptied and loaded again (R407); its contents are kept
until the tables are reloaded (R202), or are to be filled (R409). -/
def Dev.resetColumn (d : Dev) (x : SiteIx) (clear : Bool) : Dev :=
  let c := d.fab.col x
  let phase := match c.phase with
    | .ready | .reloading => if clear then .filling else .reloading
    | p => p
  let d := d.setLkk (fun k => { k with chroot := tput k.chroot x.val { bank := 0, a := d.codeOf 8, b := 0 } })
  d.onFab (fun f => f.setCol x { c with
    phase := phase, queue := [], waiting := [], pos := 0, hint := none, slots := 0, lastDue := 0, busy := [], lastIdle := none, rr := 0
    stepRr := 0, corr := [], lapCorr := [], prevCorr := [], colHits := [], colTold := [], rowDue := [], colDue := [], dual := none
    laneTests := [] })

/-- The parts of a half that half compute adds to its clusters: the mesh. -/
def Dev.resetMesh (d : Dev) (h : HalfId) : Dev :=
  let d := (allClusters.filter (fun c => clusterHalf c = h)).foldl (fun d c =>
    d.onFab (fun f => f.setCluster c { f.cluster c with linkDown := 0, retries := 0, columnFirst := false })) d
  d.onFab (fun f => { f with
    switching := f.switching.set h false, toColumn := f.toColumn.set h false
    routes := (List.range 8).map (fun i => (if i / 4 = h.val then f.routesNext else f.routes).getD i none)
    held := f.held.filter (fun p => decide (p.1 / 256 ≠ h.val)), ctl := f.ctl.filter (fun p => tileHalf p.1 ≠ h)
    inbox := f.inbox.filter (fun m => tileHalf (msgTile m) ≠ h) })

/-- The nodes that run code of a component use their other bank, where that holds code (R407). -/
def Dev.flipCode (d : Dev) (comp : Nat) : Dev :=
  let flip := fun (b : CodeBanks) => if (if b.bank = 0 then b.b else b.a) = 0 then b else { b with bank := 1 - b.bank }
  if comp = 6 then
    d.onFab (fun f => allSites.foldl (fun f x =>
      let s := f.site x
      if (if s.bank = 0 then s.code.2 else s.code.1) = 0 then f else f.setSite x { s with bank := 1 - s.bank }) f)
  else if comp = 7 then d.setLkk (fun k => { k with rlayer := k.rlayer.map (fun p => (p.1, flip p.2)) })
  else if comp = 8 then d.setLkk (fun k => { k with chroot := k.chroot.map (fun p => (p.1, flip p.2)) })
  else d

/-- A component changes to its other slot. -/
def Dev.flipSlot (d : Dev) (n : Nat) (trial staged : Bool) : Dev :=
  let c := tget d.lkk.comps (Comp.factory n) n
  d.setLkk (fun k => { k with comps := tput k.comps n { c with activeB := !c.activeB, trial := trial, staged := staged } })

/-- A rollback (R416): components already switched return to their previous slots, in reverse order. Staged images stay staged. -/
def Dev.rollback (d : Dev) (comps : List Nat) (revert : Bool) : Dev :=
  comps.reverse.foldl (fun d n => (d.flipSlot n false (!revert)).flipCode n) d

/-- A trial under way ends FAILED. -/
def Dev.failTrial (d : Dev) : Dev :=
  match d.lkk.trial with
  | some t =>
    (d.rollback t.comps t.revert).setLkk (fun k => { k with
      trial := none, rsp := if t.pldm then k.rsp else 2 ^ 31 + 7 * 2 ^ 16
      upd := if t.pldm then k.upd.map (fun u => { u with state := 6 }) else k.upd })
  | none => d

/-- Registers that a Basin reset keeps (Table Regmap-2): those of the aggregator, Lockkeeper, the cartridges, Weir and the security
block. -/
def keptAtBasin (off : Nat) : Bool :=
  (0x4400 ≤ off && off < 0x4414) || off = 0x4430 || (0x4500 ≤ off && off < 0x4508) ||
  (0x202000 ≤ off && off < 0x203000) || (0x400000 ≤ off && off < 0x800000)

/-- What a Basin reset takes beside the two halves (R408, R152, R239, R300, R333, R465). -/
def Dev.resetBasin (d : Dev) : Dev :=
  let down := fun (l : LinkSt) => { LinkSt.init with clockLost := l.clockLost
                                                     basin := { EndSt.init with good := l.basin.good }, half := { EndSt.init with good := l.half.good } }
  let net := { Net.init with
    ports := d.net.ports.map (fun (p : Port) => { Port.init with clkLost := p.clkLost })
    carts := d.net.carts.map (fun (c : Cart) => if c.cstate = .serving then { c with recheck := true } else c)
    ptp := { PtpSt.init with clkLost := d.net.ptp.clkLost }, refused := d.net.refused, cartClkLost := d.net.cartClkLost }
  { d with
    host := { HostSt.init with bme := d.host.bme, cfg := d.host.cfg, vfs := d.host.vfs, linkUp := d.host.linkUp, perst := d.host.perst }
    svc := { Svc.init with wear := d.svc.wear }
    net := net
    lnk := { LinkAll.init with links := d.lnk.links.map down, wcap := d.lnk.wcap, t2 := { T2St.init with clock := d.lnk.t2.clock } }
    fab := { d.fab with mapValid := false, halfUp := Vector.replicate 2 false, results := [], reports := d.fab.reports, kvRegion := []
                        routes := List.replicate 8 none, routesNext := List.replicate 8 none }
    regs := d.regs.filter (fun p => keptAtBasin p.1)
    seen := Vector.replicate 2 none }.restartWindows

/-- LOCK_GATES_CLOSED (R412, Table Bringup-4 steps 3 to 5): the gates close, reset is asserted in the scope, and Lockkeeper loads code banks
again. -/
def Dev.gatesClosed (d : Dev) (e : Env) : Dev :=
  match d.lkk.rst with
  | none => d
  | some r =>
    if r.asserted || !d.lkkRuns then d else
    let clear := r.clear && 2 ≤ r.level || 4 ≤ r.level
    let d := if r.level = 4 then d.failTrial else d
    let d := (d.setLkk (fun k => { k with rst := some { r with asserted := true } })).onFab (fun f => { f with gated := f.gated ||| r.scope })
    let d := (scopeSites r).foldl (fun d x => d.resetSite x) d
    let d := (allClusters.filter r.covers).foldl (fun d c =>
      d.onFab (fun f => f.setSampler c { f.sampler c with slots := [], inflight := [] })) d
    let d := if r.half 0 then d.resetMesh 0 else d
    let d := if r.half 1 then d.resetMesh 1 else d
    if r.level = 1 then d else
    let d := (scopeSites r).foldl (fun d x => d.resetColumn x clear) d
    let lost := (scopeSites r).filter (fun x => (d.fab.col x).phase ≠ .reloading && (d.fab.col x).phase ≠ .ready)
    if r.level = 4 then d.resetBasin
    else d.failTiles e (lost.filterMap d.fab.tileOf)

-- Lifting the fence --------------------------------------------------------------------------------------------------

/-- The rails of a half are in regulation. -/
def Dev.railsUp (d : Dev) (h : HalfId) : Bool :=
  d.pwr.vin[h] && d.pwr.vbsn && d.pwr.vphy && [16, 17, 18].all (fun b => d.bankSt h b == .up) && d.bankSt h 19 != .latched

/-- Training has concluded on the four links of a half with at least one UP (R294). -/
def Dev.linksConcluded (d : Dev) (h : HalfId) : Bool :=
  let ls := (List.finRange 8).filter (fun n => linkHalf n = h)
  ls.all (fun n => (d.link n).phase == .up || (d.link n).phase == .failed) && ls.any (fun n => (d.link n).phase == .up)

/-- No reset in progress covers the half. -/
def Dev.outOfReset (d : Dev) (h : HalfId) : Bool :=
  match d.lkk.rst with
  | some r => !r.half h
  | none => true

/-- Every powered site of the half that carries a tile has passed its tests, and Weir drives the half. -/
def Dev.halfTested (d : Dev) (h : HalfId) : Bool :=
  d.pwr.ctl[h] && (allSites.filter (fun x => siteHalf x = h && d.siteOn x)).all (fun x => (d.fab.site x).ready)

/-- FENCE_LIFT (R294): the cause has cleared, the half is out of reset, its training has concluded, a trunk is up. HALFn_UP is set. -/
def Dev.liftFence (d : Dev) (h : HalfId) : Dev :=
  let cleared := match d.lnk.cause[h] with
    | some .mesh => (d.fab.lostRoute h).isNone
    | _ => true
  if d.fab.fenced[h] && cleared && !d.thm.tripped && d.outOfReset h && d.railsUp h && d.linksConcluded h && d.lnk.trunk[h] != 2 && d.fab.mapValid &&
      d.halfTested h then
    let d := ({ d with lnk := { d.lnk with cause := d.lnk.cause.set h none } }).restartMigs (fun c => clusterHalf c = h) true
    d.onFab (fun f => { f with fenced := f.fenced.set h false, halfUp := f.halfUp.set h true })
  else d

/-- HALF_UP (Table Bringup-1 step 17): a half that is not fenced comes into service when its links are trained after its tests. -/
def Dev.halfUpCheck (d : Dev) : Dev :=
  bothHalves.foldl (fun d (h : HalfId) =>
    if !d.fab.halfUp[h] && !d.fab.fenced[h] && !d.thm.tripped && d.fab.mapValid && d.outOfReset h && d.railsUp h && d.linksConcluded h &&
        d.lnk.trunk[h] != 2 && d.halfTested h then
      d.onFab (fun f => { f with halfUp := f.halfUp.set h true })
    else d) d

-- Completion ---------------------------------------------------------------------------------------------------------

/-- Every block in the scope has passed its tests: sites that are ON are ready, columns of a half in scope are ready or unusable, rails are up. -/
def Dev.scopeReady (d : Dev) (r : ResetSt) : Bool :=
  (scopeSites r).all (fun x => !d.siteOn x || (d.fab.site x).ready) &&
  (r.level = 1 || (scopeSites r).all (fun x => (d.fab.col x).phase == .ready || (d.fab.col x).phase == .unusable)) &&
  bothHalves.all (fun (h : HalfId) => !r.half h || d.railsUp h)

/-- The gates of the scope open, and the cluster switches release what they held for the sites behind them (R412). -/
def Dev.openGates (d : Dev) (e : Env) (r : ResetSt) : Dev :=
  let d := d.onFab (fun f => { f with gated := f.gated &&& ~~~r.scope })
  (scopeTiles r).foldl (fun d t =>
    if (match d.fab.siteOf t with | some x => (d.fab.site x).ready && !d.fab.holding t | none => false) then d.onFab (fun f => f.deliverHeld e t) else d) d

/-- RESET_COMPLETE (Table Bringup-4 step 7, R343, R410, Table Errors-10): gates open, the fence lifts, BUSY clears; peer tables are written
again; sites that carry logical tiles are powered on; a migration that was abandoned begins again with its tile at the spare. -/
def Dev.resetComplete (d : Dev) (e : Env) : Dev :=
  match d.lkk.rst with
  | none => d
  | some r =>
    if !r.asserted || !d.lkkRuns || !d.scopeReady r then d else
    let d := d.setLkk (fun k => { k with rst := none, lastLevel := r.level, lastCause := r.cause })
    let d := if r.level = 4 then d.onFab (fun f => { f with mapValid := f.mapWritten }) else d
    let d := d.restartMigs r.covers (r.level ≤ 3 && !r.clear)
    let d := (d.rewritePeers (scopeTiles r)).openGates e r
    let d := (allClusters.filter r.covers).foldl (fun d c => (d.carriers c).foldl (fun d x => d.powerOn (domOf x)) d) d
    let d := if r.half 0 then d.liftFence 0 else d
    let d := if r.half 1 then d.liftFence 1 else d
    d.noteIdle e

end Sys2Proof.Machine
end

