-- ==== Sys2Proof/Machine/ErrOps.lean ====
section
/-! DEFINITION. The error aggregator, migrations of tiles, field self-test and the repair record (chapter "Errors, reporting and
field repair"). -/

namespace Sys2Proof.Machine

-- Records ------------------------------------------------------------------------------------------------------------

/-- SEV of a code (Table Errors-4, R374). -/
def errSev (code : Nat) : Nat :=
  if code = 0x0506 then 4
  else if [0x0103, 0x0104, 0x0302, 0x0303, 0x0306, 0x0401, 0x0602, 0x0805, 0x0806].contains code then 3
  else if [0x0101, 0x0201, 0x0203, 0x0205, 0x0206, 0x0502, 0x0505, 0x0601, 0x0603, 0x0704, 0x0803].contains code then 2
  else 1

/-- Word 0x20 of a record: logical tile, half, PCL and site where they exist, and UNIT (Table Errors-2). -/
def word20 (lt : Option TileId) (phys : Option (Nat × Nat × Nat)) (unit : Nat) : Nat :=
  (match lt with | some t => t.val + 2 ^ 9 | none => 0) +
  (match phys with | some (h, p, s) => 2 ^ 10 + h * 2 ^ 11 + p * 2 ^ 12 + s * 2 ^ 16 | none => 0) + unit * 2 ^ 21

def sitePhys (x : SiteIx) : Option (Nat × Nat × Nat) := some ((siteHalf x).val, sitePcl x, siteNo x)

/-- The logical tile that the site of a sensor carries (R14). -/
def sensorTile (f : Fabric) : SensorId → Option TileId
  | .logic x _ => f.tileOf x
  | .dram x _ => f.tileOf x
  | _ => none

/-- Words 0x20 and 0x24 that name a suspect (R375, R381, Table Errors-3). -/
def Dev.suspectWords (d : Dev) : Suspect → Nat × Nat
  | .site x => (word20 (d.fab.tileOf x) (sitePhys x) 1, 0)
  | .tile t => (word20 (some t) ((d.fab.siteOf t).bind sitePhys) 1, 0)
  | .dram x ri s => (word20 (d.fab.tileOf x) (sitePhys x) 2, riLayer ri + riBank ri * 2 ^ 3 + riRow ri * 2 ^ 7 + s * 2 ^ 19)
  | .dramSpare x b n => (word20 (d.fab.tileOf x) (sitePhys x) 2, b / 16 + b % 16 * 2 ^ 3 + n * 2 ^ 7 + 2 ^ 23)
  | .tsvLane x b g l => (word20 (d.fab.tileOf x) (sitePhys x) 3, b + g * 2 ^ 3 + l % 64 * 2 ^ 11)
  | .halfLink n dir lane => (word20 none none 4, n.val + dir * 2 ^ 3 + lane * 2 ^ 4)
  | .half h => (word20 none (some (h.val, 0, 0x1F)) 5, 0)
  | .meshLink c dir => (word20 none none 6, c.val + dir * 2 ^ 5)
  | .trunk h n => (word20 none (some (h.val, 0, 0x1F)) 7, n)
  | .bank h n => (word20 none (some (h.val, 0, 0x1F)) 8, if n < 19 then n else Config.freeWord 19 0 % 32)
  | .sensor s => (word20 (sensorTile d.fab s) (match s with | .basin _ => none | _ => some (sensorPlace s)) 9, (sensorCode s).1 + (sensorCode s).2 * 2 ^ 2)
  | .sampler c => (word20 none (some ((clusterHalf c).val, clusterPcl c, 0x1F)) 1, 0)
  | .function f => (word20 none none 10, f.val)
  | .t2Device n => (word20 none none 11, n)
  | .cartridge k => (word20 none none 12, k.val)
  | .queuePair q => (word20 none none 13, q)
  | .port n => (word20 none none 13, n.val * 2 ^ 13)
  | .basinBlock n => (word20 none none 14, n)
  | .sequence _ => (word20 none none 15, 0)

/-- The logical cluster of a reporting tile; none where a Basin block reports (R375). -/
def reporterOf (r : Report) : Option ClusterId :=
  match r.by_ with
  | some c => some c
  | none =>
    if [0x0101, 0x0103, 0x0201, 0x0202, 0x0203, 0x0204, 0x0205].contains r.code || (r.code = 0x0102 && r.d1 ≠ 340) then
      match r.suspect with
      | .site x => some (siteCluster x)
      | .dram x _ _ => some (siteCluster x)
      | .dramSpare x _ _ => some (siteCluster x)
      | .tsvLane x _ _ _ => some (siteCluster x)
      | _ => none
    else none

def repBit (c : Option ClusterId) : BitVec 32 := match c with | some k => BitVec.ofNat 32 (2 ^ k.val) | none => 0

/-- A record as the first report of its key opens it. -/
def openRec (r : Report) (w : Nat × Nat) (again : Bool) : ErrRec :=
  { rid := 0, code := r.code, first := r.time, last := r.time, reporters := 1, again := again, basinRep := (reporterOf r).isNone
    repMap := repBit (reporterOf r), suspect := r.suspect, w20 := w.1, w24 := w.2, ctx := r.ctx
    seqId := match r.suspect with | .sequence n => n | _ => 0xFFFFFFFF
    d1 := r.d1, d2 := r.d2, action := r.action }

/-- A later report of a key merged into its record (R376). -/
def ErrRec.merge (k : ErrRec) (r : Report) : ErrRec :=
  { k with reporters := Nat.min 0xFFFF (k.reporters + 1), last := r.time, basinRep := k.basinRep || (reporterOf r).isNone
           repMap := k.repMap ||| repBit (reporterOf r) }

/-- The 64 bytes of a record (Table Errors-2). -/
def ErrRec.bytes (k : ErrRec) : List Byte :=
  leBytes 4 k.rid ++ leBytes 4 (errSev k.code + k.code * 2 ^ 16) ++ leBytes 8 k.first ++ leBytes 8 k.last ++
  leBytes 4 (k.reporters + b2n k.again * 2 ^ 16 + b2n k.basinRep * 2 ^ 17) ++ leBytes 4 k.repMap.toNat ++ leBytes 4 k.w20 ++
  leBytes 4 k.w24 ++ leBytes 4 (match k.ctx with | some c => c.val + 2 ^ 12 | none => 0) ++ leBytes 4 k.seqId ++
  leBytes 4 k.d1 ++ leBytes 4 k.d2 ++ leBytes 4 k.action ++ leBytes 4 0

-- Keys ---------------------------------------------------------------------------------------------------------------

def aggNow (e : Env) : Nat := blockTicks e.time .aggregator

/-- The key of AGG_OVERFLOW, which stands apart from the 256 (R378). -/
def overKey : ErrKey := { code := 0x0802, w20 := 14 * 2 ^ 21, w24 := 8 }

/-- Keys that count against the 256 (R378). -/
def Agg.openKeys (a : Agg) : Nat := (a.keys.filter (fun k => k.key ≠ overKey)).length

/-- A report joins its key, opening it where it is new. -/
def Agg.join (a : Agg) (key : ErrKey) (r : Report) (w : Nat × Nat) (now : Nat) : Agg :=
  if a.keys.any (fun k => k.key = key) then
    { a with keys := a.keys.map (fun k =>
        if k.key = key then { k with rcd := some (match k.rcd with | some q => q.merge r | none => openRec r w k.hold) } else k) }
  else { a with keys := a.keys ++ [{ key := key, rcd := some (openRec r w false), hold := false, since := now }] }

/-- ERROR_REPORT (R375, R376, R378): the oldest report that a detector holds is accepted. -/
def acceptReport (a : Agg) (d : Dev) (e : Env) : Agg × Dev :=
  match d.fab.reports with
  | [] => (a, d)
  | r :: rest =>
    let d := d.onFab (fun f => { f with reports := rest })
    let w := d.suspectWords r.suspect
    let key : ErrKey := { code := r.code, w20 := w.1, w24 := w.2 }
    if a.keys.any (fun k => k.key = key) || a.openKeys < 256 then (a.join key r w (aggNow e), d)
    else
      let o : Report := { code := 0x0802, suspect := .basinBlock 8, d1 := r.code, d2 := 0, ctx := none, action := 0, time := r.time }
      ({ a with overflows := satAdd 16 a.overflows 1 }.join overKey o (overKey.w20, overKey.w24) (aggNow e), d)

-- Site condition -----------------------------------------------------------------------------------------------------

/-- The spare site of a cluster. -/
def Dev.spareOf (d : Dev) (c : ClusterId) : Option SiteIx := (d.fab.cluster c).spare.map (fun s => siteIxOf c s.val)

/-- A site declared bad that carries no tile: a spare, or a site that lost its tile. -/
def Dev.declareBad (d : Dev) (x : SiteIx) (cause : Nat) : Dev :=
  let g := fun (s : ClusterSt) => { s with
    bad := s.bad ||| BitVec.ofNat 17 (2 ^ siteNo x), spare := if s.spare = some (siteFin x) then none else s.spare }
  let d := d.onFab (fun f => f.changeMap (siteCluster x) g)
  (d.markBad x cause).powerOff (domOf x)

/-- TILE_ABSENT (R396): the tile keeps no site, its model slots fail, a record is raised. -/
def Dev.tileAbsent (d : Dev) (e : Env) (t : TileId) (cause : Nat) : Dev :=
  match d.fab.siteOf t with
  | none => d
  | some x =>
    let g := fun (s : ClusterSt) => { s with siteOf := s.siteOf.set (tileFin t) none, bad := s.bad ||| BitVec.ofNat 17 (2 ^ siteNo x) }
    let d := d.onFab (fun f => { (f.changeMap (tileCluster t) g) with held := tset f.held [] t.val [] })
    let d := (d.markBad x cause).powerOff (domOf x)
    (d.failTiles e [t]).onFab (fun f => f.report e 0x0806 (.site x) 0 0 none 5)

-- Migration ----------------------------------------------------------------------------------------------------------

def Mig.active (m : Mig) : Bool := m.state == .copy || m.state == .cutover

def Dev.setMig (d : Dev) (h : HalfId) (m : Mig) : Dev := d.setLkk (fun k => { k with mig := k.mig.set h m })

/-- MIGRATION_START (R393 steps 1 and 2, R395): the spare is powered on; a tile whose site is dead and whose cluster has no spare
becomes absent. -/
def Dev.startMig (d : Dev) (e : Env) (t : TileId) (dead : Bool) (cause : Nat) : Dev :=
  match d.fab.siteOf t with
  | none => d
  | some a =>
    let h := tileHalf t
    let m := d.lkk.mig[h]
    if m.active && m.tile = t then
      -- Table Errors-10: the old site dies during the copy
      if dead && a = m.src && m.state = .copy then (d.setMig h { m with dead := true }).parityFaults [t] else d
    else if m.active then
      if d.lkk.migWait.any (fun p => p.1 = t) then d else d.setLkk (fun k => { k with migWait := k.migWait ++ [(t, dead, cause)] })
    else
      match d.spareOf (tileCluster t) with
      | none => if dead then d.tileAbsent e t cause else d
      | some s =>
        let d := d.setMig h { Mig.init with state := .copy, tile := t, src := a, dst := s, dead := dead, cause := cause }
        let d := d.powerOn (domOf s)
        if dead then d.parityFaults [t] else d

/-- The next migration of a half that waits begins (R393). -/
def Dev.nextMig (d : Dev) (e : Env) (h : HalfId) : Dev :=
  match d.lkk.migWait.find? (fun p => tileHalf p.1 = h) with
  | some p => (d.setLkk (fun k => { k with migWait := k.migWait.erase p })).startMig e p.1 p.2.1 p.2.2
  | none => d

/-- Where no migration of a half is under way, the next one begins. -/
def Dev.nextMigs (d : Dev) (e : Env) : Dev :=
  bothHalves.foldl (fun d (h : HalfId) => if d.lkk.mig[h].active || !d.outOfReset h || d.fab.fenced[h] then d else d.nextMig e h) d

/-- The contents of a column as the copy writes them at the spare (R394): sectors corrected where they can be, poison records unchanged,
and poison with cause UNCORRECTABLE for outcome 5. -/
def copyColumn (e : Env) (src dst : Column) (t : TileId) (free : Nat) : Column :=
  let rows := src.listedRows
  let base : Column := dst.fillRows src.fill
  rows.foldl (fun c ri =>
    ((src.readRow ri free []).zipIdx).foldl (fun c p =>
      let r := p.1
      if r.outcome = 5 then c.putSector (16 * ri + p.2) (poisonRec .uncorrectable t.val 2 (nowNs e.time)) true
      else c.putSector (16 * ri + p.2) r.data r.poison) c) base

/-- R393 steps 3 and 4 as they stand at their end: the spare's column holds every value that the old one holds. -/
def Dev.syncColumn (d : Dev) (e : Env) (m : Mig) : Dev :=
  d.onFab (fun f => f.setCol m.dst (copyColumn e (f.col m.src) (f.col m.dst) m.tile f.free))

/-- MIGRATION_DONE (R393 step 7): the old site is bad and powered off, the record MIGRATED is raised, the next migration begins. -/
def Dev.migDone (d : Dev) (e : Env) (h : HalfId) : Dev :=
  let m := d.lkk.mig[h]
  let d := d.markBad m.src m.cause
  let d := (d.setMig h { m with state := .done, copying := false }).powerOff (domOf m.src)
  let d := d.onFab (fun f => f.report e 0x0804 (.site m.src)
    ((siteHalf m.dst).val * 2 ^ 11 + sitePcl m.dst * 2 ^ 12 + siteNo m.dst * 2 ^ 16) (e.time.ticks - m.cutAt))
  d.nextMig e h

/-- MIG_FAILED (R397): the spare is bad; the tile stays at its site if that is alive, and becomes absent otherwise. -/
def Dev.migFails (d : Dev) (e : Env) (h : HalfId) (step : Nat) : Dev :=
  let m := d.lkk.mig[h]
  if !m.active then d else
  let d := match d.fab.cut[h] with
    | some c => (d.onFab (fun f => { f.setSite c.src (resumeStreams (f.site c.src)) with cut := f.cut.set h none })).onFab
        (fun f => f.deliverHeld e c.tile)
    | none => d
  let d := (d.setMig h { m with state := .failed, copying := false }).declareBad m.dst 0x0805
  let d := d.onFab (fun f => f.report e 0x0805 (.site m.dst) step 0 none (if m.dead then 5 else 4))
  let d := if m.dead then d.tileAbsent e m.tile m.cause else d
  d.nextMig e h

/-- The step of Table Errors-9 that a migration is at. -/
def Mig.step (m : Mig) : Nat := if m.state = .cutover then 5 else if m.copying then 3 else 2

/-- A site that latches while a migration brings it up or copies to it fails the migration (R397). -/
def Dev.spareLost (d : Dev) (e : Env) (i : DomainIx) : Dev :=
  match domSite i with
  | some x =>
    let m := d.lkk.mig[siteHalf x]
    if m.active && m.dst = x then d.migFails e (siteHalf x) m.step else d
  | none => d

/-- RAMP_FAULT (R344) and DOMAIN_SHORT (R345), each with what it does to a migration. -/
def Dev.rampLost (d : Dev) (e : Env) (i : DomainIx) (cur : Nat) : Dev :=
  if (d.dom i).state ≠ .ramping || (d.dom i).stage = 0 then d else (d.rampFault e i cur).spareLost e i
def Dev.shortLost (d : Dev) (e : Env) (i : DomainIx) (cur : Nat) : Dev :=
  if (d.dom i).state ≠ .on then d else (d.domainShort e i cur).spareLost e i

/-- SPARE_READY (R393 steps 2 and 3): the spare is ON and has run its tests. -/
def Dev.spareReady (d : Dev) (e : Env) (h : HalfId) (ok : Bool) : Dev :=
  let m := d.lkk.mig[h]
  if m.state ≠ .copy || m.copying then d
  else if !ok then d.migFails e h 2
  else if d.siteOn m.dst && (d.fab.site m.dst).ready then d.setMig h { m with copying := true, rows := 0 } else d

/-- COPY_SHARE, in eighths of the old site's slots. -/
def copyShare (e : Env) : Nat := clampN 1 8 (fld (e.reg 0x4420) 23 20)

/-- A slot of the old site's channel that the copy takes copies one row: at most COPY_SHARE of each eight, and all eight for a dead site
(R393 step 3, R395). -/
def Dev.copyRow (d : Dev) (e : Env) (x : SiteIx) : Dev :=
  let h := siteHalf x
  let m := d.lkk.mig[h]
  if m.state = .copy && m.copying && m.src = x && m.rows < rowsPerColumn then
    let took := if (d.fab.col x).slots % 8 = 1 then 0 else m.took
    if took < (if m.dead then 8 else copyShare e) then d.setMig h { m with rows := m.rows + 1, took := took + 1 }
    else d.setMig h { m with took := took }
  else d

/-- MIGRATION_COPY_COMPLETE (R393 step 5, R395): the cut-over begins, or for a dead site takes place. -/
def Dev.copyComplete (d : Dev) (e : Env) (h : HalfId) : Dev :=
  let m := d.lkk.mig[h]
  if m.state ≠ .copy || !m.copying then d else
  let m := { m with rows := rowsPerColumn, cutAt := e.time.ticks }
  let d := (d.setMig h m).syncColumn e m
  if m.mapped then (d.rewritePeers [m.tile]).migDone e h
  else if m.dead then
    let d := d.onFab (fun f => f.changeMap (tileCluster m.tile) (moveTile (tileFin m.tile) m.src m.dst))
    let d := d.rewritePeers [m.tile]
    (d.onFab (fun f => f.deliverHeld e m.tile)).migDone e h
  else (d.setMig h { m with state := .cutover }).onFab (fun f => f.beginCut m.tile m.src m.dst)

/-- STATE_COPY_COMPLETE (R66, R393 steps 6 and 7): with the state copied the site map moves the tile; the mirror has kept the spare's column
equal. -/
def Dev.stateCopied (d : Dev) (e : Env) (h : HalfId) : Dev :=
  match d.fab.cut[h] with
  | some c =>
    if c.phase = .copying then
      let m := d.lkk.mig[h]
      let d := if m.state = .cutover then d.syncColumn e m else d
      let d := d.onFab (fun f => f.stateCopied e h)
      if m.state = .cutover then d.migDone e h else d
    else d
  | none => d

/-- R392: the PF orders the migration of a tile whose cluster has a spare. -/
def Dev.migOrder (d : Dev) (e : Env) (t : TileId) : Dev := if (d.spareOf (tileCluster t)).isNone then d else d.startMig e t false 0

/-- What a piece of Lockkeeper's work does. -/
def Dev.doWork (d : Dev) (e : Env) (w : LkkWork) : Dev :=
  match w with
  | .migrate t => d.migOrder e t
  | .spare h ok => d.spareReady e h ok
  | .copied h => d.copyComplete e h
  | .stateCopied h => d.stateCopied e h
  | .prepare k force => d.prepare e k force
  | .cancel k => d.cancelCart e k
  | .checked k r => d.cartChecked e k r
  | .tier2 caps => d.t2Up caps

/-- Work for Lockkeeper: done at once while it runs, else it waits (R421). -/
def Dev.order (d : Dev) (e : Env) (w : LkkWork) : Dev :=
  if d.lkkRuns then d.doWork e w else d.setLkk (fun k => { k with work := k.work ++ [w] })

/-- Lockkeeper runs again and does the work that has waited. -/
def Dev.takeWork (d : Dev) (e : Env) : Dev :=
  if d.lkkRuns then d.lkk.work.foldl (fun d w => d.doWork e w) (d.setLkk (fun k => { k with work := [] })) else d

/-- BSN_MIG_CTRL (R392). -/
def Dev.migCtrl (d : Dev) (e : Env) (f : FuncId) (v : Word) : Dev :=
  if f ≠ 0 || !v.getLsbD 31 then d else d.order e (.migrate ⟨fld v.toNat 8 0 % 512, Nat.mod_lt _ (by decide)⟩)

-- Treatment ----------------------------------------------------------------------------------------------------------

def autoMig (e : Env) : Bool := bit (e.reg 0x4420) 31

/-- A migration of the tile is under way, waits, or is to restart. -/
def Dev.migrating (d : Dev) (t : TileId) : Bool :=
  let m := d.lkk.mig[tileHalf t]
  (m.active && m.tile == t) || d.lkk.migWait.any (fun p => p.1 = t) || d.lkk.migHeld.any (fun p => p.1 = t)

/-- A tile that must leave its live site: migrated where there is a spare. ACTION 3, or 0 where it stays or is migrating already. -/
def Dev.treatAlive (d : Dev) (e : Env) (x : SiteIx) (cause : Nat) : Dev × Nat :=
  match d.fab.tileOf x with
  | some t => if autoMig e && (d.spareOf (siteCluster x)).isSome && !d.migrating t then (d.startMig e t false cause, 3) else (d, 0)
  | none => (d, 0)

/-- Table Errors-8: Lockkeeper's treatment of a record, with the ACTION it carries. -/
def Dev.treat (d : Dev) (e : Env) (k : ErrRec) : Dev × Nat :=
  let site : Option SiteIx := match k.suspect with
    | .site x => some x
    | .dram x _ _ => some x
    | .dramSpare x _ _ => some x
    | .tsvLane x _ _ _ => some x
    | _ => none
  if k.code = 0x0102 || k.code = 0x0203 || k.code = 0x0502 then
    match site with | some x => d.treatAlive e x k.code | none => (d, k.action)
  else if k.code = 0x0103 then
    match site with
    | some x =>
      match d.fab.tileOf x with
      | some t =>
        if !autoMig e || d.migrating t then (d, 0)
        else if (d.spareOf (siteCluster x)).isSome then (d.startMig e t false k.code, 3)
        else (d.tileAbsent e t k.code, 5)
      | none =>
        let m := d.lkk.mig[siteHalf x]
        if m.active && m.dst = x then (d.migFails e (siteHalf x) m.step, 4) else (d.declareBad x k.code, 4)
    | none => (d, k.action)
  else if k.code = 0x0104 then
    match site with
    | some x =>
      match d.fab.tileOf x with
      | some t => if (d.spareOf (siteCluster x)).isSome then (d.startMig e t true k.code, 3) else (d.startMig e t true k.code, 5)
      | none => (d.declareBad x k.code, 4)
    | none => (d, k.action)
  else if k.code = 0x0401 then
    match k.suspect with
    | .bank h n =>
      if n < 16 then
        let c := siteCluster (siteOfNat (272 * h.val + 17 * n))
        ((List.finRange 16).foldl (fun d i => d.tileAbsent e ⟨16 * c.val + i.val, by omega⟩ k.code) d, 5)
      else (d.orderReset e 2 h.val 2 false, 6)
    | _ => (d, k.action)
  else if k.code = 0x0306 then
    match k.suspect with
    | .half h => ((d.fenceHalf e h .mesh).orderReset e 2 h.val 3 false, 6)
    | _ => (d, k.action)
  else if k.code = 0x0101 && k.action = 0 then
    match site with
    | some x =>
      if d.fab.acted.contains (.site x) then (d.onFab (fun f => { f with acted := f.acted.erase (.site x) }), 1) else (d, 0)
    | none => (d, 0)
  else if k.code = 0x0303 then
    match k.suspect with
    | .half h => (d.abandonMig (fun c => clusterHalf c = h && d.fab.fenced[h]), k.action)
    | _ => (d, k.action)
  else if k.code = 0x0202 || k.code = 0x0403 then (d, 2)
  else (d, k.action)

-- Commit -------------------------------------------------------------------------------------------------------------

/-- The oldest event goes to the board management controller with the count of those dropped, and waits for its acknowledgement. -/
def Dev.sendEvent (d : Dev) : Dev :=
  match d.lkk.events with
  | p :: _ =>
    if d.lkk.evSent || d.thm.sideLost then d
    else (d.setLkk (fun k => { k with evSent := true, dropped := 0 })).send (.mgmt .i3c (.event p.2 (Nat.min 255 d.lkk.dropped)))
  | [] => d

/-- A PLDM event queued (R441): in a full queue it takes the place of the oldest of lower severity, or is dropped. -/
def Dev.pldmEvent (d : Dev) (sev : Nat) (bytes : List Byte) : Dev :=
  let q := d.lkk.events
  if q.length < 64 then (d.setLkk (fun k => { k with events := q ++ [(sev, bytes)] })).sendEvent
  else
    match q.find? (fun p => p.1 < sev) with
    | some p =>
      (d.setLkk (fun k => { k with
        events := q.erase p ++ [(sev, bytes)], dropped := k.dropped + 1, evSent := k.evSent && q.head? != some p })).sendEvent
    | none => d.setLkk (fun k => { k with dropped := k.dropped + 1 })

/-- The component that a Basin block of Table Errors-3 runs; 0 for none. -/
def blockComp (n : Nat) : Nat :=
  match n with
  | 3 => 4
  | 4 => 3
  | 6 => 1
  | 7 => 10
  | 9 => 5
  | 12 => 2
  | _ => 0

/-- R416: a fault record against a component in its trial ends the trial. -/
def Dev.trialRecord (d : Dev) (k : ErrRec) : Dev :=
  match k.suspect, d.lkk.trial with
  | .basinBlock n, some t => if t.comps.contains (blockComp n) then d.failTrial else d
  | _, _ => d

/-- PROD − CONS. -/
def Agg.used (a : Agg) : Nat := (a.prod + 65536 - a.cons) % 65536

/-- The slot of the oldest unconsumed record of severity 0 or 1 (R383). -/
def Agg.oldestLow (a : Agg) : Option Nat :=
  let slots := (List.range a.used).map (fun i => (a.cons + i) % 1024)
  let low := slots.filterMap (fun s => match tget a.log none s with
    | some r => if errSev r.code ≤ 1 then some (s, (a.rid + 2 ^ 32 - r.rid) % 2 ^ 32) else none
    | none => none)
  (low.foldl (fun (b : Option (Nat × Nat)) p => match b with
    | some q => if q.2 < p.2 then some p else some q
    | none => some p) none).map (·.1)

/-- A record written to the log, or dropped and counted (R383). -/
def Agg.write (a : Agg) (k : ErrRec) : Agg :=
  if a.used < 1024 then { a with log := tput a.log (a.prod % 1024) (some k), prod := (a.prod + 1) % 65536 }
  else
    let a := { a with logLost := satAdd 16 a.logLost 1 }
    if errSev k.code < 2 then a
    else match a.oldestLow with
      | some s => { a with log := tput a.log s (some k) }
      | none => a

/-- RECORD_COMMIT (R380, R383, R384): the record takes the next RID, goes to the log, to the PF's vector, to its context, to the BMC and to
Lockkeeper. -/
def commit (a : Agg) (d : Dev) (e : Env) (k : ErrRec) : Agg × Dev :=
  let (d, action) := if d.lkkRuns then (d.trialRecord k).treat e k else (d, k.action)
  let k := { k with rid := a.rid, action := action }
  let a := if d.lkkRuns then a else { a with later := a.later ++ [k] }
  let a := { a.write k with rid := (a.rid + 1) % 2 ^ 32 }
  let sev := errSev k.code
  let cfg := e.reg 0x4400
  let d := if bit cfg 31 && Nat.min 4 (fld cfg 30 28) ≤ sev then d.msix 0 (fld cfg 10 0) else d
  let d := match k.ctx with
    | some c => d.event e c 0x07 sev k.rid
    | none => d
  let d := if 2 ≤ sev then d.pldmEvent sev k.bytes else d
  let d := if sev = 4 then (d.setLkk (fun l => { l with faultN := false, faultHeld := true })).send (.pin .faultN false) else d
  (a, d)

/-- Lockkeeper runs again and takes the records logged meanwhile, in RID order (R419, R422). -/
def takeLater (a : Agg) (d : Dev) (e : Env) : Agg × Dev :=
  ({ a with later := [] }, a.later.foldl (fun d k => ((d.trialRecord k).treat e k).1) d)

/-- HOLDOFF in ticks. -/
def holdOff (e : Env) : Nat := 10000 * Nat.max 1 (fld (e.reg 0x4400) 23 16)

/-- The aggregator times from its own oscillator while its ticks are lost (R379). -/
def aggElapsed (e : Env) (since n : Nat) : Bool := e.time.lost.contains .aggregator || since + n ≤ aggNow e

/-- COLLAPSE_WINDOW_CLOSE (R376, R377): at the tenth tick the record of a key is committed, and its hold-off begins. -/
def windowClose (a : Agg) (d : Dev) (e : Env) (key : ErrKey) : Agg × Dev :=
  match a.keys.find? (fun k => k.key = key && !k.hold) with
  | some k =>
    if !aggElapsed e k.since 10 then (a, d) else
    match k.rcd with
    | some r =>
      let a := { a with keys := a.keys.map (fun q => if q.key = key then { q with rcd := none, hold := true, since := aggNow e } else q) }
      commit a d e r
    | none => (a, d)
  | none => (a, d)

/-- HOLDOFF_END (R377): a pending repeat record is committed and a new hold-off begins, or the key is released. -/
def holdOffEnd (a : Agg) (d : Dev) (e : Env) (key : ErrKey) : Agg × Dev :=
  match a.keys.find? (fun k => k.key = key && k.hold) with
  | some k =>
    if !aggElapsed e k.since (holdOff e) then (a, d) else
    match k.rcd with
    | some r =>
      let a := { a with keys := a.keys.map (fun q => if q.key = key then { q with rcd := none, since := aggNow e } else q) }
      commit a d e { r with again := true }
    | none => ({ a with keys := a.keys.filter (fun q => q.key ≠ key) }, d)
  | none => (a, d)

/-- BSN_ERR_CONS (R383): a write that makes PROD − CONS exceed 1,024 is discarded. -/
def Agg.consume (a : Agg) (f : FuncId) (v : Word) : Agg :=
  let c := fld v.toNat 15 0
  if f ≠ 0 || 1024 < (a.prod + 65536 - c) % 65536 then a else { a with cons := c }

/-- BSN_ERR_CNT (R91). -/
def readErrCnt (a : Agg) (d : Dev) (f : FuncId) : Agg × Dev :=
  if f = 0 then ({ a with logLost := 0, overflows := 0 }, d.send (.regValue (a.logLost * 2 ^ 16 + a.overflows)))
  else (a, d.send (.regValue 0))

-- Self-test ----------------------------------------------------------------------------------------------------------

/-- TILE_SELFTEST (R389, R390): a bound tile between launches, every SELFTEST_H; a failed test is run once more. -/
def Dev.tileSelfTest (d : Dev) (e : Env) (t : TileId) (pass1 pass2 : Bool) : Dev :=
  match d.fab.siteOf t with
  | none => d
  | some x =>
    let due := elapsed e.time .lockkeeper (tget d.lkk.testAt 0 t.val) (3600000000 * fld (e.reg 0x4420) 15 0)
    let idle := allStreams.all (fun s => let v := (d.fab.site x).stream s; v.state == .idle || v.state == .faulted)
    if fld (e.reg 0x4420) 15 0 = 0 || !due || !d.boundTiles.contains t || !(d.fab.site x).ready || !idle then d else
    let d := d.setLkk (fun k => { k with testAt := tput k.testAt t.val (blockTicks e.time .lockkeeper) })
    if pass1 then d
    else if pass2 then d.onFab (fun f => f.report e 0x0102 (.site x) 390 0)
    else d.onFab (fun f => f.report e 0x0103 (.site x) (f.freeNat 4) 0)

-- The repair record --------------------------------------------------------------------------------------------------

/-- What the record should hold now (R399). -/
def Dev.repairBody (d : Dev) : RepairBody :=
  let runTime := fun (t : Tab Word) => t.filter (fun p => p.2.getLsbD 31 && p.2.getLsbD 30)
  let cols := d.fab.cols.map (fun p => (siteOfNat p.1, p.2))
  { bad := d.lkk.bad, causes := d.lkk.causes
    rows := cols.flatMap (fun p => (runTime p.2.rowRep).map (fun q => (p.1, q.1, q.2)))
    cols := cols.flatMap (fun p => (runTime p.2.colRep).map (fun q => (p.1, q.1, q.2)))
    lanes := cols.flatMap (fun p => p.2.lanes.filterMap (fun q => q.2.map (fun l => (p.1, q.1, l))))
    spares := cols.filterMap (fun p => if p.2.badRows.isEmpty && p.2.badCols.isEmpty then none else some (p.1, p.2.badRows, p.2.badCols))
    ceil := d.pwr.ceil, age := d.pwr.age
    suspects := (allSites.flatMap colSensors).filter (fun s => (d.sen s).suspect)
    blind := d.thm.blind, trip := d.thm.trip
    bond := d.pwr.cls.filterMap (fun p => if p.2.bond = 0 then none else some (p.1, p.2.bond)) }

/-- REPAIR_RECORD_WRITE and REPAIR_RECORD_RETRY (R400): the older copy is written first; `ok1` and `ok2` say whether each passes its
write-back verification, tried twice. With both failed RECORD_STALE is raised. -/
def Dev.writeRecord (d : Dev) (e : Env) (ok1 ok2 : Bool) : Dev :=
  let k := d.lkk
  let body := d.repairBody
  let g := Nat.max k.copyA.gen k.copyB.gen + 1
  let new := fun (ok : Bool) => ({ gen := g, ok := ok, body := body } : RecCopy)
  let aFirst := !k.copyA.ok || (k.copyB.ok && k.copyA.gen ≤ k.copyB.gen)
  let okA := if aFirst then ok1 else ok2
  let okB := if aFirst then ok2 else ok1
  let d := d.setLkk (fun k => { k with
    copyA := new okA, copyB := new okB, genNow := if okA || okB then g else k.genNow
    written := if okA || okB then body else k.written, stale := !(okA || okB), recAt := blockTicks e.time .lockkeeper })
  if okA || okB || k.stale then d else d.onFab (fun f => f.report e 0x0803 (.basinBlock 6) 2 0)

def Dev.recordWrite (d : Dev) (e : Env) (ok1 ok2 : Bool) : Dev :=
  if !d.lkkRuns || d.lkk.stale || d.repairBody = d.lkk.written then d else d.writeRecord e ok1 ok2
def Dev.recordRetry (d : Dev) (e : Env) (ok1 ok2 : Bool) : Dev :=
  if !d.lkkRuns || !d.lkk.stale || !elapsed e.time .lockkeeper d.lkk.recAt 600000000 then d else d.writeRecord e ok1 ok2

end Sys2Proof.Machine
end

