-- ==== Sys2Proof/Machine/SecState.lean ====
section
/-! DEFINITION. State of the security block (chapter "Trust, attestation, tamper and out-of-band management"). -/

namespace Sys2Proof.Machine

/-- An SPDM session: its number, its transport, whether FINISH has completed it, and the tick of its last message. -/
structure Session where
  id : Nat
  via : MctpBinding
  open_ : Bool
  last : Nat
  /-- key generation, advanced by KEY_UPDATE -/
  keys : Nat
deriving DecidableEq, Repr

/-- The security block. Measurements 1–11 are digests; 16–31 are the 12 raw bytes of a model slot. -/
structure Sec where
  lock : Bool
  level : Nat
  erased : Bool
  timebaseLost : Bool
  sources : BitVec 6
  /-- sources that acted at level 3 -/
  level3 : BitVec 6
  count : Nat
  sessions : List Session
  nextSession : Nat
  /-- no new session before this tick (level 2) -/
  barUntil : Nat
  /-- the SEC firmware restarts until this tick (R432) -/
  restartUntil : Nat
  meas : Tab Nat
  /-- the update log, measurement 13: what has been folded into its digest, as (component, digest) -/
  updates : List (Nat × BitVec 384)
  floors : Tab Nat
  /-- derivations of AK since the cold reset -/
  akGen : Nat
deriving DecidableEq, Repr

def Sec.init : Sec :=
  { lock := false, level := 0, erased := false, timebaseLost := false, sources := 0, level3 := 0, count := 0, sessions := [],
    nextSession := 0, barUntil := 0, restartUntil := 0, meas := [], updates := [], floors := [], akGen := 0 }

end Sys2Proof.Machine
end

