-- ==== Sys2Proof/Machine/State.lean ====
section
/-! DEFINITION. The state of the block: the queue of commands that wait, the always-on time, the fuse map, the security block, the error
aggregator, and every other part of the device; its state after reset; faults and refusals. -/

namespace Sys2Proof.Machine

/-- Faults of the model. No command ends in one: where the manual describes an error, the error is the command's effect on the
state. -/
inductive Fault where
deriving DecidableEq, Repr

/-- Refusals of the model. -/
inductive Refusal where
  /-- Raised by `exec` for a command without a meaning; safe. -/
  | notModelled (mnemonic : String)
deriving DecidableEq, Repr

/-- The state of the block. -/
structure State where
  /-- commands that wait, first in, first out -/
  pending : List Instr
  time : Time
  /-- the fuse map: written at manufacture, changed by no command (R405) -/
  fuse : Fuses
  sec : Sec
  agg : Agg
  d : Dev
deriving DecidableEq, Repr

/-- The machine right after a cold reset: VAON in tolerance, and nothing else come up (Table Bringup-1 step 1). -/
def State.reset : State :=
  { pending := [], time := Time.init, fuse := Fuses.plain, sec := Sec.init, agg := Agg.init
    d := { Dev.init with pwr := { PwrSt.init with vaon := true } } }

end Sys2Proof.Machine
end

