-- ==== Sys2Proof/Machine/Bringup.lean ====
section
/-! DEFINITION. Power-on, cold reset, loss and return of rails and clocks, code broadcasts, and the Towpath registers (chapters
"Bring-up, partial resets and live update", "Lands, rails, sideband signals and mechanical interface", "Setup register map"). -/

namespace Sys2Proof.Machine

-- Cold reset ---------------------------------------------------------------------------------------------------------

/-- A component after a cold reset: the boot slot is active (R417). -/
def Comp.boot (c : Comp) : Comp := { c with activeB := c.bootB, staged := c.staged || c.trial, trial := false, staging := false }

/-- The parts of the device after a cold reset (R408): what the module keeps, and what lies outside it. With VAON held the trip record and
the suspect marks stay (R372). -/
def Dev.cold (d : Dev) (held : Bool) (now : Nat) : Dev :=
  let k := d.lkk
  let lkk := { Lkk.init with comps := k.comps.map (fun p => (p.1, p.2.boot)), copyA := k.copyA, copyB := k.copyB, written := k.written
                             lastLevel := 5, lastCause := if held then 1 else 5 }
  let sens := if held then d.thm.sens.filterMap (fun p => if p.2.suspect then some (p.1, { SenSt.init with suspect := true }) else none) else []
  { Dev.init with
    fab := { Fabric.init with free := d.fab.free }
    host := { HostSt.init with perst := d.host.perst }
    lnk := { LinkAll.init with links := d.lnk.links.map (fun (l : LinkSt) => { LinkSt.init with clockLost := l.clockLost })
                               trunkOk := d.lnk.trunkOk, t2 := { T2St.init with clock := d.lnk.t2.clock } }
    net := { Net.init with ports := d.net.ports.map (fun (p : Port) => { Port.init with clkLost := p.clkLost })
                           cartClkLost := d.net.cartClkLost, ptp := { PtpSt.init with clkLost := d.net.ptp.clkLost } }
    pwr := { PwrSt.init with vaon := true, vin := d.pwr.vin, vphy := d.pwr.vphy, vbsn := false }
    thm := { Therm.init with trip := if held then d.thm.trip else none, sens := sens, startAt := now, sideLost := d.thm.sideLost }
    lkk := lkk
    out := d.out ++ [.pin .faultN false, .pin .thermtripN true] }

/-- The security block after a cold reset (R443): counts and floors stay, and the bits of sources that acted at level 3. -/
def Sec.cold (s : Sec) : Sec :=
  { Sec.init with count := s.count, floors := s.floors, sources := s.level3, level3 := s.level3, timebaseLost := s.timebaseLost }

/-- The aggregator after a cold reset: the log stays while VAON holds (R383), with RID, PROD and CONS. -/
def Agg.cold (a : Agg) (held : Bool) : Agg :=
  if held then { Agg.init with log := a.log, rid := a.rid, prod := a.prod, cons := a.cons } else Agg.init

/-- A cold reset. -/
def State.cold (s : State) (held : Bool) : State :=
  { s with
    time := if held then s.time else { Time.init with lost := s.time.lost }
    sec := s.sec.cold, agg := s.agg.cold held, d := s.d.cold held (if held then s.time.ticks else 0) }

/-- BOOT_FALLBACK (R417, R427): a component that fails three times boots from its other slot, if that image passes. -/
def Lkk.bootFails (k : Lkk) (fails other : List Nat) : Lkk :=
  fails.foldl (fun k n =>
    let c := tget k.comps (Comp.factory n) n
    let there := (if c.bootB then c.a else c.b).isSome
    if there && !other.contains n then { k with comps := tput k.comps n { c with activeB := !c.bootB }, fallback := true }
    else { k with faultHeld := true }) k

/-- VAON_UP (R403 steps 1 to 4): VAON rises; every state not kept is at its reset value. -/
def State.vaonUp (s : State) (b : BootIn) : State :=
  if s.d.pwr.vaon && s.d.lkk.bootStage ≠ 0 then s else
  let s := s.cold false
  { s with d := s.d.setLkk (fun k => k.bootFails b.bootFails b.otherFails) }

/-- The digest of the active image of a component. -/
def Dev.digestOf (d : Dev) (n : Nat) : Nat := match (d.comp n).active with | some i => i.digest.toNat | none => 0

/-- Measurements of images taken (R428): index and component. -/
def Sec.measure (s : Sec) (d : Dev) (l : List (Nat × Nat)) : Sec :=
  { s with meas := l.foldl (fun t p => tput t p.1 (d.digestOf p.2)) s.meas }

/-- The copy of the repair record in use: valid, with the higher generation (R401). -/
def Lkk.record (k : Lkk) : Option RecCopy :=
  if k.copyA.ok && k.copyB.ok then some (if k.copyA.gen < k.copyB.gen then k.copyB else k.copyA)
  else if k.copyA.ok then some k.copyA else if k.copyB.ok then some k.copyB else none

/-- What the repair record adds to the fuse map (R401, R406). -/
def Dev.applyRecord (d : Dev) (b : RepairBody) : Dev :=
  let d := { d with
    pwr := { d.pwr with ceil := b.ceil, age := b.age, cls := b.bond.foldl (fun t p =>
      tput t p.1 { tget t ClPower.init p.1 with bond := p.2, bondTold := p.2 }) d.pwr.cls }
    thm := { d.thm with blind := b.blind }
    lkk := { d.lkk with bad := b.bad, causes := b.causes, written := b } }
  let d := b.suspects.foldl (fun d s => d.setSen s { d.sen s with suspect := true }) d
  let d := b.spares.foldl (fun d r => d.onFab (fun f => f.setCol r.1 { f.col r.1 with badRows := r.2.1, badCols := r.2.2 })) d
  let d := b.rows.foldl (fun d r => d.onFab (fun f => f.setCol r.1 { f.col r.1 with rowRep := tput (f.col r.1).rowRep r.2.1 r.2.2 })) d
  let d := b.cols.foldl (fun d r => d.onFab (fun f => f.setCol r.1 { f.col r.1 with colRep := tput (f.col r.1).colRep r.2.1 r.2.2 })) d
  b.lanes.foldl (fun d r => d.onFab (fun f => f.setCol r.1 { f.col r.1 with lanes := tput (f.col r.1).lanes r.2.1 (some r.2.2) })) d

/-- LOCKKEEPER_BOOT_DONE (R403 steps 4 to 6, R405, R401): with no valid fuse map Lockkeeper stops, and FAULT_N stays low. -/
def State.lkkBooted (s : State) (e : Env) (b : BootIn) : State :=
  if !s.d.pwr.vaon || s.d.lkk.bootStage ≠ 0 then s
  else if !b.fuse0 && !b.fuse1 then { s with d := s.d.setLkk (fun k => { k with bootStage := 0x1F }) }
  else
    let d := s.d.setLkk (fun k => { k.bootFails b.bootFails b.otherFails with
      copyA := { k.copyA with ok := k.copyA.ok && b.recA }, copyB := { k.copyB with ok := k.copyB.ok && b.recB } })
    let d := match d.lkk.record with
      | some c => (d.applyRecord c.body).setLkk (fun k => { k with genNow := c.gen })
      | none => d.onFab (fun f => f.report e 0x0803 (.basinBlock 6) 2 0)
    let d := d.setLkk (fun k => { k with bootStage := 6, faultN := !k.faultHeld })
    { s with d := d.send (.pin .faultN d.lkk.faultN)
             sec := { s.sec.measure d [(1, 10), (3, 1), (4, 2)] with akGen := s.sec.akGen + 1 } }

def Dev.booted (d : Dev) : Bool := 5 ≤ d.lkk.bootStage && d.lkk.bootStage ≠ 0x1F

/-- A half whose VIN is in tolerance starts its R-layer (Table Power-8 steps 1 and 2) once the Basin core is out of reset; the controller has
the image in force in its code bank (R407). -/
def Dev.startHalf (d : Dev) (h : HalfId) : Dev :=
  if d.pwr.vin[h] && d.lkk.basinUp && !d.thm.tripped && d.bankSt h 16 == .off then
    (d.setLkk (fun k => { k with rlayer := tput k.rlayer h.val { bank := 0, a := d.codeOf 7, b := 0 } })).setBank h 16 .starting
  else d

/-- BASIN_RAILS_UP (R403 step 9, R452): the main rails are in tolerance, the Basin core leaves reset. When they return after a loss while
VAON held, a cold reset comes first. -/
def State.basinRails (s : State) : State :=
  if s.d.pwr.vbsnLost || s.d.thm.tripped then
    let s := s.cold true
    { s with d := s.d.setLkk (fun k => { k with lastCause := 5 }) }
  else if !s.d.booted || s.d.lkk.basinUp then s
  else
    let d := { s.d with pwr := { s.d.pwr with vbsn := true, vphy := true }, lkk := { s.d.lkk with basinUp := true } }
    { s with d := bothHalves.foldl Dev.startHalf d, sec := s.sec.measure d [(5, 3), (6, 4), (7, 5), (8, 9)] }

/-- VIN_UP (R357, R403 step 11). -/
def State.vinUp (s : State) (h : HalfId) : State :=
  let d := ({ s.d with pwr := { s.d.pwr with vin := s.d.pwr.vin.set h true } }).startHalf h
  { s with d := d, sec := if d.lkk.basinUp then s.sec.measure d [(9, 7), (10, 8), (11, 6)] else s.sec }

/-- PERST_N_DEASSERT (R403 step 10, R404): the host link trains. -/
def Dev.perstDeassert (d : Dev) : Dev :=
  { d with host := { d.host with perst := false, linkUp := d.lkk.basinUp || d.host.linkUp } }

-- The topology -------------------------------------------------------------------------------------------------------

/-- R15, Table Stack-10 step 2: the lowest-numbered working sites take logical tiles 0–15, the one that remains is the spare. -/
def siteMapFor (bad : Fin 17 → Bool) (s : ClusterSt) : ClusterSt :=
  let ok := (List.finRange 17).filter (fun i => !bad i)
  { s with
    siteOf := Vector.ofFn (fun (i : Fin 16) => ok[i.val]?), spare := ok[16]?
    bad := (List.finRange 17).foldl (fun (m : BitVec 17) i => if bad i then m ||| BitVec.ofNat 17 (2 ^ i.val) else m) 0 }

/-- R201: a column that cannot train makes its site bad. Before the site maps are written they leave it out; afterwards its tile leaves it as
it leaves a dead site. -/
def Dev.columnUnusable (d : Dev) (e : Env) (x : SiteIx) : Dev :=
  if (d.fab.col x).phase ≠ .unusable || !d.fab.mapWritten then d else
  match d.fab.tileOf x with
  | some t => d.startMig e t true 0x0103
  | none => d.declareBad x 0x0103

/-- The half is through Table DRAM-12. -/
def Dev.columnsUp (d : Dev) (h : HalfId) : Bool :=
  d.railsUp h && (allSites.filter (fun x => siteHalf x = h)).all (fun x => (d.fab.col x).phase == .ready || (d.fab.col x).phase == .unusable)

/-- TOPOLOGY_SET (R403 steps 13 and 14, Table Stack-10 steps 2 to 4): once the columns are up the site maps are written as one change per
cluster and MAP_VALID is set; the cluster banks of the half start. Site maps in force stay (R401). -/
def Dev.setTopology (d : Dev) (e : Env) : Dev :=
  let hs := bothHalves.filter d.columnsUp
  if hs.isEmpty || !d.lkkRuns then d else
  let d := if d.fab.mapValid then d else if d.fab.mapWritten then d.onFab (fun f => { f with mapValid := true }) else
    let bad := fun (c : ClusterId) (i : Fin 17) =>
      let x := siteIxOf c i.val
      e.fuse.badSites.contains x || d.lkk.bad.contains x || (d.fab.col x).phase == .unusable
    let d := allClusters.foldl (fun d c => d.onFab (fun f => f.writeMap c (siteMapFor (bad c)))) d
    let d := e.fuse.meshLanes.foldl (fun d m => d.onFab (fun f => f.setCluster m.1 { f.cluster m.1 with
      laneFails := (f.cluster m.1).laneFails.set (m.2.1 % 4) ((f.cluster m.1).laneFails[m.2.1 % 4]'(Nat.mod_lt _ (by decide)) + 1) (Nat.mod_lt _ (by decide)) })) d
    d.onFab (fun f => { f with mapValid := true, mapWritten := true })
  let d := hs.foldl (fun d h => if d.pwr.ctl[h] then d else d.startBanks h) d
  d.setLkk (fun k => { k with bootStage := Nat.max 13 k.bootStage })

-- Code broadcasts ----------------------------------------------------------------------------------------------------

/-- A key of the retries of a node: kind and site. -/
def nodeKey (n : CodeNodes) (x : Nat) : Nat := match n with | .tile _ => 3 * x | .chroot _ => 3 * x + 1 | .rlayer _ => 3 * x + 2
def nodesHalf : CodeNodes → HalfId | .tile h => h | .chroot h => h | .rlayer h => h
/-- The image that a broadcast carries to a node that runs: one staged, else the one in force. -/
def Dev.codeFor (d : Dev) (comp : Nat) : Nat :=
  let c := d.comp comp
  match (if c.staged then (if c.activeB then c.a else c.b) else c.active) with
  | some i => i.version + 1
  | none => 0

/-- Code written into the inactive bank: `new`. A node whose bank in use is empty, after a reset, gets the image in force there instead (R407). -/
def CodeBanks.load (b : CodeBanks) (force new : Nat) : CodeBanks :=
  let here := if b.bank = 0 then b.a else b.b
  let v := if here = 0 then force else new
  if (here = 0) = (b.bank = 0) then { b with a := v } else { b with b := v }
def Site.loadCode (s : Site) (force new : Nat) : Site :=
  let b := CodeBanks.load { bank := s.bank, a := s.code.1, b := s.code.2 } force new
  { s with code := (b.a, b.b) }

/-- One node takes the image. -/
def Dev.loadNode (d : Dev) (n : CodeNodes) (x : SiteIx) : Dev :=
  match n with
  | .tile _ => if d.siteOn x then d.onFab (fun f => f.setSite x ((f.site x).loadCode (d.codeOf 6) (d.codeFor 6))) else d
  | .chroot _ => d.setLkk (fun k => { k with chroot := tmod k.chroot CodeBanks.init x.val (fun b => b.load (d.codeOf 8) (d.codeFor 8)) })
  | .rlayer h => d.setLkk (fun k => { k with rlayer := tmod k.rlayer CodeBanks.init h.val (fun b => b.load (d.codeOf 7) (d.codeFor 7)) })

/-- MICROCODE_BROADCAST (R407): the image goes to every addressed node; those of `bad` do not answer the CHECK with its CRC. -/
def Dev.broadcast (d : Dev) (n : CodeNodes) (bad : List SiteIx) : Dev :=
  if !d.lkkRuns || d.lkk.shed = 3 then d else
  let nodes : List SiteIx := match n with
    | .rlayer h => [siteOfNat (272 * h.val)]
    | _ => allSites.filter (fun x => siteHalf x = nodesHalf n)
  let d := match n with
    | .tile _ => d.setLkk (fun k => { k with bootStage := if 13 ≤ k.bootStage && k.bootStage != 0x1F then 15 else k.bootStage })
    | _ => d
  nodes.foldl (fun d x =>
    if bad.contains x || !d.towUp (nodesHalf n) then d.setLkk (fun k => { k with retries := tput k.retries (nodeKey n x.val) 3 }) else d.loadNode n x) d

/-- CHECK_TIMEOUT (R407): the image is sent again by unicast, up to three times; a node that still fails is reported. -/
def Dev.checkAgain (d : Dev) (e : Env) (n : CodeNodes) (x : SiteIx) (ok : Bool) : Dev :=
  let key := nodeKey n x.val
  let left := tget d.lkk.retries 0 key
  if left = 0 || !d.lkkRuns then d
  else if ok then (d.loadNode n x).setLkk (fun k => { k with retries := tdel k.retries key })
  else
    let d := d.setLkk (fun k => { k with retries := tset k.retries 0 key (left - 1) })
    if left = 1 then d.onFab (fun f => f.report e 0x0103 (.site x) (f.freeNat 5) 0) else d

/-- CODE_SWITCH (R407): a SWITCH packet makes a node use its other bank, if that holds code. -/
def Dev.switchCode (d : Dev) (n : CodeNodes) (x : SiteIx) : Dev :=
  let flip := fun (b : CodeBanks) => if (if b.bank = 0 then b.b else b.a) = 0 then b else { b with bank := 1 - b.bank }
  match n with
  | .tile _ => d.onFab (fun f =>
      let s := f.site x
      if (if s.bank = 0 then s.code.2 else s.code.1) = 0 then f else f.setSite x { s with bank := 1 - s.bank })
  | .chroot _ => d.setLkk (fun k => { k with chroot := tmod k.chroot CodeBanks.init x.val flip })
  | .rlayer h => d.setLkk (fun k => { k with rlayer := tmod k.rlayer CodeBanks.init h.val flip })

-- Rails and clocks ---------------------------------------------------------------------------------------------------

/-- VIN_UNDERVOLTAGE (R452, Table Lands-5): the half is fenced and held in half compute reset. -/
def Dev.vinLost (d : Dev) (e : Env) (h : HalfId) : Dev :=
  if !d.pwr.vin[h] then d else
  let d := { d with pwr := { d.pwr with vin := d.pwr.vin.set h false } }
  ((d.dropHalf h).fenceHalf e h .rail).orderReset e 2 h.val 2 false

/-- VBSN_UNDERVOLTAGE: both halves fenced, host link down (R272). -/
def Dev.vbsnFails (d : Dev) (e : Env) : Dev :=
  if !d.pwr.vbsn then d else
  let d := { d with pwr := { d.pwr with vbsn := false, vbsnLost := true }, lkk := { d.lkk with basinUp := false } }
  ((d.fenceHalf e 0 .rail).fenceHalf e 1 .rail).linkLoss e

/-- VPHY_UNDERVOLTAGE: every half link and Ethernet port down, both halves fenced. -/
def Dev.vphyFails (d : Dev) (e : Env) : Dev :=
  if !d.pwr.vphy then d else
  let d := { d with
    pwr := { d.pwr with vphy := false }
    lnk := { d.lnk with links := d.lnk.links.map (fun (l : LinkSt) => { LinkSt.init with clockLost := l.clockLost, basin := { EndSt.init with good := l.basin.good }
                                                                                         half := { EndSt.init with good := l.half.good } }) }
    net := { d.net with ports := d.net.ports.map Port.down } }
  (d.fenceHalf e 0 .links).fenceHalf e 1 .links

/-- VPHY_RETURN: Lockkeeper retrains the links and ports without a reset. -/
def Dev.vphyBack (d : Dev) : Dev := if d.pwr.vbsn then { d with pwr := { d.pwr with vphy := true } } else d

/-- VAON_LOSS: every state not kept across a cold reset is lost. -/
def State.vaonLost (s : State) : State :=
  let s := s.cold false
  { s with d := { s.d with pwr := { s.d.pwr with vaon := false } } }

/-- SIDEBAND_CLOCK_LOSS and SIDEBAND_CLOCK_RETURN (R458). -/
def Dev.sideLoss (d : Dev) (e : Env) : Dev :=
  if d.thm.sideLost then d else
  ({ d with thm := { d.thm with sideLost := true } }).onFab (fun f => f.report e 0x0807 (.basinBlock 13) 0 0)
def Dev.sideBack (d : Dev) : Dev := ({ d with thm := { d.thm with sideLost := false } }).sendEvent

/-- LINK_CLOCK_LOSS (R292): the clock of a half-link end is lost, and the link goes to FAILED. -/
def Dev.linkClockLost (d : Dev) (e : Env) (n : LinkId) : Dev :=
  let d := d.setLink n { d.link n with clockLost := true }
  if (d.link n).phase = .down then d else d.linkFails e n 0

-- Towpath registers --------------------------------------------------------------------------------------------------

/-- The dead lanes of a column, in the order of the DEAD list. -/
def Column.deadLanes (c : Column) : List Nat := c.lanes.flatMap (fun q => match q.2 with | some l => l.dead | none => [])

/-- A repair entry whose VALID is 0 (R471). -/
def Dev.repairFree (d : Dev) (x : SiteIx) : RepairEntry → Bool
  | .row b i => !(tget (d.fab.col x).rowRep 0 (32 * b.val + i.val)).getLsbD 31
  | .col b i => !(tget (d.fab.col x).colRep 0 (8 * b.val + i.val)).getLsbD 31
  | .dead i => (d.fab.col x).deadLanes.length ≤ i.val

/-- REPAIR_ENTRY_WRITE (R470, R471): an entry whose VALID is 1 does not change; reserved bits hold 0 (R8). -/
def Dev.writeRepair (d : Dev) (e : Env) (x : SiteIx) (p : RepairEntry) (v : Word) : Dev :=
  let c := d.fab.col x
  match p with
  | .row b i =>
    let k := 32 * b.val + i.val
    if (tget c.rowRep 0 k).getLsbD 31 then d else d.onFab (fun f =>
      let c := if v.getLsbD 31 then c.takeSpare (32 * b.val + fld v.toNat 16 12) else c
      f.setCol x { c with rowRep := tset c.rowRep 0 k (v &&& 0xC001FFFF) })
  | .col b i =>
    let k := 8 * b.val + i.val
    if (tget c.colRep 0 k).getLsbD 31 then d else d.onFab (fun f => f.setCol x { c with colRep := tset c.colRep 0 k (v &&& 0xC0003FFF) })
  | .dead i =>
    -- entry i of the DEAD list is the i-th dead lane of the column
    let all := c.deadLanes
    if i.val < all.length || !v.getLsbD 31 then d
    else
      let w := v.toNat
      let g := fld w 10 3 % 144
      let l := c.lane (fld w 2 0) g
      let full := 64 ≤ all.length
      let d := d.onFab (fun f => f.setCol x (c.setLane (fld w 2 0) g { l with dead := l.dead ++ [64 * g + fld w 17 11] }))
      if full then d.onFab (fun f => f.report e 0x0103 (.site x) (f.freeNat 5) 0) else d

/-- LANE_WRITE (R470): the lanes shifted toward the spares of a group, and the spares marked bad. -/
def Dev.writeLane (d : Dev) (x : SiteIx) (b : Fin 8) (g : Fin 144) (v : Word) : Dev :=
  let w := v.toNat
  let sh := [fld w 6 0, fld w 14 8].filter (fun l => l ≠ 0x7F)
  d.onFab (fun f =>
    let c := f.col x
    f.setCol x (c.setLane b.val g.val { c.lane b.val g.val with
      shifted := sh.map (fun l => 64 * g.val + l), sparesBad := b2n (bit w 16) + b2n (bit w 17) }))

/-- FLIM_WRITE (R2, R336, R470): units of 10 Mstep/s, at least 0.10 Gstep/s, and never above the site's ceiling or the fused maximum. -/
def Dev.writeFlim (d : Dev) (e : Env) (x : SiteIx) (v : Word) : Dev :=
  d.onFab (fun f => f.setSite x { f.site x with flim := Nat.min (Nat.max 10 v.toNat) (Nat.min (d.ceilOf e x) e.maxCadence) })

/-- The map that the words of SITE_MAP_WRITE name. -/
def mapOfWords (m : SiteMapWords) (s : ClusterSt) : ClusterSt :=
  let pick := fun (n : Nat) => if h : n < 17 then some (⟨n, h⟩ : Fin 17) else none
  let st := m.status.toNat
  { s with
    siteOf := Vector.ofFn (fun (i : Fin 16) => pick (fld (m.maps[i.val / 4]'(by omega)).toNat (8 * (i.val % 4) + 4) (8 * (i.val % 4))))
    spare := if bit st 5 then pick (fld st 4 0) else none, bad := BitVec.ofNat 17 (fld st 24 8) }

/-- R15: no site carries two logical tiles, and the spare is a working site that carries none. -/
def ClusterSt.mapOk (s : ClusterSt) : Bool :=
  let used := s.siteOf.toList.filterMap id
  decide used.Nodup && (match s.spare with
    | some x => !used.contains x && !s.bad.getLsbD x.val
    | none => true)

/-- SITE_MAP_WRITE (R15, R16, R470): the five registers of a cluster change as one act, and MAP_GEN increments. A map that R15 does not
allow is discarded. -/
def Dev.writeMap (d : Dev) (c : ClusterId) (m : SiteMapWords) : Dev :=
  if (mapOfWords m (d.fab.cluster c)).mapOk then d.onFab (fun f => f.changeMap c (mapOfWords m)) else d

/-- ROUTE_WRITE (R58, R470). -/
def Dev.writeRoute (d : Dev) (c : ClusterId) (v : Word) : Dev :=
  d.onFab (fun f => f.setCluster c { f.cluster c with columnFirst := v.getLsbD 0 })

/-- R346 allows the RETRY of a DOMAIN_CMD: its domain or bank is latched, and has not latched twice since the last cold reset. -/
def Dev.retryTaken (d : Dev) (h : HalfId) (v : Word) : Bool :=
  if cmdUnit v < 18 then
    let i := domAt h.val (cmdPcl v) (cmdUnit v)
    (d.dom i).state == .latched && decide ((d.dom i).latched < 2) && d.bankSt (domHalf i) (domPcl i) == .up
  else
    match cmdBank (cmdUnit v) (cmdPcl v) with
    | some b => d.bankSt h b == .latched && decide (tget d.pwr.bankLatches 0 (20 * h.val + b) < 2)
    | none => false

/-- DOMAIN_RETRY (R346, R470): discarded for a domain or bank that has latched twice since the last cold reset. With a cluster bank Lockkeeper
resets the cluster (Table Bringup-3). -/
def Dev.cmdRetry (d : Dev) (e : Env) (h : HalfId) (v : Word) : Dev :=
  if cmdUnit v < 18 then d.retry (domAt h.val (cmdPcl v) (cmdUnit v)) else
  match cmdBank (cmdUnit v) (cmdPcl v) with
  | some b =>
    if d.bankSt h b == .latched && tget d.pwr.bankLatches 0 (20 * h.val + b) < 2 then
      let d := d.setBank h b .starting
      if b < 16 then d.orderReset e 1 (siteCluster (siteOfNat (272 * h.val + 17 * b))).val 1 false else d
    else d
  | none => d

/-- VSET_WRITE (R337, R470): the setpoint of a cluster bank; the rail slews to it. -/
def Dev.writeVset (d : Dev) (h : HalfId) (p : Fin 16) (v : Word) : Dev :=
  let c := siteCluster (siteOfNat (272 * h.val + 17 * p.val))
  d.setClp c { d.clp c with vset := fld v.toNat 8 0 }

end Sys2Proof.Machine
end

