-- ==== Sys2Proof/Machine/Flags.lean ====
section
/-! DEFINITION. What the status registers show: every read-only register of the map (chapter "Setup register map") as a function of the
state. A field that a block owns is given its owner's value, without the lag of R466. -/

namespace Sys2Proof.Machine

-- BSN_ ---------------------------------------------------------------------------------------------------------------

/-- BSN_TOPO_STATUS. -/
def Dev.activeTiles (d : Dev) : Nat := ((List.finRange 512).filter (fun t => (d.fab.siteOf t).isSome)).length
def Dev.sparesLeft (d : Dev) : Nat := (allClusters.filter (fun c => (d.fab.cluster c).spare.isSome)).length
def Dev.topoStatus (d : Dev) : Nat :=
  (if d.fab.mapValid then d.sparesLeft * 2 ^ 16 + d.activeTiles * 2 ^ 4 + 1 else 0) + b2n d.fab.halfUp[1] * 2 ^ 2 + b2n d.fab.halfUp[0] * 2

/-- BSN_KV_STATUS and BSN_KV_TOTAL. -/
def Dev.kvStatus (d : Dev) (e : Env) : Nat := b2n (d.modeEff e) * 2 ^ 31 + b2n d.svc.reclaiming * 2 ^ 24 + d.freeGroups
def Dev.kvTotal (d : Dev) : Nat := d.totalGroups

/-- BSN_TS_STATUS, BSN_TS_LEVELS and BSN_MODEL_LOADED. -/
def Dev.tsStatus (d : Dev) : Nat := d.svc.queue.length * 2 ^ 17 + d.liveSeqs.length
def Dev.tsLevels (d : Dev) : Nat :=
  match (d.comp 3).active with
  | some i => i.imgMin * 2 ^ 24 + i.imgN * 2 ^ 16 + i.descMin * 2 ^ 8 + i.descN
  | none => 0
def Dev.collLevels (d : Dev) : Nat := d.levelMin * 2 ^ 8 + d.levelMax
def Dev.modelLoaded (d : Dev) : Nat :=
  ((List.finRange 16).map (fun m =>
    b2n (d.model m).failed * 2 ^ (16 + m.val) + b2n ((d.model m).phase == .loaded && !(d.model m).failed) * 2 ^ m.val)).sum

/-- BSN_HOST_TAGS. -/
def Dev.hostTags (d : Dev) : Nat :=
  let ts := d.host.tags.filterMap (·.2)
  (ts.filter (fun t => t.quar.isSome)).length * 2 ^ 16 + (ts.filter (fun t => t.quar.isNone)).length

/-- BSN_ERR_STATUS, BSN_MIG_STATUS_h and BSN_REPAIR_REC. -/
def Agg.status (a : Agg) (d : Dev) : Nat := b2n (a.used == 1024) * 2 ^ 31 + b2n d.lkk.stale * 2 ^ 30 + Nat.min 256 a.keys.length
def Dev.migStatus (d : Dev) (h : HalfId) : Nat :=
  let m := d.lkk.mig[h]
  m.state.code * 2 ^ 29 + m.tile.val * 2 ^ 16 + m.rows / 8
def Dev.repairRec (d : Dev) : Nat := d.lkk.genNow % 2 ^ 16 * 2 ^ 16 + b2n d.lkk.copyB.ok * 2 + b2n d.lkk.copyA.ok

/-- BSN_RESET_STATUS. -/
def Dev.resetStatus (d : Dev) : Nat :=
  b2n d.lkk.rst.isSome * 2 ^ 31 + b2n d.lkk.refused * 2 ^ 30 + d.lkk.lastLevel * 2 ^ 27 + d.lkk.lastCause * 2 ^ 24

/-- A record of the error log, as it reads at 0x1_0000 + 64 × slot. -/
def Agg.logBytes (a : Agg) (slot : Nat) : List Byte := match tget a.log none slot with | some r => r.bytes | none => List.replicate 64 0

-- LNK_ and T2_ -------------------------------------------------------------------------------------------------------

/-- LNK_HALF_STATUS. -/
def Dev.halfStatus (d : Dev) : Nat :=
  d.lnk.trunk[1] * 2 ^ 6 + d.lnk.trunk[0] * 2 ^ 4 + b2n d.fab.fenced[1] * 2 + b2n d.fab.fenced[0]

def widthCode (w : Nat) : Nat := if w = 64 then 0 else if w = 32 then 1 else if w = 16 then 2 else 3

/-- LNK_STATUS_n. The half's receiver tells the width and good lanes of the direction Basin to half. -/
def Dev.lnkStatus (d : Dev) (n : LinkId) : Nat :=
  let l := d.link n
  l.phase.code * 2 ^ 29 + widthCode l.half.width * 2 ^ 27 + widthCode l.basin.width * 2 ^ 25 + lanesGood l.half.good * 2 ^ 16 + lanesGood l.basin.good * 2 ^ 8

/-- T2_STATUS and T2_DEC_n. -/
def Dev.t2Status (d : Dev) : Nat :=
  let t := d.lnk.t2
  b2n t.up * 2 ^ 31 + (((List.range 4).filter (fun i => (t.caps[i]?).getD 0 ≠ 0)).map (2 ^ ·)).sum * 2 ^ 24 + t.capBytes / 2 ^ 28
def Dev.t2Dec (d : Dev) (n : Fin 4) : Nat := d.lnk.t2.dec[n]

-- NET_ ---------------------------------------------------------------------------------------------------------------

/-- NET_PORT_STATUS_n, NET_PTP_STATUS, NET_CART_STATUS_n and NET_CART_LIFE_n. -/
def Dev.portStatus (d : Dev) (n : PortId) : Nat :=
  let p := d.port n
  p.locked.toNat * 2 ^ 8 + b2n p.clkLost * 2 ^ 3 + b2n p.dark * 2 ^ 2 + p.up.toNat
def Dev.ptpStatus (d : Dev) : Nat := tcode 16 d.net.ptp.offset * 2 ^ 16 + b2n d.net.ptp.valid * 2 + b2n d.net.ptp.locked
def Dev.cartStatus (d : Dev) (k : CartId) : Nat :=
  let c := d.cart k
  Nat.min 0xFFFF (c.eolHours / 10) * 2 ^ 16 + c.drive * 2 ^ 8 + b2n c.eolWarn * 2 ^ 3 + c.cstate.code
def Dev.cartLife (d : Dev) (k : CartId) : Nat := (d.cart k).onHours

/-- NET_CART_CTRL as it reads: REFUSED beside what was written. -/
def Dev.cartCtrlWord (d : Dev) (e : Env) : Nat := e.reg 0x202000 + b2n d.net.refused * 2 ^ 7

-- PWR_ ---------------------------------------------------------------------------------------------------------------

/-- The mean input power in W over the last n control periods of 100 µs; 0 before the first. -/
def Dev.meanW (d : Dev) (n : Nat) : Nat :=
  let h := d.pwr.hist.take n
  if h.isEmpty then 0 else h.sum / h.length / 1000

/-- PWR_FUSE, PWR_FUSE_PEAK, PWR_STATUS, PWR_WIN_STATUS and PWR_CTL_STATUS. -/
def fusePower (f : Fuses) : Nat := f.capW * 2 ^ 16 + f.point
def fusePeak (f : Fuses) : Nat := f.p1ms * 2 ^ 16 + f.p100ms
def Dev.powerStatus (d : Dev) : Nat := d.pwr.capEff / 1000 * 2 ^ 16 + d.meanW 10
def Dev.windowStatus (d : Dev) : Nat := d.meanW 1000 * 2 ^ 16 + d.meanW 10000
def Dev.controlStatus (d : Dev) : Nat := b2n d.pwr.derated * 2 ^ 2 + b2n d.pwr.absent * 2 + b2n d.pwr.capLimited

/-- PWR_SLUICE_STATUS and PWR_SLUICE_CL. A half-scope cut is one by the sum of the cluster banks of the half or by its input. -/
def Dev.halfCut (d : Dev) (h : HalfId) : Bool := d.pwr.sources.contains (.half h) || d.pwr.sources.contains (.vin h)
def Dev.sluiceStatus (d : Dev) : Nat := b2n (d.pwr.sources.contains .alert) * 2 ^ 31 + b2n (d.halfCut 1) * 2 + b2n (d.halfCut 0)
def Dev.sluiceCl (d : Dev) : Nat := d.pwr.cut.toNat

/-- The domains of a cluster in a state, as a mask: bit 0–16 the sites, bit 17 the sampler. -/
def Dev.domMask (d : Dev) (c : ClusterId) (s : DomainState) : Nat :=
  ((List.range 18).map (fun u => b2n ((d.dom (domAt (clusterHalf c).val (clusterPcl c) u)).state == s) * 2 ^ u)).sum

/-- PWR_CL_STATUS_k, PWR_CL_HDR_k, PWR_CL_LATCH_k and PWR_CL_PHASE_k. -/
def Dev.clStatus (d : Dev) (c : ClusterId) : Nat := (d.clp c).pt * 2 ^ 27 + (d.clp c).volt * 2 ^ 16 + Nat.min 0xFFFF (d.clp c).cur
def Dev.clHeaders (d : Dev) (c : ClusterId) : Nat := d.domMask c .on
def Dev.clLatches (d : Dev) (c : ClusterId) : Nat :=
  Nat.min 15 (d.clp c).latches * 2 ^ 28 + b2n (d.bankSt (clusterHalf c) (clusterPcl c) == .latched) * 2 ^ 18 + d.domMask c .latched
def Dev.clPhase (d : Dev) (e : Env) (c : ClusterId) : Nat :=
  match d.phaseOf e c with
  | some p => p / 256 * 2 ^ 8 + p % 256
  | none => 2 ^ 31

/-- PWR_RAIL_STATUS_h. -/
def Dev.railStatus (d : Dev) (h : HalfId) : Nat :=
  let up := fun (b : Nat) => b2n (d.bankSt h b == .up)
  Nat.min 0xFFFF d.pwr.vinCur[h] * 2 ^ 16 + b2n ([16, 17, 18, 19].any (fun b => d.bankSt h b == .latched)) * 2 ^ 4 + up 18 * 2 ^ 2 + up 17 * 2 + up 16

-- THM_ ---------------------------------------------------------------------------------------------------------------

/-- THM_STATUS: the marks of R370 are those of either half. -/
def Dev.thmStatus (d : Dev) : Nat :=
  let t := d.thm
  b2n t.tripped * 2 ^ 31 + b2n t.trayLost * 2 ^ 30 + b2n t.inletHigh * 2 ^ 29 + b2n (t.rcs[0].warn || t.rcs[1].warn) * 2 ^ 28 +
  b2n (t.rcs[0].alarm || t.rcs[1].alarm) * 2 ^ 27 + t.throttled

/-- THM_TRAY, THM_TIM_h, THM_SUSPECT and the trip record. -/
def Dev.thmTray (d : Dev) : Nat :=
  Nat.min 255 d.thm.tray.inlet * 2 ^ 24 + Nat.min 255 d.thm.tray.outlet * 2 ^ 16 + Nat.min 0xFFFF d.thm.tray.flow
def Dev.thmTim (d : Dev) (h : HalfId) : Nat := d.thm.rcs[h].base.getD 0xFFFF * 2 ^ 16 + (d.thm.rcs[h].rcs).getD 0xFFFF
def Dev.thmSuspect (d : Dev) : Nat := d.thm.blind.length * 2 ^ 16 + (d.thm.sens.filter (fun p => p.2.suspect)).length
def Dev.thmTrip (d : Dev) : Nat := match d.thm.trip with | some t => t.word | none => 0
def Dev.thmTripTime (d : Dev) : Nat := match d.thm.trip with | some t => t.time | none => 0

-- SEC_ and LKK_ ------------------------------------------------------------------------------------------------------

/-- SEC_STATUS, SEC_TAMPER_STATUS and SEC_TAMPER_COUNT. -/
def Sec.status (s : Sec) : Nat := s.level * 2 ^ 30 + b2n s.erased * 2 ^ 29 + b2n s.timebaseLost * 2 ^ 28 + s.sessions.length * 2 ^ 4
def Sec.tamper (s : Sec) : Nat := s.sources.toNat
def Sec.tamperCount (s : Sec) : Nat := s.count

/-- LKK_STATUS, LKK_MBX_RSP, LKK_FW_n and LKK_FW_VER_n. -/
def Dev.lkkStatus (d : Dev) : Nat :=
  let k := d.lkk
  k.mode.code * 2 ^ 29 + b2n k.activeB * 2 ^ 28 + b2n k.clkLost * 2 ^ 27 + b2n k.fallback * 2 ^ 26 + k.shed * 2 ^ 24 + k.bootStage * 2 ^ 16 +
  Nat.min 255 k.load
def Dev.mbxRsp (d : Dev) : Nat := d.lkk.rsp
def Dev.fwStatus (d : Dev) (n : Nat) : Nat :=
  let c := d.comp n
  b2n c.a.isSome * 2 ^ 31 + b2n c.b.isSome * 2 ^ 30 + b2n c.activeB * 2 ^ 29 + b2n c.bootB * 2 ^ 28 + b2n c.trial * 2 ^ 27 + b2n c.staging * 2 ^ 26
def Dev.fwVersion (d : Dev) (n : Nat) : Nat := match (d.comp n).active with | some i => i.version | none => 0

-- CL_ and TILE_ ------------------------------------------------------------------------------------------------------

def siteCode (s : Option (Fin 17)) : Nat := match s with | some i => i.val | none => 0x1F

/-- The device as the CL_ and TILE_ registers of a half show it: for a half that is not up, as the register shadow last held it (R245). -/
def Dev.shown (d : Dev) (h : HalfId) : Dev :=
  if d.fab.halfUp[h] then d else
  match d.seen[h] with
  | none => d
  | some v =>
    { d with fab := { d.fab with sites := v.sites, cols := v.cols, clusters := v.clusters }, pwr := v.pwr, thm := v.thm
             svc := { d.svc with wear := v.wear } }

/-- CL_SITE_MAP_n and CL_SITE_STATUS; 0 while MAP_VALID is 0 (R28). -/
def Dev.clSiteMap (d : Dev) (c : ClusterId) (n : Fin 4) : Nat :=
  let m := ((d.shown (clusterHalf c)).fab.cluster c).siteOf
  if d.fab.mapValid then
    siteCode (m[4 * n.val + 3]'(by omega)) * 2 ^ 24 + siteCode (m[4 * n.val + 2]'(by omega)) * 2 ^ 16 +
    siteCode (m[4 * n.val + 1]'(by omega)) * 2 ^ 8 + siteCode (m[4 * n.val]'(by omega))
  else 0
def Dev.clSiteStatus (d : Dev) (c : ClusterId) : Nat :=
  let s := (d.shown (clusterHalf c)).fab.cluster c
  if d.fab.mapValid then s.mapGen.toNat * 2 ^ 28 + s.bad.toNat * 2 ^ 8 + b2n s.spare.isSome * 2 ^ 5 + siteCode s.spare else 0

/-- A register of a tile window: 0 while MAP_VALID is 0, and for an absent tile (R17, R28). -/
def Dev.tileView (d : Dev) (t : TileId) (v : Dev → SiteIx → Nat) : Nat :=
  let d := d.shown (tileHalf t)
  if d.fab.mapValid then match d.fab.siteOf t with | some x => v d x | none => 0 else 0

def StreamState.code : StreamState → Nat
  | .idle => 0
  | .running => 1
  | .waiting => 2
  | .faulted => 3
  | .quiesced => 4

/-- TILE_STREAM_STATUS_n and TILE_STREAM_PC_n. -/
def Dev.streamStatus (d : Dev) (t : TileId) (n : StreamId) : Nat :=
  d.tileView t (fun d x => let v := (d.fab.site x).shown.1[n]; v.tag.toNat * 2 ^ 16 + v.lastFault * 2 ^ 8 + v.state.code)
def Dev.streamPc (d : Dev) (t : TileId) (n : StreamId) : Nat := d.tileView t (fun d x => ((d.fab.site x).shown.1[n]).pc % 2 ^ 29)

/-- TILE_MM_STATUS and TILE_MM_DBG_DATA. -/
def Dev.mmStatus (d : Dev) (t : TileId) : Nat :=
  d.tileView t (fun d x =>
    let a := (d.fab.site x).shown.2
    a.kind * 2 ^ 30 + a.row * 2 ^ 24 + a.col * 2 ^ 16 + b2n a.dbgValid * 2 ^ 3 + b2n a.busy * 2 ^ 2 + a.shape)
def Dev.mmDbgData (d : Dev) (t : TileId) : Nat := d.tileView t (fun d x => (d.fab.site x).shown.2.dbgData.toNat)

/-- The fewest free spares over the 128 banks, and the fewest good spare lanes of any group. -/
def Column.rowSparesMin (c : Column) : Nat := (List.range 128).foldl (fun m b => Nat.min m (32 - ((c.rowEntries b).map (fun p => fld p.2.toNat 16 12)).eraseDups.length)) 32
def Column.colSparesMin (c : Column) : Nat := (List.range 128).foldl (fun m b => Nat.min m (8 - ((c.colEntries b).map (fun p => fld p.2.toNat 13 11)).eraseDups.length)) 8
def Column.laneSparesMin (c : Column) : Nat := c.lanes.foldl (fun m p => match p.2 with | some l => Nat.min m l.sparesLeft | none => m) 2

/-- TILE_DRG_STATUS, TILE_DRG_POS and TILE_REPAIR_STATUS of a column. -/
def Column.drgStatus (c : Column) : Nat := b2n c.lapLate * 2 ^ 31 + Nat.min (2 ^ 27 - 1) c.lastLapMs
def Column.drgPos (c : Column) : Nat := c.laps % 4096 * 2 ^ 20 + c.pos
def Column.repairStatus (c : Column) : Nat := c.rowSparesMin * 2 ^ 24 + c.colSparesMin * 2 ^ 16 + c.laneSparesMin * 2 ^ 8 + b2n c.exhausted

def Dev.drgStatus (d : Dev) (t : TileId) : Nat := d.tileView t (fun d x => (d.fab.col x).drgStatus)
def Dev.drgPos (d : Dev) (t : TileId) : Nat := d.tileView t (fun d x => (d.fab.col x).drgPos)
def Dev.repairStatus (d : Dev) (t : TileId) : Nat := d.tileView t (fun d x => (d.fab.col x).repairStatus)

/-- TILE_PACE and TILE_PACE_AGE. -/
def Dev.pace (d : Dev) (e : Env) (t : TileId) : Nat :=
  d.tileView t (fun d x => tget d.svc.wear 0 x.val * 2 ^ 24 + d.ceilOf e x * 2 ^ 8 + Nat.min 255 (d.fab.site x).flim)
def Dev.paceAge (d : Dev) (e : Env) (t : TileId) : Nat :=
  d.tileView t (fun d x => Nat.min 255 (d.wearAge x) * 2 ^ 16 + Nat.min 255 (d.wearHeat x) * 2 ^ 8 + (tget e.fuse.chars SiteChar.typical x.val).ceiling)

/-- A temperature in 0.5 °C, as an 8-bit field. -/
def half8 (t : Dy) : Nat := Nat.min 255 (((Dy.frac t).mul (Frac.ofNat 2)).floor.toNat)
def Dev.layerTemp (d : Dev) (x : SiteIx) (i : Fin 8) : Nat := half8 ((d.ctlTemp (.dram x i)).getD Dy.zero)

/-- TILE_THM_0, TILE_THM_1 and TILE_THM_2. -/
def Dev.tileThm0 (d : Dev) (t : TileId) : Nat :=
  d.tileView t (fun d x =>
    half8 (d.logicTemp x) * 2 ^ 24 + d.thermalLimit t * 2 ^ 16 + b2n (d.thm.blind.contains x.val) * 2 ^ 10 +
    (((colSensors x).zipIdx).map (fun p => b2n (d.sen p.1).suspect * 2 ^ p.2)).sum)
def Dev.tileThm1 (d : Dev) (t : TileId) : Nat :=
  d.tileView t (fun d x => d.layerTemp x 3 * 2 ^ 24 + d.layerTemp x 2 * 2 ^ 16 + d.layerTemp x 1 * 2 ^ 8 + d.layerTemp x 0)
def Dev.tileThm2 (d : Dev) (t : TileId) : Nat :=
  d.tileView t (fun d x => d.layerTemp x 7 * 2 ^ 24 + d.layerTemp x 6 * 2 ^ 16 + d.layerTemp x 5 * 2 ^ 8 + d.layerTemp x 4)

-- Context windows ----------------------------------------------------------------------------------------------------

/-- CTX_STATUS, CTX_SQ_HEAD and CTX_DSN. -/
def Ctx.status (v : Ctx) : Nat :=
  (if v.phase = .faulted then v.cause * 2 ^ 24 else 0) + b2n (v.fences.toList.any Option.isSome) * 2 ^ 18 + b2n v.eqLost * 2 ^ 17 +
  b2n v.cqStall * 2 ^ 16 + v.phase.code
def Ctx.dsnWord (v : Ctx) : Nat := v.doneDsn * 2 ^ 16 + v.nextDsn

/-- BSN_CTX_BIND_SEL, and BSN_CTX_BIND of a context. -/
def Dev.bindSelWord (d : Dev) (e : Env) : Nat := b2n d.host.rejected * 2 ^ 31 + e.reg 0x4300
def Dev.bindWord (d : Dev) (c : CtxId) : Nat := (d.ctx c).loc * 2 ^ 16 + (d.ctx c).func.val

/-- BSN_VF_INFO of a VF: which local indices have a context. -/
def Dev.vfInfo (d : Dev) (f : FuncId) : Nat :=
  (((List.range 16).filter (fun k => d.host.ctxs.any (fun p => p.2.func = f && p.2.loc = k))).map (fun k => 2 ^ (16 + k))).sum + f.val

end Sys2Proof.Machine
end

