-- ==== Sys2Proof/Machine/Sha.lean ====
section
/-! DEFINITION. SHA-384, which R428 names for the update log: its constants are the leading fractional bits of square and cube roots of
primes (PRESUMED: FIPS 180-4). Words are numbers below 2^64. -/

namespace Sys2Proof.Machine

def isPrime (n : Nat) : Bool := 2 ≤ n && (List.range (isqrt n + 1)).all (fun k => k < 2 || n % k != 0)
/-- The first 80 primes. -/
def shaPrimes : List Nat := (List.range 410).filter isPrime

/-- The largest r with r³ ≤ n, for n below 2^210. -/
def icbrt (n : Nat) : Nat :=
  (List.range 70).foldr (fun i r => let c := r + 2 ^ i; if c * c * c ≤ n then c else r) 0

def shaK : List Nat := shaPrimes.map (fun p => icbrt (p * 2 ^ 192) % 2 ^ 64)
/-- The initial hash value of SHA-384: the ninth to sixteenth primes. -/
def sha384Init : List Nat := ((shaPrimes.drop 8).take 8).map (fun p => isqrt (p * 2 ^ 128) % 2 ^ 64)

def rotr64 (x n : Nat) : Nat := x / 2 ^ n + x % 2 ^ n * 2 ^ (64 - n)
def not64 (x : Nat) : Nat := 2 ^ 64 - 1 - x

/-- The message schedule, newest word first, extended from 16 to 80 words. -/
def shaSchedule : Nat → List Nat → List Nat
  | 0, w => w
  | n + 1, w =>
    let at_ := fun (i : Nat) => (w[i]?).getD 0
    let s0 := Nat.xor (Nat.xor (rotr64 (at_ 14) 1) (rotr64 (at_ 14) 8)) (at_ 14 / 2 ^ 7)
    let s1 := Nat.xor (Nat.xor (rotr64 (at_ 1) 19) (rotr64 (at_ 1) 61)) (at_ 1 / 2 ^ 6)
    shaSchedule n ((s1 + at_ 6 + s0 + at_ 15) % 2 ^ 64 :: w)

/-- One round on the eight working variables. -/
def shaRound (v : List Nat) (kw : Nat) : List Nat :=
  match v with
  | [a, b, c, d, e, f, g, h] =>
    let t1 := h + Nat.xor (Nat.xor (rotr64 e 14) (rotr64 e 18)) (rotr64 e 41) + Nat.xor (Nat.land e f) (Nat.land (not64 e) g) + kw
    let t2 := Nat.xor (Nat.xor (rotr64 a 28) (rotr64 a 34)) (rotr64 a 39) + Nat.xor (Nat.xor (Nat.land a b) (Nat.land a c)) (Nat.land b c)
    [(t1 + t2) % 2 ^ 64, a, b, c, (d + t1) % 2 ^ 64, e, f, g]
  | _ => v

/-- A block of 16 words taken into the hash value. -/
def shaBlock (h : List Nat) (words : List Nat) : List Nat :=
  let w := (shaSchedule 64 words.reverse).reverse
  (h.zip ((shaK.zip w).foldl (fun v p => shaRound v (p.1 + p.2)) h)).map (fun p => (p.1 + p.2) % 2 ^ 64)

def beNat (bs : List Byte) : Nat := bs.foldl (fun n b => n * 256 + b.toNat) 0

/-- The SHA-384 of a byte string, as a number of 384 bits whose bytes stand most significant first. -/
def sha384 (m : List Byte) : Nat :=
  let zeros := (239 - m.length % 128) % 128
  let p := m ++ [0x80] ++ List.replicate zeros 0 ++ beBytes 16 (8 * m.length)
  let h := (List.range (p.length / 128)).foldl (fun h i =>
    shaBlock h ((List.range 16).map (fun j => beNat ((p.drop (128 * i + 8 * j)).take 8)))) sha384Init
  (h.take 6).foldl (fun n x => n * 2 ^ 64 + x) 0

end Sys2Proof.Machine
end

