-- ==== Sys2Proof/Machine/Firmware.lean ====
section
/-! DEFINITION. Lockkeeper's mailbox, firmware staging, activation, trial, commit and revert, the core handover, lockstep, load and
shedding, and the loss of its clock (chapter "Bring-up, partial resets and live update", R413–R422; R426, R427, R432). -/

namespace Sys2Proof.Machine

/-- Lockkeeper's count of time ticks. -/
def lkkNow (e : Env) : Nat := blockTicks e.time .lockkeeper

-- The mailbox --------------------------------------------------------------------------------------------------------

/-- LKK_MBX_RSP is written with DONE, and GO clears. -/
def Dev.respond (d : Dev) (status retry : Nat) : Dev :=
  let w := tget d.regs 0 0x700100
  (d.putReg 0x700100 (w - b2n (bit w 31) * 2 ^ 31)).setLkk (fun k => { k with rsp := 2 ^ 31 + status * 2 ^ 16 + retry })

/-- Lockkeeper's estimate of the time until it serves a request, at least 1 ms (R420): a free value. -/
def Dev.retryMs (d : Dev) : Nat := 1 + d.fab.freeNat 20 % 65535

/-- The retry hint of a BUSY answer to a class 2 request, where one is given (R419, R420, R422). -/
def Dev.busy (d : Dev) : Option Nat :=
  if d.lkk.clkLost then some 1000
  else if d.lkk.mode = .handover && !d.lkk.taken then some 20
  else if !d.lkkRuns || d.lkk.shed = 3 || (d.lkk.shed = 2 && Config.freeChoice d.fab.free 21 % 2 = 1) then some d.retryMs
  else none

/-- A PLDM firmware update is in progress (R442). -/
def Lkk.updating (k : Lkk) : Bool :=
  match k.upd with
  | some u => 1 ≤ u.state && u.state ≤ 4
  | none => false

/-- Class 3 work goes on (R420). -/
def Dev.class3 (d : Dev) : Bool := d.lkkRuns && d.lkk.shed < 3

/-- A command submitted through LKK_MBX_CMD by a write with GO = 1: the PF's alone, discarded while another one runs, answered with BUSY or
IN_PROGRESS where Lockkeeper cannot take it; else `run`. -/
def State.submit (s : State) (e : Env) (f : FuncId) (cmd : Nat) (run : State → State) : State :=
  let w := e.reg 0x700100
  if f ≠ 0 || bit w 31 then s else
  let d := (s.d.putReg 0x700100 (2 ^ 31 + fld w 15 8 * 2 ^ 8 + cmd)).setLkk (fun k => { k with rsp := k.rsp % 2 ^ 31 })
  let s := { s with d := d }
  match d.busy with
  | some r => { s with d := d.respond 1 r }
  | none => if d.lkk.updating then { s with d := d.respond 6 0 } else run s

/-- COMP of the mailbox command. -/
def mbxComp (e : Env) : Nat := fld (e.reg 0x700100) 15 8

-- Images -------------------------------------------------------------------------------------------------------------

/-- The fields of an image's header (Table Bringup-6), with its SVN and digest. -/
def fwInfo (i : FwImage) : FwInfo :=
  let h := i.hdr
  { version := leAt h 8 4, bundle := leAt h 0xC 4, compatMin := leAt h 0x10 4, descMin := leAt h 0x14 1, descN := leAt h 0x15 1
    imgMin := leAt h 0x16 1, imgN := leAt h 0x17 1, clvlMin := leAt h 0x18 1, clvlN := leAt h 0x19 1, svn := leAt i.sig 6 2, digest := i.digest }

/-- R415: MAGIC, HLVL, COMP, LEN, DIGEST and the reserved fields; level fields stand only in TSE and COLL images. -/
def fwHeaderOk (i : FwImage) (comp : Nat) : Bool :=
  let h := i.hdr
  h.length == 128 && leAt h 0 4 == 0x57464C47 && leAt h 4 1 == comp && 1 ≤ comp && comp ≤ 10 && leAt h 5 1 == 1 && leAt h 6 2 == 0 &&
  leAt h 0x20 8 == i.bodyLen && i.digestOk && leAt h 0x1A 2 == 0 && leAt h 0x1C 4 == 0 && leAt h 0x28 24 == 0 && leAt h 0x70 16 == 0 &&
  (comp == 3 || leAt h 0x14 4 == 0) && (comp == 5 || leAt h 0x18 2 == 0)

/-- R426: the public key of a signature block hashes to the firmware root that KEYIDX names, and that root is not revoked. -/
def fwKeyOk (fu : Fuses) (sig : List Byte) : Bool :=
  let k : Fin 2 := ⟨leAt sig 4 1 % 2, Nat.mod_lt _ (by decide)⟩
  !fu.fwRevoked.getLsbD k.val && sha384 ((sig.drop 8).take 97) == fu.fwRoot[k].toNat

/-- R426: the signature block of an image (Table Trust-2), its key, its signature, and its SVN at the component's floor at least. -/
def fwSigned (fu : Fuses) (i : FwImage) (floor : Nat) : Bool :=
  i.sig.length == 256 && leAt i.sig 0 4 == 0x53494753 && leAt i.sig 4 2 / 2 == 0 && leAt i.sig 0x69 7 == 0 && leAt i.sig 0xD0 48 == 0 &&
  fwKeyOk fu i.sig && i.sigOk && floor ≤ leAt i.sig 6 2

/-- The image in the inactive slot, and a write of that slot. -/
def Comp.other (c : Comp) : Option FwInfo := if c.activeB then c.a else c.b
def Comp.setOther (c : Comp) (i : FwInfo) : Comp := if c.activeB then { c with a := some i } else { c with b := some i }

def Dev.setComp (d : Dev) (n : Nat) (c : Comp) : Dev := d.setLkk (fun k => { k with comps := tput k.comps n c })

/-- An image checked and written to the inactive slot: 0 OK, 3 BAD_IMAGE, 4 AUTH_FAIL. -/
def State.stageImage (s : State) (comp : Nat) (i : FwImage) : State × Nat :=
  let c := s.d.comp comp
  if !fwHeaderOk i comp then (s, 3)
  else if !fwSigned s.fuse i (tget s.sec.floors 0 comp) then (s, 4)
  else ({ s with d := s.d.setComp comp { c.setOther (fwInfo i) with staged := true } }, 0)

/-- FW_STAGE: the image is being read into the inactive slot. -/
def State.fwStage (s : State) (e : Env) (f : FuncId) : State :=
  s.submit e f 1 (fun s =>
    let n := mbxComp e
    let d := s.d.setLkk (fun k => { k with op := some (.stage n (e.reg 0x700104 + e.reg 0x700108 * 2 ^ 32) (e.reg 0x70010C)) })
    { s with d := d.setComp n { d.comp n with staging := true } })

/-- FW_STAGE_COMPLETE (R415, R426): the image has been read; a read that failed ends FAILED. While the security timebase is lost image checks
stop (R443), and while class 3 is paused so does this. -/
def State.fwStaged (s : State) (r : Option FwImage) : State :=
  match s.d.lkk.op with
  | some (.stage n _ _) =>
    if s.sec.timebaseLost || !s.d.class3 then s else
    let s := { s with d := (s.d.setComp n { s.d.comp n with staging := false }).setLkk (fun k => { k with op := none }) }
    match r with
    | some i =>
      let q := s.stageImage n i
      { q.1 with d := q.1.d.respond q.2 0 }
    | none => { s with d := s.d.respond 7 0 }
  | _ => s

-- Measurements -------------------------------------------------------------------------------------------------------

/-- The measurement index of a component (Table Trust-3). -/
def measIndex (n : Nat) : Nat :=
  match n with
  | 1 => 3
  | 2 => 4
  | 3 => 5
  | 4 => 6
  | 5 => 7
  | 6 => 11
  | 7 => 9
  | 8 => 10
  | 9 => 8
  | _ => 1

/-- The measurements of components taken from their active images (R428). -/
def Sec.measureComps (s : Sec) (d : Dev) (comps : List Nat) : Sec := s.measure d (comps.map (fun n => (measIndex n, n)))

/-- The update log extended by components (measurement 13). -/
def Sec.logUpdate (s : Sec) (d : Dev) (comps : List Nat) : Sec :=
  { s with updates := s.updates ++ comps.map (fun n => (n, BitVec.ofNat 384 (d.digestOf n))) }

/-- Measurements follow a rollback that a record or a reset caused. -/
def State.remeasure (before : Dev) (s : State) : State :=
  { s with sec := s.sec.measureComps s.d ((List.range 10).filterMap (fun k =>
      if (before.comp (k + 1)).activeB = (s.d.comp (k + 1)).activeB then none else some (k + 1))) }

-- Activation ---------------------------------------------------------------------------------------------------------

/-- The order of R416. -/
def switchOrder : List Nat := [7, 8, 9, 4, 5, 6, 3, 2, 10, 1]

/-- The image that a component would run after a switch of `comps`. -/
def Dev.after (d : Dev) (comps : List Nat) (n : Nat) : Option FwInfo :=
  if comps.contains n then (d.comp n).other else (d.comp n).active

/-- R416: the cases in which a bundle is refused with INCOMPATIBLE. -/
def Dev.incompatible (d : Dev) (comps : List Nat) : Bool :=
  let all := (List.range 10).map (· + 1)
  comps.any (fun n => match d.after comps n with
    | some i =>
      all.any (fun m => m ≠ n && (match d.after comps m with | some j => j.bundle < i.compatMin | none => false)) ||
      (n == 3 && (List.finRange 16).any (fun m => (d.model m).phase = .loaded && (match (d.model m).img with | some g => g.level < i.imgMin | none => false))) ||
      (n == 5 && (List.finRange 64).any (fun g => (d.group g).gstate = 2 && (d.group g).level < i.clvlMin))
    | none => false)

/-- Code for a node component loaded into the inactive banks of its nodes (R407). -/
def Dev.loadCode (d : Dev) (n : Nat) : Dev :=
  let v := match (d.comp n).other with | some i => i.version + 1 | none => 0
  if n = 6 then d.onFab (fun f => allSites.foldl (fun f x => if d.siteOn x then f.setSite x ((f.site x).loadCode (d.codeOf 6) v) else f) f)
  else if n = 7 then d.setLkk (fun k => { k with rlayer := [0, 1].foldl (fun t h => tmod t CodeBanks.init h (fun b => b.load (d.codeOf 7) v)) k.rlayer })
  else if n = 8 then d.setLkk (fun k => { k with chroot := (List.range 544).foldl (fun t x => tmod t CodeBanks.init x (fun b => b.load (d.codeOf 8) v)) k.chroot })
  else d

/-- R432: a SEC activation ends every session and restarts the block. After an erasure no key is derived (R435). -/
def State.secRestart (s : State) (e : Env) : State :=
  { s with sec := { s.sec with sessions := [], restartUntil := e.time.ticks + 5000, akGen := s.sec.akGen + b2n (!s.sec.erased) } }

/-- The end of an activation or revert: what the mailbox reads, or the state of the PLDM update. -/
def Dev.endSwitch (d : Dev) (mbx : Bool) (status retry : Nat) : Dev :=
  let d := d.setLkk (fun k => { k with op := none })
  if mbx then d.respond status retry
  else d.setLkk (fun k => { k with upd := k.upd.map (fun u => { u with state := if status = 0 then 4 else 6 }) })

/-- A switch that fails (R416): what has been switched returns. -/
def State.failSwitch (s : State) (r : SwitchRun) (status retry : Nat) : State :=
  { s with d := (s.d.rollback r.done r.revert).endSwitch r.mbx status retry }

/-- Every component has switched: measurements and the update log change at one instant (R429), and the trial begins. -/
def State.switched (s : State) (e : Env) (r : SwitchRun) : State :=
  let d := s.d.endSwitch r.mbx 0 0
  let d := if r.done.isEmpty then d else d.setLkk (fun k => { k with
    trial := some { comps := r.done, since := lkkNow e, pldm := !r.mbx, revert := r.revert } })
  { s with d := d, sec := (s.sec.measureComps d r.done).logUpdate d r.done }

/-- Collective operations are in flight. -/
def Dev.collLive (d : Dev) : Bool := d.net.ops.any (fun o => o.since.isSome)

/-- The components still to be switched, in order; TILE waits for the launches in flight (R414), COLL for the operations in flight (R413), LKK
for its handover (R419). -/
def State.goSwitch (s : State) (e : Env) (r : SwitchRun) : List Nat → State
  | [] => s.switched e { r with rest := [] }
  | n :: rest =>
    if n = 6 then
      let d := s.d.loadCode 6
      { s with d := { d.setLkk (fun k => { k with op := some (.drain { r with rest := rest, since := lkkNow e }) }) with
        svc := { d.svc with holdAll := true } } }
    else if n = 1 then
      if s.d.lkk.mode = .lockstep then
        { s with d := s.d.setLkk (fun k => { k with mode := .handover, op := some (.newImage { r with rest := rest, since := lkkNow e }) }) }
      else s.failSwitch r 7 0
    else if n = 5 && s.d.collLive then { s with d := s.d.setLkk (fun k => { k with op := some (.quiet { r with rest := rest }) }) }
    else if r.fails.contains n then s.failSwitch r 7 0
    else
      let d := ((s.d.loadCode n).flipSlot n true false).flipCode n
      let s := { s with d := d }
      (if n = 10 then s.secRestart e else s).goSwitch e { r with done := r.done ++ [n] } rest

/-- The sequence of R416 over components: refused during a trial, and with INCOMPATIBLE. -/
def State.switchAll (s : State) (e : Env) (comps : List Nat) (health : List FwHealth) (mbx revert : Bool) : State :=
  let fails := (health.filter (fun h => !h.ok)).map (·.comp)
  let r : SwitchRun := { done := [], rest := [], fails := fails, mbx := mbx, revert := revert, since := lkkNow e }
  if s.d.lkk.trial.isSome then { s with d := s.d.endSwitch mbx 6 0 }
  else if s.d.incompatible comps then { s with d := s.d.endSwitch mbx 5 0 }
  else s.goSwitch e r (switchOrder.filter (fun n => comps.contains n))

/-- Every component with a staged image. -/
def Dev.stagedComps (d : Dev) : List Nat := switchOrder.filter (fun n => (d.comp n).staged && (d.comp n).other.isSome)

/-- FW_ACTIVATE (R416). -/
def State.fwActivate (s : State) (e : Env) (f : FuncId) (health : List FwHealth) : State :=
  s.submit e f 2 (fun s =>
    let n := mbxComp e
    if n = 0xFF then s.switchAll e s.d.stagedComps health true false
    else if 1 ≤ n && n ≤ 10 then s.switchAll e (s.d.stagedComps.filter (fun m => m = n)) health true false
    else { s with d := s.d.respond 2 0 })

/-- FW_REVERT (R417, R427): the other valid slot becomes active through the same sequence; an image below the floor is refused. -/
def State.fwRevert (s : State) (e : Env) (f : FuncId) : State :=
  s.submit e f 4 (fun s =>
    let n := mbxComp e
    let all := switchOrder.filter (fun m => (m = n || n = 0xFF) && (s.d.comp m).other.isSome)
    if n ≠ 0xFF && (n = 0 || 10 < n) then { s with d := s.d.respond 2 0 }
    else if all.isEmpty then { s with d := s.d.respond 7 0 }
    else if all.any (fun m => match (s.d.comp m).other with | some i => i.svn < tget s.sec.floors 0 m | none => false) then
      { s with d := s.d.respond 4 0 }
    else s.switchAll e all [] true true)

/-- Each active slot becomes the boot slot, and floors rise to the SVN of the images (R417, R427). -/
def State.commitAll (s : State) : State :=
  let all := (List.range 10).map (· + 1)
  let changed := all.filter (fun n => (s.d.comp n).activeB != (s.d.comp n).bootB)
  let d := s.d.setLkk (fun k => { k with comps := k.comps.map (fun p => (p.1, { p.2 with bootB := p.2.activeB })) })
  let floors := all.foldl (fun t n => match (d.comp n).active with
    | some i => tset t 0 n (Nat.max (tget t 0 n) i.svn)
    | none => t) s.sec.floors
  { s with d := d, sec := { s.sec.logUpdate d changed with floors := floors } }

/-- FW_COMMIT (R417): refused during a trial. -/
def State.fwCommit (s : State) (e : Env) (f : FuncId) : State :=
  s.submit e f 3 (fun s =>
    if s.d.lkk.trial.isSome then { s with d := s.d.respond 6 0 }
    else
      let s := s.commitAll
      { s with d := s.d.respond 0 0 })

/-- TRIAL in s (LKK_CFG). -/
def trialS (e : Env) : Nat := clampN 10 86400 (fld (e.reg 0x700008) 16 0)

/-- TRIAL_PASS (R416, R442 step 7): TRIAL s have passed; an update by PLDM commits. -/
def State.trialPass (s : State) (e : Env) : State :=
  match s.d.lkk.trial with
  | some t =>
    if lkkNow e < t.since + 1000000 * trialS e || !s.d.lkkRuns then s else
    let d := t.comps.foldl (fun d n => d.setComp n { d.comp n with trial := false }) s.d
    let s := { s with d := d.setLkk (fun k => { k with trial := none }) }
    if t.pldm then
      let s := s.commitAll
      { s with d := s.d.setLkk (fun k => { k with upd := k.upd.map (fun u => { u with state := 5 }) }) }
    else s
  | none => s

/-- TILE_MICROCODE_DRAIN (R414): no launch is in flight; SWITCH goes to every site, and launches resume. -/
def State.tileDrained (s : State) (e : Env) : State :=
  match s.d.lkk.op with
  | some (.drain r) =>
    if !s.d.svc.launches.isEmpty || !s.d.class3 then s else
    let s := { s with d := { s.d.setLkk (fun k => { k with op := none }) with svc := { s.d.svc with holdAll := false } } }
    if r.fails.contains 6 then s.failSwitch r 7 0
    else
      let s := { s with d := (s.d.flipSlot 6 true false).flipCode 6 }
      s.goSwitch e { r with done := r.done ++ [6] } r.rest
  | _ => s

/-- The last collective operation has ended: the COLL switch goes on, and slices that were held go to the engine (R413, R322). -/
def State.collQuieted (s : State) (e : Env) : State :=
  match s.d.lkk.op with
  | some (.quiet r) =>
    if s.d.collLive || !s.d.class3 then s else
    let s := { s with d := s.d.setLkk (fun k => { k with op := none }) }
    let s := s.goSwitch e r (5 :: r.rest)
    { s with d := s.d.collRelease e }
  | _ => s

/-- TILE_SWITCH_ABANDON (R414): launches are still in flight after 100 ms. -/
def State.tileAbandon (s : State) (e : Env) : State :=
  match s.d.lkk.op with
  | some (.drain r) =>
    if s.d.svc.launches.isEmpty || lkkNow e < r.since + 100000 then s else
    let s := { s with d := { s.d with svc := { s.d.svc with holdAll := false } } }
    s.failSwitch r 1 s.d.retryMs
  | _ => s

-- Cores --------------------------------------------------------------------------------------------------------------

/-- Records that were committed meanwhile are acted on (R419, R422). -/
def State.takeRecords (s : State) (e : Env) : State :=
  if !s.d.lkkRuns then s else
  let q := takeLater s.agg s.d e
  State.remeasure s.d { s with agg := q.1, d := q.2.takeWork e }

/-- LKK_HANDOVER (R419): with the active slot. A single core cannot hand over. -/
def State.handover (s : State) (e : Env) (f : FuncId) : State :=
  s.submit e f 5 (fun s =>
    if s.d.lkk.mode = .lockstep then { s with d := s.d.setLkk (fun k => { k with mode := .handover, op := some .handover }) }
    else { s with d := s.d.respond 7 0 })

/-- CORE_B_TAKEOVER (Table Bringup-8 steps 2 and 3): core B takes the state and the queues, or core A resumes as it was. -/
def State.coreB (s : State) (e : Env) (ok : Bool) : State :=
  if s.d.lkk.mode ≠ .handover || s.d.lkk.clkLost then s else
  match s.d.lkk.op with
  | some (.newImage r) =>
    let good := ok && !r.fails.contains 1
    let s := { s with d := s.d.setLkk (fun k => { k with op := none, mode := if good then .handover else .lockstep }) }
    let s := if good then { s with d := s.d.flipSlot 1 true false } else s
    let s := if good then s.goSwitch e { r with done := r.done ++ [1] } r.rest else s.failSwitch r 7 0
    s.takeRecords e
  | some .handover =>
    let s := { s with d := (s.d.setLkk (fun k => { k with op := none, mode := if ok then .handover else .lockstep })).respond (if ok then 0 else 7) 0 }
    s.takeRecords e
  | _ => s

/-- CORE_A_REJOIN (Table Bringup-8 step 4). -/
def Dev.coreA (d : Dev) : Dev := if d.lkk.taken && !d.lkk.clkLost then d.setLkk (fun k => { k with mode := .lockstep }) else d

/-- MODE by the cores that work. -/
def coreMode (a b : Bool) : LkkMode := if a && b then .lockstep else if a || b then .single else .stopped

/-- R418: both cores stop and test themselves; the firmware restarts on those that pass. A core that fails raises a record, of a code that
no table gives. -/
def Dev.restartCores (d : Dev) (e : Env) (a b : Bool) : Dev :=
  let one := (a != b) && !(d.lkk.mode = .single)
  let d := d.setLkk (fun k => { k with coreA := a, coreB := b, mode := coreMode a b, activeB := !a && b })
  if one then d.onFab (fun f => f.report e (f.freeNat 22 % 2 ^ 16) (.basinBlock 6) (f.freeNat 23) (f.freeNat 24)) else d

/-- LOCKSTEP_MISMATCH and WATCHDOG_EXPIRY (R418). -/
def Dev.lockstepMismatch (d : Dev) (e : Env) (a b : Bool) : Dev :=
  if d.lkk.mode = .lockstep && d.lkkRuns then d.restartCores e a b else d
def Dev.watchdog (d : Dev) (e : Env) (a b : Bool) : Dev := if d.lkkRuns then d.restartCores e a b else d

/-- Entry load of a shedding level, in percent. -/
def shedEntry (n : Nat) : Nat := match n with | 1 => 80 | 2 => 90 | _ => 98

/-- LOAD_WINDOW (R420, Table Bringup-9): a level is entered above its entry load, and left after 100 ms below that less 10 %. -/
def Dev.loadWindow (d : Dev) (load : Nat) : Dev :=
  if !d.lkkRuns then d else
  let k := d.lkk
  let calm := Vector.ofFn (fun (i : Fin 3) => if load < shedEntry (i.val + 1) - 10 then k.calm[i] + 1 else 0)
  let inForce := fun (i : Fin 3) => shedEntry (i.val + 1) < load || (i.val + 1 ≤ k.shed && calm[i] < 10)
  let shed := (List.finRange 3).foldl (fun n i => if inForce i then i.val + 1 else n) 0
  d.setLkk (fun k => { k with load := load, calm := calm, shed := shed })

/-- LKK_CLOCK_LOSS (R422). -/
def Dev.lkkClockLoss (d : Dev) : Dev := d.setLkk (fun k => { k with clkLost := true, mode := .stopped })

/-- LKK_CLOCK_RETURN (R422): Lockkeeper restarts and takes the records logged meanwhile. A handover that the loss met has failed. -/
def State.lkkClockReturn (s : State) (e : Env) : State :=
  if !s.d.lkk.clkLost then s else
  let s := { s with d := s.d.setLkk (fun k => { k with clkLost := false, mode := coreMode k.coreA k.coreB }) }
  let s := match s.d.lkk.op with
    | some (.newImage r) => s.failSwitch r 7 0
    | some .handover => { s with d := (s.d.setLkk (fun k => { k with op := none })).respond 7 0 }
    | _ => s
  s.takeRecords e

end Sys2Proof.Machine
end

