-- ==== Sys2Proof/Machine/Trust.lean ====
section
/-! DEFINITION. The security block, the SPDM responder, tamper, the MCTP endpoints and PLDM (chapter "Trust, attestation, tamper and
out-of-band management"). -/

namespace Sys2Proof.Machine

-- The management path ------------------------------------------------------------------------------------------------

/-- A binding carries messages: I3C unless its clock is lost (R458), VDM over the PF's host link. -/
def Dev.pathUp (d : Dev) (b : MctpBinding) : Bool :=
  match b with
  | .i3c => !d.thm.sideLost && d.pwr.vaon
  | .vdm => d.host.linkUp && !d.host.perst

/-- The binding on which a PLDM order that names none has come: one that is up, either where both are. -/
def Dev.pldmBinding (d : Dev) : MctpBinding :=
  if d.pathUp .i3c && (!d.pathUp .vdm || d.fab.freeNat 60 % 2 == 0) then .i3c else .vdm

def State.answer (s : State) (b : MctpBinding) (r : MgmtRsp) : State := { s with d := s.d.send (.mgmt b r) }

/-- Lockkeeper has found no valid fuse map; its endpoints still answer (R405, R438). -/
def Dev.fuseless (d : Dev) : Bool := d.lkk.bootStage = 0x1F

/-- RDTExponent: the smallest power of two in µs not below a hint in ms (R431). -/
def rdtExponent (ms : Nat) : Nat := if ms * 1000 ≤ 1 then 0 else ilog2 (ms * 1000 - 1) + 1

/-- The retry hint with which an SPDM request is put off (R431, R432, R443). -/
def State.putOff (s : State) (e : Env) (signs : Bool) : Option Nat :=
  match (if s.d.fuseless then none else s.d.busy) with
  | some h => some h
  | none => if e.time.ticks < s.sec.restartUntil || (signs && s.sec.timebaseLost) then some s.d.retryMs else none

/-- The session of a message has been used (R430). -/
def Sec.touch (s : Sec) (id : Nat) (now : Nat) : Sec :=
  { s with sessions := s.sessions.map (fun q => if q.id = id then { q with last := now } else q) }

/-- An SPDM request (R430, R431, R435): refused after an erasure, on a transport that is not its session's, or for a version that is not
negotiated; put off while it cannot be served; else answered by `run`. `signs`: it needs signing or derivation. A message longer than
4,096 bytes is not assembled (R438). -/
def State.spdm (s : State) (e : Env) (m : SpdmIn) (signs : Bool) (versions : List Byte) (run : State → State × MgmtRsp) : State :=
  let err := fun (x : SpdmErr) => s.answer m.via (.spdmError x)
  let stray := match m.session with
    | some i => !s.sec.sessions.any (fun q => q.id = i && q.via = m.via)
    | none => false
  if !s.d.pathUp m.via || s.d.lkk.bootStage = 0 || 4096 < m.body.length + 4 then s
  else if s.sec.erased then err .unspecified
  else if stray then err .invalidSession
  else match s.putOff e signs with
    | some h => err (.responseNotReady (rdtExponent h))
    | none =>
      if !versions.contains m.version || !m.good then err (.other (s.d.fab.freeNat 26 % 256))
      else
        let s := match m.session with | some i => { s with sec := s.sec.touch i e.time.ticks } | none => s
        let q := run s
        q.1.answer m.via q.2

/-- The versions negotiated: 1.3 and 1.2. -/
def spdmVersions : List Byte := [0x13, 0x12]

def State.getVersion (s : State) (e : Env) (m : SpdmIn) : State := s.spdm e m false [0x10] (fun s => (s, .versions spdmVersions))
def State.getCapabilities (s : State) (e : Env) (m : SpdmIn) : State := s.spdm e m false spdmVersions (fun s => (s, .capabilities))
def State.negotiate (s : State) (e : Env) (m : SpdmIn) : State := s.spdm e m false spdmVersions (fun s => (s, .algorithms))

/-- Slot 0 alone holds a chain (R424). -/
def onSlot0 (m : SpdmIn) (s : State) (r : MgmtRsp) : State × MgmtRsp :=
  if m.param1.toNat % 16 = 0 then (s, r) else (s, .spdmError (.other (s.d.fab.freeNat 27 % 256)))

def State.getDigests (s : State) (e : Env) (m : SpdmIn) : State := s.spdm e m false spdmVersions (fun s => (s, .digests s.sec.akGen))
def State.getCertificate (s : State) (e : Env) (m : SpdmIn) : State :=
  s.spdm e m false spdmVersions (fun s => onSlot0 m s (.certificate s.sec.akGen (leAt m.body 0 2) (leAt m.body 2 2)))
def State.challenge (s : State) (e : Env) (m : SpdmIn) : State :=
  s.spdm e m true spdmVersions (fun s => onSlot0 m s (.challengeAuth s.sec.akGen))

/-- A PLDM request beyond type 0: ERROR_NOT_READY without a fuse map (R438), BUSY while it cannot be served, else `run`. -/
def State.pldm (s : State) (b : MctpBinding) (run : State → State × MgmtRsp) : State :=
  if !s.d.pathUp b || s.d.lkk.bootStage = 0 then s
  else if s.d.fuseless then s.answer b .notReady
  else match s.d.busy with
    | some h => s.answer b (.busy h)
    | none =>
      let q := run s
      q.1.answer b q.2

-- Measurements -------------------------------------------------------------------------------------------------------

/-- ERASE_DATA, and the levels of the two tamper inputs (SEC_CTRL). -/
def eraseData (e : Env) : Bool := bit (e.reg 0x600000) 1
def t0Level (e : Env) : Nat := fld (e.reg 0x600000) 5 4
def t1Level (e : Env) : Nat := fld (e.reg 0x600000) 7 6

/-- Measurement 12: the security state. -/
def Sec.stateBytes (s : Sec) (e : Env) : List Byte :=
  leBytes 1 (b2n s.lock) ++ leBytes 1 (b2n (eraseData e)) ++ leBytes 2 s.count ++
  (List.range 10).flatMap (fun k => leBytes 1 (tget s.floors 0 (k + 1))) ++ [0, 0]

/-- Measurement 13: the update log. -/
def Sec.logDigest (s : Sec) : Nat :=
  s.updates.foldl (fun p u => sha384 (beBytes 48 p ++ leBytes 1 u.1 ++ beBytes 48 u.2.toNat)) 0

/-- Measurements 16 to 31: IMAGE_ID and CHECK of a model slot. -/
def ModelSlot.measure (m : ModelSlot) : List Byte :=
  if m.phase = .loaded || m.phase = .unloading then (m.raw.drop 8).take 8 ++ (m.raw.drop 0x50).take 4 else List.replicate 12 0

/-- The measurements of Table Trust-3 at this instant, in ascending order of index (R428, R429). -/
def State.measurements (s : State) (e : Env) : List (Nat × MeasVal) :=
  let images := fun (i : Nat) => (s.sec.meas.find? (fun p => p.1 = i)).map (fun p => (i, MeasVal.digest p.2))
  (images 1).toList ++ [(2, .digest Config.fuseDigest)] ++ (List.range 9).filterMap (fun k => images (k + 3)) ++
  [(12, .raw (s.sec.stateBytes e)), (13, .digest s.sec.logDigest)] ++
  (List.finRange 16).map (fun m => (16 + m.val, .raw (s.d.model m).measure))

/-- GET_MEASUREMENTS: one index, or all of them (index 0xFF). -/
def State.getMeasurements (s : State) (e : Env) (m : SpdmIn) : State :=
  s.spdm e m true spdmVersions (fun s =>
    (s, .measurements s.sec.akGen ((s.measurements e).filter (fun p => m.param2.toNat = 0xFF || p.1 = m.param2.toNat))))

-- Sessions -----------------------------------------------------------------------------------------------------------

/-- KEY_EXCHANGE (R430, R431, R435): at most four sessions, and none for 1 s after a level-2 event. -/
def State.keyExchange (s : State) (e : Env) (m : SpdmIn) : State :=
  s.spdm e m true spdmVersions (fun s =>
    if e.time.ticks < s.sec.barUntil then (s, .spdmError (.other (s.d.fab.freeNat 28 % 256)))
    else if 4 ≤ s.sec.sessions.length then (s, .spdmError .sessionLimitExceeded)
    else
      let id := s.sec.nextSession
      let q : Session := { id := id, via := m.via, open_ := false, last := e.time.ticks, keys := 0 }
      ({ s with sec := { s.sec with sessions := s.sec.sessions ++ [q], nextSession := id + 1 } }, .keyExchanged id))

/-- A message inside a session: `act` changes it. -/
def State.inSession (s : State) (e : Env) (m : SpdmIn) (signs : Bool) (act : Session → Session) : State :=
  s.spdm e m signs spdmVersions (fun s =>
    match m.session with
    | some i => ({ s with sec := { s.sec with sessions := s.sec.sessions.map (fun q => if q.id = i then act q else q) } }, .spdmAck i)
    | none => (s, .spdmError .invalidSession))

def State.finish (s : State) (e : Env) (m : SpdmIn) : State := s.inSession e m true (fun q => { q with open_ := true })
def State.heartbeat (s : State) (e : Env) (m : SpdmIn) : State := s.inSession e m false id
def State.keyUpdate (s : State) (e : Env) (m : SpdmIn) : State := s.inSession e m true (fun q => { q with keys := q.keys + 1 })

/-- END_SESSION: the session ends and its keys are erased. -/
def State.endSession (s : State) (e : Env) (m : SpdmIn) : State :=
  s.spdm e m false spdmVersions (fun s =>
    match m.session with
    | some i => ({ s with sec := { s.sec with sessions := s.sec.sessions.filter (fun q => q.id ≠ i) } }, .spdmAck i)
    | none => (s, .spdmError .invalidSession))

/-- HEARTBEAT_EXPIRY (R430, R458): a session's period of 60 s passes without a message. -/
def Sec.expire (s : Sec) (now id : Nat) : Sec := { s with sessions := s.sessions.filter (fun q => !(q.id = id && q.last + 60000000 ≤ now)) }

-- Lock and tamper ----------------------------------------------------------------------------------------------------

/-- A write of SEC_CTRL by the PF (R7, R433): RWL fields keep their value once SEC_LOCK is set; a 1 sets SEC_LOCK, a 0 is ignored. -/
def State.writeSecCtrl (s : State) (f : FuncId) (v : Word) : State :=
  if f ≠ 0 then s else
  let d := if s.sec.lock then s.d else s.d.putReg 0x600000 (v &&& 0xF2).toNat
  { s with d := d, sec := { s.sec with lock := s.sec.lock || v.getLsbD 0 } }

/-- SEC_LOCK. -/
def State.secLock (s : State) (f : FuncId) (v : Word) : State := if v.getLsbD 0 then s.writeSecCtrl f v else s

/-- The level of a source (Table Trust-5); 0: ignored. -/
def tamperLevel (e : Env) (src : Fin 6) : Nat := if src.val = 0 then t0Level e else if src.val = 1 then t1Level e else if src.val = 2 then 3 else 2

/-- A state sensor event (R439, R441): the sensor, its former and its present state. The manual gives it no severity. -/
def Dev.stateEvent (d : Dev) (sensor before now : Nat) : Dev :=
  d.pldmEvent (d.fab.freeNat 25 % 5) (leBytes 1 sensor ++ leBytes 1 before ++ leBytes 1 now)

/-- TAMPER_EVENT (R434, R435, Table Trust-6). The timebase that is out of its range is lost (R443). -/
def State.tamper (s : State) (e : Env) (src : Fin 6) : State :=
  let lv := tamperLevel e src
  if !s.d.pwr.vaon || lv = 0 then s else
  let bitOf : BitVec 6 := BitVec.ofNat 6 (2 ^ src.val)
  let q := { s.sec with sources := s.sec.sources ||| bitOf, level := Nat.max s.sec.level lv, timebaseLost := s.sec.timebaseLost || src.val = 4 }
  let q := if 2 ≤ lv then { q with lock := true, sessions := [], barUntil := e.time.ticks + 1000000 } else q
  let q := if lv = 3 then { q with level3 := q.level3 ||| bitOf, erased := true, count := satAdd 16 q.count 1 } else q
  let d := s.d.stateEvent 15 s.sec.level q.level
  { s with sec := q, d := if lv = 3 && eraseData e then d.orderReset e 4 0 1 false else d }

/-- SEC_TAMPER_STATUS (R435): bits of level 1 or 2 clear where a 1 is written and their condition is absent. -/
def State.clearTamper (s : State) (via : TamperPath) (v : Word) (present : BitVec 6) : State :=
  let clear := fun (s : State) (m : BitVec 6) => { s with sec := { s.sec with sources := s.sec.sources &&& ~~~(m &&& ~~~s.sec.level3 &&& ~~~present) } }
  match via with
  | .bar0 f => if f = 0 then clear s (v.setWidth 6) else s
  | .pldm => s.pldm s.d.pldmBinding (fun s => (clear s 0x3F, .pldmOk))

/-- COLD_RESET: by the mailbox with its key in ARG0, or by the PLDM effecter (R408, Table Trust-10). -/
def State.coldReset (s : State) (e : Env) (via : CmdPath) : State :=
  match via with
  | .mailbox f => s.submit e f 6 (fun s =>
      if e.reg 0x700104 = 0xC01D then
        let s := { s with d := s.d.respond 0 0 }.cold true
        { s with d := s.d.setLkk (fun k => { k with lastCause := 0 }) }
      else { s with d := s.d.respond 2 0 })
  | .pldm =>
    let b := s.d.pldmBinding
    if !s.d.pathUp b || s.d.lkk.bootStage = 0 || s.d.fuseless || s.d.busy.isSome then s.pldm b (fun s => (s, .pldmOk))
    else (s.answer b .pldmOk).cold true

-- PLDM ---------------------------------------------------------------------------------------------------------------

/-- SET_ENDPOINT_ID (R438): MCTP control, answered without a fuse map too. -/
def State.setEid (s : State) (b : MctpBinding) (eid : Byte) : State :=
  let i : Fin 2 := match b with | .i3c => 0 | .vdm => 1
  if !s.d.pathUp b || s.d.lkk.bootStage = 0 then s
  else match (if s.d.fuseless then none else s.d.busy) with
    | some h => s.answer b (.busy h)
    | none => { s with d := s.d.setLkk (fun k => { k with eid := k.eid.set i (some eid) }) }.answer b (.eidSet eid)

/-- State of sensors 9, 13, 14, 15 and 16. -/
def Dev.halvesState (d : Dev) : Nat := if d.fab.halfUp[0] then (if d.fab.halfUp[1] then 0 else 1) else (if d.fab.halfUp[1] then 2 else 3)
def Dev.timState (d : Dev) : Nat := if d.thm.rcs[0].alarm || d.thm.rcs[1].alarm then 2 else if d.thm.rcs[0].warn || d.thm.rcs[1].warn then 1 else 0
def Dev.fwState (d : Dev) : Nat := if d.lkk.trial.isSome then 1 else if d.lkk.fallback then 2 else 0
def State.stateSensors (s : State) : List (Nat × Nat) :=
  [(9, s.d.halvesState), (13, (s.d.cart 3).cstate.code), (14, s.d.timState), (15, s.sec.level), (16, s.d.fwState)]

/-- The hottest of several temperatures, in whole °C. -/
def hottest (l : List Dy) : Int := match l with | a :: r => (Dy.frac (r.foldl Dy.maxD a)).floor | [] => 0

/-- Values of a sensor (Table Trust-9). -/
def State.sensorValues (s : State) (e : Env) (n : Nat) : Option (List Int) :=
  let d := s.d
  let nat := fun (k : Nat) => (k : Int)
  match n with
  | 1 => some [nat (d.meanW 10)]
  | 2 => some [nat (d.pwr.capEff / 1000)]
  | 3 => some [nat (d.tEff e / 2)]
  | 4 => some [hottest (allSites.map d.logicTemp)]
  | 5 => some [hottest (allSites.flatMap (fun x => (List.finRange 8).filterMap (fun l => d.ctlTemp (.dram x l))))]
  | 6 => some [nat d.thm.throttled]
  | 7 => some [nat (d.svc.tokAt.filter (fun k => svcNow e < k + 1000000)).length]
  | 8 => some [nat d.activeTiles, nat d.sparesLeft]
  | 9 => some [nat d.halvesState]
  | 14 => some [nat (Nat.max ((d.thm.rcs[0].rcs).getD 0) ((d.thm.rcs[1].rcs).getD 0) / 10), nat d.timState]
  | 15 => some [nat s.sec.level]
  | 16 => some [nat d.fwState]
  | _ =>
    if h : 10 ≤ n ∧ n ≤ 13 then
      let c := d.cart ⟨n - 10, by omega⟩
      some [nat c.cstate.code, nat c.drive, nat c.eolHours]
    else if 17 ≤ n ∧ n ≤ 21 then some [nat ((e.fuse.factors[n - 17]?).getD 0)] else none

/-- LOAD_WINDOW (R420): at SHED 2 telemetry stops, and the sensors keep their values. -/
def State.loadWindow (s : State) (e : Env) (load : Nat) : State :=
  let d := s.d.loadWindow load
  { s with d := if 2 ≤ d.lkk.shed && s.d.lkk.shed < 2 then d.setLkk (fun k => { k with sensHeld := (List.range 22).map (fun n => s.sensorValues e n) }) else d }

/-- GET_SENSOR_READING (R439): at SHED 2 and above every sensor reports its last value, and is unavailable (R420). -/
def State.getSensor (s : State) (e : Env) (b : MctpBinding) (n : Nat) : State :=
  s.pldm b (fun s => match s.sensorValues e n with
    | some v =>
      if s.d.lkk.shed < 2 then (s, .sensor v false)
      else (s, .sensor (((s.d.lkk.sensHeld[n]?).getD none).getD v) true)
    | none => (s, .pldmError (s.d.fab.freeNat 29 % 256)))

/-- POWER_CAP_EFFECTER (R351, Table Trust-10). -/
def State.capEffecter (s : State) (e : Env) (b : MctpBinding) (watts : Nat) : State :=
  s.pldm b (fun s =>
    if 300 ≤ watts && watts ≤ e.fuse.capW then ({ s with d := { s.d with pwr := { s.d.pwr with pldmCap := some watts } } }, .pldmOk)
    else (s, .invalidData))

/-- PLATFORM_EVENT_ACK (R441): the event that was sent leaves the queue, and the next is sent. -/
def Dev.eventAck (d : Dev) : Dev :=
  if d.thm.sideLost || !d.lkk.evSent then d
  else (d.setLkk (fun k => { k with events := k.events.drop 1, evSent := false })).sendEvent

-- PLDM firmware update -----------------------------------------------------------------------------------------------

def State.setUpd (s : State) (u : PldmUpd) : State := { s with d := s.d.setLkk (fun k => { k with upd := some u }) }

/-- REQUEST_UPDATE (R442): not while the mailbox stages or activates, nor while another update is in progress. -/
def State.requestUpdate (s : State) (b : MctpBinding) : State :=
  s.pldm b (fun s =>
    if s.d.lkk.op.isSome || s.d.lkk.trial.isSome || s.d.lkk.updating then (s, .retryRequestUpdate)
    else (s.setUpd { comps := [], got := 0, done := [], state := 1 }, .pldmOk))

/-- PASS_COMPONENT_TABLE (Table Trust-11 step 1). Once it is answered, Lockkeeper asks for the first image. -/
def State.passTable (s : State) (b : MctpBinding) (comps : List Byte) : State :=
  let cs := comps.map BitVec.toNat
  let taken := match s.d.lkk.upd with
    | some u => u.state == 1 && !cs.isEmpty && cs.all (fun n => 1 ≤ n && n ≤ 10)
    | none => false
  let q := s.pldm b (fun s =>
    match s.d.lkk.upd with
    | some u =>
      if !taken then (s, .invalidData)
      else
        let s := s.setUpd { u with comps := cs, state := 2 }
        ({ s with d := cs.foldl (fun d n => d.setComp n { d.comp n with staging := true }) s.d }, .pldmOk)
    | none => (s, .invalidData))
  if taken && q.d.lkk.upd != s.d.lkk.upd then q.answer b (.fwRequest (cs.headD 0) 0 1024) else q

/-- FIRMWARE_DATA (Table Trust-11 steps 2 to 4): a piece of at most 1,024 bytes in order, after which Lockkeeper asks for the next; with the
last one the image is checked, and staged or the update fails. -/
def State.firmwareData (s : State) (b : MctpBinding) (p : FwPiece) : State :=
  if !s.d.pathUp b || !s.d.class3 then s else
  match s.d.lkk.upd with
  | some u =>
    match u.comps with
    | n :: rest =>
      if u.state ≠ 2 || p.comp ≠ n || p.off ≠ u.got || p.len = 0 || 1024 < p.len then s
      else match p.image with
        | none => (s.setUpd { u with got := u.got + p.len }).answer b (.fwRequest n (u.got + p.len) 1024)
        | some i =>
          if s.sec.timebaseLost then s else
          let s := { s with d := s.d.setComp n { s.d.comp n with staging := false } }
          let q := s.stageImage n i
          let q := ((q.1.answer b (.fwTransferred n)).answer b (.fwVerified n (q.2 == 0)), q.2)
          if q.2 = 0 then
            let s := (q.1.answer b (.fwApplied n)).setUpd { comps := rest, got := 0, done := u.done ++ [n], state := if rest.isEmpty then 3 else 2 }
            match rest with
            | m :: _ => s.answer b (.fwRequest m 0 1024)
            | [] => s
          else
            let s := { q.1 with d := rest.foldl (fun d k => d.setComp k { d.comp k with staging := false }) q.1.d }
            s.setUpd { u with state := 6 }
    | [] => s
  | none => s

/-- ACTIVATE_FIRMWARE (Table Trust-11 steps 5 and 6): every staged component as one bundle. -/
def State.activateFirmware (s : State) (e : Env) (b : MctpBinding) (health : List FwHealth) : State :=
  s.pldm b (fun s =>
    match s.d.lkk.upd with
    | some u => if u.state = 3 then (s.switchAll e s.d.stagedComps health false false, .pldmOk) else (s, .invalidData)
    | none => (s, .invalidData))

/-- GET_STATUS. -/
def State.getStatus (s : State) (b : MctpBinding) : State :=
  s.pldm b (fun s => (s, .fwProgress (match s.d.lkk.upd with | some u => u.state | none => 0)))

end Sys2Proof.Machine
end

