-- ==== Sys2Proof/Machine/Ops.lean ====
section
/-! DEFINITION. What every command shares: the registers that functions write, what a command may read, how its effect reaches the
parts of the state, what follows at once from a change, and the time tick. -/

namespace Sys2Proof.Machine

-- Registers of the PF ------------------------------------------------------------------------------------------------

/-- A register whose writable bits are stored and do nothing else at once: BAR0 offset, writable bits, reset value (Tables Regmap-3 to
Regmap-5). -/
structure PlainReg where
  off : Nat
  mask : Nat
  reset : Nat
deriving DecidableEq, Repr

def plainRegs : List PlainReg :=
  [ ⟨0x4000, 0x0FFFFFF1, 0x020A0540⟩, ⟨0x400C, 0xFFFF, 0x64⟩, ⟨0x4100, 0xFF01FFFF, 0x10000E10⟩, ⟨0x4104, 0x00FFFF07, 0x00081007⟩,
    ⟨0x4200, 0xFFFFFFFF, 0xFF324308⟩, ⟨0x4204, 0x1FFFF, 0x00010064⟩, ⟨0x4208, 0xFFF, 0⟩, ⟨0x4300, 0xFFF, 0⟩, ⟨0x4308, 0x7FFF, 0x400⟩,
    ⟨0x4400, 0xF0FF07FF, 0x200A0000⟩, ⟨0x4420, 0x80F0FFFF, 0x80200018⟩, ⟨0x100000, 0x0F00FFFF, 0x04000014⟩,
    ⟨0x201000, 0x80FFFFFF, 0x80053204⟩, ⟨0x201004, 0xFFFF, 0x64⟩, ⟨0x201010, 0xFFDF, 0⟩, ⟨0x300004, 0xFFFF, 0x0A⟩, ⟨0x400000, 0xFFFF, 0⟩,
    ⟨0x400018, 0xFFFF, 0x0303⟩, ⟨0x400020, 0xFFFFFF, 0x000A640A⟩, ⟨0x400030, 0xFF, 0x34⟩, ⟨0x500008, 0xFFFFFFFF, 0x1E0F⟩,
    ⟨0x50000C, 0xFFFF, 0⟩, ⟨0x700008, 0x1FFFF, 0x258⟩ ]

def plainReg (o : Nat) : Option PlainReg := plainRegs.find? (fun r => r.off == o)

/-- Registers whose write does more: their reset values. -/
def otherReset (fu : Fuses) (o : Nat) : Nat :=
  match o with
  | 0x202000 => 0x07D00000
  | 0x400004 => fusePower fu
  | 0x400008 => fusePeak fu
  | 0x400040 => 0x0904
  | 0x600000 => 0xE0
  | 0x200800 => fu.macBase % 2 ^ 32
  | 0x200804 => fu.macBase / 2 ^ 32 % 2 ^ 16
  | _ =>
    if 0x200000 ≤ o && o < 0x200400 then 0x2400
    else if 0xC00000 ≤ o && o < 0x1C00000 then
      (match (o - 0xC00000) % 0x8000 with
       | 0x100 => 0x186A0
       | 0x138 => 0x3E810
       | _ => 0)
    else 0

/-- Reset value of a register of PF BAR0 that a function writes. -/
def regReset (fu : Fuses) (o : Nat) : Nat :=
  match plainReg o with
  | some r => r.reset
  | none => otherReset fu o

/-- What a register holds. -/
def Dev.reg (d : Dev) (fu : Fuses) (o : Nat) : Nat := tget d.regs (regReset fu o) o

-- What a command reads, and where its effect goes --------------------------------------------------------------------

/-- What a command may read beside its own part of the state: the time, the registers, SEC_LOCK and the fuse map. -/
def State.env (s : State) : Env :=
  { time := s.time, lock := s.sec.lock, fuse := s.fuse
    reg := fun o => if o = 0x201008 then s.d.collLevels else if o = 0x4214 then s.d.tsLevels else s.d.reg s.fuse o }

/-- Each command draws its free values at a count of its own. -/
def Dev.bump (d : Dev) : Dev := { d with fab := { d.fab with free := d.fab.free + 1 } }
def State.bump (s : State) : State := { s with d := s.d.bump }

/-- A command whose effect is on the halves alone. -/
def State.onFab (s : State) (g : Env → Fabric → Fabric) : State := { s with d := { s.d.bump with fab := g s.env s.d.bump.fab } }

/-- A command whose effect is on the device, and after which no condition of the device as a whole has to be looked at. -/
def State.onDev (s : State) (g : Env → Dev → Dev) : State := { s with d := g s.env s.d.bump }

/-- An event message for each state sensor of Table Trust-9 whose state has changed; the security block sends its own. -/
def sensorEvents (was : List (Nat × Nat)) (now : List (Nat × Nat)) (d : Dev) : Dev :=
  (was.zip now).foldl (fun d p => if p.1.1 == 15 || p.1.2 == p.2.2 then d else d.stateEvent p.1.1 p.1.2 p.2.2) d

/-- What follows at once from the change that a command has made: a change of the launches in flight ends a phase (R353); a site whose
tile is no longer bound starts its wait (R343); a half whose conditions are met comes into service; a state sensor that has changed tells
(R439). -/
def State.follow (before s : State) : State :=
  let d := s.d
  let d := if d.svc.launches = before.d.svc.launches then d else d.notePhases
  let d := if d.svc.models = before.d.svc.models && d.fab.sites = before.d.fab.sites && d.pwr.doms = before.d.pwr.doms &&
      d.fab.clusters = before.d.fab.clusters then d else d.noteIdle s.env
  let s := { s with d := d.halfUpCheck }
  { s with d := sensorEvents before.stateSensors s.stateSensors s.d }

/-- A command whose effect is on the device, with what follows from it. -/
def State.onAll (s : State) (g : Env → Dev → Dev) : State := s.follow (s.onDev g)

/-- A command that also acts on the security block or on time. -/
def State.onState (s : State) (g : Env → State → State) : State := s.follow (g s.env s.bump)

/-- A command of the error aggregator. -/
def State.onAgg (s : State) (g : Agg → Dev → Env → Agg × Dev) : State :=
  let p := g s.agg s.d.bump s.env
  s.follow (State.remeasure s.d { s with agg := p.1, d := p.2 })

-- Time ---------------------------------------------------------------------------------------------------------------

/-- `n` more ticks missed by a block. -/
def addMissed (b : TickBlock) (n : Nat) : List (TickBlock × Nat) → List (TickBlock × Nat)
  | [] => [(b, n)]
  | p :: r => if p.1 = b then (b, p.2 + n) :: r else p :: addMissed b n r

/-- The step engines that a Sluice cut holds, with their wait timers (R348). -/
def Dev.cutEngines (d : Dev) : List TickBlock :=
  (allClusters.filter (fun c => d.pwr.cut.getLsbD c.val)).flatMap (fun c => (clusterSites c).map TickBlock.stepEngine)

/-- TIME_TICK (R21, R472): every block but those that receive no tick, and those that hold their timers, counts one more. -/
def State.tick (s : State) : State :=
  let held := (s.time.lost ++ s.d.cutEngines).dedup
  { s.bump with time := { s.time with ticks := s.time.ticks + 1, missed := held.foldl (fun l b => addMissed b 1 l) s.time.missed } }

/-- What a TICK_LOST report names. The manual names no port for the network, and no key for the host port's: the port is free. -/
def tickSuspect (free : Nat) : TickBlock → Suspect
  | .stepEngine x => .site x
  | .channelRoot x => .site x
  | .rLayer h => .half h
  | .aggregator => .basinBlock 8
  | .tokenService => .basinBlock 4
  | .barge => .basinBlock 3
  | .hostInterface => .basinBlock 1
  | .collective => .basinBlock 9
  | .weir => .basinBlock 12
  | .lockkeeper => .basinBlock 6
  | .network => .port ⟨free % 16, by omega⟩

/-- A channel root refreshes by its own oscillator while it receives no ticks (R184). -/
def Dev.setFallback (d : Dev) (b : TickBlock) (v : Bool) : Dev :=
  match b with
  | .channelRoot x => d.onFab (fun f => f.setCol x { f.col x with fallback := v })
  | _ => d

/-- TICK_LOST (R22): the block has received no tick for 16 µs, so the last 16 have not reached it, and it holds its tick-driven counters
from here on. -/
def State.tickLost (s : State) (b : TickBlock) : State :=
  if s.time.lost.contains b then s.bump else
  let s1 := { s.bump with time := { s.time with
    lost := s.time.lost ++ [b], missed := addMissed b (Nat.min 16 (blockTicks s.time b)) s.time.missed } }
  { s1 with d := (s1.d.setFallback b true).onFab (fun f => f.report s1.env 0x0801 (tickSuspect (s.d.bump.fab.freeNat 30) b) 0 0) }

/-- TICK_RESUME (R22): the held counters resume from their held values. -/
def State.tickResume (s : State) (b : TickBlock) : State :=
  { s.bump with time := { s.time with lost := s.time.lost.filter (fun q => q ≠ b) }, d := s.d.bump.setFallback b false }

-- Issue of steps -----------------------------------------------------------------------------------------------------

/-- The site's step engine runs: its domain is ON. -/
def Dev.engineOn (d : Dev) (t : TileId) : Bool :=
  match d.fab.siteOf t with
  | some x => d.siteOn x
  | none => false

/-- Steps of a tile issue: its engine runs, and no Sluice cut holds its cluster (R348). -/
def Dev.mayIssue (d : Dev) (t : TileId) : Bool := d.engineOn t && !d.pwr.cut.getLsbD (tileCluster t).val

/-- A command of a step stream: nothing issues while the tile may not issue. -/
def State.onStep (s : State) (t : TileId) (g : Env → Fabric → Fabric) : State := if s.d.mayIssue t then s.onFab g else s.bump

/-- The sampler of a cluster is powered (unit 17). -/
def Dev.samplerOn (d : Dev) (c : ClusterId) : Bool := (d.dom (domAt (clusterHalf c).val (clusterPcl c) 17)).state == .on

end Sys2Proof.Machine
end

