-- ==== Sys2Proof/Machine/Registers.lean ====
section
/-! DEFINITION. REGISTER_WRITE: a write of BAR0 by a function, register by register (chapter "Setup register map", R244, R464–R466). -/

namespace Sys2Proof.Machine

-- MSI-X --------------------------------------------------------------------------------------------------------------

/-- A word of an MSI-X table entry: address low, address high, data, vector control. A vector that is unmasked while its message is
pending sends it. -/
def Dev.msixWrite (d : Dev) (f : FuncId) (i : Nat) (v : Word) : Dev :=
  let key := vecKey f (i / 4)
  let m := tget d.host.msix MsixEntry.init key
  let n := v.toNat
  let put := fun (x : MsixEntry) => { d with host := { d.host with msix := tset d.host.msix MsixEntry.init key x } }
  match i % 4 with
  | 0 => put { m with addr := m.addr / 2 ^ 32 * 2 ^ 32 + n }
  | 1 => put { m with addr := m.addr % 2 ^ 32 + n * 2 ^ 32 }
  | 2 => put { m with data := n }
  | _ =>
    if v.getLsbD 0 then put { m with masked := true }
    else if m.pending then (put { m with masked := false, pending := false }).msix f (i / 4)
    else put { m with masked := false }

-- Context windows ----------------------------------------------------------------------------------------------------

/-- A 64-bit value with one half written. -/
def withHalf (old : Nat) (hi : Bool) (v : Nat) : Nat := if hi then old % 2 ^ 32 + v * 2 ^ 32 else old / 2 ^ 32 * 2 ^ 32 + v

/-- The writable registers of a context window (Table Regmap-7). -/
def Ctx.writeWindow (x : Ctx) (off : Nat) (v : Word) : Ctx :=
  let n := v.toNat
  match off with
  | 0x08 => { x with sqBase := withHalf x.sqBase false n }
  | 0x0C => { x with sqBase := withHalf x.sqBase true n }
  | 0x10 => { x with cqBase := withHalf x.cqBase false n }
  | 0x14 => { x with cqBase := withHalf x.cqBase true n }
  | 0x18 => { x with eqBase := withHalf x.eqBase false n }
  | 0x1C => { x with eqBase := withHalf x.eqBase true n }
  | 0x20 => { x with ringSize := (v &&& 0x000F0F0F).toNat }
  | 0x24 => { x with irq := (v &&& 0x80FF07FF).toNat }
  | 0x28 => { x with irqTime := (v &&& 0xFFFF).toNat }
  | 0x2C => { x with cfg := (v &&& 1).toNat }
  | 0x30 => { x with swapBase := withHalf x.swapBase false n }
  | 0x34 => { x with swapBase := withHalf x.swapBase true n }
  | 0x38 => { x with swapSize := n }
  | _ => x

/-- A write to a context window (R247, R249): CTX_CTRL by its CMD, any other register in DISABLED by the context's function. -/
def Dev.ctxWrite (d : Dev) (e : Env) (f : FuncId) (c : CtxId) (off : Nat) (v : Word) : Dev :=
  if off = 0 then
    match fld v.toNat 1 0 with
    | 1 => d.enable e f c
    | 2 => d.disable e f c
    | 3 => d.resetCtx e f c
    | _ => d
  else if d.owns f c && (d.ctx c).phase == .disabled then d.modCtx c (fun x => x.writeWindow off v)
  else d

/-- The context at local index k of a VF. -/
def Dev.localCtx (d : Dev) (f : FuncId) (k : Nat) : Option CtxId :=
  d.liveCtxs.find? (fun c => (d.ctx c).func == f && (d.ctx c).loc == k)

-- Collective groups and queue pairs ----------------------------------------------------------------------------------

/-- A write to a group (R315): everything but GSTATE only while the group is OFF. -/
def Dev.groupWrite (d : Dev) (e : Env) (id : GroupId) (off : Nat) (v : Word) : Dev :=
  let g := d.group id
  let n := v.toNat
  let free := g.gstate == 0
  if off = 0 then
    let d := if free then d.setGroup id { g with rank := fld n 13 8, n := fld n 22 16 } else d
    match fld n 1 0 with
    | 0 => d.gstateOff e 0 id
    | 1 => d.gstateHello e 0 id
    | _ => d
  else if !free then d
  else if off = 4 then d.setGroup id { g with udq := fld n 28 16 }
  else if off = 8 then d.setGroup id { g with gid := withHalf g.gid false n }
  else if off = 0xC then d.setGroup id { g with gid := withHalf g.gid true n }
  else if 0x40 ≤ off && off < 0x240 then
    let r := (off - 0x40) / 8
    let old := tget g.members 0 r
    let new := if (off - 0x40) % 8 = 0 then withHalf old false (v &&& 0xFFFF9FFF).toNat else withHalf old true (v &&& 0xFF).toNat
    d.setGroup id { g with members := tset g.members 0 r new }
  else d

/-- A write to a queue pair record (R304, R305): word 0 by its STATE, the other words only in RESET. -/
def Dev.qpWrite (d : Dev) (e : Env) (i : QpId) (word : Nat) (v : Word) : Dev :=
  let q := d.qp i
  if word = 0 then
    match fld v.toNat 2 0 with
    | 0 => d.qpReset e 0 i v
    | 1 => d.qpRts e 0 i v
    | _ => if q.state = 0 then d.setQp i ((q.setF 0 31 0 v.toNat).setF 0 2 0 0) else d
  else if q.state = 0 then d.setQp i (q.setF (4 * word) 31 0 v.toNat)
  else d

-- The mailbox --------------------------------------------------------------------------------------------------------

/-- How each component's self-test turns out, where no command says it: free. -/
def Dev.freeHealth (d : Dev) : List FwHealth := (List.range 10).map (fun k => { comp := k + 1, ok := d.fab.freeNat (40 + k) % 2 == 0 })

/-- A write of LKK_MBX_CMD (R413): discarded while GO is 1; COMP and CMD are held, and GO = 1 submits the command. -/
def State.mbxWrite (s : State) (v : Word) : State :=
  if bit (s.d.reg s.fuse 0x700100) 31 then s else
  let s := { s with d := s.d.putReg 0x700100 (v &&& 0xFFFF).toNat }
  let e := s.env
  if !v.getLsbD 31 then s else
  match fld v.toNat 7 0 with
  | 1 => s.fwStage e 0
  | 2 => s.fwActivate e 0 s.d.freeHealth
  | 3 => s.fwCommit e 0
  | 4 => s.fwRevert e 0
  | 5 => s.handover e 0
  | 6 => s.coldReset e (.mailbox 0)
  | k => s.submit e 0 k (fun s => { s with d := s.d.respond 2 0 })

-- The whole map ------------------------------------------------------------------------------------------------------

/-- NET_CART_CTRL (R331): EOL_WARN_H is held, PREPARE or CANCEL acts on the cartridge that CART names. -/
def Dev.cartCtrlWrite (d : Dev) (e : Env) (v : Word) : Dev :=
  let k : CartId := ⟨v.toNat % 4, Nat.mod_lt _ (by decide)⟩
  let d := d.putReg 0x202000 (fld v.toNat 31 16 * 2 ^ 16 + b2n (v.getLsbD 5) * 2 ^ 5 + k.val)
  let e := { e with reg := fun o => if o = 0x202000 then d.reg e.fuse o else e.reg o }
  if v.getLsbD 4 then d.order e (.prepare k (v.getLsbD 5))
  else if v.getLsbD 6 then d.order e (.cancel k)
  else d

/-- A TILE_ window takes writes: the site map is valid, the half is up and the tile is there (R28, R245). -/
def Dev.tileTakes (d : Dev) (t : TileId) : Bool := d.fab.mapValid && d.fab.halfUp[tileHalf t] && (d.fab.siteOf t).isSome

/-- A write to a TILE_ window. -/
def Dev.tileWrite (d : Dev) (e : Env) (t : TileId) (off : Nat) (v : Word) : Dev :=
  if !d.tileTakes t then d
  else if off = 0x100 then d.putReg (tileReg t 0x100) v.toNat
  else if off = 0x138 then d.putReg (tileReg t 0x138) (v &&& 0xFFFFFF).toNat
  else if off = 0x140 then d.onFab (fun f => f.writeDbgSel e t v)
  else d

/-- Registers of the PF outside the arrays of windows. -/
def State.oneWrite (s : State) (off : Nat) (v : Word) : State :=
  let e := s.env
  let dev := fun (d : Dev) => { s with d := d }
  match off with
  | 0x420C =>
    let c := fld (e.reg 0x4208) 11 0
    dev { s.d with svc := { s.d.svc with ctxData := tset s.d.svc.ctxData 0x04000010 c (v &&& 0xFFFF03FF).toNat } }
  | 0x4304 => dev (s.d.bind e 0 v)
  | 0x4408 => { s with agg := s.agg.consume 0 v }
  | 0x4424 => dev (s.d.migCtrl e 0 v)
  | 0x4500 => if 1 ≤ fld v.toNat 10 8 && fld v.toNat 10 8 ≤ 4 then dev (s.d.writeReset e 0 (fld v.toNat 10 8) v) else s
  | 0x202000 => dev (s.d.cartCtrlWrite e v)
  | 0x400040 => dev (s.d.writeMode e 0 v)
  | 0x600000 => s.writeSecCtrl 0 v
  | 0x600008 => s.clearTamper (.bar0 0) v (BitVec.ofNat 6 (s.d.fab.freeNat 50))
  | 0x700100 => s.mbxWrite v
  | _ => if 0x700104 ≤ off && off ≤ 0x700110 && !bit (e.reg 0x700100) 31 then dev (s.d.putReg off v.toNat) else s

/-- A 32-bit write of the PF's BAR0 at an aligned offset. -/
def State.pfWrite (s : State) (off : Nat) (v : Word) : State :=
  let e := s.env
  let dev := fun (d : Dev) => { s with d := d }
  match plainReg off with
  | some r =>
    let d := s.d.putReg off ((v &&& BitVec.ofNat 32 r.mask).toNat)
    dev (if off = 0x50000C then d.restartBase else if off = 0x201010 then d.ptpCfg v.toNat else d)
  | none =>
    if 0x80000 ≤ off && off < 0x88000 then dev (s.d.msixWrite 0 ((off - 0x80000) / 4) v)
    else if 0x200000 ≤ off && off < 0x200400 then
      let n : PortId := ⟨(off - 0x200000) / 0x40 % 16, Nat.mod_lt _ (by decide)⟩
      if (off - 0x200000) % 0x40 ≠ 0 then s
      else dev (if v.getLsbD 31 then s.d.portEnable e 0 n v else s.d.portDisable e 0 n v)
    else if 0x240000 ≤ off && off < 0x250000 then dev (s.d.groupWrite e (groupFin ((off - 0x240000) / 0x400)) ((off - 0x240000) % 0x400) v)
    else if 0x280000 ≤ off && off < 0x300000 then dev (s.d.qpWrite e (qpFin ((off - 0x280000) / 64)) ((off - 0x280000) % 64 / 4) v)
    else if 0xC00000 ≤ off && off < 0x1C00000 then dev (s.d.tileWrite e (tileOfNat ((off - 0xC00000) / 0x8000)) ((off - 0xC00000) % 0x8000) v)
    else if 0x1C00000 ≤ off && off < 0x3C00000 then
      dev (s.d.ctxWrite e 0 ⟨(off - 0x1C00000) / 0x2000 % 4096, Nat.mod_lt _ (by decide)⟩ ((off - 0x1C00000) % 0x2000) v)
    else s.oneWrite off v

/-- A 32-bit write of a VF's BAR0 at an aligned offset (Table Regmap-8). -/
def State.vfWrite (s : State) (f : FuncId) (off : Nat) (v : Word) : State :=
  if 0x1000 ≤ off && off < 0x1100 then { s with d := s.d.msixWrite f ((off - 0x1000) / 4) v }
  else if 0x20000 ≤ off && off < 0x40000 then
    match s.d.localCtx f ((off - 0x20000) / 0x2000) with
    | some c => { s with d := s.d.ctxWrite s.env f c ((off - 0x20000) % 0x2000) v }
    | none => s
  else s

def State.write32 (s : State) (f : FuncId) (off : Nat) (v : Word) : State := if f = 0 then s.pfWrite off v else s.vfWrite f off v

-- Configuration space ------------------------------------------------------------------------------------------------

/-- A write of a configuration register (Table Host-1). PRESUMED: the bit layout of PCI Express Base. Max_Payload_Size and
Max_Read_Request_Size are the PF's, for every function; disabling ATS drops the function's translations. -/
def Dev.cfgWrite (d : Dev) (e : Env) (f : FuncId) (r : CfgReg) (v : Nat) : Dev :=
  let c := d.cfg f
  match r with
  | .deviceControl =>
    if f = 0 then d.setCfg 0 { c with mps := Nat.min 512 (128 * 2 ^ fld v 7 5), mrrs := Nat.min 4096 (128 * 2 ^ fld v 14 12) } else d
  | .deviceControl2 => d.setCfg f { c with cto := fld v 3 0 }
  | .atsControl =>
    if f = 0 then d else
    let d := d.setCfg f { c with ats := bit v 15 }
    if bit v 15 then d
    else Dev.drainPosts e d.host.posts [] [] { d with host := { d.host with atc := d.host.atc.filter (fun t => t.func ≠ f) } }
  | .acsControl => d.setCfg f { c with acs := Nat.land v 0x6C }
  | .aerStatus => d.setCfg f { c with aer := Nat.xor c.aer (Nat.land c.aer v) }

/-- A write of BAR0 (R244): aligned 32 bits, or aligned 64 bits as two writes, lower address first; any other is discarded. -/
def State.barWrite (s : State) (f : FuncId) (off size : Nat) (v : BitVec 64) : State :=
  if size = 4 && off % 4 = 0 then s.write32 f off (v.setWidth 32)
  else if size = 8 && off % 8 = 0 then (s.write32 f off (v.setWidth 32)).write32 f (off + 4) ((v >>> 32).setWidth 32)
  else s

/-- A register write of a function: in BAR0, or in its configuration space, which takes none under PERST_N. -/
def State.write (s : State) (f : FuncId) (tgt : RegTarget) (size : Nat) (v : BitVec 64) : State :=
  if !s.d.funcOn f then s else
  match tgt with
  | .bar0 off => s.barWrite f off size v
  | .config r => if s.d.host.perst then s else { s with d := s.d.cfgWrite s.env f r v.toNat }

end Sys2Proof.Machine
end

