-- ==== Sys2Proof/Machine/CmdOps.lean ====
section
/-! DEFINITION. What single commands do beyond the operation of their own part: fused data that they add, conditions of power under which
they act, and consequences in a second part of the device. -/

namespace Sys2Proof.Machine

-- Fused data (Table Bringup-2) -----------------------------------------------------------------------------------------

/-- Repair entries in the order of the fuse map, each at the next index of its bank: key per × bank + index, and the word without its spare
and number. -/
def fusedEntries (per shift : Nat) (l : List DramFuse) : List (Nat × Word) :=
  (List.range 128).flatMap (fun b =>
    ((l.filter (fun q => q.bank == b)).zipIdx.take per).map (fun p => (per * b + p.2, BitVec.ofNat 32 (2 ^ 31 + p.1.spare * 2 ^ shift + p.1.n))))

def Fuses.rowsOf (fu : Fuses) (x : SiteIx) : List (Nat × Word) := fusedEntries 32 12 (fu.dram.filter (fun q => q.site == x && q.isRow))
def Fuses.colsOf (fu : Fuses) (x : SiteIx) : List (Nat × Word) := fusedEntries 8 11 (fu.dram.filter (fun q => q.site == x && !q.isRow))

/-- Fused lanes of a column: they fail their training. -/
def Fuses.lanesOf (fu : Fuses) (x : SiteIx) : List LaneLoc :=
  fu.tsv.filterMap (fun q =>
    if q.1 = x then some { boundary := ⟨q.2.1 % 8, Nat.mod_lt _ (by decide)⟩, lane := ⟨(64 * q.2.2.1 + q.2.2.2) % 9216, Nat.lt_of_lt_of_le (Nat.mod_lt _ (by decide)) (by decide)⟩ }
    else none)

/-- REPAIR_TABLE_RELOAD (R202): the tables and lane settings that the fuse map and Lockkeeper's record hold for the column. -/
def Dev.reloadColumn (d : Dev) (e : Env) (x : SiteIx) : Dev :=
  let b := d.lkk.written
  let mine := fun (l : List (SiteIx × Nat × Word)) => (l.filter (fun r => r.1 = x)).map (·.2)
  d.onFab (fun f => f.repairReload e x (e.fuse.rowsOf x ++ mine b.rows) (e.fuse.colsOf x ++ mine b.cols)
    ((b.lanes.filter (fun r => r.1 = x)).map (·.2)))

/-- The lanes of a direction of a half link that are not fused as bad (R283). -/
def Fuses.linkOk (fu : Fuses) (n : LinkId) (dir : Nat) : BitVec 66 :=
  fu.linkLanes.foldl (fun m q => if q.1 = n && q.2.1 = dir then m &&& ~~~(BitVec.ofNat 66 (2 ^ (q.2.2 % 66))) else m) (BitVec.allOnes 66)

-- Tiles ----------------------------------------------------------------------------------------------------------------

/-- The step engine of a site holds an image in its code bank in use (R407). -/
def Dev.codeLoaded (d : Dev) (x : SiteIx) : Bool :=
  let s := d.fab.site x
  (if s.bank = 0 then s.code.1 else s.code.2) != 0

/-- SEND_DELIVERY: a packet that goes into a fenced half counts as a drop of the fence (Table Basin-7 step 3); one out of a fenced half was
counted when the fence came (step 2). -/
def Dev.sendDelivery (d : Dev) (e : Env) (t : TileId) (st : StreamId) (id : Nat) : Dev :=
  let g := d.fab.sendDelivery e t st id
  let held : Fabric → Option SendRec := fun f => match f.siteOf t with
    | some x => ((f.site x).stream st).sends.find? (fun (r : SendRec) => r.id == id)
    | none => none
  match held d.fab with
  | none => { d with fab := g }
  | some r =>
    let crosses := tileHalf r.peer != tileHalf t && !d.fab.fenced[tileHalf t] && d.fab.fenced[tileHalf r.peer]
    let d := { d with fab := g }
    if crosses && (held g).isNone then d.fenceDrop 1 else d

/-- A read of a read-to-clear counter of a TILE_ window: 0, and nothing cleared, for a half that is not up, for an absent tile, before
MAP_VALID, and for a function without that window (R28, R243, R245). -/
def Dev.readTileReg (d : Dev) (f : FuncId) (t : TileId) (rd : Fabric → Fabric × Nat) : Dev :=
  if f = 0 && d.tileTakes t then
    let p := rd d.fab
    ({ d with fab := p.1 }).send (.regValue p.2)
  else d.send (.regValue 0)

def Dev.meshLaneFail (d : Dev) (e : Env) (c : ClusterId) (dir : Fin 4) : Dev := d.onFab (fun f => f.meshLaneFail e c dir)

/-- A Towpath register write in a half with its response status (R290, R469): without a trunk it reaches no node and none answers; a node
without power answers NOT_POWERED; a write that is not `taken` is DISCARDED; any other has its effect. -/
def Dev.towWrite (d : Dev) (h : HalfId) (powered taken : Bool) (act : Dev → Dev) : Dev :=
  if !d.towUp h then d
  else if !powered then d.send (.towpath 1)
  else if !taken then d.send (.towpath 2)
  else (act d).send (.towpath 0)

/-- Nodes on VMESH: channel roots, pace monitors and cluster switches. -/
def Dev.towMesh (d : Dev) (h : HalfId) (taken : Bool) (act : Dev → Dev) : Dev := d.towWrite h (d.bankSt h 16 == .up) taken act
/-- The R-layer controller runs on VIN. -/
def Dev.towLayer (d : Dev) (h : HalfId) (taken : Bool) (act : Dev → Dev) : Dev := d.towWrite h d.pwr.vin[h] taken act

-- Models ---------------------------------------------------------------------------------------------------------------

/-- MODEL_LOAD (R207, R353): the coefficients of a slot that begins to load return to K_INIT. -/
def Dev.loadSlot (d : Dev) (e : Env) (c : CtxId) (hdr : Option (List Byte)) : Dev :=
  let g := d.modelLoad e c hdr
  (List.finRange 16).foldl (fun g m => if (d.model m).phase != .reading && (g.model m).phase == .reading then g.forgetPhases m.val else g) g

/-- MODEL_IMAGE_READ_COMPLETE (R207, R343): the sites of the tiles that the slot binds are powered on. -/
def Dev.imageBound (d : Dev) (e : Env) (m : ModelSlotId) (img : Option (List Byte)) : Dev :=
  let g := d.imageRead e m img
  if (d.model m).phase == .reading && (g.model m).phase == .zeroing then g.powerTiles (g.model m).bind else g

/-- Every tile that the slot binds is powered and has passed its tests. -/
def Dev.slotReady (d : Dev) (m : ModelSlotId) : Bool :=
  (d.model m).bind.all (fun t => match d.fab.siteOf t with
    | some x => d.siteOn x && (d.fab.site x).ready
    | none => false)

-- Cartridges -----------------------------------------------------------------------------------------------------------

/-- PREPARE by the register, or by the PLDM effecter, which answers ERROR_INVALID_DATA where the order is refused (R331, R440). -/
def State.cartPrepare (s : State) (e : Env) (via : CartPath) (k : CartId) (force : Bool) : State :=
  match via with
  | .bar0 f => if f = 0 then { s with d := (s.d.cartCtrl e k force).order e (.prepare k force) } else s
  | .pldm => s.pldm s.d.pldmBinding (fun s =>
      let d := s.d.prepare e k false
      ({ s with d := d }, if d.net.refused then .invalidData else .pldmOk))

/-- CANCEL by the register or by the PLDM effecter. -/
def State.cartCancel (s : State) (e : Env) (via : CartPath) (k : CartId) : State :=
  match via with
  | .bar0 f => if f = 0 then { s with d := (s.d.cartCtrl e k (bit (e.reg 0x202000) 5)).order e (.cancel k) } else s
  | .pldm => s.pldm s.d.pldmBinding (fun s => ({ s with d := s.d.cancelCart e k }, .pldmOk))

end Sys2Proof.Machine
end

