-- ==== Sys2Proof/Machine/CmdBringup.lean ====
section
/-! DEFINITION. Commands of bring-up, of resets, of lost rails and clocks and of the Towpath registers: what each does, one definition for
each command. -/

namespace Sys2Proof.Machine

/-- VAON_UP (R403). -/
def execVaonUp (b : BootIn) (s : State) : Host.Outcome State Fault Refusal :=
  .next (s.onState (fun _ s => s.vaonUp b))

/-- LOCKKEEPER_BOOT_DONE (R403). -/
def execLockkeeperBootDone (b : BootIn) (s : State) : Host.Outcome State Fault Refusal :=
  .next (s.onState (fun e s => s.lkkBooted e b))

/-- BASIN_RAILS_UP (R403). -/
def execBasinRailsUp (s : State) : Host.Outcome State Fault Refusal :=
  .next (s.onState (fun _ s => s.basinRails))

/-- VIN_UP (R357). -/
def execVinUp (h : HalfId) (s : State) : Host.Outcome State Fault Refusal :=
  .next (s.onState (fun _ s => s.vinUp h))

/-- TOPOLOGY_SET (R403). -/
def execTopologySet (s : State) : Host.Outcome State Fault Refusal :=
  .next (s.onAll (fun e d => d.setTopology e))

/-- MICROCODE_BROADCAST (R407). -/
def execMicrocodeBroadcast (n : CodeNodes) (bad : List SiteIx) (s : State) : Host.Outcome State Fault Refusal :=
  .next (s.onDev (fun _ d => d.broadcast n bad))

/-- CHECK_TIMEOUT (R407). -/
def execCheckTimeout (n : CodeNodes) (x : SiteIx) (ok : Bool) (s : State) : Host.Outcome State Fault Refusal :=
  .next (s.onAll (fun e d => d.checkAgain e n x (ok && d.towUp (nodesHalf n))))

/-- CODE_SWITCH (R407). -/
def execCodeSwitch (n : CodeNodes) (x : SiteIx) (s : State) : Host.Outcome State Fault Refusal :=
  .next (s.onAll (fun _ d => if d.towUp (nodesHalf n) then d.switchCode n x else d))

/-- CLUSTER_RESET (R410). -/
def execClusterReset (f : FuncId) (v : Word) (s : State) : Host.Outcome State Fault Refusal :=
  .next (s.onAll (fun e d => d.writeReset e f 1 v))

/-- HALF_COMPUTE_RESET (R408). -/
def execHalfComputeReset (f : FuncId) (v : Word) (s : State) : Host.Outcome State Fault Refusal :=
  .next (s.onAll (fun e d => d.writeReset e f 2 v))

/-- COMPUTE_RESET (R408). -/
def execComputeReset (f : FuncId) (v : Word) (s : State) : Host.Outcome State Fault Refusal :=
  .next (s.onAll (fun e d => d.writeReset e f 3 v))

/-- BASIN_RESET (R408). -/
def execBasinReset (f : FuncId) (v : Word) (s : State) : Host.Outcome State Fault Refusal :=
  .next (s.onAll (fun e d => d.writeReset e f 4 v))

/-- LOCK_GATES_CLOSED (R412). -/
def execLockGatesClosed (s : State) : Host.Outcome State Fault Refusal :=
  .next (s.onState (fun e s => State.remeasure s.d { s with d := s.d.gatesClosed e }))

/-- RESET_COMPLETE (R412). -/
def execResetComplete (s : State) : Host.Outcome State Fault Refusal :=
  .next (s.onAll (fun e d => (d.resetComplete e).nextMigs e))

/-- COLD_RESET (R408). -/
def execColdReset (via : CmdPath) (s : State) : Host.Outcome State Fault Refusal :=
  .next (s.onState (fun e s => s.coldReset e via))

/-- VIN_UNDERVOLTAGE (R452). -/
def execVinUndervoltage (h : HalfId) (s : State) : Host.Outcome State Fault Refusal :=
  .next (s.onAll (fun e d => d.vinLost e h))

/-- VBSN_UNDERVOLTAGE (R452). -/
def execVbsnUndervoltage (s : State) : Host.Outcome State Fault Refusal :=
  .next (s.onAll (fun e d => d.vbsnFails e))

/-- VPHY_UNDERVOLTAGE (R452). -/
def execVphyUndervoltage (s : State) : Host.Outcome State Fault Refusal :=
  .next (s.onAll (fun e d => d.vphyFails e))

/-- VPHY_RETURN (R452). -/
def execVphyReturn (s : State) : Host.Outcome State Fault Refusal :=
  .next (s.onAll (fun _ d => d.vphyBack))

/-- VAON_LOSS (R452). -/
def execVaonLoss (s : State) : Host.Outcome State Fault Refusal :=
  .next (s.onState (fun _ s => s.vaonLost))

/-- SIDEBAND_CLOCK_LOSS (R458). -/
def execSidebandClockLoss (s : State) : Host.Outcome State Fault Refusal :=
  .next (s.onDev (fun e d => d.sideLoss e))

/-- SIDEBAND_CLOCK_RETURN (R458). -/
def execSidebandClockReturn (s : State) : Host.Outcome State Fault Refusal :=
  .next (s.onDev (fun _ d => d.sideBack))

/-- PEER_TABLE_WRITE (R470). -/
def execPeerTableWrite (x : SiteIx) (word : Fin 128) (v : Word) (s : State) : Host.Outcome State Fault Refusal :=
  .next (s.onDev (fun _ d => d.towWrite (siteHalf x) (d.siteOn x) true (fun d => d.onFab (fun f => f.writePeers x word v))))

/-- REPAIR_ENTRY_WRITE (R471). -/
def execRepairEntryWrite (x : SiteIx) (e : RepairEntry) (v : Word) (s : State) : Host.Outcome State Fault Refusal :=
  .next (s.onDev (fun w d => d.towMesh (siteHalf x) (d.repairFree x e) (fun d => d.writeRepair w x e v)))

/-- LANE_WRITE (R470). -/
def execLaneWrite (x : SiteIx) (boundary : Fin 8) (group : Fin 144) (v : Word) (s : State) : Host.Outcome State Fault Refusal :=
  .next (s.onDev (fun _ d => d.towMesh (siteHalf x) true (fun d => d.writeLane x boundary group v)))

/-- FLIM_WRITE (R470). -/
def execFlimWrite (x : SiteIx) (v : Word) (s : State) : Host.Outcome State Fault Refusal :=
  .next (s.onDev (fun e d => d.towMesh (siteHalf x) true (fun d => d.writeFlim e x v)))

/-- SUSPECT_WRITE (R470). -/
def execSuspectWrite (x : SiteIx) (v : Word) (s : State) : Host.Outcome State Fault Refusal :=
  .next (s.onDev (fun e d => d.towMesh (siteHalf x) true (fun d => d.writeSuspects e x v)))

/-- SITE_MAP_WRITE (R470). -/
def execSiteMapWrite (c : ClusterId) (m : SiteMapWords) (s : State) : Host.Outcome State Fault Refusal :=
  .next (s.onAll (fun _ d => d.towMesh (clusterHalf c) (mapOfWords m (d.fab.cluster c)).mapOk (fun d => d.writeMap c m)))

/-- ROUTE_WRITE (R470). -/
def execRouteWrite (c : ClusterId) (v : Word) (s : State) : Host.Outcome State Fault Refusal :=
  .next (s.onDev (fun _ d => d.towMesh (clusterHalf c) true (fun d => d.writeRoute c v)))

/-- VSET_WRITE (R470). -/
def execVsetWrite (h : HalfId) (pcl : Fin 16) (v : Word) (s : State) : Host.Outcome State Fault Refusal :=
  .next (s.onDev (fun _ d => d.towLayer h true (fun d => d.writeVset h pcl v)))

end Sys2Proof.Machine
end

