-- ==== Sys2Proof/Machine/CmdCart.lean ====
section
/-! DEFINITION. Commands of the light cartridges: what each does, one definition for each command. -/

namespace Sys2Proof.Machine

/-- CART_PRESENCE (R328). -/
def execCartPresence (k : CartId) (s : State) : Host.Outcome State Fault Refusal :=
  .next (s.onAll (fun _ d => d.cartPresence k))

/-- CART_CHECK_COMPLETE (R327). -/
def execCartCheckComplete (k : CartId) (r : CartCheck) (s : State) : Host.Outcome State Fault Refusal :=
  .next (s.onAll (fun e d => d.order e (.checked k r)))

/-- CART_REMOVED (R328). -/
def execCartRemoved (k : CartId) (s : State) : Host.Outcome State Fault Refusal :=
  .next (s.onAll (fun e d => d.cartRemoved e k))

/-- CART_LIGHT_LOSS (R330). -/
def execCartLightLoss (k : CartId) (s : State) : Host.Outcome State Fault Refusal :=
  .next (s.onAll (fun e d => d.cartLightLoss e k))

/-- PREPARE (R331). -/
def execPrepare (via : CartPath) (k : CartId) (force : Bool) (s : State) : Host.Outcome State Fault Refusal :=
  .next (s.onState (fun e s => s.cartPrepare e via k force))

/-- CANCEL_CARTRIDGE (R328). -/
def execCancelCartridge (via : CartPath) (k : CartId) (s : State) : Host.Outcome State Fault Refusal :=
  .next (s.onState (fun e s => s.cartCancel e via k))

/-- CART_DRAIN_COMPLETE (R331). -/
def execCartDrainComplete (k : CartId) (s : State) : Host.Outcome State Fault Refusal :=
  .next (s.onAll (fun e d => d.cartDrained e k))

/-- INTERLOCK_OPEN (R457). -/
def execInterlockOpen (k : CartId) (s : State) : Host.Outcome State Fault Refusal :=
  .next (s.onAll (fun e d => d.interlockOpen e k))

/-- CART_I3C_SILENT (R328). -/
def execCartI3cSilent (k : CartId) (s : State) : Host.Outcome State Fault Refusal :=
  .next (s.onAll (fun e d => d.cartSilent e k))

/-- CART_TELEMETRY (R329). -/
def execCartTelemetry (k : CartId) (r : CartReading) (s : State) : Host.Outcome State Fault Refusal :=
  .next (s.onAll (fun e d => d.cartTelemetry e k r))

/-- LIFE_COUNTER_WRITE (R329). -/
def execLifeCounterWrite (k : CartId) (s : State) : Host.Outcome State Fault Refusal :=
  .next (s.onDev (fun e d => d.lifeWrite e k))

/-- EOL_FIT (R329). -/
def execEolFit (k : CartId) (s : State) : Host.Outcome State Fault Refusal :=
  .next (s.onDev (fun e d => d.eolFit e k))

/-- CART_CONTROL_CLOCK_LOSS (R332). -/
def execCartControlClockLoss (s : State) : Host.Outcome State Fault Refusal :=
  .next (s.onDev (fun e d => d.cartClockLoss e))

/-- CART_CONTROL_CLOCK_RETURN (R332). -/
def execCartControlClockReturn (s : State) : Host.Outcome State Fault Refusal :=
  .next (s.onDev (fun _ d => d.cartClockReturn))

end Sys2Proof.Machine
end

