-- ==== Sys2Proof/Machine/CmdDram.lean ====
section
/-! DEFINITION. Commands of the DRAM columns and of the stack aperture: what each does, one definition for each command. -/

namespace Sys2Proof.Machine

/-- ROW_TRANSFER (R156). -/
def execRowTransfer (x : SiteIx) (arrivals : List RowReq) (errs : List SymErr) (s : State) : Host.Outcome State Fault Refusal :=
  .next (s.onDev (fun e d => (d.onFab (fun f => f.rowTransfer e x arrivals errs)).copyRow e x))

/-- REFRESH_BURST (R182). -/
def execRefreshBurst (x : SiteIx) (bank : Fin 128) (s : State) : Host.Outcome State Fault Refusal :=
  .next (s.onFab (fun _ f => f.refreshBurst x bank))

/-- CONTROL_TEMPERATURE_UPDATE (R183). -/
def execControlTemperatureUpdate (x : SiteIx) (s : State) : Host.Outcome State Fault Refusal :=
  .next (s.onFab (fun e f => f.controlTemp e x))

/-- REFRESH_RELAX (R183). -/
def execRefreshRelax (x : SiteIx) (layer : Fin 8) (s : State) : Host.Outcome State Fault Refusal :=
  .next (s.onFab (fun e f => f.refreshRelax e x layer))

/-- TEMPERATURE_UPDATE_TIMEOUT (R183). -/
def execTemperatureUpdateTimeout (x : SiteIx) (layer : Fin 8) (s : State) : Host.Outcome State Fault Refusal :=
  .next (s.onFab (fun e f => f.tempTimeout e x layer))

/-- DREDGER_SCRUB (R187). -/
def execDredgerScrub (x : SiteIx) (errs : List SymErr) (s : State) : Host.Outcome State Fault Refusal :=
  .next (s.onFab (fun e f => f.dredge e x errs))

/-- ROW_REPAIR (R193). -/
def execRowRepair (x : SiteIx) (bank : Fin 128) (row : Fin 3072) (s : State) : Host.Outcome State Fault Refusal :=
  .next (s.onFab (fun e f => f.rowRepair e x bank row))

/-- COLUMN_REPAIR (R194). -/
def execColumnRepair (x : SiteIx) (bank : Fin 128) (bb : Fin 1152) (s : State) : Host.Outcome State Fault Refusal :=
  .next (s.onFab (fun e f => f.columnRepair e x bank bb))

/-- COLUMN_REPAIR_COMPLETE (R194). -/
def execColumnRepairComplete (x : SiteIx) (bank : Fin 128) (s : State) : Host.Outcome State Fault Refusal :=
  .next (s.onFab (fun e f => f.columnRepairDone e x bank))

/-- SPARE_LANE_TEST (R199). -/
def execSpareLaneTest (x : SiteIx) (boundary : Fin 8) (group : Fin 144) (pass : Bool) (s : State) : Host.Outcome State Fault Refusal :=
  .next (s.onFab (fun e f => f.spareLaneTest e x boundary group pass))

/-- LANE_TRAINING_DONE (R201). -/
def execLaneTrainingDone (x : SiteIx) (bad : List LaneLoc) (usable : Bool) (s : State) : Host.Outcome State Fault Refusal :=
  .next (s.onAll (fun e d => (d.onFab (fun f => f.laneTrained e x (bad ++ e.fuse.lanesOf x) usable (e.fuse.rowsOf x) (e.fuse.colsOf x))).columnUnusable e x))

/-- COLUMN_FILL_DONE (R171). -/
def execColumnFillDone (x : SiteIx) (s : State) : Host.Outcome State Fault Refusal :=
  .next (s.onAll (fun e d => (d.onFab (fun f => f.fillDone e x)).resumeApt e))

/-- REPAIR_TABLE_RELOAD (R202). -/
def execRepairTableReload (x : SiteIx) (s : State) : Host.Outcome State Fault Refusal :=
  .next (s.onAll (fun e d => (d.reloadColumn e x).resumeApt e))

/-- HOST_APERTURE_READ (R268). -/
def execHostApertureRead (f : FuncId) (addr len : Nat) (ups : List DramUpset) (s : State) : Host.Outcome State Fault Refusal :=
  .next (s.onDev (fun e d => d.apertureRead e f addr len ups))

/-- HOST_APERTURE_WRITE (R170). -/
def execHostApertureWrite (f : FuncId) (addr : Nat) (data : List Byte) (ep : Bool) (s : State) : Host.Outcome State Fault Refusal :=
  .next (s.onDev (fun e d => d.apertureWrite e f addr data ep))

end Sys2Proof.Machine
end

