-- ==== Sys2Proof/Machine/CmdError.lean ====
section
/-! DEFINITION. Commands of the error aggregator and of field repair: what each does, one definition for each command. -/

namespace Sys2Proof.Machine

/-- ERROR_REPORT (R375). -/
def execErrorReport (s : State) : Host.Outcome State Fault Refusal :=
  .next (s.onAgg acceptReport)

/-- COLLAPSE_WINDOW_CLOSE (R376). -/
def execCollapseWindowClose (k : ErrKey) (s : State) : Host.Outcome State Fault Refusal :=
  .next (s.onAgg (fun a d e => windowClose a d e k))

/-- HOLDOFF_END (R377). -/
def execHoldoffEnd (k : ErrKey) (s : State) : Host.Outcome State Fault Refusal :=
  .next (s.onAgg (fun a d e => holdOffEnd a d e k))

/-- BSN_ERR_CONS (R383). -/
def execBsnErrCons (f : FuncId) (v : Word) (s : State) : Host.Outcome State Fault Refusal :=
  .next ({ s.bump with agg := s.agg.consume f v })

/-- BSN_ERR_CNT (R91). -/
def execBsnErrCnt (f : FuncId) (s : State) : Host.Outcome State Fault Refusal :=
  .next (let p := readErrCnt s.agg s.d.bump f; { s with agg := p.1, d := p.2 })

/-- TILE_SELFTEST (R389). -/
def execTileSelftest (t : TileId) (pass1 pass2 : Bool) (s : State) : Host.Outcome State Fault Refusal :=
  .next (s.onAll (fun e d => d.tileSelfTest e t pass1 pass2))

/-- BSN_MIG_CTRL (R392). -/
def execBsnMigCtrl (f : FuncId) (v : Word) (s : State) : Host.Outcome State Fault Refusal :=
  .next (s.onAll (fun e d => d.migCtrl e f v))

/-- SPARE_READY (R393). -/
def execSpareReady (h : HalfId) (ok : Bool) (s : State) : Host.Outcome State Fault Refusal :=
  .next (s.onAll (fun e d => d.order e (.spare h ok)))

/-- MIGRATION_COPY_COMPLETE (R393). -/
def execMigrationCopyComplete (h : HalfId) (s : State) : Host.Outcome State Fault Refusal :=
  .next (s.onAll (fun e d => d.order e (.copied h)))

/-- REPAIR_RECORD_WRITE (R400). -/
def execRepairRecordWrite (okFirst okSecond : Bool) (s : State) : Host.Outcome State Fault Refusal :=
  .next (s.onDev (fun e d => d.recordWrite e okFirst okSecond))

/-- REPAIR_RECORD_RETRY (R400). -/
def execRepairRecordRetry (okFirst okSecond : Bool) (s : State) : Host.Outcome State Fault Refusal :=
  .next (s.onDev (fun e d => d.recordRetry e okFirst okSecond))

end Sys2Proof.Machine
end

