-- ==== Sys2Proof/Machine/CmdFirmware.lean ====
section
/-! DEFINITION. Commands of Lockkeeper: firmware staging and switching, its cores, its load and its clock: what each does, one definition
for each command. -/

namespace Sys2Proof.Machine

/-- FW_STAGE (R415). -/
def execFwStage (f : FuncId) (s : State) : Host.Outcome State Fault Refusal :=
  .next (s.onState (fun e s => s.fwStage e f))

/-- FW_STAGE_COMPLETE (R415). -/
def execFwStageComplete (r : Option FwImage) (s : State) : Host.Outcome State Fault Refusal :=
  .next (s.onState (fun _ s => s.fwStaged r))

/-- FW_ACTIVATE (R416). -/
def execFwActivate (f : FuncId) (health : List FwHealth) (s : State) : Host.Outcome State Fault Refusal :=
  .next (s.onState (fun e s => s.fwActivate e f health))

/-- TRIAL_PASS (R416). -/
def execTrialPass (s : State) : Host.Outcome State Fault Refusal :=
  .next (s.onState (fun e s => s.trialPass e))

/-- FW_COMMIT (R417). -/
def execFwCommit (f : FuncId) (s : State) : Host.Outcome State Fault Refusal :=
  .next (s.onState (fun e s => s.fwCommit e f))

/-- FW_REVERT (R417). -/
def execFwRevert (f : FuncId) (s : State) : Host.Outcome State Fault Refusal :=
  .next (s.onState (fun e s => s.fwRevert e f))

/-- LKK_HANDOVER (R419). -/
def execLkkHandover (f : FuncId) (s : State) : Host.Outcome State Fault Refusal :=
  .next (s.onState (fun e s => s.handover e f))

/-- CORE_B_TAKEOVER (R419). -/
def execCoreBTakeover (ok : Bool) (s : State) : Host.Outcome State Fault Refusal :=
  .next (s.onState (fun e s => s.coreB e ok))

/-- CORE_A_REJOIN (R419). -/
def execCoreARejoin (s : State) : Host.Outcome State Fault Refusal :=
  .next (s.onDev (fun _ d => d.coreA))

/-- TILE_MICROCODE_DRAIN (R414). -/
def execTileMicrocodeDrain (s : State) : Host.Outcome State Fault Refusal :=
  .next (s.onState (fun e s => s.tileDrained e))

/-- TILE_SWITCH_ABANDON (R414). -/
def execTileSwitchAbandon (s : State) : Host.Outcome State Fault Refusal :=
  .next (s.onState (fun e s => s.tileAbandon e))

/-- LOCKSTEP_MISMATCH (R418). -/
def execLockstepMismatch (aOk bOk : Bool) (s : State) : Host.Outcome State Fault Refusal :=
  .next (s.onDev (fun e d => d.lockstepMismatch e aOk bOk))

/-- WATCHDOG_EXPIRY (R418). -/
def execWatchdogExpiry (aOk bOk : Bool) (s : State) : Host.Outcome State Fault Refusal :=
  .next (s.onDev (fun e d => d.watchdog e aOk bOk))

/-- LOAD_WINDOW (R420). -/
def execLoadWindow (load : Nat) (s : State) : Host.Outcome State Fault Refusal :=
  .next (s.onState (fun e s => ((s.loadWindow e load).takeRecords e).collQuieted e))

/-- LKK_CLOCK_LOSS (R422). -/
def execLkkClockLoss (s : State) : Host.Outcome State Fault Refusal :=
  .next (s.onDev (fun _ d => d.lkkClockLoss))

/-- LKK_CLOCK_RETURN (R422). -/
def execLkkClockReturn (s : State) : Host.Outcome State Fault Refusal :=
  .next (s.onState (fun e s => s.lkkClockReturn e))

end Sys2Proof.Machine
end

