-- ==== Sys2Proof/Machine/CmdHost.lean ====
section
/-! DEFINITION. Commands of the host interface: doorbells, contexts, host reads, functions, counters: what each does, one definition for
each command. -/

namespace Sys2Proof.Machine

/-- SQ_TAIL (R254). -/
def execSqTail (b : Bell) (s : State) : Host.Outcome State Fault Refusal :=
  .next (s.onDev (fun e d => d.sqTail e b))

/-- CQ_HEAD (R254). -/
def execCqHead (b : Bell) (s : State) : Host.Outcome State Fault Refusal :=
  .next (s.onDev (fun e d => d.cqHead e b))

/-- EQ_HEAD (R254). -/
def execEqHead (b : Bell) (s : State) : Host.Outcome State Fault Refusal :=
  .next (s.onDev (fun e d => d.eqHead e b))

/-- IRQ_ARM (R258). -/
def execIrqArm (b : Bell) (s : State) : Host.Outcome State Fault Refusal :=
  .next (s.onDev (fun e d => d.irqArm e b))

/-- FENCE_DOORBELL (R261). -/
def execFenceDoorbell (b : Bell) (i : Fin 4) (s : State) : Host.Outcome State Fault Refusal :=
  .next (s.onDev (fun e d => d.fenceBell e b i))

/-- ENABLE (R249). -/
def execEnable (f : FuncId) (c : CtxId) (s : State) : Host.Outcome State Fault Refusal :=
  .next (s.onDev (fun e d => d.enable e f c))

/-- DISABLE (R250). -/
def execDisable (f : FuncId) (c : CtxId) (s : State) : Host.Outcome State Fault Refusal :=
  .next (s.onDev (fun e d => d.disable e f c))

/-- RESET (R251). -/
def execReset (f : FuncId) (c : CtxId) (s : State) : Host.Outcome State Fault Refusal :=
  .next (s.onAll (fun e d => d.resetCtx e f c))

/-- CONTEXT_RESET_COMPLETE (R251). -/
def execContextResetComplete (c : CtxId) (s : State) : Host.Outcome State Fault Refusal :=
  .next (s.onDev (fun e d => d.resetDone e c))

/-- BSN_CTX_BIND (R246). -/
def execBsnCtxBind (f : FuncId) (v : Word) (s : State) : Host.Outcome State Fault Refusal :=
  .next (s.onDev (fun e d => d.bind e f v))

/-- CQ_STALL (R256). -/
def execCqStall (c : CtxId) (s : State) : Host.Outcome State Fault Refusal :=
  .next (s.onDev (fun e d => d.cqStall e c))

/-- INTERRUPT_TIMER (R258). -/
def execInterruptTimer (c : CtxId) (s : State) : Host.Outcome State Fault Refusal :=
  .next (s.onDev (fun e d => d.irqEval e c))

/-- HOST_READ_COMPLETION (R264). -/
def execHostReadCompletion (tag : TagId) (r : HostReadResult) (s : State) : Host.Outcome State Fault Refusal :=
  .next (s.onDev (fun e d => d.readCompletion e tag r))

/-- COMPLETION_TIMEOUT (R264). -/
def execCompletionTimeout (tag : TagId) (s : State) : Host.Outcome State Fault Refusal :=
  .next (s.onDev (fun e d => d.readTimeout e tag))

/-- LATE_COMPLETION (R265). -/
def execLateCompletion (tag : TagId) (s : State) : Host.Outcome State Fault Refusal :=
  .next (s.onDev (fun _ d => d.lateCompletion tag))

/-- QUARANTINE_END (R265). -/
def execQuarantineEnd (tag : TagId) (s : State) : Host.Outcome State Fault Refusal :=
  .next (s.onDev (fun e d => d.quarantineEnd e tag))

/-- BUS_MASTER_ENABLE_CLEAR (R266). -/
def execBusMasterEnableClear (f : FuncId) (s : State) : Host.Outcome State Fault Refusal :=
  .next (s.onAll (fun e d => d.bmeClear e f))

/-- FUNCTION_LEVEL_RESET (R267). -/
def execFunctionLevelReset (f : FuncId) (s : State) : Host.Outcome State Fault Refusal :=
  .next (s.onAll (fun e d => d.flr e f))

/-- HOST_LINK_LOSS (R272). -/
def execHostLinkLoss (s : State) : Host.Outcome State Fault Refusal :=
  .next (s.onAll (fun e d => d.linkLoss e))

/-- PERST_N_ASSERT (R404). -/
def execPerstNAssert (s : State) : Host.Outcome State Fault Refusal :=
  .next (s.onAll (fun e d => d.perstAssert e))

/-- PERST_N_DEASSERT (R404). -/
def execPerstNDeassert (s : State) : Host.Outcome State Fault Refusal :=
  .next (s.onDev (fun _ d => d.perstDeassert))

/-- ATS_INVALIDATION (R270). -/
def execAtsInvalidation (f : FuncId) (page : Nat) (s : State) : Host.Outcome State Fault Refusal :=
  .next (s.onDev (fun _ d => d.atsInvalidate f page))

/-- CTX_ERR (R91). -/
def execCtxErr (f : FuncId) (c : CtxId) (s : State) : Host.Outcome State Fault Refusal :=
  .next (s.onDev (fun _ d => d.readCtxErr f c))

/-- BSN_HOST_ERR (R91). -/
def execBsnHostErr (f : FuncId) (s : State) : Host.Outcome State Fault Refusal :=
  .next (s.onDev (fun _ d => d.readHostErr f))

/-- BSN_HOST_APT_ERR (R91). -/
def execBsnHostAptErr (f : FuncId) (s : State) : Host.Outcome State Fault Refusal :=
  .next (s.onDev (fun _ d => d.readAptErr f))

/-- BSN_BARGE_ERR (R91). -/
def execBsnBargeErr (f : FuncId) (s : State) : Host.Outcome State Fault Refusal :=
  .next (s.onDev (fun _ d => d.readBargeErr f))

/-- BSN_TS_LAUNCH_ERR (R91). -/
def execBsnTsLaunchErr (f : FuncId) (s : State) : Host.Outcome State Fault Refusal :=
  .next (s.onDev (fun _ d => d.readLaunchErr f))

/-- BUS_MASTER_ENABLE_SET (R266). -/
def execBusMasterEnableSet (f : FuncId) (s : State) : Host.Outcome State Fault Refusal :=
  .next (s.onDev (fun e d => d.bmeSet e f))

/-- VF_ENABLE (R246). -/
def execVfEnable (n : Fin 256) (s : State) : Host.Outcome State Fault Refusal :=
  .next (s.onDev (fun e d => d.vfEnable e n))

end Sys2Proof.Machine
end

