-- ==== Sys2Proof/Machine/CmdLink.lean ====
section
/-! DEFINITION. Commands of the half links, of the Towpath trunks, of the fences and of the tier-2 port: what each does, one definition
for each command. -/

namespace Sys2Proof.Machine

/-- DATA_FLIT (R280). -/
def execDataFlit (n : LinkId) (e : LinkEnd) (fl : FlitRx) (s : State) : Host.Outcome State Fault Refusal :=
  .next (s.onAll (fun v d => d.dataFlit v n e fl.lost fl.flit))

/-- IDLE_FLIT (R281). -/
def execIdleFlit (n : LinkId) (e : LinkEnd) (fl : Flit) (s : State) : Host.Outcome State Fault Refusal :=
  .next (s.onAll (fun v d => d.idleFlit v n e fl))

/-- MAP (R285). -/
def execMapMsg (n : LinkId) (e : LinkEnd) (fl : Flit) (s : State) : Host.Outcome State Fault Refusal :=
  .next (s.onAll (fun v d => d.mapFlit v n e fl))

/-- MAPACK (R285). -/
def execMapack (n : LinkId) (e : LinkEnd) (fl : Flit) (s : State) : Host.Outcome State Fault Refusal :=
  .next (s.onAll (fun v d => (d.mapAck v n e fl).lightPorts v))

/-- MAPACK_TIMEOUT (R285). -/
def execMapackTimeout (n : LinkId) (e : LinkEnd) (s : State) : Host.Outcome State Fault Refusal :=
  .next (s.onAll (fun v d => d.mapTimeout v n e))

/-- RETRAIN (R289). -/
def execRetrain (n : LinkId) (e : LinkEnd) (fl : Flit) (s : State) : Host.Outcome State Fault Refusal :=
  .next (s.onAll (fun v d => d.retrainFlit v n e fl))

/-- RETRAINACK (R289). -/
def execRetrainack (n : LinkId) (e : LinkEnd) (fl : Flit) (s : State) : Host.Outcome State Fault Refusal :=
  .next (s.onAll (fun v d => d.retrainAck v n e fl))

/-- LNK_TIMEOUT (R282). -/
def execLnkTimeout (n : LinkId) (e : LinkEnd) (s : State) : Host.Outcome State Fault Refusal :=
  .next (s.onAll (fun v d => d.lnkTimeout v n e))

/-- LANE_BAD (R283). -/
def execLaneBad (n : LinkId) (e : LinkEnd) (lane : Fin 66) (s : State) : Host.Outcome State Fault Refusal :=
  .next (s.onAll (fun v d => d.laneBad v n e lane))

/-- MARGIN_WARNING (R287). -/
def execMarginWarning (n : LinkId) (e : LinkEnd) (lane : Fin 66) (regains : Bool) (s : State) : Host.Outcome State Fault Refusal :=
  .next (s.onAll (fun v d => d.marginWarning v n e lane regains))

/-- LINK_TRAINING_START (R289). -/
def execLinkTrainingStart (n : LinkId) (s : State) : Host.Outcome State Fault Refusal :=
  .next (s.onAll (fun _ d => d.trainStart n))

/-- LINK_TRAINING_COMPLETE (R289). -/
def execLinkTrainingComplete (n : LinkId) (goodBH goodHB : BitVec 66) (s : State) : Host.Outcome State Fault Refusal :=
  .next (s.onAll (fun v d => d.trained v n (goodBH &&& v.fuse.linkOk n 0) (goodHB &&& v.fuse.linkOk n 1)))

/-- FAILED_LINK_RETRY (R288). -/
def execFailedLinkRetry (n : LinkId) (s : State) : Host.Outcome State Fault Refusal :=
  .next (s.onDev (fun v d => d.linkRetry v n))

/-- TRUNK_FAIL (R291). -/
def execTrunkFail (h : HalfId) (trunk : Fin 2) (s : State) : Host.Outcome State Fault Refusal :=
  .next (s.onAll (fun v d => d.trunkFail v h trunk))

/-- FENCE_LIFT (R294). -/
def execFenceLift (h : HalfId) (s : State) : Host.Outcome State Fault Refusal :=
  .next (s.onAll (fun e d => (d.liftFence h).nextMigs e))

/-- TIER2_LINK_UP (R296). -/
def execTier2LinkUp (caps : List Nat) (s : State) : Host.Outcome State Fault Refusal :=
  .next (s.onDev (fun e d => d.order e (.tier2 caps)))

/-- TIER2_LOST (R298). -/
def execTier2Lost (s : State) : Host.Outcome State Fault Refusal :=
  .next (s.onAll (fun v d => d.t2Lost v))

/-- T2_READ_TIMEOUT (R297). -/
def execT2ReadTimeout (s : State) : Host.Outcome State Fault Refusal :=
  .next (s.onDev (fun v d => d.t2Timeout v))

/-- T2_WRITE_ACK (R295). -/
def execT2WriteAck (s : State) : Host.Outcome State Fault Refusal :=
  .next (s.onDev (fun v d => d.t2Ack v))

/-- T2_ERR (R91). -/
def execT2Err (f : FuncId) (s : State) : Host.Outcome State Fault Refusal :=
  .next (s.onDev (fun _ d => d.readT2Err f))

/-- LNK_FENCE_ERR (R91). -/
def execLnkFenceErr (f : FuncId) (s : State) : Host.Outcome State Fault Refusal :=
  .next (s.onDev (fun _ d => d.readFenceErr f))

/-- LNK_ERR (R91). -/
def execLnkErr (f : FuncId) (n : LinkId) (s : State) : Host.Outcome State Fault Refusal :=
  .next (s.onDev (fun _ d => d.readLnkErr f n))

/-- LNK_EVENTS (R91). -/
def execLnkEvents (f : FuncId) (n : LinkId) (s : State) : Host.Outcome State Fault Refusal :=
  .next (s.onDev (fun _ d => d.readLnkEvents f n))

/-- LINK_CLOCK_LOSS (R292). -/
def execLinkClockLoss (n : LinkId) (s : State) : Host.Outcome State Fault Refusal :=
  .next (s.onAll (fun v d => d.linkClockLost v n))

end Sys2Proof.Machine
end

