-- ==== Sys2Proof/Machine/CmdNet.lean ====
section
/-! DEFINITION. Commands of the collective engine, of the Ethernet ports and of the queue pairs: what each does, one definition for each
command. -/

namespace Sys2Proof.Machine

/-- COLLECTIVE_SLICE (R318). -/
def execCollectiveSlice (t : TileId) (hdr : BitVec 256) (elems : List Byte) (s : State) : Host.Outcome State Fault Refusal :=
  .next (s.onDev (fun e d => d.collSlice e t hdr elems))

/-- HELLO (R316). -/
def execHello (g : GroupId) (hdr : BitVec 256) (s : State) : Host.Outcome State Fault Refusal :=
  .next (s.onDev (fun e d => d.hello e g hdr))

/-- HELLO_TIMER (R316). -/
def execHelloTimer (g : GroupId) (s : State) : Host.Outcome State Fault Refusal :=
  .next (s.onDev (fun e d => d.helloTimer e g))

/-- PARTIAL (R320). -/
def execPartialMsg (q : QpId) (hdr : BitVec 256) (elems : List Byte) (s : State) : Host.Outcome State Fault Refusal :=
  .next (s.onDev (fun e d => d.collPartial e q hdr elems))

/-- RESULT (R320). -/
def execResultMsg (q : QpId) (hdr : BitVec 256) (elems : List Byte) (s : State) : Host.Outcome State Fault Refusal :=
  .next (s.onDev (fun e d => d.collResult e q hdr elems))

/-- GATHER_MESSAGE (R320). -/
def execGatherMessage (q : QpId) (hdr : BitVec 256) (elems : List Byte) (s : State) : Host.Outcome State Fault Refusal :=
  .next (s.onDev (fun e d => d.collGather e q hdr elems))

/-- COLL_ABORT (R321). -/
def execCollAbort (g : GroupId) (hdr : BitVec 256) (s : State) : Host.Outcome State Fault Refusal :=
  .next (s.onDev (fun e d => d.collAbort e g hdr))

/-- COLLECTIVE_TIMEOUT (R321). -/
def execCollectiveTimeout (g : GroupId) (opSeq : Word) (s : State) : Host.Outcome State Fault Refusal :=
  .next (s.onDev (fun e d => d.collTimeout e g opSeq.toNat))

/-- GSTATE_HELLO (R316). -/
def execGstateHello (f : FuncId) (g : GroupId) (s : State) : Host.Outcome State Fault Refusal :=
  .next (s.onDev (fun e d => d.gstateHello e f g))

/-- GSTATE_OFF (R315). -/
def execGstateOff (f : FuncId) (g : GroupId) (s : State) : Host.Outcome State Fault Refusal :=
  .next (s.onDev (fun e d => d.gstateOff e f g))

/-- NET_COLL_ERR (R91). -/
def execNetCollErr (f : FuncId) (s : State) : Host.Outcome State Fault Refusal :=
  .next (s.onDev (fun _ d => d.readCollErr f))

/-- PORT_ENABLE (R302). -/
def execPortEnable (f : FuncId) (n : PortId) (v : Word) (s : State) : Host.Outcome State Fault Refusal :=
  .next (s.onDev (fun e d => d.portEnable e f n v))

/-- PORT_DISABLE (R302). -/
def execPortDisable (f : FuncId) (n : PortId) (v : Word) (s : State) : Host.Outcome State Fault Refusal :=
  .next (s.onDev (fun e d => d.portDisable e f n v))

/-- PORT_UP (R302). -/
def execPortUp (n : PortId) (sub : Fin 2) (s : State) : Host.Outcome State Fault Refusal :=
  .next (s.onDev (fun e d => d.portUp e n sub))

/-- PTP_MESSAGE (R313). -/
def execPtpMessage (n : PortId) (sub : Fin 2) (m : PtpMsg) (s : State) : Host.Outcome State Fault Refusal :=
  .next (s.onDev (fun e d => d.ptpMessage e n sub m))

/-- ARP_REQUEST (R303). -/
def execArpRequest (n : PortId) (sub : Fin 2) (ip : BitVec 128) (s : State) : Host.Outcome State Fault Refusal :=
  .next (s.onDev (fun e d => d.arp e n sub ip))

/-- NEIGHBOR_SOLICITATION (R303). -/
def execNeighborSolicitation (n : PortId) (sub : Fin 2) (ip : BitVec 128) (s : State) : Host.Outcome State Fault Refusal :=
  .next (s.onDev (fun e d => d.neighborSol e n sub ip))

/-- ROCE_SEND_RECEIVE (R306). -/
def execRoceSendReceive (p : RocePkt) (s : State) : Host.Outcome State Fault Refusal :=
  .next (s.onDev (fun e d => d.roceReceive e p))

/-- ROCE_ACK (R307). -/
def execRoceAck (p : RocePkt) (s : State) : Host.Outcome State Fault Refusal :=
  .next (s.onDev (fun e d => d.roceAck e p))

/-- RNR_NAK (R307). -/
def execRnrNak (p : RocePkt) (s : State) : Host.Outcome State Fault Refusal :=
  .next (s.onDev (fun e d => d.rnrNak e p))

/-- RC_RETRY_TIMEOUT (R307). -/
def execRcRetryTimeout (q : QpId) (s : State) : Host.Outcome State Fault Refusal :=
  .next (s.onDev (fun e d => d.retryTimeout e q))

/-- CE_PACKET (R309). -/
def execCePacket (p : RocePkt) (s : State) : Host.Outcome State Fault Refusal :=
  .next (s.onDev (fun e d => d.cePacket e p))

/-- CNP (R310). -/
def execCnp (p : RocePkt) (s : State) : Host.Outcome State Fault Refusal :=
  .next (s.onDev (fun e d => d.cnpReceive e p))

/-- RATE_INCREASE (R310). -/
def execRateIncrease (q : QpId) (s : State) : Host.Outcome State Fault Refusal :=
  .next (s.onDev (fun e d => d.rateIncrease e q))

/-- PFC_FRAME (R311). -/
def execPfcFrame (n : PortId) (prio : Fin 8) (quanta : BitVec 16) (s : State) : Host.Outcome State Fault Refusal :=
  .next (s.onDev (fun e d => d.pfcFrame e n prio quanta))

/-- QP_RTS (R305). -/
def execQpRts (f : FuncId) (q : QpId) (v : Word) (s : State) : Host.Outcome State Fault Refusal :=
  .next (s.onDev (fun e d => d.qpRts e f q v))

/-- QP_RESET (R305). -/
def execQpReset (f : FuncId) (q : QpId) (v : Word) (s : State) : Host.Outcome State Fault Refusal :=
  .next (s.onDev (fun e d => d.qpReset e f q v))

/-- NET_PORT_ERR (R91). -/
def execNetPortErr (f : FuncId) (n : PortId) (s : State) : Host.Outcome State Fault Refusal :=
  .next (s.onDev (fun _ d => d.readPortErr f n))

/-- LANE_LOCK_LOSS (R324). -/
def execLaneLockLoss (n : PortId) (lane : Fin 8) (s : State) : Host.Outcome State Fault Refusal :=
  .next (s.onDev (fun _ d => d.laneLockLoss n lane))

/-- LANE_LOCK_TIMEOUT (R324). -/
def execLaneLockTimeout (n : PortId) (lane : Fin 8) (s : State) : Host.Outcome State Fault Refusal :=
  .next (s.onDev (fun e d => d.laneLockTimeout e n lane))

/-- ETH_PORT_CLOCK_LOSS (R332). -/
def execEthPortClockLoss (n : PortId) (s : State) : Host.Outcome State Fault Refusal :=
  .next (s.onDev (fun _ d => d.portClockLoss n))

/-- PTP_CLOCK_LOSS (R332). -/
def execPtpClockLoss (s : State) : Host.Outcome State Fault Refusal :=
  .next (s.onDev (fun _ d => d.ptpClockLoss))

/-- ETH_PORT_CLOCK_RETURN (R332). -/
def execEthPortClockReturn (n : PortId) (s : State) : Host.Outcome State Fault Refusal :=
  .next (s.onDev (fun _ d => d.portClockReturn n))

/-- PTP_CLOCK_RETURN (R332). -/
def execPtpClockReturn (s : State) : Host.Outcome State Fault Refusal :=
  .next (s.onDev (fun _ d => d.ptpClockReturn))

/-- PFC_PAUSE_EXPIRY (R311). -/
def execPfcPauseExpiry (n : PortId) (prio : Fin 8) (s : State) : Host.Outcome State Fault Refusal :=
  .next (s.onDev (fun e d => d.pfcExpiry e n prio))

/-- RNR_TIMER_EXPIRY (R307). -/
def execRnrTimerExpiry (q : QpId) (s : State) : Host.Outcome State Fault Refusal :=
  .next (s.onDev (fun e d => d.rnrExpiry e q))

end Sys2Proof.Machine
end

