-- ==== Sys2Proof/Machine/CmdPower.lean ====
section
/-! DEFINITION. Commands of Weir, of the power domains, of the regulator banks and of Sluice: what each does, one definition for each
command. -/

namespace Sys2Proof.Machine

/-- WEIR_CONTROL_PERIOD (R354). -/
def execWeirControlPeriod (p : PowerMeas) (s : State) : Host.Outcome State Fault Refusal :=
  .next (s.onDev (fun e d => d.controlPeriod e p))

/-- RAIL_SETTLED (R337). -/
def execRailSettled (c : ClusterId) (s : State) : Host.Outcome State Fault Refusal :=
  .next (s.onDev (fun e d => d.railSettled e c))

/-- RING_MONITOR_READ (R339). -/
def execRingMonitorRead (readings : List RingReading) (s : State) : Host.Outcome State Fault Refusal :=
  .next (s.onDev (fun e d => d.ringRead e readings))

/-- SPARE_CHARACTERISATION (R339). -/
def execSpareCharacterisation (x : SiteIx) (r : SiteChar) (s : State) : Host.Outcome State Fault Refusal :=
  .next (s.onAll (fun e d => d.spareChar e x r))

/-- WEAR_SCORE (R341). -/
def execWearScore (s : State) : Host.Outcome State Fault Refusal :=
  .next (s.onDev (fun e d => d.wearScore e))

/-- POWER_ON_ORDER (R344). -/
def execPowerOnOrder (d : DomainIx) (s : State) : Host.Outcome State Fault Refusal :=
  .next (s.onAll (fun _ v => v.powerOn d))

/-- HEADER_STAGE_CLOSE (R344). -/
def execHeaderStageClose (d : DomainIx) (railPct : Nat) (s : State) : Host.Outcome State Fault Refusal :=
  .next (s.onAll (fun e v => v.stageClose e d railPct))

/-- RAMP_FAULT (R344). -/
def execRampFault (d : DomainIx) (cur : Nat) (s : State) : Host.Outcome State Fault Refusal :=
  .next (s.onAll (fun e v => v.rampLost e d cur))

/-- DOMAIN_SHORT (R345). -/
def execDomainShort (d : DomainIx) (cur : Nat) (s : State) : Host.Outcome State Fault Refusal :=
  .next (s.onAll (fun e v => v.shortLost e d cur))

/-- POWER_OFF_ORDER (R342). -/
def execPowerOffOrder (d : DomainIx) (s : State) : Host.Outcome State Fault Refusal :=
  .next (s.onAll (fun _ v => v.powerOff d))

/-- SITE_UNBIND_OFF (R343). -/
def execSiteUnbindOff (x : SiteIx) (s : State) : Host.Outcome State Fault Refusal :=
  .next (s.onAll (fun e d => d.unbindOff e x))

/-- RETRY_ORDER (R346). -/
def execRetryOrder (d : DomainIx) (s : State) : Host.Outcome State Fault Refusal :=
  .next (s.onAll (fun _ v => v.retry d))

/-- OVER_CURRENT_CUT (R348). -/
def execOverCurrentCut (r : CutSource) (s : State) : Host.Outcome State Fault Refusal :=
  .next (s.onDev (fun e d => d.overCurrent e r))

/-- BANK_SHORT_LATCH (R347). -/
def execBankShortLatch (h : HalfId) (b : BankId) (cur : Nat) (s : State) : Host.Outcome State Fault Refusal :=
  .next (s.onAll (fun e d => d.bankLatch e h b cur))

/-- PWR_ALERT_N (R348). -/
def execPwrAlertN (s : State) : Host.Outcome State Fault Refusal :=
  .next (s.onDev (fun e d => d.alert e))

/-- CUT_RELEASE (R349). -/
def execCutRelease (r : CutSource) (s : State) : Host.Outcome State Fault Refusal :=
  .next (s.onDev (fun _ d => d.release_ r))

/-- CLUSTER_RESTORE (R349). -/
def execClusterRestore (s : State) : Host.Outcome State Fault Refusal :=
  .next (s.onDev (fun _ d => d.restoreNext))

/-- DERATE_END (R350). -/
def execDerateEnd (s : State) : Host.Outcome State Fault Refusal :=
  .next (s.onDev (fun e d => d.derateEnd e))

/-- TOP_POINT_RESTORE (R350). -/
def execTopPointRestore (c : ClusterId) (s : State) : Host.Outcome State Fault Refusal :=
  .next (s.onDev (fun e d => d.topRestore e c))

/-- FIXED_EN (R356). -/
def execFixedEn (f : FuncId) (v : Word) (s : State) : Host.Outcome State Fault Refusal :=
  .next (s.onDev (fun e d => d.writeMode e f v))

/-- WEIR_SILENCE (R358). -/
def execWeirSilence (h : HalfId) (s : State) : Host.Outcome State Fault Refusal :=
  .next (s.onDev (fun e d => d.weirSilent e h))

/-- WEIR_RESUME (R358). -/
def execWeirResume (s : State) : Host.Outcome State Fault Refusal :=
  .next (s.onDev (fun _ d => d.weirResume))

/-- BANK_SOFT_START_DONE (R357). -/
def execBankSoftStartDone (h : HalfId) (b : BankId) (s : State) : Host.Outcome State Fault Refusal :=
  .next (s.onAll (fun e d => d.softStarted e h b))

/-- POWER_BOND_CHECK (R391). -/
def execPowerBondCheck (c : ClusterId) (dropTenthMv curTenthA : Nat) (s : State) : Host.Outcome State Fault Refusal :=
  .next (s.onDev (fun e d => d.bondCheck e c dropTenthMv curTenthA))

/-- PWR_SLUICE_CNT (R91). -/
def execPwrSluiceCnt (f : FuncId) (s : State) : Host.Outcome State Fault Refusal :=
  .next (s.onDev (fun _ d => d.readSluice f))

/-- PWR_FIXED_CNT (R91). -/
def execPwrFixedCnt (f : FuncId) (s : State) : Host.Outcome State Fault Refusal :=
  .next (s.onDev (fun _ d => d.readFixed f))

/-- DOMAIN_ON (R470). -/
def execDomainOn (h : HalfId) (v : Word) (s : State) : Host.Outcome State Fault Refusal :=
  .next (s.onAll (fun _ d => d.towLayer h (decide (cmdUnit v < 22)) (fun d => d.cmdOn h v)))

/-- DOMAIN_OFF (R470). -/
def execDomainOff (h : HalfId) (v : Word) (s : State) : Host.Outcome State Fault Refusal :=
  .next (s.onAll (fun _ d => d.towLayer h (decide (cmdUnit v < 22)) (fun d => d.cmdOff h v)))

/-- DOMAIN_RETRY (R470). -/
def execDomainRetry (h : HalfId) (v : Word) (s : State) : Host.Outcome State Fault Refusal :=
  .next (s.onAll (fun e d => d.towLayer h (d.retryTaken h v) (fun d => d.cmdRetry e h v)))

end Sys2Proof.Machine
end

