-- ==== Sys2Proof/Machine/CmdService.lean ====
section
/-! DEFINITION. Commands of the KV page store, of the Barge and of the token service engine: what each does, one definition for each
command. -/

namespace Sys2Proof.Machine

/-- ALLOCATION_WAIT_TIMEOUT (R143). -/
def execAllocationWaitTimeout (q : SeqSlot) (s : State) : Host.Outcome State Fault Refusal :=
  .next (s.onDev (fun e d => d.allocTimeout e q))

/-- GROUP_FREE (R140). -/
def execGroupFree (t : TileId) (base : Nat) (s : State) : Host.Outcome State Fault Refusal :=
  .next (s.onDev (fun _ d => d.groupFree t base))

/-- GROUP_ZERO_FILL_COMPLETE (R140). -/
def execGroupZeroFillComplete (t : TileId) (base : Nat) (s : State) : Host.Outcome State Fault Refusal :=
  .next (s.onDev (fun e d => d.groupFilled e t base))

/-- SWAP_OUT (R147). -/
def execSwapOut (q : SeqSlot) (s : State) : Host.Outcome State Fault Refusal :=
  .next (s.onDev (fun e d => d.swapOut e q))

/-- SWAP_IN (R144). -/
def execSwapIn (s : State) : Host.Outcome State Fault Refusal :=
  .next (s.onDev (fun e d => d.swapIn e))

/-- T2_RETURN (R145). -/
def execT2Return (s : State) : Host.Outcome State Fault Refusal :=
  .next (s.onDev (fun e d => d.t2Return e))

/-- LANDING_COPY (R148). -/
def execLandingCopy (t : TileId) (s : State) : Host.Outcome State Fault Refusal :=
  .next (s.onDev (fun e d => d.landingCopy e t))

/-- BARGE_MOVE_COMPLETE (R149). -/
def execBargeMoveComplete (port : BargePort) (r : MoveResult) (s : State) : Host.Outcome State Fault Refusal :=
  .next (s.onDev (fun e d => (d.moveDone e port r).exportsSend e))

/-- GENERATE (R212). -/
def execGenerate (c : CtxId) (s : State) : Host.Outcome State Fault Refusal :=
  .next (s.onDev (fun e d => d.generate e c))

/-- CANCEL (R219). -/
def execCancel (c : CtxId) (s : State) : Host.Outcome State Fault Refusal :=
  .next (s.onDev (fun e d => d.cancel e c))

/-- KV_EXPORT (R237). -/
def execKvExport (c : CtxId) (s : State) : Host.Outcome State Fault Refusal :=
  .next (s.onDev (fun e d => (d.kvExport e c).exportsSend e))

/-- KV_IMPORT (R237). -/
def execKvImport (c : CtxId) (img : Option (List Byte)) (s : State) : Host.Outcome State Fault Refusal :=
  .next (s.onDev (fun e d => d.kvImport e c img))

/-- RELEASE (R218). -/
def execRelease (c : CtxId) (s : State) : Host.Outcome State Fault Refusal :=
  .next (s.onDev (fun e d => d.release e c))

/-- RUN_GRAPH (R238). -/
def execRunGraph (c : CtxId) (s : State) : Host.Outcome State Fault Refusal :=
  .next (s.onDev (fun e d => d.runGraph e c))

/-- MODEL_LOAD (R207). -/
def execModelLoad (c : CtxId) (hdr : Option (List Byte)) (s : State) : Host.Outcome State Fault Refusal :=
  .next (s.onAll (fun e d => d.loadSlot e c hdr))

/-- MODEL_IMAGE_READ_COMPLETE (R207). -/
def execModelImageReadComplete (m : ModelSlotId) (img : Option (List Byte)) (s : State) : Host.Outcome State Fault Refusal :=
  .next (s.onAll (fun e d => d.imageBound e m img))

/-- MODEL_ZERO_FILL_COMPLETE (R207). -/
def execModelZeroFillComplete (m : ModelSlotId) (s : State) : Host.Outcome State Fault Refusal :=
  .next (s.onAll (fun _ d => if d.slotReady m then d.modelZeroed m else d))

/-- MODEL_COPY_COMPLETE (R207). -/
def execModelCopyComplete (m : ModelSlotId) (s : State) : Host.Outcome State Fault Refusal :=
  .next (s.onAll (fun e d => d.modelCopied e m))

/-- MODEL_UNLOAD (R209). -/
def execModelUnload (c : CtxId) (s : State) : Host.Outcome State Fault Refusal :=
  .next (s.onAll (fun e d => d.modelUnload e c))

/-- ADMISSION (R221). -/
def execAdmission (s : State) : Host.Outcome State Fault Refusal :=
  .next (s.onDev (fun e d => d.admission e))

/-- DECODE_LAUNCH (R223). -/
def execDecodeLaunch (m : ModelSlotId) (s : State) : Host.Outcome State Fault Refusal :=
  .next (s.onAll (fun e d => d.decodeLaunch e m))

/-- PREFILL_LAUNCH (R224). -/
def execPrefillLaunch (m : ModelSlotId) (s : State) : Host.Outcome State Fault Refusal :=
  .next (s.onAll (fun e d => d.prefillLaunch e m))

/-- GRAPH_LAUNCH (R238). -/
def execGraphLaunch (m : ModelSlotId) (s : State) : Host.Outcome State Fault Refusal :=
  .next (s.onAll (fun e d => d.graphLaunch e m))

/-- LAUNCH_COMPLETE (R226). -/
def execLaunchComplete (tag : BitVec 16) (s : State) : Host.Outcome State Fault Refusal :=
  .next (s.onAll (fun e d => d.launchComplete e tag))

/-- LAUNCH_FAULT (R228). -/
def execLaunchFault (tag : BitVec 16) (s : State) : Host.Outcome State Fault Refusal :=
  .next (s.onAll (fun e d => d.launchFault e tag))

/-- TOKEN_DELIVERY (R235). -/
def execTokenDelivery (s : State) : Host.Outcome State Fault Refusal :=
  .next (s.onDev (fun e d => d.tokenDelivery e))

/-- AGEING (R225). -/
def execAgeing (w : WaitRef) (s : State) : Host.Outcome State Fault Refusal :=
  .next (s.onDev (fun e d => d.ageing e w))

/-- ROTATION_CHECK (R230). -/
def execRotationCheck (s : State) : Host.Outcome State Fault Refusal :=
  .next (s.onDev (fun e d => d.rotationCheck e))

/-- ROTATION_SWITCH (R230). -/
def execRotationSwitch (m : ModelSlotId) (s : State) : Host.Outcome State Fault Refusal :=
  .next (s.onDev (fun _ d => d.rotationSwitch m))

end Sys2Proof.Machine
end

