-- ==== Sys2Proof/Machine/CmdStep.lean ====
section
/-! DEFINITION. Commands of the near-bank units, of messages and control steps, of completion and delivery, of the mesh, of the samplers
and of the tile counters: what each does, one definition for each command. -/

namespace Sys2Proof.Machine

/-- REDUCE (R173). -/
def execReduce (i : StepIn) (s : State) : Host.Outcome State Fault Refusal :=
  .next (s.onStep i.tile (fun e f => f.stepCmd e i (fun d => opIs 0x30 d && (d.mod == 1 || d.mod == 0 || decide (7 < d.mod))) runReduce))

/-- SCALE_ADD (R174). -/
def execScaleAdd (i : StepIn) (s : State) : Host.Outcome State Fault Refusal :=
  .next (s.onStep i.tile (fun e f => f.stepCmd e i (opModIs 0x30 2) runScaleAdd))

/-- GATHER (R175). -/
def execGather (i : StepIn) (s : State) : Host.Outcome State Fault Refusal :=
  .next (s.onStep i.tile (fun e f => f.stepCmd e i (opModIs 0x30 3) runGather))

/-- FILL (R176). -/
def execFill (i : StepIn) (s : State) : Host.Outcome State Fault Refusal :=
  .next (s.onStep i.tile (fun e f => f.stepCmd e i (opModIs 0x30 4) runFill))

/-- KV_APPEND (R122). -/
def execKvAppend (i : StepIn) (s : State) : Host.Outcome State Fault Refusal :=
  .next (s.onStep i.tile (fun e f => f.stepCmd e i (opModIs 0x30 5) runKvAppend))

/-- RMS_STATS (R177). -/
def execRmsStats (i : StepIn) (s : State) : Host.Outcome State Fault Refusal :=
  .next (s.onStep i.tile (fun e f => f.stepCmd e i (opModIs 0x30 6) runRmsStats))

/-- CHECK_RECOMP (R178). -/
def execCheckRecomp (i : StepIn) (s : State) : Host.Outcome State Fault Refusal :=
  .next (s.onStep i.tile (fun e f => f.stepCmd e i (opModIs 0x30 7) runCheckRecomp))

/-- SEND (R43). -/
def execSend (i : StepIn) (s : State) : Host.Outcome State Fault Refusal :=
  .next (s.onStep i.tile (fun e f => f.stepCmd e i (opIs 0x40) runSend))

/-- SAMPLE (R60). -/
def execSample (i : StepIn) (s : State) : Host.Outcome State Fault Refusal :=
  .next (s.onStep i.tile (fun e f => f.stepCmd e i (opIs 0x48) runSample))

/-- WAIT (R39). -/
def execWait (i : StepIn) (s : State) : Host.Outcome State Fault Refusal :=
  .next (s.onStep i.tile (fun e f => f.wait e i))

/-- SIGNAL (R35). -/
def execSignal (i : StepIn) (s : State) : Host.Outcome State Fault Refusal :=
  .next (s.onStep i.tile (fun e f => f.signal e i))

/-- FENCE_STREAM (R44). -/
def execFenceStream (i : StepIn) (s : State) : Host.Outcome State Fault Refusal :=
  .next (s.onStep i.tile (fun e f => f.fence e i 0))

/-- FENCE_TILE (R44). -/
def execFenceTile (i : StepIn) (s : State) : Host.Outcome State Fault Refusal :=
  .next (s.onStep i.tile (fun e f => f.fence e i 1))

/-- FENCE_MESH (R44). -/
def execFenceMesh (i : StepIn) (s : State) : Host.Outcome State Fault Refusal :=
  .next (s.onStep i.tile (fun e f => f.fence e i 2))

/-- FENCE_DEVICE (R44). -/
def execFenceDevice (i : StepIn) (s : State) : Host.Outcome State Fault Refusal :=
  .next (s.onStep i.tile (fun e f => f.fence e i 3))

/-- LOOP (R37). -/
def execLoop (i : StepIn) (s : State) : Host.Outcome State Fault Refusal :=
  .next (s.onStep i.tile (fun e f => f.loop e i))

/-- END (R32). -/
def execEndStep (i : StepIn) (s : State) : Host.Outcome State Fault Refusal :=
  .next (s.onStep i.tile (fun e f => f.endStep e i))

/-- STEP_COMPLETE (R42). -/
def execStepComplete (t : TileId) (st : StreamId) (id : Nat) (s : State) : Host.Outcome State Fault Refusal :=
  .next (s.onFab (fun e f => f.stepComplete e t st id))

/-- END_COMPLETION (R32). -/
def execEndCompletion (t : TileId) (st : StreamId) (s : State) : Host.Outcome State Fault Refusal :=
  .next (s.onFab (fun e f => f.endCompletion e t st))

/-- STEP_TIMEOUT (R45). -/
def execStepTimeout (t : TileId) (st : StreamId) (s : State) : Host.Outcome State Fault Refusal :=
  .next (s.onFab (fun e f => f.stepTimeout e t st))

/-- SEND_DELIVERY (R43). -/
def execSendDelivery (t : TileId) (st : StreamId) (id : Nat) (s : State) : Host.Outcome State Fault Refusal :=
  .next (s.onDev (fun e d => d.sendDelivery e t st id))

/-- SCRATCH_REFETCH (R52). -/
def execScratchRefetch (t : TileId) (ups : List DramUpset) (s : State) : Host.Outcome State Fault Refusal :=
  .next (s.onFab (fun e f => f.refetch e t ups))

/-- ABORT (R228). -/
def execAbort (t : TileId) (tag : BitVec 16) (s : State) : Host.Outcome State Fault Refusal :=
  .next (s.onFab (fun _ f => f.abort t tag))

/-- MESH_FLIT_RETRY (R58). -/
def execMeshFlitRetry (c : ClusterId) (_dir : Fin 4) (s : State) : Host.Outcome State Fault Refusal :=
  .next (s.onFab (fun _ f => f.meshRetry c))

/-- MESH_LANE_FAIL (R58). -/
def execMeshLaneFail (c : ClusterId) (dir : Fin 4) (_lane : Fin 66) (s : State) : Host.Outcome State Fault Refusal :=
  .next (s.onAll (fun e d => d.meshLaneFail e c dir))

/-- COLUMN_FIRST_SWITCH (R58). -/
def execColumnFirstSwitch (h : HalfId) (s : State) : Host.Outcome State Fault Refusal :=
  .next (s.onFab (fun _ f => f.columnFirst h))

/-- SAMPLER_ARM (R60). -/
def execSamplerArm (c : ClusterId) (slot : Fin 256) (s : State) : Host.Outcome State Fault Refusal :=
  .next (s.onDev (fun _ d => if d.samplerOn c then d.samplerArm c slot.val else d))

/-- LOGIT_SLICE (R61). -/
def execLogitSlice (c : ClusterId) (n : Nat) (s : State) : Host.Outcome State Fault Refusal :=
  .next (s.onDev (fun _ d => if d.samplerOn c then d.onFab (fun f => f.logitSlice c n) else d))

/-- SAMPLER_RESULT (R61). -/
def execSamplerResult (c : ClusterId) (slot : Fin 256) (s : State) : Host.Outcome State Fault Refusal :=
  .next (s.onDev (fun _ d => if d.samplerOn c then d.onFab (fun f => f.samplerResult c slot.val) else d))

/-- STREAMS_QUIESCED (R66). -/
def execStreamsQuiesced (h : HalfId) (s : State) : Host.Outcome State Fault Refusal :=
  .next (s.onFab (fun _ f => f.streamsQuiesced h))

/-- STATE_COPY_COMPLETE (R66). -/
def execStateCopyComplete (h : HalfId) (s : State) : Host.Outcome State Fault Refusal :=
  .next (s.onAll (fun e d => d.order e (.stateCopied h)))

/-- SCRATCH_FILL_DONE (R67). -/
def execScratchFillDone (x : SiteIx) (mmOk attOk : Bool) (s : State) : Host.Outcome State Fault Refusal :=
  .next (s.onAll (fun e d => if d.siteOn x && d.codeLoaded x then d.onFab (fun f => f.fillScratch e x mmOk attOk) else d))

/-- TILE_MM_DBG_SEL (R115). -/
def execTileMmDbgSel (f : FuncId) (t : TileId) (v : Word) (s : State) : Host.Outcome State Fault Refusal :=
  .next (s.onDev (fun e d => if f = 0 then d.tileWrite e t 0x140 v else d))

/-- TILE_SCRATCH_ERR (R91). -/
def execTileScratchErr (f : FuncId) (t : TileId) (s : State) : Host.Outcome State Fault Refusal :=
  .next (s.onDev (fun _ d => d.readTileReg f t (fun g => g.readScratchErr t)))

/-- TILE_FMT_EVENTS (R91). -/
def execTileFmtEvents (f : FuncId) (t : TileId) (s : State) : Host.Outcome State Fault Refusal :=
  .next (s.onDev (fun _ d => d.readTileReg f t (fun g => g.readFmtEvents t)))

/-- TILE_MM_CHK (R110). -/
def execTileMmChk (f : FuncId) (t : TileId) (s : State) : Host.Outcome State Fault Refusal :=
  .next (s.onDev (fun _ d => d.readTileReg f t (fun g => g.readMmChk t)))

/-- TILE_ATT_EVENTS (R91). -/
def execTileAttEvents (f : FuncId) (t : TileId) (s : State) : Host.Outcome State Fault Refusal :=
  .next (s.onDev (fun _ d => d.readTileReg f t (fun g => g.readAttEvents t)))

/-- TILE_DRAM_ERR (R91). -/
def execTileDramErr (f : FuncId) (t : TileId) (s : State) : Host.Outcome State Fault Refusal :=
  .next (s.onDev (fun _ d => d.readTileReg f t (fun g => g.readDramErr t)))

end Sys2Proof.Machine
end

