-- ==== Sys2Proof/Machine/CmdThermal.lean ====
section
/-! DEFINITION. Commands of the Onion model, of the tray and of the hard-wired limits: what each does, one definition for each command. -/

namespace Sys2Proof.Machine

/-- ONION_MODEL_PERIOD (R361). -/
def execOnionModelPeriod (r : OnionIn) (s : State) : Host.Outcome State Fault Refusal :=
  .next (s.onDev (fun e d => d.onionPeriod e r))

/-- THROTTLE_UPDATE (R367). -/
def execThrottleUpdate (s : State) : Host.Outcome State Fault Refusal :=
  .next (s.onDev (fun e d => d.throttle e))

/-- CONTROL_TEMPERATURE_SEND (R362). -/
def execControlTemperatureSend (s : State) : Host.Outcome State Fault Refusal :=
  .next (s.onDev (fun _ d => d.sendTemps))

/-- TRAY_READ (R359). -/
def execTrayRead (r : Option TrayReading) (s : State) : Host.Outcome State Fault Refusal :=
  .next (s.onDev (fun e d => d.trayRead e r))

/-- TRAY_LOST (R366). -/
def execTrayLost (s : State) : Host.Outcome State Fault Refusal :=
  .next (s.onDev (fun e d => d.trayLoss e))

/-- INLET_LIMIT_UPDATE (R366). -/
def execInletLimitUpdate (s : State) : Host.Outcome State Fault Refusal :=
  .next (s.onDev (fun e d => d.inletUpdate e))

/-- HARDWIRED_LIMIT (R368). -/
def execHardwiredLimit (q : SensorId) (reading : Nat) (s : State) : Host.Outcome State Fault Refusal :=
  .next (s.onDev (fun _ d => d.hardLimit q reading))

/-- THERMAL_TRIP (R371). -/
def execThermalTrip (q : SensorId) (byModel : Bool) (reading : Nat) (s : State) : Host.Outcome State Fault Refusal :=
  .next (s.onAll (fun e d => d.thermalTrip e q byModel reading))

/-- RCS_ESTIMATE (R370). -/
def execRcsEstimate (h : HalfId) (r : Nat) (s : State) : Host.Outcome State Fault Refusal :=
  .next (s.onAll (fun e d => d.rcsEstimate e h r))

/-- HARDWIRED_LIMIT_RELEASE (R368). -/
def execHardwiredLimitRelease (q : SensorId) (reading : Nat) (s : State) : Host.Outcome State Fault Refusal :=
  .next (s.onDev (fun _ d => d.hardRelease q reading))

end Sys2Proof.Machine
end

