-- ==== Sys2Proof/Machine/CmdTile.lean ====
section
/-! DEFINITION. Commands of time, of registers, of launches and of the steps that move rows, lay out operands, multiply and attend: what
each does, one definition for each command. -/

namespace Sys2Proof.Machine

/-- TIME_TICK (R21). -/
def execTimeTick (s : State) : Host.Outcome State Fault Refusal :=
  .next (if s.d.pwr.vaon then s.tick else s.bump)

/-- TICK_LOST (R22). -/
def execTickLost (b : TickBlock) (s : State) : Host.Outcome State Fault Refusal :=
  .next (s.tickLost b)

/-- TICK_RESUME (R22). -/
def execTickResume (b : TickBlock) (s : State) : Host.Outcome State Fault Refusal :=
  .next (s.tickResume b)

/-- REGISTER_WRITE (R466). -/
def execRegisterWrite (f : FuncId) (tgt : RegTarget) (size : Nat) (v : BitVec 64) (s : State) : Host.Outcome State Fault Refusal :=
  .next (s.onState (fun _ s => s.write f tgt size v))

/-- LAUNCH (R30). -/
def execLaunch (t : TileId) (p : LaunchPkt) (s : State) : Host.Outcome State Fault Refusal :=
  .next (s.onFab (fun e f => f.launch e t p))

/-- DESCRIPTOR_FETCH (R31). -/
def execDescriptorFetch (i : StepIn) (s : State) : Host.Outcome State Fault Refusal :=
  .next (if s.d.engineOn i.tile then s.onFab (fun e f => f.fetch e i) else s.bump)

/-- NOP (R35). -/
def execNop (i : StepIn) (s : State) : Host.Outcome State Fault Refusal :=
  .next (s.onStep i.tile (fun e f => f.nop e i))

/-- ROW_LOAD (R35). -/
def execRowLoad (i : StepIn) (s : State) : Host.Outcome State Fault Refusal :=
  .next (s.onStep i.tile (fun e f => f.stepCmd e i (opIs 0x01) runRowLoad))

/-- ROW_STORE (R35). -/
def execRowStore (i : StepIn) (s : State) : Host.Outcome State Fault Refusal :=
  .next (s.onStep i.tile (fun e f => f.stepCmd e i (opIs 0x02) runRowStore))

/-- LINEAR_LAYOUT (R54). -/
def execLinearLayout (i : StepIn) (s : State) : Host.Outcome State Fault Refusal :=
  .next (s.onStep i.tile (fun e f => f.stepCmd e i (fun d => opIs 0x03 d && d.mod % 8 == 0) runLinear))

/-- SKEW_LAYOUT (R54). -/
def execSkewLayout (i : StepIn) (s : State) : Host.Outcome State Fault Refusal :=
  .next (s.onStep i.tile (fun e f => f.stepCmd e i (fun d => opIs 0x03 d && d.mod % 8 != 0) runSkew))

/-- MATMUL (R98). -/
def execMatmul (i : StepIn) (s : State) : Host.Outcome State Fault Refusal :=
  .next (s.onStep i.tile (fun e f => f.stepCmd e i (opIs 0x10) runMatmul))

/-- CHECKSUM_MISMATCH (R109). -/
def execChecksumMismatch (t : TileId) (block : Nat) (rows cols : List (Fin 64)) (again : Bool) (s : State) : Host.Outcome State Fault Refusal :=
  .next (s.onFab (fun e f => f.checksumMismatch e t block rows cols again))

/-- ATTEND_FINAL (R130). -/
def execAttendFinal (i : StepIn) (s : State) : Host.Outcome State Fault Refusal :=
  .next (s.onStep i.tile (fun e f => f.stepCmd e i (fun d => opIs 0x18 d && (attOut d == 0 || attOut d == 3)) runAttend))

/-- ATTEND_PARTIAL (R131). -/
def execAttendPartial (i : StepIn) (s : State) : Host.Outcome State Fault Refusal :=
  .next (s.onStep i.tile (fun e f => f.stepCmd e i (fun d => opIs 0x18 d && attOut d == 1) runAttend))

/-- ATTEND_MERGE (R132). -/
def execAttendMerge (i : StepIn) (s : State) : Host.Outcome State Fault Refusal :=
  .next (s.onStep i.tile (fun e f => f.stepCmd e i (fun d => opIs 0x18 d && attOut d == 2) runMerge))

end Sys2Proof.Machine
end

