-- ==== Sys2Proof/Machine/CmdTrust.lean ====
section
/-! DEFINITION. Commands of the security block and of the management endpoint: what each does, one definition for each command. -/

namespace Sys2Proof.Machine

/-- GET_VERSION (R430). -/
def execGetVersion (m : SpdmIn) (s : State) : Host.Outcome State Fault Refusal :=
  .next (s.onState (fun e s => s.getVersion e m))

/-- GET_CAPABILITIES (R430). -/
def execGetCapabilities (m : SpdmIn) (s : State) : Host.Outcome State Fault Refusal :=
  .next (s.onState (fun e s => s.getCapabilities e m))

/-- NEGOTIATE_ALGORITHMS (R430). -/
def execNegotiateAlgorithms (m : SpdmIn) (s : State) : Host.Outcome State Fault Refusal :=
  .next (s.onState (fun e s => s.negotiate e m))

/-- GET_DIGESTS (R430). -/
def execGetDigests (m : SpdmIn) (s : State) : Host.Outcome State Fault Refusal :=
  .next (s.onState (fun e s => s.getDigests e m))

/-- GET_CERTIFICATE (R430). -/
def execGetCertificate (m : SpdmIn) (s : State) : Host.Outcome State Fault Refusal :=
  .next (s.onState (fun e s => s.getCertificate e m))

/-- CHALLENGE (R430). -/
def execChallenge (m : SpdmIn) (s : State) : Host.Outcome State Fault Refusal :=
  .next (s.onState (fun e s => s.challenge e m))

/-- GET_MEASUREMENTS (R429). -/
def execGetMeasurements (m : SpdmIn) (s : State) : Host.Outcome State Fault Refusal :=
  .next (s.onState (fun e s => s.getMeasurements e m))

/-- KEY_EXCHANGE (R431). -/
def execKeyExchange (m : SpdmIn) (s : State) : Host.Outcome State Fault Refusal :=
  .next (s.onState (fun e s => s.keyExchange e m))

/-- FINISH (R430). -/
def execFinish (m : SpdmIn) (s : State) : Host.Outcome State Fault Refusal :=
  .next (s.onState (fun e s => s.finish e m))

/-- HEARTBEAT (R430). -/
def execHeartbeat (m : SpdmIn) (s : State) : Host.Outcome State Fault Refusal :=
  .next (s.onState (fun e s => s.heartbeat e m))

/-- HEARTBEAT_EXPIRY (R458). -/
def execHeartbeatExpiry (session : Nat) (s : State) : Host.Outcome State Fault Refusal :=
  .next ({ s.bump with sec := s.sec.expire s.time.ticks session })

/-- KEY_UPDATE (R430). -/
def execKeyUpdate (m : SpdmIn) (s : State) : Host.Outcome State Fault Refusal :=
  .next (s.onState (fun e s => s.keyUpdate e m))

/-- END_SESSION (R430). -/
def execEndSession (m : SpdmIn) (s : State) : Host.Outcome State Fault Refusal :=
  .next (s.onState (fun e s => s.endSession e m))

/-- SEC_LOCK (R433). -/
def execSecLock (f : FuncId) (v : Word) (s : State) : Host.Outcome State Fault Refusal :=
  .next (s.onState (fun _ s => s.secLock f v))

/-- TAMPER_EVENT (R435). -/
def execTamperEvent (src : Fin 6) (s : State) : Host.Outcome State Fault Refusal :=
  .next (s.onState (fun e s => s.tamper e src))

/-- SEC_TAMPER_STATUS (R435). -/
def execSecTamperStatus (via : TamperPath) (v : Word) (present : BitVec 6) (s : State) : Host.Outcome State Fault Refusal :=
  .next (s.onState (fun _ s => s.clearTamper via v present))

/-- SET_ENDPOINT_ID (R438). -/
def execSetEndpointId (b : MctpBinding) (eid : Byte) (s : State) : Host.Outcome State Fault Refusal :=
  .next (s.onState (fun _ s => s.setEid b eid))

/-- GET_SENSOR_READING (R439). -/
def execGetSensorReading (b : MctpBinding) (sensor : Nat) (s : State) : Host.Outcome State Fault Refusal :=
  .next (s.onState (fun e s => s.getSensor e b sensor))

/-- POWER_CAP_EFFECTER (R439). -/
def execPowerCapEffecter (b : MctpBinding) (watts : Nat) (s : State) : Host.Outcome State Fault Refusal :=
  .next (s.onState (fun e s => s.capEffecter e b watts))

/-- PLATFORM_EVENT_ACK (R441). -/
def execPlatformEventAck (s : State) : Host.Outcome State Fault Refusal :=
  .next (s.onDev (fun _ d => d.eventAck))

/-- REQUEST_UPDATE (R442). -/
def execRequestUpdate (b : MctpBinding) (s : State) : Host.Outcome State Fault Refusal :=
  .next (s.onState (fun _ s => s.requestUpdate b))

/-- PASS_COMPONENT_TABLE (R442). -/
def execPassComponentTable (b : MctpBinding) (comps : List Byte) (s : State) : Host.Outcome State Fault Refusal :=
  .next (s.onState (fun _ s => s.passTable b comps))

/-- FIRMWARE_DATA (R442). -/
def execFirmwareData (b : MctpBinding) (d : FwPiece) (s : State) : Host.Outcome State Fault Refusal :=
  .next (s.onState (fun _ s => s.firmwareData b d))

/-- ACTIVATE_FIRMWARE (R442). -/
def execActivateFirmware (b : MctpBinding) (health : List FwHealth) (s : State) : Host.Outcome State Fault Refusal :=
  .next (s.onState (fun e s => s.activateFirmware e b health))

/-- GET_STATUS (R442). -/
def execGetStatus (b : MctpBinding) (s : State) : Host.Outcome State Fault Refusal :=
  .next (s.onState (fun _ s => s.getStatus b))

/-- SECURITY_TIMEBASE_RETURN (R443). -/
def execSecurityTimebaseReturn (s : State) : Host.Outcome State Fault Refusal :=
  .next ({ s.bump with sec := { s.sec with timebaseLost := false } })

end Sys2Proof.Machine
end

