-- ==== Sys2Proof/Machine/CmdVec.lean ====
section
/-! DEFINITION. Commands of the vector unit: what each does, one definition for each command. -/

namespace Sys2Proof.Machine

/-- COPY (R46). -/
def execCopy (i : StepIn) (s : State) : Host.Outcome State Fault Refusal :=
  .next (s.onStep i.tile (fun e f => f.stepCmd e i (fun d => opIs 0x20 d && (d.mod == 0 || !vecModOk d.mod)) runVec))

/-- ADD (R47). -/
def execAdd (i : StepIn) (s : State) : Host.Outcome State Fault Refusal :=
  .next (s.onStep i.tile (fun e f => f.stepCmd e i (opModIs 0x20 0x01) runVec))

/-- SUB (R47). -/
def execSub (i : StepIn) (s : State) : Host.Outcome State Fault Refusal :=
  .next (s.onStep i.tile (fun e f => f.stepCmd e i (opModIs 0x20 0x02) runVec))

/-- MUL (R47). -/
def execMul (i : StepIn) (s : State) : Host.Outcome State Fault Refusal :=
  .next (s.onStep i.tile (fun e f => f.stepCmd e i (opModIs 0x20 0x03) runVec))

/-- FMA (R47). -/
def execFma (i : StepIn) (s : State) : Host.Outcome State Fault Refusal :=
  .next (s.onStep i.tile (fun e f => f.stepCmd e i (opModIs 0x20 0x04) runVec))

/-- MAX (R46). -/
def execMax (i : StepIn) (s : State) : Host.Outcome State Fault Refusal :=
  .next (s.onStep i.tile (fun e f => f.stepCmd e i (opModIs 0x20 0x05) runVec))

/-- MIN (R46). -/
def execMin (i : StepIn) (s : State) : Host.Outcome State Fault Refusal :=
  .next (s.onStep i.tile (fun e f => f.stepCmd e i (opModIs 0x20 0x06) runVec))

/-- ABS (R46). -/
def execAbs (i : StepIn) (s : State) : Host.Outcome State Fault Refusal :=
  .next (s.onStep i.tile (fun e f => f.stepCmd e i (opModIs 0x20 0x07) runVec))

/-- NEG (R46). -/
def execNeg (i : StepIn) (s : State) : Host.Outcome State Fault Refusal :=
  .next (s.onStep i.tile (fun e f => f.stepCmd e i (opModIs 0x20 0x08) runVec))

/-- MUL_S (R47). -/
def execMulS (i : StepIn) (s : State) : Host.Outcome State Fault Refusal :=
  .next (s.onStep i.tile (fun e f => f.stepCmd e i (opModIs 0x20 0x09) runVec))

/-- ADD_S (R47). -/
def execAddS (i : StepIn) (s : State) : Host.Outcome State Fault Refusal :=
  .next (s.onStep i.tile (fun e f => f.stepCmd e i (opModIs 0x20 0x0A) runVec))

/-- CLAMP_S (R46). -/
def execClampS (i : StepIn) (s : State) : Host.Outcome State Fault Refusal :=
  .next (s.onStep i.tile (fun e f => f.stepCmd e i (opModIs 0x20 0x0B) runVec))

/-- RECIP (R49). -/
def execRecip (i : StepIn) (s : State) : Host.Outcome State Fault Refusal :=
  .next (s.onStep i.tile (fun e f => f.stepCmd e i (opModIs 0x20 0x10) runVec))

/-- RSQRT (R49). -/
def execRsqrt (i : StepIn) (s : State) : Host.Outcome State Fault Refusal :=
  .next (s.onStep i.tile (fun e f => f.stepCmd e i (opModIs 0x20 0x11) runVec))

/-- EXP (R49). -/
def execExp (i : StepIn) (s : State) : Host.Outcome State Fault Refusal :=
  .next (s.onStep i.tile (fun e f => f.stepCmd e i (opModIs 0x20 0x12) runVec))

/-- LOG (R49). -/
def execLog (i : StepIn) (s : State) : Host.Outcome State Fault Refusal :=
  .next (s.onStep i.tile (fun e f => f.stepCmd e i (opModIs 0x20 0x13) runVec))

/-- SIGMOID (R49). -/
def execSigmoid (i : StepIn) (s : State) : Host.Outcome State Fault Refusal :=
  .next (s.onStep i.tile (fun e f => f.stepCmd e i (opModIs 0x20 0x14) runVec))

/-- SILU (R49). -/
def execSilu (i : StepIn) (s : State) : Host.Outcome State Fault Refusal :=
  .next (s.onStep i.tile (fun e f => f.stepCmd e i (opModIs 0x20 0x15) runVec))

/-- GELU_TANH (R49). -/
def execGeluTanh (i : StepIn) (s : State) : Host.Outcome State Fault Refusal :=
  .next (s.onStep i.tile (fun e f => f.stepCmd e i (opModIs 0x20 0x16) runVec))

/-- TANH (R49). -/
def execTanh (i : StepIn) (s : State) : Host.Outcome State Fault Refusal :=
  .next (s.onStep i.tile (fun e f => f.stepCmd e i (opModIs 0x20 0x17) runVec))

/-- RSUM (R48). -/
def execRsum (i : StepIn) (s : State) : Host.Outcome State Fault Refusal :=
  .next (s.onStep i.tile (fun e f => f.stepCmd e i (opModIs 0x20 0x20) runVec))

/-- RMAX (R48). -/
def execRmax (i : StepIn) (s : State) : Host.Outcome State Fault Refusal :=
  .next (s.onStep i.tile (fun e f => f.stepCmd e i (opModIs 0x20 0x21) runVec))

/-- RSUMSQ (R48). -/
def execRsumsq (i : StepIn) (s : State) : Host.Outcome State Fault Refusal :=
  .next (s.onStep i.tile (fun e f => f.stepCmd e i (opModIs 0x20 0x22) runVec))

/-- RMSNORM (R48). -/
def execRmsnorm (i : StepIn) (s : State) : Host.Outcome State Fault Refusal :=
  .next (s.onStep i.tile (fun e f => f.stepCmd e i (opModIs 0x20 0x28) runVec))

/-- SOFTMAX (R48). -/
def execSoftmax (i : StepIn) (s : State) : Host.Outcome State Fault Refusal :=
  .next (s.onStep i.tile (fun e f => f.stepCmd e i (opModIs 0x20 0x29) runVec))

/-- ROPE (R46). -/
def execRope (i : StepIn) (s : State) : Host.Outcome State Fault Refusal :=
  .next (s.onStep i.tile (fun e f => f.stepCmd e i (opModIs 0x20 0x2A) runVec))

/-- SWIGLU (R46). -/
def execSwiglu (i : StepIn) (s : State) : Host.Outcome State Fault Refusal :=
  .next (s.onStep i.tile (fun e f => f.stepCmd e i (opModIs 0x20 0x2B) runVec))

/-- CVT (R87). -/
def execCvt (i : StepIn) (s : State) : Host.Outcome State Fault Refusal :=
  .next (s.onStep i.tile (fun e f => f.stepCmd e i (opModIs 0x20 0x30) runVec))

/-- QUANT (R88). -/
def execQuant (i : StepIn) (s : State) : Host.Outcome State Fault Refusal :=
  .next (s.onStep i.tile (fun e f => f.stepCmd e i (opModIs 0x20 0x31) runVec))

/-- MASK_IDX (R46). -/
def execMaskIdx (i : StepIn) (s : State) : Host.Outcome State Fault Refusal :=
  .next (s.onStep i.tile (fun e f => f.stepCmd e i (opModIs 0x20 0x38) runVec))

end Sys2Proof.Machine
end

