-- ==== Sys2Proof/Machine/Dispatch.lean ====
section
/-! DEFINITION. Dispatch: each command goes to its meaning. -/

namespace Sys2Proof.Machine
open Sys2Proof

def exec (i : Instr) (s : State) : Host.Outcome State Fault Refusal :=
  match i with
  | .timeTick => Sys2Proof.Machine.execTimeTick s
  | .tickLost b => Sys2Proof.Machine.execTickLost b s
  | .tickResume b => Sys2Proof.Machine.execTickResume b s
  | .registerWrite f tgt size v => Sys2Proof.Machine.execRegisterWrite f tgt size v s
  | .launch t p => Sys2Proof.Machine.execLaunch t p s
  | .descriptorFetch x => Sys2Proof.Machine.execDescriptorFetch x s
  | .nop x => Sys2Proof.Machine.execNop x s
  | .rowLoad x => Sys2Proof.Machine.execRowLoad x s
  | .rowStore x => Sys2Proof.Machine.execRowStore x s
  | .linearLayout x => Sys2Proof.Machine.execLinearLayout x s
  | .skewLayout x => Sys2Proof.Machine.execSkewLayout x s
  | .matmul x => Sys2Proof.Machine.execMatmul x s
  | .checksumMismatch t block rows cols again => Sys2Proof.Machine.execChecksumMismatch t block rows cols again s
  | .attendFinal x => Sys2Proof.Machine.execAttendFinal x s
  | .attendPartial x => Sys2Proof.Machine.execAttendPartial x s
  | .attendMerge x => Sys2Proof.Machine.execAttendMerge x s
  | .copy x => Sys2Proof.Machine.execCopy x s
  | .add x => Sys2Proof.Machine.execAdd x s
  | .sub x => Sys2Proof.Machine.execSub x s
  | .mul x => Sys2Proof.Machine.execMul x s
  | .fma x => Sys2Proof.Machine.execFma x s
  | .max x => Sys2Proof.Machine.execMax x s
  | .min x => Sys2Proof.Machine.execMin x s
  | .abs x => Sys2Proof.Machine.execAbs x s
  | .neg x => Sys2Proof.Machine.execNeg x s
  | .mulS x => Sys2Proof.Machine.execMulS x s
  | .addS x => Sys2Proof.Machine.execAddS x s
  | .clampS x => Sys2Proof.Machine.execClampS x s
  | .recip x => Sys2Proof.Machine.execRecip x s
  | .rsqrt x => Sys2Proof.Machine.execRsqrt x s
  | .exp x => Sys2Proof.Machine.execExp x s
  | .log x => Sys2Proof.Machine.execLog x s
  | .sigmoid x => Sys2Proof.Machine.execSigmoid x s
  | .silu x => Sys2Proof.Machine.execSilu x s
  | .geluTanh x => Sys2Proof.Machine.execGeluTanh x s
  | .tanh x => Sys2Proof.Machine.execTanh x s
  | .rsum x => Sys2Proof.Machine.execRsum x s
  | .rmax x => Sys2Proof.Machine.execRmax x s
  | .rsumsq x => Sys2Proof.Machine.execRsumsq x s
  | .rmsnorm x => Sys2Proof.Machine.execRmsnorm x s
  | .softmax x => Sys2Proof.Machine.execSoftmax x s
  | .rope x => Sys2Proof.Machine.execRope x s
  | .swiglu x => Sys2Proof.Machine.execSwiglu x s
  | .cvt x => Sys2Proof.Machine.execCvt x s
  | .quant x => Sys2Proof.Machine.execQuant x s
  | .maskIdx x => Sys2Proof.Machine.execMaskIdx x s
  | .reduce x => Sys2Proof.Machine.execReduce x s
  | .scaleAdd x => Sys2Proof.Machine.execScaleAdd x s
  | .gather x => Sys2Proof.Machine.execGather x s
  | .fill x => Sys2Proof.Machine.execFill x s
  | .kvAppend x => Sys2Proof.Machine.execKvAppend x s
  | .rmsStats x => Sys2Proof.Machine.execRmsStats x s
  | .checkRecomp x => Sys2Proof.Machine.execCheckRecomp x s
  | .send x => Sys2Proof.Machine.execSend x s
  | .sample x => Sys2Proof.Machine.execSample x s
  | .wait x => Sys2Proof.Machine.execWait x s
  | .signal x => Sys2Proof.Machine.execSignal x s
  | .fenceStream x => Sys2Proof.Machine.execFenceStream x s
  | .fenceTile x => Sys2Proof.Machine.execFenceTile x s
  | .fenceMesh x => Sys2Proof.Machine.execFenceMesh x s
  | .fenceDevice x => Sys2Proof.Machine.execFenceDevice x s
  | .loop x => Sys2Proof.Machine.execLoop x s
  | .endStep x => Sys2Proof.Machine.execEndStep x s
  | .stepComplete t st id => Sys2Proof.Machine.execStepComplete t st id s
  | .endCompletion t st => Sys2Proof.Machine.execEndCompletion t st s
  | .stepTimeout t st => Sys2Proof.Machine.execStepTimeout t st s
  | .sendDelivery t st id => Sys2Proof.Machine.execSendDelivery t st id s
  | .scratchRefetch t ups => Sys2Proof.Machine.execScratchRefetch t ups s
  | .abort t tag => Sys2Proof.Machine.execAbort t tag s
  | .meshFlitRetry c dir => Sys2Proof.Machine.execMeshFlitRetry c dir s
  | .meshLaneFail c dir lane => Sys2Proof.Machine.execMeshLaneFail c dir lane s
  | .columnFirstSwitch h => Sys2Proof.Machine.execColumnFirstSwitch h s
  | .samplerArm c slot => Sys2Proof.Machine.execSamplerArm c slot s
  | .logitSlice c n => Sys2Proof.Machine.execLogitSlice c n s
  | .samplerResult c slot => Sys2Proof.Machine.execSamplerResult c slot s
  | .streamsQuiesced h => Sys2Proof.Machine.execStreamsQuiesced h s
  | .stateCopyComplete h => Sys2Proof.Machine.execStateCopyComplete h s
  | .scratchFillDone x mmOk attOk => Sys2Proof.Machine.execScratchFillDone x mmOk attOk s
  | .tileMmDbgSel f t v => Sys2Proof.Machine.execTileMmDbgSel f t v s
  | .tileScratchErr f t => Sys2Proof.Machine.execTileScratchErr f t s
  | .tileFmtEvents f t => Sys2Proof.Machine.execTileFmtEvents f t s
  | .tileMmChk f t => Sys2Proof.Machine.execTileMmChk f t s
  | .tileAttEvents f t => Sys2Proof.Machine.execTileAttEvents f t s
  | .tileDramErr f t => Sys2Proof.Machine.execTileDramErr f t s
  | .rowTransfer x arrivals errs => Sys2Proof.Machine.execRowTransfer x arrivals errs s
  | .refreshBurst x bank => Sys2Proof.Machine.execRefreshBurst x bank s
  | .controlTemperatureUpdate x => Sys2Proof.Machine.execControlTemperatureUpdate x s
  | .refreshRelax x layer => Sys2Proof.Machine.execRefreshRelax x layer s
  | .temperatureUpdateTimeout x layer => Sys2Proof.Machine.execTemperatureUpdateTimeout x layer s
  | .dredgerScrub x errs => Sys2Proof.Machine.execDredgerScrub x errs s
  | .rowRepair x bank row => Sys2Proof.Machine.execRowRepair x bank row s
  | .columnRepair x bank bb => Sys2Proof.Machine.execColumnRepair x bank bb s
  | .columnRepairComplete x bank => Sys2Proof.Machine.execColumnRepairComplete x bank s
  | .spareLaneTest x boundary group pass => Sys2Proof.Machine.execSpareLaneTest x boundary group pass s
  | .laneTrainingDone x bad usable => Sys2Proof.Machine.execLaneTrainingDone x bad usable s
  | .columnFillDone x => Sys2Proof.Machine.execColumnFillDone x s
  | .repairTableReload x => Sys2Proof.Machine.execRepairTableReload x s
  | .hostApertureRead f addr len ups => Sys2Proof.Machine.execHostApertureRead f addr len ups s
  | .hostApertureWrite f addr data ep => Sys2Proof.Machine.execHostApertureWrite f addr data ep s
  | .allocationWaitTimeout q => Sys2Proof.Machine.execAllocationWaitTimeout q s
  | .groupFree t base => Sys2Proof.Machine.execGroupFree t base s
  | .groupZeroFillComplete t base => Sys2Proof.Machine.execGroupZeroFillComplete t base s
  | .swapOut q => Sys2Proof.Machine.execSwapOut q s
  | .swapIn => Sys2Proof.Machine.execSwapIn s
  | .t2Return => Sys2Proof.Machine.execT2Return s
  | .landingCopy t => Sys2Proof.Machine.execLandingCopy t s
  | .bargeMoveComplete port r => Sys2Proof.Machine.execBargeMoveComplete port r s
  | .generate c => Sys2Proof.Machine.execGenerate c s
  | .cancel c => Sys2Proof.Machine.execCancel c s
  | .kvExport c => Sys2Proof.Machine.execKvExport c s
  | .kvImport c img => Sys2Proof.Machine.execKvImport c img s
  | .release c => Sys2Proof.Machine.execRelease c s
  | .runGraph c => Sys2Proof.Machine.execRunGraph c s
  | .modelLoad c hdr => Sys2Proof.Machine.execModelLoad c hdr s
  | .modelImageReadComplete m img => Sys2Proof.Machine.execModelImageReadComplete m img s
  | .modelZeroFillComplete m => Sys2Proof.Machine.execModelZeroFillComplete m s
  | .modelCopyComplete m => Sys2Proof.Machine.execModelCopyComplete m s
  | .modelUnload c => Sys2Proof.Machine.execModelUnload c s
  | .admission => Sys2Proof.Machine.execAdmission s
  | .decodeLaunch m => Sys2Proof.Machine.execDecodeLaunch m s
  | .prefillLaunch m => Sys2Proof.Machine.execPrefillLaunch m s
  | .graphLaunch m => Sys2Proof.Machine.execGraphLaunch m s
  | .launchComplete tag => Sys2Proof.Machine.execLaunchComplete tag s
  | .launchFault tag => Sys2Proof.Machine.execLaunchFault tag s
  | .tokenDelivery => Sys2Proof.Machine.execTokenDelivery s
  | .ageing w => Sys2Proof.Machine.execAgeing w s
  | .rotationCheck => Sys2Proof.Machine.execRotationCheck s
  | .rotationSwitch m => Sys2Proof.Machine.execRotationSwitch m s
  | .sqTail b => Sys2Proof.Machine.execSqTail b s
  | .cqHead b => Sys2Proof.Machine.execCqHead b s
  | .eqHead b => Sys2Proof.Machine.execEqHead b s
  | .irqArm b => Sys2Proof.Machine.execIrqArm b s
  | .fenceDoorbell b x => Sys2Proof.Machine.execFenceDoorbell b x s
  | .enable f c => Sys2Proof.Machine.execEnable f c s
  | .disable f c => Sys2Proof.Machine.execDisable f c s
  | .reset f c => Sys2Proof.Machine.execReset f c s
  | .contextResetComplete c => Sys2Proof.Machine.execContextResetComplete c s
  | .bsnCtxBind f v => Sys2Proof.Machine.execBsnCtxBind f v s
  | .cqStall c => Sys2Proof.Machine.execCqStall c s
  | .interruptTimer c => Sys2Proof.Machine.execInterruptTimer c s
  | .hostReadCompletion tag r => Sys2Proof.Machine.execHostReadCompletion tag r s
  | .completionTimeout tag => Sys2Proof.Machine.execCompletionTimeout tag s
  | .lateCompletion tag => Sys2Proof.Machine.execLateCompletion tag s
  | .quarantineEnd tag => Sys2Proof.Machine.execQuarantineEnd tag s
  | .busMasterEnableClear f => Sys2Proof.Machine.execBusMasterEnableClear f s
  | .functionLevelReset f => Sys2Proof.Machine.execFunctionLevelReset f s
  | .hostLinkLoss => Sys2Proof.Machine.execHostLinkLoss s
  | .perstNAssert => Sys2Proof.Machine.execPerstNAssert s
  | .perstNDeassert => Sys2Proof.Machine.execPerstNDeassert s
  | .atsInvalidation f page => Sys2Proof.Machine.execAtsInvalidation f page s
  | .ctxErr f c => Sys2Proof.Machine.execCtxErr f c s
  | .bsnHostErr f => Sys2Proof.Machine.execBsnHostErr f s
  | .bsnHostAptErr f => Sys2Proof.Machine.execBsnHostAptErr f s
  | .bsnBargeErr f => Sys2Proof.Machine.execBsnBargeErr f s
  | .bsnTsLaunchErr f => Sys2Proof.Machine.execBsnTsLaunchErr f s
  | .dataFlit n e fl => Sys2Proof.Machine.execDataFlit n e fl s
  | .idleFlit n e fl => Sys2Proof.Machine.execIdleFlit n e fl s
  | .mapMsg n e fl => Sys2Proof.Machine.execMapMsg n e fl s
  | .mapack n e fl => Sys2Proof.Machine.execMapack n e fl s
  | .mapackTimeout n e => Sys2Proof.Machine.execMapackTimeout n e s
  | .retrain n e fl => Sys2Proof.Machine.execRetrain n e fl s
  | .retrainack n e fl => Sys2Proof.Machine.execRetrainack n e fl s
  | .lnkTimeout n e => Sys2Proof.Machine.execLnkTimeout n e s
  | .laneBad n e lane => Sys2Proof.Machine.execLaneBad n e lane s
  | .marginWarning n e lane regains => Sys2Proof.Machine.execMarginWarning n e lane regains s
  | .linkTrainingStart n => Sys2Proof.Machine.execLinkTrainingStart n s
  | .linkTrainingComplete n goodBH goodHB => Sys2Proof.Machine.execLinkTrainingComplete n goodBH goodHB s
  | .failedLinkRetry n => Sys2Proof.Machine.execFailedLinkRetry n s
  | .trunkFail h trunk => Sys2Proof.Machine.execTrunkFail h trunk s
  | .fenceLift h => Sys2Proof.Machine.execFenceLift h s
  | .tier2LinkUp caps => Sys2Proof.Machine.execTier2LinkUp caps s
  | .tier2Lost => Sys2Proof.Machine.execTier2Lost s
  | .t2ReadTimeout => Sys2Proof.Machine.execT2ReadTimeout s
  | .t2WriteAck => Sys2Proof.Machine.execT2WriteAck s
  | .t2Err f => Sys2Proof.Machine.execT2Err f s
  | .lnkFenceErr f => Sys2Proof.Machine.execLnkFenceErr f s
  | .lnkErr f n => Sys2Proof.Machine.execLnkErr f n s
  | .lnkEvents f n => Sys2Proof.Machine.execLnkEvents f n s
  | .collectiveSlice t hdr elems => Sys2Proof.Machine.execCollectiveSlice t hdr elems s
  | .hello g hdr => Sys2Proof.Machine.execHello g hdr s
  | .helloTimer g => Sys2Proof.Machine.execHelloTimer g s
  | .partialMsg q hdr elems => Sys2Proof.Machine.execPartialMsg q hdr elems s
  | .resultMsg q hdr elems => Sys2Proof.Machine.execResultMsg q hdr elems s
  | .gatherMessage q hdr elems => Sys2Proof.Machine.execGatherMessage q hdr elems s
  | .collAbort g hdr => Sys2Proof.Machine.execCollAbort g hdr s
  | .collectiveTimeout g opSeq => Sys2Proof.Machine.execCollectiveTimeout g opSeq s
  | .gstateHello f g => Sys2Proof.Machine.execGstateHello f g s
  | .gstateOff f g => Sys2Proof.Machine.execGstateOff f g s
  | .netCollErr f => Sys2Proof.Machine.execNetCollErr f s
  | .portEnable f n v => Sys2Proof.Machine.execPortEnable f n v s
  | .portDisable f n v => Sys2Proof.Machine.execPortDisable f n v s
  | .portUp n sub => Sys2Proof.Machine.execPortUp n sub s
  | .ptpMessage n sub m => Sys2Proof.Machine.execPtpMessage n sub m s
  | .arpRequest n sub ip => Sys2Proof.Machine.execArpRequest n sub ip s
  | .neighborSolicitation n sub ip => Sys2Proof.Machine.execNeighborSolicitation n sub ip s
  | .roceSendReceive p => Sys2Proof.Machine.execRoceSendReceive p s
  | .roceAck p => Sys2Proof.Machine.execRoceAck p s
  | .rnrNak p => Sys2Proof.Machine.execRnrNak p s
  | .rcRetryTimeout q => Sys2Proof.Machine.execRcRetryTimeout q s
  | .cePacket p => Sys2Proof.Machine.execCePacket p s
  | .cnp p => Sys2Proof.Machine.execCnp p s
  | .rateIncrease q => Sys2Proof.Machine.execRateIncrease q s
  | .pfcFrame n prio quanta => Sys2Proof.Machine.execPfcFrame n prio quanta s
  | .qpRts f q v => Sys2Proof.Machine.execQpRts f q v s
  | .qpReset f q v => Sys2Proof.Machine.execQpReset f q v s
  | .netPortErr f n => Sys2Proof.Machine.execNetPortErr f n s
  | .laneLockLoss n lane => Sys2Proof.Machine.execLaneLockLoss n lane s
  | .laneLockTimeout n lane => Sys2Proof.Machine.execLaneLockTimeout n lane s
  | .cartPresence k => Sys2Proof.Machine.execCartPresence k s
  | .cartCheckComplete k r => Sys2Proof.Machine.execCartCheckComplete k r s
  | .cartRemoved k => Sys2Proof.Machine.execCartRemoved k s
  | .cartLightLoss k => Sys2Proof.Machine.execCartLightLoss k s
  | .prepare via k force => Sys2Proof.Machine.execPrepare via k force s
  | .cancelCartridge via k => Sys2Proof.Machine.execCancelCartridge via k s
  | .cartDrainComplete k => Sys2Proof.Machine.execCartDrainComplete k s
  | .interlockOpen k => Sys2Proof.Machine.execInterlockOpen k s
  | .cartI3cSilent k => Sys2Proof.Machine.execCartI3cSilent k s
  | .cartTelemetry k r => Sys2Proof.Machine.execCartTelemetry k r s
  | .lifeCounterWrite k => Sys2Proof.Machine.execLifeCounterWrite k s
  | .eolFit k => Sys2Proof.Machine.execEolFit k s
  | .ethPortClockLoss n => Sys2Proof.Machine.execEthPortClockLoss n s
  | .ptpClockLoss => Sys2Proof.Machine.execPtpClockLoss s
  | .cartControlClockLoss => Sys2Proof.Machine.execCartControlClockLoss s
  | .weirControlPeriod p => Sys2Proof.Machine.execWeirControlPeriod p s
  | .railSettled c => Sys2Proof.Machine.execRailSettled c s
  | .ringMonitorRead readings => Sys2Proof.Machine.execRingMonitorRead readings s
  | .spareCharacterisation x r => Sys2Proof.Machine.execSpareCharacterisation x r s
  | .wearScore => Sys2Proof.Machine.execWearScore s
  | .powerOnOrder d => Sys2Proof.Machine.execPowerOnOrder d s
  | .headerStageClose d railPct => Sys2Proof.Machine.execHeaderStageClose d railPct s
  | .rampFault d cur => Sys2Proof.Machine.execRampFault d cur s
  | .domainShort d cur => Sys2Proof.Machine.execDomainShort d cur s
  | .powerOffOrder d => Sys2Proof.Machine.execPowerOffOrder d s
  | .siteUnbindOff x => Sys2Proof.Machine.execSiteUnbindOff x s
  | .retryOrder d => Sys2Proof.Machine.execRetryOrder d s
  | .overCurrentCut r => Sys2Proof.Machine.execOverCurrentCut r s
  | .bankShortLatch h b cur => Sys2Proof.Machine.execBankShortLatch h b cur s
  | .pwrAlertN => Sys2Proof.Machine.execPwrAlertN s
  | .cutRelease r => Sys2Proof.Machine.execCutRelease r s
  | .clusterRestore => Sys2Proof.Machine.execClusterRestore s
  | .derateEnd => Sys2Proof.Machine.execDerateEnd s
  | .topPointRestore c => Sys2Proof.Machine.execTopPointRestore c s
  | .fixedEn f v => Sys2Proof.Machine.execFixedEn f v s
  | .weirSilence h => Sys2Proof.Machine.execWeirSilence h s
  | .weirResume => Sys2Proof.Machine.execWeirResume s
  | .bankSoftStartDone h b => Sys2Proof.Machine.execBankSoftStartDone h b s
  | .powerBondCheck c dropTenthMv curTenthA => Sys2Proof.Machine.execPowerBondCheck c dropTenthMv curTenthA s
  | .pwrSluiceCnt f => Sys2Proof.Machine.execPwrSluiceCnt f s
  | .pwrFixedCnt f => Sys2Proof.Machine.execPwrFixedCnt f s
  | .onionModelPeriod r => Sys2Proof.Machine.execOnionModelPeriod r s
  | .throttleUpdate => Sys2Proof.Machine.execThrottleUpdate s
  | .controlTemperatureSend => Sys2Proof.Machine.execControlTemperatureSend s
  | .trayRead r => Sys2Proof.Machine.execTrayRead r s
  | .trayLost => Sys2Proof.Machine.execTrayLost s
  | .inletLimitUpdate => Sys2Proof.Machine.execInletLimitUpdate s
  | .hardwiredLimit q reading => Sys2Proof.Machine.execHardwiredLimit q reading s
  | .thermalTrip q byModel reading => Sys2Proof.Machine.execThermalTrip q byModel reading s
  | .rcsEstimate h r => Sys2Proof.Machine.execRcsEstimate h r s
  | .errorReport => Sys2Proof.Machine.execErrorReport s
  | .collapseWindowClose k => Sys2Proof.Machine.execCollapseWindowClose k s
  | .holdoffEnd k => Sys2Proof.Machine.execHoldoffEnd k s
  | .bsnErrCons f v => Sys2Proof.Machine.execBsnErrCons f v s
  | .bsnErrCnt f => Sys2Proof.Machine.execBsnErrCnt f s
  | .tileSelftest t pass1 pass2 => Sys2Proof.Machine.execTileSelftest t pass1 pass2 s
  | .bsnMigCtrl f v => Sys2Proof.Machine.execBsnMigCtrl f v s
  | .spareReady h ok => Sys2Proof.Machine.execSpareReady h ok s
  | .migrationCopyComplete h => Sys2Proof.Machine.execMigrationCopyComplete h s
  | .repairRecordWrite okFirst okSecond => Sys2Proof.Machine.execRepairRecordWrite okFirst okSecond s
  | .repairRecordRetry okFirst okSecond => Sys2Proof.Machine.execRepairRecordRetry okFirst okSecond s
  | .vaonUp b => Sys2Proof.Machine.execVaonUp b s
  | .lockkeeperBootDone b => Sys2Proof.Machine.execLockkeeperBootDone b s
  | .basinRailsUp => Sys2Proof.Machine.execBasinRailsUp s
  | .vinUp h => Sys2Proof.Machine.execVinUp h s
  | .topologySet => Sys2Proof.Machine.execTopologySet s
  | .microcodeBroadcast n bad => Sys2Proof.Machine.execMicrocodeBroadcast n bad s
  | .checkTimeout n x ok => Sys2Proof.Machine.execCheckTimeout n x ok s
  | .codeSwitch n x => Sys2Proof.Machine.execCodeSwitch n x s
  | .clusterReset f v => Sys2Proof.Machine.execClusterReset f v s
  | .halfComputeReset f v => Sys2Proof.Machine.execHalfComputeReset f v s
  | .computeReset f v => Sys2Proof.Machine.execComputeReset f v s
  | .basinReset f v => Sys2Proof.Machine.execBasinReset f v s
  | .lockGatesClosed => Sys2Proof.Machine.execLockGatesClosed s
  | .resetComplete => Sys2Proof.Machine.execResetComplete s
  | .coldReset via => Sys2Proof.Machine.execColdReset via s
  | .fwStage f => Sys2Proof.Machine.execFwStage f s
  | .fwStageComplete r => Sys2Proof.Machine.execFwStageComplete r s
  | .fwActivate f health => Sys2Proof.Machine.execFwActivate f health s
  | .trialPass => Sys2Proof.Machine.execTrialPass s
  | .fwCommit f => Sys2Proof.Machine.execFwCommit f s
  | .fwRevert f => Sys2Proof.Machine.execFwRevert f s
  | .lkkHandover f => Sys2Proof.Machine.execLkkHandover f s
  | .coreBTakeover ok => Sys2Proof.Machine.execCoreBTakeover ok s
  | .coreARejoin => Sys2Proof.Machine.execCoreARejoin s
  | .tileMicrocodeDrain => Sys2Proof.Machine.execTileMicrocodeDrain s
  | .tileSwitchAbandon => Sys2Proof.Machine.execTileSwitchAbandon s
  | .lockstepMismatch aOk bOk => Sys2Proof.Machine.execLockstepMismatch aOk bOk s
  | .watchdogExpiry aOk bOk => Sys2Proof.Machine.execWatchdogExpiry aOk bOk s
  | .loadWindow load => Sys2Proof.Machine.execLoadWindow load s
  | .lkkClockLoss => Sys2Proof.Machine.execLkkClockLoss s
  | .lkkClockReturn => Sys2Proof.Machine.execLkkClockReturn s
  | .getVersion m => Sys2Proof.Machine.execGetVersion m s
  | .getCapabilities m => Sys2Proof.Machine.execGetCapabilities m s
  | .negotiateAlgorithms m => Sys2Proof.Machine.execNegotiateAlgorithms m s
  | .getDigests m => Sys2Proof.Machine.execGetDigests m s
  | .getCertificate m => Sys2Proof.Machine.execGetCertificate m s
  | .challenge m => Sys2Proof.Machine.execChallenge m s
  | .getMeasurements m => Sys2Proof.Machine.execGetMeasurements m s
  | .keyExchange m => Sys2Proof.Machine.execKeyExchange m s
  | .finish m => Sys2Proof.Machine.execFinish m s
  | .heartbeat m => Sys2Proof.Machine.execHeartbeat m s
  | .heartbeatExpiry session => Sys2Proof.Machine.execHeartbeatExpiry session s
  | .keyUpdate m => Sys2Proof.Machine.execKeyUpdate m s
  | .endSession m => Sys2Proof.Machine.execEndSession m s
  | .secLock f v => Sys2Proof.Machine.execSecLock f v s
  | .tamperEvent src => Sys2Proof.Machine.execTamperEvent src s
  | .secTamperStatus via v present => Sys2Proof.Machine.execSecTamperStatus via v present s
  | .setEndpointId b eid => Sys2Proof.Machine.execSetEndpointId b eid s
  | .getSensorReading b sensor => Sys2Proof.Machine.execGetSensorReading b sensor s
  | .powerCapEffecter b watts => Sys2Proof.Machine.execPowerCapEffecter b watts s
  | .platformEventAck => Sys2Proof.Machine.execPlatformEventAck s
  | .requestUpdate b => Sys2Proof.Machine.execRequestUpdate b s
  | .passComponentTable b comps => Sys2Proof.Machine.execPassComponentTable b comps s
  | .firmwareData b d => Sys2Proof.Machine.execFirmwareData b d s
  | .activateFirmware b health => Sys2Proof.Machine.execActivateFirmware b health s
  | .getStatus b => Sys2Proof.Machine.execGetStatus b s
  | .vinUndervoltage h => Sys2Proof.Machine.execVinUndervoltage h s
  | .vbsnUndervoltage => Sys2Proof.Machine.execVbsnUndervoltage s
  | .vphyUndervoltage => Sys2Proof.Machine.execVphyUndervoltage s
  | .vaonLoss => Sys2Proof.Machine.execVaonLoss s
  | .sidebandClockLoss => Sys2Proof.Machine.execSidebandClockLoss s
  | .sidebandClockReturn => Sys2Proof.Machine.execSidebandClockReturn s
  | .peerTableWrite x word v => Sys2Proof.Machine.execPeerTableWrite x word v s
  | .repairEntryWrite x e v => Sys2Proof.Machine.execRepairEntryWrite x e v s
  | .laneWrite x boundary group v => Sys2Proof.Machine.execLaneWrite x boundary group v s
  | .flimWrite x v => Sys2Proof.Machine.execFlimWrite x v s
  | .suspectWrite x v => Sys2Proof.Machine.execSuspectWrite x v s
  | .siteMapWrite c m => Sys2Proof.Machine.execSiteMapWrite c m s
  | .routeWrite c v => Sys2Proof.Machine.execRouteWrite c v s
  | .vsetWrite h pcl v => Sys2Proof.Machine.execVsetWrite h pcl v s
  | .domainOn h v => Sys2Proof.Machine.execDomainOn h v s
  | .domainOff h v => Sys2Proof.Machine.execDomainOff h v s
  | .domainRetry h v => Sys2Proof.Machine.execDomainRetry h v s
  | .linkClockLoss n => Sys2Proof.Machine.execLinkClockLoss n s
  | .ethPortClockReturn n => Sys2Proof.Machine.execEthPortClockReturn n s
  | .ptpClockReturn => Sys2Proof.Machine.execPtpClockReturn s
  | .cartControlClockReturn => Sys2Proof.Machine.execCartControlClockReturn s
  | .securityTimebaseReturn => Sys2Proof.Machine.execSecurityTimebaseReturn s
  | .vphyReturn => Sys2Proof.Machine.execVphyReturn s
  | .hardwiredLimitRelease q reading => Sys2Proof.Machine.execHardwiredLimitRelease q reading s
  | .busMasterEnableSet f => Sys2Proof.Machine.execBusMasterEnableSet f s
  | .vfEnable n => Sys2Proof.Machine.execVfEnable n s
  | .pfcPauseExpiry n prio => Sys2Proof.Machine.execPfcPauseExpiry n prio s
  | .rnrTimerExpiry q => Sys2Proof.Machine.execRnrTimerExpiry q s

end Sys2Proof.Machine
end

