-- ==== Sys2Proof/WellFormed.lean ====
section
/-! DEFINITION. Which commands can reach the block at all: lengths and ranges that the manual gives to what an operand carries. The
meanings take every command; a check here only says what the block's surroundings send. -/

namespace Sys2Proof

/-- A disturbed scratch byte lies in the 2 MiB scratch (R50). -/
def ScratchUpset.wf (u : ScratchUpset) : Bool := decide (u.addr < 2097152)

/-- A disturbed sector lies in the column, at a multiple of 64 (R24, R163). -/
def DramUpset.wf (u : DramUpset) : Bool := decide (u.off < 402653184) && u.off % 64 == 0

def StepIn.wf (i : StepIn) : Bool := i.scratchUps.all ScratchUpset.wf && i.dramUps.all DramUpset.wf

/-- START is 32-byte aligned, and the parameter block has 256 bytes (R29). -/
def LaunchPkt.wf (p : LaunchPkt) : Bool := p.start.toNat % 32 == 0 && p.params.length == 256

/-- A row of the column; a write carries one sector for each bit of its mask (R156, R160). -/
def RowReq.wf (r : RowReq) : Bool :=
  decide (r.ri < 393216) &&
  (if r.write then r.data.length == ((List.range 16).filter (fun i => r.mask.getLsbD i)).length else r.data.isEmpty)

/-- A flit has 256 bytes (R277). -/
def Flit.wf (f : Flit) : Bool := f.bytes.length == 256

/-- A packet carries at most 4,096 bytes of payload (Table Net-2). -/
def RocePkt.wf (p : RocePkt) : Bool := decide (p.payload.length ≤ 4096)

/-- A page read in has 16,384 bytes in 256 sectors (R121). -/
def MoveResult.wf : MoveResult → Bool
  | .done data poison => (data.isEmpty || data.length == 16384) && poison.all (fun k => decide (k < 256))
  | .readError => true
  | .mediaError _ etype dpa => decide (etype < 2 ^ 32) && decide (dpa < 2 ^ 64)

/-- Only a tier-2 device holds media-error event records (R297). -/
def MoveResult.fits (port : BargePort) : MoveResult → Bool
  | .mediaError .. => port == .tier2
  | _ => true

/-- One read returns at most 4,096 bytes. -/
def HostReadResult.wf : HostReadResult → Bool
  | .data bytes => decide (bytes.length ≤ 4096)
  | _ => true

/-- COMP of Table Bringup-5. -/
def compOk (n : Nat) : Bool := decide (1 ≤ n) && decide (n ≤ 10)

/-- A header of 128 bytes and a signature block of 256 (R415, R426). -/
def FwImage.wf (i : FwImage) : Bool := i.hdr.length == 128 && i.sig.length == 256

/-- A piece of an image has at most 1,024 bytes (Table Trust-11). -/
def FwPiece.wf (p : FwPiece) : Bool :=
  compOk p.comp && decide (p.len ≤ 1024) && (match p.image with | some i => i.wf | none => true)

/-- MCTP messages have at most 4,096 bytes (R438). -/
def SpdmIn.wf (m : SpdmIn) : Bool := decide (m.body.length ≤ 4096)

/-- 32 cluster banks and two halves are measured (R352). -/
def PowerMeas.wf (p : PowerMeas) : Bool := p.clMw.length == 32 && p.clCur.length == 32 && p.vinCur.length == 2

/-- A characterisation has 17 voltages (R338). -/
def SiteChar.wf (r : SiteChar) : Bool := r.volts.length == 17

/-- Only a component that failed its boot slot tries the other one (R417). -/
def BootIn.wf (b : BootIn) : Bool := b.bootFails.all compOk && b.otherFails.all (fun n => b.bootFails.contains n)

def healthOk (l : List FwHealth) : Bool := l.all (fun h => compOk h.comp)

/-- Is the command one that can reach the block? -/
def Instr.wf : Instr → Bool
  | .timeTick | .tickLost .. | .tickResume .. | .registerWrite .. => true
  | .launch _ p => p.wf
  | .descriptorFetch i => i.wf
  | .nop i => i.wf
  | .rowLoad i => i.wf
  | .rowStore i => i.wf
  | .linearLayout i => i.wf
  | .skewLayout i => i.wf
  | .matmul i => i.wf
  | .checksumMismatch _ _ rows cols _ => (!rows.isEmpty || !cols.isEmpty)
  | .attendFinal i => i.wf
  | .attendPartial i => i.wf
  | .attendMerge i => i.wf
  | .copy i => i.wf
  | .add i => i.wf
  | .sub i => i.wf
  | .mul i => i.wf
  | .fma i => i.wf
  | .max i => i.wf
  | .min i => i.wf
  | .abs i => i.wf
  | .neg i => i.wf
  | .mulS i => i.wf
  | .addS i => i.wf
  | .clampS i => i.wf
  | .recip i => i.wf
  | .rsqrt i => i.wf
  | .exp i => i.wf
  | .log i => i.wf
  | .sigmoid i => i.wf
  | .silu i => i.wf
  | .geluTanh i => i.wf
  | .tanh i => i.wf
  | .rsum i => i.wf
  | .rmax i => i.wf
  | .rsumsq i => i.wf
  | .rmsnorm i => i.wf
  | .softmax i => i.wf
  | .rope i => i.wf
  | .swiglu i => i.wf
  | .cvt i => i.wf
  | .quant i => i.wf
  | .maskIdx i => i.wf
  | .reduce i => i.wf
  | .scaleAdd i => i.wf
  | .gather i => i.wf
  | .fill i => i.wf
  | .kvAppend i => i.wf
  | .rmsStats i => i.wf
  | .checkRecomp i => i.wf
  | .send i => i.wf
  | .sample i => i.wf
  | .wait i => i.wf
  | .signal i => i.wf
  | .fenceStream i => i.wf
  | .fenceTile i => i.wf
  | .fenceMesh i => i.wf
  | .fenceDevice i => i.wf
  | .loop i => i.wf
  | .endStep i => i.wf
  | .stepComplete .. | .endCompletion .. | .stepTimeout .. | .sendDelivery .. => true
  | .scratchRefetch _ ups => ups.all DramUpset.wf
  | .abort .. | .meshFlitRetry .. | .meshLaneFail .. | .columnFirstSwitch .. | .samplerArm .. | .logitSlice .. | .samplerResult ..
  | .streamsQuiesced .. | .stateCopyComplete .. | .scratchFillDone .. | .tileMmDbgSel .. | .tileScratchErr .. | .tileFmtEvents ..
  | .tileMmChk .. | .tileAttEvents .. | .tileDramErr .. => true
  | .rowTransfer _ arrivals _ => arrivals.all RowReq.wf
  | .refreshBurst .. | .controlTemperatureUpdate .. | .refreshRelax .. | .temperatureUpdateTimeout .. | .dredgerScrub ..
  | .rowRepair .. | .columnRepair .. | .columnRepairComplete .. | .spareLaneTest .. | .laneTrainingDone .. | .columnFillDone ..
  | .repairTableReload .. => true
  | .hostApertureRead _ _ _ ups => ups.all DramUpset.wf
  | .hostApertureWrite .. | .allocationWaitTimeout .. | .groupFree .. | .groupZeroFillComplete .. | .swapOut .. | .swapIn | .t2Return
  | .landingCopy .. => true
  | .bargeMoveComplete port r => r.wf && r.fits port
  | .generate .. | .cancel .. | .kvExport .. | .kvImport .. | .release .. | .runGraph .. | .modelLoad .. | .modelImageReadComplete ..
  | .modelZeroFillComplete .. | .modelCopyComplete .. | .modelUnload .. | .admission | .decodeLaunch .. | .prefillLaunch ..
  | .graphLaunch .. | .launchComplete .. | .launchFault .. | .tokenDelivery | .ageing .. | .rotationCheck | .rotationSwitch ..
  | .sqTail .. | .cqHead .. | .eqHead .. | .irqArm .. | .fenceDoorbell .. | .enable .. | .disable .. | .reset ..
  | .contextResetComplete .. | .bsnCtxBind .. | .cqStall .. | .interruptTimer .. => true
  | .hostReadCompletion _ r => r.wf
  | .completionTimeout .. | .lateCompletion .. | .quarantineEnd .. | .busMasterEnableClear .. | .functionLevelReset .. | .hostLinkLoss
  | .perstNAssert | .perstNDeassert | .atsInvalidation .. | .ctxErr .. | .bsnHostErr .. | .bsnHostAptErr .. | .bsnBargeErr ..
  | .bsnTsLaunchErr .. => true
  | .dataFlit _ _ fl => fl.flit.wf
  | .idleFlit _ _ fl => fl.wf
  | .mapMsg _ _ fl => fl.wf
  | .mapack _ _ fl => fl.wf
  | .mapackTimeout .. => true
  | .retrain _ _ fl => fl.wf
  | .retrainack _ _ fl => fl.wf
  | .lnkTimeout .. | .laneBad .. | .marginWarning .. | .linkTrainingStart .. | .linkTrainingComplete .. | .failedLinkRetry ..
  | .trunkFail .. | .fenceLift .. => true
  | .tier2LinkUp caps => decide (caps.length ≤ 4)
  | .tier2Lost | .t2ReadTimeout | .t2WriteAck | .t2Err .. | .lnkFenceErr .. | .lnkErr .. | .lnkEvents .. => true
  | .collectiveSlice _ _ elems => decide (elems.length ≤ 992)
  | .hello .. | .helloTimer .. | .partialMsg .. | .resultMsg .. | .gatherMessage .. | .collAbort .. | .collectiveTimeout ..
  | .gstateHello .. | .gstateOff .. | .netCollErr .. | .portEnable .. | .portDisable .. | .portUp .. | .ptpMessage .. | .arpRequest ..
  | .neighborSolicitation .. => true
  | .roceSendReceive p => p.wf
  | .roceAck p => p.wf
  | .rnrNak p => p.wf
  | .rcRetryTimeout .. => true
  | .cePacket p => p.wf
  | .cnp p => p.wf
  | .rateIncrease .. | .pfcFrame .. | .qpRts .. | .qpReset .. | .netPortErr .. | .laneLockLoss .. | .laneLockTimeout ..
  | .cartPresence .. | .cartCheckComplete .. | .cartRemoved .. | .cartLightLoss .. | .prepare .. | .cancelCartridge ..
  | .cartDrainComplete .. | .interlockOpen .. | .cartI3cSilent .. | .cartTelemetry .. | .lifeCounterWrite .. | .eolFit ..
  | .ethPortClockLoss .. | .ptpClockLoss | .cartControlClockLoss => true
  | .weirControlPeriod p => p.wf
  | .railSettled .. | .ringMonitorRead .. => true
  | .spareCharacterisation _ r => r.wf
  | .wearScore | .powerOnOrder .. | .headerStageClose .. | .rampFault .. | .domainShort .. | .powerOffOrder .. | .siteUnbindOff ..
  | .retryOrder .. | .overCurrentCut .. | .bankShortLatch .. | .pwrAlertN | .cutRelease .. | .clusterRestore | .derateEnd
  | .topPointRestore .. | .fixedEn .. | .weirSilence .. | .weirResume | .bankSoftStartDone .. | .powerBondCheck .. | .pwrSluiceCnt ..
  | .pwrFixedCnt .. | .onionModelPeriod .. | .throttleUpdate | .controlTemperatureSend | .trayRead .. | .trayLost | .inletLimitUpdate
  | .hardwiredLimit .. | .thermalTrip .. | .rcsEstimate .. | .errorReport | .collapseWindowClose .. | .holdoffEnd .. | .bsnErrCons ..
  | .bsnErrCnt .. | .tileSelftest .. | .bsnMigCtrl .. | .spareReady .. | .migrationCopyComplete .. | .repairRecordWrite ..
  | .repairRecordRetry .. => true
  | .vaonUp b => b.wf
  | .lockkeeperBootDone b => b.wf
  | .basinRailsUp | .vinUp .. | .topologySet | .microcodeBroadcast .. | .checkTimeout .. | .codeSwitch .. | .clusterReset ..
  | .halfComputeReset .. | .computeReset .. | .basinReset .. | .lockGatesClosed | .resetComplete | .coldReset .. | .fwStage .. => true
  | .fwStageComplete r => (match r with | some i => i.wf | none => true)
  | .fwActivate _ health => healthOk health
  | .trialPass | .fwCommit .. | .fwRevert .. | .lkkHandover .. | .coreBTakeover .. | .coreARejoin | .tileMicrocodeDrain
  | .tileSwitchAbandon | .lockstepMismatch .. | .watchdogExpiry .. => true
  | .loadWindow load => decide (load ≤ 100)
  | .lkkClockLoss | .lkkClockReturn => true
  | .getVersion m => m.wf
  | .getCapabilities m => m.wf
  | .negotiateAlgorithms m => m.wf
  | .getDigests m => m.wf
  | .getCertificate m => m.wf
  | .challenge m => m.wf
  | .getMeasurements m => m.wf
  | .keyExchange m => m.wf
  | .finish m => m.wf
  | .heartbeat m => m.wf
  | .heartbeatExpiry .. => true
  | .keyUpdate m => m.wf
  | .endSession m => m.wf
  | .secLock .. | .tamperEvent .. | .secTamperStatus .. | .setEndpointId .. | .getSensorReading .. | .powerCapEffecter ..
  | .platformEventAck | .requestUpdate .. => true
  | .passComponentTable _ comps => decide (comps.length ≤ 10)
  | .firmwareData _ d => d.wf
  | .activateFirmware _ health => healthOk health
  | .getStatus .. | .vinUndervoltage .. | .vbsnUndervoltage | .vphyUndervoltage | .vaonLoss | .sidebandClockLoss
  | .sidebandClockReturn | .peerTableWrite .. | .repairEntryWrite .. | .laneWrite .. | .flimWrite .. | .suspectWrite ..
  | .siteMapWrite .. | .routeWrite .. | .vsetWrite .. | .domainOn .. | .domainOff .. | .domainRetry .. | .linkClockLoss ..
  | .ethPortClockReturn .. | .ptpClockReturn | .cartControlClockReturn | .securityTimebaseReturn | .vphyReturn
  | .hardwiredLimitRelease .. | .busMasterEnableSet .. | .vfEnable .. | .pfcPauseExpiry .. | .rnrTimerExpiry .. => true

end Sys2Proof
end

