-- ==== Sys2Proof/Safety.lean ====
section
/-! DEFINITION. What counts as a safe run, in the terms that statements use: a step that goes on, the invariants that every step keeps, and the
commands that can bring a cold reset. -/

namespace Sys2Proof.Machine
open Sys2Proof

/-- The step at `s` goes on in `t`. -/
def Goes (s t : State) : Prop := step s = .next t

/-- The command, carried out at `s`, goes on to a state of which `P` holds. -/
def Yields (c : Instr) (s : State) (P : State → Prop) : Prop := ∃ t, exec c s = .next t ∧ P t

/-- State u is state a but for what follows at once from a command: the phases of clusters and the waits of idle sites (R343, R353), a half that
comes into service, the events of state sensors (R439), and what is sent. -/
def Thereafter (a u : State) : Prop :=
  u.pending = a.pending ∧ u.time = a.time ∧ u.fuse = a.fuse ∧ u.sec = a.sec ∧ u.agg = a.agg ∧
  u.d = { a.d with
    pwr := { a.d.pwr with cls := u.d.pwr.cls, doms := u.d.pwr.doms }
    fab := { a.d.fab with halfUp := u.d.fab.halfUp }
    lkk := { a.d.lkk with events := u.d.lkk.events, dropped := u.d.lkk.dropped, evSent := u.d.lkk.evSent }
    out := u.d.out }

/-- What holds of the security block in every state: at most four sessions (R430), each of its own number; a tamper level up to 3, of which 2
and 3 have set SEC_LOCK (R434); level-3 bits stand in SEC_TAMPER_STATUS (R443), and the count fits its field. -/
structure SecInv (q : Sec) : Prop where
  fourSessions : q.sessions.length ≤ 4
  ownNumbers : (q.sessions.map (·.id)).Nodup
  usedNumbers : ∀ x ∈ q.sessions, x.id < q.nextSession
  levels : q.level ≤ 3
  locked : 2 ≤ q.level → q.lock = true
  shown : q.level3 &&& ~~~q.sources = 0
  counted : q.count ≤ 65535

/-- The commands whose effect can be a cold reset: VAON rises or falls, the main rails return, a cold reset is ordered, or the mailbox is
written. -/
def coldCommand : Instr → Bool
  | .vaonUp _ | .vaonLoss | .basinRailsUp | .coldReset _ | .registerWrite _ _ _ _ => true
  | _ => false

end Sys2Proof.Machine
end

