-- ==== Sys2Proof/Certificates/Slice0/Obligations.lean ====
section
/-! DEFINITION. The statements about the model, for the provers: what a step does, what every command leaves alone, and what the commands of
each family do, with the invariants that every step keeps. -/

open Sys2Proof Sys2Proof.Machine

/-- Site x carries logical tile t, and packets for the tile are delivered to it: no cut-over holds them, and the site takes them. -/
def Carries (s : State) (t : TileId) (x : SiteIx) : Prop :=
  s.d.fab.siteOf t = some x ∧ s.d.fab.holding t = false ∧ (s.d.fab.site x).ready = true

/-- Stream b is stream a but for marks of R111 on steps in flight. -/
def SameButMarks (a b : Stream) : Prop :=
  ∃ m : StepRec → StepRec, (∀ r, m r = r ∨ m r = { r with spoiled := true }) ∧ b = { a with steps := a.steps.map m }

/-- Nothing has changed but the halves and the fabric that joins them. -/
def OnlyFabric (s u : State) : Prop :=
  u.pending = s.pending ∧ u.time = s.time ∧ u.fuse = s.fuse ∧ u.sec = s.sec ∧ u.agg = s.agg ∧ u.d = { s.d with fab := u.d.fab }

/-- In the halves nothing has changed but site x and its column, what the tile has told, and the packets under way. -/
def OnlySite (s u : State) (x : SiteIx) : Prop :=
  OnlyFabric s u ∧ (∀ y : SiteIx, y ≠ x → u.d.fab.site y = s.d.fab.site y ∧ u.d.fab.col y = s.d.fab.col y) ∧
  u.d.fab.clusters = s.d.fab.clusters ∧ u.d.fab.halfUp = s.d.fab.halfUp ∧ u.d.fab.fenced = s.d.fab.fenced ∧ u.d.fab.mapValid = s.d.fab.mapValid ∧
  u.d.fab.cut = s.d.fab.cut ∧ u.d.fab.kvRegion = s.d.fab.kvRegion

/-- Command c is the one by which a step with work of its own issues, for a descriptor d of its opcode (Tables Tiles-4, Tiles-7, DRAM-7). -/
def StepsAs (c : Instr) (i : StepIn) (d : Desc) : Prop :=
  (c = .rowLoad i ∧ d.opcode = 0x01) ∨ (c = .rowStore i ∧ d.opcode = 0x02) ∨ (c = .linearLayout i ∧ d.opcode = 0x03 ∧ d.mod % 8 = 0) ∨
  (c = .skewLayout i ∧ d.opcode = 0x03 ∧ d.mod % 8 ≠ 0) ∨ (c = .matmul i ∧ d.opcode = 0x10) ∨
  (c = .attendFinal i ∧ d.opcode = 0x18 ∧ attOut d = 0) ∨ (c = .attendPartial i ∧ d.opcode = 0x18 ∧ attOut d = 1) ∨
  (c = .attendMerge i ∧ d.opcode = 0x18 ∧ attOut d = 2) ∨ (c = .copy i ∧ d.opcode = 0x20 ∧ d.mod = 0x00) ∨
  (c = .add i ∧ d.opcode = 0x20 ∧ d.mod = 0x01) ∨ (c = .sub i ∧ d.opcode = 0x20 ∧ d.mod = 0x02) ∨ (c = .mul i ∧ d.opcode = 0x20 ∧ d.mod = 0x03) ∨
  (c = .fma i ∧ d.opcode = 0x20 ∧ d.mod = 0x04) ∨ (c = .max i ∧ d.opcode = 0x20 ∧ d.mod = 0x05) ∨ (c = .min i ∧ d.opcode = 0x20 ∧ d.mod = 0x06) ∨
  (c = .abs i ∧ d.opcode = 0x20 ∧ d.mod = 0x07) ∨ (c = .neg i ∧ d.opcode = 0x20 ∧ d.mod = 0x08) ∨ (c = .mulS i ∧ d.opcode = 0x20 ∧ d.mod = 0x09) ∨
  (c = .addS i ∧ d.opcode = 0x20 ∧ d.mod = 0x0A) ∨ (c = .clampS i ∧ d.opcode = 0x20 ∧ d.mod = 0x0B) ∨
  (c = .recip i ∧ d.opcode = 0x20 ∧ d.mod = 0x10) ∨ (c = .rsqrt i ∧ d.opcode = 0x20 ∧ d.mod = 0x11) ∨
  (c = .exp i ∧ d.opcode = 0x20 ∧ d.mod = 0x12) ∨ (c = .log i ∧ d.opcode = 0x20 ∧ d.mod = 0x13) ∨
  (c = .sigmoid i ∧ d.opcode = 0x20 ∧ d.mod = 0x14) ∨ (c = .silu i ∧ d.opcode = 0x20 ∧ d.mod = 0x15) ∨
  (c = .geluTanh i ∧ d.opcode = 0x20 ∧ d.mod = 0x16) ∨ (c = .tanh i ∧ d.opcode = 0x20 ∧ d.mod = 0x17) ∨
  (c = .rsum i ∧ d.opcode = 0x20 ∧ d.mod = 0x20) ∨ (c = .rmax i ∧ d.opcode = 0x20 ∧ d.mod = 0x21) ∨
  (c = .rsumsq i ∧ d.opcode = 0x20 ∧ d.mod = 0x22) ∨ (c = .rmsnorm i ∧ d.opcode = 0x20 ∧ d.mod = 0x28) ∨
  (c = .softmax i ∧ d.opcode = 0x20 ∧ d.mod = 0x29) ∨ (c = .rope i ∧ d.opcode = 0x20 ∧ d.mod = 0x2A) ∨
  (c = .swiglu i ∧ d.opcode = 0x20 ∧ d.mod = 0x2B) ∨ (c = .cvt i ∧ d.opcode = 0x20 ∧ d.mod = 0x30) ∨
  (c = .quant i ∧ d.opcode = 0x20 ∧ d.mod = 0x31) ∨ (c = .maskIdx i ∧ d.opcode = 0x20 ∧ d.mod = 0x38) ∨
  (c = .reduce i ∧ d.opcode = 0x30 ∧ d.mod = 1) ∨ (c = .scaleAdd i ∧ d.opcode = 0x30 ∧ d.mod = 2) ∨ (c = .gather i ∧ d.opcode = 0x30 ∧ d.mod = 3) ∨
  (c = .fill i ∧ d.opcode = 0x30 ∧ d.mod = 4) ∨ (c = .kvAppend i ∧ d.opcode = 0x30 ∧ d.mod = 5) ∨ (c = .rmsStats i ∧ d.opcode = 0x30 ∧ d.mod = 6) ∨
  (c = .checkRecomp i ∧ d.opcode = 0x30 ∧ d.mod = 7) ∨ (c = .send i ∧ d.opcode = 0x40) ∨ (c = .sample i ∧ d.opcode = 0x48) ∨
  (c = .signal i ∧ d.opcode = 0x51)

/-- Command c is the one by which a control opcode issues. -/
def ControlAs (c : Instr) (i : StepIn) (d : Desc) : Prop :=
  (c = .nop i ∧ d.opcode = 0x00) ∨ (c = .wait i ∧ d.opcode = 0x50) ∨ (c = .fenceStream i ∧ d.opcode = 0x52 ∧ d.mod = 0) ∨
  (c = .fenceTile i ∧ d.opcode = 0x52 ∧ d.mod = 1) ∨ (c = .fenceMesh i ∧ d.opcode = 0x52 ∧ d.mod = 2) ∨
  (c = .fenceDevice i ∧ d.opcode = 0x52 ∧ d.mod = 3) ∨ (c = .loop i ∧ d.opcode = 0x60) ∨ (c = .endStep i ∧ d.opcode = 0x7F)

/-- The stream of a step command at site x. -/
def StreamOf (s : State) (i : StepIn) (x : SiteIx) : Stream := (s.d.fab.site x).stream i.stream

/-- The halves after the disturbances that a step command reports. -/
def Struck (s : State) (i : StepIn) (x : SiteIx) : Fabric := s.d.bump.fab.disturb x i.scratchUps i.dramUps

/-- Descriptor d, its strides added, stands next in the stream of a tile whose engine runs, and passes its checks. -/
structure Stands (s : State) (i : StepIn) (x : SiteIx) (d : Desc) : Prop where
  engine : s.d.mayIssue i.tile = true
  site : s.d.fab.siteOf i.tile = some x
  next : (StreamOf s i x).nextDesc = some d
  legal : issueCause (StreamOf s i x) d = none
  order : d.ord = true → (StreamOf s i x).steps = []

/-- The units that d takes are there, or the stream has been granted them. -/
def HasUnits (s : State) (i : StepIn) (x : SiteIx) (d : Desc) : Prop :=
  (StreamOf s i x).granted = true ∨ takeUnits d ≤ ((s.d.fab.site x).sems[d.wsem]).toNat

/-- The halves once d has taken its units. -/
def Took (s : State) (i : StepIn) (x : SiteIx) (d : Desc) : Fabric :=
  (Struck s i x).setSite x { (Struck s i x).site x with
    sems := if (StreamOf s i x).granted = true then (s.d.fab.site x).sems
      else (s.d.fab.site x).sems.set d.wsem (BitVec.ofNat 16 (((s.d.fab.site x).sems[d.wsem]).toNat - takeUnits d)) }

/-- What the work of d may read in halves f. -/
def At (s : State) (i : StepIn) (x : SiteIx) (d : Desc) (f : Fabric) : StepCtx :=
  { e := s.env, f := f, x := x, t := i.tile, st := i.stream, d := d, off := (StreamOf s i x).pc }

/-- The work of a step. -/
def Work (c : StepCtx) : RunOut := if c.d.opcode = 0x51 then runSignal c else runAny c

/-- The descriptor after the one at which the stream stands can be reached without a fault (R31). -/
def NextClear (v : Stream) : Prop :=
  (advance (v.pc + 32) v.loops).1 < 0x18000000 ∧ v.poisonAt (advance (v.pc + 32) v.loops).1 = none

/-- The order conditions of R41 hold for d, the column takes requests where its work uses it, and no mesh that it sends into holds new packets
(R58). -/
def MayRun (s : State) (i : StepIn) (x : SiteIx) (d : Desc) : Prop :=
  hazard (StreamOf s i x).steps (Work (At s i x d (Struck s i x))) = false ∧ (usesColumn d = true → (s.d.fab.col x).phase = .ready) ∧
  (Struck s i x).sendHeld x i.tile d = false

/-- The steps of the tile that a FENCE of scope TILE still waits for: those in flight when it was reached, and not done since. -/
def LeftOfFence (s : State) (i : StepIn) (x : SiteIx) : List (StreamId × Nat) :=
  ((StreamOf s i x).fence.getD (s.d.fab.site x).inFlight).filter (fun p => (s.d.fab.site x).inFlight.contains p)

/-- The condition of a FENCE holds (Table Tiles-6); another control opcode has none. -/
def FenceHolds (s : State) (i : StepIn) (x : SiteIx) (d : Desc) : Prop :=
  let v := StreamOf s i x
  d.opcode = 0x52 →
    (d.mod = 0 → v.steps = []) ∧ (d.mod = 1 → LeftOfFence s i x = []) ∧
    (d.mod = 2 → v.steps = [] ∧ ∀ r ∈ v.sends, tileHalf r.peer ≠ tileHalf i.tile) ∧ (d.mod = 3 → v.steps = [] ∧ v.sends = [] ∧ v.slices = 0)

/-- The scratch ranges that a VEC step reads. -/
def VecReads (c : StepCtx) : List (Nat × Nat) :=
  [(c.d.sa.toNat, vecABytes c.d)] ++ (if vecUsesB c.d then [(c.d.sb.toNat, vecBBytes c.d)] else []) ++
    (if c.d.mod = 4 then [(c.d.sd.toNat, vecDBytes c.d)] else [])

/-- Where its operands are read without error, the VEC step writes the n elements f, in FMT_D under RND, from SD on, and nothing else; its
saturations and NaNs are those of the conversions. -/
def VecGives (c : StepCtx) (n : Nat) (f : Nat → Val) : Prop :=
  c.site.checkReads (VecReads c) true = none →
  (Work c).res = .ok { StepEff.none with
    scratch := [{ addr := c.d.sd.toNat, poison := false, tag := none
                  bytes := codeBytes (vecWidth c.d.fd) ((List.range n).map (fun i => (vecOut c.d.fd (Rnd.ofField c.d.rnd) (f i)).code)) }]
    sat := ((List.range n).map (fun i => (vecOut c.d.fd (Rnd.ofField c.d.rnd) (f i)).sat)).sum
    nan := ((List.range n).map (fun i => (vecOut c.d.fd (Rnd.ofField c.d.rnd) (f i)).nan)).sum }

/-- Number of segments of a reduction. -/
def Segments (d : Desc) : Nat := if d.k = 0 then 0 else d.len / d.k

/-- Step r of a stream must not complete yet: a SIGNAL before which steps of the stream are in flight, or a MATMUL behind another in the array
(R35, R98). -/
def TooEarly (v : Site) (n : StreamId) (r : StepRec) : Prop :=
  match r.kind with
  | .signal _ _ => ∃ q ∈ (v.stream n).steps, q.id < r.id
  | .matmul _ _ _ => v.arr.behind n r.id = true
  | _ => False

/-- Step r is a SIGNAL. -/
def IsSignal (r : StepRec) : Prop := ∃ q n, r.kind = .signal q n

/-- A read-to-clear register: the PF gets its value, after which a read gives 0; another function gets 0 and clears nothing. Nothing else
changes. -/
def ReadClears (c : FuncId → Instr) (value : Dev → Nat) (clear : Dev → Dev) : Prop :=
  ∀ s : State,
    Yields (c 0) s (fun u => u = { s.bump with d := { clear s.d.bump with out := s.d.out ++ [Out.regValue (value s.d)] } } ∧ value u.d = 0) ∧
    (∀ f : FuncId, f ≠ 0 → Yields (c f) s (fun u => u = { s.bump with d := { s.d.bump with out := s.d.out ++ [Out.regValue 0] } }))

/-- As ReadClears, for a counter of the site that carries tile t: the counter is cleared where the window of the tile is there for the PF; it
reads as 0 where it is not. -/
def TileReadClears (c : FuncId → TileId → Instr) (value : Fabric → SiteIx → Nat) (clear : Fabric → SiteIx → Fabric) : Prop :=
  ∀ (s : State) (t : TileId),
    (∀ x : SiteIx, s.d.tileTakes t = true → s.d.fab.siteOf t = some x →
      Yields (c 0 t) s (fun u => u = { s.bump with d := { s.d.bump with fab := clear s.d.bump.fab x, out := s.d.out ++ [Out.regValue (value s.d.fab x)] } } ∧
        value u.d.fab x = 0)) ∧
    (∀ f : FuncId, f ≠ 0 ∨ s.d.tileTakes t = false →
      Yields (c f t) s (fun u => u = { s.bump with d := { s.d.bump with out := s.d.out ++ [Out.regValue 0] } }))

/-- The symbol errors that stay in a row, put into its sectors; those that are met in one transfer alone. -/
def Stuck (c : Column) (ri : Nat) (errs : List SymErr) : Column :=
  (errs.filter (fun q => q.persist)).foldl (fun c q => c.upset (16 * ri + q.sector.val) q.sym.val q.flip) c
def Passing (errs : List SymErr) : List SymErr := errs.filter (fun q => !q.persist)

/-- In the halves nothing has changed but the column of site x, the tags of its scratch, and the reports under way. -/
def OnlyColumn (s u : State) (x : SiteIx) : Prop :=
  OnlyFabric s u ∧ (∀ y : SiteIx, y ≠ x → u.d.fab.site y = s.d.fab.site y ∧ u.d.fab.col y = s.d.fab.col y) ∧
  { u.d.fab.site x with tags := [] } = { s.d.fab.site x with tags := [] } ∧
  { u.d.fab with sites := [], cols := [], reports := [] } = { s.d.bump.fab with sites := [], cols := [], reports := [] }

/-- No two rows of the column are held in one physical row: its row table names each spare for one row (R190). -/
def Apart (c : Column) : Prop := ∀ a b : Nat, a < 393216 → b < 393216 → c.phys a = c.phys b → a = b

/-- Requests of class k in a list. -/
def InClass (l : List RowReqRec) (k : Nat) : Nat := (l.filter (fun q => q.cls = k)).length

/-- The next report told after those of s has this code and suspect. -/
def Tells (s u : State) (code : Nat) (who : Suspect) : Prop :=
  ∃ (before after : List Report) (r : Report), u.d.fab.reports = s.d.fab.reports ++ before ++ r :: after ∧ r.code = code ∧ r.suspect = who

/-- Nothing has changed but the device: not the queue, the time, the fuses, the security block or the error log. -/
def OnlyDevice (s u : State) : Prop :=
  u.pending = s.pending ∧ u.time = s.time ∧ u.fuse = s.fuse ∧ u.sec = s.sec ∧ u.agg = s.agg

/-- The host interface but for its rings, its tags and vectors, and the reads and writes that wait. -/
def RingsOf (s u : State) : HostSt :=
  { s.d.host with ctxs := u.d.host.ctxs, tags := u.d.host.tags, msix := u.d.host.msix, posts := u.d.host.posts
                  expired := u.d.host.expired, share := u.d.host.share }

/-- Nothing has changed but the ring of context c, the tags and vectors that its records use, and what is sent; a fetch that a fence held
(R261) may have started in another context. -/
def OnlyRing (s u : State) (c : CtxId) : Prop :=
  OnlyDevice s u ∧ (∀ x : CtxId, x ≠ c → ∃ n, u.d.ctx x = { s.d.ctx x with fetching := n }) ∧
  u.d = { s.d.bump with host := RingsOf s u, out := u.d.out }

/-- Nothing has changed but the rings and the token service engine. -/
def OnlyRings (s u : State) : Prop :=
  OnlyDevice s u ∧
  u.d = { s.d.bump with host := RingsOf s u, svc := u.d.svc, out := u.d.out }

/-- No sequence is LOST with an end that is still to be reported (R146). -/
def NoLost (s : State) : Prop := ∀ p ∈ s.d.liveSeqs, p.2.kst ≠ 5

/-- The TSE image in force accepts descriptors of the level l (R415). -/
def TakesLevel (s : State) (l : Nat) : Prop := ∀ i, (s.d.comp 3).active = some i → i.descMin ≤ l ∧ l ≤ i.descN

/-- A read for function f can go out at once: it may draw a tag, and uses no translations (R263, R270). -/
def ReadsNow (s : State) (f : FuncId) : Prop := s.d.tagFree s.env f = true ∧ s.d.ats f = false

/-- w, fetched from context c as descriptor dsn, is its next one to be checked; no descriptor of an unknown opcode stands behind it, and no
load or unload of its ring names a model slot that it names (R260). -/
def NextIs (s : State) (c : CtxId) (dsn w : Nat) : Prop :=
  (s.d.ctx c).phase = .active ∧
  (∃ rest, (s.d.ctx c).fetched = (dsn, w) :: rest ∧ ∀ q ∈ rest, descKnown (fld q.2 7 0) = true) ∧
  ∀ m : ModelSlotId, ∀ o, (s.d.model m).op = some o → o.ctx ≠ c

/-- The record r of context c is told: written at CQ_TAIL where the completion ring has room and nothing stands before it, held otherwise. -/
def Told (s u : State) (c : CtxId) (r : CplRec) : Prop :=
  let v := s.d.ctx c
  (v.held = [] → v.flushing = false → 0 < v.cqFree → s.d.canIssue v.func = true → s.d.direct v.func = true → 32 ≤ (s.d.cfg 0).mps →
    v.cqBase % 32 = 0 → (bit v.cfg 0 = true → r.last = none) →
    ∃ a b : List Out, u.d.out = s.d.out ++ a ++
      [.hostWrite v.func.val (v.cqBase + 32 * v.cqTail) (r.bytes (nowNs s.time) v.sqHead v.cqPhase) false] ++ b) ∧
  ((∀ k ∈ v.held, k.rcd.dsn = r.dsn → k.rcd.rtype ≠ 1) → v.flushing = true ∨ s.d.canIssue v.func = false ∨ (v.held = [] ∧ v.cqFree = 0 ∧ (bit v.cfg 0 = true → r.last = none)) →
    ∃ h : HeldRec, (u.d.ctx c).held = v.held ++ [h] ∧ h.rcd = r)

/-- The record of a descriptor that ends without a sequence: END code, DETAIL, COUNT; its CLASS is that of Table Host-12. -/
def plainRec (dsn w code detail count : Nat) : CplRec :=
  { dsn := dsn, rtype := if fld w 7 0 = 1 then 2 else 3, endCode := code, opcode := fld w 7 0, seqId := 0xFFFFFFFF, tag := dpair w 2
    count := count, tokens := 0, detail := detail
    cls := if fld w 7 0 = 3 ∧ bit w 16 = true then 2 else descClass (fld w 7 0), last := none }

/-- The fields of a GENERATE are well formed (Table Service-9), but for its MODEL, CONT and CONT_SEQ. -/
def GoodGenerate (w : Nat) : Prop :=
  fld w 7 0 = 0x01 ∧ (fld w 15 8 = 2 ∨ (fld w 15 8 = 1 ∧ bit w 22 = false ∧ bit w 23 = false ∧ fld w 415 384 = 0)) ∧ fld w 19 18 ≤ 1 ∧
  fld w 39 36 ≤ 8 ∧ (bit w 20 = false → fld w 39 36 = 0) ∧ fld w 48 40 ≤ 256 ∧ fld w 63 49 = 0 ∧ fld w 191 128 % 64 = 0 ∧
  fld w 223 213 = 0 ∧ 1 ≤ fld w 244 224 ∧ fld w 244 224 ≤ 1048576 ∧ fld w 255 245 = 0 ∧ fld w 319 256 % 64 = 0 ∧
  (fld w 351 320 = 0 ∨ (0x00800000 ≤ fld w 351 320 ∧ fld w 351 320 ≤ 0x42C80000)) ∧
  0 < fld w 383 352 ∧ fld w 383 352 ≤ 0x3F800000 ∧ (fld w 415 384 < 0x3F800000 ∨ fld w 415 384 = 0x80000000)

/-- A GENERATE begins a sequence of its own. -/
def Begins (w : Nat) : Prop := bit w 23 = false ∧ fld w 447 416 = 0 ∧ 1 ≤ fld w 212 192

/-- Slot m serves GENERATE and KV_IMPORT: loaded, not failed, and its image has a PREFILL entry. -/
def ServesTokens (s : State) (m : ModelSlotId) : Prop :=
  (s.d.model m).phase = .loaded ∧ (s.d.model m).failed = false ∧ ∃ i, (s.d.model m).img = some i ∧ i.prefill ≠ 0xFF

/-- q is a HELD sequence of context c with the SEQ_ID, in no export and no import. -/
def IsHeld (s : State) (c : CtxId) (id : Nat) (q : SeqSlot) (v : Seq) : Prop :=
  s.d.seq q = some v ∧ id % 0x10000 = q.val ∧ id / 0x10000 % 0x10000 = v.gen ∧ v.ctx = c ∧ v.phase = .held ∧ v.exporting = false ∧
  ∀ i ∈ s.d.svc.imports, i.seq ≠ some q

/-- The record of a request that ends without a sequence, by its DSN, opcode, USER_TAG, END code and CLASS. -/
def endRec (dsn op tag code cls : Nat) : CplRec :=
  { dsn := dsn, rtype := 3, endCode := code, opcode := op, seqId := 0xFFFFFFFF, tag := tag, count := 0, tokens := 0, detail := 0
    cls := cls, last := none }

/-- Nothing has changed but the token service engine and its rings, and the contents of the halves. -/
def OnlyService (s u : State) : Prop :=
  OnlyDevice s u ∧
  u.d = { s.d with host := RingsOf s u, fab := u.d.fab, svc := u.d.svc, out := u.d.out }

/-- Nothing has changed but that, and the count of tier-2 reads that came with poison (R297). -/
def OnlyMoves (s u : State) : Prop :=
  OnlyDevice s u ∧
  u.d = { s.d with host := RingsOf s u, fab := u.d.fab, svc := u.d.svc, out := u.d.out
                   lnk := { s.d.lnk with t2 := { s.d.lnk.t2 with poisonRd := u.d.lnk.t2.poisonRd } } }

/-- The reads of host memory that a move needs have come or can be made now; a return from tier-2 needs none (R269). -/
def PageComes (s : State) (m : Move) (v : Seq) : Prop := m.kind = .t2Return ∨ 16384 ≤ m.got ∨ ReadsNow s (s.d.ctx v.ctx).func

/-- The data and the poison of a sector are as before. -/
def SameSector (s u : State) (x : SiteIx) (k : Nat) : Prop :=
  ((u.d.fab.col x).sector k).data = ((s.d.fab.col x).sector k).data ∧ ((u.d.fab.col x).sector k).poison = ((s.d.fab.col x).sector k).poison

/-- The request may be admitted now (R221): it is ready, a slot is EMPTY, its context has fewer than MAX_SEQ sequences, and the free groups
stay at or above the low mark. -/
def MayBeAdmitted (s : State) (r : GenReq) : Prop :=
  r.ready = true ∧ s.d.emptySlot ≠ none ∧ (s.d.liveSeqs.filter (fun p => p.2.ctx = r.ctx)).length < s.d.maxSeq r.ctx ∧
  kvLow s.env * s.d.totalGroups + 256 * cdiv r.promptLen (Nat.max 1 (s.d.imgOf r.model).tp) ≤ 256 * s.d.freeGroups

/-- Launch l of entry en of slot m has been entered: its tag is its own, and one LAUNCH packet for each launch record is under way. -/
def Launched (s u : State) (m : ModelSlotId) (en : Entry) (kind : Nat) (l : Launch) : Prop :=
  u.d.svc.launches = s.d.svc.launches ++ [l] ∧ l.model = m ∧ l.entry = en.num ∧ l.kind = kind ∧ l.fault = none ∧
  (s.d.svc.launches.length < 65536 → ∀ k ∈ s.d.svc.launches, k.tag ≠ l.tag) ∧
  u.d.fab.ctl = s.d.fab.ctl ++ l.packets.map (fun p => (p.1, CtlPkt.launch p.2)) ∧
  l.packets.map (fun p => (p.1, p.2.stream, p.2.start, p.2.semClear)) = en.recs.filterMap (fun r =>
    ((s.d.model m).roleTile r.vtile).map (fun t => (t, r.stream, BitVec.ofNat 32 r.start, BitVec.ofNat 32 r.semClear))) ∧
  (∀ p ∈ l.packets, p.2.tag = l.tag ∧ p.2.params.length = 256 ∧ leAt p.2.params 4 4 = (s.d.model m).launchSeq % 2 ^ 32 ∧
    (en.num < 256 → leAt p.2.params 0 1 = kind % 256 ∧ leAt p.2.params 1 1 = en.num ∧ leAt p.2.params 2 2 = l.rows.length % 65536)) ∧
  (u.d.model m).launchSeq = ((s.d.model m).launchSeq + 1) % 2 ^ 32 ∧
  u.d.lnk = s.d.lnk ∧ u.d.net = s.d.net ∧ u.d.host = s.d.host ∧ u.d.regs = s.d.regs ∧ OnlyDevice s u

/-- The memory writes that carry bytes to an address under the ID of function f (R241). -/
def Writes (s : State) (f : FuncId) (addr : Nat) (bs : List Byte) : List Out :=
  (writePieces (s.d.cfg 0).mps bs.length addr bs).map (fun p => Out.hostWrite f.val p.1 p.2 false)

/-- The value of a doorbell write as an index: all 32 bits of it. -/
def bellVal (b : Bell) : Nat := b.v.toNat % 2 ^ 32

/-- Doorbell b reaches context c with its proper size, in a state in which ok holds. -/
def Rings (s : State) (b : Bell) (size : Nat) (c : CtxId) (ok : CtxPhase → Prop) : Prop :=
  s.d.bellCtx b = some (c, false) ∧ b.size = size ∧ ok (s.d.ctx c).phase

/-- Context c has gone to FAULTED with the cause, and nothing else of its ring has moved. -/
def RingFaults (s u : State) (c : CtxId) (cause : Nat) : Prop :=
  (u.d.ctx c).phase = .faulted ∧ (u.d.ctx c).cause = cause ∧ (u.d.ctx c).sqTail = (s.d.ctx c).sqTail ∧
  (u.d.ctx c).cqHead = (s.d.ctx c).cqHead ∧ (u.d.ctx c).eqHead = (s.d.ctx c).eqHead ∧ OnlyRing s u c

/-- The event with these fields is written to the event ring of context c, where its writes go at once and it has room. -/
def EventWritten (s u : State) (c : CtxId) (etype arg : Nat) : Prop :=
  let v := s.d.ctx c
  s.d.canIssue v.func = true → s.d.direct v.func = true → 32 ≤ (s.d.cfg 0).mps → v.eqBase % 32 = 0 →
    ∃ rest, u.d.out = s.d.out ++ .hostWrite v.func.val (v.eqBase + 32 * v.eqTail) (eventBytes etype 0 arg (nowNs s.time) v.eqPhase) false :: rest

/-- No write of function f waits for a translation. -/
def NoPosts (s : State) (f : FuncId) : Prop := ∀ p ∈ s.d.host.posts, p.func ≠ f

/-- Context c is in RESET_PENDING: nothing of its rings is left, and its work in the token service engine has ended. -/
def Pending (u : State) (c : CtxId) : Prop :=
  let v := u.d.ctx c
  v.phase = .resetPending ∧ v.held = [] ∧ v.fetched = [] ∧ v.open_ = [] ∧ v.fences = Vector.replicate 4 none ∧
  (∀ r ∈ u.d.svc.queue, r.ctx ≠ c) ∧ (∀ (q : SeqSlot) (w : Seq), u.d.seq q = some w → w.ctx ≠ c) ∧ (∀ x ∈ u.d.svc.exports, x.ctx ≠ c)

/-- From the state s a command has made the device d, and then only what follows at once from that (R343, R353, R439). -/
def Becomes (s u : State) (d : Dev) : Prop :=
  Thereafter { s.bump with d := d } u ∧ ∃ rest : List Out, u.d.out = d.out ++ rest

/-- Of the links nothing has changed but link n, and nothing else of the device but the packets dropped, reports and what is sent. -/
def OnlyLink (s u : State) (n : LinkId) : Prop :=
  (∀ m : LinkId, m ≠ n → u.d.link m = s.d.link m) ∧ u.d.lnk.t2 = s.d.lnk.t2 ∧ u.d.lnk.trunk = s.d.lnk.trunk ∧ u.d.fab.fenced = s.d.fab.fenced ∧
  u.d.fab.sites = s.d.fab.sites ∧ u.d.fab.cols = s.d.fab.cols ∧ u.d.svc = s.d.svc ∧ u.d.host = s.d.host ∧ u.d.net = s.d.net ∧ OnlyDevice s u

/-- A good flit of a type (Table Basin-3), and of a kind where it is a LINKCTL. -/
def GoodFlit (f : Flit) (ftype : Nat) : Prop := flitOk f = true ∧ fld (flitHdr f) 27 26 = ftype
def GoodCtl (f : Flit) (kind : Nat) : Prop := GoodFlit f 2 ∧ leAt f.bytes 8 1 = kind ∧ bit (flitHdr f) 25 = false

/-- The far end of a link once it has sent these DATA flits in turn: each with the SEQ NEXT is kept until it is acknowledged, whether or not it
arrives, while fewer than 2,047 are unacknowledged (R279). -/
def sentAll (now : Nat) (t : EndSt) (fs : List Flit) : EndSt :=
  fs.foldl (fun t f => if flitOk f = true ∧ fld (flitHdr f) 27 26 = 1 ∧ fld (flitHdr f) 11 0 = t.next ∧ t.unacked < 2047 then
    { t with next := (t.next + 1) % 4096, buf := t.buf ++ [f.bytes], timer := if t.buf.isEmpty then now else t.timer } else t) t

/-- An end once the ACK of a flit header without NAK has acted on its transmitter (R281). -/
def afterAck (v : EndSt) (h now : Nat) : EndSt := if bit h 24 then v.free (fld h 23 12) now else v

/-- Nothing has changed but the ports, queue pairs, groups, clock and cartridges of the network, and what is sent. -/
def OnlyNet (s u : State) : Prop := OnlyDevice s u ∧ u.d = { s.d.bump with net := u.d.net, out := u.d.out }

/-- Nothing has changed but port n. -/
def OnlyPort (s u : State) (n : PortId) : Prop :=
  OnlyDevice s u ∧ u.d = { s.d.bump with net := { s.d.net with ports := u.d.net.ports } } ∧ ∀ m : PortId, m ≠ n → u.d.port m = s.d.port m

/-- A frame is dropped at port n and counted (R303). -/
def Dropped (s u : State) (n : PortId) : Prop :=
  u.d.port n = { s.d.port n with rxDrop := Nat.min ((s.d.port n).rxDrop + 1) 0xFFFF } ∧ OnlyPort s u n

/-- Nothing has changed but queue pair i, and what is sent. -/
def OnlyQp (s u : State) (i : QpId) : Prop :=
  OnlyNet s u ∧ u.d.net = { s.d.net with qps := u.d.net.qps } ∧ ∀ j : QpId, j ≠ i → u.d.qp j = s.d.qp j

/-- SPLIT and MAX_FRAME of a port that is enabled stay as they are (R302). -/
def Keeps (old v : Nat) : Prop := bit old 31 = true → bit v 30 = bit old 30 ∧ fld v 13 0 = fld old 13 0

/-- Port m is enabled and has no light by Table Net-7: it is not among the lowest-numbered ports that the width lights. -/
def Unlit (u : State) (m : PortId) : Bool :=
  portEn u.env m && !(((List.finRange 16).filter (portEn u.env)).take (litPorts u.d.lnk.wcap)).contains m

/-- A packet is taken by queue pair i (R303): it is whole, it names the queue pair, which is in RTS on that sub-port with that address. -/
def Reaches (s : State) (p : RocePkt) (i : QpId) : Prop :=
  p.good = true ∧ bit (s.d.port p.port).up.toNat p.sub.val = true ∧ p.qp.toNat = i.val ∧ (s.d.qp i).state = 1 ∧ (s.d.qp i).port = p.port ∧
  (s.d.qp i).sub = p.sub ∧ (s.d.qp i).sip = p.dst.toNat ∧
  ((s.d.qp i).f 0x1E 12 12 = 1 → p.vlan = some (BitVec.ofNat 12 ((s.d.qp i).f 0x1E 11 0))) ∧ ((s.d.qp i).ud = true → p.qkey.toNat = (s.d.qp i).f 0x14 31 0)

/-- Queue pair i is an RC queue pair of the collective engine (R315). -/
def Collective (s : State) (i : QpId) : Prop := (s.d.qp i).ud = false ∧ (s.d.qp i).owner = 2

/-- The PFC frames that the receive buffer of queue pair i brings (R311): the peer is paused at 75 % and resumed at 50 %, and the port keeps which
it has paused; `u` is the state after the buffer has changed. -/
def PausesPeer (s u : State) (i : QpId) (sent : List Out) : Prop :=
  let q := s.d.qp i
  let p := s.d.port q.port
  let fill := u.d.rxFill q.port q.prio
  let b := BitVec.ofNat 8 (2 ^ q.prio.val)
  let stop := p.sentPause.getLsbD q.prio.val = false ∧ pfcEn s.env q.port q.prio = true ∧ 3 * Config.portBuffer ≤ 4 * fill
  let go := p.sentPause.getLsbD q.prio.val = true ∧ 2 * fill ≤ Config.portBuffer
  (stop → sent = [.pfc q.port q.prio true] ∧ u.d.port q.port = { p with sentPause := p.sentPause ||| b }) ∧
  (go → sent = [.pfc q.port q.prio false] ∧ u.d.port q.port = { p with sentPause := p.sentPause &&& ~~~b }) ∧
  (¬ stop → ¬ go → sent = [] ∧ u.d.port q.port = p) ∧ ∀ m : PortId, m ≠ q.port → u.d.port m = s.d.port m

/-- What is sent from the oldest unacknowledged PSN of a queue pair on (R307). -/
def goBack (q : Qp) : List Out :=
  q.out.flatMap (fun w => let k := if psnDist w.psn q.una < w.packets then psnDist w.psn q.una else 0
    (List.range (w.packets - k)).map (fun i => Out.roce (q.packet w (k + i))))

/-- Queue pair i stands in ERROR, its requests have left it, and no operation of a group that it serves is in flight (R307, R321). -/
def QpFails (s u : State) (i : QpId) : Prop :=
  (u.d.qp i).state = 2 ∧ (u.d.qp i).out = [] ∧ (u.d.qp i).wait = [] ∧
  (s.d.net.held = [] → ∀ o ∈ u.d.net.ops, ∀ r : Nat, r < (s.d.group o.group).n → r ≠ (s.d.group o.group).rank → (s.d.group o.group).memberQp r ≠ i)

/-- A record is good for RTS (R305): its reserved bits are 0, and its fields hold what Table Net-2 allows. -/
def GoodRecord (q : Qp) (split : Bool) : Prop :=
  q.f 0 9 6 = 0 ∧ bit q.rcd 15 = false ∧ q.f 0 31 28 = 0 ∧ q.f 0 5 4 ≠ 3 ∧ (q.f 0 14 14 = 1 → split = true) ∧ q.f 4 31 31 = 0 ∧
  3 ≤ q.f 4 26 24 ∧ q.f 4 26 24 ≤ 5 ∧ q.f 8 31 24 = 0 ∧ q.f 0xC 31 30 = 0 ∧ q.f 0x1E 15 13 = 0 ∧ (bit q.rcd 3 = false → q.f 0x14 31 0 = 0) ∧
  (q.f 4 30 30 = 0 → q.sip < 2 ^ 32 ∧ q.dip < 2 ^ 32)

/-- A HELLO has gone to every other member of group g over its UD queue pair (R316). -/
def HelloSent (s u : State) (id : GroupId) : Prop :=
  let g := s.d.group id
  let q := s.d.qp (qpFin g.udq)
  q.state = 1 → q.ud = true → q.owner = 2 → s.d.subUp q.port q.sub = true → ∀ r : Nat, r < g.n → r ≠ g.rank →
    ∃ p : RocePkt, Out.roce p ∈ u.d.out.drop s.d.out.length ∧ p.opcode = 0x64 ∧ p.qp.toNat = fld (tget g.members 0 r) 39 16 ∧
      p.dst.toNat = (s.d.qp (g.memberQp r)).dip ∧ p.payload = helloBytes s.d.levelMin s.d.levelMax id.val g

/-- Operation o has failed with a code (R321): it has left the engine, it is counted, and its status stands in each of its tiles. -/
def OpFails (s u : State) (o : CollOp) (code : Nat) : Prop :=
  (∀ p ∈ u.d.net.ops, p.group = o.group → p.opSeq ≠ o.opSeq) ∧ u.d.net.opsFailed = Nat.min (s.d.net.opsFailed + 1) 0xFFFF ∧
  (∀ p ∈ s.d.net.ops, p.group ≠ o.group ∨ p.opSeq ≠ o.opSeq → p ∈ u.d.net.ops) ∧ u.d.net.groups = s.d.net.groups ∧
  (∀ (c : Contrib) (x : SiteIx), o.contribs = [c] → Carries s c.tile x → s.d.fab.fenced[tileHalf c.tile] = false → c.statusSd + 8 ≤ 0x1FF000 →
    ∀ k : Nat, k < 8 → (u.d.fab.site x).byte (c.statusSd + k) = (leBytes 4 code ++ leBytes 4 o.opSeq).getD k 0)

/-- A message of an operation waits on queue pair i, or is under way on it. -/
def Posted (u : State) (i : QpId) (bytes : List Byte) : Prop :=
  ∃ w ∈ (u.d.qp i).out ++ (u.d.qp i).wait, w.bytes = bytes ∧ w.write = false ∧ w.imm = none

/-- A PARTIAL, RESULT or GATHER that fits its group and its operation o (R320, R323). -/
def GoodMsg (s : State) (q : QpId) (hdr : BitVec 256) (bs : List Byte) (g : GroupId) (o : CollOp) (mtype src len : Nat) : Prop :=
  let h := hdr.toNat
  hw h 0 21 16 = g.val ∧ (s.d.group g).gstate = 2 ∧ hw h 0 15 8 = (s.d.group g).level ∧ levelOk (s.d.group g).level o = true ∧
  hw h 0 23 22 = 0 ∧ hw h 2 15 3 = 0 ∧ hw h 2 31 26 = 0 ∧ hw h 5 31 16 = 0 ∧ hw h 6 31 23 = 0 ∧ hw h 0 7 0 = mtype ∧ hw h 0 31 24 = src ∧
  o.group = g ∧ o.opSeq = hw h 1 31 0 ∧ o.op = hw h 2 1 0 ∧ o.bf16 = bit h 66 ∧ o.localN = hw h 2 25 16 ∧ o.elems = hw h 3 31 0 ∧
  o.root = hw h 5 15 0 ∧ (s.d.group g).memberQp src = q ∧ bs.length = len ∧ Collective s q ∧ (s.d.qp q).state = 1

/-- The sum of the local contributions of a chunk to acc, in ascending order of index, each sum rounded once to FP32 (R320). -/
def addAll (acc : List Nat) (xs : List (List Nat)) : List Nat :=
  xs.foldl (fun a x => List.zipWith (fun p q => fp32Of (rn32 ((fp32F.decode p).add (fp32F.decode q)))) a x) acc

/-- After a change of the cartridges the light follows (R325, Table Net-7): the width that the capacity C allows, the same fraction of
min(P_MAX, P_R) for each serving cartridge, and without light every link fails and both halves are fenced. -/
def LightFollows (u : State) : Prop :=
  let C := u.d.lightC
  u.d.lnk.wcap = (if 3 * C.2 ≤ C.1 then 64 else if 2 * C.2 ≤ C.1 then 32 else if C.2 ≤ C.1 then 16 else 0) ∧
  (∀ j : CartId, (u.d.cart j).cstate = .serving → (u.d.cart j).recheck = false → (u.d.cart j).rated ≠ 0 →
    (u.d.cart j).drive = Nat.min (100 * Nat.min (u.d.cart j).pmax (u.d.cart j).rated / (u.d.cart j).rated)
      (100 * (if 3 * C.2 ≤ C.1 then 3 else if 2 * C.2 ≤ C.1 then 2 else if C.2 ≤ C.1 then 1 else 0) * C.2 *
        Nat.min (u.d.cart j).pmax (u.d.cart j).rated / (Nat.max 1 C.1 * (u.d.cart j).rated))) ∧
  (C.1 < C.2 → u.d.fab.fenced[(0 : HalfId)] = true ∧ u.d.fab.fenced[(1 : HalfId)] = true ∧
    ∀ n : LinkId, (u.d.link n).phase = .failed ∨ (u.d.link n).phase = .down)

/-- Cartridge k is lost (R330): it is FAILED and gives no light, the others that serve are boosted, one that drains serves again, and the light
follows. -/
def CartLost (s u : State) (k : CartId) : Prop :=
  (u.d.cart k).cstate = .failed ∧ (u.d.cart k).drive = 0 ∧ (u.d.cart k).output = 0 ∧
  (∀ j : CartId, j ≠ k →
    ((s.d.cart j).cstate = .serving → (u.d.cart j).cstate = .serving ∧ (u.d.cart j).boost = true ∧ Out.pin (.cartBoost j) true ∈ u.d.out.drop s.d.out.length) ∧
    ((s.d.cart j).cstate = .draining → (u.d.cart j).cstate = .serving) ∧
    ((s.d.cart j).cstate ≠ .serving → (s.d.cart j).cstate ≠ .draining → u.d.cart j = s.d.cart j)) ∧
  LightFollows u ∧ Tells s u 0x0701 (.cartridge k) ∧ OnlyDevice s u

/-- Nothing has changed but cartridge k. -/
def OnlyCart (s u : State) (k : CartId) (c : Cart) : Prop :=
  Becomes s u { s.d.bump with net := { s.d.net with carts := s.d.net.carts.set k c } }

/-- The hours served and the hours weighted by the drive, up to now (R329). -/
def hoursNow (c : Cart) (now : Nat) : Nat × Nat :=
  ((c.onHours * 3600000000 + c.onRest + (now - c.servedFrom)) / 3600000000,
   (c.driveHours * 360000000000 + c.driveRest + (now - c.servedFrom) * c.drive) / 360000000000)

/-- Weir has moved cluster c to point k with limit lim in the order of R337: in a lowering, or on a settled rail, the limit takes effect at once;
in a raise it waits for the rail. -/
def MovedTo (s u : State) (c : ClusterId) (k lim : Nat) : Prop :=
  let v := s.d.clp c
  let w := u.d.clp c
  let volts := s.d.voltClip s.env c k
  w.pt = k ∧ w.vset = volts ∧ w.volt = v.volt ∧
  (lim ≤ v.lim ∨ (v.volt = volts ∧ v.vset = volts) → w.lim = lim ∧ w.raise = none) ∧
  (v.lim < lim → ¬ (v.volt = volts ∧ v.vset = volts) → w.lim = v.lim ∧ w.raise = some lim)

/-- FLIM of a site that alone carries tile t of cluster c is the lowest of the cluster's limit, the ceiling, the fused maximum and the thermal
limit, at least 0.10 Gstep/s (R336); the limiter of the cluster's sampler is at f(k) of the point, at most the fused maximum, and while the rail
rises to the point it does not rise (R61, R337). -/
def Paced (u : State) (c : ClusterId) : Prop :=
  ∀ (t : TileId) (x : SiteIx), tileCluster t = c → u.d.fab.siteOf t = some x → (∀ r : TileId, r ≠ t → u.d.fab.siteOf r ≠ some x) →
    (u.d.fab.site x).flim = Nat.max 10 (Nat.min (Nat.min (u.d.clp c).lim (u.d.ceilOf u.env x)) (Nat.min u.env.maxCadence (u.d.thermalLimit t)))

/-- The limiter of the sampler of cluster c after a move (R61, R337). -/
def SamplerPaced (s u : State) (c : ClusterId) : Prop :=
  let k := Nat.min (80 + 5 * (u.d.clp c).pt) u.env.maxCadence
  (u.d.fab.sampler c).flim = if (u.d.clp c).raise = none then k else Nat.min (s.d.fab.sampler c).flim k

/-- Weir controls the clusters of half h: its control has begun, and a trunk carries its commands (R290, R357). -/
def Controls (s : State) (h : HalfId) : Prop := s.d.pwr.ctl[h] = true ∧ s.d.towUp h = true

/-- Nothing has changed but Weir, the registers, the pace of sites and the reports. -/
def OnlyWeir (s u : State) : Prop :=
  OnlyDevice s u ∧ u.d = { s.d.bump with pwr := u.d.pwr, regs := u.d.regs, fab := u.d.fab } ∧
  u.d.fab = { s.d.bump.fab with sites := u.d.fab.sites, samplers := u.d.fab.samplers, reports := u.d.fab.reports } ∧
  (∀ c : ClusterId, { u.d.fab.sampler c with flim := 0 } = { s.d.fab.sampler c with flim := 0 }) ∧
  ∀ x : SiteIx, { u.d.fab.site x with flim := 0 } = { s.d.fab.site x with flim := 0 }

/-- The state of Weir once it has taken the measurements of a period (R352). -/
def measured (s : State) (p : PowerMeas) : Dev :=
  let cl := p.clMw.foldl (· + ·) 0
  { s.d with pwr := { s.d.pwr with hist := ((cl + p.otherMw) :: s.d.pwr.hist).take 10000, clMw := cl, other := p.otherMw } }

/-- The site of domain i, if it is a site domain, has lost its logic state and its code, but for its declared condition and its pace (R342, R67). -/
def SiteCleared (s u : State) (i : DomainIx) : Prop :=
  domUnit i < 17 → let x := siteOfNat (272 * (domHalf i).val + 17 * domPcl i + domUnit i)
    { u.d.fab.site x with flim := 0 } = { Site.init with failed := (s.d.fab.site x).failed }

/-- The site of domain i, if it is a site domain, has lost its logic state and its code, but the register shadow shows its window, its counters
and its pace as they were (R342, R343). -/
def SiteLost (s u : State) (i : DomainIx) : Prop :=
  domUnit i < 17 → let x := siteOfNat (272 * (domHalf i).val + 17 * domPcl i + domUnit i)
    let a := s.d.fab.site x
    u.d.fab.site x = { Site.init with
      failed := a.failed, flim := a.flim, shadow := some a.shown, arr := { ArraySt.init with faults := a.arr.faults, replays := a.arr.replays }
      parityFaults := a.parityFaults, refetches := a.refetches, nanOut := a.nanOut, satCount := a.satCount, emptyRows := a.emptyRows }

/-- Command c does what command k does, and answers DONE over the Towpath (R469). -/
def DoneAs (c k : Instr) (s : State) : Prop :=
  ∃ a u : State, exec k s = .next a ∧ exec c s = .next u ∧ u = { a with d := { a.d with out := u.d.out } } ∧ Out.towpath 0 ∈ u.d.out.drop s.d.out.length

/-- Command c is answered over the Towpath with a status that says it has no effect, and has none (R469). -/
def AnswersOnly (c : Instr) (s : State) (status : Nat) : Prop :=
  Yields c s (fun u => Becomes s u { s.d.bump with out := s.d.out ++ [.towpath status] })

/-- Domain i has opened its header and is LATCHED (R344, R345). -/
def Latches (s u : State) (i : DomainIx) : Prop :=
  (u.d.dom i).state = .latched ∧ (u.d.dom i).latched = (s.d.dom i).latched + 1 ∧
  (u.d.clp (domCluster i)).latches = Nat.min 15 ((s.d.clp (domCluster i)).latches + 1) ∧
  Tells s u 0x0104 (if domUnit i < 17 then .site (siteOfNat (272 * (domHalf i).val + 17 * domPcl i + domUnit i)) else .sampler (domCluster i)) ∧
  SiteLost s u i ∧ (∀ j : DomainIx, domUnit j ≠ 17 → j ≠ i → (u.d.dom j).state = (s.d.dom j).state) ∧ OnlyDevice s u

/-- Nothing has changed but the thermal part, the reports, and with the limits the pace of sites and the count of departures. -/
def OnlyThermal (s u : State) : Prop :=
  OnlyDevice s u ∧ u.d = { s.d.bump with thm := u.d.thm, fab := u.d.fab, pwr := { s.d.pwr with departs := u.d.pwr.departs } } ∧
  u.d.fab = { s.d.bump.fab with sites := u.d.fab.sites, samplers := u.d.fab.samplers, reports := u.d.fab.reports } ∧
  (∀ c : ClusterId, { u.d.fab.sampler c with flim := 0 } = { s.d.fab.sampler c with flim := 0 }) ∧
  ∀ x : SiteIx, { u.d.fab.site x with flim := 0 } = { s.d.fab.site x with flim := 0 }

/-- The thermal limits in force have been given to the pace limiters that a Towpath trunk reaches, and the tiles below their cluster's point counted (R336, R367). -/
def LimitsApplied (s u : State) : Prop :=
  (∀ c : ClusterId, s.d.towUp (clusterHalf c) = true → Paced u c ∧ SamplerPaced s u c) ∧
  u.d.thm.throttled = ((List.finRange 512).filter (fun t => (u.d.fab.siteOf t).isSome &&
    decide (u.d.thermalLimit t < 80 + 5 * (u.d.clp (tileCluster t)).pt))).length

/-- Record k as a report opens it (R376), and record k after a further report. -/
def OpenedBy (r : Report) (w : Nat × Nat) (again : Bool) (k : ErrRec) : Prop :=
  k.code = r.code ∧ k.first = r.time ∧ k.last = r.time ∧ k.reporters = 1 ∧ k.again = again ∧ k.suspect = r.suspect ∧ k.w20 = w.1 ∧ k.w24 = w.2 ∧
  k.ctx = r.ctx ∧ k.d1 = r.d1 ∧ k.d2 = r.d2
def MergedBy (r : Report) (old k : ErrRec) : Prop :=
  k.reporters = Nat.min 0xFFFF (old.reporters + 1) ∧ k.last = r.time ∧ (∀ i, i < 32 → old.repMap.getLsbD i = true → k.repMap.getLsbD i = true) ∧
  k = { old with reporters := k.reporters, last := k.last, basinRep := k.basinRep, repMap := k.repMap }

/-- Record k is committed (R380, R383, R384): the next RID, a slot of the log where there is room, the pin for a fatal one, and an interrupt where
its severity asks for one. The keys are as given. -/
def Commits (s u : State) (k : ErrRec) (keys : List KeySt) : Prop :=
  let a := s.agg
  let sev := errSev k.code
  let room := (a.prod + 65536 - a.cons) % 65536 < 1024
  u.agg.keys = keys ∧ u.agg.rid = (a.rid + 1) % 2 ^ 32 ∧ u.agg.cons = a.cons ∧ u.agg.overflows = a.overflows ∧
  (∃ rec : ErrRec, rec = { k with rid := a.rid, action := rec.action } ∧ (s.d.lkkRuns = false → rec.action = k.action ∧ u.agg.later = a.later ++ [rec]) ∧
    (room → u.agg.log = tput a.log (a.prod % 1024) (some rec) ∧ u.agg.prod = (a.prod + 1) % 65536 ∧ u.agg.logLost = a.logLost) ∧
    (¬ room → u.agg.prod = a.prod ∧ u.agg.logLost = Nat.min (a.logLost + 1) 0xFFFF ∧ (sev < 2 → u.agg.log = a.log) ∧
      (u.agg.log = a.log ∨ ∃ i old, tget a.log none i = some old ∧ errSev old.code ≤ 1 ∧ u.agg.log = tput a.log i (some rec)))) ∧
  (s.d.lkkRuns = true → u.agg.later = a.later) ∧
  (sev = 4 → u.d.lkk.faultN = false ∧ u.d.lkk.faultHeld = true ∧
    ((∀ n, k.suspect ≠ .basinBlock n) → Out.pin .faultN false ∈ u.d.out.drop s.d.out.length)) ∧
  (s.d.lkkRuns = false → sev < 4 → u.d.lkk.faultN = s.d.lkk.faultN) ∧
  (s.d.lkkRuns = false → bit (s.env.reg 0x4400) 31 = true → Nat.min 4 (fld (s.env.reg 0x4400) 30 28) ≤ sev → s.d.canIssue 0 = true →
    (∀ p ∈ s.d.host.posts, p.func ≠ 0) → (tget s.d.host.msix MsixEntry.init (vecKey 0 (fld (s.env.reg 0x4400) 10 0))).masked = false →
    Out.msix 0 (fld (s.env.reg 0x4400) 10 0) ∈ u.d.out.drop s.d.out.length)

/-- The aggregator is as before, and nothing else has changed but what follows. -/
def SameAgg (s u : State) : Prop := u.agg = s.agg ∧ u.pending = s.pending ∧ u.time = s.time ∧ u.d.fab.reports = s.d.fab.reports ∧ u.d.svc = s.d.svc

/-- Both copies of the repair record have been written with the next generation, the older one first; ok1 and ok2 say which verified (R400). -/
def RecordWritten (s u : State) (ok1 ok2 : Bool) : Prop :=
  let k := s.d.lkk
  let g := Nat.max k.copyA.gen k.copyB.gen + 1
  let aFirst := k.copyA.ok = false ∨ (k.copyB.ok = true ∧ k.copyA.gen ≤ k.copyB.gen)
  u.d.lkk.copyA.gen = g ∧ u.d.lkk.copyB.gen = g ∧ u.d.lkk.copyA.body = s.d.repairBody ∧ u.d.lkk.copyB.body = s.d.repairBody ∧
  (aFirst → u.d.lkk.copyA.ok = ok1 ∧ u.d.lkk.copyB.ok = ok2) ∧ (¬ aFirst → u.d.lkk.copyA.ok = ok2 ∧ u.d.lkk.copyB.ok = ok1) ∧
  (ok1 = true ∨ ok2 = true → u.d.lkk.genNow = g ∧ u.d.lkk.written = s.d.repairBody ∧ u.d.lkk.stale = false ∧ u.d.fab.reports = s.d.fab.reports) ∧
  (ok1 = false → ok2 = false → u.d.lkk.genNow = k.genNow ∧ u.d.lkk.written = k.written ∧ u.d.lkk.stale = true ∧
    (k.stale = false → Tells s u 0x0803 (.basinBlock 6)) ∧ (k.stale = true → u.d.fab.reports = s.d.fab.reports)) ∧
  OnlyDevice s u ∧ u.d.svc = s.d.svc ∧ u.d.fab.sites = s.d.fab.sites ∧ u.d.fab.cols = s.d.fab.cols

/-- The module has gone through a cold reset (R408, R443): what is kept with VAON held, and what is always kept; everything else holds its reset
value, every rail of the R-layer and every domain is off, and the two pins are driven anew. With VAON held the suspect marks stay. -/
def AfterCold (s u : State) (held : Bool) : Prop :=
  u.pending = s.pending ∧ u.fuse = s.fuse ∧
  u.sec = { Sec.init with
    count := s.sec.count, floors := s.sec.floors, sources := s.sec.level3, level3 := s.sec.level3, timebaseLost := s.sec.timebaseLost } ∧
  (held = true → u.time = s.time ∧ u.d.thm.trip = s.d.thm.trip ∧
    u.agg = { Agg.init with log := s.agg.log, rid := s.agg.rid, prod := s.agg.prod, cons := s.agg.cons }) ∧
  (held = false → u.time = { Time.init with lost := s.time.lost } ∧ u.d.thm.trip = none ∧ u.agg = Agg.init ∧ u.d.lkk.lastCause = 5 ∧
    ∀ q : SensorId, (u.d.sen q).suspect = false) ∧
  (held = true → (s.d.thm.sens.map (·.1)).Nodup → ∀ q : SensorId, (u.d.sen q).suspect = (s.d.sen q).suspect) ∧
  u.d.svc = Svc.init ∧ u.d.regs = [] ∧ u.d.host = { HostSt.init with perst := s.d.host.perst } ∧
  u.d.fab = { Fabric.init with free := s.d.fab.free + 1 } ∧
  (∀ n : LinkId, (u.d.link n).phase = .down) ∧ u.d.lnk.t2.up = false ∧ (∀ n : PortId, (u.d.port n).up = 0 ∧ (u.d.port n).locked = 0) ∧
  (∀ i : QpId, u.d.qp i = Qp.init) ∧ (∀ g : GroupId, u.d.group g = CollGroup.init) ∧
  (∀ (h : HalfId) (b : Nat), u.d.bankSt h b = .off) ∧ (∀ i : DomainIx, (u.d.dom i).state = .off) ∧ u.d.pwr.vin = s.d.pwr.vin ∧ u.d.pwr.vbsn = false ∧
  u.d.thm.tripped = false ∧ u.d.lkk.copyA = s.d.lkk.copyA ∧ u.d.lkk.copyB = s.d.lkk.copyB ∧ u.d.lkk.bootStage = 0 ∧ u.d.lkk.mode = .lockstep ∧
  u.d.lkk.basinUp = false ∧ u.d.lkk.rst = none ∧ u.d.lkk.op = none ∧ u.d.lkk.trial = none ∧ u.d.lkk.faultN = false ∧ u.d.lkk.lastLevel = 5 ∧
  Out.pin .faultN false ∈ u.d.out.drop s.d.out.length ∧ Out.pin .thermtripN true ∈ u.d.out.drop s.d.out.length

/-- The slots of the components once each runs from its boot slot (R417). -/
def bootedComps (l : Tab Comp) : Tab Comp :=
  l.map (fun p => (p.1, { p.2 with activeB := p.2.bootB, staged := p.2.staged || p.2.trial, trial := false, staging := false }))

/-- Component n, alone, has failed to boot three times (R417, R427): it runs from its other slot if that holds an image that passes; else the
device holds FAULT_N. -/
def BootFallsBack (k v : Lkk) (n : Nat) (other : List Nat) : Prop :=
  let c := tget k.comps (Comp.factory n) n
  ((if c.bootB then c.a else c.b).isSome = true → n ∉ other →
    tget v.comps (Comp.factory n) n = { c with activeB := !c.bootB } ∧ v.fallback = true ∧ v.faultHeld = k.faultHeld) ∧
  ((if c.bootB then c.a else c.b).isSome = false ∨ n ∈ other → tget v.comps (Comp.factory n) n = c ∧ v.fallback = k.fallback ∧ v.faultHeld = true)

/-- The repair record's body b has been applied beside the fuse map (R401, R406). -/
def RecordApplied (u : State) (c : RecCopy) : Prop :=
  let b := c.body
  u.d.lkk.genNow = c.gen ∧ u.d.lkk.bad = b.bad ∧ u.d.lkk.causes = b.causes ∧ u.d.lkk.written = b ∧ u.d.pwr.ceil = b.ceil ∧ u.d.pwr.age = b.age ∧ u.d.thm.blind = b.blind ∧
  (∀ q ∈ b.suspects, (u.d.sen q).suspect = true) ∧
  (∀ r ∈ b.bond, ∃ q ∈ b.bond, q.1 = r.1 ∧ (tget u.d.pwr.cls ClPower.init r.1).bond = q.2 ∧ (tget u.d.pwr.cls ClPower.init r.1).bondTold = q.2) ∧
  (∀ r ∈ b.spares, ∃ q ∈ b.spares, q.1 = r.1 ∧ (u.d.fab.col r.1).badRows = q.2.1 ∧ (u.d.fab.col r.1).badCols = q.2.2) ∧
  (∀ r ∈ b.rows, ∃ q ∈ b.rows, q.1 = r.1 ∧ q.2.1 = r.2.1 ∧ tget (u.d.fab.col r.1).rowRep 0 r.2.1 = q.2.2) ∧
  (∀ r ∈ b.cols, ∃ q ∈ b.cols, q.1 = r.1 ∧ q.2.1 = r.2.1 ∧ tget (u.d.fab.col r.1).colRep 0 r.2.1 = q.2.2) ∧
  (∀ r ∈ b.lanes, ∃ q ∈ b.lanes, q.1 = r.1 ∧ q.2.1 = r.2.1 ∧ tget (u.d.fab.col r.1).lanes none r.2.1 = some q.2.2)

/-- Measurements of components stand in the security block: index of the measurement and component (R428). -/
def Measured (u : State) (l : List (Nat × Nat)) : Prop := ∀ p ∈ l, (p.1, u.d.digestOf p.2) ∈ u.sec.meas

/-- Two code banks, of which the given one is in use, take an image: v goes into the other; where the one in use is empty, after a reset, it is
that which takes the image in force (R407). -/
def BankTakes (bank : Nat) (old new : Nat × Nat) (force v : Nat) : Prop :=
  let here := if bank = 0 then old.1 else old.2
  (here = 0 → new = if bank = 0 then (force, old.2) else (old.1, force)) ∧ (here ≠ 0 → new = if bank = 0 then (old.1, v) else (v, old.2))

/-- The node at site x (for an R-layer controller, of its half) has taken the image that a broadcast carries. -/
def NodeTakes (s u : State) (n : CodeNodes) (x : SiteIx) : Prop :=
  match n with
  | .tile _ => let a := s.d.fab.site x
    (s.d.siteOn x = false → u.d.fab.site x = a) ∧
    (s.d.siteOn x = true → ∃ c, BankTakes a.bank a.code c (s.d.codeOf 6) (s.d.codeFor 6) ∧ u.d.fab.site x = { a with code := c })
  | .chroot _ => let a := tget s.d.lkk.chroot CodeBanks.init x.val
    ∃ c : Nat × Nat, BankTakes a.bank (a.a, a.b) c (s.d.codeOf 8) (s.d.codeFor 8) ∧ tget u.d.lkk.chroot CodeBanks.init x.val = { a with a := c.1, b := c.2 }
  | .rlayer h => let a := tget s.d.lkk.rlayer CodeBanks.init h.val
    ∃ c : Nat × Nat, BankTakes a.bank (a.a, a.b) c (s.d.codeOf 7) (s.d.codeFor 7) ∧ tget u.d.lkk.rlayer CodeBanks.init h.val = { a with a := c.1, b := c.2 }

/-- Two code banks after a SWITCH: the other one is in use if it holds code (R407). -/
def Switches (old new : CodeBanks) : Prop :=
  ((if old.bank = 0 then old.b else old.a) = 0 → new = old) ∧ ((if old.bank = 0 then old.b else old.a) ≠ 0 → new = { old with bank := 1 - old.bank })

/-- A Towpath write that goes to no node: without a trunk nothing happens, and a node that has no rail answers NOT_POWERED. -/
def Towpath (c : Instr) (s : State) (h : HalfId) (rail : Prop) : Prop :=
  (s.d.towUp h = false → Yields c s (fun u => u = s.bump)) ∧
  (s.d.towUp h = true → ¬ rail → Yields c s (fun u => u = { s.bump with d := s.d.bump.send (.towpath 1) }))

/-- A Towpath write that its node discards. -/
def Discarded (s u : State) : Prop := u = { s.bump with d := s.d.bump.send (.towpath 2) }

/-- A Towpath write that its node has done: the device is then d, and DONE is answered. -/
def Done (s u : State) (d : Dev) : Prop := u = { s.bump with d := d.send (.towpath 0) }

/-- A Towpath write has changed nothing but the column of site x. -/
def DoneCol (s u : State) (x : SiteIx) (c : Column) : Prop := Done s u { s.d.bump with fab := s.d.bump.fab.setCol x c }

/-- A reset of a level has been ordered and its steps 1 and 2 done (R411, Table Bringup-4): it stands in progress, halves in its scope are fenced,
for a cluster reset the launches of its streams meet a fault, and a migration in its scope is abandoned, to restart with it; its old site is bad. -/
def OrderTaken (s u : State) (level : Nat) (scope : BitVec 32) (clear : Bool) (cause : Nat) : Prop :=
  ∃ r : ResetSt, u.d.lkk.rst = some r ∧ u.d.lkk.refused = false ∧ r.level = level ∧ r.cause = cause ∧ r.asserted = false ∧
    (s.d.lkk.rst = none → r.scope = scope ∧ r.clear = clear) ∧
    (∀ q, s.d.lkk.rst = some q → r.scope = (scope ||| q.scope) ∧ r.clear = (clear || q.clear)) ∧
    (∀ h : HalfId, 2 ≤ level → r.scope.getLsbD (16 * h.val) = true → u.d.fab.fenced[h] = true ∧
      (s.d.fab.fenced[h] = false → u.d.fab.halfUp[h] = false ∧ Tells s u 0x0303 (.half h))) ∧
    (level = 1 → u.d.fab.fenced = s.d.fab.fenced ∧ u.d.fab.sites = s.d.fab.sites ∧ u.d.fab.cols = s.d.fab.cols ∧ u.d.fab.reports = s.d.fab.reports ∧
      ∀ l ∈ s.d.svc.launches, (∃ p ∈ l.streams, r.scope.getLsbD (tileCluster p.1).val = true) →
        ∃ p ∈ l.streams, r.scope.getLsbD (tileCluster p.1).val = true ∧
          TileMsg.fault p.1 p.2 l.tag (Cause.code .scratchParity) 0 0 ∈ u.d.fab.inbox) ∧
    (∀ h : HalfId, let m := s.d.lkk.mig[h]
      ((m.state = .copy ∨ m.state = .cutover) → r.scope.getLsbD (siteCluster m.src).val = true →
        (u.d.lkk.mig[h]).state = .idle ∧ u.d.fab.cut[h] = none ∧ (m.tile, m.src, m.dst) ∈ u.d.lkk.migHeld ∧ m.src ∈ u.d.lkk.bad) ∧
      ((m.state ≠ .copy ∧ m.state ≠ .cutover) ∨ r.scope.getLsbD (siteCluster m.src).val = false → u.d.lkk.mig[h] = m)) ∧ OnlyDevice s u

/-- An order for a reset (R411): discarded with REFUSED at or below the level in progress, else taken. -/
def OrderMet (s u : State) (level : Nat) (scope : BitVec 32) (clear : Bool) (cause : Nat) : Prop :=
  ((∃ q, s.d.lkk.rst = some q ∧ level ≤ q.level) → Becomes s u { s.d.bump with lkk := { s.d.lkk with refused := true } }) ∧
  ((∀ q, s.d.lkk.rst = some q → q.level < level) → OrderTaken s u level scope clear cause)

/-- Site x has been under reset (R67, R407): it holds nothing but its condition and its pace, and its code banks hold the image in force. -/
def SiteReset (s u : State) (x : SiteIx) : Prop :=
  u.d.fab.site x = { Site.init with
    failed := (s.d.fab.site x).failed, flim := (s.d.fab.site x).flim, bank := 0, code := if s.d.siteOn x then (s.d.codeOf 6, 0) else (0, 0) }

/-- The channel root of column x has been under reset (R202, R407, R409): its tables and contents stay; it waits for its tables, or for its fill;
its code bank holds the image in force. -/
def ColumnReset (s u : State) (x : SiteIx) (clear : Bool) : Prop :=
  let a := s.d.fab.col x
  let b := u.d.fab.col x
  b.cells = a.cells ∧ b.fill = a.fill ∧ b.spareBytes = a.spareBytes ∧ b.rowRep = a.rowRep ∧ b.colRep = a.colRep ∧ b.badRows = a.badRows ∧
  b.badCols = a.badCols ∧ b.lanes = a.lanes ∧ b.queue = [] ∧ b.waiting = [] ∧ b.laneTests = [] ∧ b.corr = [] ∧ b.dual = none ∧ b.pos = 0 ∧
  tget u.d.lkk.chroot CodeBanks.init x.val = { bank := 0, a := s.d.codeOf 8, b := 0 } ∧
  (a.phase = .ready ∨ a.phase = .reloading → b.phase = if clear then .filling else .reloading) ∧
  (a.phase ≠ .ready → a.phase ≠ .reloading → b.phase = a.phase)

/-- A half is fenced (R292): it is not in service, and the first time that is reported. -/
def Fences (s u : State) (h : HalfId) : Prop :=
  u.d.fab.fenced[h] = true ∧ (s.d.fab.fenced[h] = false → u.d.fab.halfUp[h] = false ∧ Tells s u 0x0303 (.half h))

/-- LKK_MBX_RSP has been written with DONE, and GO has cleared. -/
def Responds (u : State) (status retry : Nat) : Prop :=
  u.d.lkk.rsp = 2 ^ 31 + status * 2 ^ 16 + retry ∧ bit (tget u.d.regs 0 0x700100) 31 = false

/-- Firmware, tiles and work are as they were. -/
def Still (s u : State) : Prop :=
  OnlyDevice s u ∧ u.d.svc = s.d.svc ∧ u.d.fab.sites = s.d.fab.sites ∧ u.d.fab.cols = s.d.fab.cols ∧ u.d.lkk.comps = s.d.lkk.comps ∧
  u.d.lkk.trial = s.d.lkk.trial

/-- Lockkeeper takes a command of the mailbox: none is running, it is not busy, and PLDM is not updating. -/
def Accepts (s : State) : Prop := bit (s.env.reg 0x700100) 31 = false ∧ s.d.bump.busy = none ∧ s.d.lkk.updating = false

/-- When a command of the mailbox is not taken: it is not the PF's, or another one runs; it is answered BUSY, with 1,000 ms where the clock is lost
and 20 ms in a handover; it is answered IN_PROGRESS during a PLDM update. -/
def MailboxTurnsAway (c : FuncId → Instr) : Prop :=
  ∀ s : State, let free := bit (s.env.reg 0x700100) 31 = false
    (∀ f : FuncId, f ≠ 0 ∨ ¬ free → Yields (c f) s (fun u => Becomes s u s.d.bump)) ∧
    (∀ r, free → s.d.bump.busy = some r → Yields (c 0) s (fun u => Responds u 1 r ∧ Still s u)) ∧
    (free → s.d.lkk.clkLost = true → Yields (c 0) s (fun u => Responds u 1 1000 ∧ Still s u)) ∧
    (free → s.d.lkk.clkLost = false → s.d.lkk.mode = .handover → s.d.lkk.taken = false → Yields (c 0) s (fun u => Responds u 1 20 ∧ Still s u)) ∧
    (free → s.d.bump.busy = none → s.d.lkk.updating = true → Yields (c 0) s (fun u => Responds u 6 0 ∧ Still s u))

/-- Work that a command gives Lockkeeper waits in its queue while it does not run, and nothing else happens (R421). -/
def Waits (c : Instr) (s : State) (w : LkkWork) : Prop :=
  Yields c s (fun u => Becomes s u { s.d.bump with lkk := { s.d.lkk with work := s.d.lkk.work ++ [w] } })

/-- No collective operation is in flight. -/
def CollsIdle (s : State) : Prop := ∀ o ∈ s.d.net.ops, o.since = none

/-- A bundle is refused (R416): an image asks for a higher bundle of another component, a TSE image for a higher level than a loaded model slot has,
a COLL image for a higher level than a READY group has. -/
def Incompatible (s : State) (comps : List Nat) : Prop :=
  ∃ n ∈ comps, ∃ i, s.d.after comps n = some i ∧
    ((∃ m j, 1 ≤ m ∧ m ≤ 10 ∧ m ≠ n ∧ s.d.after comps m = some j ∧ j.bundle < i.compatMin) ∨
      (n = 3 ∧ ∃ (m : ModelSlotId) (g : Image), (s.d.model m).phase = .loaded ∧ (s.d.model m).img = some g ∧ g.level < i.imgMin) ∨
      (n = 5 ∧ ∃ g : GroupId, (s.d.group g).gstate = 2 ∧ (s.d.group g).level < i.clvlMin))

/-- An activation has ended, for the mailbox or for PLDM. -/
def Ends (s u : State) (mbx : Bool) (status : Nat) : Prop :=
  u.d.lkk.op = none ∧ (mbx = true → Responds u status 0) ∧
  (mbx = false → u.d.lkk.upd = s.d.lkk.upd.map (fun x => { x with state := if status = 0 then 4 else 6 }))

/-- The components of l, in order, have changed to their other slots; their trial begins, and their measurements and the update log change with
it (R416, R428, R429). -/
def Switched (s u : State) (l : List Nat) (mbx revert : Bool) : Prop :=
  (∀ n ∈ l, let c := s.d.comp n
    u.d.comp n = { c with activeB := !c.activeB, trial := true, staged := false } ∧ (measIndex n, u.d.digestOf n) ∈ u.sec.meas) ∧
  (∀ n, n ∉ l → u.d.comp n = s.d.comp n) ∧
  u.d.lkk.trial = some { comps := l, since := blockTicks s.time .lockkeeper, pldm := !mbx, revert := revert } ∧
  u.sec.updates = s.sec.updates ++ l.map (fun n => (n, BitVec.ofNat 384 (u.d.digestOf n))) ∧
  (10 ∈ l → u.sec.sessions = [] ∧ u.sec.restartUntil = s.time.ticks + 5000) ∧ (10 ∉ l → u.sec.sessions = s.sec.sessions) ∧
  u.time = s.time ∧ u.agg = s.agg ∧ u.pending = s.pending ∧ u.d.svc.launches = s.d.svc.launches

/-- Every component has the slots and the image in force that it had. -/
def SlotsHeld (s u : State) : Prop :=
  ∀ n, (u.d.comp n).activeB = (s.d.comp n).activeB ∧ (u.d.comp n).bootB = (s.d.comp n).bootB ∧ (u.d.comp n).a = (s.d.comp n).a ∧
    (u.d.comp n).b = (s.d.comp n).b

/-- The sequence of R416 over the components l: refused during a trial or as incompatible; TILE waits for the launches in flight (R414), COLL for
the collective operations in flight (R413), LKK for its handover (R419); one that fails makes all return. -/
def Bundle (s u : State) (l fails : List Nat) (mbx revert : Bool) : Prop :=
  (s.d.lkk.trial ≠ none → Ends s u mbx 6 ∧ Still s u) ∧
  (s.d.lkk.trial = none → Incompatible s l → Ends s u mbx 5 ∧ Still s u) ∧
  (s.d.lkk.trial = none → ¬ Incompatible s l →
    (l = [] → Ends s u mbx 0 ∧ Still s u) ∧
    (1 ∉ l → 6 ∉ l → (5 ∈ l → CollsIdle s) → l ≠ [] → (∀ n ∈ l, n ∉ fails) → Ends s u mbx 0 ∧ Switched s u l mbx revert) ∧
    (1 ∉ l → 6 ∉ l → (5 ∈ l → CollsIdle s) → (∃ n ∈ l, n ∈ fails) → Ends s u mbx 7 ∧ u.d.lkk.trial = none ∧ SlotsHeld s u ∧ u.sec.updates = s.sec.updates) ∧
    (l = [5] → ¬ CollsIdle s → Still s u ∧
      u.d.lkk.op = some (.quiet { done := [], rest := [], fails := fails, mbx := mbx, revert := revert, since := blockTicks s.time .lockkeeper })) ∧
    (l = [6] → u.d.svc = { s.d.svc with holdAll := true } ∧ u.d.lkk.comps = s.d.lkk.comps ∧ OnlyDevice s u ∧
      u.d.lkk.op = some (.drain { done := [], rest := [], fails := fails, mbx := mbx, revert := revert, since := blockTicks s.time .lockkeeper }) ∧
      ∀ x : SiteIx, s.d.siteOn x = true → ∃ c, u.d.fab.site x = { s.d.fab.site x with code := c } ∧
        BankTakes (s.d.fab.site x).bank (s.d.fab.site x).code c (s.d.codeOf 6) (match (s.d.comp 6).other with | some i => i.version + 1 | none => 0)) ∧
    (l = [1] → s.d.lkk.mode = .lockstep → u.d.lkk.mode = .handover ∧ Still s u ∧
      u.d.lkk.op = some (.newImage { done := [], rest := [], fails := fails, mbx := mbx, revert := revert, since := blockTicks s.time .lockkeeper })) ∧
    (l = [1] → s.d.lkk.mode ≠ .lockstep → Ends s u mbx 7 ∧ Still s u))

/-- The active slots have become the boot slots, and floors have risen to the SVN of the images in force (R417, R427). -/
def Committed (s u : State) : Prop :=
  (∀ n, (u.d.comp n).bootB = (u.d.comp n).activeB ∧ (u.d.comp n).activeB = (s.d.comp n).activeB ∧ (u.d.comp n).a = (s.d.comp n).a ∧
    (u.d.comp n).b = (s.d.comp n).b) ∧
  (∀ n i, 1 ≤ n → n ≤ 10 → (s.d.comp n).active = some i → tget u.sec.floors 0 n = Nat.max (tget s.sec.floors 0 n) i.svn) ∧
  u.sec.updates = s.sec.updates ++ (((List.range 10).map (· + 1)).filter (fun n => (s.d.comp n).activeB != (s.d.comp n).bootB)).map
    (fun n => (n, BitVec.ofNat 384 (s.d.digestOf n))) ∧
  u.sec.sessions = s.sec.sessions ∧ u.time = s.time ∧ u.agg = s.agg ∧ u.d.svc = s.d.svc ∧ u.d.fab.sites = s.d.fab.sites

/-- Both cores have tested themselves (R418): the firmware runs on those that passed, and a core that fails is reported once. -/
def CoresTested (s u : State) (a b : Bool) : Prop :=
  u = { s.bump with d := { s.d.bump with
    lkk := { s.d.lkk with
      coreA := a, coreB := b, activeB := !a && b
      mode := if a = true ∧ b = true then .lockstep else if a = true ∨ b = true then .single else .stopped }
    fab := { s.d.bump.fab with reports := u.d.fab.reports } } } ∧
  (a = b ∨ s.d.lkk.mode = .single → u.d.fab.reports = s.d.fab.reports) ∧
  (a ≠ b → s.d.lkk.mode ≠ .single → ∃ r : Report, u.d.fab.reports = s.d.fab.reports ++ [r] ∧ r.suspect = .basinBlock 6)

/-- The first thing sent is answer r on binding b. -/
def Sends (s u : State) (b : MctpBinding) (r : MgmtRsp) : Prop := ∃ rest, u.d.out = s.d.out ++ Out.mgmt b r :: rest

/-- The first things sent are those of l. -/
def SendsAll (s u : State) (l : List Out) : Prop := ∃ rest, u.d.out = s.d.out ++ l ++ rest

/-- Nothing has changed but the security block and what is sent. -/
def OnlySec (s u : State) : Prop := Thereafter { s.bump with sec := u.sec } u

/-- Nothing has changed but what is sent. -/
def OnlySends (s u : State) : Prop := Thereafter s.bump u

/-- The message belongs to no session, or to one of its transport (R431). -/
def OwnSession (s : State) (m : SpdmIn) : Prop := ∀ i, m.session = some i → ∃ q ∈ s.sec.sessions, q.id = i ∧ q.via = m.via

/-- An SPDM request is served: its path is up, it is no longer than 4,096 bytes (R438), nothing is erased, its session is its own, and it is not put off (R430, R431, R435, R443). -/
def SpdmServes (s : State) (m : SpdmIn) (signs : Bool) (versions : List Byte) : Prop :=
  s.d.pathUp m.via = true ∧ s.d.lkk.bootStage ≠ 0 ∧ m.body.length + 4 ≤ 4096 ∧ s.sec.erased = false ∧ OwnSession s m ∧ s.bump.putOff s.env signs = none ∧
  m.version ∈ versions ∧ m.good = true

/-- The sessions once a message of one of them has been taken. -/
def SessionsAfter (s : State) (m : SpdmIn) : List Session :=
  s.sec.sessions.map (fun q => if m.session = some q.id then { q with last := s.time.ticks } else q)

/-- When an SPDM request is not served: without its path, and where it is too long, nothing is answered; after an erasure ERROR Unspecified; on a foreign transport ERROR
InvalidSession; while it is put off ERROR ResponseNotReady, whose exponent gives the smallest power of two in µs not below the hint; for
another version or with a reserved field set an error. Sessions stay as they are. -/
def SpdmTurnsAway (c : SpdmIn → Instr) (signs : Bool) (versions : List Byte) : Prop :=
  ∀ (s : State) (m : SpdmIn), let up := s.d.pathUp m.via = true ∧ s.d.lkk.bootStage ≠ 0 ∧ m.body.length + 4 ≤ 4096
    let tells := fun (x : SpdmErr) => Yields (c m) s (fun u => Sends s u m.via (.spdmError x) ∧ OnlySends s u)
    (¬ up → Yields (c m) s (fun u => OnlySends s u)) ∧ (up → s.sec.erased = true → tells .unspecified) ∧
    (up → s.sec.erased = false → ¬ OwnSession s m → tells .invalidSession) ∧
    (∀ h, up → s.sec.erased = false → OwnSession s m → s.bump.putOff s.env signs = some h → ∃ k, tells (.responseNotReady k) ∧ 1000 * h ≤ 2 ^ k ∧
      ∀ j, 1000 * h ≤ 2 ^ j → k ≤ j) ∧
    (up → s.sec.erased = false → OwnSession s m → s.bump.putOff s.env signs = none → m.version ∉ versions ∨ m.good = false → ∃ x, tells (.other x))

/-- A request that is served is answered with r, and its session has been used; nothing else changes. -/
def SpdmAnswers (c : SpdmIn → Instr) (signs : Bool) (versions : List Byte) (r : State → SpdmIn → MgmtRsp) : Prop :=
  SpdmTurnsAway c signs versions ∧
  ∀ (s : State) (m : SpdmIn), SpdmServes s m signs versions → Yields (c m) s (fun u =>
    Sends s u m.via (r s m) ∧ u.sec = { s.sec with sessions := SessionsAfter s m } ∧ OnlySec s u)

/-- A request inside a session that is served: act changes its session, which has been used; without a session ERROR InvalidSession. -/
def InSession (c : SpdmIn → Instr) (signs : Bool) (act : Session → Option Session) : Prop :=
  SpdmTurnsAway c signs [0x13, 0x12] ∧
  ∀ (s : State) (m : SpdmIn), SpdmServes s m signs [0x13, 0x12] →
    (m.session = none → Yields (c m) s (fun u => Sends s u m.via (.spdmError .invalidSession) ∧ OnlySends s u)) ∧
    (∀ i, m.session = some i → Yields (c m) s (fun u => Sends s u m.via (.spdmAck i) ∧ OnlySec s u ∧
      u.sec = { s.sec with sessions := s.sec.sessions.filterMap (fun q => if q.id = i then act { q with last := s.time.ticks } else some q) }))

/-- The level at which a tamper source acts (Table Trust-5). -/
def levelOf (s : State) (src : Fin 6) : Nat :=
  let w := s.env.reg 0x600000
  if src.val = 0 then fld w 5 4 else if src.val = 1 then fld w 7 6 else if src.val = 2 then 3 else 2

/-- A PLDM request beyond type 0 is served: its path is up, there is a fuse map, and Lockkeeper is not busy (R438, R420). -/
def PldmServes (s : State) (b : MctpBinding) : Prop :=
  s.d.pathUp b = true ∧ s.d.lkk.bootStage ≠ 0 ∧ s.d.lkk.bootStage ≠ 0x1F ∧ s.d.bump.busy = none

/-- When a PLDM request is not served: without its path nothing is answered, without a fuse map ERROR_NOT_READY, while busy BUSY with its hint. -/
def PldmTurnsAway (c : MctpBinding → Instr) : Prop :=
  ∀ (s : State) (b : MctpBinding), let up := s.d.pathUp b = true ∧ s.d.lkk.bootStage ≠ 0
    (¬ up → Yields (c b) s (fun u => OnlySends s u)) ∧
    (up → s.d.lkk.bootStage = 0x1F → Yields (c b) s (fun u => Sends s u b .notReady ∧ OnlySends s u)) ∧
    (∀ h, up → s.d.lkk.bootStage ≠ 0x1F → s.d.bump.busy = some h → Yields (c b) s (fun u => Sends s u b (.busy h) ∧ OnlySends s u))

/-- The PLDM update stands as given, and nothing else has changed but the marks of slots that are being written and what is sent. -/
def Updating (s u : State) (x : PldmUpd) : Prop :=
  u.d.lkk.upd = some x ∧ OnlyDevice s u ∧ u.d.svc = s.d.svc ∧ u.d.fab.sites = s.d.fab.sites ∧ SlotsHeld s u

/-- A step at a state whose queue starts with command c and goes on with r is exec of c at that state with r as its queue. At a state with
an empty queue a step answers that state (the idling is the model's choice, assumption log 1). -/
def Obligations.StepRunsFrontCommand : Prop :=
  (∀ (s : State) (c : Instr) (r : List Instr), step { s with pending := c :: r } = exec c { s with pending := r }) ∧
  (∀ s : State, s.pending = [] → step s = .next s)

/-- For every command and every state, exec answers a next state whose queue and whose fuse map are those before: no command ends in a
fault or a refusal, and the fuse map is never written in the field (a sentence of R405). -/
def Obligations.EveryCommandGoesOn : Prop :=
  ∀ (c : Instr) (s : State), Yields c s (fun t => t.pending = s.pending ∧ t.fuse = s.fuse)

/-- From every state whose security block satisfies SecInv (at most four sessions, each of its own number; a tamper level up to 3, of
which 2 and 3 have set SEC_LOCK; level-3 source bits show in SEC_TAMPER_STATUS; TAMPER_COUNT fits its field), a step that goes on leads to
a state whose security block satisfies it. -/
def Obligations.SecurityInvariantKept : Prop :=
  ∀ s t : State, SecInv s.sec → Goes s t → SecInv t.sec

/-- SecInv holds of the security block of State.reset. -/
def Obligations.SecurityInvariantAtReset : Prop :=
  SecInv State.reset.sec

/-- At a state with SEC_LOCK set, every command that is not one of those that can bring a cold reset (VAON_UP, VAON_LOSS, BASIN_RAILS_UP,
COLD_RESET, REGISTER_WRITE of the mailbox) leaves it set; and whatever the command, where SEC_LOCK is clear afterwards the security block
is that which a cold reset leaves: no session, tamper level 0, nothing erased (R433, R443). -/
def Obligations.SecLockOnlyColdReset : Prop :=
  ∀ (c : Instr) (s : State), s.sec.lock = true → Yields c s (fun t =>
    (coldCommand c = false → t.sec.lock = true) ∧
    (t.sec.lock = false → t.sec.sessions = [] ∧ t.sec.level = 0 ∧ t.sec.erased = false))

/-- Whatever command a step runs, cold resets and register writes among them, TAMPER_COUNT is at least what it was (where it fits its
field, as SecInv says) and every source bit that acted at level 3 still stands among those that did (R436, R443). -/
def Obligations.TamperEvidenceNeverFalls : Prop :=
  ∀ s t : State, Goes s t → (SecInv s.sec → s.sec.count ≤ t.sec.count) ∧ s.sec.level3 &&& t.sec.level3 = s.sec.level3

/-- A TIME_TICK with VAON up advances the always-on count by one: a block that receives ticks and is not held by a Sluice cut counts one
more, a block that receives none, or is held, counts as before. Without VAON, and at every other command that is not one of those that can
bring a cold reset, the count of ticks stays. -/
def Obligations.TimePassesByTicksAlone : Prop :=
  (∀ s : State, s.d.pwr.vaon = true → Yields .timeTick s (fun t =>
    t.time.ticks = s.time.ticks + 1 ∧ t.time.lost = s.time.lost ∧ t.sec = s.sec ∧ t.agg = s.agg ∧ t.d = s.d.bump ∧
    (∀ b : TickBlock, missedOf s.time b ≤ s.time.ticks →
      blockTicks t.time b =
        if b ∈ s.time.lost ∨ b ∈ s.d.cutEngines then blockTicks s.time b else blockTicks s.time b + 1))) ∧
  (∀ (c : Instr) (s : State), coldCommand c = false → (c = .timeTick → s.d.pwr.vaon = false) →
    Yields c s (fun t => t.time.ticks = s.time.ticks))

/-- TICK_LOST of a block that received ticks puts it among those that receive none, takes back the last 16 ticks, which have not reached
it (16 µs without a tick), and adds one TICK_LOST report (code 0x0801) that names it; TICK_LOST of a block already lost changes nothing.
TICK_RESUME takes the block out, and its count goes on from where it stood. Neither changes what any other block has counted, the security
block, the aggregator, or any part of the device but the reports and, for a channel root, its refresh oscillator. -/
def Obligations.LostTicksHoldTheBlock : Prop :=
  (∀ (b : TickBlock) (s : State), Yields (.tickLost b) s (fun t =>
    (if b ∈ s.time.lost then t = s.bump
     else t.time.lost = s.time.lost ++ [b] ∧
       t.d.fab.reports = s.d.fab.reports ++
         [{ code := 0x0801, suspect := tickSuspect (s.d.bump.fab.freeNat 30) b, d1 := 0, d2 := 0, ctx := none, action := 0, time := nowNs s.time }] ∧
       blockTicks t.time b = blockTicks s.time b - 16) ∧
    (∀ k : TickBlock, k ≠ b → blockTicks t.time k = blockTicks s.time k) ∧ t.time.ticks = s.time.ticks ∧ t.sec = s.sec ∧ t.agg = s.agg ∧
    t.d = { s.d with fab := t.d.fab } ∧ t.d.fab.sites = s.d.fab.sites ∧ (∀ x : SiteIx, b ≠ .channelRoot x → t.d.fab.col x = s.d.fab.col x))) ∧
  (∀ (b : TickBlock) (s : State), Yields (.tickResume b) s (fun t =>
    b ∉ t.time.lost ∧ (∀ k : TickBlock, k ≠ b → (k ∈ t.time.lost ↔ k ∈ s.time.lost)) ∧
    (∀ k : TickBlock, blockTicks t.time k = blockTicks s.time k) ∧ t.time.ticks = s.time.ticks ∧ t.sec = s.sec ∧ t.agg = s.agg ∧
    t.d = { s.d with fab := t.d.fab } ∧ t.d.fab.sites = s.d.fab.sites ∧ (∀ x : SiteIx, b ≠ .channelRoot x → t.d.fab.col x = s.d.fab.col x)))

/-- Where a site takes the packets of its tile: a LAUNCH to a stream in IDLE or FAULTED writes the 256-byte parameter block to the
parameter area of the stream and no other scratch byte, sets to 0 each semaphore named in SEM_CLEAR (recording the tag) and no other,
clears the recorded fault, and the stream is RUNNING at START with the tag of the launch (at a START in the hole it faults at once with
ADDRESS_HOLE, R31). In RUNNING, WAITING or QUIESCED the launch is rejected: STREAM_BUSY is told to the token service engine and the site
is as before. The other streams, sites and columns are as before. A packet that its cluster switch must hold is held, one for an absent
tile is discarded, and while the half switches its routing none enters it (R58). -/
def Obligations.LaunchTakesAnIdleStream : Prop :=
  (∀ (s : State) (t : TileId) (p : LaunchPkt) (x : SiteIx), Carries s t x → s.d.fab.switching[tileHalf t] = false → p.params.length = 256 →
    ((s.d.fab.site x).stream p.stream).state = .idle ∨ ((s.d.fab.site x).stream p.stream).state = .faulted →
    Yields (.launch t p) s (fun u =>
      (∀ i : Nat, i < 256 → (u.d.fab.site x).byte (0x1FF000 + 0x100 * p.stream.val + i) = p.params.getD i 0) ∧
      (∀ a : Nat, a < 0x1FF000 + 0x100 * p.stream.val ∨ 0x1FF000 + 0x100 * p.stream.val + 256 ≤ a →
        (u.d.fab.site x).byte a = (s.d.fab.site x).byte a) ∧
      (∀ q : Fin 32, (u.d.fab.site x).sems[q] = if p.semClear.getLsbD q.val then 0 else (s.d.fab.site x).sems[q]) ∧
      (∀ q : Fin 32, (u.d.fab.site x).semTags[q] = if p.semClear.getLsbD q.val then p.tag else (s.d.fab.site x).semTags[q]) ∧
      ((u.d.fab.site x).stream p.stream).tag = p.tag ∧ ((u.d.fab.site x).stream p.stream).pc = p.start.toNat ∧
      (p.start.toNat < 0x18000000 → ((u.d.fab.site x).stream p.stream).state = .running ∧
        ((u.d.fab.site x).stream p.stream).lastFault = 0 ∧ u.d.fab.inbox = s.d.fab.inbox) ∧
      (0x18000000 ≤ p.start.toNat → ((u.d.fab.site x).stream p.stream).state = .faulted ∧
        ((u.d.fab.site x).stream p.stream).lastFault = 0x06 ∧
        u.d.fab.inbox = s.d.fab.inbox ++ [TileMsg.fault t p.stream p.tag 0x06 p.start.toNat 0]) ∧
      (∀ m : StreamId, m ≠ p.stream → SameButMarks ((s.d.fab.site x).stream m) ((u.d.fab.site x).stream m)) ∧
      (u.d.fab.site x).peers = (s.d.fab.site x).peers ∧ u.d.fab.col x = s.d.fab.col x ∧ OnlySite s u x)) ∧
  (∀ (s : State) (t : TileId) (p : LaunchPkt) (x : SiteIx), Carries s t x → s.d.fab.switching[tileHalf t] = false →
    ((s.d.fab.site x).stream p.stream).state ≠ .idle → ((s.d.fab.site x).stream p.stream).state ≠ .faulted →
    Yields (.launch t p) s (fun u =>
      u.d.fab.site x = s.d.fab.site x ∧ u.d.fab.col x = s.d.fab.col x ∧
      u.d.fab.inbox = s.d.fab.inbox ++ [TileMsg.busy t p.stream p.tag] ∧ OnlySite s u x)) ∧
  (∀ (s : State) (t : TileId) (p : LaunchPkt) (x : SiteIx), s.d.fab.siteOf t = some x → s.d.fab.switching[tileHalf t] = false →
    s.d.fab.holding t = true ∨ (s.d.fab.site x).ready = false →
    Yields (.launch t p) s (fun u => tget u.d.fab.held [] t.val = tget s.d.fab.held [] t.val ++ [HeldPacket.launch p] ∧
      u.d.fab.sites = s.d.fab.sites ∧ u.d.fab.cols = s.d.fab.cols ∧ u.d.fab.inbox = s.d.fab.inbox ∧ OnlyFabric s u)) ∧
  (∀ (s : State) (t : TileId) (p : LaunchPkt), s.d.fab.siteOf t = none → s.d.fab.switching[tileHalf t] = false →
    Yields (.launch t p) s (fun u => u.d.fab.sites = s.d.fab.sites ∧ u.d.fab.cols = s.d.fab.cols ∧ u.d.fab.inbox = s.d.fab.inbox ∧
      u.d.fab.held = s.d.fab.held ∧ OnlyFabric s u)) ∧
  (∀ (s : State) (t : TileId) (p : LaunchPkt), s.d.fab.switching[tileHalf t] = true → exec (.launch t p) s = .next s.bump)

/-- Where a site takes the packets of its tile, an ABORT leaves in FAULTED every stream that was RUNNING or WAITING under its tag; steps
in flight go on, LAST_FAULT stays, and nothing is told. Every other stream, the semaphores, the scratch and the column are as before; so
is the array, unless such a stream waited for the reload of a block for a MATMUL, which gives up its place. -/
def Obligations.AbortFaultsTheStreamsOfItsLaunch : Prop :=
  ∀ (s : State) (t : TileId) (tag : BitVec 16) (x : SiteIx), Carries s t x → s.d.fab.switching[tileHalf t] = false →
    Yields (.abort t tag) s (fun u =>
      let hit := fun (v : Stream) => v.tag = tag ∧ (v.state = .running ∨ v.state = .waiting)
      (∀ n : StreamId,
        let v := (s.d.fab.site x).stream n
        (hit v → (u.d.fab.site x).stream n =
          { v with state := .faulted, want := none, granted := false, refetch := none, fence := none, ending := false }) ∧
        (¬ hit v → (u.d.fab.site x).stream n = v)) ∧
      ((∀ n : StreamId, hit ((s.d.fab.site x).stream n) → ((s.d.fab.site x).stream n).refetch = none) →
        (u.d.fab.site x).arr = (s.d.fab.site x).arr) ∧
      { u.d.fab.site x with streams := (s.d.fab.site x).streams, arr := (s.d.fab.site x).arr } = s.d.fab.site x ∧ u.d.fab.col x = s.d.fab.col x ∧
      u.d.fab.inbox = s.d.fab.inbox ∧ OnlySite s u x)

/-- For each of the 48 commands by which a step with work issues: where its descriptor stands next, passes its checks and its order
conditions, its units are there and its work meets no fault, the step is recorded in flight with the writes that its work comes to, its
SENDs and slices are under way, the stream stands at the next descriptor, and the units are taken. Until STEP_COMPLETE no byte of scratch
and no mark or tag changes but by the disturbances that the command reports, and of the column only the rows of a locked pair (SCALE_ADD,
KV_APPEND, CHECK_RECOMP), which are read and written as one, and those that requests waiting before it in the queue of the column write; a
MATMUL has taken its place in the array. The other streams, sites and columns, and everything but the halves, are as before. -/
def Obligations.StepsIssueAndWaitForCompletion : Prop :=
  ∀ (s : State) (i : StepIn) (x : SiteIx) (d : Desc) (c : Instr) (ef : StepEff), StepsAs c i d → Stands s i x d → HasUnits s i x d →
    MayRun s i x d → (Work (At s i x d (Took s i x d))).res = .ok ef → NextClear (StreamOf s i x) →
    Yields c s (fun u =>
      let v := StreamOf s i x
      let o := Work (At s i x d (Took s i x d))
      (u.d.fab.site x).stream i.stream =
        { v with steps := v.steps ++ [mkRec v d o ef], nextId := v.nextId + 1, sends := v.sends ++ ef.sends, slices := v.slices + ef.slices.length,
                 pc := (advance (v.pc + 32) v.loops).1, loops := (advance (v.pc + 32) v.loops).2, granted := false, want := none, fence := none } ∧
      (∀ m : StreamId, m ≠ i.stream → (u.d.fab.site x).stream m = (s.d.fab.site x).stream m) ∧
      (u.d.fab.site x).sems = ((Took s i x d).site x).sems ∧ (u.d.fab.site x).scratch = ((Struck s i x).site x).scratch ∧
      (u.d.fab.site x).poison = (s.d.fab.site x).poison ∧ (u.d.fab.site x).tags = (o.f.site x).tags ∧
      (u.d.fab.site x).peers = (s.d.fab.site x).peers ∧ (d.opcode ≠ 0x10 → (u.d.fab.site x).arr = (s.d.fab.site x).arr) ∧
      (u.d.fab.site x).arr = (o.f.site x).arr ∧ u.d.fab.col x = o.f.col x ∧
      ((s.d.fab.col x).queue = [] → d.opcode ≠ 0x30 ∨ d.mod ∉ [2, 5, 7] →
        (u.d.fab.col x).cells = ((Struck s i x).col x).cells ∧ (u.d.fab.site x).tags = (s.d.fab.site x).tags) ∧
      u.d.fab.inbox = s.d.fab.inbox ∧ (d.opcode ≠ 0x48 → u.d.fab.samplers = s.d.fab.samplers) ∧ OnlySite s u x)

/-- Where a control opcode stands next, passes its checks, its units are there and, for a FENCE, its condition of Table Tiles-6 holds:
NOP, WAIT and each FENCE take the units and move the stream to its next descriptor; LOOP enters its body with its count and its strides;
END marks the stream as ending. A FENCE of scope TILE that still has steps to wait for, of those in flight when it was reached, has taken
its units and remembers those steps; a FENCE of another scope whose condition does not hold does nothing. Then, but for END, a SEN unit is
added to SSEM as a local add (no fault where the sum fits 16 bits). Scratch, column and the other sites are as before but for the
disturbances reported. -/
def Obligations.ControlStepsPassBy : Prop :=
  (∀ (s : State) (i : StepIn) (x : SiteIx) (d : Desc) (c : Instr), ControlAs c i d → Stands s i x d → HasUnits s i x d → FenceHolds s i x d →
    (d.opcode ≠ 0x60 → d.opcode ≠ 0x7F → NextClear (StreamOf s i x)) →
    (d.opcode = 0x60 → (StreamOf s i x).pc + 32 < 0x18000000 ∧ (StreamOf s i x).poisonAt ((StreamOf s i x).pc + 32) = none) →
    (d.sen = true → (((Took s i x d).site x).sems[d.ssem]).toNat + 1 ≤ 0xFFFF) →
    Yields c s (fun u =>
      let v := StreamOf s i x
      let past : Stream :=
        if d.opcode = 0x60 then
          { v with pc := v.pc + 32, granted := false, want := none
                   loops := { first := v.pc + 32, past := v.pc + 32 + 32 * (d.len % 256), count := d.count, iter := 0, addr := sext 48 d.rawAddr
                              sa := sext 21 d.rawSa, sb := sext 21 d.rawSb, sd := sext 21 d.rawSd } :: v.loops }
        else if d.opcode = 0x7F then
          { v with ending := true, endSen := if d.sen then some d.ssem else none, pc := v.pc + 32, granted := false, want := none }
        else { v with pc := (advance (v.pc + 32) v.loops).1, loops := (advance (v.pc + 32) v.loops).2, granted := false, want := none, fence := none }
      let moved := ((Took s i x d).site x).setStream i.stream past
      u.d.fab.site x = (if d.sen = true ∧ d.opcode ≠ 0x7F then (moved.add d.ssem 1).1 else moved) ∧
      u.d.fab.col x = (Struck s i x).col x ∧ u.d.fab.inbox = s.d.fab.inbox ∧ u.d.fab.samplers = s.d.fab.samplers ∧
      u.d.fab.reports = s.d.fab.reports ∧ OnlySite s u x)) ∧
  (∀ (s : State) (i : StepIn) (x : SiteIx) (d : Desc), d.opcode = 0x52 → d.mod = 1 → Stands s i x d → HasUnits s i x d →
    LeftOfFence s i x ≠ [] → (StreamOf s i x).pc < 0x18000000 →
    Yields (.fenceTile i) s (fun u =>
      u.d.fab.site x = ((Took s i x d).site x).setStream i.stream { StreamOf s i x with fence := some (LeftOfFence s i x), granted := true } ∧
      u.d.fab.col x = (Struck s i x).col x ∧ u.d.fab.inbox = s.d.fab.inbox ∧ OnlySite s u x)) ∧
  (∀ (s : State) (i : StepIn) (x : SiteIx) (d : Desc) (c : Instr), ControlAs c i d → d.opcode = 0x52 → d.mod ≠ 1 → Stands s i x d →
    ¬ FenceHolds s i x d → Yields c s (fun u => u.d.fab = Struck s i x ∧ OnlyFabric s u))

/-- Where a step or a control opcode stands next and passes its checks and order conditions, but WSEM holds fewer units than it takes, the
stream is WAITING for them from the tick at which it stands (R45) at the same descriptor, no semaphore changes, and nothing has issued. -/
def Obligations.StepsWithoutTheirUnitsWait : Prop :=
  ∀ (s : State) (i : StepIn) (x : SiteIx) (d : Desc) (c : Instr),
    (StepsAs c i d ∧ MayRun s i x d) ∨ (ControlAs c i d ∧ FenceHolds s i x d) → Stands s i x d →
    (StreamOf s i x).granted = false → ((s.d.fab.site x).sems[d.wsem]).toNat < takeUnits d →
    Yields c s (fun u =>
      u.d.fab.site x = ((Struck s i x).site x).setStream i.stream
        { StreamOf s i x with state := .waiting, want := some (d.wsem, takeUnits d), waitFrom := blockTicks s.time (.stepEngine x) } ∧
      u.d.fab.col x = (Struck s i x).col x ∧ u.d.fab.inbox = s.d.fab.inbox ∧ u.d.fab.samplers = s.d.fab.samplers ∧ OnlySite s u x)

/-- Where the next descriptor of a running stream is one for which a step or control command stands (NOP stands for an unknown opcode
too), and fails a check of Table Tiles-5 or of the loop rules, the stream is FAULTED with that cause as its last fault, the cause and the
offset are told to the token service engine, one error report 0x0101 is made, no unit is taken, and no step has issued. -/
def Obligations.BadDescriptorsFaultTheStream : Prop :=
  ∀ (s : State) (i : StepIn) (x : SiteIx) (d : Desc) (c : Instr) (k : Cause), StepsAs c i d ∨ ControlAs c i d ∨ (c = .nop i ∧ opKnown d = false) →
    s.d.mayIssue i.tile = true → s.d.fab.siteOf i.tile = some x → (StreamOf s i x).nextDesc = some d → issueCause (StreamOf s i x) d = some k →
    (usesColumn d = true → (s.d.fab.col x).phase = .ready) → (Struck s i x).sendHeld x i.tile d = false →
    Yields c s (fun u =>
      let v := StreamOf s i x
      u.d.fab.site x = ((Struck s i x).site x).setStream i.stream
        { v with state := .faulted, lastFault := k.code, held := none, want := none, granted := false, refetch := none, fence := none, ending := false } ∧
      u.d.fab.col x = (Struck s i x).col x ∧ u.d.fab.inbox = s.d.fab.inbox ++ [TileMsg.fault i.tile i.stream v.tag k.code v.pc 0] ∧
      (∃ r : Report, u.d.fab.reports = s.d.fab.reports ++ [r] ∧ r.code = 0x0101 ∧ r.suspect = .site x ∧ r.d1 = k.code ∧ r.d2 = v.pc) ∧
      u.d.fab.samplers = s.d.fab.samplers ∧ OnlySite s u x)

/-- For a VEC step whose operands are read without error, element i of D is, under RND and FMT_D: A, A + B, A - B, A x B, A x B + D with
one rounding, the larger or the smaller, |A|, -A, A x s, A + s, A held to [-|s|, |s|], the table function of A, x sigmoid(x) of A times B,
the rotary pair, or A with -infinity from index s of its segment on; each FP32 operation rounds once (R46, R47). -/
def Obligations.VectorElements : Prop :=
  ∀ c : StepCtx, c.d.opcode = 0x20 →
    let d := c.d
    let n := d.len
    let a := fun (i : Nat) => vecElem c.rd d.fa d.sa.toNat i
    let b := fun (i : Nat) => vecElem c.rd d.fb d.sb.toNat i
    let s := fp32F.decode d.imm
    (d.mod = 0x00 → VecGives c n a) ∧
    (d.mod = 0x01 → VecGives c n (fun i => rn32 ((a i).add (b i)))) ∧
    (d.mod = 0x02 → VecGives c n (fun i => rn32 ((a i).sub (b i)))) ∧
    (d.mod = 0x03 → VecGives c n (fun i => rn32 ((a i).mul (b i)))) ∧
    (d.mod = 0x04 → VecGives c n (fun i => rn32 (((a i).mul (b i)).add (vecElem c.rd d.fd d.sd.toNat i)))) ∧
    (d.mod = 0x05 → VecGives c n (fun i => vecSel 5 true (a i) (b i))) ∧
    (d.mod = 0x06 → VecGives c n (fun i => vecSel 6 false (a i) (b i))) ∧
    (d.mod = 0x07 → VecGives c n (fun i => (a i).abs)) ∧
    (d.mod = 0x08 → VecGives c n (fun i => (a i).negate)) ∧
    (d.mod = 0x09 → VecGives c n (fun i => rn32 ((a i).mul s))) ∧
    (d.mod = 0x0A → VecGives c n (fun i => rn32 ((a i).add s))) ∧
    (d.mod = 0x0B → VecGives c n (fun i => vecSel 11 false (vecSel 11 true (a i) s.abs.negate) s.abs)) ∧
    (0x10 ≤ d.mod → d.mod ≤ 0x17 → VecGives c n (fun i => tableVal d.mod (a i))) ∧
    (d.mod = 0x2A → VecGives c n (fun i =>
      let cs := vecElem c.rd .fp32 d.sb.toNat (2 * (i / 2 % (d.k / 2)))
      let sn := vecElem c.rd .fp32 d.sb.toNat (2 * (i / 2 % (d.k / 2)) + 1)
      let x := a (2 * (i / 2))
      let y := a (2 * (i / 2) + 1)
      if i % 2 = 0 then rn32 ((rn32 (x.mul cs)).sub (rn32 (y.mul sn))) else rn32 ((rn32 (x.mul sn)).add (rn32 (y.mul cs))))) ∧
    (d.mod = 0x2B → VecGives c n (fun i => rn32 ((tableVal 0x15 (a i)).mul (b i)))) ∧
    (d.mod = 0x38 → VecGives c n (fun i => if i % d.k < d.imm then a i else .inf true))

/-- For a VEC step whose operands are read without error: RSUM and RSUMSQ write for each segment of K elements the sum, or the sum of
squares, taken over 64 lanes in ascending order and a balanced tree (R48), RMAX the largest element; RMSNORM writes A x B x
rsqrt(sumsq(A)/K + s), SOFTMAX e^(A - max) over the fixed-order sum of its segment, each operation rounded to FP32. CVT and QUANT write
what their conversion gives, unless a code of the source is invalid: then the stream faults with INVALID_CODE (R89). Whether squares are
fused (R48) and the coding of s for RMSNORM are free. -/
def Obligations.VectorReductions : Prop :=
  ∀ c : StepCtx, c.d.opcode = 0x20 →
    let d := c.d
    let a := fun (i : Nat) => vecElem c.rd d.fa d.sa.toNat i
    let mx := fun (g : Nat) => (List.range (d.k - 1)).foldl (fun m i => vecSel 0x21 true m (a (g + i + 1))) (a g)
    (d.mod = 0x20 → VecGives c (Segments d) (fun g => laneSum add32 d.k (fun i => a (g * d.k + i)))) ∧
    (d.mod = 0x21 → VecGives c (Segments d) (fun g => mx (g * d.k))) ∧
    (d.mod = 0x22 → VecGives c (Segments d) (fun g => laneSum addSq d.k (fun i => a (g * d.k + i)))) ∧
    (d.mod = 0x28 → VecGives c d.len (fun i =>
      let ss := laneSum addSq d.k (fun j => a (i / d.k * d.k + j))
      let m := add32 (div32 ss (.fin false ⟨d.k, 0⟩)) (fp32F.decode (Config.rmsnormS d.imm % 2 ^ 32))
      mul32 (mul32 (a i) (vecElem c.rd d.fb d.sb.toNat (i % d.k))) (tableVal 0x11 m))) ∧
    (d.mod = 0x29 → VecGives c d.len (fun i =>
      let g := i / d.k * d.k
      let ex := fun (j : Nat) => tableVal 0x12 (sub32 (a j) (mx g))
      div32 (ex i) (laneSum add32 d.k (fun j => ex (g + j))))) ∧
    (∀ o : DataOut,
      (d.mod = 0x30 ∧ o = cvt c.rd d.fa d.fd d.ae5 (Rnd.ofField d.rnd) d.sa.toNat d.sd.toNat d.len d.k d.imm) ∨
      (d.mod = 0x31 ∧ o = quant c.rd (vecElem c.rd d.fa d.sa.toNat) d.fd d.de5 (Rnd.ofField d.rnd) d.sb.toNat d.sd.toNat d.len d.k d.imm) →
      c.site.checkReads (VecReads c) true = none →
      (o.invalid = none → (Work c).res = .ok { StepEff.none with
        scratch := o.writes.map (fun p => { addr := p.1, bytes := p.2, poison := false, tag := none }), sat := o.sat, nan := o.nan }) ∧
      (∀ q : Nat, o.invalid = some q → ∃ w, (Work c).res = .fault { FaultInfo.of .invalidCode with extra := q } w))

/-- ROW_LOAD writes each sector of its rows to scratch, with the mark of its poison; ROW_STORE writes each 64-byte block to its sector, a
poisoned block as a PROPAGATED record (R385). A linear layout from scratch copies LEN bytes in blocks; a skew layout writes its tile and
scales. MATMUL writes row i of D, element j being the array result of lanes i of A and j of B, and takes its place in the array, where no
byte that the array reads has a parity error or poison, its tensor scales are positive and normal, and no code is invalid; with clean
bytes it faults with BAD_FIELD or INVALID_CODE otherwise (R89, R95), and what it meets first in the order of its reads decides (R112). -/
def Obligations.RowAndMatrixResults : Prop :=
  (∀ c : StepCtx, c.d.opcode = 0x01 → ∃ ef : StepEff, (Work c).res = .ok ef ∧ ef.sectors = [] ∧
    ∀ (k : Nat) (rs : List SecRead) (j : Nat) (r : SecRead), k < c.d.count →
      (c.f.readRows c.e c.x 4 (rowsFrom c.d.addr c.d.count)).2[k]? = some rs → rs[j]? = some r →
      ({ addr := c.d.sd.toNat + 1024 * k + 64 * j, bytes := sectorBytes r.data, poison := r.poison, tag := none } : ScratchWrite) ∈ ef.scratch) ∧
  (∀ c : StepCtx, c.d.opcode = 0x02 → c.site.checkReads [(c.d.sa.toNat, 1024 * c.d.count)] false = none →
    ∃ ef : StepEff, (Work c).res = .ok ef ∧ ef.scratch = [] ∧ ∀ k j : Nat, k < c.d.count → j < 16 →
      (if c.site.blockPoison (c.d.sa.toNat + 1024 * k + 64 * j) then
        { key := 16 * (c.d.addr.toNat / 1024 + k) + j, data := poisonRec .propagated c.t.val 0 (nowNs c.e.time), poison := true }
      else { key := 16 * (c.d.addr.toNat / 1024 + k) + j, data := bytesSector (c.site.bytes (c.d.sa.toNat + 1024 * k + 64 * j) 64), poison := false }
        : SectorWrite) ∈ ef.sectors) ∧
  (∀ c : StepCtx, c.d.opcode = 0x03 → c.d.mod % 8 = 0 → 128 ≤ c.d.mod → c.site.checkReads [(c.d.sa.toNat, c.d.len)] false = none →
    ∃ ef : StepEff, (Work c).res = .ok ef ∧ ∀ i : Nat, 64 * i < c.d.len →
      ({ addr := c.d.sd.toNat + 64 * i, bytes := c.site.bytes (c.d.sa.toNat + 64 * i) (Nat.min 64 (c.d.len - 64 * i))
         poison := c.site.blockPoison (c.d.sa.toNat + 64 * i), tag := none } : ScratchWrite) ∈ ef.scratch) ∧
  (∀ c : StepCtx, c.d.opcode = 0x03 → c.d.mod % 8 ≠ 0 → 128 ≤ c.d.mod → c.site.checkReads [(c.d.sa.toNat, layoutSrcBytes c.d)] true = none →
    (skewOut c.rd c.d c.d.sa.toNat).invalid = none →
    (Work c).res = .ok { StepEff.none with scratch := [
      { addr := c.d.sd.toNat, bytes := skewTile c.rd c.d.sa.toNat c.d.fa (layoutLanes (c.d.mod % 8)) c.d.len c.d.k, poison := false, tag := none },
      { addr := c.d.sd.toNat + (skewTile c.rd c.d.sa.toNat c.d.fa (layoutLanes (c.d.mod % 8)) c.d.len c.d.k).length, poison := false, tag := none
        bytes := (List.range (laneScaleBytes c.d.fa (layoutLanes (c.d.mod % 8)) c.d.len)).map (fun i =>
          BitVec.ofNat 8 (c.rd (c.d.sa.toNat + layoutLanes (c.d.mod % 8) * c.d.k * 64 + i))) }] }) ∧
  (∀ c : StepCtx, c.d.opcode = 0x10 →
    let clean := (∀ p ∈ c.site.scratch, parityBad p.2 = true → matKeys c.d p.1 = []) ∧
      (∀ p ∈ c.site.poison, p.2 = true → ∀ i : Nat, i < 64 → matKeys c.d (64 * p.1 + i) = [])
    (∀ (k : Nat) (b : MatBad), firstMatBad (matBads c.site c.d) = some (k, b) → (Work c).res = b.res) ∧
    (clean → tensorScalesOk c.rd c.d = false → (Work c).res = .fault (FaultInfo.of .badField) []) ∧
    (clean → ∀ q : Nat, tensorScalesOk c.rd c.d = true → matInvalid c.rd c.d = some q →
      (Work c).res = .fault { FaultInfo.of .invalidCode with extra := q } []) ∧
    (clean → tensorScalesOk c.rd c.d = true → matInvalid c.rd c.d = none → ∃ (ef : StepEff) (a : ArraySt), (Work c).res = .ok ef ∧
      (Work c).f = c.f.setSite c.x { c.site with arr := a } ∧
      a.queue = (c.site.arr.enter c.st (c.site.stream c.st).nextId c.d.mod).queue ∧
      ef.kind = .matmul c.d.mod c.d.m c.d.n ∧
      ef.scratch = (List.range c.d.m).map (fun i =>
        { addr := c.d.sd.toNat + i * dStride c.d, poison := false, tag := none
          bytes := codeBytes (bytesOf c.d.fd) ((List.range c.d.n).map (fun j =>
            (arrayResult c.d.fd (Rnd.ofField c.d.rnd) (fp32F.decode (matTA c.rd c.d)) (fp32F.decode (matTB c.rd c.d))
              (if bit c.d.mod 2 then c.d.fd.elem false (rdLe c.rd (c.d.sd.toNat + i * dStride c.d + j * bytesOf c.d.fd) (bytesOf c.d.fd)) else Val.zero)
              (matElem c.rd c.d i j 0)).code)) })))

/-- Where the header of the query block, the positions, the query rows and the page list are read without error and pass their checks:
each of the NQ x G rows takes its pages in list order under its mask; ATTEND_FINAL writes its quotient (R131), ATTEND_PARTIAL its maximum,
sum and unnormalised output (R127), ATTEND_MERGE the combination of the partial records of COUNT sets (R132). A page that fails a check
faults the stream with the cause of that check. -/
def Obligations.AttentionResults : Prop :=
  (∀ c : StepCtx, c.d.opcode = 0x18 → attOut c.d ≠ 2 →
    let d := c.d
    let h := QueryHeader.read c.rd d.sa.toNat
    let pos := (List.range h.nq).map (fun n => rdLe c.rd (qPosAddr d.sa.toNat n) 4)
    let rg := [(d.sa.toNat, qBlockBytes d h.nq), (d.sb.toNat, 8 * d.count)]
    let w := ((List.range d.count).map (fun i => PageEntry.ofNat (rdLe c.rd (d.sb.toNat + 8 * i) 8))).zipIdx.foldl
      (fun w p => takeEntry c h (p.2 + 1 == d.count) w p.1) { f := c.f, pages := [], rows := [], bad := none }
    c.site.checkReads [(d.sa.toNat, 64)] true = none → h.nq ≤ 256 → c.site.checkReads [(d.sa.toNat + 64, 4 * h.nq)] true = none →
    attHeaderOk d h pos = true → rdRangeOk d.sa (qBlockBytes d h.nq) = true → wrRangeOk d.sd (attDBytes d h.nq) = true →
    overlaps d.sd.toNat (attDBytes d h.nq) d.sa.toNat (qBlockBytes d h.nq) = false →
    overlaps d.sd.toNat (attDBytes d h.nq) d.sb.toNat (8 * d.count) = false → c.site.checkReads rg true = none →
    (∀ k p, w.bad = some (k, p) → (Work c).res = .fault { FaultInfo.of k with poisonAt := p } []) ∧
    (w.bad = none → (Work c).res = .ok (attWrites d ((List.range (h.nq * attG d)).map (fun r =>
      let st := w.pages.foldl (fun st p =>
        attEntry d.fb d.k (fp32F.decode h.sigma) ((List.range d.k).map (fun i => vecElem c.rd d.fa (qRowsAt d.sa.toNat h.nq + r * qRowStride d) i)) p
          (fun t => !masked (attMask d) h.window (p.pos0 + t) (pos.getD (r / attG d) 0)) st) (RowSt.init d.k)
      if attOut d = 0 then finalRow d.fd d.k st else partialRow d.k st))))) ∧
  (∀ c : StepCtx, c.d.opcode = 0x18 → attOut c.d = 2 →
    let d := c.d
    let h := QueryHeader.read c.rd d.sa.toNat
    c.site.checkReads [(d.sa.toNat, 64)] true = none → attHeaderOk d h [] = true → rdRangeOk d.sa (mergeBytes d h.nq) = true →
    wrRangeOk d.sd (attDBytes d h.nq) = true → overlaps d.sd.toNat (attDBytes d h.nq) d.sa.toNat (mergeBytes d h.nq) = false →
    c.site.checkReads [(d.sa.toNat, mergeBytes d h.nq)] true = none →
    (Work c).res = .ok (attWrites d ((List.range (h.nq * attG d)).map (fun r =>
      mergeRow d.fd d.k ((List.range d.count).map (fun i =>
        let at_ := d.sa.toNat + 64 + (i * (h.nq * attG d) + r) * (64 + 4 * d.k)
        (fp32F.decode (rdLe c.rd at_ 4), fp32F.decode (rdLe c.rd (at_ + 4) 4),
         (List.range d.k).map (fun j => fp32F.decode (rdLe c.rd (at_ + 64 + 4 * j) 4)))))))))

/-- REDUCE writes at SD, for each element, row 0 plus the later rows in ascending order, each sum rounded to FP32, then converted to FMT_D
(R173). Where its scratch is read without parity error, SCALE_ADD writes s x + y rounded once to FMT_D and keeps the elements from LEN on,
each row in the transfer after its read (R161, R174); FILL writes the pattern, or zeros, to every sector (R176). RMS_STATS writes the sum
of squares and the largest magnitude of each row (R177). CHECK_RECOMP writes its three counts at SD (R178); of one row with no
uncorrectable sector it writes back at once each sector that it corrected, and counts those and the poisoned ones. -/
def Obligations.NearBankResults : Prop :=
  (∀ c : StepCtx, c.d.opcode = 0x30 → c.d.mod = 1 →
    let rows := (c.f.readRows c.e c.x 3 (rowsFrom c.d.addr c.d.count)).2
    ∃ ef : StepEff, (Work c).res = .ok ef ∧ ef.sectors = [] ∧
      ef.scratch = [{ addr := c.d.sd.toNat, poison := rows.any (fun r => rowPoison r (c.d.len * bytesOf c.d.fa)), tag := none
                      bytes := codeBytes (bytesOf c.d.fd) ((List.range c.d.len).map (fun i =>
                        (c.d.fd.convTo .nearest (match rows with
                          | [] => Val.zero
                          | r :: rest => rest.foldl (fun acc q => rn32 (acc.add (rowElem c.d.fa q i))) (rowElem c.d.fa r i))).code)) }]) ∧
  (∀ c : StepCtx, c.d.opcode = 0x30 → c.d.mod = 2 →
    c.site.checkReads [(c.d.sa.toNat, srcBytes c.d.fa c.d.count c.d.len), (c.d.sb.toNat, 4)] false = none →
    ∃ ef : StepEff, (Work c).res = .ok ef ∧ ef.scratch = [] ∧ ef.sectors = [] ∧
      ∃ ws : List SectorWrite, (Work c).f = (c.f.readRows c.e c.x 3 (rowsFrom c.d.addr c.d.count)).1.writeSectors c.e c.x ws ∧
      ∀ (k : Nat) (rs : List SecRead) (j : Nat), k < c.d.count → j < 16 →
        (c.f.readRows c.e c.x 3 (rowsFrom c.d.addr c.d.count)).2[k]? = some rs → (∀ q ∈ rs, q.poison = false) →
        (∀ a : Nat, c.site.blockPoison a = false) →
        ({ key := 16 * (c.d.addr.toNat / 1024 + k) + j, poison := false
           data := bytesSector ((codeBytes (bytesOf c.d.fd) ((List.range c.d.len).map (fun i =>
               (c.d.fd.convTo .nearest (((fp32F.decode (rdLe c.rd c.d.sb.toNat 4)).mul (rowElem c.d.fd rs i)).add
                 (vecElem c.rd c.d.fa (c.d.sa.toNat + k * srcStride c.d.fa c.d.len) i))).code)) ++
             (rs.flatMap (fun r => sectorBytes r.data)).drop (c.d.len * bytesOf c.d.fd)).drop (64 * j)) } : SectorWrite) ∈ ws) ∧
  (∀ c : StepCtx, c.d.opcode = 0x30 → c.d.mod = 4 → (c.d.len = 64 → c.site.checkReads [(c.d.sa.toNat, 64)] false = none) →
    ∃ ef : StepEff, (Work c).res = .ok ef ∧ ef.scratch = [] ∧ ∀ k j : Nat, k < c.d.count → j < 16 →
      ∃ w ∈ ef.sectors, w.key = 16 * (c.d.addr.toNat / 1024 + k) + j ∧
        (c.d.len ≠ 64 → w.data = 0 ∧ w.poison = false) ∧
        (c.d.len = 64 → c.site.blockPoison c.d.sa.toNat = false → w.data = bytesSector (c.site.bytes c.d.sa.toNat 64) ∧ w.poison = false)) ∧
  (∀ c : StepCtx, c.d.opcode = 0x30 → c.d.mod = 6 →
    ∃ ef : StepEff, (Work c).res = .ok ef ∧ ef.sectors = [] ∧ ∀ (k : Nat) (rs : List SecRead), k < c.d.count →
      (c.f.readRows c.e c.x 3 (rowsFrom c.d.addr c.d.count)).2[k]? = some rs →
      (∀ i : Nat, i < c.d.len → (rowElem c.d.fa rs i).isNaN = false ∧ (rowElem c.d.fa rs i).isInf = false) →
      ({ addr := c.d.sd.toNat + 8 * k, poison := rowPoison rs (c.d.len * bytesOf c.d.fa), tag := none
         bytes := leBytes 4 (fp32Of (laneSum addSq c.d.len (fun i => rowElem c.d.fa rs i))) ++
           leBytes 4 (fp32Of (Val.fin false (maxMag ((List.range c.d.len).map (rowElem c.d.fa rs))))) } : ScratchWrite) ∈ ef.scratch) ∧
  (∀ c : StepCtx, c.d.opcode = 0x30 → c.d.mod = 7 →
    ∃ (ef : StepEff) (a b p : Nat), (Work c).res = .ok ef ∧
      ef.scratch = [{ addr := c.d.sd.toNat, bytes := leBytes 4 a ++ leBytes 4 b ++ leBytes 4 p ++ List.replicate 52 0, poison := false, tag := none }] ∧
      (c.d.count = 1 →
        let ri := c.d.addr.toNat / 1024
        let q := c.f.readRow c.e c.x 3 ri []
        (∀ r ∈ q.2, r.outcome ≠ 5) →
        a = (q.2.filter (fun r => r.outcome = 3 ∨ r.outcome = 4)).length ∧ b = 0 ∧ p = (q.2.filter (fun r => r.outcome = 2)).length ∧
        (Work c).f = q.1.writeSectors c.e c.x (q.2.zipIdx.filterMap (fun r =>
          if r.1.outcome = 3 ∨ r.1.outcome = 4 then some { key := 16 * ri + r.2, data := r.1.data, poison := r.1.poison } else none))))

/-- SEND to a peer whose table entry is not valid faults with PEER_INVALID, into a fenced half with PEER_HALF_DOWN, and to an absent tile
with PEER_ABSENT; otherwise, its bytes being readable, it is under way to the peer with its bytes, the destination and the DSEM of its
descriptor. SAMPLE whose table names no bad word sends one slice for each row that is not 0xFFFF to the sampler and slot that the table
names. SIGNAL has no work; its LEN units for SSEM are added when it completes. -/
def Obligations.MessageStepResults : Prop :=
  (∀ c : StepCtx, c.d.opcode = 0x40 →
    let en := c.site.peers[(sendPeer c.d)]
    let peer : TileId := ⟨en.toNat % 512, Nat.mod_lt _ (by decide)⟩
    (bit en.toNat 15 = false → (Work c).res = .fault { FaultInfo.of .peerInvalid with peer := some peer } []) ∧
    (bit en.toNat 15 = true → c.f.fenced[tileHalf peer] = true → tileHalf peer ≠ tileHalf c.t →
      (Work c).res = .fault { FaultInfo.of .peerHalfDown with peer := some peer } []) ∧
    (bit en.toNat 15 = true → (c.f.fenced[tileHalf peer] = false ∨ tileHalf peer = tileHalf c.t) →
      (c.f.siteOf peer = none → (Work c).res = .fault { FaultInfo.of .peerAbsent with peer := some peer } []) ∧
      (c.f.siteOf peer ≠ none → c.site.checkReads [(c.d.sa.toNat, c.d.len)] true = none →
        (Work c).res = .ok { StepEff.none with
          kind := .send (c.site.stream c.st).nextId
          sends := [{ id := (c.site.stream c.st).nextId, peer := peer, dst := c.d.sd.toNat, data := c.site.bytes c.d.sa.toNat c.d.len
                      dsem := if sendDsen c.d then some (sendDsem c.d) else none, off := (c.site.stream c.st).pc }] }))) ∧
  (∀ c : StepCtx, c.d.opcode = 0x48 →
    let words := (List.range c.d.count).map (fun i => rdLe c.rd (c.d.sb.toNat + 2 * i) 2)
    let rows := words.zipIdx.filter (fun p => p.1 != 0xFFFF)
    c.site.checkReads [(c.d.sb.toNat, 2 * c.d.count)] true = none →
    ((∃ w ∈ words, w ≠ 0xFFFF ∧ w / 2 ^ 13 ≠ 0) → (Work c).res = .fault (FaultInfo.of .descReserved) []) ∧
    ((∀ w ∈ words, w = 0xFFFF ∨ w / 2 ^ 13 = 0) →
      c.site.checkReads (rows.map (fun p => (c.d.sa.toNat + p.2 * sampleStride c.d, c.d.len * bytesOf c.d.fa))) true = none →
      ∃ ef : StepEff, (Work c).res = .ok ef ∧ ef.scratch = [] ∧ ef.slices.length = rows.length ∧
        ∀ (k : Nat) (p : Nat × Nat), rows[k]? = some p → ∃ q : ClusterId × Slice, ef.slices[k]? = some q ∧
          q.1.val = fld p.1 12 8 ∧ q.2.slot = fld p.1 7 0 ∧ q.2.tile = c.t ∧ q.2.stream = c.st ∧ q.2.vocabBase = c.d.addr.toNat ∧
          q.2.logits.length = c.d.len)) ∧
  (∀ c : StepCtx, c.d.opcode = 0x51 → (Work c).res = .ok { StepEff.none with kind := .signal c.d.ssem c.d.len })

/-- GATHER whose table is read without error and names rows of the column writes, for each entry in order, the first LEN bytes of its row,
64 bytes at a time, from SD + i x LEN on, each as the read of its row, after those of the entries before it, delivers it, with its poison.
KV_APPEND whose scale hint, position and page agree appends COUNT tokens to the page: in the transfer after the read of the page it writes
every sector that holds some of their elements and, last, the header with COUNT added to the token count, the format of FMT_D, and for
E4M3 the scale of the page, taken from the hint and the elements while the page is empty (R122). Where the parameter stands in a poisoned
block, the header becomes a record with the cause PROPAGATED (R385). -/
def Obligations.GatherAndAppendResults : Prop :=
  (∀ c : StepCtx, c.d.opcode = 0x30 → c.d.mod = 3 → c.site.checkReads [(c.d.sa.toNat, 4 * c.d.count)] true = none →
    (∀ i : Nat, i < c.d.count → rdLe c.rd (c.d.sa.toNat + 4 * i) 4 < 2 ^ 19 ∧ c.d.addr.toNat / 1024 + rdLe c.rd (c.d.sa.toNat + 4 * i) 4 < 393216) →
    ∃ ef : StepEff, (Work c).res = .ok ef ∧ ef.sectors = [] ∧ ∀ i j : Nat, i < c.d.count → j < c.d.len / 64 →
      ∃ w ∈ ef.scratch, w.addr = c.d.sd.toNat + i * c.d.len + 64 * j ∧ w.tag = none ∧
        let ri := fun (k : Nat) => c.d.addr.toNat / 1024 + rdLe c.rd (c.d.sa.toNat + 4 * k) 4
        let g := (List.range i).foldl (fun f k => (f.readRow c.e c.x 3 (ri k) []).1) c.f
        let r := (g.readRow c.e c.x 3 (ri i) []).2[j]?
        w.bytes = (r.map (fun q => sectorBytes q.data)).getD [] ∧ w.poison = (r.map (fun q => q.poison)).getD false) ∧
  (∀ c : StepCtx, c.d.opcode = 0x30 → c.d.mod = 5 →
    let d := c.d
    let page := d.addr.toNat / 16384
    let hint := rdLe c.rd d.sb.toNat 4
    let pw := rdLe c.rd (d.sb.toNat + 4) 4
    let pr := (readPage c.f c.e c.x 3 page 16384).2
    let h := PageHeader.ofBytes pr.bytes
    let kvf := if d.fd = .e4m3 then 2 else 1
    c.site.checkReads [(d.sb.toNat, 8)] false = none → c.site.checkReads [(d.sa.toNat, srcBytes d.fa d.count d.len)] false = none →
    pw < 2 ^ 20 → (d.fd = .e4m3 → posNormal32 hint = true) → pw + d.count ≤ 1048576 → pr.firstPoison c page 64 = none →
    (h.kvf = 0 ∨ h.kvf = kvf) → (h.kvf = 2 → h.count ≠ 0 → posNormal32 h.scale = true) → h.count + d.count ≤ tokensPerPage d.len (kvBytes d.fd) →
    pw = h.pos0 + h.count →
    let all := (List.range d.count).flatMap (fun t => (List.range d.len).map (fun i => vecElem c.rd d.fa (d.sa.toNat + t * srcStride d.fa d.len) i))
    let scale := if d.fd = .e4m3 ∧ h.count = 0 then kvScale hint (maxMag (all.filter (·.isFin))) else h.scale
    let first := 64 + h.count * d.len * kvBytes d.fd
    ∃ (ef : StepEff) (ws : List SectorWrite), (Work c).res = .ok ef ∧ ef.scratch = [] ∧ ef.sectors = [] ∧
      (Work c).f = (readPage c.f c.e c.x 3 page 16384).1.writeSectors c.e c.x ws ∧
      (∀ k : Nat, first < 64 * (k + 1) → 64 * k < first + d.count * d.len * kvBytes d.fd → ∃ w ∈ ws, w.key = 256 * page + k) ∧
      ws.getLast? = some (if c.site.blockPoison d.sb.toNat then
          { key := 256 * page, poison := true, data := poisonRec .propagated c.t.val 1 (nowNs c.e.time) }
        else { key := 256 * page, poison := false
               data := bytesSector ({ h with scale := if d.fd = .e4m3 then scale else 0, kvf := kvf, count := h.count + d.count } : PageHeader).toBytes }))

/-- On a tile whose engine runs and whose column takes requests, for a stream RUNNING or WAITING and not at its end: the row of the next
descriptor, or where that is held the row after it, enters the fetch buffer with its bytes as read and the records of its poisoned
sectors, and no other row than those two stays; where that row too is held, or ends the column, no row enters. The stream goes on, if the
descriptor at which it stands is in neither the hole nor a poisoned sector. A stream that stands in the hole faults with ADDRESS_HOLE when
it is RUNNING. -/
def Obligations.DescriptorRowsAreFetched : Prop :=
  (∀ (s : State) (i : StepIn) (x : SiteIx), s.d.engineOn i.tile = true → s.d.fab.siteOf i.tile = some x →
    let v := StreamOf s i x
    v.state = .running ∨ v.state = .waiting → v.ending = false → (s.d.fab.col x).phase = .ready →
    Yields (.descriptorFetch i) s (fun u =>
      let row := if (v.heldRow v.pc).isNone then v.pc / 1024 else v.pc / 1024 + 1
      let q := (Struck s i x).readRow s.env x 4 row []
      let rs := q.2
      let got : FetchRow := { row := row, bytes := rs.flatMap (fun r => sectorBytes r.data)
                              poison := rs.map (fun r => if r.poison then
                                some (if r.outcome = 5 then poisonRec .uncorrectable i.tile.val 2 (nowNs s.time) else r.data) else none) }
      let none_ := v.fetched.any (fun r => r.row = row) = true ∨ rowsPerColumn ≤ row
      let w := if v.fetched.any (fun r => r.row = row) = true ∨ rowsPerColumn ≤ row then v
        else { v with fetched := v.fetched.filter (fun r => r.row = v.pc / 1024 || r.row = v.pc / 1024 + 1) ++ [got] }
      ((v.state = .waiting ∨ (v.pc < 0x18000000 ∧ w.poisonAt v.pc = none)) → (u.d.fab.site x).stream i.stream = w ∧ u.d.fab.inbox = s.d.fab.inbox) ∧
      (v.state = .running → 0x18000000 ≤ v.pc → ((u.d.fab.site x).stream i.stream).state = .faulted ∧
        ((u.d.fab.site x).stream i.stream).lastFault = 0x06 ∧
        u.d.fab.inbox = s.d.fab.inbox ++ [TileMsg.fault i.tile i.stream v.tag 0x06 v.pc 0]) ∧
      (u.d.fab.site x).scratch = ((Struck s i x).site x).scratch ∧ (u.d.fab.site x).sems = (s.d.fab.site x).sems ∧
      (∀ m : StreamId, m ≠ i.stream → (u.d.fab.site x).stream m = (s.d.fab.site x).stream m) ∧
      (none_ → u.d.fab.col x = (Struck s i x).col x) ∧ (¬ none_ → u.d.fab.col x = q.1.col x) ∧
      u.d.fab.samplers = s.d.fab.samplers ∧ OnlySite s u x))

/-- Every one of the 57 commands by which a tile fetches a descriptor row or issues a step, whatever the descriptor and whatever its
outcome, leaves every site but the one that carries the tile as it was, with its scratch, semaphores and streams, and every other column;
it changes nothing of the cluster switches, the maps, the cut-overs, or anything outside the halves. A tile that no site carries changes
no site and no column. -/
def Obligations.StepsStayOnTheirSite : Prop :=
  ∀ (c : Instr) (i : StepIn), (∃ d : Desc, StepsAs c i d ∨ ControlAs c i d) ∨ c = .descriptorFetch i →
    ∀ s : State, Yields c s (fun u => (∀ x : SiteIx, s.d.fab.siteOf i.tile = some x → OnlySite s u x) ∧
      (s.d.fab.siteOf i.tile = none → u.d = s.d.bump))

/-- When a step in flight completes (a SIGNAL only once every earlier step of its stream has, a MATMUL only in the order in which the
array took them), its scratch writes and its sector writes (for whose rows no request waits) stand in scratch and column in their order,
but that the bytes of a MATMUL that another stream disturbed are unspecified (R111); its saturations, NaNs and empty rows are counted up
to 0xFFFF; the step leaves its stream. Then the units of SIGNAL, or the unit of SEN, are added: without a waiting take, the semaphore
holds the sum, and where that passes 0xFFFF it holds 0xFFFF and SEM_OVERFLOW is told. Without such a unit no semaphore changes. A MATMUL
that was the replay of a mismatch counts it as passed (R109). A step that is not in flight changes nothing, nor does a SIGNAL or MATMUL
before its time. -/
def Obligations.StepCompletionMakesWritesVisible : Prop :=
  (∀ (s : State) (t : TileId) (n : StreamId) (id : Nat) (x : SiteIx) (r : StepRec), s.d.fab.siteOf t = some x →
    let v := (s.d.fab.site x).stream n
    v.steps.find? (fun q => q.id = id) = some r → ¬ TooEarly (s.d.fab.site x) n r →
    Yields (.stepComplete t n id) s (fun u =>
      let p := (s.d.fab.site x).settled (s.d.fab.free + 1) n r
      (∀ a : Nat, (u.d.fab.site x).byte a = (p.scratch.foldl Site.apply (s.d.fab.site x)).byte a) ∧
      (u.d.fab.site x).poison = (p.scratch.foldl Site.apply (s.d.fab.site x)).poison ∧
      ((∀ w ∈ r.sectors, ∀ q ∈ (s.d.fab.col x).queue, q.ri ≠ w.key / 16) →
        (u.d.fab.col x).cells = (p.sectors.foldl (fun c w => c.putSector w.key w.data w.poison) (s.d.fab.col x)).cells) ∧
      ((∃ m a b, r.kind = .matmul m a b) → (u.d.fab.site x).arr.replays =
        if (s.d.fab.site x).arr.replay = some (n, id) then Nat.min 0xFFFF ((s.d.fab.site x).arr.replays + 1) else (s.d.fab.site x).arr.replays) ∧
      (u.d.fab.site x).nanOut = Nat.min 0xFFFF ((s.d.fab.site x).nanOut + r.nan) ∧
      (u.d.fab.site x).satCount = Nat.min 0xFFFF ((s.d.fab.site x).satCount + r.sat) ∧
      (u.d.fab.site x).emptyRows = Nat.min 0xFFFF ((s.d.fab.site x).emptyRows + r.empty) ∧
      ((u.d.fab.site x).stream n).steps = v.steps.filter (fun q => q.id ≠ id) ∧
      (¬ IsSignal r → r.sen = none → (u.d.fab.site x).sems = (s.d.fab.site x).sems ∧ u.d.fab.inbox = s.d.fab.inbox) ∧
      (∀ (q : Fin 32) (k : Nat), (r.kind = .signal q k ∨ (¬ IsSignal r ∧ r.sen = some q ∧ k = 1)) →
        (∀ m : StreamId, ((s.d.fab.site x).stream m).want = none) →
        let now := ((s.d.fab.site x).sems[q]).toNat
        (u.d.fab.site x).sems = (s.d.fab.site x).sems.set q (BitVec.ofNat 16 (if 0xFFFF < now + k then 0xFFFF else now + k)) ∧
        u.d.fab.inbox = s.d.fab.inbox ++ (if 0xFFFF < now + k then [TileMsg.fault t n v.tag 0x09 r.off 0] else [])) ∧
      u.d.fab.samplers = s.d.fab.samplers ∧ OnlySite s u x)) ∧
  (∀ (s : State) (t : TileId) (n : StreamId) (id : Nat) (x : SiteIx), s.d.fab.siteOf t = some x →
    let v := (s.d.fab.site x).stream n
    (∀ r : StepRec, v.steps.find? (fun q => q.id = id) = some r → TooEarly (s.d.fab.site x) n r) →
    Yields (.stepComplete t n id) s (fun u => u = s.bump))

/-- A RUNNING stream at its END, with no step in flight and no SEND or SAMPLE undelivered, becomes IDLE, the unit of END's SEN is added
(where no take waits on the tile and the sum fits), and its end is told to the token service engine with its tag. In any other case
nothing changes. -/
def Obligations.EndCompletionReports : Prop :=
  (∀ (s : State) (t : TileId) (n : StreamId) (x : SiteIx), s.d.fab.siteOf t = some x →
    let v := (s.d.fab.site x).stream n
    v.state = .running → v.ending = true → v.steps = [] → v.sends = [] → v.slices = 0 →
    (∀ q, v.endSen = some q → ((s.d.fab.site x).sems[q]).toNat + 1 ≤ 0xFFFF ∧ ∀ m : StreamId, m ≠ n → ((s.d.fab.site x).stream m).want = none) →
    Yields (.endCompletion t n) s (fun u =>
      ((u.d.fab.site x).stream n) = { v with state := .idle, ending := false, endSen := none } ∧
      (∀ m : StreamId, m ≠ n → (u.d.fab.site x).stream m = (s.d.fab.site x).stream m) ∧
      (u.d.fab.site x).sems = (match v.endSen with
        | some q => (s.d.fab.site x).sems.set q (BitVec.ofNat 16 (((s.d.fab.site x).sems[q]).toNat + 1))
        | none => (s.d.fab.site x).sems) ∧
      (u.d.fab.site x).scratch = (s.d.fab.site x).scratch ∧ u.d.fab.col x = s.d.fab.col x ∧
      u.d.fab.inbox = s.d.fab.inbox ++ [TileMsg.ended t n v.tag] ∧ u.d.fab.reports = s.d.fab.reports ∧ OnlySite s u x)) ∧
  (∀ (s : State) (t : TileId) (n : StreamId) (x : SiteIx), s.d.fab.siteOf t = some x →
    let v := (s.d.fab.site x).stream n
    v.state ≠ .running ∨ v.ending = false ∨ v.steps ≠ [] ∨ v.sends ≠ [] ∨ v.slices ≠ 0 →
    Yields (.endCompletion t n) s (fun u => u = s.bump))

/-- STEP_TIMEOUT of a WAITING stream for which at least TILE_SEM_TIMEOUT ticks (held to 1,000 to 10,000,000) have reached its step engine
since the wait began faults it with STEP_TIMEOUT (0x08), told with its descriptor; while ticks are lost to the engine none are counted.
With a smaller count, with the timeout disabled by 0, or for a stream that does not wait, nothing changes. -/
def Obligations.SemaphoreWaitsTimeOut : Prop :=
  ∀ (s : State) (t : TileId) (n : StreamId) (x : SiteIx), s.d.fab.siteOf t = some x →
    let v := (s.d.fab.site x).stream n
    let reg := s.d.reg s.fuse (0xC00000 + 0x8000 * t.val + 0x100)
    let limit := clampN 1000 10000000 reg
    (v.state = .waiting → reg ≠ 0 → v.waitFrom + limit ≤ s.time.ticks - missedOf s.time (.stepEngine x) →
      Yields (.stepTimeout t n) s (fun u =>
        (u.d.fab.site x).stream n =
          { v with state := .faulted, lastFault := 0x08, held := none, want := none, granted := false, refetch := none, fence := none, ending := false } ∧
        (∀ m : StreamId, m ≠ n → (u.d.fab.site x).stream m = (s.d.fab.site x).stream m) ∧
        (u.d.fab.site x).sems = (s.d.fab.site x).sems ∧ (u.d.fab.site x).scratch = (s.d.fab.site x).scratch ∧ u.d.fab.col x = s.d.fab.col x ∧
        u.d.fab.inbox = s.d.fab.inbox ++ [TileMsg.fault t n v.tag 0x08 v.pc 0] ∧ OnlySite s u x)) ∧
    (v.state ≠ .waiting ∨ reg = 0 ∨ s.time.ticks - missedOf s.time (.stepEngine x) < v.waitFrom + limit →
      Yields (.stepTimeout t n) s (fun u => u = s.bump))

/-- A SEND under way whose peer is a present tile that takes packets, with no half between them fenced, and with no earlier SEND of its
stream to that peer under way, puts its bytes at their destination in the peer's scratch and no others, leaves its stream, and adds the
unit of its DSEM there (where no take waits and the sum fits). One that an earlier SEND to the same peer precedes is not delivered. A SEND
to a tile that has become absent is discarded. -/
def Obligations.SendsArriveInOrder : Prop :=
  (∀ (s : State) (t : TileId) (n : StreamId) (id : Nat) (x y : SiteIx) (r : SendRec), s.d.fab.siteOf t = some x → x ≠ y →
    let v := (s.d.fab.site x).stream n
    v.sends.find? (fun q => q.id = id) = some r → (∀ q ∈ v.sends, q.peer = r.peer → id ≤ q.id) → Carries s r.peer y →
    (tileHalf r.peer = tileHalf t ∨ (s.d.fab.fenced[tileHalf t] = false ∧ s.d.fab.fenced[tileHalf r.peer] = false)) →
    (∀ q, r.dsem = some q → ((s.d.fab.site y).sems[q]).toNat + 1 ≤ 0xFFFF ∧ ∀ m : StreamId, ((s.d.fab.site y).stream m).want = none) →
    Yields (.sendDelivery t n id) s (fun u =>
      (∀ a : Nat, (u.d.fab.site y).byte a =
        if r.dst ≤ a ∧ a < r.dst + r.data.length then r.data.getD (a - r.dst) 0 else (s.d.fab.site y).byte a) ∧
      (u.d.fab.site y).sems = (match r.dsem with
        | some q => (s.d.fab.site y).sems.set q (BitVec.ofNat 16 (((s.d.fab.site y).sems[q]).toNat + 1))
        | none => (s.d.fab.site y).sems) ∧
      (∀ m : StreamId, SameButMarks ((s.d.fab.site y).stream m) ((u.d.fab.site y).stream m)) ∧
      (u.d.fab.site x).stream n = { v with sends := v.sends.filter (fun q => q.id ≠ id) } ∧
      (∀ m : StreamId, m ≠ n → (u.d.fab.site x).stream m = (s.d.fab.site x).stream m) ∧
      (u.d.fab.site x).scratch = (s.d.fab.site x).scratch ∧ (u.d.fab.site x).sems = (s.d.fab.site x).sems ∧
      (∀ z : SiteIx, z ≠ x → z ≠ y → u.d.fab.site z = s.d.fab.site z) ∧ u.d.fab.cols = s.d.fab.cols ∧ u.d.fab.inbox = s.d.fab.inbox ∧
      u.d.fab.samplers = s.d.fab.samplers ∧ OnlyFabric s u)) ∧
  (∀ (s : State) (t : TileId) (n : StreamId) (id : Nat) (x : SiteIx) (r q : SendRec), s.d.fab.siteOf t = some x →
    ((s.d.fab.site x).stream n).sends.find? (fun q => q.id = id) = some r →
    q ∈ ((s.d.fab.site x).stream n).sends → q.peer = r.peer → q.id < id →
    Yields (.sendDelivery t n id) s (fun u => u = s.bump)) ∧
  (∀ (s : State) (t : TileId) (n : StreamId) (id : Nat) (x : SiteIx) (r : SendRec), s.d.fab.siteOf t = some x →
    let v := (s.d.fab.site x).stream n
    v.sends.find? (fun q => q.id = id) = some r → (∀ q ∈ v.sends, q.peer = r.peer → id ≤ q.id) → s.d.fab.siteOf r.peer = none →
    (tileHalf r.peer = tileHalf t ∨ (s.d.fab.fenced[tileHalf t] = false ∧ s.d.fab.fenced[tileHalf r.peer] = false)) →
    Yields (.sendDelivery t n id) s (fun u =>
      u.d.fab.site x = (s.d.fab.site x).setStream n { v with sends := v.sends.filter (fun q => q.id ≠ id) } ∧
      (∀ z : SiteIx, z ≠ x → u.d.fab.site z = s.d.fab.site z) ∧ u.d.fab.inbox = s.d.fab.inbox))

/-- SCRATCH_REFETCH, for the lowest stream that waits for a reload, counts one refetch and fills the block from the row that its tag named
when the parity error was met; where a sector of the row carries poison the stream faults and no step of it is added. CHECKSUM_MISMATCH of
the checked MATMUL in the array sets MM_KIND, MM_ROW and MM_COL from the failing checks; at the first mismatch the step runs once more,
and nothing is counted; when that replay fails too, the fault is counted (and no replay), the step leaves its stream and the stream faults
with CHECKSUM_MISMATCH. With no stream that waits for a reload, with no checked MATMUL, or where the mismatch is not the one that the
replay calls for, they change nothing. -/
def Obligations.ReloadsAndReplays : Prop :=
  (∀ (s : State) (t : TileId) (ups : List DramUpset) (x : SiteIx) (n : StreamId) (r : RefetchRec), s.d.fab.siteOf t = some x →
    ((s.d.fab.site x).stream n).refetch = some r → (∀ m : StreamId, m < n → ((s.d.fab.site x).stream m).refetch = none) →
    let rs := ((s.d.bump.fab.setCol x ((s.d.fab.col x).upsets ups)).readRow s.env x 4 r.row []).2
    Yields (.scratchRefetch t ups) s (fun u => (u.d.fab.site x).refetches = Nat.min 0xFFFF ((s.d.fab.site x).refetches + 1) ∧
      ((∃ q ∈ rs, q.poison = true) → ((u.d.fab.site x).stream n).state = .faulted ∧ ((u.d.fab.site x).stream n).steps = ((s.d.fab.site x).stream n).steps) ∧
      ((∃ q ∈ rs, q.poison = true) ∨ ((u.d.fab.site x).stream n).state ≠ .faulted → ∀ a : Nat, a / 1024 = r.block →
        (u.d.fab.site x).byte a = (rs.flatMap (fun q => sectorBytes q.data)).getD (a % 1024) 0) ∧ OnlySite s u x)) ∧
  (∀ (s : State) (t : TileId) (ups : List DramUpset) (x : SiteIx), s.d.fab.siteOf t = some x →
    (∀ m : StreamId, ((s.d.fab.site x).stream m).refetch = none) → Yields (.scratchRefetch t ups) s (fun u => u = s.bump)) ∧
  (∀ (s : State) (t : TileId) (block : Nat) (rows cols : List (Fin 64)) (again : Bool) (x : SiteIx) (r : ArrRec),
    s.d.fab.siteOf t = some x → (s.d.fab.site x).arr.checked = some r → rows ≠ [] ∨ cols ≠ [] →
    (again = true ↔ (s.d.fab.site x).arr.replay = some (r.stream, r.id)) →
    Yields (.checksumMismatch t block rows cols again) s (fun u =>
      let v := (s.d.fab.site x).stream r.stream
      let place := locateFault (r.mod % 4) rows cols
      (u.d.fab.site x).arr.kind = place.1 ∧ (u.d.fab.site x).arr.row = place.2.1 ∧ (u.d.fab.site x).arr.col = place.2.2 ∧
      (u.d.fab.site x).arr.replays = (s.d.fab.site x).arr.replays ∧
      (again = false → (u.d.fab.site x).arr.replay = some (r.stream, r.id) ∧ (u.d.fab.site x).arr.faults = (s.d.fab.site x).arr.faults ∧
        (u.d.fab.site x).streams = (s.d.fab.site x).streams ∧ u.d.fab.inbox = s.d.fab.inbox ∧ u.d.fab.reports = s.d.fab.reports) ∧
      (again = true → (u.d.fab.site x).arr.faults = Nat.min 0xFFFF ((s.d.fab.site x).arr.faults + 1) ∧
        ((u.d.fab.site x).stream r.stream).steps = v.steps.filter (fun q => q.id ≠ r.id) ∧
        ((u.d.fab.site x).stream r.stream).state = .faulted ∧
        ∃ extra : Nat, u.d.fab.inbox = s.d.fab.inbox ++ [TileMsg.fault t r.stream v.tag (Cause.code .checksumMismatch)
          (((v.steps.find? (fun q => q.id = r.id)).map (·.off)).getD v.pc) extra]) ∧
      (u.d.fab.site x).scratch = (s.d.fab.site x).scratch ∧ (u.d.fab.site x).sems = (s.d.fab.site x).sems ∧ u.d.fab.col x = s.d.fab.col x ∧
      OnlySite s u x)) ∧
  (∀ (s : State) (t : TileId) (block : Nat) (rows cols : List (Fin 64)) (again : Bool) (x : SiteIx), s.d.fab.siteOf t = some x →
    (s.d.fab.site x).arr.checked = none ∨ (rows = [] ∧ cols = []) ∨
      (∃ r, (s.d.fab.site x).arr.checked = some r ∧ ¬ (again = true ↔ (s.d.fab.site x).arr.replay = some (r.stream, r.id))) →
    Yields (.checksumMismatch t block rows cols again) s (fun u => u = s.bump))

/-- A byte written to scratch reads as written, its nine bits hold an even number of ones, and every other address holds what it held. A
disturbance of one to nine bits of a stored byte is seen as bad parity exactly where it flips an odd number of bits. Reading ranges of
scratch answers a parity error exactly where a byte stored in one of them has bad parity (R51); an error in a block with a tag asks for
its reload (R52), one in a block without is a SCRATCH_PARITY fault. -/
def Obligations.ScratchBytesKeepParity : Prop :=
  (∀ (v : Site) (a k : Nat) (b : Byte), (v.putByte a b).byte k = (if k = a then b else v.byte k) ∧
    tget (v.putByte a b).scratch 0 a = withParity b ∧ (k ≠ a → tget (v.putByte a b).scratch 0 k = tget v.scratch 0 k)) ∧
  (∀ b : Byte, (withParity b).setWidth 8 = b ∧ parityBad (withParity b) = false) ∧
  (∀ c flip : BitVec 9, parityBad (c ^^^ flip) = (parityBad c != parityBad flip)) ∧
  (∀ (v : Site) (ranges : List (Nat × Nat)),
    ((∃ a, v.checkReads ranges false = some (.parity a)) ∨ (∃ k, v.checkReads ranges false = some (.refetch k)) ↔
      ∃ r ∈ ranges, ∃ p ∈ v.scratch, r.1 ≤ p.1 ∧ p.1 < r.1 + r.2 ∧ parityBad p.2 = true) ∧
    (∀ a, v.checkReads ranges false = some (.parity a) → tget v.tags 0 (a / 1024) = 0) ∧
    (∀ k, v.checkReads ranges false = some (.refetch k) → tget v.tags 0 k ≠ 0))

/-- MESH_FLIT_RETRY counts one retry of the cluster. MESH_LANE_FAIL counts a failed lane of its direction and reports it (code 0x0305);
the third takes the link out of service and orders the half to route along columns first, which COLUMN_FIRST_SWITCH does for its 16
clusters once the mesh of the half has emptied; the traffic of the rows takes the links then chosen and the hold on injections ends. Where
no switch stands, or a packet is in the mesh, it does nothing. STREAMS_QUIESCED lets a cut-over copy once no step of the old site is in
flight or waits for a reload. STATE_COPY_COMPLETE, while Lockkeeper runs, gives the tile to the new site with the scratch and peer table
of the old one, counts the change of the map, and ends the cut-over. SCRATCH_FILL_DONE makes a site that is ON and has code ready, failed
where a test failed, with its scratch at zeros without poison or tags. -/
def Obligations.MeshSwitchesAndCutOver : Prop :=
  (∀ (s : State) (c : ClusterId) (dir : Fin 4), Yields (.meshFlitRetry c dir) s (fun u =>
    u.d.fab.cluster c = { s.d.fab.cluster c with retries := (s.d.fab.cluster c).retries + 1 } ∧
    (∀ k : ClusterId, k ≠ c → u.d.fab.cluster k = s.d.fab.cluster k) ∧ u.d.fab = { s.d.bump.fab with clusters := u.d.fab.clusters } ∧ OnlyFabric s u)) ∧
  (∀ (s : State) (c : ClusterId) (dir : Fin 4) (lane : Fin 66), Yields (.meshLaneFail c dir lane) s (fun u =>
    let n := (s.d.fab.cluster c).laneFails[dir] + 1
    (u.d.fab.cluster c).laneFails = (s.d.fab.cluster c).laneFails.set dir n ∧
    (u.d.fab.cluster c).linkDown = (if 2 < n then (s.d.fab.cluster c).linkDown ||| BitVec.ofNat 4 (2 ^ dir.val) else (s.d.fab.cluster c).linkDown) ∧
    (2 < n → (s.d.fab.cluster c).columnFirst = false →
      u.d.fab.switching = s.d.fab.switching.set (clusterHalf c) true ∧ u.d.fab.toColumn = s.d.fab.toColumn.set (clusterHalf c) true) ∧
    (n ≤ 2 → u.d.fab.switching = s.d.fab.switching) ∧
    (∃ l : List Report, ∃ r : Report, u.d.fab.reports = s.d.fab.reports ++ r :: l ∧ r.code = 0x0305 ∧ r.suspect = .meshLink c dir.val) ∧
    (∀ k : ClusterId, k ≠ c → u.d.fab.cluster k = s.d.fab.cluster k) ∧ u.d.fab.sites = s.d.fab.sites ∧ u.d.fab.cols = s.d.fab.cols)) ∧
  (∀ (s : State) (h : HalfId), Yields (.columnFirstSwitch h) s (fun u =>
    (s.d.fab.switching[h] = true → s.d.fab.meshEmpty h = true →
      (∀ c : ClusterId, u.d.fab.cluster c =
        { s.d.fab.cluster c with columnFirst := (s.d.fab.cluster c).columnFirst || (s.d.fab.toColumn[h] && clusterHalf c == h) }) ∧
      u.d.fab.switching = s.d.fab.switching.set h false ∧ u.d.fab.toColumn = s.d.fab.toColumn.set h false ∧
      u.d.fab.routes = (List.range 8).map (fun i => if i / 4 = h.val then s.d.fab.routesNext.getD i none else s.d.fab.routes.getD i none)) ∧
    (s.d.fab.switching[h] = false ∨ s.d.fab.meshEmpty h = false → u = s.bump) ∧ u.d.fab.sites = s.d.fab.sites ∧ u.d.fab.cols = s.d.fab.cols ∧ OnlyFabric s u)) ∧
  (∀ (s : State) (h : HalfId) (k : CutOver), s.d.fab.cut[h] = some k → k.phase = .quiescing → Yields (.streamsQuiesced h) s (fun u =>
    ((∀ n : StreamId, ((s.d.fab.site k.src).stream n).steps = [] ∧ ((s.d.fab.site k.src).stream n).refetch = none) → u.d.fab = { s.d.bump.fab with cut := s.d.fab.cut.set h (some { k with phase := .copying }) }) ∧
    ((∃ n : StreamId, ((s.d.fab.site k.src).stream n).steps ≠ [] ∨ ((s.d.fab.site k.src).stream n).refetch ≠ none) → u = s.bump) ∧
    OnlyFabric s u)) ∧
  (∀ (s : State) (h : HalfId) (k : CutOver), s.d.lkkRuns = true → s.d.fab.cut[h] = some k → k.phase = .copying → s.d.lkk.mig[h].state ≠ .cutover → k.src ≠ k.dst →
    tget s.d.fab.held [] k.tile.val = [] → Yields (.stateCopyComplete h) s (fun u =>
      (u.d.fab.site k.dst).scratch = (s.d.fab.site k.src).scratch ∧ (u.d.fab.site k.dst).peers = (s.d.fab.site k.src).peers ∧
      (u.d.fab.site k.dst).ready = true ∧ u.d.fab.site k.src = Site.init ∧ u.d.fab.cut = s.d.fab.cut.set h none ∧
      (u.d.fab.cluster (tileCluster k.tile)).siteOf[tileFin k.tile] = some (siteFin k.dst) ∧
      ((s.d.fab.cluster (tileCluster k.tile)).siteOf[tileFin k.tile] ≠ some (siteFin k.dst) →
        (u.d.fab.cluster (tileCluster k.tile)).mapGen = (s.d.fab.cluster (tileCluster k.tile)).mapGen + 1) ∧
      (∀ y : SiteIx, y ≠ k.src → y ≠ k.dst → u.d.fab.site y = s.d.fab.site y) ∧ u.d.fab.cols = s.d.fab.cols)) ∧
  (∀ (s : State) (x : SiteIx) (mm att : Bool), s.d.siteOn x = true → s.d.codeLoaded x = true → (s.d.fab.site x).ready = false →
    (∀ t : TileId, s.d.fab.tileOf x = some t → tget s.d.fab.held [] t.val = []) → Yields (.scratchFillDone x mm att) s (fun u =>
      u.d.fab.site x = { s.d.fab.site x with scratch := [], poison := [], tags := [], ready := true, failed := (s.d.fab.site x).failed || !mm || !att } ∧
      (∀ y : SiteIx, y ≠ x → u.d.fab.site y = s.d.fab.site y) ∧ u.d.fab.cols = s.d.fab.cols ∧ u.d.fab.inbox = s.d.fab.inbox ∧
      (mm = true → att = true → u.d.fab.reports = s.d.fab.reports)))

/-- With the sampler of the cluster powered: SAMPLER_ARM gives a slot the parameters that the engine holds for it, and no slices.
LOGIT_SLICE of a slice under way takes it from the way and lets its stream count it delivered; the slot keeps its maximum, exponent sum
and 256 first logits, unless the slot is not armed or full (discarded and counted), its base repeats or a logit is not finite
(SAMPLE_INVALID, and the slot is disarmed). SAMPLER_RESULT of a slot with all its slices sends the token and log-probabilities drawn from
them and disarms it, and of any other slot changes nothing. TILE_MM_DBG_SEL of the PF sets the selection and, with EN, clears DBG_VALID,
unless SEC_LOCK is set. -/
def Obligations.SamplersTakeSlices : Prop :=
  (∀ (s : State) (c : ClusterId) (n : Fin 256) (a : ClusterId × Nat × ArmParams), s.d.samplerOn c = true →
    s.d.svc.arms.find? (fun q => q.1 == c && q.2.1 == n.val) = some a → Yields (.samplerArm c n) s (fun u =>
      (u.d.fab.sampler c).slot n.val = some { params := a.2.2, slices := [] } ∧
      (∀ m : Nat, m ≠ n.val → (u.d.fab.sampler c).slot m = (s.d.fab.sampler c).slot m) ∧
      (∀ k : ClusterId, k ≠ c → u.d.fab.sampler k = s.d.fab.sampler k) ∧ u.d.svc = { s.d.svc with arms := s.d.svc.arms.erase a } ∧
      u.d.fab = { s.d.bump.fab with samplers := u.d.fab.samplers } ∧ u.d = { s.d with svc := u.d.svc, fab := u.d.fab })) ∧
  (∀ (s : State) (c : ClusterId) (n : Nat) (sl : Slice), s.d.samplerOn c = true → (s.d.fab.sampler c).inflight[n]? = some sl →
    Yields (.logitSlice c n) s (fun u =>
      (u.d.fab.sampler c).inflight = (s.d.fab.sampler c).inflight.eraseIdx n ∧
      (∀ x : SiteIx, s.d.fab.siteOf sl.tile = some x →
        u.d.fab.site x = (s.d.fab.site x).setStream sl.stream
          { (s.d.fab.site x).stream sl.stream with slices := ((s.d.fab.site x).stream sl.stream).slices - 1 } ∧
        ∀ y : SiteIx, y ≠ x → u.d.fab.site y = s.d.fab.site y) ∧
      (∀ v : SamplerSlot, (s.d.fab.sampler c).slot sl.slot = some v → v.slices.length < v.params.nslice →
        (∀ k ∈ v.slices, k.base ≠ sl.vocabBase) → (∀ z ∈ sl.logits, notFinite z = false) →
        (u.d.fab.sampler c).slot sl.slot = some { v with slices := v.slices ++ [keepSlice v.params.tempFactor sl] } ∧
        u.d.fab.results = s.d.fab.results ∧ (u.d.fab.sampler c).discarded = (s.d.fab.sampler c).discarded) ∧
      (((s.d.fab.sampler c).slot sl.slot = none ∨ ∃ v, (s.d.fab.sampler c).slot sl.slot = some v ∧ v.params.nslice ≤ v.slices.length) →
        (u.d.fab.sampler c).slots = (s.d.fab.sampler c).slots ∧ u.d.fab.results = s.d.fab.results ∧
        (u.d.fab.sampler c).discarded = (s.d.fab.sampler c).discarded + 1) ∧
      (∀ v : SamplerSlot, (s.d.fab.sampler c).slot sl.slot = some v → v.slices.length < v.params.nslice →
        (∃ k ∈ v.slices, k.base = sl.vocabBase) ∨ (∃ z ∈ sl.logits, notFinite z = true) →
        (u.d.fab.sampler c).slot sl.slot = none ∧
        u.d.fab.results = s.d.fab.results ++ [{ cluster := c, slot := sl.slot, token := none, logprob := 0, alts := [] }]) ∧
      (∀ k : ClusterId, k ≠ c → u.d.fab.sampler k = s.d.fab.sampler k) ∧ u.d.fab.cols = s.d.fab.cols ∧ OnlyFabric s u)) ∧
  (∀ (s : State) (c : ClusterId) (n : Fin 256), s.d.samplerOn c = true → Yields (.samplerResult c n) s (fun u =>
    (∀ v : SamplerSlot, (s.d.fab.sampler c).slot n.val = some v → v.slices.length = v.params.nslice →
      (u.d.fab.sampler c).slot n.val = none ∧ u.d.fab.results = s.d.fab.results ++ [sampleSlot c n.val v]) ∧
    (∀ v : SamplerSlot, (s.d.fab.sampler c).slot n.val = some v → v.slices.length ≠ v.params.nslice → u = s.bump) ∧
    ((s.d.fab.sampler c).slot n.val = none → u = s.bump) ∧
    (∀ k : ClusterId, k ≠ c → u.d.fab.sampler k = s.d.fab.sampler k) ∧ u.d.fab.sites = s.d.fab.sites ∧ OnlyFabric s u)) ∧
  (∀ (s : State) (t : TileId) (x : SiteIx) (v : Word), s.d.tileTakes t = true → s.d.fab.siteOf t = some x → Yields (.tileMmDbgSel 0 t v) s (fun u =>
    u.d.fab.site x = (if s.sec.lock then s.d.fab.site x else { s.d.fab.site x with
      arr := { (s.d.fab.site x).arr with dbgSel := v &&& 0xE3FFFFFF, dbgValid := if v.getLsbD 31 then false else (s.d.fab.site x).arr.dbgValid } }) ∧
    OnlySite s u x))

/-- TILE_SCRATCH_ERR, TILE_FMT_EVENTS, TILE_MM_CHK, TILE_ATT_EVENTS and TILE_DRAM_ERR give the PF both their counts, in bits [31:16] and
[15:0] as the map lays them out, and clear them and nothing else; a second read gives 0. Another function, or a window whose tile is
absent or whose half is not up, reads 0 and clears nothing. -/
def Obligations.TileCountersReadAndClear : Prop :=
  TileReadClears .tileScratchErr (fun f x => (f.site x).parityFaults * 2 ^ 16 + (f.site x).refetches)
    (fun f x => f.setSite x { f.site x with parityFaults := 0, refetches := 0 }) ∧
  TileReadClears .tileFmtEvents (fun f x => (f.site x).nanOut * 2 ^ 16 + (f.site x).satCount)
    (fun f x => f.setSite x { f.site x with nanOut := 0, satCount := 0 }) ∧
  TileReadClears .tileMmChk (fun f x => (f.site x).arr.faults * 2 ^ 16 + (f.site x).arr.replays)
    (fun f x => f.setSite x { f.site x with arr := { (f.site x).arr with faults := 0, replays := 0 } }) ∧
  TileReadClears .tileAttEvents (fun f x => (f.site x).emptyRows) (fun f x => f.setSite x { f.site x with emptyRows := 0 }) ∧
  TileReadClears .tileDramErr (fun f x => (f.col x).uncorrSectors * 2 ^ 16 + (f.col x).corrSectors)
    (fun f x => f.setCol x { f.col x with uncorrSectors := 0, corrSectors := 0 })

/-- BSN_HOST_ERR, BSN_HOST_APT_ERR, BSN_BARGE_ERR, BSN_TS_LAUNCH_ERR, T2_ERR, LNK_FENCE_ERR, LNK_ERR and LNK_EVENTS of a link,
NET_COLL_ERR, NET_PORT_ERR of a port, PWR_SLUICE_CNT, PWR_FIXED_CNT and BSN_ERR_CNT give the PF their counts and clear them and nothing
else; a second read gives 0; another function reads 0 and clears nothing. CTX_ERR does so for the PF and the function of its context. -/
def Obligations.BasinCountersReadAndClear : Prop :=
  ReadClears .bsnHostErr (fun d => d.host.lateCpl * 2 ^ 16 + d.host.discCpl) (fun d => { d with host := { d.host with lateCpl := 0, discCpl := 0 } }) ∧
  ReadClears .bsnHostAptErr (fun d => d.host.aptPoison * 2 ^ 16 + d.host.aptPartial)
    (fun d => { d with host := { d.host with aptPoison := 0, aptPartial := 0 } }) ∧
  ReadClears .bsnBargeErr (fun d => d.svc.poisonMoves * 2 ^ 16 + d.svc.t2Fallbacks)
    (fun d => { d with svc := { d.svc with poisonMoves := 0, t2Fallbacks := 0 } }) ∧
  ReadClears .bsnTsLaunchErr (fun d => d.svc.launchFaults * 2 ^ 16 + d.svc.replays)
    (fun d => { d with svc := { d.svc with launchFaults := 0, replays := 0 } }) ∧
  ReadClears .t2Err (fun d => d.lnk.t2.poisonRd * 2 ^ 16 + d.lnk.t2.timeouts)
    (fun d => { d with lnk := { d.lnk with t2 := { d.lnk.t2 with poisonRd := 0, timeouts := 0 } } }) ∧
  ReadClears .lnkFenceErr (fun d => d.lnk.fenceDrops) (fun d => { d with lnk := { d.lnk with fenceDrops := 0 } }) ∧
  (∀ n : LinkId, ReadClears (fun f => .lnkErr f n) (fun d => (d.link n).replays * 2 ^ 16 + (d.link n).crcErrs)
    (fun d => d.setLink n { d.link n with replays := 0, crcErrs := 0 })) ∧
  (∀ n : LinkId, ReadClears (fun f => .lnkEvents f n) (fun d => (d.link n).retrains * 2 ^ 24 + (d.link n).mapChanges * 2 ^ 16 + (d.link n).dupFlits)
    (fun d => d.setLink n { d.link n with retrains := 0, mapChanges := 0, dupFlits := 0 })) ∧
  ReadClears .netCollErr (fun d => d.net.opsFailed * 2 ^ 16 + d.net.msgDropped) (fun d => { d with net := { d.net with opsFailed := 0, msgDropped := 0 } }) ∧
  (∀ n : PortId, ReadClears (fun f => .netPortErr f n) (fun d => (d.port n).fecUncorr * 2 ^ 16 + (d.port n).rxDrop)
    (fun d => d.setPort n { d.port n with fecUncorr := 0, rxDrop := 0 })) ∧
  ReadClears .pwrSluiceCnt (fun d => d.pwr.alertCuts * 2 ^ 16 + d.pwr.ocCuts) (fun d => { d with pwr := { d.pwr with alertCuts := 0, ocCuts := 0 } }) ∧
  ReadClears .pwrFixedCnt (fun d => d.pwr.departs) (fun d => { d with pwr := { d.pwr with departs := 0 } }) ∧
  (∀ s : State,
    Yields (.bsnErrCnt 0) s (fun u => u = { s.bump with
      agg := { s.agg with logLost := 0, overflows := 0 }
      d := { s.d.bump with out := s.d.out ++ [Out.regValue (s.agg.logLost * 2 ^ 16 + s.agg.overflows)] } }) ∧
    (∀ f : FuncId, f ≠ 0 → Yields (.bsnErrCnt f) s (fun u => u = { s.bump with d := { s.d.bump with out := s.d.out ++ [Out.regValue 0] } }))) ∧
  (∀ (s : State) (f : FuncId) (c : CtxId),
    (s.d.sees f c = true → Yields (.ctxErr f c) s (fun u => u = { s.bump with d := { s.d.bump.setCtx c { s.d.ctx c with evLost := 0, dbDropped := 0 } with
      out := s.d.out ++ [Out.regValue ((s.d.ctx c).evLost * 2 ^ 16 + (s.d.ctx c).dbDropped)] } })) ∧
    (s.d.sees f c = false → Yields (.ctxErr f c) s (fun u => u = { s.bump with d := { s.d.bump with out := s.d.out ++ [Out.regValue 0] } })))

/-- A write of 4 bytes at a multiple of 4, or of 8 bytes at a multiple of 8 as two writes with the lower address first, is carried out;
any other, and any write by a function that is not present, is discarded. A plain register of the map written by the PF holds the written
bits of its mask and 0 elsewhere, and every other register what it held. A window of a tile that is absent, or whose half is not up, takes
no write; one that is there holds TILE_SEM_TIMEOUT. A group that is not OFF, a queue pair that is not in RESET and a context that is not
DISABLED take no write of their records. In configuration space (whose bit layout the model takes from PCI Express) a function sets its
completion timeout and its ACS bits and clears AER status by ones, and the PF the payload and read request sizes; under PERST_N it takes
no write. -/
def Obligations.RegisterWritesByTheMap : Prop :=
  (∀ (s : State) (f : FuncId) (off size : Nat) (v : BitVec 64),
    s.d.funcOn f = false ∨ ¬ ((size = 4 ∧ off % 4 = 0) ∨ (size = 8 ∧ off % 8 = 0)) →
    Yields (.registerWrite f (.bar0 off) size v) s (Thereafter s.bump)) ∧
  (∀ (s : State) (f : FuncId) (off : Nat) (v : BitVec 64), s.d.funcOn f = true → off % 8 = 0 →
    Yields (.registerWrite f (.bar0 off) 8 v) s
      (Thereafter ((s.bump.write32 f off (v.setWidth 32)).write32 f (off + 4) ((v >>> 32).setWidth 32)))) ∧
  (∀ (s : State) (r : PlainReg) (v : BitVec 64), plainReg r.off = some r → Yields (.registerWrite 0 (.bar0 r.off) 4 v) s (fun u =>
    u.d.reg u.fuse r.off = (v.setWidth 32 &&& BitVec.ofNat 32 r.mask).toNat ∧ (∀ o : Nat, o ≠ r.off → u.d.reg u.fuse o = s.d.reg s.fuse o) ∧
    (r.off ≠ 0x50000C → r.off ≠ 0x201010 → Thereafter { s.bump with d := s.d.bump.putReg r.off (v.setWidth 32 &&& BitVec.ofNat 32 r.mask).toNat } u))) ∧
  (∀ (s : State) (t : TileId) (v : BitVec 64),
    (s.d.tileTakes t = false → ∀ o : Nat, o < 0x8000 → o % 4 = 0 → Yields (.registerWrite 0 (.bar0 (0xC00000 + 0x8000 * t.val + o)) 4 v) s (Thereafter s.bump)) ∧
    (s.d.tileTakes t = true → Yields (.registerWrite 0 (.bar0 (0xC00000 + 0x8000 * t.val + 0x100)) 4 v) s (fun u =>
      u.d.reg u.fuse (0xC00000 + 0x8000 * t.val + 0x100) = (v.setWidth 32 : Word).toNat ∧
      Thereafter { s.bump with d := s.d.bump.putReg (0xC00000 + 0x8000 * t.val + 0x100) (v.setWidth 32 : Word).toNat } u))) ∧
  (∀ (s : State) (g : GroupId) (o : Nat) (v : BitVec 64), (s.d.group g).gstate ≠ 0 → 0 < o → o < 0x400 → o % 4 = 0 →
    Yields (.registerWrite 0 (.bar0 (0x240000 + 0x400 * g.val + o)) 4 v) s (Thereafter s.bump)) ∧
  (∀ (s : State) (q : QpId) (k : Nat) (v : BitVec 64), (s.d.qp q).state ≠ 0 → 0 < k → k < 16 →
    Yields (.registerWrite 0 (.bar0 (0x280000 + 64 * q.val + 4 * k)) 4 v) s (Thereafter s.bump)) ∧
  (∀ (s : State) (c : CtxId) (k : Nat) (v : BitVec 64), (s.d.ctx c).phase ≠ .disabled → 0 < k → k < 0x800 →
    Yields (.registerWrite 0 (.bar0 (0x1C00000 + 0x2000 * c.val + 4 * k)) 4 v) s (Thereafter s.bump)) ∧
  (∀ (s : State) (f : FuncId) (r : CfgReg) (size : Nat) (v : BitVec 64),
    let now := fun (n : CfgSt) => Thereafter { s.bump with d := s.d.bump.setCfg f n }
    (s.d.funcOn f = false ∨ s.d.host.perst = true → Yields (.registerWrite f (.config r) size v) s (Thereafter s.bump)) ∧
    (s.d.funcOn f = true → s.d.host.perst = false →
      (r = .deviceControl2 → Yields (.registerWrite f (.config r) size v) s (now { s.d.cfg f with cto := v.toNat % 16 })) ∧
      (r = .acsControl → Yields (.registerWrite f (.config r) size v) s (now { s.d.cfg f with acs := Nat.land v.toNat 0x6C })) ∧
      (r = .aerStatus → Yields (.registerWrite f (.config r) size v) s
        (now { s.d.cfg f with aer := Nat.xor (s.d.cfg f).aer (Nat.land (s.d.cfg f).aer v.toNat) })) ∧
      (r = .deviceControl → f = 0 → Yields (.registerWrite f (.config r) size v) s
        (now { s.d.cfg f with mps := Nat.min 512 (128 * 2 ^ (v.toNat / 2 ^ 5 % 8)), mrrs := Nat.min 4096 (128 * 2 ^ (v.toNat / 2 ^ 12 % 8)) })) ∧
      (r = .deviceControl → f ≠ 0 → Yields (.registerWrite f (.config r) size v) s (Thereafter s.bump))))

/-- ROW_TRANSFER: the arriving requests enter the queue, or wait where their class is full, so that no class holds more than its share and
none is lost; a slot passes, and at most one request is granted, never one behind an earlier request to its row or for a busy bank, which
it makes busy for 40 ns at least. A granted write puts its data into the sectors of its mask, free of errors, and into no other; a granted
read changes no sector but by the errors met. With none granted only queue and slot have changed. REFRESH_BURST moves the bank to its next
of 388 bursts and makes it busy for 200 ns, while the array is up. CONTROL_TEMPERATURE_UPDATE takes the last message: each layer holds its
temperature, and above 85.0 °C the fast interval. REFRESH_RELAX ends it after 1 s at or below 83 °C; TEMPERATURE_UPDATE_TIMEOUT marks a
layer silent for 1 s. -/
def Obligations.ChannelTransfersAndRefresh : Prop :=
  (∀ (s : State) (x : SiteIx) (arr : List RowReq) (errs : List SymErr),
    let c := (s.d.fab.col x).admitReqs arr
    (∀ (g : Grant) (r : RowReqRec), (s.d.fab.col x).phase = .ready → grant c = some g → c.queue[g.place]? = some r →
      (∀ (j : Nat) (q : RowReqRec), j < g.place → c.queue[j]? = some q → q.ri ≠ r.ri) ∧ tget c.busy 0 (physBank (c.phys r.ri)) ≤ c.ps ∧
      Yields (.rowTransfer x arr errs) s (fun u =>
        let left := ({ c with queue := c.queue.eraseIdx g.place }).refill
        (u.d.fab.col x).queue = left.queue ∧ (u.d.fab.col x).waiting = left.waiting ∧
        (u.d.fab.col x).slots = c.slots + 1 ∧ (u.d.fab.col x).rr = g.rr ∧ (u.d.fab.col x).stepRr = g.stepRr ∧
        c.ps + 40000 ≤ tget (u.d.fab.col x).busy 0 (physBank (c.phys r.ri)) ∧
        (r.write = false → (u.d.fab.col x).cells = (Stuck c r.ri errs).cells ∧ (u.d.fab.col x).xfers = c.xfers + 1) ∧
        (r.write = true → ∀ k : Nat,
          (k / 16 = r.ri → bit r.mask (k % 16) = true → (u.d.fab.col x).sector k =
            { data := r.data.getD (((List.range 16).filter (bit r.mask)).idxOf (k % 16)) 0, poison := r.poison, err := 0 }) ∧
          (k / 16 = r.ri → bit r.mask (k % 16) = false → ((u.d.fab.col x).sector k).data = (c.sector k).data ∧
            ((u.d.fab.col x).sector k).poison = (c.sector k).poison) ∧
          (c.phys (k / 16) ≠ c.phys r.ri → (u.d.fab.col x).sector k = c.sector k)) ∧
        (∀ y : SiteIx, y ≠ x → u.d.fab.site y = s.d.fab.site y ∧ u.d.fab.col y = s.d.fab.col y) ∧
        { u.d.fab.site x with tags := [] } = { s.d.fab.site x with tags := [] } ∧
        u.d = { s.d with fab := u.d.fab, lkk := { s.d.lkk with mig := u.d.lkk.mig } })) ∧
    ((s.d.fab.col x).phase ≠ .ready ∨ grant c = none → Yields (.rowTransfer x arr errs) s (fun u =>
      ((s.d.fab.col x).phase ≠ .ready → u.d.fab.col x = c) ∧ ((s.d.fab.col x).phase = .ready → u.d.fab.col x = c.passSlot (s.d.fab.site x).flim) ∧
      (∀ y : SiteIx, y ≠ x → u.d.fab.col y = s.d.fab.col y) ∧ u.d.fab.sites = s.d.fab.sites))) ∧
  (∀ (c : Column) (r : RowReqRec), (c.enqueue r).queue.length + (c.enqueue r).waiting.length = c.queue.length + c.waiting.length + 1 ∧
    c.refill.queue.length + c.refill.waiting.length = c.queue.length + c.waiting.length ∧
    (∀ k : Nat, InClass c.queue k ≤ classCap k → InClass (c.enqueue r).queue k ≤ classCap k ∧ InClass c.refill.queue k ≤ classCap k)) ∧
  (∀ (s : State) (x : SiteIx) (b : Fin 128), Yields (.refreshBurst x b) s (fun u =>
    ((s.d.fab.col x).phase = .down → u = s.bump) ∧
    ((s.d.fab.col x).phase ≠ .down → tget (u.d.fab.col x).burst 0 b.val = (tget (s.d.fab.col x).burst 0 b.val + 1) % 388 ∧
      (∀ k : Nat, k ≠ b.val → tget (u.d.fab.col x).burst 0 k = tget (s.d.fab.col x).burst 0 k) ∧
      tget (u.d.fab.col x).busy 0 b.val = Nat.max (tget (s.d.fab.col x).busy 0 b.val) (s.d.fab.col x).ps + 200000 ∧
      (∀ k : Nat, k ≠ b.val → tget (u.d.fab.col x).busy 0 k = tget (s.d.fab.col x).busy 0 k) ∧
      u.d.fab.col x = { s.d.fab.col x with burst := (u.d.fab.col x).burst, busy := (u.d.fab.col x).busy }) ∧ OnlyColumn s u x)) ∧
  (∀ (s : State) (x : SiteIx), Yields (.controlTemperatureUpdate x) s (fun u =>
    (tget s.d.fab.tempMsgs [] x.val = [] → u = s.bump) ∧
    (∀ (i : Fin 8) (t : Int), (tget s.d.fab.tempMsgs [] x.val)[i.val]? = some t →
      ((u.d.fab.col x).layers[i]).temp = t ∧ ((u.d.fab.col x).layers[i]).stale = false ∧
      ((u.d.fab.col x).layers[i]).fast = (((s.d.fab.col x).layers[i]).fast || decide (680 < t)) ∧
      tget u.d.fab.tempMsgs [] x.val = []) ∧
    (u.d.fab.col x).cells = (s.d.fab.col x).cells ∧ (∀ y : SiteIx, y ≠ x → u.d.fab.col y = s.d.fab.col y) ∧ u.d.fab.sites = s.d.fab.sites ∧ OnlyFabric s u)) ∧
  (∀ (s : State) (x : SiteIx) (i : Fin 8), Yields (.refreshRelax x i) s (fun u =>
    let old := (s.d.fab.col x).layers[i]
    (∀ n : Nat, old.coolSince = some n → n + 1000000 ≤ blockTicks s.time (.channelRoot x) → (u.d.fab.col x).layers[i] = { old with fast := false }) ∧
    ((∀ n : Nat, old.coolSince = some n → blockTicks s.time (.channelRoot x) < n + 1000000) → u = s.bump) ∧
    (∀ j : Fin 8, j ≠ i → (u.d.fab.col x).layers[j] = (s.d.fab.col x).layers[j]) ∧ (u.d.fab.col x).cells = (s.d.fab.col x).cells ∧ OnlyColumn s u x)) ∧
  (∀ (s : State) (x : SiteIx) (i : Fin 8), Yields (.temperatureUpdateTimeout x i) s (fun u =>
    let old := (s.d.fab.col x).layers[i]
    (old.updated + 1000000 ≤ blockTicks s.time (.channelRoot x) → (u.d.fab.col x).layers[i] = { old with stale := true }) ∧
    (blockTicks s.time (.channelRoot x) < old.updated + 1000000 → u = s.bump) ∧
    (∀ j : Fin 8, j ≠ i → (u.d.fab.col x).layers[j] = (s.d.fab.col x).layers[j]) ∧ (u.d.fab.col x).cells = (s.d.fab.col x).cells ∧ OnlyColumn s u x))

/-- DREDGER_SCRUB of a ready column, where the arbiter has a slot for it, scrubs the hinted row, or the row at the lap position (a spare
row in use as the row for which it stands, one not in use against its test pattern, which it writes again): a sector read as correctable
is stored anew without error, the sectors held in other physical rows stay, and the hint is used up or the position moves on. Without a
slot nothing happens. ROW_REPAIR with a free spare puts an entry of the bank into the row table, stores the row without errors and reports
0x0202; with none left it reports 0x0203. COLUMN_REPAIR with a free spare turns dual writing on (while another repair goes on it stays
due), and COLUMN_REPAIR_COMPLETE turns it off with an entry in the column table, after two transfers for each of the 3,104 rows.
SPARE_LANE_TEST of a pending repair shifts the lane to its spare when it passes; when it fails, the spare is bad, and with none left the
lane is dead. -/
def Obligations.DredgerAndRepairs : Prop :=
  (∀ (s : State) (x : SiteIx) (errs : List SymErr), (s.d.fab.col x).phase = .ready →
    let slot := dredgeSlot s.env (s.d.fab.site x).flim (blockTicks s.time (.channelRoot x)) (s.d.fab.col x)
    (slot = none → exec (.dredgerScrub x errs) s = .next s.bump) ∧
    (∀ c : Column, slot = some c → Yields (.dredgerScrub x errs) s (fun u =>
    let row := c.hint.orElse (fun _ => if c.pos < 393216 then some c.pos else c.rowOfSpare (c.pos - 393216))
    (∀ (ri j : Nat) (q : SecRead), row = some ri →
      ((s.d.bump.fab.setCol x (Stuck c ri errs)).readRow s.env x 0 ri (Passing errs)).2[j]? = some q →
      q.outcome = 3 ∨ q.outcome = 4 → (u.d.fab.col x).sector (16 * ri + j) = { data := q.data, poison := q.poison, err := 0 }) ∧
    (row = none → ∀ j : Nat, j < 16 → (u.d.fab.col x).physSector c.pos j = patternSector) ∧
    (∀ k : Nat, c.phys (k / 16) ≠ (match row with | some ri => c.phys ri | none => c.pos) → (u.d.fab.col x).sector k = c.sector k) ∧
    (c.hint.isSome = true → (u.d.fab.col x).hint = none ∧ (u.d.fab.col x).pos = c.pos) ∧
    (c.hint = none → (u.d.fab.col x).pos = (if c.pos + 1 = 397312 then 0 else c.pos + 1)) ∧ OnlyColumn s u x))) ∧
  (∀ (s : State) (x : SiteIx) (b : Fin 128) (row : Fin 3072), (s.d.fab.col x).phase = .ready → Yields (.rowRepair x b row) s (fun u =>
    let c := s.d.fab.col x
    let ri := row.val * 128 + b.val % 16 * 8 + b.val / 16
    ri ∉ (u.d.fab.col x).rowDue ∧
    (∀ sp i : Nat, c.freeRowSpare b.val row.val = some (sp, i) →
      tget (u.d.fab.col x).rowRep 0 (32 * b.val + i) = BitVec.ofNat 32 (row.val + sp * 2 ^ 12 + 2 ^ 30 + 2 ^ 31) ∧
      (∀ k : Nat, k ≠ 32 * b.val + i → tget (u.d.fab.col x).rowRep 0 k = tget c.rowRep 0 k) ∧
      (∀ j : Nat, j < 16 → ((u.d.fab.col x).sector (16 * ri + j)).err = 0) ∧
      (∀ k : Nat, k / 16 < 393216 → c.phys (k / 16) ≠ c.phys ri → (u.d.fab.col x).sector k = c.sector k) ∧
      Tells s u 0x0202 (.dram x ri 0)) ∧
    (c.freeRowSpare b.val row.val = none → (u.d.fab.col x).exhausted = true ∧ (u.d.fab.col x).cells = c.cells ∧ Tells s u 0x0203 (.dram x ri 0)) ∧
    OnlyColumn s u x)) ∧
  (∀ (s : State) (x : SiteIx) (b : Fin 128) (bb : Fin 1152), (s.d.fab.col x).phase = .ready → (s.d.fab.col x).dual = none →
    Yields (.columnRepair x b bb) s (fun u =>
      ((s.d.fab.col x).freeColSpare b.val bb.val ≠ none → (u.d.fab.col x).dual = some (b.val, bb.val)) ∧
      ((s.d.fab.col x).freeColSpare b.val bb.val = none → (u.d.fab.col x).exhausted = true ∧ (u.d.fab.col x).dual = none ∧
        Tells s u 0x0203 (.dram x (riOf b.val 0) (bb.val % 16))) ∧
      (b.val, bb.val) ∉ (u.d.fab.col x).colDue ∧ (u.d.fab.col x).cells = (s.d.fab.col x).cells ∧ OnlyColumn s u x)) ∧
  (∀ (s : State) (x : SiteIx) (b : Fin 128) (bb : Fin 1152), (s.d.fab.col x).phase = .ready → (s.d.fab.col x).dual ≠ none →
    Yields (.columnRepair x b bb) s (fun u => (b.val, bb.val) ∈ (u.d.fab.col x).colDue ∧ (u.d.fab.col x).dual = (s.d.fab.col x).dual ∧
      (u.d.fab.col x).cells = (s.d.fab.col x).cells ∧ OnlyColumn s u x)) ∧
  (∀ (s : State) (x : SiteIx) (b : Fin 128) (bb sp i : Nat), (s.d.fab.col x).dual = some (b.val, bb) → (s.d.fab.col x).freeColSpare b.val bb = some (sp, i) →
    Yields (.columnRepairComplete x b) s (fun u => (u.d.fab.col x).dual = none ∧ (s.d.fab.col x).xfers + 6208 ≤ (u.d.fab.col x).xfers ∧
      tget (u.d.fab.col x).colRep 0 (8 * b.val + i) = BitVec.ofNat 32 (bb + sp * 2 ^ 11 + 2 ^ 30 + 2 ^ 31) ∧
      (∀ k : Nat, k ≠ 8 * b.val + i → tget (u.d.fab.col x).colRep 0 k = tget (s.d.fab.col x).colRep 0 k) ∧
      Tells s u 0x0202 (.dram x (riOf b.val 0) (bb % 16)) ∧ OnlyColumn s u x)) ∧
  (∀ (s : State) (x : SiteIx) (b : Fin 8) (g : Fin 144) (pass : Bool) (t : LaneTest),
    (s.d.fab.col x).laneTests.find? (fun q => q.boundary = b.val && q.group = g.val) = some t → Yields (.spareLaneTest x b g pass) s (fun u =>
      let l := (s.d.fab.col x).lane b.val g.val
      (pass = true → (u.d.fab.col x).lane b.val g.val = { l with shifted := l.shifted ++ [t.lane] } ∧
        (u.d.fab.col x).laneTests = (s.d.fab.col x).laneTests.erase t ∧
        Tells s u 0x0202 (.tsvLane x b.val g.val t.lane)) ∧
      (pass = false → 1 < l.sparesLeft → (u.d.fab.col x).lane b.val g.val = { l with sparesBad := l.sparesBad + 1 } ∧
        (u.d.fab.col x).laneTests = (s.d.fab.col x).laneTests) ∧
      (pass = false → l.sparesLeft ≤ 1 → (u.d.fab.col x).lane b.val g.val = { l with sparesBad := l.sparesBad + 1, dead := l.dead ++ [t.lane] } ∧
        (u.d.fab.col x).laneTests = (s.d.fab.col x).laneTests.erase t ∧ (u.d.fab.col x).exhausted = true ∧ Tells s u 0x0203 (.tsvLane x b.val g.val t.lane)) ∧
      (u.d.fab.col x).cells = (s.d.fab.col x).cells ∧ OnlyColumn s u x))

/-- LANE_TRAINING_DONE of a training column that can be used (two of three control lanes work) starts its fill with every layer at the
fast interval; one that cannot is unusable, and once the maps are written its tile leaves it as a dead site. COLUMN_FILL_DONE leaves every
sector a poison record UNINITIALISED and takes requests; REPAIR_TABLE_RELOAD takes them again with its contents and valid entries kept;
accesses held for them are then made in order. A read of the stack by the PF returns the bytes and names the poisoned 64-byte units, all
of them for an absent tile, waits while the column fills, and a bad one (another function, no map, no length, a hole) is an Unsupported
Request. A write of whole 64-byte sectors stores them, or HOST_POISON records where EP is set; one into a hole, a fenced half or an absent
tile is reported as 0x0206, and so is one that covers a sector in part, which changes no memory and is counted. -/
def Obligations.ColumnsComeUpAndTheHostReachesThem : Prop :=
  (∀ (s : State) (x : SiteIx) (bad : List LaneLoc) (ok : Bool), (s.d.fab.col x).phase = .training → Yields (.laneTrainingDone x bad ok) s (fun u =>
    let ctl := ctlBad (bad ++ s.fuse.lanesOf x)
    let gone := s.d.bump.onFab (fun f => f.setCol x { s.d.fab.col x with phase := .unusable, ctlLanes := ctl })
    let after : Dev := if s.d.fab.mapWritten = false then gone
      else match s.d.fab.tileOf x with
        | some t => gone.startMig s.env t true 0x0103
        | none => gone.declareBad x 0x0103
    (ok = false ∨ ctlOk ctl = false → Thereafter { s.bump with d := after } u) ∧
    (ok = true → ctlOk ctl = true → (u.d.fab.col x).phase = .filling ∧ (∀ i : Fin 8, ((u.d.fab.col x).layers[i]).fast = true) ∧
      (u.d.fab.col x).cells = (s.d.fab.col x).cells ∧ (∀ y : SiteIx, y ≠ x → u.d.fab.col y = s.d.fab.col y) ∧ u.d.fab.sites = s.d.fab.sites))) ∧
  (∀ (s : State) (x : SiteIx), (s.d.fab.col x).phase = .filling → s.d.host.aptHeld = [] → Yields (.columnFillDone x) s (fun u => (u.d.fab.col x).phase = .ready ∧
    (u.d.fab.col x).pos = 0 ∧ (∀ k : Nat, k / 16 < 393216 → (u.d.fab.col x).sector k =
      { data := poisonRec .uninitialised (((s.d.fab.tileOf x).map (·.val)).getD 0) 2 (nowNs s.time), poison := true, err := 0 }) ∧
    (∀ y : SiteIx, y ≠ x → u.d.fab.col y = s.d.fab.col y) ∧ u.d.fab.sites = s.d.fab.sites)) ∧
  (∀ (s : State) (x : SiteIx), (s.d.fab.col x).phase = .reloading → s.d.host.aptHeld = [] → Yields (.repairTableReload x) s (fun u =>
    (u.d.fab.col x).phase = .ready ∧ (u.d.fab.col x).pos = 0 ∧ (u.d.fab.col x).lapFrom = blockTicks s.time (.channelRoot x) ∧
    (u.d.fab.col x).cells = (s.d.fab.col x).cells ∧ (u.d.fab.col x).fill = (s.d.fab.col x).fill ∧
    (∀ k : Nat, (tget (s.d.fab.col x).rowRep 0 k).getLsbD 31 = true → tget (u.d.fab.col x).rowRep 0 k = tget (s.d.fab.col x).rowRep 0 k) ∧
    (∀ k : Nat, (tget (s.d.fab.col x).colRep 0 k).getLsbD 31 = true → tget (u.d.fab.col x).colRep 0 k = tget (s.d.fab.col x).colRep 0 k) ∧
    (∀ y : SiteIx, y ≠ x → u.d.fab.col y = s.d.fab.col y) ∧ u.d.fab.sites = s.d.fab.sites)) ∧
  (∀ (s : State) (x : SiteIx),
    ((s.d.fab.col x).phase = .filling → Yields (.columnFillDone x) s
      (Thereafter { s.bump with d := (s.d.bump.onFab (fun f => f.fillDone s.env x)).resumeApt s.env })) ∧
    ((s.d.fab.col x).phase = .reloading → Yields (.repairTableReload x) s
      (Thereafter { s.bump with d := (s.d.bump.reloadColumn s.env x).resumeApt s.env }))) ∧
  (∀ (s : State) (f : FuncId) (addr len : Nat) (ups : List DramUpset),
    (f ≠ 0 ∨ s.d.fab.mapValid = false ∨ len = 0 ∨ 4096 < len ∨ inHole addr len = true →
      Yields (.hostApertureRead f addr len ups) s (fun u => u = { s.bump with d := { s.d.bump with out := s.d.out ++ [.unsupported] } })) ∧
    (f = 0 → s.d.fab.mapValid = true → 0 < len → len ≤ 4096 → inHole addr len = false → s.d.fab.fenced[tileHalf (stackTile addr)] = false →
      (s.d.colHolds (stackTile addr) = true → Yields (.hostApertureRead f addr len ups) s (fun u =>
        u = { s.bump with d := s.d.bump.holdApt (.read f addr len) })) ∧
      (s.d.colHolds (stackTile addr) = false → Yields (.hostApertureRead f addr len ups) s (fun u =>
        ∃ (bs : List Byte) (ep : List Nat), u.d.out = s.d.out ++ [.aperture bs ep] ∧
          (s.d.fab.accessSite (stackTile addr) = none → ∀ i : Nat, i < len → (stackOff addr + i) / 64 - stackOff addr / 64 ∈ ep) ∧
          (∀ x : SiteIx, s.d.fab.accessSite (stackTile addr) = some x →
            let k := stackOff addr / 64
            let n := (stackOff addr + len + 63) / 64 - k
            let rows := (List.range ((k + n + 15) / 16 - k / 16)).map (fun i => k / 16 + i)
            let got := (((s.d.bump.fab.setCol x ((s.d.fab.col x).upsets ups)).readRows s.env x 1 rows).2.flatMap id).drop (k % 16)
            ∀ (i : Nat) (q : SecRead), i < len → got[(stackOff addr + i) / 64 - k]? = some q →
              (q.poison = false → q.outcome ≠ 5 → bs[i]? = some ((sectorBytes q.data).getD ((stackOff addr + i) % 64) 0)) ∧
              (q.poison = true ∨ q.outcome = 5 → (stackOff addr + i) / 64 - k ∈ ep)) ∧
          (∀ y : SiteIx, { u.d.fab.site y with tags := [] } = { s.d.fab.site y with tags := [] }))))) ∧
  (∀ (s : State) (addr : Nat) (bs : List Byte) (ep : Bool) (x : SiteIx), s.d.fab.mapValid = true → bs ≠ [] →
    let stands := stackOff addr % 64 = 0 ∧ bs.length % 64 = 0 ∧ inHole addr bs.length = false ∧ s.d.fab.fenced[tileHalf (stackTile addr)] = false
    let mine := fun (k : Nat) => stackOff addr / 64 ≤ k ∧ k < stackOff addr / 64 + bs.length / 64
    (stands → s.d.colHolds (stackTile addr) = true → Yields (.hostApertureWrite 0 addr bs ep) s (fun u =>
      u = { s.bump with d := s.d.bump.holdApt (.write 0 addr bs ep) })) ∧
    (stands → s.d.colHolds (stackTile addr) = false → s.d.fab.accessSite (stackTile addr) = some x → Apart (s.d.fab.col x) →
      Yields (.hostApertureWrite 0 addr bs ep) s (fun u =>
        (∀ k : Nat, mine k → (u.d.fab.col x).sector k =
            if ep then { data := poisonRec .hostPoison (stackTile addr).val 4 (nowNs s.time), poison := true, err := 0 }
            else { data := bytesSector (bs.drop (64 * (k - stackOff addr / 64))), poison := false, err := 0 }) ∧
        ((s.d.fab.col x).queue = [] → (∀ k : Nat, k / 16 < 393216 → ¬ mine k → ((u.d.fab.col x).sector k).data = ((s.d.fab.col x).sector k).data ∧
          ((u.d.fab.col x).sector k).poison = ((s.d.fab.col x).sector k).poison) ∧ u.d.fab.reports = s.d.fab.reports) ∧
        u.d.host.aptPoison = (if ep then Nat.min (s.d.host.aptPoison + 1) 0xFFFF else s.d.host.aptPoison) ∧
        (∀ y : SiteIx, y ≠ x → u.d.fab.site y = s.d.fab.site y ∧ u.d.fab.col y = s.d.fab.col y) ∧
        { u.d.fab.site x with tags := [] } = { s.d.fab.site x with tags := [] } ∧ u.d.out = s.d.out)) ∧
    (stackOff addr % 64 = 0 → bs.length % 64 = 0 → inHole addr bs.length = true ∨ s.d.fab.fenced[tileHalf (stackTile addr)] = true ∨
      s.d.fab.accessSite (stackTile addr) = none → Yields (.hostApertureWrite 0 addr bs ep) s (fun u =>
        u.d.fab.sites = s.d.fab.sites ∧ u.d.fab.cols = s.d.fab.cols ∧ u.d.host = s.d.host ∧ Tells s u 0x0206 (.function 0))) ∧
    (stackOff addr % 64 ≠ 0 ∨ bs.length % 64 ≠ 0 → Yields (.hostApertureWrite 0 addr bs ep) s (fun u =>
      u.d.fab.sites = s.d.fab.sites ∧ u.d.fab.cols = s.d.fab.cols ∧ u.d.host.aptPartial = Nat.min (s.d.host.aptPartial + 1) 0xFFFF ∧
      Tells s u 0x0206 (.function 0))))

/-- A GENERATE of a level other than 2 or 1 ends with BAD_LEVEL; one well formed whose slot does not serve ends with BAD_MODEL; one with a
reserved bit set in word 1 ends with BAD_DESC and the offset of that word; each is told by one record and changes nothing else. A good
GENERATE of a serving slot in no fenced half joins the queue with its fields; in a fenced half it ends with HALF_LOST. With CONT it takes
its HELD sequence to PREFILL, ends with SEQ_LIMIT where that is too long, and with NOT_FOUND without one. RELEASE of a HELD sequence of
the context empties its slot, with OK; of any other SEQ_ID it ends with NOT_FOUND. CANCEL by SEQ_ID of a sequence in a launch marks its
end CANCELLED and nothing else of it; of one in no launch it ends it, HELD where HOLD_KV asks and it ends from DECODE and is not SWAPPED;
CANCEL by tag ends the queued requests with that tag. A RUN_GRAPH of a GRAPH entry joins the requests of its slot. -/
def Obligations.RingRequestsAreCheckedAndTaken : Prop :=
  (∀ (s : State) (c : CtxId) (dsn w : Nat), NextIs s c dsn w →
    (fld w 7 0 = 1 → fld w 15 8 ≠ 2 → fld w 15 8 ≠ 1 → Yields (.generate c) s (fun u =>
      Told s u c (plainRec dsn w 0x0B 0 0) ∧ OnlyRing s u c)) ∧
    (fld w 7 0 = 1 → fld w 15 8 = 2 → TakesLevel s 2 → fld w 63 49 ≠ 0 → Yields (.generate c) s (fun u =>
      Told s u c (plainRec dsn w 0x0A 0x04 0) ∧ OnlyRing s u c)) ∧
    (GoodGenerate w → TakesLevel s (fld w 15 8) → Begins w → ¬ ServesTokens s (modelFin (fld w 35 32)) → Yields (.generate c) s (fun u =>
      Told s u c (plainRec dsn w 0x0C 0 0) ∧ OnlyRing s u c)) ∧
    (GoodGenerate w → TakesLevel s (fld w 15 8) → Begins w → ServesTokens s (modelFin (fld w 35 32)) →
      ((s.d.model (modelFin (fld w 35 32))).bind.any (fun t => s.d.fab.fenced[tileHalf t]) = true → Yields (.generate c) s (fun u =>
        Told s u c (plainRec dsn w 0x07 0 0) ∧ OnlyRing s u c)) ∧
      ((∀ t ∈ (s.d.model (modelFin (fld w 35 32))).bind, s.d.fab.fenced[tileHalf t] = false) → NoLost s → Yields (.generate c) s (fun u =>
        ∃ r : GenReq, u.d.svc = { s.d.svc with queue := s.d.svc.queue ++ [r] } ∧ r.ctx = c ∧ r.dsn = dsn ∧ r.prio = fld w 17 16 ∧
          r.method = fld w 19 18 ∧ r.logprob = bit w 20 ∧ r.ignoreEos = bit w 21 ∧ r.holdKv = bit w 22 ∧ r.cont = false ∧
          r.reportEvery = fld w 31 24 ∧ r.model = fld w 35 32 ∧ r.nalt = fld w 39 36 ∧ r.topK = fld w 48 40 ∧ r.tag = fld w 127 64 ∧
          r.promptAddr = fld w 191 128 ∧ r.promptLen = fld w 212 192 ∧ r.maxNew = fld w 244 224 ∧ r.outAddr = fld w 319 256 ∧
          r.temp = fld w 351 320 ∧ r.topP = fld w 383 352 ∧ (fld w 15 8 = 2 → r.minP = fld w 415 384) ∧ (fld w 15 8 = 1 → r.minP = 0) ∧
          r.seed = fld w 511 448 ∧ r.got = [] ∧ OnlyRings s u))) ∧
    (GoodGenerate w → TakesLevel s (fld w 15 8) → bit w 23 = true → ServesTokens s (modelFin (fld w 35 32)) →
      (∀ t ∈ (s.d.model (modelFin (fld w 35 32))).bind, s.d.fab.fenced[tileHalf t] = false) →
      ((∀ (q : SeqSlot) (v : Seq), ¬ IsHeld s c (fld w 447 416) q v) → Yields (.generate c) s (fun u =>
        Told s u c (plainRec dsn w 0x0F 0 0) ∧ OnlyRing s u c)) ∧
      (∀ (q : SeqSlot) (v : Seq), IsHeld s c (fld w 447 416) q v →
        (1048576 ≤ v.tokens + fld w 212 192 → Yields (.generate c) s (fun u => OnlyRing s u c ∧
          Told s u c { plainRec dsn w 0x03 0 0 with seqId := fld w 447 416, tokens := v.tokens, cls := 1 })) ∧
        (v.tokens + fld w 212 192 < 1048576 → NoLost s → Yields (.generate c) s (fun u =>
          u.d.svc.queue = s.d.svc.queue ∧ (∀ p : SeqSlot, p ≠ q → u.d.seq p = s.d.seq p) ∧ OnlyRings s u ∧
          ∃ (v' : Seq) (r : GenReq), u.d.seq q = some v' ∧ v'.phase = .prefill ∧ v'.req = some r ∧ r.ctx = c ∧ r.dsn = dsn ∧
            r.tag = fld w 127 64 ∧ v'.count = 0 ∧ v'.groups = v.groups ∧ v'.gen = v.gen ∧
            (fld w 212 192 = 0 → v'.input = [v.lastToken] ∧ v'.inputPos = v.tokens - 1 ∧ v'.tokens = v.tokens)))))) ∧
  (∀ (s : State) (c : CtxId) (dsn w : Nat), NextIs s c dsn w → fld w 7 0 = 5 → fld w 15 8 = 2 → TakesLevel s 2 → fld w 31 16 = 0 → fld w 511 128 = 0 →
    (∀ (q : SeqSlot) (v : Seq), IsHeld s c (fld w 63 32) q v → Yields (.release c) s (fun u =>
      u.d.seq q = none ∧ tget u.d.svc.gens 0 q.val = (v.gen + 1) % 0x10000 ∧
      (∀ p : SeqSlot, p ≠ q → u.d.seq p = s.d.seq p) ∧
      Told s u c { plainRec dsn w 0 0 0 with seqId := fld w 63 32 } ∧ OnlyRings s u)) ∧
    ((∀ (q : SeqSlot) (v : Seq), ¬ IsHeld s c (fld w 63 32) q v) → Yields (.release c) s (fun u =>
      Told s u c (plainRec dsn w 0x0F 0 0) ∧ OnlyRing s u c))) ∧
  (∀ (s : State) (c : CtxId) (dsn w : Nat), NextIs s c dsn w → fld w 7 0 = 2 → fld w 15 8 = 2 ∨ fld w 15 8 = 1 →
    TakesLevel s (fld w 15 8) → fld w 31 17 = 0 →
    fld w 511 192 = 0 →
    (∀ (q : SeqSlot) (v : Seq), bit w 16 = false → fld w 191 128 = 0 → s.d.seq q = some v → fld w 63 32 = q.val + 0x10000 * v.gen → v.ctx = c →
      v.req.isSome = true → v.kst ≠ 5 →
      (0 < v.inLaunch → Yields (.cancel c) s (fun u =>
        u.d.svc = (s.d.bump.setSeq q (some { v with ending := some (v.ending.getD 0x04) })).svc ∧
        Told s u c { plainRec dsn w 0 0 1 with seqId := fld w 63 32 } ∧ OnlyRings s u)) ∧
      (v.inLaunch = 0 → s.d.undelivered q v.gen = false → Yields (.cancel c) s (fun u =>
        (∀ r, v.req = some r →
          (r.holdKv = true → v.phase = .decode → v.kst ≠ 3 → ∃ v', u.d.seq q = some v' ∧ v'.phase = .held ∧ v'.req = none ∧
            v'.groups = v.groups ∧ v'.tokens = v.tokens) ∧
          (r.holdKv = false ∨ v.phase ≠ .decode ∨ v.kst = 3 → u.d.seq q = none)) ∧
        (∀ p : SeqSlot, p ≠ q → u.d.seq p = s.d.seq p) ∧ OnlyRings s u))) ∧
    (bit w 16 = true → fld w 63 32 = 0 → (∀ p ∈ s.d.liveSeqs, ∀ r, p.2.req = some r → r.ctx = c → r.tag ≠ fld w 191 128) →
      (∀ r ∈ s.d.svc.queue, r.cont = false) → Yields (.cancel c) s (fun u =>
        u.d.svc.queue = s.d.svc.queue.filter (fun r => !(r.ctx == c && (s.d.svc.queue.any (fun x => x.ctx == c && x.dsn == r.dsn &&
          x.tag == fld w 191 128)))) ∧ u.d.svc.seqs = s.d.svc.seqs ∧ OnlyRings s u))) ∧
  (∀ (s : State) (c : CtxId) (dsn w : Nat) (en : Entry), NextIs s c dsn w → fld w 7 0 = 6 → fld w 15 8 = 2 ∨ fld w 15 8 = 1 →
    TakesLevel s (fld w 15 8) → NoLost s → fld w 23 18 = 0 → fld w 63 36 = 0 → fld w 511 320 = 0 →
    let m := modelFin (fld w 35 32)
    (s.d.model m).phase = .loaded → (s.d.model m).failed = false → (s.d.model m).entry (fld w 31 24) = some en → en.kind = 3 →
    fld w 191 128 % 64 = 0 → fld w 223 192 % 64 = 0 → fld w 223 192 ≤ en.inMax → fld w 319 256 % 64 = 0 →
    (∀ t ∈ (s.d.model m).bind, s.d.fab.fenced[tileHalf t] = false) → Yields (.runGraph c) s (fun u =>
      ∃ g : GraphReq, u.d.svc = (s.d.bump.setModel m { s.d.model m with graphs := (s.d.model m).graphs ++ [g] }).svc ∧
        g.ctx = c ∧ g.dsn = dsn ∧ g.prio = fld w 17 16 ∧ g.entry = fld w 31 24 ∧ g.inAddr = fld w 191 128 ∧ g.inLen = fld w 223 192 ∧
        g.outCap = fld w 255 224 ∧ g.outAddr = fld w 319 256 ∧ g.tag = fld w 127 64 ∧ g.cancelled = false ∧
        (g.ready = true ↔ fld w 223 192 = 0) ∧ OnlyRings s u))

/-- KV_EXPORT of a HELD sequence queues one class 3 move for each page of its groups; at level 1 it ends with BAD_LEVEL, with
NOT_PERMITTED where its queue pair may not carry it, and with BUF_SMALL where DEST_CAP is too small. KV_IMPORT of a valid image takes the
lowest EMPTY slot: its pages wait as class 3 moves, or it waits for groups; each page is written with its new owner, and with the last the
sequence is HELD with its tokens and has its DONE; a failed read ends it with HOST_READ_ERROR; without a tag it waits. MODEL_LOAD starts
reading into an empty slot; it ends with NOT_PERMITTED on a VF, with MODEL_BUSY, HOST_READ_ERROR or BAD_IMAGE. MODEL_IMAGE_READ_COMPLETE
binds the tiles of R208 or ends the load. MODEL_ZERO_FILL_COMPLETE leaves zeros in every column of a bound tile. MODEL_COPY_COMPLETE puts
the COLUMN bytes and divides the KV regions; the slot is loaded. MODEL_UNLOAD of a busy slot ends with MODEL_BUSY; with FORCE, or idle,
the slot becomes empty once no launch of it is in flight. -/
def Obligations.ImagesAreExportedImportedAndLoaded : Prop :=
  (∀ (s : State) (c : CtxId) (dsn w : Nat), NextIs s c dsn w → fld w 7 0 = 3 →
    (fld w 15 8 ≠ 2 → s.d.svc.rdma = [] → Yields (.kvExport c) s (fun u => Told s u c (plainRec dsn w 0x0B 0 0) ∧ OnlyRing s u c)) ∧
    (fld w 15 8 = 2 → TakesLevel s 2 → fld w 31 18 = 0 → fld w 287 280 = 0 → fld w 511 320 = 0 → s.d.svc.rdma = [] →
      let r := (tget s.d.net.qps Qp.init (fld w 279 256)).rcd
      let mayWrite := fld w 279 256 < 8192 ∧ fld r 2 0 = 1 ∧ bit r 3 = false ∧ fld r 5 4 = 1 ∧ fld r 27 16 = c.val
      (bit w 16 = true → ¬ mayWrite → Yields (.kvExport c) s (fun u => Told s u c (plainRec dsn w 0x10 0 0) ∧ OnlyRing s u c)) ∧
      (∀ (q : SeqSlot) (v : Seq), (bit w 16 = true → mayWrite) → IsHeld s c (fld w 63 32) q v → fld w 191 128 % 4096 = 0 →
        let img := s.d.imgOf v.model
        let gs := v.groups.take (exportGroups v.tokens img.tp)
        (fld w 255 192 < exportLen img v → Yields (.kvExport c) s (fun u => Told s u c (plainRec dsn w 0x14 0 0) ∧ OnlyRing s u c)) ∧
        (exportLen img v ≤ fld w 255 192 → 0 < gs.length * img.pages → Yields (.kvExport c) s (fun u =>
          OnlyRings s u ∧ u.d.svc.seqs = (s.d.setSeq q (some { v with exporting := true })).svc.seqs ∧ u.d.out = s.d.out ∧
          (∃ x : Export, u.d.svc.exports = s.d.svc.exports ++ [x] ∧ x.ctx = c ∧ x.dsn = dsn ∧ x.seq = q ∧ x.addr = fld w 191 128 ∧
            x.release = bit w 17 ∧ (x.dest = 1 ↔ bit w 16 = true) ∧ x.qpn = fld w 279 256 ∧ x.rkey = fld w 319 288 ∧ x.left = gs.length * img.pages) ∧
          (∃ ms : List Move, u.d.svc.moves = s.d.svc.moves ++ ms ∧
            ms.map (fun m => (m.pos0, m.page)) = gs.flatMap (fun g => (List.range img.pages).map (fun p => (g.pos0, p))) ∧
            ∀ m ∈ ms, m.cls = 3 ∧ m.kind = .export_ ∧ m.seq = q ∧ m.gen = v.gen)))))) ∧
  (∀ (s : State) (c : CtxId) (dsn w : Nat), NextIs s c dsn w → fld w 7 0 = 4 → fld w 15 8 = 2 → TakesLevel s 2 → fld w 31 18 = 0 → fld w 63 36 = 0 →
    fld w 511 256 = 0 → ServesTokens s (modelFin (fld w 35 32)) → fld w 191 128 % 4096 = 0 →
    (∀ t ∈ (s.d.model (modelFin (fld w 35 32))).bind, s.d.fab.fenced[tileHalf t] = false) →
    (∀ img : Option (List Byte), s.d.tagFree s.env (s.d.ctx c).func = false → s.d.ats (s.d.ctx c).func = false → Yields (.kvImport c img) s (fun u =>
      u = s.bump)) ∧
    (ReadsNow s (s.d.ctx c).func → Yields (.kvImport c none) s (fun u => Told s u c (plainRec dsn w 0x0E 0 0) ∧ OnlyRing s u c)) ∧
    (∀ (bs : List Byte) (q : SeqSlot), s.d.importError (fld w 35 32) bs (fld w 255 192) = none → q.val ≤ s.d.svc.seqs.length → s.d.seq q = none →
      (∀ p : SeqSlot, p < q → s.d.seq p ≠ none) → (∀ i ∈ s.d.svc.imports, i.ctx = c → i.dsn ≠ dsn) → ReadsNow s (s.d.ctx c).func →
      let img := s.d.imgOf (fld w 35 32)
      let n := exportGroups (leAt bs 0x10 4 % 2 ^ 21) img.tp
      0 < n * img.pages → Yields (.kvImport c (some bs)) s (fun u =>
        ∃ v : Seq, u.d.seq q = some v ∧ v.phase = .held ∧ v.ctx = c ∧ v.model = fld w 35 32 ∧ v.prio = fld w 17 16 ∧
          v.gen = tget s.d.svc.gens 0 q.val ∧
          ∃ i ∈ u.d.svc.imports, i.ctx = c ∧ i.dsn = dsn ∧ i.seq = some q ∧ i.img = bs ∧
            ((v.groups.length = n ∧ v.exporting = true ∧ i.left = some (n * img.pages) ∧
                ∃ ms : List Move, u.d.svc.moves = s.d.svc.moves ++ ms ∧ ms.length = n * img.pages ∧
                  ∀ m ∈ ms, m.port = .host ∧ m.cls = 3 ∧ m.kind = .import_ ∧ m.seq = q) ∨
              (v.waitFrom.isSome = true ∧ i.left = none))))) ∧
  (∀ (s : State) (n : Nat) (m : Move) (v : Seq) (g : Group) (i : Import) (bs : List Byte) (left : Nat), s.d.pickMove .host = some (n, m) →
    m.kind = .import_ → s.d.seq m.seq = some v → v.gen = m.gen → v.groups.find? (fun g => g.pos0 = m.pos0) = some g →
    s.d.svc.imports.find? (fun i => i.seq = some m.seq) = some i → i.left = some left → s.d.svc.rdma = [] → NoLost s →
    16384 ≤ m.got ∨ ReadsNow s (s.d.ctx v.ctx).func →
    let ge := leAt i.img (0x40 + 16 * v.groups.findIdx (fun x => x.pos0 = g.pos0)) 16
    let page := padTo 16384 (i.img.drop (fld ge 127 64 + 0x4000 * m.page))
    let owned := page.take 12 ++ leBytes 2 m.seq.val ++ leBytes 2 v.gen ++ page.drop 16
    (∀ x : SiteIx, 1 < left → bit ge 27 = false → s.d.fab.accessSite g.tile = some x → Apart (s.d.fab.col x) → 16 * (g.base + m.page + 1) ≤ 393216 →
      Yields (.bargeMoveComplete .host (.done bs [])) s (fun u =>
        (∀ k : Nat, 256 * (g.base + m.page) ≤ k → k < 256 * (g.base + m.page + 1) → (u.d.fab.col x).sector k =
          { data := bytesSector (padTo 64 (owned.drop (64 * (k - 256 * (g.base + m.page))))), poison := false, err := 0 }) ∧
        u.d.svc.seqs = s.d.svc.seqs ∧ ∃ j ∈ u.d.svc.imports, j = { i with left := some (left - 1) })) ∧
    (left = 1 → (s.d.ctx i.ctx).phase = .active → Yields (.bargeMoveComplete .host (.done bs [])) s (fun u =>
      let tokens := leAt i.img 0x10 4 % 2 ^ 21
      (∃ v' : Seq, u.d.seq m.seq = some v' ∧ v'.phase = .held ∧ v'.tokens = tokens ∧ v'.lastToken = leAt i.img 0x14 4 ∧ v'.exporting = false ∧
        v'.gen = v.gen ∧ v'.ctx = v.ctx) ∧ (∀ j ∈ u.d.svc.imports, j.ctx = i.ctx → j.dsn ≠ i.dsn) ∧
      Told s u i.ctx { endRec i.dsn 4 i.tag 0 3 with seqId := seqId m.seq v.gen, tokens := tokens }))) ∧
  (∀ (s : State) (c : CtxId) (dsn w : Nat) (hdr : Option (List Byte)), NextIs s c dsn w → fld w 7 0 = 0x10 →
    let m := modelFin (fld w 19 16)
    ((s.d.ctx c).func ≠ 0 → Yields (.modelLoad c hdr) s (fun u => Told s u c (plainRec dsn w 0x10 0 0) ∧ u.d.svc = s.d.svc ∧ OnlyDevice s u)) ∧
    ((s.d.ctx c).func = 0 → fld w 15 8 = 2 ∨ fld w 15 8 = 1 → TakesLevel s (fld w 15 8) → fld w 31 20 = 0 → fld w 63 32 = 0 → fld w 511 256 = 0 →
      ((s.d.model m).phase ≠ .empty → Yields (.modelLoad c hdr) s (fun u => Told s u c (plainRec dsn w 0x13 0 0) ∧ u.d.svc = s.d.svc)) ∧
      ((s.d.model m).phase = .empty → fld w 191 128 % 4096 = 0 → s.d.tagFree s.env 0 = true →
        (hdr = none → Yields (.modelLoad c hdr) s (fun u => Told s u c (plainRec dsn w 0x0E 0 0) ∧ u.d.svc = s.d.svc)) ∧
        (∀ bs, hdr = some bs → leAt bs 0 4 ≠ 0x4D494C47 → Yields (.modelLoad c hdr) s (fun u =>
          Told s u c (plainRec dsn w 0x11 0 0) ∧ u.d.svc = s.d.svc)) ∧
        (∀ bs, hdr = some bs → headerError s.d.imageLevels bs (fld w 255 192) = none → NoLost s → Yields (.modelLoad c hdr) s (fun u =>
          u.d.svc = (s.d.setModel m { ModelSlot.init with phase := .reading, op := some { ctx := c, dsn := dsn, tag := fld w 127 64, addr := fld w 191 128, len := fld w 255 192 },
                                                          img := some (readImage bs) }).svc ∧
          u.d.fab.sites = s.d.fab.sites ∧ u.d.fab.cols = s.d.fab.cols ∧ OnlyDevice s u))))) ∧
  (∀ (s : State) (m : ModelSlotId) (i : Image) (o : ModelOp) (img : Option (List Byte)), (s.d.model m).phase = .reading →
    (s.d.model m).img = some i → (s.d.model m).op = some o → (s.d.ctx o.ctx).phase = .active →
    o.len ≤ o.got ∨ s.d.reading (.model o.ctx m) = true ∨ s.d.tagFree s.env 0 = true →
    let gone := fun (code : Nat) (u : State) => u.d.svc = (s.d.setModel m ModelSlot.init).svc ∧ Told s u o.ctx (endRec o.dsn 0x10 o.tag code 3)
    (img = none → Yields (.modelImageReadComplete m img) s (gone 0x0E)) ∧
    (∀ bs, img = some bs → bs.length ≠ i.len → Yields (.modelImageReadComplete m img) s (gone 0x11)) ∧
    (∀ bs, img = some bs → imageOk bs i = true →
      let west := s.d.freeTiles 0
      let east := s.d.freeTiles 1
      let bound := fun (ts : List TileId) (u : State) => (u.d.model m).bind = ts ∧ (u.d.model m).phase = .zeroing ∧ (u.d.model m).raw = bs ∧
        (u.d.model m).op = some o ∧ (∀ n : ModelSlotId, n ≠ m → u.d.model n = s.d.model n) ∧ u.d.svc.launches = s.d.svc.launches ∧ u.d.svc.seqs = s.d.svc.seqs
      (i.span = true → s.d.fab.halfUp[(0 : HalfId)] = true → s.d.fab.halfUp[(1 : HalfId)] = true → i.vtiles ≤ (west ++ east).length →
        Yields (.modelImageReadComplete m img) s (bound ((west ++ east).take i.vtiles))) ∧
      (i.span = false → s.d.fab.halfUp[(0 : HalfId)] = true → i.vtiles ≤ west.length →
        Yields (.modelImageReadComplete m img) s (bound (west.take i.vtiles))) ∧
      (i.span = false → s.d.fab.halfUp[(0 : HalfId)] = false ∨ west.length < i.vtiles → s.d.fab.halfUp[(1 : HalfId)] = true → i.vtiles ≤ east.length →
        Yields (.modelImageReadComplete m img) s (bound (east.take i.vtiles))) ∧
      (west.length + east.length < i.vtiles → Yields (.modelImageReadComplete m img) s (gone 0x12)))) ∧
  (∀ (s : State) (m : ModelSlotId), (s.d.model m).phase = .zeroing → s.d.slotReady m = true → Yields (.modelZeroFillComplete m) s (fun u =>
    (∀ t ∈ (s.d.model m).bind, ∀ x : SiteIx, s.d.fab.siteOf t = some x →
      (∀ k : Nat, k / 16 < 393216 → (u.d.fab.col x).sector k = { data := 0, poison := false, err := 0 }) ∧ (u.d.fab.site x).tags = []) ∧
    (∀ x : SiteIx, (∀ t ∈ (s.d.model m).bind, s.d.fab.siteOf t ≠ some x) → u.d.fab.col x = s.d.fab.col x ∧ u.d.fab.site x = s.d.fab.site x) ∧
    u.d.svc = (s.d.setModel m { s.d.model m with phase := .copying }).svc)) ∧
  (∀ (s : State) (m : ModelSlotId), (s.d.model m).phase ≠ .zeroing ∨ s.d.slotReady m = false → Yields (.modelZeroFillComplete m) s (fun u =>
    u.d.svc = s.d.svc ∧ u.d.fab.sites = s.d.fab.sites ∧ u.d.fab.cols = s.d.fab.cols)) ∧
  (∀ (s : State) (m : ModelSlotId) (i : Image) (o : ModelOp), let v := s.d.model m
    v.phase = .copying → v.img = some i → v.op = some o → (s.d.ctx o.ctx).phase = .active → Yields (.modelCopyComplete m) s (fun u =>
      Told s u o.ctx (endRec o.dsn 0x10 o.tag 0 3) ∧ (u.d.model m).phase = .loaded ∧ (u.d.model m).op = none ∧ (u.d.model m).bind = v.bind ∧
      (u.d.model m).entries = imageEntries v.raw i ∧ (∀ n : ModelSlotId, n ≠ m → u.d.model n = s.d.model n) ∧
      (v.bind.Nodup → ((imageKvs v.raw i).map (·.vtile)).Nodup → ∀ k ∈ imageKvs v.raw i, ∀ t, v.bind[k.vtile]? = some t →
        u.d.kvt t = some (divideKv m.val i k)) ∧
      (∀ (n : Nat) (t : TileId) (x : SiteIx) (dest : Nat) (bs : List Byte), v.bind[n]? = some t → s.d.fab.accessSite t = some x →
        Apart (s.d.fab.col x) → (s.d.fab.col x).queue = [] → dest + bs.length ≤ 0x18000000 → (∀ j y, v.bind[j]? = some y → s.d.fab.siteOf y = some x → j = n) → imageColumns v.raw i n = [(dest, bs)] → dest % 64 = 0 → bs.length % 64 = 0 →
        ∀ k : Nat, k / 16 < 393216 → if dest / 64 ≤ k ∧ k < dest / 64 + bs.length / 64 then
            (u.d.fab.col x).sector k = { data := bytesSector (bs.drop (64 * (k - dest / 64))), poison := false, err := 0 }
          else ((u.d.fab.col x).sector k).data = ((s.d.fab.col x).sector k).data ∧
            ((u.d.fab.col x).sector k).poison = ((s.d.fab.col x).sector k).poison))) ∧
  (∀ (s : State) (c : CtxId) (dsn w : Nat), NextIs s c dsn w → fld w 7 0 = 0x11 → (s.d.ctx c).func = 0 → fld w 15 8 = 2 ∨ fld w 15 8 = 1 →
    TakesLevel s (fld w 15 8) → fld w 31 21 = 0 → fld w 63 32 = 0 → fld w 511 128 = 0 →
    let m := modelFin (fld w 19 16)
    ((s.d.model m).phase = .empty → Yields (.modelUnload c) s (fun u => Told s u c (plainRec dsn w 0x0C 0 0) ∧ u.d.svc = s.d.svc)) ∧
    ((s.d.model m).phase = .loaded → bit w 20 = false → s.d.modelBusy m = true → Yields (.modelUnload c) s (fun u =>
      Told s u c (plainRec dsn w 0x13 0 0) ∧ u.d.svc = s.d.svc)) ∧
    ((s.d.model m).phase = .loaded → bit w 20 = true ∨ s.d.modelBusy m = false → NoLost s → Yields (.modelUnload c) s (fun u =>
      (∀ (q : SeqSlot) (v : Seq), s.d.seq q = some v → v.model = m.val → u.d.seq q = none) ∧
      (∀ q : SeqSlot, (∀ p ∈ s.d.liveSeqs, p.1 = q → p.2.model ≠ m.val) → u.d.seq q = s.d.seq q) ∧
      (∀ n : ModelSlotId, n ≠ m → u.d.model n = s.d.model n) ∧
      ((∀ l ∈ s.d.svc.launches, l.model ≠ m) → u.d.model m = ModelSlot.init ∧ (∀ t k, u.d.kvt t = some k → k.model ≠ m.val) ∧
        (s.d.modelBusy m = false → (∀ i ∈ s.d.svc.imports, i.model ≠ m.val) → Told s u c (plainRec dsn w 0 0 0))) ∧
      ((∃ l ∈ s.d.svc.launches, l.model = m) → (u.d.model m).phase = .unloading ∧ (u.d.model m).graphs = []))))

/-- A freed group that no launch names starts its zero fill; when that is complete its sectors hold zeros and it is free again, in its
place among the free groups. An allocation that has waited WAIT_MS with no reclaim possible ends its sequence with KV_EXHAUSTED, an import
likewise; before that the sequence stays. SWAP_OUT of a chosen victim in no launch gives its STACK group of the lowest POS0 a place and
queues class 2 moves for its pages, one group after another, and without room the victim stays RESIDENT; with none left it is SWAPPED.
SWAP_IN and T2_RETURN allocate and queue class 1 reads, above the high mark alone. BARGE_MOVE_COMPLETE takes the first move of the lowest
class on its port, but a class 2 move after seven others; a page that comes back is written into its group, as poison where the read
failed; one of another owner ends its sequence; a page that lands is written into its slice. LANDING_COPY takes one unit of LAND_FREE. -/
def Obligations.GroupsAndPagesMove : Prop :=
  (∀ (s : State) (t : TileId) (b : Nat) (k : KvTile), s.d.kvt t = some k → b ∈ k.freed →
    (s.d.named t b = false → s.d.fab.fenced[tileHalf t] = false → (s.d.fab.siteOf t).isSome = true → Yields (.groupFree t b) s (fun u =>
      u = { s.bump with d := s.d.bump.setKvt t (some { k with freed := k.freed.erase b, filling := k.filling ++ [b] }) })) ∧
    (s.d.named t b = true → Yields (.groupFree t b) s (fun u => u = s.bump))) ∧
  (∀ (s : State) (t : TileId) (b : Nat) (k : KvTile) (x : SiteIx), s.d.kvt t = some k → b ∈ k.filling → s.d.fab.accessSite t = some x →
    s.d.svc.imports = [] → kvMode s.env = false → s.d.svc.spillMode = false →
    let mine := fun (i : Nat) => 256 * b ≤ i ∧ i < 256 * (b + (s.d.imgOf k.model).pages)
    Yields (.groupZeroFillComplete t b) s (fun u =>
      (∀ i : Nat, mine i → (u.d.fab.col x).sector i = { data := 0, poison := false, err := 0 }) ∧
      (Apart (s.d.fab.col x) → (s.d.fab.col x).queue = [] → 16 * (b + (s.d.imgOf k.model).pages) ≤ 393216 →
        ∀ i : Nat, i / 16 < 393216 → ¬ mine i → SameSector s u x i) ∧
      (∃ free : List Nat, u.d.kvt t = some { k with filling := k.filling.erase b, free := free } ∧ List.Perm free (b :: k.free) ∧
        (k.free.Pairwise (· ≤ ·) → free.Pairwise (· ≤ ·))) ∧
      (∀ y : SiteIx, y ≠ x → u.d.fab.col y = s.d.fab.col y) ∧ OnlyService s u)) ∧
  (∀ (s : State) (q : SeqSlot) (v : Seq) (t0 : Nat), s.d.seq q = some v → v.waitFrom = some t0 → v.kst ≠ 5 →
    (t0 + kvWait s.env ≤ svcNow s.env → s.d.noReclaim s.env = true → Yields (.allocationWaitTimeout q) s (fun u =>
      u.d.seq q = none ∧ tget u.d.svc.gens 0 q.val = (v.gen + 1) % 0x10000 ∧ (∀ p : SeqSlot, p ≠ q → u.d.seq p = s.d.seq p) ∧
      (∀ r, v.req = some r → (∀ i ∈ s.d.svc.imports, i.seq ≠ some q) → (s.d.ctx r.ctx).phase = .active →
        Told s u r.ctx { dsn := r.dsn, rtype := 2, endCode := 0x05, opcode := 1, seqId := q.val + 0x10000 * (v.gen % 0x10000), tag := r.tag
                         count := v.count, tokens := v.tokens, detail := 0, cls := 1, last := lastWord r v.count }) ∧
      (∀ i, s.d.svc.imports.find? (fun i => i.seq = some q) = some i → (s.d.ctx i.ctx).phase = .active →
        Told s u i.ctx (endRec i.dsn 4 i.tag 0x05 3)) ∧ OnlyService s u)) ∧
    (svcNow s.env < t0 + kvWait s.env → kvMode s.env = false → s.d.svc.spillMode = false → (∀ p ∈ s.d.liveSeqs, p.1 = q → p.2 = v) → Yields (.allocationWaitTimeout q) s (fun u =>
      (∃ v' : Seq, u.d.seq q = some { v with kst := v'.kst }) ∧ u.d.out = s.d.out ∧ u.d.host = s.d.host ∧ OnlyService s u))) ∧
  (∀ (s : State) (q : SeqSlot) (v : Seq), s.d.seq q = some v → v.kst = 2 → v.inLaunch = 0 →
    let unit := s.d.swapUnit v.model
    ((∃ g ∈ v.groups, g.gst = 1) → Yields (.swapOut q) s (fun u => u = s.bump)) ∧
    ((∀ g ∈ v.groups, g.gst ≠ 1 ∧ g.gst ≠ 2) → s.d.swapRoom v.ctx unit < v.stackGroups.length → Yields (.swapOut q) s (fun u =>
      u = { s.bump with d := s.d.bump.setSeq q (some { v with kst := 1 }) })) ∧
    (∀ (g : Group) (rest : List Group) (n : Nat), (∀ g ∈ v.groups, g.gst ≠ 1) → v.stackGroups = g :: rest →
      v.stackGroups.length ≤ s.d.swapRoom v.ctx unit ∨ (∃ g ∈ v.groups, g.gst = 2) → s.d.freeSwap v.ctx unit = some n → Yields (.swapOut q) s (fun u =>
      (∃ v' : Seq, u.d.seq q = some v' ∧ v'.kst = 2 ∧ v'.groups = v.groups.map (fun h => if h.pos0 = g.pos0 then
        { h with gst := 1, spill := 0x4000 * n, left := (s.d.imgOf v.model).pages } else h)) ∧
      (∃ ms : List Move, u.d.svc.moves = s.d.svc.moves ++ ms ∧ ms.map (·.page) = List.range (s.d.imgOf v.model).pages ∧
        ∀ m ∈ ms, m.port = .host ∧ m.cls = 2 ∧ m.kind = .swapOut ∧ m.seq = q ∧ m.pos0 = g.pos0) ∧
      u.d.svc.swap = s.d.svc.swap ++ [(v.ctx, n, unit)] ∧ u.d.out = s.d.out ∧ (∀ p : SeqSlot, p ≠ q → u.d.seq p = s.d.seq p) ∧ OnlyService s u)) ∧
    ((∀ g ∈ v.groups, g.gst ≠ 0 ∧ g.gst ≠ 1) → Yields (.swapOut q) s (fun u =>
      (∃ v' : Seq, u.d.seq q = some v' ∧ v'.kst = 3 ∧ v'.groups = v.groups) ∧ u.d.svc.moves = s.d.svc.moves ∧ OnlyService s u))) ∧
  (∀ (s : State) (q : SeqSlot) (v : Seq) (g : Group) (d1 d2 : Dev) (t : TileId) (b : Nat), s.d.returning = some (q, v) →
    v.groups.filter (fun g => g.gst = 2) = [g] →
    (s.d.atHigh s.env 1 = false → Yields (.swapIn) s (fun u => u = s.bump)) ∧
    (s.d.atHigh s.env 1 = true → (s.d.bump.setSeq q (some { v with kst := 4 })).takeGroup s.env q { v with kst := 4 } g.pos0 = some (d1, t, b) →
      let v' := ({ v with kst := 4 } : Seq).modGroup g.pos0 (fun g => { g with gst := 3, tile := t, base := b, left := (d1.imgOf v.model).pages })
      d1.syncSeq s.env q v' = some d2 → Yields (.swapIn) s (fun u => u = { s.bump with d := d2.queueMoves s.env .host 1 .swapIn q v' g.pos0 }))) ∧
  (∀ (s : State) (q : SeqSlot) (v : Seq) (g : Group) (d1 d2 : Dev) (t : TileId) (b : Nat),
    s.d.liveSeqs.filter (fun p => p.2.kst == 1 && p.2.groups.any (fun g => g.gst == 5)) = [(q, v)] →
    g ∈ v.groups → g.gst = 5 → (∀ h ∈ v.groups, h.gst = 5 → h ≠ g → h.pos0 < g.pos0) →
    (256 * s.d.freeGroups ≤ 2 * (kvHigh s.env * s.d.totalGroups) → Yields (.t2Return) s (fun u => u = s.bump)) ∧
    (2 * (kvHigh s.env * s.d.totalGroups) < 256 * s.d.freeGroups → s.d.bump.takeGroup s.env q v g.pos0 = some (d1, t, b) →
      let v' := v.modGroup g.pos0 (fun g => { g with gst := 6, tile := t, base := b, left := (d1.imgOf v.model).pages })
      d1.syncSeq s.env q v' = some d2 → Yields (.t2Return) s (fun u => u = { s.bump with d := d2.queueMoves s.env .tier2 1 .t2Return q v' g.pos0 }))) ∧
  (∀ (s : State) (port : BargePort) (i : Nat) (m : Move), (∀ n ∈ s.d.svc.moves, n.cls ≤ 3) → s.d.pickMove port = some (i, m) →
    s.d.svc.moves[i]? = some m ∧ m.port = port ∧
    (∀ (j : Nat) (n : Move), s.d.svc.moves[j]? = some n → n.port = port →
      (m.cls < n.cls ∨ (m.cls = n.cls ∧ i ≤ j)) ∨ (m.cls = 2 ∧ 7 ≤ s.d.svc.since2[portFin port] ∧ (n.cls = 2 → i ≤ j))) ∧
    (m.cls ≠ 2 → 7 ≤ s.d.svc.since2[portFin port] → ∀ n ∈ s.d.svc.moves, n.port = port → n.cls ≠ 2)) ∧
  (∀ (s : State) (port : BargePort) (i : Nat) (m : Move) (r : MoveResult) (v : Seq) (g : Group) (x : SiteIx), s.d.pickMove port = some (i, m) →
    s.d.seq m.seq = some v → v.gen = m.gen → v.groups.find? (fun g => g.pos0 = m.pos0) = some g → s.d.svc.rdma = [] → NoLost s → s.d.fab.accessSite g.tile = some x →
    m.kind = .swapIn ∨ m.kind = .t2Return → PageComes s m v → 1 < g.left → (m.kind = .swapIn → m.page ∉ g.bad) → Apart (s.d.fab.col x) →
    16 * (g.base + m.page + 1) ≤ 393216 →
    let mine := fun (k : Nat) => 256 * (g.base + m.page) ≤ k ∧ k < 256 * (g.base + m.page + 1)
    (∀ bs, r = .done bs [] → bs.length = 16384 → pageOwner bs = (m.seq.val, v.gen % 0x10000) → Yields (.bargeMoveComplete port r) s (fun u =>
      u.d.svc = ((s.d.takeMove i m).setSeq m.seq (some (v.modGroup g.pos0 (fun _ => { g with left := g.left - 1 })))).svc ∧
      (∀ k : Nat, mine k → (u.d.fab.col x).sector k =
        { data := bytesSector (bs.drop (64 * (k - 256 * (g.base + m.page)))), poison := false, err := 0 }) ∧
      ((s.d.fab.col x).queue = [] → ∀ k : Nat, k / 16 < 393216 → ¬ mine k → SameSector s u x k) ∧ OnlyMoves s u)) ∧
    (r = .readError → Yields (.bargeMoveComplete port r) s (fun u =>
      (∀ k : Nat, mine k → ((u.d.fab.col x).sector k).poison = true) ∧
      ((s.d.fab.col x).queue = [] → ∀ k : Nat, k / 16 < 393216 → ¬ mine k → SameSector s u x k) ∧
      u.d.svc.poisonMoves = Nat.min (s.d.svc.poisonMoves + 1) 0xFFFF ∧ Tells s u 0x0603 (.sequence (seqId m.seq v.gen)) ∧
      u.d.lnk.t2.poisonRd = (if m.port = .tier2 then Nat.min (s.d.lnk.t2.poisonRd + 1) 0xFFFF else s.d.lnk.t2.poisonRd) ∧ OnlyMoves s u)) ∧
    (∀ bs, r = .done bs [] → pageOwner bs ≠ (m.seq.val, v.gen % 0x10000) → Yields (.bargeMoveComplete port r) s (fun u =>
      (u.d.seq m.seq = none ∨ ∃ (v' : Seq) (w : GenReq), v.req = some w ∧ u.d.seq m.seq = some v' ∧ v'.kst = 5 ∧ u.d.recordHeld w.ctx w.dsn = true) ∧
      (∀ w, v.req = some w → (s.d.ctx w.ctx).phase = .active → Told s u w.ctx
        { dsn := w.dsn, rtype := 2, endCode := 0x06, opcode := 1, seqId := seqId m.seq v.gen, tag := w.tag, count := v.count
          tokens := v.tokens, detail := 0, cls := 1, last := lastWord w v.count }) ∧ u.d.fab.cols = s.d.fab.cols ∧ Tells s u 0x0603 (.sequence (seqId m.seq v.gen)) ∧ OnlyMoves s u))) ∧
  (∀ (s : State) (port : BargePort) (i : Nat) (m : Move) (bs : List Byte), s.d.pickMove port = some (i, m) → s.d.seq m.seq = none →
    (∀ t l n, m.kind ≠ .landing t l n) → s.d.svc.rdma = [] → NoLost s → Yields (.bargeMoveComplete port (.done bs [])) s (fun u =>
      u.d.svc = (s.d.takeMove i m).svc ∧ u.d.fab = s.d.bump.fab ∧ OnlyMoves s u)) ∧
  (∀ (s : State) (port : BargePort) (i : Nat) (m : Move) (bs : List Byte) (l : Launch) (j : LandJob) (layer slice : Nat) (k : KvTile) (x : SiteIx),
    s.d.pickMove port = some (i, m) → m.kind = .landing l.tag layer slice → s.d.svc.launches.find? (fun l' => l'.tag = l.tag) = some l →
    l.land.find? (fun j => j.groups.contains (m.seq, m.pos0) && j.left.any (fun p => p.1 = layer)) = some j → s.d.kvt j.tile = some k →
    pageOwner bs = (m.seq.val, m.gen % 0x10000) → bs.length = 16384 → s.d.fab.accessSite j.tile = some x → Apart (s.d.fab.col x) → s.d.svc.rdma = [] →
    let page := k.landBase + 2 * (s.d.imgOf l.model.val).heads * slice + (m.page - 2 * layer * (s.d.imgOf l.model.val).heads)
    16 * (page + 1) ≤ 393216 → Yields (.bargeMoveComplete port (.done bs [])) s (fun u =>
      (∀ n : Nat, 256 * page ≤ n → n < 256 * (page + 1) → (u.d.fab.col x).sector n =
        { data := bytesSector (bs.drop (64 * (n - 256 * page))), poison := false, err := 0 }) ∧
      u.d.svc.moves = s.d.svc.moves.eraseIdx i ∧ OnlyMoves s u)) ∧
  (∀ (s : State) (t : TileId) (x : SiteIx) (l : Launch) (j : LandJob), s.d.fab.siteOf t = some x →
    s.d.svc.launches.find? (fun l => l.land.any (fun j => j.tile == t && decide (j.next < (s.d.imgOf l.model.val).layers))) = some l →
    l.land.find? (fun j => j.tile = t) = some j →
    (((s.d.fab.site x).sems[j.free]).toNat = 0 → Yields (.landingCopy t) s (fun u => u = s.bump)) ∧
    (((s.d.fab.site x).sems[j.free]).toNat ≠ 0 → Yields (.landingCopy t) s (fun u =>
      u.d.fab.site x = { s.d.fab.site x with sems := (s.d.fab.site x).sems.set j.free ((s.d.fab.site x).sems[j.free] - 1) } ∧
      (∀ y : SiteIx, y ≠ x → u.d.fab.site y = s.d.fab.site y) ∧ u.d.fab.cols = s.d.fab.cols ∧
      (∃ ms : List Move, u.d.svc.moves = s.d.svc.moves ++ ms ∧ ms.length = j.groups.length * (2 * (s.d.imgOf l.model.val).heads) ∧
        ∀ m ∈ ms, m.port = .tier2 ∧ m.cls = 0 ∧ ∃ sl, m.kind = .landing l.tag j.next sl) ∧ OnlyService s u)))

/-- ADMISSION ends a request of a slot that does not serve with BAD_MODEL; otherwise it admits one that may be admitted, of the highest
class among those, to the lowest EMPTY slot in PREFILL; with none, nothing changes. DECODE_LAUNCH places the ready sequence of a slot with
its last token; PREFILL_LAUNCH places the next chunk of at most CHUNK_TOK tokens, with a sampler slot for the last chunk alone;
GRAPH_LAUNCH launches the ready RUN_GRAPH. Each sends one LAUNCH packet for each record, with KIND, ENTRY, ROWS and LAUNCH_SEQ; a slot
that may not launch sends none. AGEING raises what has waited for AGE_MS. ROTATION_CHECK gives each set the member of least wear where it
is 8 below; ROTATION_SWITCH moves the role with no launch in flight. -/
def Obligations.WorkIsAdmittedAndLaunched : Prop :=
  (∀ (s : State) (r : GenReq), s.d.svc.queue.find? (fun r => !s.d.servesTokens r.model) = some r → r.cont = false →
    (s.d.ctx r.ctx).phase = .active → Yields (.admission) s (fun u =>
      u.d.svc = { s.d.svc with queue := s.d.svc.queue.filter (fun x => !(x.ctx == r.ctx && x.dsn == r.dsn)) } ∧ OnlyRings s u ∧
      Told s u r.ctx { dsn := r.dsn, rtype := 2, endCode := 0x0C, opcode := 1, seqId := 0xFFFFFFFF, tag := r.tag, count := 0, tokens := 0
                       detail := 0, cls := 1, last := none })) ∧
  (∀ s : State, s.d.svc.queue.length ≤ 16384 → (∀ r ∈ s.d.svc.queue, s.d.servesTokens r.model = true ∧ r.promptLen < 1048576 ∧ r.prio ≤ 3) →
    NoLost s → ((∃ r ∈ s.d.svc.queue, MayBeAdmitted s r) → Yields (.admission) s (fun u => ∃ (r : GenReq) (q : SeqSlot) (v : Seq), r ∈ s.d.svc.queue ∧
      MayBeAdmitted s r ∧ (∀ x ∈ s.d.svc.queue, MayBeAdmitted s x → s.d.classOf r.ctx r.prio - r.bump ≤ s.d.classOf x.ctx x.prio - x.bump) ∧
      s.d.emptySlot = some q ∧ u.d.seq q = some v ∧ v.phase = .prefill ∧ v.kst = 1 ∧ v.req = some r ∧ v.ctx = r.ctx ∧ v.tokens = r.promptLen ∧
      v.input = promptTokens r.got r.promptLen ∧ v.gen = tget s.d.svc.gens 0 q.val ∧ v.groups = [] ∧ (∀ p : SeqSlot, p ≠ q → u.d.seq p = s.d.seq p) ∧
      u.d.svc.queue = s.d.svc.queue.filter (fun x => !(x.ctx == r.ctx && x.dsn == r.dsn)) ∧ OnlyRings s u)) ∧
    ((∀ r ∈ s.d.svc.queue, ¬ MayBeAdmitted s r) → Yields (.admission) s (fun u => u = s.bump))) ∧
  (∀ (s : State) (m : ModelSlotId) (i : Image) (en : Entry) (q : SeqSlot) (v : Seq) (a : ClusterId × Nat) (more : List (ClusterId × Nat)),
    (s.d.model m).img = some i → (s.d.model m).entry i.decode = some en → 1 ≤ en.maxBatch → s.d.mayLaunch s.env m = true →
    s.d.decodeReady m.val = [(q, v)] → v.prio ≤ 3 → cdiv (v.tokens - 1 + 1) (Nat.max 1 (s.d.imgOf v.model).tp) ≤ v.groups.length →
    (∀ g ∈ v.groups, g.gst ≠ 5 ∧ g.gst ≠ 6) → s.d.freeSamplers (s.d.model m) = a :: more → s.d.seq q = some v →
    Yields (.decodeLaunch m) s (fun u => ∃ l : Launch, Launched s u m en 2 l ∧
      l.rows = [{ seq := q, gen := v.gen, pos := v.tokens - 1, ntok := 1, token := v.lastToken, sample := some a }] ∧
      (s.d.belowLow s.env = false → s.d.svc.reclaiming = false → u.d.seq q = some { v with inLaunch := 1, bump := 0, waitFrom := none }))) ∧
  (∀ (s : State) (m : ModelSlotId), s.d.mayLaunch s.env m = false ∨ s.d.decodeReady m.val = [] → Yields (.decodeLaunch m) s (fun u =>
    u.d.svc = s.d.svc ∧ u.d.fab.ctl = s.d.fab.ctl ∧ u.d.fab.cols = s.d.fab.cols)) ∧
  (∀ (s : State) (m : ModelSlotId) (i : Image) (en : Entry) (q : SeqSlot) (v : Seq),
    (s.d.model m).img = some i → (s.d.model m).entry i.prefill = some en → 1 ≤ en.maxBatch → s.d.mayLaunch s.env m = true →
    s.d.decodeReady m.val = [] ∨ (((s.d.model m).recent.take 15).filter id).length < prefillShare s.env →
    s.d.prefillReady m.val = [(q, v)] → v.prio ≤ 3 → let n := Nat.min (v.input.length - v.fed) (chunkTok s.env)
    cdiv (v.inputPos + v.fed + n) (Nat.max 1 (s.d.imgOf v.model).tp) ≤ v.groups.length → (∀ g ∈ v.groups, g.gst ≠ 5 ∧ g.gst ≠ 6) →
    s.d.freeSamplers (s.d.model m) ≠ [] → s.d.seq q = some v → Yields (.prefillLaunch m) s (fun u => ∃ l : Launch, Launched s u m en 1 l ∧
      l.rows = [{ seq := q, gen := v.gen, pos := v.inputPos + v.fed, ntok := n, token := 0
                  sample := if v.fed + n = v.input.length then (s.d.freeSamplers (s.d.model m)).head? else none }] ∧
      (s.d.belowLow s.env = false → s.d.svc.reclaiming = false →
        u.d.seq q = some { v with inLaunch := 1, bump := 0, waitFrom := none, fed := v.fed + n }))) ∧
  (∀ (s : State) (m : ModelSlotId), s.d.mayLaunch s.env m = false ∨ (s.d.decodeReady m.val ≠ [] ∧
    prefillShare s.env ≤ (((s.d.model m).recent.take 15).filter id).length) → Yields (.prefillLaunch m) s (fun u => u.d.svc = s.d.svc ∧ u.d.fab.ctl = s.d.fab.ctl) ∧
      Yields (.graphLaunch m) s (fun u => u.d.svc = s.d.svc ∧ u.d.fab.ctl = s.d.fab.ctl)) ∧
  (∀ (s : State) (m : ModelSlotId) (g : GraphReq) (en : Entry), s.d.mayLaunch s.env m = true →
    s.d.decodeReady m.val = [] ∨ (((s.d.model m).recent.take 15).filter id).length < prefillShare s.env → (s.d.model m).graphs.filter (·.ready) = [g] →
    (s.d.model m).entry g.entry = some en → Yields (.graphLaunch m) s (fun u => ∃ l : Launch, Launched s u m en 3 l ∧ l.rows = [] ∧ l.graph = some g ∧
      (u.d.model m).graphs = (s.d.model m).graphs.filter (fun x => !(x.ctx == g.ctx && x.dsn == g.dsn)))) ∧
  (∀ (s : State) (q : SeqSlot) (v : Seq), s.d.seq q = some v →
    (ageTicks s.env ≠ 0 → (∃ p ∈ s.d.decodeReady v.model ++ s.d.prefillReady v.model, p.1 = q) → v.bump < s.d.classOf v.ctx v.prio →
      elapsed s.time .tokenService v.since (ageTicks s.env * (v.bump + 1)) = true → Yields (.ageing (.sequence q)) s (fun u =>
        u = { s.bump with d := s.d.bump.setSeq q (some { v with bump := v.bump + 1 }) })) ∧
    ((∀ p ∈ s.d.decodeReady v.model ++ s.d.prefillReady v.model, p.1 ≠ q) ∨ ageTicks s.env = 0 ∨
        elapsed s.time .tokenService v.since (ageTicks s.env * (v.bump + 1)) = false → Yields (.ageing (.sequence q)) s (fun u =>
      u = s.bump))) ∧
  (∀ (s : State) (c : CtxId) (dsn : Nat), Yields (.ageing (.request c dsn)) s (fun u => u.d.svc.queue = s.d.svc.queue.map (fun r =>
    if r.ctx = c ∧ r.dsn = dsn ∧ ageTicks s.env ≠ 0 ∧ r.bump < s.d.classOf r.ctx r.prio ∧
      elapsed s.time .tokenService r.since (ageTicks s.env * (r.bump + 1)) = true then { r with bump := r.bump + 1 } else r) ∧
    u.d = { s.d.bump with svc := { s.d.svc with queue := u.d.svc.queue } } ∧ OnlyDevice s u)) ∧
  (∀ (s : State) (c : CtxId) (dsn : Nat), Yields (.ageing (.graph c dsn)) s (fun u => (∀ m : ModelSlotId, (u.d.model m).graphs =
      (s.d.model m).graphs.map (fun g => if g.ctx = c ∧ g.dsn = dsn ∧ ageTicks s.env ≠ 0 ∧ g.bump < s.d.classOf g.ctx g.prio ∧
        elapsed s.time .tokenService g.since (ageTicks s.env * (g.bump + 1)) = true then { g with bump := g.bump + 1 } else g)) ∧
    u.d = { s.d.bump with svc := { s.d.svc with models := u.d.svc.models } } ∧ OnlyDevice s u)) ∧
  (∀ s : State, (rotOn s.env = false ∨ elapsed s.time .tokenService s.d.svc.rotAt (1000 * rotMs s.env) = false → Yields (.rotationCheck) s (fun u => u = s.bump)) ∧
    (rotOn s.env = true → elapsed s.time .tokenService s.d.svc.rotAt (1000 * rotMs s.env) = true → Yields (.rotationCheck) s (fun u =>
      u.d.svc.rotAt = svcNow s.env ∧ (∀ m : ModelSlotId, (s.d.model m).phase ≠ .loaded → u.d.model m = s.d.model m) ∧
      (∀ m : ModelSlotId, (s.d.model m).phase = .loaded → (u.d.model m).startCl = (s.d.model m).startCl + 1 ∧
        (u.d.model m).rots.map (fun r => (r.members, r.active)) = (s.d.model m).rots.map (fun r => (r.members, r.active)) ∧
        ∀ r ∈ (u.d.model m).rots, let wear := fun v : Nat => s.d.wearOf (s.d.model m) v
          (∀ i, r.next = some i → ∃ v, r.members[i]? = some v ∧ wear v + 8 ≤ wear (r.members.getD r.active 0) ∧ ∀ w ∈ r.members, wear v ≤ wear w) ∧
          (r.next = none → ∀ w ∈ r.members, wear (r.members.getD r.active 0) < wear w + 8))))) ∧
  (∀ (s : State) (m : ModelSlotId), ((∃ l ∈ s.d.svc.launches, l.model = m) → Yields (.rotationSwitch m) s (fun u => u = s.bump)) ∧
    ((∀ l ∈ s.d.svc.launches, l.model ≠ m) → (∃ r ∈ (s.d.model m).rots, r.next ≠ none) → Yields (.rotationSwitch m) s (fun u =>
      u.d.svc = (s.d.setModel m { s.d.model m with rots := (s.d.model m).rots.map (fun r => { r with active := r.next.getD r.active, next := none }) }).svc ∧
      (∀ (i : Image) (n : Nat) (t : TileId) (x : SiteIx), (s.d.model m).img = some i → (s.d.model m).bind[n]? = some t → s.d.fab.siteOf t = some x →
        (∀ j y, (s.d.model m).bind[j]? = some y → s.d.fab.siteOf y = some x → j = n) → (u.d.fab.site x).peers = (u.d.model m).peersOf i n) ∧
      u.d.fab.cols = s.d.fab.cols)))

/-- LAUNCH_COMPLETE of a launch without a fault whose streams have all reported END removes it, and each sequence in it is in one launch
fewer; before that nothing changes. LAUNCH_FAULT first sends an ABORT to every tile of the launch. Once all of it has stopped:
SCRATCH_PARITY is replayed, up to two times in a row, CHECKSUM_MISMATCH once; a fault of another cause, or one too many, ends every row
FAULTED, and a failed slot ends them BAD_MODEL; PEER_HALF_DOWN ends it with HALF_LOST. A replay counts, and sends packets under the same
tag; page headers get their recorded COUNT back. TOKEN_DELIVERY writes the entry of R213 at OUT_ADDR + COUNT × E and counts it; the
sequence ends with EOS, MAX_NEW or SEQ_LIMIT in this order; a slot that failed ends it with SAMPLE_INVALID and writes no entry; a result
without a row is discarded. -/
def Obligations.LaunchesEndAndTokensAreDelivered : Prop :=
  (∀ (s : State) (l : Launch), s.d.svc.launches.find? (fun k => k.tag = l.tag) = some l →
    (l.fault.isSome = true ∨ (∃ p ∈ l.streams, TileMsg.ended p.1 p.2 l.tag ∉ s.d.fab.inbox) → Yields (.launchComplete l.tag) s (fun u =>
      u.d.svc = s.d.svc ∧ u.d.fab.inbox = s.d.fab.inbox)) ∧
    (l.fault = none → (∀ p ∈ l.streams, TileMsg.ended p.1 p.2 l.tag ∈ s.d.fab.inbox) → l.graph = none → Yields (.launchComplete l.tag) s (fun u =>
      u.d.svc.launches = s.d.svc.launches.filter (fun k => k.tag ≠ l.tag) ∧ (∀ msg ∈ u.d.fab.inbox, msgTag msg ≠ l.tag) ∧
      (∀ (q : SeqSlot) (v : Seq), s.d.seq q = some v → (∀ r ∈ l.rows, r.seq ≠ q) → u.d.seq q = some v) ∧
      (∀ (q : SeqSlot) (v : Seq) (r : Row), s.d.seq q = some v → l.rows.filter (fun r => r.seq = q) = [r] → r.gen = v.gen →
        (v.ending = none → u.d.seq q = some { v with inLaunch := v.inLaunch - 1, since := svcNow s.env }) ∧
        (∀ code, v.ending = some code → v.kst ≠ 5 → v.inLaunch = 1 → s.d.undelivered q v.gen = false → (∀ w, v.req = some w → w.holdKv = false) → u.d.seq q = none))))) ∧
  (∀ (s : State) (l : Launch) (g : GraphReq) (en : Entry) (t : TileId) (f : Fabric) (hdr : List Byte), s.d.svc.launches.find? (fun k => k.tag = l.tag) = some l →
    l.fault = none → (∀ p ∈ l.streams, TileMsg.ended p.1 p.2 l.tag ∈ s.d.fab.inbox) → l.graph = some g → l.told = false → g.cancelled = false → (s.d.ctx g.ctx).phase = .active → l.rows = [] → (s.d.model l.model).phase = .loaded →
    (s.d.model l.model).entry l.entry = some en → (s.d.model l.model).bind[en.outVt]? = some t →
    s.d.bump.fab.slotRead s.env t en.outOff 1 = (f, hdr, []) → let n := leAt hdr 0 4
    (g.outCap < n ∨ en.outMax < n → Yields (.launchComplete l.tag) s (fun u => Told s u g.ctx (endRec g.dsn 6 g.tag 0x14 1))) ∧
    (∀ (f2 : Fabric) (bs : List Byte), n ≤ g.outCap → n ≤ en.outMax → 0 < n → n ≤ 4096 → f.slotRead s.env t (en.outOff + 64) (cdiv n 64) = (f2, bs, []) → n ≤ bs.length →
      Yields (.launchComplete l.tag) s (fun u =>
        Told s u g.ctx { endRec g.dsn 6 g.tag 0 1 with count := n, last := some (g.outAddr + n - 1) } ∧
        (s.d.direct (s.d.ctx g.ctx).func = true → ∃ rest, u.d.out = s.d.out ++ Writes s (s.d.ctx g.ctx).func g.outAddr (bs.take n) ++ rest)))) ∧
  (∀ (s : State) (l : Launch) (q : LaunchFault), s.d.svc.launches.find? (fun k => k.tag = l.tag) = some l → l.fault = none → l.streams ≠ [] →
    s.d.firstFault l.tag = some q → Yields (.launchFault l.tag) s (fun u =>
      u.d.fab.ctl = s.d.fab.ctl ++ ((l.streams.map (·.1)).eraseDups).map (fun t => (t, CtlPkt.abort l.tag)) ∧
      u.d.svc = { s.d.svc with launches := s.d.svc.launches.map (fun k => if k.tag = l.tag then { l with fault := some q } else k) } ∧
      u.d.fab.cols = s.d.fab.cols ∧ u.d.fab.sites = s.d.fab.sites)) ∧
  (∀ (s : State) (l : Launch) (q : LaunchFault), s.d.svc.launches.find? (fun k => k.tag = l.tag) = some l → l.fault = some q →
    s.d.launchStopped l = true → l.graph = none → NoLost s →
    let ends := fun (code detail : Nat) (u : State) => u.d.svc.launches = s.d.svc.launches.filter (fun k => k.tag ≠ l.tag) ∧
      (∀ r ∈ l.rows, ∀ v, s.d.seq r.seq = some v → r.gen = v.gen → u.d.seq r.seq = none) ∧
      (∀ (p : SeqSlot) (v : Seq), s.d.seq p = some v → (∀ r ∈ l.rows, r.seq ≠ p) → u.d.seq p = some v) ∧
      (∀ r v w, l.rows = [r] → (s.d.model l.model).phase = .loaded → s.d.seq r.seq = some v → r.gen = v.gen → v.req = some w → (s.d.ctx w.ctx).phase = .active → Told s u w.ctx
        { dsn := w.dsn, rtype := 2, endCode := code, opcode := 1, seqId := seqId r.seq v.gen, tag := w.tag, count := v.count, tokens := v.tokens
          detail := detail, cls := 1, last := lastWord w v.count })
    let again := fun (parity chk : Nat) (u : State) => u.d.svc.replays = Nat.min (s.d.svc.replays + 1) 0xFFFF ∧
      (∃ k : Launch, u.d.svc.launches = s.d.svc.launches.map (fun j => if j.tag = l.tag then k else j) ∧ k.tag = l.tag ∧ k.fault = none ∧
        k.parity = parity ∧ k.chk = chk ∧ k.rows = l.rows ∧
        u.d.fab.ctl = s.d.fab.ctl ++ k.packets.map (fun p => (p.1, CtlPkt.launch p.2)) ∧ ∀ p ∈ k.packets, p.2.tag = l.tag) ∧
      u.d.svc.seqs = s.d.svc.seqs
    ((s.d.model l.model).failed = true → Yields (.launchFault l.tag) s (ends 0x0C 0)) ∧
    ((s.d.model l.model).failed = false → (q.cause ∉ [0x0A, 0x0D, 0x0E, 0x0F] → Yields (.launchFault l.tag) s (fun u => ends 0x09 q.cause u ∧
      u.d.svc.launchFaults = Nat.min (s.d.svc.launchFaults + 1) 0xFFFF)) ∧
    (q.cause = 0x0A → l.parity < 2 → Yields (.launchFault l.tag) s (again (l.parity + 1) l.chk)) ∧
    (q.cause = 0x0A → 2 ≤ l.parity → Yields (.launchFault l.tag) s (ends 0x09 0x0A)) ∧
    (q.cause = 0x0F → l.chk = 0 → Yields (.launchFault l.tag) s (again 0 1)) ∧
    (q.cause = 0x0F → 1 ≤ l.chk → Yields (.launchFault l.tag) s (ends 0x09 0x0F)) ∧
    (q.cause = 0x0D → Yields (.launchFault l.tag) s (ends 0x07 0)) ∧
    (q.cause = 0x0E → q.extra = 0 → Yields (.launchFault l.tag) s (ends 0x09 0x0E)))) ∧
  (∀ (e : Env) (d : Dev) (l : Launch) (t : TileId) (page n : Nat) (x : SiteIx), l.counts = [(t, page, n)] → n < 65536 → d.fab.accessSite t = some x →
    (d.fab.col x).queue = [] → ((d.fab.col x).sector (256 * page)).poison = false →
    let before := ((d.fab.col x).sector (256 * page)).data
    let after := ((d.restoreHeaders e l).fab.col x).sector (256 * page)
    fld after.data.toNat 79 64 = n ∧ (n = 0 → fld after.data.toNat 61 60 = 0 ∧ fld after.data.toNat 31 0 = 0) ∧
    (n ≠ 0 → fld after.data.toNat 63 0 = fld before.toNat 63 0) ∧ fld after.data.toNat 511 80 = fld before.toNat 511 80) ∧
  (∀ (s : State) (res : SampleResult) (more : List SampleResult), s.d.fab.results = res :: more →
    ((∀ o ∈ s.d.svc.owners, ¬ (o.cluster = res.cluster ∧ o.slot = res.slot)) → Yields (.tokenDelivery) s (fun u =>
      u = { s.bump with d := { s.d.bump with fab := { s.d.bump.fab with results := more } } })) ∧
    (∀ (o : SlotOwner) (v : Seq) (r : GenReq), s.d.svc.owners.find? (fun o => o.cluster == res.cluster && o.slot == res.slot) = some o →
      s.d.seq o.seq = some v → v.gen = o.gen → v.req = some r → v.kst ≠ 5 →
      (res.token = none → Yields (.tokenDelivery) s (fun u => u.d.seq o.seq = none ∧
        ((s.d.ctx r.ctx).phase = .active → Told s u r.ctx { dsn := r.dsn, rtype := 2, endCode := 0x08, opcode := 1, seqId := seqId o.seq v.gen, tag := r.tag
                                                            count := v.count, tokens := v.tokens, detail := 0, cls := 1, last := lastWord r v.count }) ∧
        u.d.fab.cols = s.d.fab.cols)) ∧
      (∀ tok, res.token = some tok → Yields (.tokenDelivery) s (fun u =>
        let img := s.d.imgOf v.model
        let stop := (r.ignoreEos = false ∧ tok ∈ img.eos) ∨ v.count + 1 = r.maxNew ∨ v.tokens = 1048575
        u.d.fab.results = more ∧
        (s.d.direct (s.d.ctx r.ctx).func = true → ∃ rest, u.d.out = s.d.out ++
          Writes s (s.d.ctx r.ctx).func (r.outAddr + v.count * (if r.logprob then 80 else 4)) (if r.logprob then outEntry r tok res else leBytes 4 tok) ++ rest) ∧
        (¬ stop → v.ending = none → u.d.seq o.seq = some { v with tokens := v.tokens + 1, count := v.count + 1, lastToken := tok, phase := .decode, since := svcNow s.env }) ∧
        (stop → r.holdKv = false → u.d.seq o.seq = none) ∧
        (stop → r.holdKv = true → v.kst ≠ 3 → ∃ w : Seq, u.d.seq o.seq = some w ∧ w.phase = .held ∧ w.req = none ∧ w.tokens = v.tokens + 1 ∧
          w.lastToken = tok ∧ w.groups = v.groups) ∧
        (∀ p : SeqSlot, p ≠ o.seq → u.d.seq p = s.d.seq p) ∧ u.d.fab.cols = s.d.fab.cols ∧ u.d.fab.sites = s.d.fab.sites))))

/-- A doorbell of another size is discarded; one in a state that does not accept it, or of the PF to a page bound to a VF, is counted in
DB_DROPPED and does nothing else. SQ_TAIL below the ring size moves SQ_TAIL, and a fetch of at most 16 entries that does not wrap starts;
CQ_HEAD and EQ_HEAD move within the range up to the tail; other values fault the ring with BAD_DOORBELL. IRQ_ARM arms, and sends when
something is due. A valid FENCE holds its slot; an invalid one is dropped, and VALID = 0 empties a slot that is not satisfied. A record
that finds no slot for 100 ms sets CQ_STALL. INTERRUPT_TIMER sends when the oldest item has waited. A fetch that completes gives DSNs; one
that fails faults the ring. A read that reaches T_CTO fails and its tag is quarantined for 2 × T_CTO; late completions are counted, and
QUARANTINE_END frees the tag. Bytes for host memory go in writes no longer than Max_Payload_Size, none across a 4 KiB boundary. -/
def Obligations.DoorbellsRingsAndHostReads : Prop :=
  (∀ (s : State) (b : Bell) (c : CtxId) (i : Fin 4) (drop : Bool), s.d.bellCtx b = some (c, drop) →
    let counted := fun u : State => u = { s.bump with d := s.d.bump.setCtx c { s.d.ctx c with dbDropped := Nat.min ((s.d.ctx c).dbDropped + 1) 0xFFFF } }
    (drop = true → Yields (.sqTail b) s counted ∧ Yields (.cqHead b) s counted ∧ Yields (.eqHead b) s counted ∧ Yields (.irqArm b) s counted ∧
      Yields (.fenceDoorbell b i) s counted) ∧
    (drop = false → b.size ≠ 4 → Yields (.sqTail b) s (fun u => u = s.bump) ∧ Yields (.cqHead b) s (fun u => u = s.bump) ∧
      Yields (.eqHead b) s (fun u => u = s.bump) ∧ Yields (.irqArm b) s (fun u => u = s.bump)) ∧
    (drop = false → b.size ≠ 8 → Yields (.fenceDoorbell b i) s (fun u => u = s.bump)) ∧
    (b.size = 4 → (s.d.ctx c).phase ≠ .active → Yields (.sqTail b) s counted) ∧
    (b.size = 8 → (s.d.ctx c).phase ≠ .active → Yields (.fenceDoorbell b i) s counted) ∧
    (b.size = 4 → (s.d.ctx c).phase = .disabled ∨ (s.d.ctx c).phase = .resetPending → Yields (.cqHead b) s counted ∧
      Yields (.eqHead b) s counted ∧ Yields (.irqArm b) s counted)) ∧
  (∀ (s : State) (b : Bell) (c : CtxId), Rings s b 4 c (· = .active) → let v := s.d.ctx c
    (v.sqSize ≤ bellVal b → Yields (.sqTail b) s (fun u => RingFaults s u c 0x02)) ∧
    (bellVal b < v.sqSize → Yields (.sqTail b) s (fun u => (u.d.ctx c).sqTail = bellVal b ∧ (u.d.ctx c).sqHead = v.sqHead ∧
      (u.d.ctx c).phase = .active ∧ (NoLost s → u.d.svc = s.d.svc) ∧ OnlyRings s u ∧
      (let addr := v.sqBase + 64 * v.sqHead
       ∀ t n : Nat, n = Nat.min (Nat.min 16 (Nat.min (s.d.cfg 0).mrrs (4096 - addr % 4096) / 64))
          (Nat.min (v.sqSize - v.sqHead) (ringDist v.sqSize v.sqHead (bellVal b))) → 0 < n → s.d.host.ctxs = [(c.val, v)] →
        v.held = [] → v.fetching = 0 → v.fetched = [] → v.fences = Vector.replicate 4 none → s.d.fab.mapValid = true → s.d.svc.queue = [] →
        (∀ x ∈ s.d.waitingUses, x = .fetch c 0) → v.func = 0 → s.d.canIssue 0 = true → s.d.freeTag = some t →
          (u.d.ctx c).fetching = n ∧ u.d.out = s.d.out ++ [.hostRead 0 t addr (64 * n)])))) ∧
  (∀ (s : State) (b : Bell) (c : CtxId), Rings s b 4 c (fun p => p = .active ∨ p = .draining ∨ p = .faulted) → let v := s.d.ctx c
    (v.phase = .active → headOk v.cqSize v.cqHead v.cqTail (bellVal b) = false → Yields (.cqHead b) s (fun u => RingFaults s u c 0x02)) ∧
    (v.phase = .active → headOk v.eqSize v.eqHead v.eqTail (bellVal b) = false → Yields (.eqHead b) s (fun u => RingFaults s u c 0x02)) ∧
    (headOk v.cqSize v.cqHead v.cqTail (bellVal b) = true → Yields (.cqHead b) s (fun u => (u.d.ctx c).cqHead = bellVal b ∧ OnlyRing s u c ∧
      (v.held = [] → u = { s.bump with d := s.d.bump.setCtx c { v with cqHead := bellVal b } }) ∧
      (∀ h, v.held = [h] → h.rcd.last = none → v.flushing = false → s.d.canIssue v.func = true → 0 < ({ v with cqHead := bellVal b } : Ctx).cqFree → s.d.direct v.func = true →
        32 ≤ (s.d.cfg 0).mps → v.cqBase % 32 = 0 → (u.d.ctx c).held = [] ∧ (u.d.ctx c).cqTail = (v.cqTail + 1) % v.cqSize ∧ (u.d.ctx c).cqStall = false ∧
        ∃ rest, u.d.out = s.d.out ++ .hostWrite v.func.val (v.cqBase + 32 * v.cqTail) (h.rcd.bytes (nowNs s.time) v.sqHead v.cqPhase) false :: rest))) ∧
    (headOk v.eqSize v.eqHead v.eqTail (bellVal b) = true → Yields (.eqHead b) s (fun u => (u.d.ctx c).eqHead = bellVal b ∧ OnlyRing s u c ∧
      (v.eqLost = false → u = { s.bump with d := s.d.bump.setCtx c { v with eqHead := bellVal b } }) ∧
      (v.eqLost = true → 2 ≤ ({ v with eqHead := bellVal b } : Ctx).eqFree → s.d.canIssue v.func = true → (u.d.ctx c).eqLost = false ∧
        EventWritten s u c 0x04 v.evGone))) ∧
    (({ v with armed := true } : Ctx).irqDue (hostNow s.env) = false → Yields (.irqArm b) s (fun u =>
      u = { s.bump with d := s.d.bump.setCtx c { v with armed := true } })) ∧
    (bit v.irq 31 = true → Nat.max 1 (fld v.irq 23 16) ≤ v.pend → s.d.canIssue v.func = true → NoPosts s v.func →
      (tget s.d.host.msix MsixEntry.init (vecKey v.func (fld v.irq 10 0))).masked = false → Yields (.irqArm b) s (fun u =>
        u = { s.bump with d := (s.d.bump.setCtx c { v with armed := false, pend := 0, evPend := false }).send (.msix v.func.val (fld v.irq 10 0)) }))) ∧
  (∀ (s : State) (b : Bell) (i : Fin 4) (c w : CtxId), Rings s b 8 c (· = .active) → let v := s.d.ctx c
    (bit b.v.toNat 63 = false → fld b.v.toNat 31 28 = 0 → fld b.v.toNat 62 48 = 0 →
      (v.fences[i] = none → Yields (.fenceDoorbell b i) s (fun u => u = s.bump)) ∧
      (∀ f, v.fences[i] = some f →
        (dsnReached (s.d.ctx f.waitCtx).doneDsn f.waitDsn = true → Yields (.fenceDoorbell b i) s (fun u => u = s.bump)) ∧
        (dsnReached (s.d.ctx f.waitCtx).doneDsn f.waitDsn = false → Yields (.fenceDoorbell b i) s (fun u =>
          (u.d.ctx c).fences = v.fences.set i none ∧ OnlyRings s u)))) ∧
    (bit b.v.toNat 63 = true → fld b.v.toNat 31 28 = 0 → fld b.v.toNat 62 48 = 0 → s.d.fenceCtx b.func (fld b.v.toNat 27 16) = some w →
      v.fences[i] = none → (fld b.v.toNat 15 0 + 65536 - (v.nextDsn + v.fetching) % 65536) % 65536 < 32768 → Yields (.fenceDoorbell b i) s (fun u =>
        (u.d.ctx c).fences = v.fences.set i (some { atDsn := fld b.v.toNat 15 0, waitCtx := w, waitDsn := fld b.v.toNat 47 32 }) ∧ OnlyRings s u)) ∧
    (fld b.v.toNat 31 28 ≠ 0 ∨ fld b.v.toNat 62 48 ≠ 0 ∨ (bit b.v.toNat 63 = true ∧ (v.fences[i] ≠ none ∨ s.d.fenceCtx b.func (fld b.v.toNat 27 16) = none)) →
      Yields (.fenceDoorbell b i) s (fun u => (u.d.ctx c).fences = v.fences ∧ OnlyRing s u c ∧
        (2 ≤ v.eqFree → v.eqLost = false → s.d.canIssue v.func = true → s.d.direct v.func = true → 32 ≤ (s.d.cfg 0).mps → v.eqBase % 32 = 0 →
          ∃ rest, u.d.out = s.d.out ++ .hostWrite v.func.val (v.eqBase + 32 * v.eqTail)
            (eventBytes 0x05 i.val (b.v.toNat % 2 ^ 32) (nowNs s.time) v.eqPhase) false :: rest)))) ∧
  (∀ (s : State) (c : CtxId) (h : HeldRec) (hs : List HeldRec), (s.d.ctx c).held = h :: hs → (s.d.ctx c).cqStall = false → (s.d.ctx c).phase ≠ .resetPending →
    (∀ t, (s.d.ctx c).cqFree = 0 → h.full = some t → t + 100000 ≤ hostNow s.env → Yields (.cqStall c) s (fun u => (u.d.ctx c).cqStall = true ∧
      (u.d.ctx c).held = h :: hs ∧ (2 ≤ (s.d.ctx c).eqFree → (s.d.ctx c).eqLost = false → EventWritten s u c 0x03 h.rcd.dsn) ∧ OnlyRing s u c)) ∧
    (0 < (s.d.ctx c).cqFree ∨ (∀ t, h.full = some t → hostNow s.env < t + 100000) → Yields (.cqStall c) s (fun u => u = s.bump))) ∧
  (∀ (s : State) (c : CtxId), let v := s.d.ctx c
    (bit v.irq 31 = true → v.armed = true → v.phase ≠ .resetPending → 1 ≤ v.pend → v.pendSince + fld v.irqTime 15 0 ≤ hostNow s.env →
      s.d.canIssue v.func = true → NoPosts s v.func → (tget s.d.host.msix MsixEntry.init (vecKey v.func (fld v.irq 10 0))).masked = false → Yields (.interruptTimer c) s (fun u =>
        u = { s.bump with d := (s.d.bump.setCtx c { v with armed := false, pend := 0, evPend := false }).send (.msix v.func.val (fld v.irq 10 0)) })) ∧
    (bit v.irq 31 = false ∨ v.armed = false ∨ (v.evPend = false ∧ v.pend = 0) → Yields (.interruptTimer c) s (fun u => u = s.bump))) ∧
  (∀ (s : State) (tag : TagId) (t : TagSt) (c : CtxId) (n : Nat), tget s.d.host.tags none tag.val = some t → t.quar = none → t.use = .fetch c n →
    let v := s.d.ctx c
    v.phase = .active → v.fetching = n → 0 < n → NoLost s →
    (∀ bs : List Byte, (∀ i, i < n → descKnown ((bs.getD (64 * i) 0).toNat) = true) → v.fetched = [] → Yields (.hostReadCompletion tag (.data bs)) s (fun u =>
      (u.d.ctx c).sqHead = (v.sqHead + n) % v.sqSize ∧ (u.d.ctx c).nextDsn = (v.nextDsn + n) % 65536 ∧ u.d.svc = s.d.svc ∧
      (u.d.ctx c).fetched = (List.range n).map (fun i => ((v.nextDsn + i) % 65536, leNat (padTo 64 (bs.drop (64 * i))))) ∧
      (v.held = [] → (u.d.ctx c).open_ = v.open_ ++ (List.range n).map (fun i => (v.nextDsn + i) % 65536)))) ∧
    (∀ r : HostReadResult, (∀ bs, r ≠ .data bs) → Yields (.hostReadCompletion tag r) s (fun u => (u.d.ctx c).phase = .faulted ∧
      (u.d.ctx c).cause = (if r = .refused then 0x04 else 0x03) ∧ (u.d.ctx c).fetching = 0 ∧ (u.d.ctx c).sqHead = v.sqHead ∧
      (u.d.ctx c).fetched = v.fetched ∧ u.d.svc = s.d.svc)) ∧
    (t.at_ + s.d.cto t.func ≤ hostNow s.env → Yields (.completionTimeout tag) s (fun u => (u.d.ctx c).phase = .faulted ∧ (u.d.ctx c).cause = 0x03 ∧
      bit (u.d.cfg t.func).aer 14 = true ∧
      tget u.d.host.tags none tag.val = some { t with quar := some (hostNow s.env + 2 * s.d.cto t.func), timedOut := true })) ∧
    (hostNow s.env < t.at_ + s.d.cto t.func → Yields (.completionTimeout tag) s (fun u => u = s.bump))) ∧
  (∀ (s : State) (tag : TagId) (t : TagSt) (q : Nat) (r : HostReadResult), tget s.d.host.tags none tag.val = some t → t.quar = some q →
    let late := fun u : State => u = { s.bump with d := (if t.timedOut
      then ({ s.d.bump with host := { s.d.host with lateCpl := Nat.min (s.d.host.lateCpl + 1) 0xFFFF } } : Dev).aerLog t.func 16
      else { s.d.bump with host := { s.d.host with discCpl := Nat.min (s.d.host.discCpl + 1) 0xFFFF } }) }
    Yields (.lateCompletion tag) s late ∧ Yields (.hostReadCompletion tag r) s late ∧
    (hostNow s.env < q → Yields (.quarantineEnd tag) s (fun u => u = s.bump)) ∧
    (q ≤ hostNow s.env → Yields (.quarantineEnd tag) s (fun u => (∀ t', tget u.d.host.tags none tag.val = some t' → t'.quar = none) ∧
      (∀ k : Nat, k ≠ tag.val → tget s.d.host.tags none k ≠ none → tget u.d.host.tags none k = tget s.d.host.tags none k) ∧ OnlyRings s u))) ∧
  (∀ (s : State) (tag : TagId) (r : HostReadResult), tget s.d.host.tags none tag.val = none →
    (∀ p, s.d.host.expired.find? (fun p => p.1 = tag.val) = some p → ∀ c : Instr, c = .lateCompletion tag ∨ c = .hostReadCompletion tag r → Yields c s (fun u =>
      u = { s.bump with d := ({ s.d.bump with host := { s.d.host with lateCpl := Nat.min (s.d.host.lateCpl + 1) 0xFFFF } } : Dev).aerLog p.2 16 })) ∧
    ((∀ p ∈ s.d.host.expired, p.1 ≠ tag.val) → Yields (.lateCompletion tag) s (fun u => u = s.bump) ∧
      Yields (.hostReadCompletion tag r) s (fun u => u = s.bump))) ∧
  (∀ (mps a : Nat) (bs : List Byte), 0 < mps → let ps := writePieces mps bs.length a bs
    ps.flatMap (·.2) = bs ∧ (∀ p, ps.head? = some p → p.1 = a) ∧
    (∀ p ∈ ps, 0 < p.2.length ∧ p.2.length ≤ mps ∧ p.1 % 4096 + p.2.length ≤ 4096) ∧
    (∀ (i : Nat) (p q : Nat × List Byte), ps[i]? = some p → ps[i + 1]? = some q → q.1 = p.1 + p.2.length))

/-- ENABLE by the owner of a DISABLED context with good settings makes it ACTIVE with indices and DSNs 0, phases 1, ARMED and empty
fences; bad settings fault it with BAD_CONFIG; out of place it does nothing. DISABLE makes it DRAINING, or DISABLED where nothing is
outstanding. RESET by the owner or the PF ends its work with no record and leaves it RESET_PENDING; once its reads, launches and
quarantine are over it is DISABLED, with its registers kept after RESET and BME clear and reset after an FLR. BSN_CTX_BIND binds a
DISABLED context, or sets REJECTED. Clearing BME, an FLR, PERST_N or a lost link make every context of the function RESET_PENDING and
quarantine its tags. VF_ENABLE enables VFs where none are; an invalidation empties the translation of its page and is answered once its
reads have ended; a translation request fills it, or fails the writes that wait. -/
def Obligations.ContextsAndFunctionsComeAndGo : Prop :=
  (∀ (s : State) (f : FuncId) (c : CtxId), let v := s.d.ctx c
    let good := v.sqBase % 4096 = 0 ∧ v.cqBase % 4096 = 0 ∧ v.eqBase % 4096 = 0 ∧ 6 ≤ fld v.ringSize 3 0 ∧ 6 ≤ fld v.ringSize 11 8 ∧
      4 ≤ fld v.ringSize 19 16 ∧ fld v.ringSize 19 16 ≤ 12 ∧ (bit v.irq 31 = true → fld v.irq 10 0 < (if v.func = 0 then 2048 else 16)) ∧
      v.swapBase % 16384 = 0 ∧ v.swapBase + v.swapSize * 16384 ≤ 2 ^ 64
    (v.func ≠ f ∨ v.phase ≠ .disabled → Yields (.enable f c) s (fun u => u = s.bump)) ∧
    (v.func = f → s.d.funcOn f = true → v.phase = .disabled → good → v.eqLost = false → Yields (.enable f c) s (fun u =>
      u = { s.bump with d := s.d.bump.setCtx c { v with
        phase := .active, cause := 0, sqHead := 0, sqTail := 0, cqHead := 0, cqTail := 0, eqHead := 0, eqTail := 0, nextDsn := 0
        cqPhase := true, eqPhase := true, armed := true, fences := Vector.replicate 4 none, open_ := [], fetched := [], fetching := 0
        held := [], flushing := false, cqStall := false, pend := 0, evPend := false } })) ∧
    (v.func = f → s.d.funcOn f = true → v.phase = .disabled → ¬ good → Yields (.enable f c) s (fun u =>
      (u.d.ctx c).phase = .faulted ∧ (u.d.ctx c).cause = 0x01 ∧ OnlyRing s u c)) ∧
    (v.func ≠ f ∨ v.phase ≠ .active → Yields (.disable f c) s (fun u => u = s.bump)) ∧
    (v.func = f → s.d.funcOn f = true → v.phase = .active → Yields (.disable f c) s (fun u =>
      ((v.open_ ≠ [] ∨ v.fetching ≠ 0) → u = { s.bump with d := s.d.bump.setCtx c { v with phase := .draining } }) ∧
      (v.open_ = [] → v.fetching = 0 → (u.d.ctx c).phase = .disabled ∧ OnlyRing s u c ∧
        (2 ≤ v.eqFree → v.eqLost = false → EventWritten s u c 0x02 v.nextDsn)))) ∧
    ((v.func ≠ f ∧ f ≠ 0) ∨ v.phase = .resetPending → Yields (.reset f c) s (fun u => u.d.host = s.d.host ∧ u.d.svc = s.d.svc)) ∧
    ((v.func = f ∧ s.d.funcOn f = true) ∨ f = 0 → v.phase ≠ .resetPending → Yields (.reset f c) s (fun u =>
      Pending u c ∧ (u.d.ctx c).reset = some .cmd ∧ (u.d.ctx c).sqBase = v.sqBase ∧ (u.d.ctx c).func = v.func ∧
      (NoLost s → ∀ q : SeqSlot, (∀ p ∈ s.d.liveSeqs, p.1 = q → p.2.ctx ≠ c) → u.d.seq q = s.d.seq q) ∧ OnlyDevice s u))) ∧
  (∀ (s : State) (c : CtxId), let v := s.d.ctx c
    let done := v.phase = .resetPending ∧ s.d.readsOf c = false ∧ v.quarEnd ≤ hostNow s.env ∧ ∀ t ∈ v.waitTags, ∀ l ∈ s.d.svc.launches, l.tag ≠ t
    (¬ done → Yields (.contextResetComplete c) s (fun u => u = s.bump)) ∧
    (done → Yields (.contextResetComplete c) s (fun u => (u.d.ctx c).phase = .disabled ∧ (u.d.ctx c).nextDsn = 0 ∧ (u.d.ctx c).sqHead = 0 ∧
      (u.d.ctx c).sqTail = 0 ∧ (u.d.ctx c).reset = none ∧ OnlyRing s u c ∧
      (v.reset = some .cmd ∨ v.reset = some .bme → (u.d.ctx c).sqBase = v.sqBase ∧ (u.d.ctx c).ringSize = v.ringSize ∧ (u.d.ctx c).func = v.func ∧
        (u.d.ctx c).swapBase = v.swapBase) ∧
      (v.reset = some .flr → (u.d.ctx c).sqBase = 0 ∧ (u.d.ctx c).ringSize = 0x00040606 ∧ (u.d.ctx c).func = v.func ∧ (u.d.ctx c).loc = v.loc) ∧
      (v.reset = some .pfFlr → (u.d.ctx c).sqBase = 0 ∧ (u.d.ctx c).func = 0 ∧ (u.d.ctx c).loc = 0)))) ∧
  (∀ (s : State) (v : Word) (c : CtxId), c.val = fld (s.env.reg 0x4300) 11 0 →
    let taken := ∃ x : CtxId, x ≠ c ∧ (s.d.ctx x).func.val = fld v.toNat 8 0 ∧ (s.d.ctx x).loc = fld v.toNat 19 16
    (fld v.toNat 8 0 < 256 → (fld v.toNat 8 0 = 0 → fld v.toNat 19 16 = 0) → (fld v.toNat 8 0 ≠ 0 → ¬ taken) → (s.d.ctx c).phase = .disabled →
      Yields (.bsnCtxBind 0 v) s (fun u => (u.d.ctx c).func.val = fld v.toNat 8 0 ∧ (u.d.ctx c).loc = fld v.toNat 19 16 ∧ u.d.host.rejected = false ∧
        (∀ x : CtxId, x ≠ c → u.d.ctx x = s.d.ctx x) ∧ OnlyDevice s u ∧ u.d.fab = s.d.bump.fab)) ∧
    (256 ≤ fld v.toNat 8 0 ∨ (fld v.toNat 8 0 = 0 ∧ fld v.toNat 19 16 ≠ 0) ∨ (fld v.toNat 8 0 ≠ 0 ∧ taken) ∨ (s.d.ctx c).phase ≠ .disabled → Yields (.bsnCtxBind 0 v) s (fun u =>
      u = { s.bump with d := { s.d.bump with host := { s.d.host with rejected := true } } }))) ∧
  (∀ (s : State) (f : FuncId), Yields (.busMasterEnableClear f) s (fun u => u.d.canIssue f = false ∧
    (∀ c : CtxId, (s.d.ctx c).func = f → (u.d.ctx c).phase = .resetPending ∧ (u.d.ctx c).func = f ∧
      hostNow s.env + 2 * s.d.cto f ≤ (u.d.ctx c).quarEnd ∧ ((s.d.ctx c).phase ≠ .resetPending → Pending u c)) ∧
    (∀ (k : Nat) (t : TagSt), tget s.d.host.tags none k = some t → t.func = f → t.quar = none →
      tget u.d.host.tags none k = some { t with quar := some (hostNow s.env + 2 * s.d.cto f), timedOut := false }) ∧
    u.d.host.linkUp = s.d.host.linkUp ∧ u.d.host.vfs = s.d.host.vfs ∧ OnlyDevice s u)) ∧
  (∀ (s : State) (f : FuncId), (s.d.host.perst = true ∨ s.d.funcOn f = false → Yields (.busMasterEnableSet f) s (fun u => u = s.bump)) ∧
    (s.d.host.perst = false → s.d.funcOn f = true → Yields (.busMasterEnableSet f) s (fun u => u.d.canIssue f = true ∧
      (∀ g : FuncId, g ≠ f → tget u.d.host.bme false g.val = tget s.d.host.bme false g.val) ∧ (NoLost s → u.d.svc = s.d.svc) ∧ OnlyDevice s u))) ∧
  (∀ (s : State) (f : FuncId), f ≠ 0 → s.d.funcOn f = true → Yields (.functionLevelReset f) s (fun u => u.d.canIssue f = false ∧
    (∀ c : CtxId, (s.d.ctx c).func = f → (u.d.ctx c).phase = .resetPending ∧ (u.d.ctx c).func = f ∧ (u.d.ctx c).loc = (s.d.ctx c).loc ∧
      (u.d.ctx c).sqBase = 0 ∧ (u.d.ctx c).evLost = 0 ∧ (u.d.ctx c).dbDropped = 0 ∧
      ((s.d.ctx c).phase ≠ .resetPending → Pending u c ∧ (u.d.ctx c).reset = some .flr)) ∧ u.d.cfg f = CfgSt.init ∧ (∀ t ∈ u.d.host.atc, t.func ≠ f) ∧
    (∀ vec : Nat, vec < 4096 → tget u.d.host.msix MsixEntry.init (vecKey f vec) = MsixEntry.init) ∧ u.d.host.vfs = s.d.host.vfs ∧ OnlyDevice s u)) ∧
  (∀ (s : State), let everything := fun u : State => (∀ c : CtxId, (u.d.ctx c).phase = .resetPending ∧ (u.d.ctx c).sqBase = 0 ∧ (u.d.ctx c).dbDropped = 0 ∧ (u.d.ctx c).evLost = 0 ∧
      ((s.d.ctx c).phase ≠ .resetPending → Pending u c ∧ (u.d.ctx c).reset = some .pfFlr)) ∧ u.d.canIssue 0 = false ∧ u.d.host.vfs = 0 ∧
      ((∀ c : CtxId, (s.d.ctx c).phase ≠ .resetPending) → ∀ q : SeqSlot, u.d.seq q = none) ∧ u.d.lnk = s.d.lnk ∧ u.d.net = s.d.net ∧ OnlyDevice s u
    Yields (.functionLevelReset 0) s (fun u => everything u ∧ u.d.host.linkUp = s.d.host.linkUp) ∧
    Yields (.hostLinkLoss) s (fun u => everything u ∧ u.d.host.linkUp = false) ∧
    (s.d.host.perst = false → Yields (.perstNAssert) s (fun u => everything u ∧ u.d.host.linkUp = false ∧ u.d.host.perst = true)) ∧
    (s.d.host.perst = true → Yields (.perstNAssert) s (fun u => u.d.host = s.d.host ∧ u.d.svc = s.d.svc)) ∧
    Yields (.perstNDeassert) s (fun u => u = { s.bump with d := { s.d.bump with
      host := { s.d.host with perst := false, linkUp := s.d.lkk.basinUp || s.d.host.linkUp } } })) ∧
  (∀ (s : State) (f : FuncId) (page : Nat), f ≠ 0 → s.d.funcOn f = true → s.d.host.inval = [] →
    ((∀ (k : Nat) (t : TagSt), (k, some t) ∈ s.d.host.tags → t.quar = none → t.func = f → t.page ≠ page) → Yields (.atsInvalidation f page) s (fun u =>
      u = { s.bump with d := { s.d.bump with
        host := { s.d.host with atc := s.d.host.atc.filter (fun t => !(t.func == f && t.page == page)) }
        out := s.d.out ++ [.invalidateDone f.val page] } })) ∧
    (∀ (k : Nat) (t : TagSt), tget s.d.host.tags none k = some t → t.quar = none → t.func = f → t.page = page → Yields (.atsInvalidation f page) s (fun u =>
      u.d.out = s.d.out ∧ u.d.atcEntry f page = none ∧ ∃ ks, u.d.host.inval = [(f, page, ks)] ∧ k ∈ ks))) ∧
  (∀ (s : State) (tag : TagId) (t : TagSt) (f : FuncId) (page : Nat), tget s.d.host.tags none tag.val = some t → t.quar = none → t.use = .translate f page →
    (∀ bs : List Byte, let w := leAt (padTo 8 bs) 0 8
      bit w 0 = true ∨ bit w 1 = true → Yields (.hostReadCompletion tag (.data bs)) s (fun u =>
        u.d.atcEntry f page = some { func := f, page := page, dst := w / 4096, r := bit w 0, w := bit w 1 } ∧ u.d.host.atc.length ≤ 4096)) ∧
    (Yields (.hostReadCompletion tag .refused) s (fun u => u.d.atcEntry f page = none ∧
      (∀ p ∈ s.d.host.posts, p.func = f → p.vec = none → p.addr / 4096 = page → ∀ c, p.ctx = some c → (s.d.ctx c).phase = .active → (u.d.ctx c).phase = .faulted)))) ∧
  (∀ (s : State) (n : Fin 256), (s.d.host.vfs = 0 → Yields (.vfEnable n) s (fun u => u.d.host.vfs = n.val ∧ (NoLost s → u.d.svc = s.d.svc) ∧ OnlyDevice s u)) ∧
    (s.d.host.vfs ≠ 0 → Yields (.vfEnable n) s (fun u => u = s.bump)))

/-- DATA_FLIT: on a link that is UP, a good flit with SEQ = EXP is accepted, EXP advances, and the packets that end in it are delivered
(from a fenced half they are dropped and counted); the far end keeps what it has sent, arrived or not; one 1 to 2,047 behind is a
duplicate; any other, or a bad one, is discarded with one NAK and leaves EXP. IDLE_FLIT: an ACK in range frees OLDEST to a, one out of
range is ignored, a NAK also replays the rest in order. MAP: the transmitter takes the map and answers MAPACK with the PC. MAPACK with the
PC outstanding ends the proposal and counts; with another it is ignored. MAPACK_TIMEOUT repeats after 1 µs and proposes RETRAIN after 10
µs. RETRAIN takes an UP link to RECOVERY and is answered with EXP; RETRAINACK makes it UP. LNK_TIMEOUT with flits unacknowledged takes it
to RECOVERY. -/
def Obligations.LinkFlitsAreNumberedAndReplayed : Prop :=
  (∀ (s : State) (n : LinkId) (e : LinkEnd) (f : Flit) (r : FlitRx), (s.d.link n).phase ≠ .up → Yields (.dataFlit n e r) s (fun u => Becomes s u s.d.bump) ∧
    Yields (.idleFlit n e f) s (fun u => Becomes s u s.d.bump) ∧ Yields (.lnkTimeout n e) s (fun u => Becomes s u s.d.bump)) ∧
  (∀ (s : State) (n : LinkId) (e : LinkEnd) (f : Flit) (lost : List Flit), (s.d.link n).phase = .up → flitOk f = false →
    Yields (.idleFlit n e f) s (fun u => u.d.link n = { s.d.link n with crcErrs := Nat.min ((s.d.link n).crcErrs + 1) 0xFFFF } ∧ OnlyLink s u n) ∧
    Yields (.dataFlit n e { lost := lost, flit := f }) s (fun u => (u.d.link n).crcErrs = Nat.min ((s.d.link n).crcErrs + 1) 0xFFFF ∧
      ((u.d.link n).at_ e).exp = ((s.d.link n).at_ e).exp ∧
      (u.d.link n).at_ (endOther e) = sentAll s.time.ticks ((s.d.link n).at_ (endOther e)) lost ∧
      (((s.d.link n).at_ e).nakAt = none → ∃ rest, u.d.out = s.d.out ++ .flit n e (((s.d.link n).at_ e).idle true) :: rest) ∧
      (∀ t, ((s.d.link n).at_ e).nakAt = some t → s.time.ticks < t + 1 → (u.d.link n).at_ e = (s.d.link n).at_ e) ∧
      OnlyLink s u n)) ∧
  (∀ (s : State) (n : LinkId) (e : LinkEnd) (f : Flit) (lost : List Flit), (s.d.link n).phase = .up → GoodFlit f 1 →
    let v := (s.d.link n).at_ e
    let sent := sentAll s.time.ticks ((s.d.link n).at_ (endOther e)) lost
    let far := sentAll s.time.ticks sent [f]
    let come := takeFlit v.rx (fld (flitHdr f) 31 28) (flitPayload f)
    let seq := fld (flitHdr f) 11 0
    let k := (v.exp + 4096 - seq) % 4096
    (k = 0 → v.exp < 4096 → ¬ (sent.next = seq ∧ 2047 ≤ sent.unacked) → Yields (.dataFlit n e { lost := lost, flit := f }) s (fun u =>
      ((u.d.link n).at_ e).exp = (v.exp + 1) % 4096 ∧ ((u.d.link n).at_ e).nakAt = none ∧ ((u.d.link n).at_ e).rx = come.2 ∧
      (u.d.link n).phase = .up ∧ (u.d.link n).at_ (endOther e) = far ∧
      (e = .basin → s.d.fab.fenced[linkHalf n] = true → u.d.lnk.fenceDrops = Nat.min (s.d.lnk.fenceDrops + come.1.length) 0xFFFF) ∧
      (e = .half ∨ s.d.fab.fenced[linkHalf n] = false → (∃ a rest, u.d.out = s.d.out ++ a ++ come.1.map (Out.linkPacket n e) ++ rest) ∧
        u.d.lnk.fenceDrops = s.d.lnk.fenceDrops) ∧ OnlyLink s u n)) ∧
    (1 ≤ k → k ≤ 2047 → Yields (.dataFlit n e { lost := lost, flit := f }) s (fun u => (u.d.link n).at_ (endOther e) = far ∧
      (u.d.link n).dupFlits = Nat.min ((s.d.link n).dupFlits + 1) 0xFFFF ∧
      ((u.d.link n).at_ e).exp = v.exp ∧ ((u.d.link n).at_ e).nakAt = v.nakAt ∧ OnlyLink s u n)) ∧
    (2047 < k → Yields (.dataFlit n e { lost := lost, flit := f }) s (fun u => (u.d.link n).at_ (endOther e) = far ∧ ((u.d.link n).at_ e).exp = v.exp ∧
      (v.nakAt = none → ((u.d.link n).at_ e).nakAt = some s.time.ticks ∧ ∃ a rest, u.d.out = s.d.out ++ a ++ .flit n e (v.idle true) :: rest) ∧ OnlyLink s u n))) ∧
  (∀ (s : State) (n : LinkId) (e : LinkEnd) (f : Flit), (s.d.link n).phase = .up → GoodFlit f 0 → bit (flitHdr f) 24 = true →
    let v := (s.d.link n).at_ e
    let a := fld (flitHdr f) 23 12
    let k := (a + 4096 - v.oldest) % 4096
    (v.unacked ≤ k → bit (flitHdr f) 25 = false → Yields (.idleFlit n e f) s (fun u => Becomes s u s.d.bump)) ∧
    (k < v.unacked → Yields (.idleFlit n e f) s (fun u => ((u.d.link n).at_ e).buf = v.buf.drop (k + 1) ∧ ((u.d.link n).at_ e).next = v.next ∧
      ((u.d.link n).at_ e).timer = s.time.ticks ∧ (u.d.link n).at_ (endOther e) = (s.d.link n).at_ (endOther e) ∧ OnlyLink s u n ∧
      (bit (flitHdr f) 25 = false → (u.d.link n).replays = (s.d.link n).replays) ∧
      (bit (flitHdr f) 25 = true → v.next < 4096 → v.buf.length ≤ 2047 → (u.d.link n).replays = Nat.min ((s.d.link n).replays + 1) 0xFFFF ∧
        ∃ rest, u.d.out = s.d.out ++ (v.buf.drop (k + 1)).map (fun b => .flit n e (((u.d.link n).at_ e).again b)) ++ rest)))) ∧
  (∀ (s : State) (n : LinkId) (e : LinkEnd) (f : Flit), (s.d.link n).phase = .up ∨ (s.d.link n).phase = .recovery →
    let v := afterAck ((s.d.link n).at_ e) (flitHdr f) s.time.ticks
    let pc := leAt f.bytes 9 1
    let mine := rxDir (endOther e)
    (GoodCtl f 1 → leAt f.bytes 10 1 = mine → leAt f.bytes 11 1 ∈ [64, 32, 16] → v.prop = none → Yields (.mapMsg n e f) s (fun u =>
      (u.d.link n).at_ e = { v with txMap := BitVec.ofNat 66 (leAt f.bytes 12 9), txWidth := leAt f.bytes 11 1 } ∧
      (u.d.link n).at_ (endOther e) = (s.d.link n).at_ (endOther e) ∧ OnlyLink s u n ∧
      ∃ rest, u.d.out = s.d.out ++ .flit n e (({ v with txMap := BitVec.ofNat 66 (leAt f.bytes 12 9), txWidth := leAt f.bytes 11 1 } : EndSt).ctl 2 pc mine 0 0 0) :: rest)) ∧
    (GoodCtl f 1 → leAt f.bytes 10 1 ≠ mine ∨ leAt f.bytes 11 1 ∉ [64, 32, 16] ∨ v.retraining = true → Yields (.mapMsg n e f) s (fun u =>
      u.d.link n = (s.d.link n).setAt e v ∧ OnlyLink s u n)) ∧
    (GoodCtl f 1 → leAt f.bytes 10 1 = mine → leAt f.bytes 11 1 ∈ [64, 32, 16] → e = .half → v.prop ≠ none → v.retraining = false → Yields (.mapMsg n e f) s (fun u =>
      ((u.d.link n).at_ e).txMap = BitVec.ofNat 66 (leAt f.bytes 12 9) ∧ ((u.d.link n).at_ e).txWidth = leAt f.bytes 11 1)) ∧
    (GoodCtl f 1 → e = .basin → v.prop ≠ none → Yields (.mapMsg n e f) s (fun u => u.d.link n = (s.d.link n).setAt e v ∧ OnlyLink s u n)) ∧
    (∀ p, GoodCtl f 2 → v.prop = some p → (p.pc ≠ pc ∨ p.retrain = true → Yields (.mapack n e f) s (fun u => u.d.link n = (s.d.link n).setAt e v)) ∧
      (p.pc = pc → p.retrain = false → chooseWidth s.d.lnk.wcap (lanesGood v.good) = v.width → v.width ≠ 0 →
        (∀ i ∈ lanesUsed v.rxMap v.width, v.good.getLsbD i = true) → Yields (.mapack n e f) s (fun u =>
          u.d.link n = { ((s.d.link n).setAt e { v with prop := none }) with mapChanges := Nat.min ((s.d.link n).mapChanges + 1) 0xFF } ∧
          Tells s u 0x0301 (.halfLink n (rxDir e) 0x7F)))) ∧
    (GoodCtl f 3 → e = .basin → v.retraining = true → Yields (.retrain n e f) s (fun u => u.d.link n = (s.d.link n).setAt e v ∧ OnlyLink s u n)) ∧
    (GoodCtl f 3 → e = .half ∨ v.retraining = false → Yields (.retrain n e f) s (fun u => (u.d.link n).phase = .recovery ∧ ((u.d.link n).at_ e).prop = none ∧
      (leAt f.bytes 10 1 = mine → leAt f.bytes 11 1 ∈ [64, 32, 16] → ((u.d.link n).at_ e).txMap = BitVec.ofNat 66 (leAt f.bytes 12 9) ∧
        ((u.d.link n).at_ e).txWidth = leAt f.bytes 11 1) ∧
      (u.d.link n).retrains = (if (s.d.link n).phase = .up then Nat.min ((s.d.link n).retrains + 1) 0xFF else (s.d.link n).retrains) ∧
      ((u.d.link n).at_ e).exp = v.exp ∧ ((u.d.link n).at_ e).buf = (v.freeTo (leAt f.bytes 24 2 % 4096) s.time.ticks).buf ∧ OnlyLink s u n ∧
      ∃ rest, u.d.out = s.d.out ++ .flit n e (v.ctl 4 pc mine 0 0 v.exp) :: rest)) ∧
    (∀ p, GoodCtl f 4 → v.prop = some p → p.retrain = true → p.pc = pc → Yields (.retrainack n e f) s (fun u =>
      ((u.d.link n).at_ e).exp = v.exp ∧
      (chooseWidth s.d.lnk.wcap (lanesGood (s.d.link n).basin.good) ≠ 0 → chooseWidth s.d.lnk.wcap (lanesGood (s.d.link n).half.good) ≠ 0 →
        (u.d.link n).phase = .up ∧ (u.d.link n).tries = 0 ∧ (u.d.link n).basin.rxMap = (s.d.link n).basin.good ∧
        (u.d.link n).half.rxMap = (s.d.link n).half.good ∧ ((u.d.link n).at_ e).buf = (v.freeTo (leAt f.bytes 24 2 % 4096) s.time.ticks).buf) ∧
      (chooseWidth s.d.lnk.wcap (lanesGood (s.d.link n).basin.good) = 0 ∨ chooseWidth s.d.lnk.wcap (lanesGood (s.d.link n).half.good) = 0 →
        (u.d.link n).tries = (s.d.link n).tries + 1 ∧ (u.d.link n).phase = (if retrainMax s.env ≤ (s.d.link n).tries + 1 ∨ (s.d.link n).retry = true
          then .failed else (s.d.link n).phase))))) ∧
  (∀ (s : State) (n : LinkId) (e : LinkEnd) (p : Proposal), (s.d.link n).phase = .up → ((s.d.link n).at_ e).prop = some p → p.retrain = false →
    let v := (s.d.link n).at_ e
    (s.time.ticks < p.since + 10 → s.time.ticks < p.last + 1 → Yields (.mapackTimeout n e) s (fun u => Becomes s u s.d.bump)) ∧
    (s.time.ticks < p.since + 10 → p.last + 1 ≤ s.time.ticks → Yields (.mapackTimeout n e) s (fun u =>
      u.d.link n = (s.d.link n).setAt e { v with prop := some { p with last := s.time.ticks } } ∧ OnlyLink s u n ∧
      ∃ rest, u.d.out = s.d.out ++ .flit n e (v.ctl 1 p.pc (rxDir e) p.width p.good 0) :: rest)) ∧
    (p.since + 10 ≤ s.time.ticks → Yields (.mapackTimeout n e) s (fun u => (u.d.link n).phase = .recovery ∧
      (u.d.link n).retrains = Nat.min ((s.d.link n).retrains + 1) 0xFF ∧ ((u.d.link n).at_ e).rxMap = p.oldGood ∧ ((u.d.link n).at_ e).width = p.oldWidth ∧
      (∃ q, ((u.d.link n).at_ e).prop = some q ∧ q.retrain = true ∧ q.pc = (v.pc + 1) % 256) ∧ OnlyLink s u n))) ∧
  (∀ (s : State) (n : LinkId) (e : LinkEnd), (s.d.link n).phase = .up → let v := (s.d.link n).at_ e
    (v.unacked = 0 ∨ s.time.ticks < v.timer + lnkLimit s.env → Yields (.lnkTimeout n e) s (fun u => Becomes s u s.d.bump)) ∧
    (v.unacked ≠ 0 → v.timer + lnkLimit s.env ≤ s.time.ticks → Yields (.lnkTimeout n e) s (fun u => (u.d.link n).phase = .recovery ∧
      (u.d.link n).retrains = Nat.min ((s.d.link n).retrains + 1) 0xFF ∧ ((u.d.link n).at_ e).buf = v.buf ∧ ((u.d.link n).at_ e).exp = v.exp ∧ OnlyLink s u n)))

/-- LANE_BAD takes a lane out: with one lane in use gone the receiver proposes a map of the good lanes and the width of Table Basin-4, and
with fewer than 16 the link is FAILED. MARGIN_WARNING exchanges a weak lane in use for a spare at the same width. Training starts from
DOWN with light and clock; with 16 good lanes each way the link is UP, from DOWN with SEQ and EXP 0; otherwise the attempt counts, and the
last one makes the link FAILED with its flits dropped. FAILED_LINK_RETRY waits 1 s. The second trunk, the fourth link, or a lost clock of
it, fences the half: its work ends, its groups leave, 0x0303 is told. FENCE_LIFT brings it back when all holds. TIER2_LINK_UP commits the
decoders of R296; its loss clears them and ends the sequences with groups there, LOST until their end is reported. -/
def Obligations.LinksTrainFailAndHalvesAreFenced : Prop :=
  (∀ (s : State) (n : LinkId) (e : LinkEnd) (lane : Fin 66), let v := (s.d.link n).at_ e
    let good := v.good &&& ~~~(BitVec.ofNat 66 (2 ^ lane.val))
    let w := chooseWidth s.d.lnk.wcap (lanesGood good)
    (v.good.getLsbD lane.val = false → Yields (.laneBad n e lane) s (fun u => Becomes s u s.d.bump)) ∧
    (v.good.getLsbD lane.val = true → ((s.d.link n).phase ≠ .up ∧ (s.d.link n).phase ≠ .recovery) ∨ ((s.d.link n).phase = .recovery ∧ w ≠ 0) ∨
        (w ≠ 0 ∧ (v.prop ≠ none ∨ (w = v.width ∧ ∀ i ∈ lanesUsed v.rxMap v.width, good.getLsbD i = true))) →
      Yields (.laneBad n e lane) s (fun u => u.d.link n = (s.d.link n).setAt e { v with good := good } ∧ OnlyLink s u n)) ∧
    (v.good.getLsbD lane.val = true → (s.d.link n).phase = .up → v.prop = none → w ≠ 0 →
      w ≠ v.width ∨ (∃ i ∈ lanesUsed v.rxMap v.width, good.getLsbD i = false) → Yields (.laneBad n e lane) s (fun u =>
        ((u.d.link n).at_ e).good = good ∧ ((u.d.link n).at_ e).rxMap = good ∧ ((u.d.link n).at_ e).width = w ∧ ((u.d.link n).at_ e).pc = (v.pc + 1) % 256 ∧
        (∃ p, ((u.d.link n).at_ e).prop = some p ∧ p.retrain = false ∧ p.width = w ∧ p.good = good ∧ p.oldWidth = v.width ∧ p.oldGood = v.rxMap) ∧
        (u.d.link n).phase = .up ∧ OnlyLink s u n)) ∧
    (v.good.getLsbD lane.val = true → (s.d.link n).phase = .up ∨ (s.d.link n).phase = .recovery → w = 0 → Yields (.laneBad n e lane) s (fun u =>
      (u.d.link n).phase = .failed ∧ (u.d.link n).basin.buf = [] ∧ (u.d.link n).half.buf = [] ∧ ∀ m : LinkId, m ≠ n → u.d.link m = s.d.link m)) ∧
    (∀ regains : Bool, (s.d.link n).phase = .up → v.prop = none → v.width ≤ lanesGood good → lane.val ∈ lanesUsed v.rxMap v.width →
      Yields (.marginWarning n e lane regains) s (fun u => ((u.d.link n).at_ e).rxMap = good ∧ ((u.d.link n).at_ e).width = v.width ∧
        ((u.d.link n).at_ e).good = (if regains then v.good else good) ∧ ((u.d.link n).at_ e).prop ≠ none ∧ OnlyLink s u n)) ∧
    (∀ regains : Bool, (s.d.link n).phase ≠ .up ∨ v.prop ≠ none ∨ lanesGood good < v.width ∨ lane.val ∉ lanesUsed v.rxMap v.width → Yields (.marginWarning n e lane regains) s (fun u =>
      Becomes s u s.d.bump))) ∧
  (∀ n : Nat, chooseWidth 64 n = if 64 ≤ n then 64 else if 32 ≤ n then 32 else if 16 ≤ n then 16 else 0) ∧
  (∀ (s : State) (n : LinkId), let l := s.d.link n
    (l.phase = .down → s.d.lnk.wcap ≠ 0 → Yields (.linkTrainingStart n) s (fun u => u.d.link n = { l with phase := .training, clockLost := false } ∧ OnlyLink s u n)) ∧
    (l.phase ≠ .down ∨ s.d.lnk.wcap = 0 → Yields (.linkTrainingStart n) s (fun u => Becomes s u s.d.bump)) ∧
    (l.phase = .failed → s.d.lkkRuns = true → s.d.lnk.wcap ≠ 0 → l.failedAt + 1000000 ≤ s.time.ticks → Yields (.failedLinkRetry n) s (fun u =>
      u.d.link n = { l with phase := .training, retry := true, failedAt := s.time.ticks, clockLost := false } ∧ OnlyLink s u n)) ∧
    (s.time.ticks < l.failedAt + 1000000 ∨ s.d.lkkRuns = false ∨ s.d.lnk.wcap = 0 → Yields (.failedLinkRetry n) s (fun u => u = s.bump)) ∧
    (∀ bh hb : BitVec 66, let bh' := bh &&& s.fuse.linkOk n 0
      let hb' := hb &&& s.fuse.linkOk n 1
      let wh := chooseWidth s.d.lnk.wcap (lanesGood bh')
      let wb := chooseWidth s.d.lnk.wcap (lanesGood hb')
      (l.phase ≠ .training → l.phase ≠ .recovery → Yields (.linkTrainingComplete n bh hb) s (fun u => Becomes s u s.d.bump)) ∧
      (l.phase = .training → l.clockLost = false → wb ≠ 0 → wh ≠ 0 → Yields (.linkTrainingComplete n bh hb) s (fun u => (u.d.link n).phase = .up ∧ (u.d.link n).tries = 0 ∧
        (u.d.link n).basin.next = 0 ∧ (u.d.link n).basin.exp = 0 ∧ (u.d.link n).basin.buf = [] ∧ (u.d.link n).half.next = 0 ∧ (u.d.link n).half.exp = 0 ∧
        (u.d.link n).half.buf = [] ∧ (u.d.link n).basin.rxMap = hb' ∧ (u.d.link n).basin.width = wb ∧ (u.d.link n).basin.txMap = bh' ∧
        (u.d.link n).half.rxMap = bh' ∧ (u.d.link n).half.width = wh ∧ (u.d.link n).half.txMap = hb' ∧ OnlyLink s u n)) ∧
      (l.phase = .recovery → l.clockLost = false → wb ≠ 0 → wh ≠ 0 → Yields (.linkTrainingComplete n bh hb) s (fun u => (u.d.link n).phase = .up ∧
        (u.d.link n).basin.next = l.basin.next ∧ (u.d.link n).basin.exp = l.basin.exp ∧ (u.d.link n).half.exp = l.half.exp ∧
        (u.d.link n).basin.buf = (l.basin.freeTo l.half.exp s.time.ticks).buf ∧ (u.d.link n).half.buf = (l.half.freeTo l.basin.exp s.time.ticks).buf ∧ OnlyLink s u n)) ∧
      (l.phase = .training → l.clockLost = true ∨ wb = 0 ∨ wh = 0 → l.retry = false → l.tries + 1 < retrainMax s.env → Yields (.linkTrainingComplete n bh hb) s (fun u =>
        u.d.link n = { l with tries := l.tries + 1, phase := .down } ∧ OnlyLink s u n)) ∧
      (l.phase = .training ∨ l.phase = .recovery → l.clockLost = true ∨ wb = 0 ∨ wh = 0 → retrainMax s.env ≤ l.tries + 1 ∨ l.retry = true → (∃ m : LinkId, m ≠ n ∧ linkHalf m = linkHalf n ∧ (s.d.link m).phase ≠ .failed) →
        Yields (.linkTrainingComplete n bh hb) s (fun u => (u.d.link n).phase = .failed ∧
          u.d.lnk.fenceDrops = Nat.min (s.d.lnk.fenceDrops + (l.basin.buf.length + l.half.buf.length)) 0xFFFF ∧ OnlyLink s u n)))) ∧
  (∀ (s : State) (h : HalfId), s.d.fab.fenced[h] = false → NoLost s →
    let isFenced := fun (cause : FenceCause) (u : State) => u.d.fab.fenced[h] = true ∧ u.d.fab.halfUp[h] = false ∧ u.d.lnk.cause[h] = some cause ∧
      (∀ g : HalfId, g ≠ h → u.d.fab.fenced[g] = s.d.fab.fenced[g]) ∧
      (∀ (m : ModelSlotId) (q : SeqSlot) (v : Seq), (∃ t ∈ (s.d.model m).bind, tileHalf t = h) → s.d.seq q = some v → v.model = m.val → u.d.seq q = none) ∧
      (∀ r ∈ u.d.svc.queue, ∀ t ∈ (s.d.model (modelFin r.model)).bind, r.model < 16 → r.cont = false → tileHalf t ≠ h) ∧
      (∀ m ∈ u.d.svc.moves, s.d.moveTouches h m = false) ∧ (∀ p ∈ u.d.fab.ctl, tileHalf p.1 ≠ h) ∧ (∀ x ∈ u.d.fab.inbox, tileHalf (msgTile x) ≠ h) ∧ Tells s u 0x0303 (.half h) ∧ u.d.fab.cols = s.d.fab.cols
    (∀ (a b : Fin 2) (i j : Fin 4), a ≠ b → i.val = 2 * h.val + a.val → j.val = 2 * h.val + b.val → s.d.lnk.trunkOk[i] = true →
      (s.d.lnk.trunkOk[j] = true → Yields (.trunkFail h a) s (fun u => u.d.lnk.trunkOk = s.d.lnk.trunkOk.set i false ∧ Tells s u 0x0304 (.trunk h a.val) ∧
        (s.d.lnk.trunk[h] = a.val → u.d.lnk.trunk[h] = b.val) ∧ u.d.fab.fenced = s.d.fab.fenced ∧ u.d.svc = s.d.svc)) ∧
      (s.d.lnk.trunkOk[j] = false → Yields (.trunkFail h a) s (fun u => u.d.lnk.trunk[h] = 2 ∧ isFenced .towpath u))) ∧
    (∀ n : LinkId, linkHalf n = h → (s.d.link n).phase ≠ .down → (s.d.link n).phase ≠ .failed →
      (∀ m : LinkId, m ≠ n → linkHalf m = h → (s.d.link m).phase = .failed) → Yields (.linkClockLoss n) s (fun u =>
        (u.d.link n).phase = .failed ∧ (u.d.link n).clockLost = true ∧ isFenced .links u))) ∧
  (∀ (s : State) (n : LinkId), (s.d.link n).phase = .down → Yields (.linkClockLoss n) s (fun u => u.d.link n = { s.d.link n with clockLost := true } ∧ OnlyLink s u n)) ∧
  (∀ (s : State) (h : HalfId), s.d.fab.fenced[h] = true →
    ((s.d.lnk.cause[h] = some .mesh → s.d.fab.lostRoute h = none) → s.d.lkk.migWait = [] → s.d.lkk.migHeld = [] → s.d.thm.tripped = false → s.d.outOfReset h = true → s.d.railsUp h = true → s.d.linksConcluded h = true →
      s.d.lnk.trunk[h] ≠ 2 → s.d.fab.mapValid = true → s.d.halfTested h = true → Yields (.fenceLift h) s (fun u => u.d.fab.fenced[h] = false ∧
        u.d.fab.halfUp[h] = true ∧ u.d.lnk.cause[h] = none ∧ u.d.svc = s.d.svc ∧ u.d.fab.sites = s.d.fab.sites)) ∧
    ((s.d.lnk.cause[h] = some .mesh ∧ s.d.fab.lostRoute h ≠ none) ∨ s.d.thm.tripped = true ∨ s.d.outOfReset h = false ∨ s.d.railsUp h = false ∨
        s.d.linksConcluded h = false ∨ s.d.lnk.trunk[h] = 2 ∨ s.d.fab.mapValid = false ∨ s.d.halfTested h = false → Yields (.fenceLift h) s (fun u => u.d.fab.fenced[h] = true))) ∧
  (∀ (s : State) (caps : List Nat), s.d.lkkRuns = true →
    (s.d.lnk.t2.up = true ∨ s.d.lnk.t2.clock = false → Yields (.tier2LinkUp caps) s (fun u => u = s.bump)) ∧
    (s.d.lnk.t2.up = false → s.d.lnk.t2.clock = true → Yields (.tier2LinkUp caps) s (fun u => u.d.lnk.t2.up = true ∧ u.d.svc = { s.d.svc with t2Used := [] } ∧
      (∀ a b, caps = [a, b] ∨ caps = [a, 0, b] ∨ caps = [0, a, 0, b] → a = b → a % 256 = 0 → 2 * a ≤ 0x400000 → 0 < a → fld u.d.lnk.t2.dec[0] 30 29 = 1 ∧ fld u.d.lnk.t2.dec[0] 28 14 = 2 * (a / 256) ∧
        bit u.d.lnk.t2.dec[0] 31 = true ∧ fld u.d.lnk.t2.dec[0] 13 0 = 0 ∧ u.d.lnk.t2.dec[1] = 0) ∧
      (∀ a b, caps = [a, b] → a ≠ b → 256 ≤ a → 256 ≤ b → a + b < 0x400000 → fld u.d.lnk.t2.dec[0] 30 29 = 0 ∧ fld u.d.lnk.t2.dec[0] 28 14 = a / 256 ∧
        fld u.d.lnk.t2.dec[1] 28 14 = b / 256 ∧ fld u.d.lnk.t2.dec[1] 13 0 = a / 256)))) ∧
  (∀ s : State, s.d.lnk.t2.up = true → Yields (.tier2Lost) s (fun u => u.d.lnk.t2.up = false ∧ u.d.lnk.t2.dec = Vector.replicate 4 0 ∧ u.d.svc.t2Used = [] ∧
    Tells s u 0x0602 (.basinBlock 2) ∧ (∀ p ∈ s.d.liveSeqs, (∃ g ∈ p.2.groups, g.gst = 4 ∨ g.gst = 5 ∨ g.gst = 6) →
      u.d.seq p.1 = none ∨ ∃ v, u.d.seq p.1 = some v ∧ v.kst = 5 ∧ v.req ≠ none) ∧
    (∀ q : SeqSlot, (∀ p ∈ s.d.liveSeqs, p.1 = q → ∀ g ∈ p.2.groups, g.gst ≠ 4 ∧ g.gst ≠ 5 ∧ g.gst ≠ 6) → u.d.seq q = s.d.seq q))) ∧
  (∀ (s : State) (i : Nat) (m : Move), s.d.pickMove .tier2 = some (i, m) → m.kind ≠ .spill →
    (m.since + t2Limit s.env ≤ blockTicks s.time .barge → s.d.seq m.seq = none → (∀ t l k, m.kind ≠ .landing t l k) → Yields (.t2ReadTimeout) s (fun u =>
      u.d.lnk.t2.timeouts = Nat.min (s.d.lnk.t2.timeouts + 1) 0xFFFF ∧ u.d.svc = (s.d.takeMove i m).svc)) ∧
    (blockTicks s.time .barge < m.since + t2Limit s.env → Yields (.t2ReadTimeout) s (fun u => u = s.bump))) ∧
  (∀ (s : State) (q : SeqSlot) (p k : Nat) (more : List (SeqSlot × Nat × Nat)), s.d.svc.t2Acks = (q, p, k) :: more →
    (1 < k → Yields (.t2WriteAck) s (fun u => u = { s.bump with d := { s.d.bump with svc := { s.d.svc with t2Acks := (q, p, k - 1) :: more } } })) ∧
    (∀ (v : Seq) (g : Group), k = 1 → s.d.seq q = some v → v.groups.find? (fun g => g.pos0 == p && g.gst == 4) = some g → g.left = 0 →
      (∀ a ∈ more, ¬ (a.1 = q ∧ a.2.1 = p)) → s.d.belowLow s.env = false → s.d.svc.reclaiming = false → Yields (.t2WriteAck) s (fun u => u.d.svc.t2Acks = more ∧
        ∃ w : Seq, u.d.seq q = some w ∧ w.groups = (v.modGroup p (fun g => { g with gst := 5 })).groups)))

/-- PORT_ENABLE and PORT_DISABLE by the PF store NET_PORT_CFG unless EN = 1 and SPLIT or MAX_FRAME would change; the enabled ports beyond
those that the width lights are dark, the darkening waiting for every MAPACK. PORT_UP brings up a sub-port of an enabled, lit port with
its clock; LANE_LOCK_TIMEOUT takes the sub-port of the lane down; LANE_LOCK_LOSS counts codewords and leaves it up; a clock loss takes the
port down until its clock is back. ARP_REQUEST and NEIGHBOR_SOLICITATION for the SIP of a queue pair in RTS of the sub-port are answered
with its MAC, others dropped and counted. PFC_FRAME of an enabled priority pauses it, or resumes it with 0; PFC_PAUSE_EXPIRY resumes it at
its time. PTP_MESSAGE of the selected port, domain and transport makes the clock valid and moves the servo: LOCKED after 10 s within ±100
ns, cleared beyond ±1 µs; PTP_CLOCK_LOSS clears VALID. (A quantum of 512 bit times, assumption log 128, and when a Delay_Req is sent and
time is set, log 260, are the model's choices.) -/
def Obligations.PortsLanesAndClocks : Prop :=
  (∀ (s : State) (f : FuncId) (n : PortId) (v : Word), let old := portCfg s.env n
    (f ≠ 0 ∨ ¬ Keeps old v.toNat → Yields (.portEnable f n v) s (fun u => u = s.bump) ∧ Yields (.portDisable f n v) s (fun u => u = s.bump)) ∧
    (f = 0 → Keeps old v.toNat → let stored := fun u : State => portCfg u.env n = (v &&& 0xC0FF3FFF).toNat ∧
        (∀ o : Nat, o ≠ 0x200000 + 0x40 * n.val → u.env.reg o = s.env.reg o) ∧ OnlyDevice s u ∧
        u.d = { s.d.bump with regs := u.d.regs, net := { s.d.net with ports := u.d.net.ports } }
      (v.getLsbD 31 = true → Yields (.portEnable f n v) s (fun u => stored u ∧ ∀ m : PortId, u.d.port m =
        if (s.d.port m).dark = Unlit u m ∨ (Unlit u m = true ∧ s.d.mapsOpen = true) then s.d.port m
        else if Unlit u m then { s.d.port m with dark := true, up := 0, locked := 0 } else { s.d.port m with dark := false })) ∧
      (v.getLsbD 31 = false → Yields (.portDisable f n v) s (fun u => stored u ∧
        u.d.port n = { s.d.port n with dark := false, up := 0, locked := 0 } ∧ ∀ m : PortId, m ≠ n → u.d.port m =
        if (s.d.port m).dark = Unlit u m ∨ (Unlit u m = true ∧ s.d.mapsOpen = true) then s.d.port m
        else if Unlit u m then { s.d.port m with dark := true, up := 0, locked := 0 } else { s.d.port m with dark := false })))) ∧
  (∀ (s : State) (n : PortId) (sub : Fin 2), let p := s.d.port n
    let split := portSplit s.env n
    let may := portEn s.env n = true ∧ p.dark = false ∧ p.clkLost = false ∧ (sub = 0 ∨ split = true)
    (may → Yields (.portUp n sub) s (fun u => OnlyPort s u n ∧ u.d.port n = { p with
      up := p.up ||| BitVec.ofNat 2 (2 ^ sub.val)
      locked := p.locked ||| (if split then (if sub = 0 then 0x0F else 0xF0) else 0xFF) })) ∧
    (¬ may → Yields (.portUp n sub) s (fun u => u = s.bump))) ∧
  (∀ (s : State) (n : PortId) (lane : Fin 8), let p := s.d.port n
    (p.locked.getLsbD lane.val = false → Yields (.laneLockLoss n lane) s (fun u => u = s.bump) ∧ Yields (.laneLockTimeout n lane) s (fun u => u = s.bump)) ∧
    (p.locked.getLsbD lane.val = true →
      Yields (.laneLockLoss n lane) s (fun u => u.d.port n = { p with fecUncorr := (u.d.port n).fecUncorr } ∧
        (u.d.port n).fecUncorr ≤ 0xFFFF ∧ (p.fecUncorr ≤ 0xFFFF → p.fecUncorr ≤ (u.d.port n).fecUncorr) ∧ OnlyPort s u n) ∧
      Yields (.laneLockTimeout n lane) s (fun u => OnlyPort s u n ∧ u.d.port n = { p with
        up := p.up &&& ~~~(if portSplit s.env n = true ∧ 4 ≤ lane.val then 2#2 else 1#2)
        locked := p.locked &&& ~~~(BitVec.ofNat 8 (2 ^ lane.val)) }))) ∧
  (∀ (s : State) (n : PortId),
    Yields (.ethPortClockLoss n) s (fun u => u.d.port n = { s.d.port n with up := 0, locked := 0, clkLost := true } ∧ OnlyPort s u n) ∧
    Yields (.ethPortClockReturn n) s (fun u => u.d.port n = { s.d.port n with clkLost := false } ∧ OnlyPort s u n) ∧
    Yields .ptpClockLoss s (fun u => u.d.net = { s.d.net with ptp := { s.d.net.ptp with clkLost := true, valid := false, inSince := none } } ∧ OnlyNet s u ∧
      u.d.out = s.d.out) ∧
    Yields .ptpClockReturn s (fun u => u.d.net = { s.d.net with ptp := { s.d.net.ptp with clkLost := false } } ∧ OnlyNet s u ∧ u.d.out = s.d.out)) ∧
  (∀ (s : State) (n : PortId) (sub : Fin 2) (ip : BitVec 128), let c : Bool → Instr := fun v6 => if v6 then .neighborSolicitation n sub ip else .arpRequest n sub ip
    let ours := fun v6 : Bool => ∃ p ∈ s.d.net.qps, p.2.state = 1 ∧ p.2.port = n ∧ p.2.sub = sub ∧ p.2.f 4 30 30 = b2n v6 ∧ p.2.sip = ip.toNat
    ∀ v6 : Bool, (s.d.subUp n sub = false → Yields (c v6) s (fun u => u = s.bump)) ∧
      (s.d.subUp n sub = true → ours v6 → Yields (c v6) s (fun u => OnlyNet s u ∧ u.d.net = s.d.net ∧
        u.d.out = s.d.out ++ [.neighbor n sub.val (s.env.reg 0x200800 + s.env.reg 0x200804 * 2 ^ 32 + 2 * n.val + sub.val) ip.toNat])) ∧
      (s.d.subUp n sub = true → ¬ ours v6 → Yields (c v6) s (fun u => Dropped s u n))) ∧
  (∀ (s : State) (n : PortId) (prio : Fin 8) (quanta : BitVec 16), let p := s.d.port n
    let on := bit (portCfg s.env n) (16 + prio.val) = true
    let resumed := fun u : State => u.d.net.ports = s.d.net.ports.set n { p with pause := p.pause.set prio none } ∧ OnlyNet s u ∧
      u.d.net = { s.d.net with ports := u.d.net.ports, qps := u.d.net.qps }
    (¬ on → Yields (.pfcFrame n prio quanta) s (fun u => u = s.bump)) ∧
    (on → quanta ≠ 0 → Yields (.pfcFrame n prio quanta) s (fun u => OnlyPort s u n ∧ u.d.port n = { p with
      pause := p.pause.set prio (some (netNow s.env + quanta.toNat * 512 / (if portSplit s.env n then 400000 else 800000))) })) ∧
    (on → quanta = 0 → Yields (.pfcFrame n prio quanta) s resumed) ∧
    (∀ t, p.pause[prio] = some t → t ≤ netNow s.env → Yields (.pfcPauseExpiry n prio) s resumed) ∧
    (∀ t, p.pause[prio] = some t → netNow s.env < t → Yields (.pfcPauseExpiry n prio) s (fun u => u = s.bump)) ∧
    (p.pause[prio] = none → Yields (.pfcPauseExpiry n prio) s (fun u => u = s.bump))) ∧
  (∀ (s : State) (n : PortId) (sub : Fin 2) (m : PtpMsg), let c := s.env.reg 0x201010
    let now := netNow s.env
    let p := s.d.net.ptp
    let ours := bit c 6 = true ∧ fld c 3 0 = n.val ∧ fld c 4 4 = sub.val ∧ fld c 15 8 = m.domain.toNat ∧ bit c 7 = m.udp
    (s.d.subUp n sub = false → Yields (.ptpMessage n sub m) s (fun u => u = s.bump)) ∧
    (s.d.subUp n sub = true → ¬ ours → Yields (.ptpMessage n sub m) s (fun u => Dropped s u n)) ∧
    (s.d.subUp n sub = true → ours → p.clkLost = true ∨ s.d.lkkRuns = false → Yields (.ptpMessage n sub m) s (fun u => u = s.bump)) ∧
    (s.d.subUp n sub = true → ours → p.clkLost = false → s.d.lkkRuns = true → Yields (.ptpMessage n sub m) s (fun u =>
      u.d.net = { s.d.net with ptp := u.d.net.ptp } ∧ OnlyNet s u ∧ u.d.net.ptp.valid = true ∧ u.d.net.ptp.clkLost = false ∧
      (m.offset = none → u.d.net.ptp = { p with valid := true } ∧ u.d.out = s.d.out ++ [.ptpDelayReq n sub m.domain.toNat m.udp]) ∧
      ∀ x : Int, m.offset = some x → u.d.out = s.d.out ∧ u.d.net.ptp.offset = max (-32768) (min 32767 x) ∧ u.d.ptpNs u.env = s.d.ptpNs s.env - x ∧
        (x.natAbs ≤ 100 → u.d.net.ptp.inSince = some (p.inSince.getD now) ∧
          u.d.net.ptp.locked = (p.locked || decide (∃ t, p.inSince = some t ∧ t + 10000000 ≤ now))) ∧
        (100 < x.natAbs → u.d.net.ptp.inSince = none) ∧ (100 < x.natAbs → x.natAbs ≤ 1000 → u.d.net.ptp.locked = p.locked) ∧
        (1000 < x.natAbs → u.d.net.ptp.locked = false))))

/-- QP_RTS of a RESET record that is good enters RTS at the rate LINE; a bad one enters ERROR and is reported with an offset. QP_RESET
returns a record to RESET without its requests. A packet that no queue pair takes is dropped and counted. A SEND at the expected PSN
advances it and is acknowledged where asked; an older one is acknowledged again, a later one NAKed once; a request that no queue pair
serves is NAKed and counted. An ACK removes the requests up to its PSN and clears the retries; a sequence NAK, or RC_RETRY_TIMEOUT, sends
again from the oldest on, up to RETRY times, then the queue pair fails with its requests and its groups' operations; another NAK fails it
at once. RNR_NAK holds it for the timer named, after which all is sent again. CE brings a CNP at most once per CNP_GAP; a CNP lowers the
rate and RATE_INCREASE raises it by R310. (The times of the RNR codes are the model's, assumption log 117.) -/
def Obligations.QueuePairsCarryAndRetry : Prop :=
  (∀ (s : State) (f : FuncId) (i : QpId) (v : Word), let q := s.d.qp i
    let w := q.setF 0 31 0 v.toNat
    (f ≠ 0 ∨ q.state ≠ 0 ∨ fld v.toNat 2 0 ≠ 1 → Yields (.qpRts f i v) s (fun u => u = s.bump)) ∧
    (f = 0 → q.state = 0 → fld v.toNat 2 0 = 1 → GoodRecord w (portSplit s.env w.port) → Yields (.qpRts f i v) s (fun u =>
      (u.d.qp i).rcd = w.rcd ∧ (u.d.qp i).state = 1 ∧ (u.d.qp i).out = [] ∧ (u.d.qp i).wait = [] ∧ (u.d.qp i).una = w.sqPsn ∧ (u.d.qp i).tries = 0 ∧ (u.d.qp i).rx = 0 ∧
      (u.d.qp i).rate = { rc := Dy.ofInt (lineRate s.env w.port), rt := Dy.ofInt (lineRate s.env w.port), alpha := Dy.ofInt 1, stage := 0 } ∧
      OnlyQp s u i ∧ u.d.out = s.d.out)) ∧
    (f = 0 → q.state = 0 → fld v.toNat 2 0 = 1 → ¬ GoodRecord w (portSplit s.env w.port) → Yields (.qpRts f i v) s (fun u =>
      u.d.qp i = w.setF 0 2 0 2 ∧ (u.d.qp i).state = 2 ∧ (∀ j : QpId, j ≠ i → u.d.qp j = s.d.qp j) ∧ OnlyDevice s u ∧
      ∃ off ∈ ([0, 4, 8, 0xC, 0x1E, 0x14, 0x24, 0x34] : List Nat), u.d.fab.reports = s.d.fab.reports ++
        [{ code := 0x0704, suspect := .queuePair i.val, d1 := off, d2 := 0, ctx := none, action := 0, time := nowNs s.time }])) ∧
    (f ≠ 0 ∨ fld v.toNat 2 0 ≠ 0 → Yields (.qpReset f i v) s (fun u => u = s.bump)) ∧
    (f = 0 → fld v.toNat 2 0 = 0 → q.state = 0 → Yields (.qpReset f i v) s (fun u => u.d.qp i = w ∧ OnlyQp s u i ∧ u.d.out = s.d.out)) ∧
    (f = 0 → fld v.toNat 2 0 = 0 → q.state ≠ 0 → Yields (.qpReset f i v) s (fun u => (u.d.qp i).state = 0 ∧ (u.d.qp i).out = [] ∧ (u.d.qp i).wait = [] ∧
      (u.d.qp i).rx = 0 ∧ ((∀ r ∈ q.out ++ q.wait, r.export_ = none) → OnlyNet s u ∧ u.d.net = { s.d.net with ports := u.d.net.ports, qps := u.d.net.qps } ∧
        (∀ m : PortId, u.d.port m = { s.d.port m with sentPause := (u.d.port m).sentPause }) ∧ ∀ j : QpId, j ≠ i → (s.d.qp j).wait = [] → u.d.qp j = s.d.qp j) ∧
      ∀ r ∈ q.out ++ q.wait, ∀ c n, r.export_ = some (c, n) → ∀ x ∈ u.d.svc.exports, x.ctx = c → x.dsn ≠ n))) ∧
  (∀ (s : State) (p : RocePkt), (∀ i : QpId, ¬ Reaches s p i) → Yields (.roceSendReceive p) s (fun u => Dropped s u p.port) ∧
    Yields (.roceAck p) s (fun u => Dropped s u p.port) ∧ Yields (.rnrNak p) s (fun u => Dropped s u p.port) ∧
    Yields (.cnp p) s (fun u => Dropped s u p.port) ∧ Yields (.cePacket p) s (fun u => Dropped s u p.port)) ∧
  (∀ (s : State) (p : RocePkt) (i : QpId), Reaches s p i → p.ce = false → let q := s.d.qp i
    let psn := p.psn.toNat
    let n := (psn + 2 ^ 24 - q.rqPsn) % 2 ^ 24
    let send := (p.opcode.toNat ≤ 2 ∨ p.opcode = 4) ∧ q.owner = 2 ∧ q.ud = false
    let brim := pfcEn s.env q.port q.prio = false ∧ Config.portBuffer < s.d.rxFill q.port q.prio + p.payload.length
    let full := Config.rxBuffer < q.rx + p.payload.length
    (send → n = 0 → brim → Yields (.roceSendReceive p) s (fun u => Dropped s u p.port)) ∧
    (send → n = 0 → ¬ brim → full → Yields (.roceSendReceive p) s (fun u => OnlyNet s u ∧ u.d.net = s.d.net ∧
      u.d.out = s.d.out ++ [.roce (q.pkt 0x11 psn 0x21 [])])) ∧
    (send → n = 0 → ¬ brim → ¬ full → Yields (.roceSendReceive p) s (fun u => (u.d.qp i).rqPsn = (psn + 1) % 2 ^ 24 ∧ (u.d.qp i).nakSent = false ∧
      (u.d.qp i).rx = q.rx + p.payload.length ∧ OnlyNet s u ∧ u.d.net = { s.d.net with ports := u.d.net.ports, qps := u.d.net.qps } ∧
      (∀ j : QpId, j ≠ i → u.d.qp j = s.d.qp j) ∧ ∃ sent, PausesPeer s u i sent ∧
      u.d.out = s.d.out ++ sent ++ (if p.ackReq then [.roce (q.pkt 0x11 psn 0x1F [])] else []))) ∧
    (send → 2 ^ 23 ≤ n → Yields (.roceSendReceive p) s (fun u => u.d.net = s.d.net ∧ OnlyNet s u ∧
      u.d.out = s.d.out ++ [.roce (q.pkt 0x11 (q.rqPsn + 2 ^ 24 - 1) 0x1F [])])) ∧
    (send → n ≠ 0 → n < 2 ^ 23 → Yields (.roceSendReceive p) s (fun u => u.d.qp i = { q with nakSent := true } ∧ OnlyQp s u i ∧
      u.d.out = s.d.out ++ (if q.nakSent then [] else [.roce (q.pkt 0x11 q.rqPsn 0x60 [])]))) ∧
    (¬ send → q.ud = false → p.opcode.toNat ≤ 0x0C ∨ p.opcode = 0x13 ∨ p.opcode = 0x14 → Yields (.roceSendReceive p) s (fun u =>
      u.d.port p.port = { s.d.port p.port with rxDrop := Nat.min ((s.d.port p.port).rxDrop + 1) 0xFFFF } ∧ OnlyNet s u ∧
      u.d.net = { s.d.net with ports := u.d.net.ports } ∧
      u.d.out = s.d.out ++ [.roce (q.pkt 0x11 psn (if q.owner = 2 ∧ (p.opcode = 3 ∨ p.opcode = 5) then 0x61 else 0x62) [])])) ∧
    (q.ud = true → p.opcode = 0x64 ∧ q.owner = 2 → Yields (.roceSendReceive p) s (fun u => u = s.bump)) ∧
    (q.ud = true → ¬ (p.opcode = 0x64 ∧ q.owner = 2) → Yields (.roceSendReceive p) s (fun u => Dropped s u p.port)) ∧
    (ccEn s.env = true → q.ud = false → Yields (.cnp p) s (fun u => OnlyQp s u i ∧ u.d.out = s.d.out ∧ u.d.qp i = { q with
      incAt := netNow s.env
      rate := { rt := q.rate.rc, stage := 0
                rc := Dy.maxD (Dy.ofInt 100) (q.rate.rc.mul ((Dy.ofInt 1).sub (q.rate.alpha.mul ⟨1, -1⟩)))
                alpha := (q.rate.alpha.mul ⟨255, -8⟩).add ⟨1, -8⟩ } })) ∧
    (ccEn s.env = false ∨ q.ud = true → Yields (.cnp p) s (fun u => u = s.bump))) ∧
  (∀ (s : State) (p : RocePkt) (i : QpId), Reaches s p i → p.ce = false → let q := s.d.qp i
    let psn := p.psn.toNat
    let n := psnDist q.una psn
    let left := q.out.dropWhile (fun w => decide (psnDist q.una (w.psn + w.packets - 1) ≤ n))
    (p.syndrome.toNat / 32 = 0 → psnDist q.una q.sqPsn ≤ n → Yields (.roceAck p) s (fun u => u = s.bump)) ∧
    (p.syndrome.toNat / 32 = 0 → n < psnDist q.una q.sqPsn → (∀ r ∈ s.d.net.qps, r.2.wait = []) → (∀ r ∈ q.out, r.export_ = none) →
      Yields (.roceAck p) s (fun u => u.d.qp i = { q with out := left, una := (psn + 1) % 2 ^ 24, tries := 0, sentAt := netNow s.env } ∧
        OnlyQp s u i ∧ u.d.out = s.d.out)) ∧
    (p.syndrome.toNat / 32 = 0 → n < psnDist q.una q.sqPsn → ∀ x ∈ s.d.svc.exports, (∃ r ∈ q.out, r ∉ left ∧ r.export_ = some (x.ctx, x.dsn)) →
      (∀ r ∈ left ++ q.wait, r.export_ ≠ some (x.ctx, x.dsn)) → Yields (.roceAck p) s (fun u => ∀ y ∈ u.d.svc.exports, y.ctx = x.ctx → y.dsn ≠ x.dsn)) ∧
    (p.syndrome = 0x60 → psn = q.una → q.una < 2 ^ 24 → q.wait = [] → q.tries < q.retry → Yields (.roceAck p) s (fun u =>
      u.d.qp i = { q with tries := q.tries + 1, sentAt := netNow s.env, rnr := none } ∧ OnlyQp s u i ∧
      u.d.out = s.d.out ++ (if s.d.subUp q.port q.sub = true ∧ s.d.paused q = false then goBack q else []))) ∧
    (p.syndrome = 0x60 → psn = q.una → q.una < 2 ^ 24 → q.retry ≤ q.tries → Yields (.roceAck p) s (fun u => QpFails s u i)) ∧
    (p.syndrome.toNat / 32 = 3 → p.syndrome ≠ 0x60 → Yields (.roceAck p) s (fun u => QpFails s u i)) ∧
    (psn = q.una → q.una < 2 ^ 24 → q.out ≠ [] → Yields (.rnrNak p) s (fun u =>
      u.d.qp i = { q with rnr := some (netNow s.env + 10 * rnrUnits (p.syndrome.toNat % 32)) } ∧ OnlyQp s u i ∧ u.d.out = s.d.out))) ∧
  (∀ (s : State) (i : QpId), let q := s.d.qp i
    let due := q.state = 1 ∧ q.ud = false ∧ q.out ≠ [] ∧ q.rnr = none ∧ q.sentAt + cdiv (4096 * 2 ^ Nat.max 1 (q.f 0x10 20 16)) 1000 ≤ netNow s.env
    (¬ due → Yields (.rcRetryTimeout i) s (fun u => u = s.bump)) ∧
    (due → q.tries < q.f 0x10 23 21 → Yields (.rcRetryTimeout i) s (fun u =>
      u.d.qp i = { q with tries := q.tries + 1, sentAt := netNow s.env } ∧ OnlyQp s u i ∧
      u.d.out = s.d.out ++ (if s.d.subUp q.port q.sub = true ∧ s.d.paused q = false then goBack q else []))) ∧
    (due → q.f 0x10 23 21 ≤ q.tries → Yields (.rcRetryTimeout i) s (fun u => QpFails s u i)) ∧
    (∀ t, q.rnr = some t → q.state = 1 → t ≤ netNow s.env → q.wait = [] → Yields (.rnrTimerExpiry i) s (fun u =>
      u.d.qp i = { q with rnr := none, sentAt := netNow s.env } ∧ OnlyQp s u i ∧
      u.d.out = s.d.out ++ (if s.d.subUp q.port q.sub = true ∧ s.d.paused q = false then goBack q else []))) ∧
    (q.rnr = none ∨ q.state ≠ 1 ∨ (∃ t, q.rnr = some t ∧ netNow s.env < t) → Yields (.rnrTimerExpiry i) s (fun u => u = s.bump)) ∧
    (let mayRise := ccEn s.env = true ∧ q.state = 1 ∧ q.ud = false ∧ q.incAt + ccInc s.env ≤ netNow s.env
     let line := Dy.ofInt (lineRate s.env q.port)
     let rt := if q.rate.stage < 5 then q.rate.rt else Dy.minD line (q.rate.rt.add (Dy.ofInt (1000 * ccAi s.env)))
     (¬ mayRise → Yields (.rateIncrease i) s (fun u => u = s.bump)) ∧
     (mayRise → Yields (.rateIncrease i) s (fun u => OnlyQp s u i ∧ u.d.out = s.d.out ∧ u.d.qp i = { q with
       incAt := netNow s.env
       rate := { rt := rt, rc := Dy.minD line ((rt.add q.rate.rc).mul ⟨1, -1⟩), alpha := q.rate.alpha.mul ⟨255, -8⟩
                 stage := if q.rate.stage < 5 then q.rate.stage + 1 else q.rate.stage } })))) ∧
  (∀ (s : State) (p : RocePkt) (i : QpId), Reaches s p i → p.opcode ≠ 0x81 → p.opcode ≠ 0x11 → let q := s.d.qp i
    ((∀ t, q.cnpSent = some t → t + fld (s.env.reg 0x201000) 7 0 ≤ netNow s.env) → Yields (.cePacket p) s (fun u =>
      (∃ rest, u.d.out = s.d.out ++ .roce (q.pkt 0x81 0 0 []) :: rest) ∧ (u.d.qp i).cnpSent = some (netNow s.env))) ∧
    (∀ t, q.cnpSent = some t → netNow s.env < t + fld (s.env.reg 0x201000) 7 0 →
      exec (.cePacket p) s = exec (.roceSendReceive { p with ce := false }) s))

/-- GSTATE_HELLO by the PF ends the operations of the group, takes it to HELLO with no member heard and sends a HELLO to each; HELLO_TIMER
repeats that after 1 ms. A HELLO with another GROUP_ID or size fails the group; otherwise the member is heard, and when all are, the group
is READY at the lowest MAX, or FAILED where the levels do not overlap; in READY it ends the operations. GSTATE_OFF ends them too. A slice
of a contributor joins its operation; while the COLL image is switched it waits; for a group not READY, or with a field out of range, the
operation fails and its status is written. With the last contribution of an ALLREDUCE on a group of one, the sum, taken in ascending order
with one rounding each, is delivered. PARTIAL adds the local contributions and is passed on, or at the last rank begins the RESULT; RESULT
is passed on around the ring; GATHER keeps the contribution of its rank. A message that fits no READY group is dropped and counted.
COLL_ABORT and COLLECTIVE_TIMEOUT fail the operation. -/
def Obligations.CollectivesRunOrFail : Prop :=
  (∀ (s : State) (f : FuncId) (id : GroupId), s.d.net.held = [] → let g := s.d.group id
    let ended := fun u : State => (∀ o ∈ u.d.net.ops, o.group ≠ id) ∧ (∀ o ∈ s.d.net.ops, o.group ≠ id → o ∈ u.d.net.ops) ∧
      ∀ k : GroupId, k ≠ id → u.d.group k = s.d.group k
    (f ≠ 0 → Yields (.gstateHello f id) s (fun u => u = s.bump) ∧ Yields (.gstateOff f id) s (fun u => u = s.bump)) ∧
    (f = 0 → Yields (.gstateOff f id) s (fun u => ended u ∧ u.d.group id = { g with gstate := 0, level := 0, heard := [] })) ∧
    (f = 0 → (∃ r, r < g.n ∧ r ≠ g.rank) → Yields (.gstateHello f id) s (fun u => ended u ∧ HelloSent s u id ∧
      u.d.group id = { g with gstate := 1, level := 0, heard := [], helloAt := blockTicks s.time .collective })) ∧
    (g.gstate = 1 → g.helloAt + 1000 ≤ blockTicks s.time .collective → Yields (.helloTimer id) s (fun u => HelloSent s u id ∧
      u.d.group id = { g with helloAt := blockTicks s.time .collective } ∧ (∀ k : GroupId, k ≠ id → u.d.group k = s.d.group k) ∧ OnlyNet s u)) ∧
    (g.gstate ≠ 1 ∨ blockTicks s.time .collective < g.helloAt + 1000 → Yields (.helloTimer id) s (fun u => u = s.bump)) ∧
    (∀ hdr : BitVec 256, let h := hdr.toNat
      let r := hw h 0 31 24
      let good := hw h 0 23 22 = 0 ∧ hw h 2 15 3 = 0 ∧ hw h 2 31 26 = 0 ∧ hw h 6 31 23 = 0 ∧ hw h 0 7 0 = 1
      let others := g.heard.filter (fun y => decide (y.rank ≠ r))
      let heard := others ++ [{ rank := r, min := hw h 6 7 0, max := hw h 6 15 8 }]
      let lo := heard.foldl (fun m x => Nat.max m x.min) s.d.levelMin
      let hi := heard.foldl (fun m x => Nat.min m x.max) s.d.levelMax
      let alike := hw h 6 22 16 = g.n ∧ fld h 191 128 = g.gid
      (¬ good → Yields (.hello id hdr) s (fun u => OnlyNet s u ∧ u.d.net = { s.d.net with msgDropped := Nat.min (s.d.net.msgDropped + 1) 0xFFFF })) ∧
      (good → g.gstate = 0 ∨ g.gstate = 3 ∨ g.n ≤ r ∨ r = g.rank → Yields (.hello id hdr) s (fun u => u = s.bump)) ∧
      (good → g.gstate = 1 → r < g.n → r ≠ g.rank → let onlyGroup := fun u : State =>
          (∀ k : GroupId, k ≠ id → u.d.group k = s.d.group k) ∧ u.d.net = { s.d.net with groups := u.d.net.groups } ∧ OnlyNet s u ∧ u.d.out = s.d.out
        (¬ alike → Yields (.hello id hdr) s (fun u => u.d.group id = { g with gstate := 3, level := 0 } ∧ onlyGroup u)) ∧
        (alike → (∃ k, k < g.n ∧ k ≠ g.rank ∧ ∀ x ∈ heard, x.rank ≠ k) → Yields (.hello id hdr) s (fun u => u.d.group id = { g with heard := heard } ∧ onlyGroup u)) ∧
        (alike → (∀ k, k < g.n → k ≠ g.rank → ∃ x ∈ heard, x.rank = k) → Yields (.hello id hdr) s (fun u => onlyGroup u ∧
          u.d.group id = { g with heard := heard, gstate := if lo ≤ hi then 2 else 3, level := if lo ≤ hi then hi else 0 }))) ∧
      (good → g.gstate = 2 → r < g.n → r ≠ g.rank → Yields (.hello id hdr) s ended))) ∧
  (∀ (s : State) (t : TileId) (hdr : BitVec 256) (bs : List Byte), s.d.net.held = [] → let h := hdr.toNat
    let g := groupFin (hw h 0 13 8)
    let gr := s.d.group g
    let idx := hw h 2 9 0
    let n := hw h 5 15 0
    let off := hw h 4 31 0
    let codes := fun w : Nat => (List.range n).map (fun i => leAt bs (w * i) w)
    let clean := hw h 0 7 3 = 0 ∧ hw h 0 15 14 = 0 ∧ hw h 0 31 26 = 0 ∧ hw h 2 15 10 = 0 ∧ hw h 2 31 21 = 0 ∧ hw h 6 31 21 = 0 ∧ hw h 7 31 21 = 0
    (s.d.fab.fenced[tileHalf t] = true → s.d.collOp g (hw h 1 31 0) = none → Yields (.collectiveSlice t hdr bs) s (fun u => u = s.bump)) ∧
    (s.d.fab.fenced[tileHalf t] = false → ¬ clean → s.d.collOp g (hw h 1 31 0) = none → Yields (.collectiveSlice t hdr bs) s (fun u => OnlyNet s u ∧
      u.d.net = { s.d.net with msgDropped := Nat.min (s.d.net.msgDropped + 1) 0xFFFF, doomed := s.d.net.doomed ++ [(g, hw h 1 31 0)] })) ∧
    (s.d.fab.fenced[tileHalf t] = false → clean → s.d.collOp g (hw h 1 31 0) = none → s.d.net.ops = [] → s.d.net.doomed = [] →
      let c : Contrib := { idx := idx, tile := t, sem := hw h 2 20 16, retSd := hw h 6 20 0, statusSd := hw h 7 20 0 }
      let o := { sliceOp g h with since := some (blockTicks s.time .collective), contribs := [c] }
      let fits := gr.gstate = 2 ∧ (∀ r, r < gr.n → r ≠ gr.rank → (s.d.qp (gr.memberQp r)).state ≠ 2) ∧ levelOk gr.level o = true
      let inRange := 1 ≤ o.localN ∧ o.localN ≤ 512 ∧ idx < o.localN ∧ n * o.width ≤ 992 ∧ off + n ≤ o.elems ∧
        (o.op = 2 → o.root < gr.n * o.localN ∧ (n = 0 ∨ gr.rank * o.localN + idx = o.root)) ∧
        c.retSd + (if o.op = 3 then gr.n * o.localN * o.elems else o.elems) * o.width ≤ 0x1FF000 ∧ c.statusSd + 8 ≤ 0x1FF000
      (s.d.collQuiet = true → Yields (.collectiveSlice t hdr bs) s (fun u =>
        u.d.net = { s.d.net with held := [{ tile := t, hdr := hdr, elems := bs }] } ∧ OnlyNet s u ∧ u.d.out = s.d.out)) ∧ (s.d.collQuiet = false →
      (gr.gstate ≠ 2 → Yields (.collectiveSlice t hdr bs) s (fun u => OpFails s u o 7)) ∧
      (fits → ¬ inRange → Yields (.collectiveSlice t hdr bs) s (fun u => OpFails s u o 5)) ∧
      (fits → inRange → 2 ≤ o.localN → n ≠ 0 → (o.op = 2 → off + n < o.elems) → Yields (.collectiveSlice t hdr bs) s (fun u =>
        u.d.net = { s.d.net with ops := [{ o with slices := [(idx, off, codes o.width)] }] } ∧ OnlyNet s u ∧ u.d.out = s.d.out))))) ∧
  (∀ (s : State) (t : TileId) (hdr : BitVec 256) (bs : List Byte) (o : CollOp) (x : SiteIx) (xs : List (List Nat)), s.d.net.held = [] → let h := hdr.toNat
    let g := groupFin (hw h 0 13 8)
    let gr := s.d.group g
    let idx := hw h 2 9 0
    let n := hw h 5 15 0
    let c : Contrib := { idx := idx, tile := t, sem := hw h 2 20 16, retSd := hw h 6 20 0, statusSd := hw h 7 20 0 }
    let o' := { o with
      contribs := o.contribs ++ [c]
      slices := o.slices ++ [(idx, hw h 4 31 0, (List.range n).map (fun i => leAt bs (o.width * i) o.width))] }
    s.d.fab.fenced[tileHalf t] = false → sliceReserved h = false → s.d.collOp g (hw h 1 31 0) = some o → s.d.net.doomed = [] → gr.gstate = 2 →
    gr.n = 1 → gr.rank = 0 → levelOk gr.level o = true → o.op = 1 → o.since ≠ none → o.partials = [] → o.results = [] → o.sent = [] →
    (∀ y ∈ o.contribs, y.tile ≠ t) → sliceMismatch gr o t h = false → n ≠ 0 → 1 ≤ o.elems → o.elems ≤ 4096 → o'.contribs.length = o.localN →
    xs.length + 1 = o.localN → ∀ x0 : List Nat, o'.localChunk 0 0 = some x0 → (∀ k, k < xs.length → o'.localChunk (k + 1) 0 = xs[k]?) →
    Carries s t x → (∀ y ∈ o.contribs, s.d.fab.siteOf y.tile ≠ some x) →
    (c.retSd + o.elems * o.width ≤ c.statusSd ∨ c.statusSd + 8 ≤ c.retSd) → Yields (.collectiveSlice t hdr bs) s (fun u =>
      (∀ p ∈ u.d.net.ops, p.group = o.group → p.opSeq ≠ o.opSeq) ∧ u.d.net.opsFailed = s.d.net.opsFailed ∧
      (∀ k, k < 8 → (u.d.fab.site x).byte (c.statusSd + k) = (leBytes 4 0 ++ leBytes 4 o.opSeq).getD k 0) ∧
      ∀ k, k < o.elems * o.width → (u.d.fab.site x).byte (c.retSd + k) = (codeBytes o.width ((addAll x0 xs).map o.narrow)).getD k 0)) ∧
  (∀ (s : State) (q : QpId) (hdr : BitVec 256) (bs : List Byte) (g : GroupId) (o : CollOp), s.d.net.held = [] → s.d.collOp g (hw hdr.toNat 1 31 0) = some o →
    let h := hdr.toNat
    let gr := s.d.group g
    let ck := hw h 4 31 0
    let words := (List.range (bs.length / 4)).map (fun i => leAt bs (4 * i) 4)
    let start := if o.op = 1 then gr.n - 1 else o.root / Nat.max 1 o.localN
    let still := fun (u : State) (P : CollOp → Prop) => (∃ p ∈ u.d.net.ops, p.group = g ∧ p.opSeq = o.opSeq ∧ P p) ∨
      ((∀ p ∈ u.d.net.ops, p.group = g → p.opSeq ≠ o.opSeq) ∧ o.contribs.length = o.localN ∧ u.d.net.opsFailed = s.d.net.opsFailed)
    (∀ src, GoodMsg s q hdr bs g o 2 src (4 * o.chunkLen ck) → o.op = 1 → gr.rank ≠ 0 → src + 1 = gr.rank → ck < o.chunks → (∀ p ∈ o.partials, p.1 ≠ ck) →
      Yields (.partialMsg q hdr bs) s (fun u => still u (fun p => p.partials = o.partials ++ [(ck, words)]) ∧
        (gr.rank < gr.n → ∀ xs : List (List Nat), ck ∉ o.sent → xs.length = o.localN → (∀ k, k < o.localN → o.localChunk k ck = xs[k]?) →
          let sum := addAll words xs
          (gr.rank + 1 < gr.n → Collective s (gr.memberQp (gr.rank + 1)) → Posted u (gr.memberQp (gr.rank + 1)) (opHeader 2 gr.level g.val gr.rank o ck 0 ++ codeBytes 4 sum)) ∧
          (gr.rank + 1 = gr.n → (Collective s (gr.memberQp 0) → Posted u (gr.memberQp 0) (opHeader 3 gr.level g.val gr.rank o ck 0 ++ codeBytes 4 sum)) ∧
            still u (fun p => (ck, sum) ∈ p.results))))) ∧
    (GoodMsg s q hdr bs g o 3 ((gr.rank + gr.n - 1) % gr.n) (4 * o.chunkLen ck) → o.op ≠ 3 → 1 ≤ gr.n → gr.rank < gr.n → gr.rank ≠ start → ck < o.chunks →
      (∀ p ∈ o.results, p.1 ≠ ck) → Yields (.resultMsg q hdr bs) s (fun u => still u (fun p => (ck, words) ∈ p.results) ∧
        ((gr.rank + 1) % gr.n ≠ start → Collective s (gr.memberQp ((gr.rank + 1) % gr.n)) → Posted u (gr.memberQp ((gr.rank + 1) % gr.n)) (opHeader 3 gr.level g.val gr.rank o ck 0 ++ bs)))) ∧
    (∀ src, GoodMsg s q hdr bs g o 4 src (o.localN * o.elems * o.width) → o.op = 3 → src ≠ gr.rank → src < gr.n → (∀ p ∈ o.gathers, p.1 ≠ src) →
      Yields (.gatherMessage q hdr bs) s (fun u => still u (fun p =>
        (src, (List.range (bs.length / o.width)).map (fun i => leAt bs (o.width * i) o.width)) ∈ p.gathers)))) ∧
  (∀ (s : State) (q : QpId) (hdr : BitVec 256) (bs : List Byte), let g := groupFin (hw hdr.toNat 0 21 16)
    (s.d.group g).gstate ≠ 2 → s.d.collOp g (hw hdr.toNat 1 31 0) = none →
    let dropped := fun u : State => OnlyNet s u ∧ (u.d.qp q).rx = (s.d.qp q).rx - (32 + bs.length) ∧ (∀ j : QpId, j ≠ q → u.d.qp j = s.d.qp j) ∧
      u.d.net = { s.d.net with msgDropped := Nat.min (s.d.net.msgDropped + 1) 0xFFFF, ports := u.d.net.ports, qps := u.d.net.qps } ∧
      ∃ sent, u.d.out = s.d.out ++ sent ∧
        if s.d.subUp (s.d.qp q).port 0 = true ∨ s.d.subUp (s.d.qp q).port 1 = true then PausesPeer s u q sent else sent = []
    Collective s q → (s.d.qp q).state = 1 →
    Yields (.partialMsg q hdr bs) s dropped ∧ Yields (.resultMsg q hdr bs) s dropped ∧ Yields (.gatherMessage q hdr bs) s dropped) ∧
  (∀ (s : State) (g : GroupId) (hdr : BitVec 256), s.d.net.held = [] →
    (msgReserved hdr.toNat = false → (∀ o, s.d.collOp g (hw hdr.toNat 1 31 0) = some o → Yields (.collAbort g hdr) s (fun u => OpFails s u o 2)) ∧
      (s.d.collOp g (hw hdr.toNat 1 31 0) = none → Yields (.collAbort g hdr) s (fun u => u = s.bump))) ∧
    (msgReserved hdr.toNat = true → Yields (.collAbort g hdr) s (fun u => OnlyNet s u ∧
      u.d.net = { s.d.net with msgDropped := Nat.min (s.d.net.msgDropped + 1) 0xFFFF }))) ∧
  (∀ (s : State) (g : GroupId) (n : Word), s.d.net.held = [] →
    (∀ o t, s.d.collOp g n.toNat = some o → o.since = some t →
      (t + 1000 * clampN 1 10000 (fld (s.env.reg 0x201004) 15 0) ≤ blockTicks s.time .collective → Yields (.collectiveTimeout g n) s (fun u => OpFails s u o 1)) ∧
      (blockTicks s.time .collective < t + 1000 * clampN 1 10000 (fld (s.env.reg 0x201004) 15 0) → Yields (.collectiveTimeout g n) s (fun u => u = s.bump))) ∧
    ((∀ o, s.d.collOp g n.toNat = some o → o.since = none) → Yields (.collectiveTimeout g n) s (fun u => u = s.bump)))

/-- CART_PRESENCE of an ABSENT cartridge takes it to CHECKING. CART_CHECK_COMPLETE takes a CHECKING cartridge whose record, under the
fused key root, signature and continuity pass to SERVING with its rated and attainable output, else to REJECTED with a record; a cartridge
that served across a Basin reset stays SERVING or is lost. CART_LIGHT_LOSS and CART_I3C_SILENT of a SERVING or DRAINING cartridge, and
INTERLOCK_OPEN of one, lose it; an interlock that opens in CHECKING or REMOVE_OK fails it alone. CART_REMOVED makes it ABSENT. PREPARE by
the PF or PLDM, which is answered, is refused, with REFUSED, while another drains or is removable, where the capacity without k would be
below 3 without FORCE, or without the clock; else k drains with its life counters written. CANCEL returns it to SERVING,
CART_DRAIN_COMPLETE takes it to REMOVE_OK with drive 0. CART_TELEMETRY is taken every 100 ms, LIFE_COUNTER_WRITE every 10 minutes, EOL_FIT
every hour with one warning. The clock loss is reported once and stops what R332 names. -/
def Obligations.CartridgesServeAndAreReplaced : Prop :=
  (∀ (s : State) (k : CartId), let c := s.d.cart k
    let lit := c.cstate = .serving ∨ c.cstate = .draining
    let now := s.time.ticks
    (c.cstate = .absent → Yields (.cartPresence k) s (fun u => OnlyCart s u k { Cart.init with cstate := .checking, present := true })) ∧
    (c.cstate ≠ .absent → Yields (.cartPresence k) s (fun u => OnlyCart s u k { c with present := true })) ∧
    (∀ r : CartCheck, s.d.lkkRuns = true →
      let ok := r.recordOk = true ∧ r.rootKey = s.fuse.cartRoot ∧ r.signatureOk = true ∧ r.continuityOk = true
      (s.d.net.cartClkLost = true ∨ (c.cstate ≠ .checking ∧ (c.recheck = false ∨ c.cstate ≠ .serving)) → Yields (.cartCheckComplete k r) s (fun u => Becomes s u s.d.bump)) ∧
      (s.d.net.cartClkLost = false → c.cstate = .checking → ok → Yields (.cartCheckComplete k r) s (fun u => LightFollows u ∧
        (u.d.cart k).cstate = .serving ∧ (u.d.cart k).rated = r.rated ∧ (u.d.cart k).pmax = r.pmax ∧ (u.d.cart k).onHours = r.onHours ∧
        (u.d.cart k).driveHours = r.driveHours ∧ (∀ j : CartId, j ≠ k → (u.d.cart j).cstate = (s.d.cart j).cstate) ∧ OnlyDevice s u)) ∧
      (s.d.net.cartClkLost = false → c.cstate = .checking → ¬ ok → Yields (.cartCheckComplete k r) s (fun u =>
        u.d.net = { s.d.net with carts := s.d.net.carts.set k { c with cstate := .rejected } } ∧ Tells s u 0x0701 (.cartridge k) ∧ OnlyDevice s u)) ∧
      (s.d.net.cartClkLost = false → c.cstate = .serving → c.recheck = true →
        (ok → Yields (.cartCheckComplete k r) s (fun u => (u.d.cart k).cstate = .serving ∧ (u.d.cart k).recheck = false ∧ u.d.lnk = s.d.lnk ∧ OnlyDevice s u)) ∧
        (¬ ok → Yields (.cartCheckComplete k r) s (fun u => CartLost s u k)))) ∧
    (lit → Yields (.cartLightLoss k) s (fun u => CartLost s u k) ∧ Yields (.interlockOpen k) s (fun u => CartLost s u k) ∧
      (s.d.net.cartClkLost = false → Yields (.cartI3cSilent k) s (fun u => CartLost s u k)) ∧
      Yields (.cartRemoved k) s (fun u => u.d.cart k = Cart.init ∧ LightFollows u ∧ Tells s u 0x0701 (.cartridge k) ∧
        (∀ j : CartId, j ≠ k → (s.d.cart j).cstate = .serving ∨ (s.d.cart j).cstate = .draining → (u.d.cart j).cstate = .serving))) ∧
    (¬ lit → Yields (.cartLightLoss k) s (fun u => Becomes s u s.d.bump) ∧ Yields (.cartI3cSilent k) s (fun u => Becomes s u s.d.bump) ∧
      Yields (.cartRemoved k) s (fun u => OnlyCart s u k Cart.init)) ∧
    (s.d.net.cartClkLost = true → Yields (.cartI3cSilent k) s (fun u => Becomes s u s.d.bump)) ∧
    (c.cstate = .checking ∨ c.cstate = .removeOk → Yields (.interlockOpen k) s (fun u => Tells s u 0x0701 (.cartridge k) ∧ OnlyDevice s u ∧
      u.d.net = { s.d.net with carts := s.d.net.carts.set k { c with cstate := .failed, drive := 0, output := 0, boost := false } } ∧ u.d.lnk = s.d.lnk)) ∧
    (c.cstate = .absent ∨ c.cstate = .rejected ∨ c.cstate = .failed → Yields (.interlockOpen k) s (fun u => Becomes s u s.d.bump)) ∧
    (let busy := ∃ j : CartId, j ≠ k ∧ ((s.d.cart j).cstate = .draining ∨ (s.d.cart j).cstate = .removeOk)
     let less := s.d.lightWithout k
     let told := fun (u : State) (r : MgmtRsp) => Out.mgmt s.d.bump.pldmBinding r ∈ u.d.out.drop s.d.out.length
     (PldmServes s s.d.bump.pldmBinding → ∀ force : Bool,
      (s.d.net.cartClkLost = true ∨ busy ∨ (c.cstate = .serving ∧ less.1 < 3 * less.2) → Yields (.prepare .pldm k force) s (fun u =>
        u.d.net = { s.d.net with refused := true } ∧ u.d.lnk = s.d.lnk ∧ OnlyDevice s u ∧ told u .invalidData)) ∧
      (s.d.net.cartClkLost = false → ¬ busy → c.cstate = .serving → 3 * less.2 ≤ less.1 → Yields (.prepare .pldm k force) s (fun u =>
        (u.d.cart k).cstate = .draining ∧ u.d.net.refused = false ∧ ((u.d.cart k).memOn, (u.d.cart k).memDrive) = hoursNow c now ∧
        (∀ j : CartId, j ≠ k → (u.d.cart j).cstate = (s.d.cart j).cstate) ∧ LightFollows u ∧ u.d.regs = s.d.regs ∧ OnlyDevice s u ∧ told u .pldmOk)) ∧
      (c.cstate = .draining ∨ c.cstate = .removeOk → Yields (.cancelCartridge .pldm k) s (fun u => (u.d.cart k).cstate = .serving ∧
        (∀ j : CartId, j ≠ k → (u.d.cart j).cstate = (s.d.cart j).cstate) ∧ LightFollows u ∧ OnlyDevice s u ∧ told u .pldmOk))) ∧
     ∀ force : Bool, let via := CartPath.bar0 0
      (s.d.lkkRuns = true → s.d.net.cartClkLost = false → ¬ busy → c.cstate ≠ .serving → Yields (.prepare via k force) s (fun u =>
        u.d.net = { s.d.net with refused := false } ∧ u.d.lnk = s.d.lnk ∧ OnlyDevice s u)) ∧
      (s.d.lkkRuns = true → s.d.net.cartClkLost = true ∨ busy ∨ (c.cstate = .serving ∧ force = false ∧ less.1 < 3 * less.2) → Yields (.prepare via k force) s (fun u =>
        u.d.net = { s.d.net with refused := true } ∧ u.d.lnk = s.d.lnk ∧ OnlyDevice s u)) ∧
      (s.d.lkkRuns = true → s.d.net.cartClkLost = false → ¬ busy → c.cstate = .serving → force = true ∨ 3 * less.2 ≤ less.1 → Yields (.prepare via k force) s (fun u =>
        (u.d.cart k).cstate = .draining ∧ u.d.net.refused = false ∧ ((u.d.cart k).memOn, (u.d.cart k).memDrive) = hoursNow c now ∧
        (u.d.cart k).wroteAt = now ∧ (∀ j : CartId, j ≠ k → (u.d.cart j).cstate = (s.d.cart j).cstate) ∧ LightFollows u ∧
        bit (u.env.reg 0x202000) 5 = force ∧ fld (u.env.reg 0x202000) 1 0 = k.val ∧ OnlyDevice s u)) ∧
      (∀ f : FuncId, f ≠ 0 → Yields (.prepare (.bar0 f) k force) s (fun u => Becomes s u s.d.bump) ∧
        Yields (.cancelCartridge (.bar0 f) k) s (fun u => Becomes s u s.d.bump))) ∧
    (s.d.lkkRuns = true → c.cstate = .draining ∨ c.cstate = .removeOk → Yields (.cancelCartridge (.bar0 0) k) s (fun u => (u.d.cart k).cstate = .serving ∧
      (∀ j : CartId, j ≠ k → (u.d.cart j).cstate = (s.d.cart j).cstate) ∧ LightFollows u ∧ OnlyDevice s u)) ∧
    (s.d.lkkRuns = true → c.cstate ≠ .draining → c.cstate ≠ .removeOk → Yields (.cancelCartridge (.bar0 0) k) s (fun u => u.d.net = s.d.net ∧ u.d.lnk = s.d.lnk ∧ OnlyDevice s u)) ∧
    (c.cstate = .draining → Yields (.cartDrainComplete k) s (fun u => (u.d.cart k).cstate = .removeOk ∧ (u.d.cart k).drive = 0 ∧ (u.d.cart k).output = 0 ∧
      ((u.d.cart k).onHours, (u.d.cart k).driveHours) = hoursNow c now ∧ (∀ j : CartId, j ≠ k → u.d.cart j = s.d.cart j) ∧ u.d.lnk = s.d.lnk ∧ OnlyDevice s u)) ∧
    (c.cstate ≠ .draining → Yields (.cartDrainComplete k) s (fun u => Becomes s u s.d.bump)) ∧
    (∀ r : CartReading,
      (s.d.net.cartClkLost = true ∨ s.d.telemetry = false ∨ ¬ lit ∨ now < c.readAt + 100000 → Yields (.cartTelemetry k r) s (fun u => Becomes s u s.d.bump)) ∧
      (s.d.net.cartClkLost = false → s.d.telemetry = true → lit → c.readAt + 100000 ≤ now → Yields (.cartTelemetry k r) s (fun u => (u.d.cart k).pmax = r.pmax ∧
        (u.d.cart k).output = r.output ∧ (u.d.cart k).lines = r.lines ∧ (u.d.cart k).current = r.current ∧ (u.d.cart k).temp = r.temp ∧ (u.d.cart k).readAt = now ∧ (u.d.cart k).cstate = c.cstate ∧
        ((u.d.cart k).onHours, (u.d.cart k).driveHours) = hoursNow c now ∧ (∃ x, (u.d.cart k).samples = c.samples ++ [(x, r.pmax)]) ∧
        u.d.lnk.wcap = lightCap u.d.lightC ∧ OnlyDevice s u))) ∧
    (s.d.net.cartClkLost = true ∨ ¬ lit ∨ now < c.wroteAt + 600000000 → Yields (.lifeCounterWrite k) s (fun u => u = s.bump)) ∧
    (s.d.net.cartClkLost = false → lit → c.wroteAt + 600000000 ≤ now → Yields (.lifeCounterWrite k) s (fun u => ((u.d.cart k).memOn, (u.d.cart k).memDrive) = hoursNow c now ∧
      (u.d.cart k).wroteAt = now ∧ (u.d.cart k).cstate = c.cstate ∧ (u.d.cart k).drive = c.drive ∧ (∀ j : CartId, j ≠ k → u.d.cart j = s.d.cart j) ∧
      u.d.net = { s.d.net with carts := u.d.net.carts } ∧ OnlyNet s u ∧ u.d.out = s.d.out)) ∧
    (s.d.telemetry = false ∨ ¬ lit ∨ now < c.fitAt + 3600000000 → Yields (.eolFit k) s (fun u => u = s.bump)) ∧
    (s.d.telemetry = true → lit → c.fitAt + 3600000000 ≤ now → Yields (.eolFit k) s (fun u => (u.d.cart k).fitAt = now ∧ (u.d.cart k).cstate = c.cstate ∧
      (∀ j : CartId, j ≠ k → u.d.cart j = s.d.cart j) ∧
      (eolHours (u.d.cart k).samples (c.onHours * 3600000000 + c.onRest + (now - c.servedFrom)) c.rated = none →
        (u.d.cart k).eolHours = c.eolHours ∧ (u.d.cart k).eolWarn = c.eolWarn ∧ u.d.fab.reports = s.d.fab.reports) ∧
      ∀ h, eolHours (u.d.cart k).samples (c.onHours * 3600000000 + c.onRest + (now - c.servedFrom)) c.rated = some h → (u.d.cart k).eolHours = h ∧
        (fld (s.env.reg 0x202000) 31 16 ≤ h ∨ c.eolWarn = true → (u.d.cart k).eolWarn = c.eolWarn ∧ u.d.fab.reports = s.d.fab.reports) ∧
        (h < fld (s.env.reg 0x202000) 31 16 → (u.d.cart k).eolWarn = true) ∧
        (h < fld (s.env.reg 0x202000) 31 16 → c.eolWarn = false → Tells s u 0x0702 (.cartridge k))))) ∧
  (∀ s : State,
    (s.d.net.cartClkLost = false → Yields .cartControlClockLoss s (fun u => u.d.net = { s.d.net with cartClkLost := true } ∧ Tells s u 0x0703 (.basinBlock 10) ∧
      OnlyDevice s u ∧ u.d.lnk = s.d.lnk)) ∧
    (s.d.net.cartClkLost = true → Yields .cartControlClockLoss s (fun u => u = s.bump)) ∧
    Yields .cartControlClockReturn s (fun u => u.d.net = { s.d.net with cartClkLost := false } ∧ OnlyNet s u ∧ u.d.out = s.d.out)) ∧
  (∀ samples : List (Nat × Nat), ∀ now rated : Nat, (∀ p ∈ samples, ∀ q ∈ samples, p.1 = q.1) → eolHours samples now rated = none)

/-- WEIR_CONTROL_PERIOD takes the measurements, learns K of a cluster on which one phase was in flight, and assigns the points: an IDLE
cluster stays at 0, a busy one at or below its top, and one that is short of its top is at most one point below any other; where even
points 0 exceed the budget, all are at 0 with limits from 0.10 to 0.80 Gstep/s and CAP_LIMITED. Each move follows R337 and needs a Towpath
trunk; the sampler follows its cluster. In fixed-rate mode the bound clusters are at FIXED_POINT, or the mode is left and broken. Without
Weir or VAON nothing happens. RAIL_SETTLED lets a raised limit take effect. Each at its period: RING_MONITOR_READ sets the shift and the
ceiling, which never rises; SPARE_CHARACTERISATION of an OFF spare takes the new curve or reports; WEAR_SCORE gives AGE + HEAT;
POWER_BOND_CHECK compensates a drop. FIXED_EN enters, refuses or leaves the mode; WEIR_SILENCE moves a half to SAFE_POINT, WEIR_RESUME
restarts the windows; DERATE_END and TOP_POINT_RESTORE end theirs after their times. -/
def Obligations.WeirControlsThePower : Prop :=
  (∀ (s : State) (p : PowerMeas),
    (s.d.pwr.absent = true ∨ s.d.pwr.vaon = false → Yields (.weirControlPeriod p) s (fun u => u = s.bump)) ∧
    (s.d.pwr.absent = false → s.d.pwr.vaon = true → Yields (.weirControlPeriod p) s (fun u => OnlyWeir s u ∧
      u.d.pwr.hist = (measured s p).pwr.hist ∧ u.d.pwr.clMw = (measured s p).pwr.clMw ∧ u.d.pwr.other = p.otherMw ∧ u.d.pwr.capEff = s.d.capEffMw s.env ∧
      u.d.pwr.lastBcl = some ((measured s p).clusterBudget s.env) ∧
      (∀ c : ClusterId, (u.d.clp c).only = (match s.d.phasesOn c with | [q] => some q | _ => none) ∧
        (∀ a, p.clCur[c.val]? = some a → (u.d.clp c).cur = a) ∧
        (∀ q, (s.d.clp c).only = some q → (v2f (s.d.clp c).volt (s.d.clp c).lim).num ≠ 0 →
          let k := s.d.coef s.env c q
          let x := ((Frac.mk2 (p.clMw[c.val]?.getD 0 : Nat) 1000).sub (leakage s.env c (25 * (s.d.clp c).volt) (s.d.clusterTemp c))).div (v2f (s.d.clp c).volt (s.d.clp c).lim)
          let w := Frac.mk2 1 (2 ^ learnShift s.env)
          tget (u.d.clp c).coef none q = some ((k.add (x.mul w)).sub (k.mul w))) ∧
        ((s.d.clp c).only = none → (u.d.clp c).coef = (s.d.clp c).coef) ∧
        (¬ Controls s (clusterHalf c) → (u.d.clp c).pt = (s.d.clp c).pt ∧ (u.d.clp c).lim = (s.d.clp c).lim ∧ (u.d.clp c).vset = (s.d.clp c).vset)) ∧
      (s.d.pwr.fixed = false → u.d.pwr.fixed = false ∧
        (u.d.pwr.capLimited = false →
          (∀ c : ClusterId, Controls s (clusterHalf c) → MovedTo s u c (u.d.clp c).pt (80 + 5 * (u.d.clp c).pt) ∧ SamplerPaced s u c ∧
            (s.d.fab.fenced[clusterHalf c] = true ∨ s.d.phasesOn c = [] → (u.d.clp c).pt = 0) ∧
            (s.d.fab.fenced[clusterHalf c] = false → (u.d.clp c).pt ≤ s.d.topPoint s.env c)) ∧
          (∀ a b : ClusterId, Controls s (clusterHalf a) → Controls s (clusterHalf b) → s.d.fab.fenced[clusterHalf a] = false →
            s.d.phasesOn a ≠ [] → (u.d.clp a).pt < s.d.topPoint s.env a → (u.d.clp b).pt ≤ (u.d.clp a).pt + 1)) ∧
        (u.d.pwr.capLimited = true → ∃ lim : Nat, 10 ≤ lim ∧ lim ≤ 80 ∧ ∀ c : ClusterId, Controls s (clusterHalf c) →
          MovedTo s u c 0 (if s.d.fab.fenced[clusterHalf c] = false ∧ s.d.phasesOn c ≠ [] then lim else 80))) ∧
      (s.d.pwr.fixed = true → u.d.pwr.fixed = true → ∀ c : ClusterId, Controls s (clusterHalf c) → s.d.bound c = true →
        MovedTo s u c (fixedPoint s.env) (80 + 5 * fixedPoint s.env)) ∧
      (s.d.pwr.fixed = true → u.d.pwr.fixed = true → ∀ c : ClusterId, Controls s (clusterHalf c) → s.d.bound c = false → MovedTo s u c 0 80) ∧
      (s.d.pwr.fixed = true → u.d.pwr.fixed = false → u.d.pwr.broken = true ∧ bit (u.env.reg 0x400040) 31 = false)))) ∧
  (∀ (s : State) (c : ClusterId), let v := s.d.clp c
    (v.volt = v.vset → v.raise = none → Yields (.railSettled c) s (fun u => u = s.bump)) ∧
    (v.volt ≠ v.vset ∨ v.raise ≠ none → Yields (.railSettled c) s (fun u => u.d.clp c = { v with volt := v.vset, lim := v.raise.getD v.lim, raise := none } ∧
      (∀ k : ClusterId, k ≠ c → u.d.clp k = s.d.clp k) ∧ Paced u c ∧ SamplerPaced s u c ∧ OnlyWeir s u)) ∧
    (∀ drop cur : Nat, let w := cdiv (drop * 400) cur
      let due := s.d.pwr.absent = false ∧ v.bondAt + 1000000 ≤ pwrNow s.env
      (¬ due → Yields (.powerBondCheck c drop cur) s (fun u => u = s.bump)) ∧
      (due → drop ≤ 150 ∨ cur < 200 ∨ w ≤ v.bond → Yields (.powerBondCheck c drop cur) s (fun u => u.d.clp c = { v with bondAt := pwrNow s.env } ∧
        (∀ k : ClusterId, k ≠ c → u.d.clp k = s.d.clp k) ∧ u.d.fab.reports = s.d.fab.reports ∧ OnlyWeir s u)) ∧
      (due → 150 < drop → 200 ≤ cur → v.bond < w → Yields (.powerBondCheck c drop cur) s (fun u => (u.d.clp c).bond = w ∧ (u.d.clp c).bondAt = pwrNow s.env ∧
        (u.d.clp c).pt = v.pt ∧ (∀ k : ClusterId, k ≠ c → u.d.clp k = s.d.clp k) ∧ OnlyWeir s u ∧
        (v.bondTold = 0 ∨ v.bondTold + 50 ≤ w → Tells s u 0x0403 (.bank (clusterHalf c) (clusterPcl c))) ∧
        (v.bondTold ≠ 0 → w < v.bondTold + 50 → u.d.fab.reports = s.d.fab.reports)))) ∧
    (∀ t, v.lowered = some t → (t + 1000000 ≤ pwrNow s.env → Yields (.topPointRestore c) s (fun u => u.d.clp c = { v with lowered := none } ∧ OnlyWeir s u)) ∧
      (pwrNow s.env < t + 1000000 → Yields (.topPointRestore c) s (fun u => u = s.bump))) ∧
    (v.lowered = none → Yields (.topPointRestore c) s (fun u => u = s.bump))) ∧
  (∀ (s : State) (rs : List RingReading),
    let due := s.d.pwr.absent = false ∧ s.d.pwr.ringAt + 1000000 ≤ pwrNow s.env
    (¬ due → Yields (.ringMonitorRead rs) s (fun u => u = s.bump)) ∧
    Yields (.ringMonitorRead rs) s (fun u => (∀ x : SiteIx, u.d.ceilOf s.env x ≤ s.d.ceilOf s.env x) ∧ OnlyWeir s u ∧ u.d.pwr.cls = s.d.pwr.cls) ∧
    (∀ r : RingReading, rs = [r] → due → (s.d.charOf s.env r.site).ring ≠ 0 → Yields (.ringMonitorRead rs) s (fun u =>
      let a := (Frac.ofNat 1).sub (Frac.mk2 r.freq (s.d.charOf s.env r.site).ring)
      let fused := (tget s.fuse.chars SiteChar.typical r.site.val).ceiling
      let now := ((Frac.ofNat fused).mul ((Frac.ofNat 1).sub a)).floor.toNat
      u.d.ageOf r.site = a ∧ u.d.ceilOf s.env r.site = Nat.min (s.d.ceilOf s.env r.site) now ∧
      (∀ x : SiteIx, x ≠ r.site → u.d.ageOf x = s.d.ageOf x ∧ u.d.ceilOf s.env x = s.d.ceilOf s.env x) ∧
      (Nat.min (s.d.ceilOf s.env r.site) now < 80 → r.site.val ∉ s.d.pwr.told → Tells s u 0x0102 (.site r.site)) ∧
      (80 ≤ Nat.min (s.d.ceilOf s.env r.site) now ∨ r.site.val ∈ s.d.pwr.told → u.d.fab.reports = s.d.fab.reports))) ∧
    (∀ (x : SiteIx) (r : SiteChar), let spare := (s.d.fab.cluster (siteCluster x)).spare = some (siteFin x) ∧ s.d.siteBad x = false ∧
        (s.d.dom (domOf x)).state = .off ∧ s.d.bankSt (siteHalf x) (sitePcl x) = .up ∧
        (tget s.d.pwr.charAt 0 x.val + 604800000000 ≤ pwrNow s.env)
      (¬ spare ∨ s.d.pwr.absent = true → Yields (.spareCharacterisation x r) s (fun u => Becomes s u s.d.bump)) ∧
      (spare → s.d.pwr.absent = false → r.pass = true → Yields (.spareCharacterisation x r) s (fun u => tget u.d.pwr.chars none x.val = some r ∧
        u.d.ageOf x = Frac.zero ∧ u.d.ceilOf s.env x = Nat.min (s.d.ceilOf s.env x) r.ceiling ∧ OnlyDevice s u)) ∧
      (spare → s.d.pwr.absent = false → r.pass = false → Yields (.spareCharacterisation x r) s (fun u => Tells s u 0x0103 (.site x) ∧
        u.d.pwr.chars = s.d.pwr.chars ∧ u.d.pwr.ceil = s.d.pwr.ceil ∧ u.d.pwr.age = s.d.pwr.age)))) ∧
  (∀ s : State,
    (s.d.pwr.absent = true ∨ pwrNow s.env < s.d.pwr.wearAt + 100000 → Yields .wearScore s (fun u => u = s.bump)) ∧
    (s.d.pwr.absent = false → s.d.pwr.wearAt + 100000 ≤ pwrNow s.env → Yields .wearScore s (fun u => OnlyDevice s u ∧
      u.d = { s.d.bump with svc := { s.d.svc with wear := u.d.svc.wear }, pwr := { s.d.pwr with wearAt := pwrNow s.env } } ∧
      ∀ x : SiteIx, tget u.d.svc.wear 0 x.val = if (∃ c : ClusterId, x ∈ s.d.carriers c) then
        Nat.min 255 (((s.d.ageOf x).mul (Frac.ofNat 2000)).floor.toNat + ((s.d.meanTemp x).sub (Frac.ofNat 60)).floor.toNat) else tget s.d.svc.wear 0 x.val)) ∧
    (∀ (f : FuncId) (v : Word), let k := Nat.min 16 (fld v.toNat 12 8)
      let stored := fun (u : State) => fld (u.env.reg 0x400040) 4 0 = fld v.toNat 4 0 ∧ fld (u.env.reg 0x400040) 12 8 = fld v.toNat 12 8 ∧
        (bit v.toNat 29 = true → u.d.pwr.broken = false) ∧ (bit v.toNat 29 = false → u.d.pwr.broken = s.d.pwr.broken) ∧ u.d.pwr.cls = s.d.pwr.cls ∧ OnlyWeir s u
      (f ≠ 0 → Yields (.fixedEn f v) s (fun u => u = s.bump)) ∧
      (f = 0 → bit v.toNat 31 = true → s.d.fixedRefused s.env k = true → Yields (.fixedEn f v) s (fun u => stored u ∧ u.d.pwr.fixed = false ∧ u.d.pwr.refused = true)) ∧
      (f = 0 → bit v.toNat 31 = true → s.d.fixedRefused s.env k = false → Yields (.fixedEn f v) s (fun u => stored u ∧ u.d.pwr.fixed = true ∧
        u.d.pwr.refused = false ∧ bit (u.env.reg 0x400040) 31 = true)) ∧
      (f = 0 → bit v.toNat 31 = false → Yields (.fixedEn f v) s (fun u => stored u ∧ u.d.pwr.fixed = false)) ∧
      ((∃ c : ClusterId, s.d.bound c = true ∧ s.d.pointOk s.env c k = false) ∨ s.env.maxCadence < 80 + 5 * k → s.d.fixedRefused s.env k = true)) ∧
    (∀ h : HalfId, Yields (.weirSilence h) s (fun u => u.d.pwr.absent = true ∧ OnlyWeir s u ∧ ∀ c : ClusterId,
      (clusterHalf c = h → s.d.pwr.ctl[h] = true → MovedTo s u c (safePoint s.env) (80 + 5 * safePoint s.env)) ∧
      (clusterHalf c ≠ h ∨ s.d.pwr.ctl[h] = false → u.d.clp c = s.d.clp c))) ∧
    (s.d.pwr.absent = true → Yields .weirResume s (fun u => OnlyDevice s u ∧ u.d = { s.d.bump with
      pwr := { s.d.pwr with absent := false, hist := [], lastBcl := none, clMw := 0 }, thm := { s.d.thm with resync := true } })) ∧
    (s.d.pwr.absent = false → Yields .weirResume s (fun u => u = s.bump)) ∧
    (∀ t, s.d.pwr.alertAt = some t →
      (t + 1000 * Nat.max 1 (fld (s.env.reg 0x400020) 15 8) ≤ pwrNow s.env → Yields .derateEnd s (fun u => OnlyDevice s u ∧
        u.d = { s.d.bump with pwr := { s.d.pwr with derated := false, alertAt := none } })) ∧
      (pwrNow s.env < t + 1000 * Nat.max 1 (fld (s.env.reg 0x400020) 15 8) → Yields .derateEnd s (fun u => u = s.bump))) ∧
    (s.d.pwr.alertAt = none → Yields .derateEnd s (fun u => u = s.bump)))

/-- POWER_ON_ORDER of an OFF domain with its bank up begins the ramp, with its sampler, or waits while four sites of the cluster ramp.
HEADER_STAGE_CLOSE closes the next stage, latches the domain below its target, and after stage 7 makes it ON; the last ramp of a half
begins control at SAFE_POINT. RAMP_FAULT and DOMAIN_SHORT latch and are reported. POWER_OFF_ORDER and, after 1 s unbound, SITE_UNBIND_OFF
make it OFF. RETRY_ORDER ramps a LATCHED one that has latched at most once. BANK_SHORT_LATCH latches a bank once: a cluster bank takes its
domains OFF, any other fences the half, and VIN takes every bank with it. BANK_SOFT_START_DONE brings a bank up and starts what follows
it. DOMAIN_ON, DOMAIN_OFF and DOMAIN_RETRY do the same for a domain, or for a bank, by PCL and UNIT, and answer over the Towpath: nothing
without a trunk, NOT_POWERED without VIN, DISCARDED for an unknown unit or a retry that R346 bars (those two answers are the model's
choice, assumption log 201). -/
def Obligations.DomainsAndBanksRampAndLatch : Prop :=
  (∀ (s : State) (i : DomainIx), let v := s.d.dom i
    let up := s.d.bankSt (domHalf i) (domPcl i) = .up
    let ramping := ((List.range 17).filter (fun n => decide ((s.d.dom (domAt (domHalf i).val (domPcl i) n)).state = .ramping))).length
    let bad := domUnit i < 17 ∧ s.d.siteBad (siteOfNat (272 * (domHalf i).val + 17 * domPcl i + domUnit i)) = true
    (v.state ≠ .off ∨ ¬ up ∨ bad → Yields (.powerOnOrder i) s (fun u => Becomes s u s.d.bump)) ∧
    (v.state = .off → up → ¬ bad → s.d.pwr.orders = [] → let sampler := domAt (domHalf i).val (domPcl i) 17
      (domUnit i = 17 ∨ ramping < 4 → Yields (.powerOnOrder i) s (fun u => (u.d.dom i).state = .ramping ∧ (u.d.dom i).stage = 0 ∧ u.d.pwr.orders = [] ∧
        ((s.d.dom sampler).state = .off → (u.d.dom sampler).state = .ramping) ∧
        (∀ j : DomainIx, j ≠ i → j ≠ sampler → (u.d.dom j).state = (s.d.dom j).state) ∧ u.d.fab.sites = s.d.fab.sites ∧ OnlyDevice s u)) ∧
      (domUnit i < 17 → 4 ≤ ramping → Yields (.powerOnOrder i) s (fun u => (u.d.dom i).state = .off ∧ u.d.pwr.orders = [i] ∧ OnlyDevice s u))) ∧
    (∀ pct : Nat,
      (v.state ≠ .ramping → Yields (.headerStageClose i pct) s (fun u => Becomes s u s.d.bump)) ∧
      (v.state = .ramping → v.stage = 0 ∨ (v.stage < 8 ∧ ([30, 60, 80, 90, 95, 97, 98, 98] : List Nat).getD (v.stage - 1) 98 ≤ pct) →
        Yields (.headerStageClose i pct) s (fun u => (u.d.dom i).state = .ramping ∧ (u.d.dom i).stage = v.stage + 1 ∧
          (∀ j : DomainIx, j ≠ i → (u.d.dom j).state = (s.d.dom j).state) ∧ u.d.fab.sites = s.d.fab.sites ∧ OnlyDevice s u)) ∧
      (v.state = .ramping → 1 ≤ v.stage → v.stage ≤ 8 → pct < ([30, 60, 80, 90, 95, 97, 98, 98] : List Nat).getD (v.stage - 1) 98 → s.d.pwr.orders = [] →
        Yields (.headerStageClose i pct) s (fun u => Latches s u i)) ∧
      (v.state = .ramping → v.stage = 8 → 98 ≤ pct → s.d.pwr.orders = [] → Yields (.headerStageClose i pct) s (fun u => (u.d.dom i).state = .on ∧ SiteCleared s u i ∧
        (∀ j : DomainIx, j ≠ i → (u.d.dom j).state = (s.d.dom j).state) ∧ OnlyDevice s u ∧
        (s.d.pwr.ctl[domHalf i] = false → (∀ j : DomainIx, j ≠ i → domHalf j = domHalf i → (s.d.dom j).state ≠ .ramping) →
          u.d.pwr.ctl[domHalf i] = true ∧ ∀ c : ClusterId, clusterHalf c = domHalf i →
            (u.d.clp c).pt = safePoint s.env ∧ (u.d.clp c).lim = 80 + 5 * safePoint s.env)))) ∧
    (∀ cur : Nat, let copies := domUnit i < 17 ∧ ∃ h : HalfId, (s.d.lkk.mig[h]).active = true ∧ domOf (s.d.lkk.mig[h]).dst = i
      (v.state = .ramping → 1 ≤ v.stage → s.d.pwr.orders = [] → ¬ copies → Yields (.rampFault i cur) s (fun u => Latches s u i)) ∧
      (v.state = .ramping → 1 ≤ v.stage → s.d.pwr.orders = [] → Yields (.rampFault i cur) s (fun u => (u.d.dom i).state = .latched)) ∧
      (v.state ≠ .ramping ∨ v.stage = 0 → Yields (.rampFault i cur) s (fun u => Becomes s u s.d.bump)) ∧
      (v.state = .on → s.d.pwr.orders = [] → ¬ copies → Yields (.domainShort i cur) s (fun u => Latches s u i)) ∧
      (v.state = .on → s.d.pwr.orders = [] → Yields (.domainShort i cur) s (fun u => (u.d.dom i).state = .latched)) ∧
      (v.state ≠ .on → Yields (.domainShort i cur) s (fun u => Becomes s u s.d.bump))) ∧
    (v.state = .on → Yields (.powerOffOrder i) s (fun u => (u.d.dom i).state = .off ∧ (u.d.dom i).latched = v.latched ∧ SiteLost s u i ∧
      (∀ j : DomainIx, j ≠ i → domUnit j ≠ 17 → (u.d.dom j).state = (s.d.dom j).state) ∧ OnlyDevice s u ∧
      ((∀ n, n < 17 → domAt (domHalf i).val (domPcl i) n ≠ i → (s.d.dom (domAt (domHalf i).val (domPcl i) n)).state = .off) → domUnit i < 17 →
        (s.d.dom (domAt (domHalf i).val (domPcl i) 17)).state = .on → (u.d.dom (domAt (domHalf i).val (domPcl i) 17)).state = .off))) ∧
    (v.state ≠ .on → Yields (.powerOffOrder i) s (fun u => Becomes s u s.d.bump)) ∧
    (v.state = .latched → v.latched < 2 → up → s.d.pwr.orders = [] →
      (domUnit i = 17 ∨ ramping < 4 → Yields (.retryOrder i) s (fun u => (u.d.dom i).state = .ramping ∧ (u.d.dom i).stage = 0 ∧ u.d.pwr.orders = [] ∧
        (u.d.dom i).latched = v.latched ∧ (∀ j : DomainIx, j ≠ i → (u.d.dom j).state = (s.d.dom j).state) ∧ OnlyDevice s u)) ∧
      (domUnit i ≠ 17 → 4 ≤ ramping → Yields (.retryOrder i) s (fun u => (u.d.dom i).state = .latched ∧ u.d.pwr.orders = [i] ∧ OnlyDevice s u))) ∧
    (v.state ≠ .latched ∨ 2 ≤ v.latched ∨ ¬ up → Yields (.retryOrder i) s (fun u => Becomes s u s.d.bump))) ∧
  (∀ (s : State) (x : SiteIx), let v := s.d.dom (domOf x)
    (∀ t, v.idleAt = some t → s.d.siteBound x = false → t + 1000000 ≤ pwrNow s.env → v.state = .on → Yields (.siteUnbindOff x) s (fun u =>
      (u.d.dom (domOf x)).state = .off ∧ OnlyDevice s u)) ∧
    (v.idleAt = none ∨ s.d.siteBound x = true ∨ (∃ t, v.idleAt = some t ∧ pwrNow s.env < t + 1000000) → Yields (.siteUnbindOff x) s (fun u => Becomes s u s.d.bump))) ∧
  (∀ (s : State) (h : HalfId) (b : BankId), let c := siteCluster (siteOfNat (272 * h.val + 17 * b.val))
    (∀ cur : Nat, (s.d.bankSt h b.val = .latched → Yields (.bankShortLatch h b cur) s (fun u => Becomes s u s.d.bump)) ∧
      (s.d.bankSt h b.val ≠ .latched → Yields (.bankShortLatch h b cur) s (fun u => u.d.bankSt h b.val = .latched ∧
        tget u.d.pwr.bankLatches 0 (20 * h.val + b.val) = tget s.d.pwr.bankLatches 0 (20 * h.val + b.val) + 1 ∧
        Tells s u 0x0401 (.bank h b.val) ∧ (∀ (g : HalfId) (k : Nat), (g, k) ≠ (h, b.val) → k < 20 → u.d.bankSt g k =
          if b.val = 19 ∧ g = h ∧ (s.d.bankSt g k = .up ∨ s.d.bankSt g k = .starting) then .off else s.d.bankSt g k) ∧ OnlyDevice s u ∧
        (b.val = 19 → u.d.pwr.ctl[h] = false) ∧
        (b.val < 16 → (u.d.clp c).volt = 0 ∧ (u.d.clp c).lim = 0 ∧ u.d.fab.fenced = s.d.fab.fenced ∧
          ∀ n, n < 18 → (u.d.dom (domAt h.val b.val n)).state = if (s.d.dom (domAt h.val b.val n)).state = .latched then .latched else .off) ∧
        (16 ≤ b.val → u.d.fab.fenced[h] = true ∧ (s.d.fab.fenced[h] = false → u.d.lnk.cause[h] = some .rail))))) ∧
    (s.d.bankSt h b.val ≠ .starting → Yields (.bankSoftStartDone h b) s (fun u => Becomes s u s.d.bump)) ∧
    (s.d.bankSt h b.val = .starting → Yields (.bankSoftStartDone h b) s (fun u => u.d.bankSt h b.val = .up ∧ OnlyDevice s u ∧
      (b.val = 16 → ∀ k ∈ ([17, 18] : List Nat), s.d.bankSt h k = .off → u.d.bankSt h k = .starting) ∧
      ((b.val = 17 ∧ s.d.bankSt h 18 = .up) ∨ (b.val = 18 ∧ s.d.bankSt h 17 = .up) → ∀ x : SiteIx, siteHalf x = h →
        (s.d.fab.col x).phase = .down → (u.d.fab.col x).phase = .training ∧
          tget u.d.lkk.chroot CodeBanks.init x.val = { bank := 0, a := s.d.codeOf 8, b := 0 }) ∧
      (b.val < 16 → (u.d.clp c).volt = s.d.voltClip s.env c (safePoint s.env) ∧ (u.d.clp c).vset = s.d.voltClip s.env c (safePoint s.env))))) ∧
  (∀ (s : State) (h : HalfId) (v : Word), let n := fld v.toNat 8 4
    let p := fld v.toNat 3 0
    let b := if n = 18 then p else n - 3
    let all := fun P : Instr → Prop => P (.domainOn h v) ∧ P (.domainOff h v) ∧ P (.domainRetry h v)
    let done := { s.d.bump with out := s.d.out ++ [.towpath 0] }
    (s.d.towUp h = false → all (fun c => Yields c s (fun u => Becomes s u s.d.bump))) ∧
    (s.d.towUp h = true → s.d.pwr.vin[h] = false → all (fun c => AnswersOnly c s 1)) ∧
    (s.d.towUp h = true → s.d.pwr.vin[h] = true → 21 < n → all (fun c => AnswersOnly c s 2)) ∧
    (s.d.towUp h = true → s.d.pwr.vin[h] = true → n < 18 → let i := domAt h.val p n
      let again := (s.d.dom i).state = .latched ∧ (s.d.dom i).latched < 2 ∧ s.d.bankSt (domHalf i) (domPcl i) = .up
      DoneAs (.domainOn h v) (.powerOnOrder i) s ∧ DoneAs (.domainOff h v) (.powerOffOrder i) s ∧
      (again → DoneAs (.domainRetry h v) (.retryOrder i) s) ∧ (¬ again → AnswersOnly (.domainRetry h v) s 2)) ∧
    (s.d.towUp h = true → s.d.pwr.vin[h] = true → 18 ≤ n → n ≤ 21 →
      (s.d.bankSt h b = .off → Yields (.domainOn h v) s (fun u => u.d.bankSt h b = .starting ∧ OnlyDevice s u)) ∧
      (s.d.bankSt h b ≠ .off → Yields (.domainOn h v) s (fun u => Becomes s u done)) ∧
      (s.d.bankSt h b = .up → Yields (.domainOff h v) s (fun u => u.d.bankSt h b = .off ∧ OnlyDevice s u ∧
        (16 ≤ b → ∀ x : SiteIx, siteHalf x = h → (s.d.fab.col x).phase ≠ .down → (u.d.fab.col x).phase = .down) ∧
        (b < 16 → ∀ k, k < 18 → (u.d.dom (domAt h.val b k)).state ≠ .on ∧ (u.d.dom (domAt h.val b k)).state ≠ .ramping))) ∧
      (s.d.bankSt h b ≠ .up → Yields (.domainOff h v) s (fun u => Becomes s u done)) ∧
      (s.d.bankSt h b = .latched → tget s.d.pwr.bankLatches 0 (20 * h.val + b) < 2 → Yields (.domainRetry h v) s (fun u => u.d.bankSt h b = .starting ∧ OnlyDevice s u ∧
        (b < 16 → s.d.lkk.rst = none → ∃ r, u.d.lkk.rst = some r ∧ r.level = 1 ∧ r.cause = 1 ∧
          r.scope = resetScope 1 (siteCluster (siteOfNat (272 * h.val + 17 * b))).val))) ∧
      (s.d.bankSt h b ≠ .latched ∨ 2 ≤ tget s.d.pwr.bankLatches 0 (20 * h.val + b) → AnswersOnly (.domainRetry h v) s 2)))

/-- OVER_CURRENT_CUT of a source that does not act yet, with VAON up, joins the sources, cuts every cluster of its scope and is counted;
the sixteenth of one bank within 1 ms lowers its top point by one and is reported. PWR_ALERT_N with main rails cuts all clusters, is
counted, and begins the derate. CUT_RELEASE takes a source away and restores one cluster; CLUSTER_RESTORE restores the lowest cluster
under a cut that no source covers and that is in no fenced half, and no other. A cluster that a source covers is never restored, and none
is after a trip. -/
def Obligations.SluiceCutsAndRestores : Prop :=
  (∀ (s : State) (r : CutSource), let cuts := fun u : State => (∀ q : CutSource, q ∈ u.d.pwr.sources ↔ q = r ∨ q ∈ s.d.pwr.sources) ∧
      (∀ c : ClusterId, u.d.pwr.cut.getLsbD c.val = (s.d.pwr.cut.getLsbD c.val || (cutScope r).getLsbD c.val)) ∧ OnlyWeir s u ∧ u.d.regs = s.d.regs
    let live := s.d.pwr.vaon = true ∧ r ∉ s.d.pwr.sources
    (r = .alert ∨ ¬ live → Yields (.overCurrentCut r) s (fun u => u = s.bump)) ∧
    (live → r ≠ .alert → Yields (.overCurrentCut r) s (fun u => cuts u ∧ u.d.pwr.ocCuts = Nat.min (s.d.pwr.ocCuts + 1) 0xFFFF ∧
      (s.d.pwr.fixed = false → u.d.pwr.departs = s.d.pwr.departs) ∧
      ∀ c : ClusterId, r = .bank c → let recent := (s.d.clp c).cuts.filter (fun t => decide (pwrNow s.env < t + 1000))
        (recent.length < 15 → u.d.clp c = { s.d.clp c with cuts := recent ++ [pwrNow s.env] } ∧ u.d.fab.reports = s.d.fab.reports) ∧
        (15 ≤ recent.length → (u.d.clp c).lowered = some (pwrNow s.env) ∧ (u.d.clp c).cuts = [] ∧ Tells s u 0x0402 (.bank (clusterHalf c) (clusterPcl c))))) ∧
    (r = .alert → live → s.d.pwr.vin[(0 : HalfId)] = true ∨ s.d.pwr.vin[(1 : HalfId)] = true ∨ s.d.pwr.vbsn = true → Yields .pwrAlertN s (fun u => cuts u ∧
      u.d.pwr.alertCuts = Nat.min (s.d.pwr.alertCuts + 1) 0xFFFF ∧ u.d.pwr.derated = true ∧ u.d.pwr.alertAt = some (pwrNow s.env) ∧
      ∀ c : ClusterId, u.d.pwr.cut.getLsbD c.val = true)) ∧
    (r = .alert → ¬ live ∨ (s.d.pwr.vin[(0 : HalfId)] = false ∧ s.d.pwr.vin[(1 : HalfId)] = false ∧ s.d.pwr.vbsn = false) →
      Yields .pwrAlertN s (fun u => u = s.bump))) ∧
  (∀ (s : State) (before : List CutSource), 
    let ready := fun (kept : List CutSource) (c : ClusterId) =>
      s.d.pwr.cut.getLsbD c.val = true ∧ s.d.thm.tripped = false ∧ s.d.fab.fenced[clusterHalf c] = false ∧ ∀ q ∈ kept, (cutScope q).getLsbD c.val = false
    let restores := fun (kept : List CutSource) (u : State) => u.d.pwr.sources = kept ∧ u.d = { s.d.bump with pwr := { s.d.pwr with sources := kept, cut := u.d.pwr.cut } } ∧ OnlyDevice s u ∧
      ∀ c : ClusterId, u.d.pwr.cut.getLsbD c.val = (s.d.pwr.cut.getLsbD c.val && !decide (ready kept c ∧ ∀ k : ClusterId, ready kept k → c.val ≤ k.val))
    before = s.d.pwr.sources →
    Yields .clusterRestore s (restores before) ∧
    (∀ r : CutSource, r ∈ before → Yields (.cutRelease r) s (restores (before.filter (fun q => decide (q ≠ r))))) ∧
    (∀ r : CutSource, r ∉ before → Yields (.cutRelease r) s (fun u => u = s.bump))) ∧
  (∀ c : ClusterId, (cutScope .alert).getLsbD c.val = true ∧ (∀ k : ClusterId, (cutScope (.bank k)).getLsbD c.val = decide (c = k)) ∧
    ∀ h : HalfId, (cutScope (.half h)).getLsbD c.val = decide (clusterHalf c = h) ∧ (cutScope (.vin h)).getLsbD c.val = decide (clusterHalf c = h))

/-- ONION_MODEL_PERIOD takes every reading (one outside 0 to 150 °C is none), moves each node by its heat flow and an eighth of the
difference from its reading, and after 10 s withholds a sensor that differs from its estimate by more than 4 K, marks it suspect when that
has lasted 100 periods, with a record, and makes a column with more than two suspects BLIND. THROTTLE_UPDATE lowers the limit of a tile by
2 per K of excess, not below 10, raises it by 1 when it is 2 K below, and reports a tile held hot at the floor for 1 s. INLET_LIMIT_UPDATE
forms f_in from T_eff at most once per second. TRAY_READ and TRAY_LOST keep the tray data. The hardwired limit holds between its levels.
THERMAL_TRIP drives THERMTRIP_N low, writes the trip record, cuts all tiles and takes both halves off. RCS_ESTIMATE forms RCS and its
baseline and warns. CONTROL_TEMPERATURE_SEND sends the eight layers of each column. (The rise per period is a free function, assumption
log 35; the hysteresis unit is the model's reading, assumption log 156; when a count of periods is full, log 153.) -/
def Obligations.TemperaturesAreModelledAndAnswered : Prop :=
  (∀ (s : State) (x : SiteIx), ∀ n ∈ colSensors x, let k := senKey n
    let node := match n with | .dram _ l => 2 + l.val | _ => 1
    (x.val ∉ s.d.thm.blind → (s.d.sen n).inUse = true → s.d.ctlTemp n = some ⟨(s.d.sen n).reading.getD 0, -3⟩) ∧
    (x.val ∉ s.d.thm.blind → (s.d.sen n).inUse = false → s.d.ctlTemp n = some (tget s.d.thm.hat Dy.zero (11 * x.val + node))) ∧
    (x.val ∈ s.d.thm.blind → s.d.ctlTemp n = some ((tget s.d.thm.hat Dy.zero (11 * x.val + node)).add (Dy.ofInt 5))) ∧ k < 5440) ∧
  (∀ (s : State) (r : OnionIn),
    (s.d.pwr.absent = true ∨ s.d.pwr.vaon = false → Yields (.onionModelPeriod r) s (fun u => u = s.bump)) ∧
    (s.d.pwr.absent = false → s.d.pwr.vaon = true → Yields (.onionModelPeriod r) s (fun u => OnlyThermal s u ∧ u.d.fab.sites = s.d.fab.sites ∧
      u.d.thm.ran = s.d.thm.ran + 1 ∧ u.d.thm.resync = false ∧ u.d.thm.drop = s.d.thm.drop ∧
      (∀ n : SensorId, (u.d.sen n).hard = (s.d.sen n).hard ∧ (u.d.sen n).reading =
        (match r.readings.find? (fun p => decide (p.1 = n)) with | some p => if 0 ≤ p.2 ∧ p.2 ≤ 1200 then some p.2 else none | none => none)) ∧
      (s.d.thm.ran < 10000 → u.d.thm.blind = s.d.thm.blind ∧
        ∀ n : SensorId, (u.d.sen n).off = (s.d.sen n).off ∧ (u.d.sen n).suspect = (s.d.sen n).suspect) ∧
      (10000 ≤ s.d.thm.ran → ∀ x : SiteIx, (x.val ∈ u.d.thm.blind ↔ 2 < ((colSensors x).filter (fun n => (u.d.sen n).suspect)).length) ∧
        (x.val ∈ u.d.thm.blind → x.val ∉ s.d.thm.blind → Tells s u 0x0502 (.site x)) ∧
        ∀ n ∈ colSensors x, ((s.d.sen n).suspect = true → (u.d.sen n).off = (s.d.sen n).off ∧ (u.d.sen n).suspect = true) ∧
          ((s.d.sen n).suspect = false → (u.d.sen n).reading = none → (u.d.sen n).off = 0 ∧ (u.d.sen n).suspect = false) ∧
          ((s.d.sen n).suspect = false → (u.d.sen n).reading ≠ none →
            ((u.d.sen n).off = 0 ∧ (u.d.sen n).suspect = false) ∨
            (32 < (u.d.sen n).diff ∧ (u.d.sen n).off = (s.d.sen n).off + 1 ∧ ((u.d.sen n).suspect = true ↔ 101 ≤ (u.d.sen n).off) ∧
              ((u.d.sen n).suspect = true → Tells s u 0x0501 (.sensor n))))) ∧
      (let start := (s.d.bump.takeReadings r).startModel s.env
       ∀ (x : SiteIx) (n : Nat), n < 11 → let w := start.nodeFlow s.env r x n
        let h := (start.hat x n).add ⟨Config.onionRise w.num w.den ((s.fuse.thermal[siteHalf x]).cap[n]?.getD 0), -16⟩
        (n < 10 → ∀ t, u.d.nodeReading x n = some t → u.d.hat x n = h.add ((t.sub h).mul ⟨1, -3⟩)) ∧
        (n = 10 ∨ u.d.nodeReading x n = none → u.d.hat x n = h) ∧
        (∀ t, s.d.thm.ran = 0 ∨ s.d.thm.resync = true → start.nodeReading x n = some t → start.hat x n = t) ∧
        (s.d.thm.ran = 0 → start.nodeReading x n = none → start.hat x n = ⟨if s.d.thm.trayLost then s.d.tEff s.env else s.d.thm.tray.inlet, -1⟩) ∧
        (s.d.thm.ran ≠ 0 → s.d.thm.resync = false ∨ start.nodeReading x n = none → start.hat x n = s.d.hat x n))))) ∧
  (∀ s : State,
    (s.d.pwr.absent = true ∨ s.d.thm.tripped = true → Yields .throttleUpdate s (fun u => u = s.bump)) ∧
    (s.d.pwr.absent = false → s.d.thm.tripped = false → Yields .throttleUpdate s (fun u => OnlyThermal s u ∧ LimitsApplied s u ∧ ∀ t : TileId,
      (s.d.fab.siteOf t = none → tget u.d.thm.drop 0 t.val = tget s.d.thm.drop 0 t.val) ∧
      ∀ x, s.d.fab.siteOf t = some x → let e := s.d.excess t x
        let f := 160 - tget s.d.thm.drop 0 t.val
        let g := if Dy.zero.lt e then Nat.max 10 (f - (Dy.frac (e.add e)).ceil.toNat) else if e.le (Dy.ofInt (-2)) then Nat.min 160 (f + 1) else f
        tget u.d.thm.drop 0 t.val = 160 - g ∧
        tget u.d.thm.floor 0 t.val = (if g = 10 ∧ Dy.zero.lt e = true then tget s.d.thm.floor 0 t.val + 1 else 0) ∧
        (g = 10 → Dy.zero.lt e = true → tget s.d.thm.floor 0 t.val = 1000 → Tells s u 0x0505 (.site x)))) ∧
    (let t := s.d.tEff s.env
     let tray := s.d.thm.tray
     let rated := if fld (s.env.reg 0x500008) 31 16 = 0 then 800 else fld (s.env.reg 0x500008) 31 16
     let early := ∃ a, s.d.thm.fInAt = some a ∧ pwrNow s.env < a + 1000000
     let same := s.d.thm.fInAt ≠ none ∧ t = s.d.thm.fInT
     (s.d.thm.trayLost = true → t = 90) ∧
     (s.d.thm.trayLost = false → t = tray.inlet + (if tray.flow < rated then 4 * cdiv ((rated - tray.flow) * 10) rated else 0)) ∧
     (s.d.pwr.absent = true ∨ early ∨ same → Yields .inletLimitUpdate s (fun u => u = s.bump)) ∧
     (s.d.pwr.absent = false → ¬ early → ¬ same → Yields .inletLimitUpdate s (fun u => OnlyThermal s u ∧ LimitsApplied s u ∧
       u.d.thm = { s.d.thm with
         fIn := if t ≤ 80 then none else some (s.env.maxCadence * (1000 - 15 * (Nat.min t 90 - 80)) / 1000)
         fInT := t, fInAt := some (pwrNow s.env), inletHigh := decide (90 < t), throttled := u.d.thm.throttled }))) ∧
    (∀ r : TrayReading, s.d.thm.sideLost = false → s.d.pwr.vaon = true → Yields (.trayRead (some r)) s (fun u => OnlyDevice s u ∧
      u.d = { s.d.bump with thm := { s.d.thm with tray := r, trayAt := some s.time.ticks, trayLost := false } })) ∧
    (∀ r : Option TrayReading, r = none ∨ s.d.thm.sideLost = true ∨ s.d.pwr.vaon = false → Yields (.trayRead r) s (fun u => u = s.bump)) ∧
    (let due := s.d.pwr.vaon = true ∧ Nat.max (s.d.thm.trayAt.getD 0) (s.d.thm.startAt + 5000000) + 1000000 ≤ s.time.ticks ∧
        (s.d.thm.trayLost = false ∨ s.d.thm.trayAt = none)
     (due → Yields .trayLost s (fun u => u.d.thm = { s.d.thm with trayLost := true, trayAt := some (s.d.thm.trayAt.getD 0) } ∧
       Tells s u 0x0503 (.basinBlock 12) ∧ OnlyThermal s u ∧ u.d.fab.sites = s.d.fab.sites)) ∧
     (¬ due → Yields .trayLost s (fun u => u = s.bump))) ∧
    (s.d.pwr.absent = true → Yields .controlTemperatureSend s (fun u => u = s.bump)) ∧
    (s.d.pwr.absent = false → Yields .controlTemperatureSend s (fun u => u.d = { s.d.bump with fab := { s.d.bump.fab with tempMsgs := u.d.fab.tempMsgs } } ∧
      OnlyDevice s u ∧ ∀ x : SiteIx, tget u.d.fab.tempMsgs [] x.val = if s.d.towUp (siteHalf x) = false then tget s.d.fab.tempMsgs [] x.val else
        (List.finRange 8).map (fun l => ((Dy.frac ((s.d.ctlTemp (.dram x l)).getD Dy.zero)).mul (Frac.ofNat 8)).floor)))) ∧
  (∀ (s : State) (n : SensorId) (t : Nat), let set := fun (b : Bool) (u : State) => u.d.sen n = { s.d.sen n with hard := b } ∧
      (∀ m : SensorId, m ≠ n → u.d.sen m = s.d.sen m) ∧ u.d = { s.d.bump with thm := { s.d.thm with sens := u.d.thm.sens } } ∧ OnlyDevice s u
    ∀ on off : Nat, ((∃ x i, n = .logic x i) ∧ on = 864 ∧ off = 800) ∨ ((∃ x l, n = .dram x l) ∧ on = 800 ∧ off = 736) →
      ((s.d.sen n).suspect = false → on ≤ t → Yields (.hardwiredLimit n t) s (set true)) ∧
      ((s.d.sen n).suspect = true ∨ t < on → Yields (.hardwiredLimit n t) s (fun u => u = s.bump)) ∧
      (t ≤ off → Yields (.hardwiredLimitRelease n t) s (set false)) ∧
      (off < t → Yields (.hardwiredLimitRelease n t) s (fun u => u = s.bump))) ∧
  (∀ (s : State) (n : SensorId) (byModel : Bool) (reading : Nat), let level := match n with | .dram _ _ => 840 | _ => 920
    let t := if byModel then ((Dy.frac ((s.d.ctlTemp n).getD Dy.zero)).mul (Frac.ofNat 8)).floor.toNat else reading
    let trips := s.d.thm.tripped = false ∧ s.d.pwr.vaon = true ∧ level ≤ t ∧ (byModel = false → (s.d.sen n).suspect = false) ∧
      (byModel = true → s.d.ofModel n = true ∧ s.d.pwr.absent = false)
    (¬ trips → Yields (.thermalTrip n byModel reading) s (fun u => Becomes s u s.d.bump)) ∧
    (trips → Yields (.thermalTrip n byModel reading) s (fun u => u.d.thm.tripped = true ∧
      u.d.thm.trip = some { word := tripWord n byModel t, time := 1000 * s.time.ticks } ∧ fld (tripWord n byModel t) 10 0 = t % 2048 ∧
      bit (tripWord n byModel t) 28 = byModel ∧ Out.pin .thermtripN false ∈ u.d.out.drop s.d.out.length ∧ u.d.pwr.sources = s.d.pwr.sources ∧
      (∀ c : ClusterId, u.d.pwr.cut.getLsbD c.val = true) ∧ (∀ h : HalfId, u.d.fab.fenced[h] = true ∧ u.d.pwr.ctl[h] = false ∧
        ∀ b, b < 19 → u.d.bankSt h b =
        if s.d.bankSt h b = .up ∨ s.d.bankSt h b = .starting then .off else s.d.bankSt h b) ∧ u.d.pwr.orders = [] ∧ Tells s u 0x0506 (.sensor n) ∧ OnlyDevice s u))) ∧
  (∀ (s : State) (h : HalfId) (r : Nat), let t := s.d.thm.rcs[h]
    let theta := fld (s.env.reg 0x50000C) 15 0
    (theta = 0 ∨ s.d.pwr.absent = true → Yields (.rcsEstimate h r) s (fun u => Becomes s u s.d.bump)) ∧
    (theta ≠ 0 → s.d.pwr.absent = false → Yields (.rcsEstimate h r) s (fun u => let v := u.d.thm.rcs[h]
      let mean := (v.vals.map (fun p => p.2)).foldl (fun a b => a + b) 0 / v.vals.length
      v.vals = (pwrNow s.env, r) :: t.vals.filter (fun p => decide (pwrNow s.env < p.1 + 3600000000)) ∧
      (t.base = none → t.baseN ≠ 5999 → v.base = none ∧ v.baseN = t.baseN + 1 ∧ v.baseSum = t.baseSum + r) ∧
      (t.base = none → t.baseN = 5999 → v.base = some ((t.baseSum + r) / 6000)) ∧ (t.base ≠ none → v.base = t.base) ∧
      (∀ b, v.base = some b → v.warn = decide (b * (100 + warnPct s.env) < mean * 100) ∧ v.alarm = decide (b * (100 + alarmPct s.env) < mean * 100)) ∧
      (v.warn = true → t.warn = false → Tells s u 0x0504 (.half h)) ∧ (v.alarm = true → t.alarm = false → Tells s u 0x0504 (.half h)) ∧
      (∀ g : HalfId, g ≠ h → u.d.thm.rcs[g] = s.d.thm.rcs[g]) ∧ OnlyDevice s u)))

/-- ERROR_REPORT takes the oldest report: it joins the record of its key, or opens one while fewer than 256 keys are open; beyond that
AGG_OVERFLOW is counted and its own key joined. COLLAPSE_WINDOW_CLOSE commits the record ten ticks after it opened, HOLDOFF_END a repeat
with its mark after the hold-off, or releases the key. A record takes the next RID and, with room, the next slot; without, it is counted,
and one of severity 2 or more takes the slot of one of severity 0 or 1. BSN_ERR_CONS is discarded where PROD - CONS would exceed 1,024.
TILE_SELFTEST, due every SELFTEST_H, reports a failed test of an idle bound tile. BSN_MIG_CTRL starts a migration, or queues it behind
another of the half; SPARE_READY starts its copy or fails it; MIGRATION_COPY_COMPLETE begins the cut-over, or moves the tile of a dead
site at once. REPAIR_RECORD_WRITE and REPAIR_RECORD_RETRY write both copies, and report once where neither verifies; a retry is due after
10 minutes. -/
def Obligations.ErrorsAreRecordedAndTilesMigrate : Prop :=
  (∀ s : State,
    (s.d.fab.reports = [] → Yields .errorReport s (fun u => SameAgg s u)) ∧
    (∀ r rest, s.d.fab.reports = r :: rest → let w := s.d.suspectWords r.suspect
      let key : ErrKey := { code := r.code, w20 := w.1, w24 := w.2 }
      let full : ErrKey := { code := 0x0802, w20 := 14 * 2 ^ 21, w24 := 8 }
      let count := (s.agg.keys.filter (fun k => decide (k.key ≠ full))).length
      let joined := fun (key : ErrKey) (opens : Bool → ErrRec → Prop) (merges : ErrRec → ErrRec → Prop) (u : State) =>
        u.agg.log = s.agg.log ∧ u.agg.rid = s.agg.rid ∧ u.agg.prod = s.agg.prod ∧ u.agg.cons = s.agg.cons ∧ u.d.fab.reports = rest ∧
        (∀ k ∈ s.agg.keys, k.key ≠ key → k ∈ u.agg.keys) ∧
        (∀ k ∈ s.agg.keys, k.key = key → ∃ q, { k with rcd := some q } ∈ u.agg.keys ∧ (k.rcd = none → opens k.hold q) ∧ (∀ o, k.rcd = some o → merges o q)) ∧
        ((∀ k ∈ s.agg.keys, k.key ≠ key) → ∃ q, u.agg.keys = s.agg.keys ++ [{ key := key, rcd := some q, hold := false, since := blockTicks s.time .aggregator }] ∧
          opens false q)
      ((∃ k ∈ s.agg.keys, k.key = key) ∨ count < 256 → Yields .errorReport s (fun u => joined key (OpenedBy r w) (MergedBy r) u ∧ u.agg.overflows = s.agg.overflows)) ∧
      ((∀ k ∈ s.agg.keys, k.key ≠ key) → 256 ≤ count → Yields .errorReport s (fun u => u.agg.overflows = Nat.min (s.agg.overflows + 1) 0xFFFF ∧
        joined full (fun b q => q.code = 0x0802 ∧ q.d1 = r.code ∧ q.reporters = 1 ∧ q.again = b) (fun o q => q.code = o.code ∧ q.reporters = Nat.min 0xFFFF (o.reporters + 1)) u))) ∧
    (∀ key : ErrKey, let lost := s.time.lost.contains .aggregator = true
      let now := blockTicks s.time .aggregator
      (∀ k, s.agg.keys.find? (fun q => decide (q.key = key) && !q.hold) = some k →
        (¬ lost → now < k.since + 10 → Yields (.collapseWindowClose key) s (fun u => SameAgg s u)) ∧
        (∀ r, lost ∨ k.since + 10 ≤ now → k.rcd = some r → Yields (.collapseWindowClose key) s (fun u => Commits s u r
          (s.agg.keys.map (fun q => if q.key = key then { q with rcd := none, hold := true, since := now } else q))))) ∧
      (s.agg.keys.find? (fun q => decide (q.key = key) && !q.hold) = none → Yields (.collapseWindowClose key) s (fun u => SameAgg s u)) ∧
      (∀ k, s.agg.keys.find? (fun q => decide (q.key = key) && q.hold) = some k → let hold := 10000 * Nat.max 1 (fld (s.env.reg 0x4400) 23 16)
        (¬ lost → now < k.since + hold → Yields (.holdoffEnd key) s (fun u => SameAgg s u)) ∧
        (∀ r, lost ∨ k.since + hold ≤ now → k.rcd = some r → Yields (.holdoffEnd key) s (fun u => Commits s u { r with again := true }
          (s.agg.keys.map (fun q => if q.key = key then { q with rcd := none, since := now } else q)))) ∧
        (lost ∨ k.since + hold ≤ now → k.rcd = none → Yields (.holdoffEnd key) s (fun u =>
          u.agg = { s.agg with keys := s.agg.keys.filter (fun q => decide (q.key ≠ key)) } ∧ u.d.fab.reports = s.d.fab.reports))) ∧
      (s.agg.keys.find? (fun q => decide (q.key = key) && q.hold) = none → Yields (.holdoffEnd key) s (fun u => SameAgg s u))) ∧
    (∀ (f : FuncId) (v : Word), let c := fld v.toNat 15 0
      (f = 0 → (s.agg.prod + 65536 - c) % 65536 ≤ 1024 → Yields (.bsnErrCons f v) s (fun u => u = { s.bump with agg := { s.agg with cons := c } })) ∧
      (f ≠ 0 ∨ 1024 < (s.agg.prod + 65536 - c) % 65536 → Yields (.bsnErrCons f v) s (fun u => u = s.bump)))) ∧
  (∀ (s : State) (t : TileId) (pass1 pass2 : Bool),
    let idle := fun x : SiteIx => ∀ q : StreamId, ((s.d.fab.site x).stream q).state = .idle ∨ ((s.d.fab.site x).stream q).state = .faulted
    let now := blockTicks s.time .lockkeeper
    let runs := fun x : SiteIx => fld (s.env.reg 0x4420) 15 0 ≠ 0 ∧ tget s.d.lkk.testAt 0 t.val + 3600000000 * fld (s.env.reg 0x4420) 15 0 ≤ now ∧ t ∈ s.d.boundTiles ∧ (s.d.fab.site x).ready = true ∧ idle x
    (s.d.fab.siteOf t = none → Yields (.tileSelftest t pass1 pass2) s (fun u => Becomes s u s.d.bump)) ∧
    (∀ x, s.d.fab.siteOf t = some x →
      (¬ runs x → Yields (.tileSelftest t pass1 pass2) s (fun u => Becomes s u s.d.bump)) ∧
      (pass1 = true → runs x → Yields (.tileSelftest t pass1 pass2) s (fun u =>
        Becomes s u { s.d.bump with lkk := { s.d.lkk with testAt := tput s.d.lkk.testAt t.val now } })) ∧
      (pass1 = false → runs x → Yields (.tileSelftest t pass1 pass2) s (fun u => Tells s u (if pass2 then 0x0102 else 0x0103) (.site x) ∧ OnlyDevice s u ∧
        tget u.d.lkk.testAt 0 t.val = now ∧ u.d.fab.sites = s.d.fab.sites ∧ u.d.fab.cols = s.d.fab.cols ∧ u.d.svc = s.d.svc)))) ∧
  (∀ (s : State) (f : FuncId) (v : Word) (t : TileId) (a b : SiteIx), t.val = fld v.toNat 8 0 → s.d.fab.siteOf t = some a →
    s.d.spareOf (tileCluster t) = some b → let h := tileHalf t
    (f ≠ 0 ∨ v.getLsbD 31 = false → Yields (.bsnMigCtrl f v) s (fun u => Becomes s u s.d.bump)) ∧
    (s.d.lkkRuns = true → f = 0 → v.getLsbD 31 = true → (s.d.lkk.mig[h]).active = false → Yields (.bsnMigCtrl f v) s (fun u =>
      u.d.lkk.mig[h] = { Mig.init with state := .copy, tile := t, src := a, dst := b, dead := false } ∧ u.d.fab.siteOf t = some a ∧ OnlyDevice s u ∧
      ((s.d.dom (domOf b)).state = .off → s.d.bankSt (siteHalf b) (sitePcl b) = .up → s.d.siteBad b = false →
        (u.d.dom (domOf b)).state = .ramping ∨ domOf b ∈ u.d.pwr.orders))) ∧
    (s.d.lkkRuns = true → f = 0 → v.getLsbD 31 = true → (s.d.lkk.mig[h]).active = true → (s.d.lkk.mig[h]).tile ≠ t → (∀ p ∈ s.d.lkk.migWait, p.1 ≠ t) →
      Yields (.bsnMigCtrl f v) s (fun u => u.d.lkk.migWait = s.d.lkk.migWait ++ [(t, false, 0)] ∧ u.d.lkk.mig = s.d.lkk.mig ∧ OnlyDevice s u))) ∧
  (∀ (s : State) (f : FuncId) (v : Word) (t : TileId), t.val = fld v.toNat 8 0 → s.d.spareOf (tileCluster t) = none → s.d.lkkRuns = true →
    Yields (.bsnMigCtrl f v) s (fun u => Becomes s u s.d.bump)) ∧
  (∀ (s : State) (h : HalfId), s.d.lkkRuns = true → let m := s.d.lkk.mig[h]
    let alone := ∀ p ∈ s.d.lkk.migWait, tileHalf p.1 ≠ h
    (∀ ok : Bool, m.state ≠ .copy ∨ m.copying = true → Yields (.spareReady h ok) s (fun u => Becomes s u s.d.bump)) ∧
    (m.state = .copy → m.copying = false → s.d.siteOn m.dst = true → (s.d.fab.site m.dst).ready = true → Yields (.spareReady h true) s (fun u =>
      u.d.lkk.mig[h] = { m with copying := true, rows := 0 } ∧ OnlyDevice s u)) ∧
    (m.state = .copy → m.copying = false → s.d.siteOn m.dst = false ∨ (s.d.fab.site m.dst).ready = false → Yields (.spareReady h true) s (fun u =>
      Becomes s u s.d.bump)) ∧
    (m.state = .copy → m.copying = false → m.dead = false → s.d.fab.cut[h] = none → alone → Yields (.spareReady h false) s (fun u =>
      u.d.lkk.mig[h] = { m with state := .failed, copying := false } ∧ Tells s u 0x0805 (.site m.dst) ∧ m.dst ∈ u.d.lkk.bad ∧
      (m.dst ∉ s.d.lkk.bad → tget u.d.lkk.causes 0 m.dst.val = 0x0805) ∧ u.d.siteBad m.dst = true ∧ (∀ t : TileId, u.d.fab.siteOf t = s.d.fab.siteOf t) ∧ OnlyDevice s u)) ∧
    (m.state ≠ .copy ∨ m.copying = false → Yields (.migrationCopyComplete h) s (fun u => Becomes s u s.d.bump)) ∧
    (m.state = .copy → m.copying = true → m.mapped = false → m.dead = false → siteHalf m.src = h → m.src ≠ m.dst →
      Yields (.migrationCopyComplete h) s (fun u => (u.d.lkk.mig[h]).state = .cutover ∧ (u.d.lkk.mig[h]).cutAt = s.time.ticks ∧
        u.d.fab.cut[h] = some { tile := m.tile, src := m.src, dst := m.dst, phase := .quiescing } ∧ u.d.fab.siteOf m.tile = s.d.fab.siteOf m.tile ∧
        (∀ q : StreamId, ((u.d.fab.site m.src).stream q).held = some ((s.d.fab.site m.src).stream q).state ∧
          ((u.d.fab.site m.src).stream q).state ≠ .running ∧ ((u.d.fab.site m.src).stream q).state ≠ .waiting) ∧
        u.d.fab.col m.src = s.d.fab.col m.src ∧ OnlyDevice s u ∧
        (let old := s.d.fab.col m.src
         Apart (s.d.fab.col m.dst) → (∀ ri ∈ old.listedRows, ri < 393216) → ∀ k : Nat, k / 16 < 393216 → let new := (u.d.fab.col m.dst).sector k
          (k / 16 ∉ old.listedRows → new.data = (old.sector k).data ∧ new.poison = (old.sector k).poison) ∧
          ∀ r : SecRead, k / 16 ∈ old.listedRows → (old.readRow (k / 16) s.d.bump.fab.free [])[k % 16]? = some r →
            (r.outcome ≠ 5 → new = { data := r.data, poison := r.poison, err := 0 }) ∧
            (r.outcome = 5 → new = { data := poisonRec .uncorrectable m.tile.val 2 (nowNs s.time), poison := true, err := 0 })))) ∧
    (m.state = .copy → m.copying = true → m.mapped = false → m.dead = true → alone → tget s.d.fab.held [] m.tile.val = [] →
      tileHalf m.tile = h → siteCluster m.dst = tileCluster m.tile → Yields (.migrationCopyComplete h) s (fun u =>
        (u.d.lkk.mig[h]).state = .done ∧ u.d.fab.siteOf m.tile = some m.dst ∧ m.src ∈ u.d.lkk.bad ∧ Tells s u 0x0804 (.site m.src) ∧
        (∀ t : TileId, t ≠ m.tile → u.d.fab.siteOf t = s.d.fab.siteOf t) ∧ OnlyDevice s u))) ∧
  (∀ (s : State) (ok1 ok2 : Bool),
    (s.d.lkkRuns = true → s.d.lkk.stale = false → s.d.repairBody ≠ s.d.lkk.written → Yields (.repairRecordWrite ok1 ok2) s (fun u => RecordWritten s u ok1 ok2)) ∧
    (s.d.lkkRuns = false ∨ s.d.lkk.stale = true ∨ s.d.repairBody = s.d.lkk.written → Yields (.repairRecordWrite ok1 ok2) s (fun u => u = s.bump)) ∧
    (let due := s.d.lkk.recAt + 600000000 ≤ blockTicks s.time .lockkeeper
     (s.d.lkkRuns = true → s.d.lkk.stale = true → due → Yields (.repairRecordRetry ok1 ok2) s (fun u => RecordWritten s u ok1 ok2)) ∧
    (s.d.lkkRuns = false ∨ s.d.lkk.stale = false ∨ ¬ due → Yields (.repairRecordRetry ok1 ok2) s (fun u => u = s.bump))))

/-- VAON_UP clears every state that is not kept. LOCKKEEPER_BOOT_DONE boots the components, applies the valid copy of the repair record of
higher generation (or reports RECORD_STALE), releases FAULT_N and starts the endpoints; with no valid fuse map Lockkeeper stops at 0x1F.
BASIN_RAILS_UP takes the Basin core out of reset, after a loss of VBSN through a cold reset; VIN_UP starts the R-layer of a half.
TOPOLOGY_SET maps the lowest working sites to the tiles (R15) and sets MAP_VALID; maps in force stay. MICROCODE_BROADCAST loads every
addressed node, the image in force into the bank in use where that is empty (the model's reading, assumption log 174), CHECK_TIMEOUT sends
again up to three times, CODE_SWITCH uses the other bank if it holds code; none reaches a half that has lost both trunks. Each Towpath
write changes its register alone: PEER, repair entries that are free, LANE, FLIM, SUSPECT, SITE_MAP, ROUTE, VSET; it answers NOT_POWERED
where its node has no rail, DISCARDED where R15 or R471 refuses it (the answers, log 201), else DONE. -/
def Obligations.TheModuleComesUpAndTakesItsCode : Prop :=
  (∀ (s : State) (b : BootIn),
    (s.d.pwr.vaon = true → s.d.lkk.bootStage ≠ 0 → Yields (.vaonUp b) s (fun u => Becomes s u s.d.bump)) ∧
    (s.d.pwr.vaon = false ∨ s.d.lkk.bootStage = 0 → Yields (.vaonUp b) s (fun u => AfterCold s u false ∧ u.d.pwr.vaon = true ∧
      (b.bootFails = [] → u.d.lkk.comps = bootedComps s.d.lkk.comps) ∧
      (∀ n, b.bootFails = [n] → BootFallsBack { Lkk.init with comps := bootedComps s.d.lkk.comps } u.d.lkk n b.otherFails))) ∧
    (s.d.pwr.vaon = false ∨ s.d.lkk.bootStage ≠ 0 → Yields (.lockkeeperBootDone b) s (fun u => Becomes s u s.d.bump)) ∧
    (s.d.pwr.vaon = true → s.d.lkk.bootStage = 0 → b.fuse0 = false → b.fuse1 = false → Yields (.lockkeeperBootDone b) s (fun u =>
      Becomes s u { s.d.bump with lkk := { s.d.lkk with bootStage := 0x1F } })) ∧
    (s.d.pwr.vaon = true → s.d.lkk.bootStage = 0 → b.fuse0 = true ∨ b.fuse1 = true → let A := s.d.lkk.copyA
      let B := s.d.lkk.copyB
      let okA := A.ok = true ∧ b.recA = true
      let okB := B.ok = true ∧ b.recB = true
      Yields (.lockkeeperBootDone b) s (fun u => u.d.lkk.bootStage = 6 ∧ u.d.lkk.faultN = !u.d.lkk.faultHeld ∧
        Out.pin .faultN u.d.lkk.faultN ∈ u.d.out.drop s.d.out.length ∧ u.sec.akGen = s.sec.akGen + 1 ∧ u.sec.sessions = s.sec.sessions ∧
        Measured u [(1, 10), (3, 1), (4, 2)] ∧ u.time = s.time ∧ u.agg = s.agg ∧ u.pending = s.pending ∧ u.d.svc = s.d.svc ∧ u.d.fab.sites = s.d.fab.sites ∧
        (b.bootFails = [] → u.d.lkk.comps = s.d.lkk.comps ∧ u.d.lkk.faultHeld = s.d.lkk.faultHeld) ∧
        (∀ n, b.bootFails = [n] → BootFallsBack s.d.lkk u.d.lkk n b.otherFails) ∧
        (okA → okB → RecordApplied u (if A.gen < B.gen then { B with ok := true } else { A with ok := true })) ∧
        (okA → ¬ okB → RecordApplied u A) ∧ (¬ okA → okB → RecordApplied u B) ∧
        (¬ okA → ¬ okB → Tells s u 0x0803 (.basinBlock 6) ∧ u.d.fab.cols = s.d.fab.cols)))) ∧
  (∀ s : State,
    (s.d.pwr.vbsnLost = true ∨ s.d.thm.tripped = true → Yields .basinRailsUp s (fun u => AfterCold s u true ∧ u.d.pwr.vaon = true ∧
      u.d.lkk.lastCause = 5 ∧ u.d.lkk.comps = bootedComps s.d.lkk.comps)) ∧
    (s.d.pwr.vbsnLost = false → s.d.thm.tripped = false → s.d.booted = false ∨ s.d.lkk.basinUp = true → Yields .basinRailsUp s (fun u => Becomes s u s.d.bump)) ∧
    (s.d.pwr.vbsnLost = false → s.d.thm.tripped = false → s.d.booted = true → s.d.lkk.basinUp = false → Yields .basinRailsUp s (fun u =>
      u.d.pwr.vbsn = true ∧ u.d.pwr.vphy = true ∧ u.d.lkk.basinUp = true ∧ u.d.lkk.bootStage = s.d.lkk.bootStage ∧
      (∀ h : HalfId, s.d.bankSt h 16 = .off → (s.d.pwr.vin[h] = false → u.d.bankSt h 16 = .off) ∧ (s.d.pwr.vin[h] = true → u.d.bankSt h 16 = .starting ∧
        tget u.d.lkk.rlayer CodeBanks.init h.val = { bank := 0, a := s.d.codeOf 7, b := 0 })) ∧
      (∀ (h : HalfId) (k : Nat), k < 20 → k ≠ 16 → u.d.bankSt h k = s.d.bankSt h k) ∧ Measured u [(5, 3), (6, 4), (7, 5), (8, 9)] ∧
      u.d.svc = s.d.svc ∧ u.d.fab.sites = s.d.fab.sites ∧ u.time = s.time ∧ u.agg = s.agg ∧ u.pending = s.pending)) ∧
    (∀ h : HalfId, Yields (.vinUp h) s (fun u => u.d.pwr.vin = s.d.pwr.vin.set h true ∧
      (s.d.lkk.basinUp = true → s.d.thm.tripped = false → s.d.bankSt h 16 = .off → u.d.bankSt h 16 = .starting ∧
        tget u.d.lkk.rlayer CodeBanks.init h.val = { bank := 0, a := s.d.codeOf 7, b := 0 } ∧ ∀ (g : HalfId) (k : Nat), k < 20 → ¬ (g = h ∧ k = 16) → u.d.bankSt g k = s.d.bankSt g k) ∧
      (s.d.lkk.basinUp = false ∨ s.d.thm.tripped = true ∨ s.d.bankSt h 16 ≠ .off → u.d.pwr.banks = s.d.pwr.banks) ∧
      (s.d.lkk.basinUp = true → Measured u [(9, 7), (10, 8), (11, 6)]) ∧ (s.d.lkk.basinUp = false → u.sec = s.sec) ∧
      u.d.svc = s.d.svc ∧ u.d.fab.sites = s.d.fab.sites ∧ u.time = s.time ∧ u.agg = s.agg ∧ u.pending = s.pending)) ∧
    ((∀ h : HalfId, s.d.columnsUp h = false) ∨ s.d.lkkRuns = false → Yields .topologySet s (fun u => Becomes s u s.d.bump)) ∧
    ((∃ h : HalfId, s.d.columnsUp h = true) → s.d.lkkRuns = true → Yields .topologySet s (fun u =>
      u.d.fab.mapValid = true ∧ u.d.lkk.bootStage = Nat.max 13 s.d.lkk.bootStage ∧ OnlyDevice s u ∧ u.d.fab.sites = s.d.fab.sites ∧
      u.d.fab.cols = s.d.fab.cols ∧ u.d.svc = s.d.svc ∧ (s.d.fab.mapValid = true → u.d.fab.mapWritten = s.d.fab.mapWritten) ∧
      (s.d.fab.mapValid = true ∨ s.d.fab.mapWritten = true → u.d.fab.clusters = s.d.fab.clusters) ∧ (s.d.fab.mapValid = false → u.d.fab.mapWritten = true) ∧
      (s.d.fab.mapValid = false → s.d.fab.mapWritten = false → ∀ c : ClusterId,
        let works := fun i : Fin 17 => decide (siteIxOf c i.val ∉ s.fuse.badSites) && decide (siteIxOf c i.val ∉ s.d.lkk.bad) &&
          decide ((s.d.fab.col (siteIxOf c i.val)).phase ≠ .unusable)
        let l := (List.finRange 17).filter works
        (∀ i : Fin 16, (u.d.fab.cluster c).siteOf[i] = l[i.val]?) ∧ (u.d.fab.cluster c).spare = l[16]? ∧
        (∀ i : Fin 17, (u.d.fab.cluster c).bad.getLsbD i.val = !works i) ∧ (u.d.fab.cluster c).mapGen = (s.d.fab.cluster c).mapGen + 1) ∧
      (∀ h : HalfId, s.d.columnsUp h = true → s.d.pwr.ctl[h] = false → (∀ k, k < 16 → s.d.bankSt h k ≠ .starting) →
        ∀ c ∈ (allClusters.filter (fun c => clusterHalf c = h && s.d.bankSt h (clusterPcl c) == .off)).take 4, u.d.bankSt h (clusterPcl c) = .starting)))) ∧
  (∀ (s : State) (n : CodeNodes) (bad : List SiteIx),
    let key := fun x : SiteIx => match n with
        | .tile _ => 3 * x.val
        | .chroot _ => 3 * x.val + 1
        | .rlayer _ => 3 * x.val + 2
    let named := fun x : SiteIx => match n with
        | .tile h => siteHalf x = h
        | .chroot h => siteHalf x = h
        | .rlayer h => x.val = 272 * h.val
    (s.d.lkkRuns = false ∨ s.d.lkk.shed = 3 → Yields (.microcodeBroadcast n bad) s (fun u => u = s.bump)) ∧
    (s.d.lkkRuns = true → s.d.lkk.shed ≠ 3 → Yields (.microcodeBroadcast n bad) s (fun u =>
      (∀ x : SiteIx, named x → x ∉ bad → s.d.towUp (nodesHalf n) = true → NodeTakes s u n x ∧ tget u.d.lkk.retries 0 (key x) = tget s.d.lkk.retries 0 (key x)) ∧
      (∀ x : SiteIx, named x → x ∈ bad ∨ s.d.towUp (nodesHalf n) = false → tget u.d.lkk.retries 0 (key x) = 3 ∧ u.d.fab.site x = s.d.fab.site x) ∧
      (∀ x : SiteIx, ¬ named x → u.d.fab.site x = s.d.fab.site x ∧ tget u.d.lkk.retries 0 (key x) = tget s.d.lkk.retries 0 (key x)) ∧
      u = { s.bump with d := { s.d.bump with
        fab := { s.d.bump.fab with sites := u.d.fab.sites }
        lkk := { s.d.lkk with
          retries := u.d.lkk.retries, chroot := u.d.lkk.chroot, rlayer := u.d.lkk.rlayer
          bootStage := match n with
            | .tile _ => if 13 ≤ s.d.lkk.bootStage ∧ s.d.lkk.bootStage ≠ 0x1F then 15 else s.d.lkk.bootStage
            | _ => s.d.lkk.bootStage } } })) ∧
    (∀ (x : SiteIx) (ok : Bool), let left := tget s.d.lkk.retries 0 (key x)
      (left = 0 ∨ s.d.lkkRuns = false → Yields (.checkTimeout n x ok) s (fun u => Becomes s u s.d.bump)) ∧
      (left ≠ 0 → s.d.lkkRuns = true → ok = true → s.d.towUp (nodesHalf n) = true → Yields (.checkTimeout n x ok) s (fun u => NodeTakes s u n x ∧
        tget u.d.lkk.retries 0 (key x) = 0 ∧ u.d.fab.reports = s.d.fab.reports ∧ (∀ y : SiteIx, y ≠ x → u.d.fab.site y = s.d.fab.site y) ∧ OnlyDevice s u)) ∧
      (left ≠ 0 → s.d.lkkRuns = true → ok = false ∨ s.d.towUp (nodesHalf n) = false → Yields (.checkTimeout n x ok) s (fun u => tget u.d.lkk.retries 0 (key x) = left - 1 ∧
        u.d.fab.sites = s.d.fab.sites ∧ OnlyDevice s u ∧ (left = 1 → Tells s u 0x0103 (.site x)) ∧ (left ≠ 1 → u.d.fab.reports = s.d.fab.reports))) ∧
      (s.d.towUp (nodesHalf n) = false → Yields (.codeSwitch n x) s (fun u => Becomes s u s.d.bump)) ∧
      (s.d.towUp (nodesHalf n) = true → Yields (.codeSwitch n x) s (fun u => OnlyDevice s u ∧ u.d.fab.reports = s.d.fab.reports ∧ u.d.svc = s.d.svc ∧
        (∀ y : SiteIx, y ≠ x → u.d.fab.site y = s.d.fab.site y) ∧
        match n with
        | .tile _ => let a := s.d.fab.site x
          ((if a.bank = 0 then a.code.2 else a.code.1) = 0 → u.d.fab.site x = a) ∧
          ((if a.bank = 0 then a.code.2 else a.code.1) ≠ 0 → u.d.fab.site x = { a with bank := 1 - a.bank })
        | .chroot _ => Switches (tget s.d.lkk.chroot CodeBanks.init x.val) (tget u.d.lkk.chroot CodeBanks.init x.val) ∧ u.d.fab.site x = s.d.fab.site x
        | .rlayer h => Switches (tget s.d.lkk.rlayer CodeBanks.init h.val) (tget u.d.lkk.rlayer CodeBanks.init h.val) ∧ u.d.fab.site x = s.d.fab.site x)))) ∧
  (∀ (s : State) (x : SiteIx) (v : Word), let h := siteHalf x
    let on := s.d.towUp h = true ∧ s.d.bankSt h 16 = .up
    let rail := s.d.bankSt h 16 = .up
    let c := s.d.fab.col x
    (∀ w : Fin 128, Towpath (.peerTableWrite x w v) s h (s.d.siteOn x = true) ∧
      (s.d.towUp h = true → s.d.siteOn x = true → Yields (.peerTableWrite x w v) s (fun u => ∃ p : Vector (BitVec 16) 256,
        Done s u { s.d.bump with fab := s.d.bump.fab.setSite x { s.d.fab.site x with peers := p } } ∧
        ∀ i : Fin 256, p[i] = if i.val = 2 * w.val then v.setWidth 16 &&& 0x81FF else if i.val = 2 * w.val + 1 then (v >>> 16).setWidth 16 &&& 0x81FF
          else (s.d.fab.site x).peers[i]))) ∧
    (∀ e : RepairEntry, Towpath (.repairEntryWrite x e v) s h rail) ∧
    (∀ (b : Fin 128) (i : Fin 32), on → let k := 32 * b.val + i.val
      ((tget c.rowRep 0 k).getLsbD 31 = true → Yields (.repairEntryWrite x (.row b i) v) s (fun u => Discarded s u)) ∧
      ((tget c.rowRep 0 k).getLsbD 31 = false → Yields (.repairEntryWrite x (.row b i) v) s (fun u => ∃ t,
        let r := if v.getLsbD 31 = true then c.takeSpare (32 * b.val + fld v.toNat 16 12) else c
        DoneCol s u x { r with rowRep := t } ∧ tget t 0 k = v &&& 0xC001FFFF ∧ ∀ j, j ≠ k → tget t 0 j = tget c.rowRep 0 j))) ∧
    (∀ (b : Fin 128) (i : Fin 8), on → let k := 8 * b.val + i.val
      ((tget c.colRep 0 k).getLsbD 31 = true → Yields (.repairEntryWrite x (.col b i) v) s (fun u => Discarded s u)) ∧
      ((tget c.colRep 0 k).getLsbD 31 = false → Yields (.repairEntryWrite x (.col b i) v) s (fun u => ∃ t, DoneCol s u x { c with colRep := t } ∧
        tget t 0 k = v &&& 0xC0003FFF ∧ ∀ j, j ≠ k → tget t 0 j = tget c.colRep 0 j))) ∧
    (∀ i : Fin 64, on → let dead := (c.lanes.flatMap (fun q => match q.2 with | some l => l.dead | none => [])).length
      (i.val < dead → Yields (.repairEntryWrite x (.dead i) v) s (fun u => Discarded s u)) ∧
      (dead ≤ i.val → v.getLsbD 31 = false → Yields (.repairEntryWrite x (.dead i) v) s (fun u => Done s u s.d.bump)) ∧
      (dead ≤ i.val → v.getLsbD 31 = true → let g := fld v.toNat 10 3 % 144
        let l := c.lane (fld v.toNat 2 0) g
        Yields (.repairEntryWrite x (.dead i) v) s (fun u => DoneCol s u x (c.setLane (fld v.toNat 2 0) g
          { l with dead := l.dead ++ [64 * g + fld v.toNat 17 11] })))) ∧
    (∀ (b : Fin 8) (g : Fin 144), Towpath (.laneWrite x b g v) s h rail ∧
      (on → Yields (.laneWrite x b g v) s (fun u => DoneCol s u x (c.setLane b.val g.val { c.lane b.val g.val with
        shifted := ([fld v.toNat 6 0, fld v.toNat 14 8].filter (fun l => l ≠ 0x7F)).map (fun l => 64 * g.val + l)
        sparesBad := (if v.getLsbD 16 then 1 else 0) + (if v.getLsbD 17 then 1 else 0) })))) ∧
    Towpath (.flimWrite x v) s h rail ∧
    (on → Yields (.flimWrite x v) s (fun u => Done s u { s.d.bump with
      fab := s.d.bump.fab.setSite x { s.d.fab.site x with flim := Nat.min (Nat.max 10 v.toNat) (Nat.min (s.d.ceilOf s.env x) s.env.maxCadence) } })) ∧
    Towpath (.suspectWrite x v) s h rail ∧
    (on → let marks := ((List.range 10).filter (fun i => v.getLsbD i)).length
      Yields (.suspectWrite x v) s (fun u => (∀ p ∈ (colSensors x).zipIdx, (u.d.sen p.1).suspect = v.getLsbD p.2) ∧
        (∀ q : SensorId, q ∉ colSensors x → u.d.sen q = s.d.sen q) ∧
        (2 < marks → x.val ∈ u.d.thm.blind ∧ (x.val ∉ s.d.thm.blind → Tells s u 0x0502 (.site x))) ∧ (marks ≤ 2 → x.val ∉ u.d.thm.blind) ∧
        Done s u { s.d.bump with
          thm := { s.d.thm with sens := u.d.thm.sens, blind := u.d.thm.blind }, fab := { s.d.bump.fab with reports := u.d.fab.reports } }))) ∧
  (∀ (s : State) (c : ClusterId), let h := clusterHalf c
    let on := s.d.towUp h = true ∧ s.d.bankSt h 16 = .up
    (∀ m : SiteMapWords, let entry := fun (i : Fin 16) => fld (m.maps[i.val / 4]'(by omega)).toNat (8 * (i.val % 4) + 4) (8 * (i.val % 4))
      let sp := fld m.status.toNat 4 0
      let spares := m.status.getLsbD 5 = true ∧ sp < 17
      let allowed := (∀ i j : Fin 16, i ≠ j → entry i < 17 → entry i ≠ entry j) ∧
        (spares → m.status.getLsbD (8 + sp) = false ∧ ∀ i : Fin 16, entry i ≠ sp)
      (s.d.towUp h = false → Yields (.siteMapWrite c m) s (fun u => Becomes s u s.d.bump)) ∧
      (s.d.towUp h = true → s.d.bankSt h 16 ≠ .up → Yields (.siteMapWrite c m) s (fun u => Becomes s u (s.d.bump.send (.towpath 1)))) ∧
      (on → ¬ allowed → Yields (.siteMapWrite c m) s (fun u => Becomes s u (s.d.bump.send (.towpath 2)))) ∧
      (on → allowed → Yields (.siteMapWrite c m) s (fun u => let k := u.d.fab.cluster c
        let old := s.d.fab.cluster c
        (∀ i : Fin 16, (k.siteOf[i]).map (·.val) = if entry i < 17 then some (entry i) else none) ∧
        (spares → k.spare.map (·.val) = some sp) ∧ (¬ spares → k.spare = none) ∧
        k.bad.toNat = fld m.status.toNat 24 8 ∧ k.columnFirst = old.columnFirst ∧
        k.mapGen = (if k.siteOf = old.siteOf ∧ k.spare = old.spare ∧ k.bad = old.bad then old.mapGen else old.mapGen + 1) ∧
        (∀ g : ClusterId, g ≠ c → u.d.fab.cluster g = s.d.fab.cluster g) ∧ u.d.fab.sites = s.d.fab.sites ∧ u.d.fab.cols = s.d.fab.cols ∧
        OnlyDevice s u ∧ ∃ rest, u.d.out = s.d.out ++ Out.towpath 0 :: rest))) ∧
    (∀ v : Word, Towpath (.routeWrite c v) s h (s.d.bankSt h 16 = .up) ∧ (on → Yields (.routeWrite c v) s (fun u => Done s u { s.d.bump with
      fab := s.d.bump.fab.setCluster c { s.d.fab.cluster c with columnFirst := v.getLsbD 0 } })))) ∧
  (∀ (s : State) (h : HalfId) (p : Fin 16) (v : Word), let c := siteCluster (siteOfNat (272 * h.val + 17 * p.val))
    Towpath (.vsetWrite h p v) s h (s.d.pwr.vin[h] = true) ∧
    (s.d.towUp h = true → s.d.pwr.vin[h] = true → Yields (.vsetWrite h p v) s (fun u =>
      Done s u (s.d.bump.setClp c { s.d.clp c with vset := fld v.toNat 8 0 }))))

/-- A write of BSN_RESET_CTRL by the PF with GO orders a reset of its level: discarded with REFUSED at or below the level in progress,
else taken with the scope of the one it replaces; halves in scope are fenced, a cluster reset faults the launches of its streams,
migrations in scope are abandoned. LOCK_GATES_CLOSED asserts reset: sites, samplers and from half compute on the channel roots in scope
are reset, columns filled where cleared, and a Basin reset takes the token service, links, ports and most registers. RESET_COMPLETE, once
the scope is ready, ends it, powers its carriers on, restarts migrations and lifts the fence. COLD_RESET needs its key by the mailbox.
VIN_h, VBSN, VPHY and VAON lost act as Table Lands-5 says; VPHY_RETURN brings VPHY back. The sideband clock lost is reported once; when it
returns the oldest event is sent. -/
def Obligations.ResetsAndLostRails : Prop :=
  (∀ (s : State) (f : FuncId) (v : Word), let go := f = 0 ∧ v.getLsbD 31 = true
    let target := fld v.toNat 4 0
    (¬ go → Yields (.clusterReset f v) s (fun u => Becomes s u s.d.bump) ∧ Yields (.halfComputeReset f v) s (fun u => Becomes s u s.d.bump) ∧
      Yields (.computeReset f v) s (fun u => Becomes s u s.d.bump) ∧ Yields (.basinReset f v) s (fun u => Becomes s u s.d.bump)) ∧
    (go → Yields (.clusterReset f v) s (fun u => OrderMet s u 1 (BitVec.ofNat 32 (2 ^ target)) (v.getLsbD 30) 0) ∧
      Yields (.halfComputeReset f v) s (fun u => OrderMet s u 2 (if target % 2 = 0 then 0x0000FFFF else 0xFFFF0000) (v.getLsbD 30) 0) ∧
      Yields (.computeReset f v) s (fun u => OrderMet s u 3 0xFFFFFFFF (v.getLsbD 30) 0) ∧
      Yields (.basinReset f v) s (fun u => OrderMet s u 4 0xFFFFFFFF (v.getLsbD 30) 0))) ∧
  (∀ s : State,
    (s.d.lkkRuns = false ∨ s.d.lkk.rst = none ∨ (∃ r, s.d.lkk.rst = some r ∧ r.asserted = true) → Yields .lockGatesClosed s (fun u => Becomes s u s.d.bump)) ∧
    (∀ r, s.d.lkkRuns = true → s.d.lkk.rst = some r → r.asserted = false → let inScope := fun x : SiteIx => r.scope.getLsbD (siteCluster x).val = true
      Yields .lockGatesClosed s (fun u => u.d.lkk.rst = some { r with asserted := true } ∧ u.d.fab.gated = (s.d.fab.gated ||| r.scope) ∧ u.pending = s.pending ∧ u.time = s.time ∧ u.agg = s.agg ∧
        (r.level ≤ 3 ∨ s.d.lkk.trial = none → OnlyDevice s u) ∧ u.d.lkk.copyA = s.d.lkk.copyA ∧ u.d.lkk.copyB = s.d.lkk.copyB ∧
        (r.level ≤ 3 ∨ s.d.lkk.trial = none → ∀ x : SiteIx, inScope x → SiteReset s u x) ∧
        (∀ c : ClusterId, r.scope.getLsbD c.val = true → (u.d.fab.sampler c).slots = [] ∧ (u.d.fab.sampler c).inflight = []) ∧
        (r.level = 1 → u.d.fab.cols = s.d.fab.cols ∧ u.d.svc = s.d.svc ∧ (∀ x : SiteIx, ¬ inScope x → u.d.fab.site x = s.d.fab.site x) ∧
          ∀ t : TileId, u.d.fab.siteOf t = s.d.fab.siteOf t) ∧
        (r.level = 2 ∨ r.level = 3 → (∀ x : SiteIx, inScope x → ColumnReset s u x r.clear) ∧
          (∀ h : HalfId, r.scope.getLsbD (16 * h.val) = true → u.d.fab.switching[h] = false ∧ u.d.fab.toColumn[h] = false ∧ ∀ c : ClusterId, clusterHalf c = h → (u.d.fab.cluster c).linkDown = 0 ∧
            (u.d.fab.cluster c).columnFirst = false ∧ (u.d.fab.cluster c).siteOf = (s.d.fab.cluster c).siteOf) ∧
          (r.clear = false → (∀ x : SiteIx, inScope x → (s.d.fab.col x).phase = .ready ∨ (s.d.fab.col x).phase = .reloading) →
            u.d.svc = s.d.svc ∧ ∀ x : SiteIx, ¬ inScope x → u.d.fab.site x = s.d.fab.site x ∧ u.d.fab.col x = s.d.fab.col x)) ∧
        (r.level = 4 → (s.d.lkk.trial = none → ∀ x : SiteIx, inScope x → ColumnReset s u x true) ∧ u.d.svc = { Svc.init with wear := s.d.svc.wear } ∧
          u.d.fab.mapValid = false ∧ u.d.fab.halfUp = Vector.replicate 2 false ∧
          u.d.host = { HostSt.init with
            bme := s.d.host.bme, cfg := s.d.host.cfg, vfs := s.d.host.vfs, linkUp := s.d.host.linkUp, perst := s.d.host.perst } ∧
          (∀ n : LinkId, (u.d.link n).phase = .down) ∧ (∀ n : PortId, (u.d.port n).up = 0) ∧
          (∀ i : QpId, u.d.qp i = Qp.init) ∧ (∀ g : GroupId, u.d.group g = CollGroup.init) ∧
          (∀ p ∈ u.d.regs, keptAtBasin p.1 = true) ∧ u.d.seen = Vector.replicate 2 none ∧ u.d.lkk.trial = none)))) ∧
  (∀ s : State,
    (s.d.lkkRuns = false ∨ s.d.lkk.rst = none ∨ (∃ r, s.d.lkk.rst = some r ∧ (r.asserted = false ∨ s.d.scopeReady r = false)) →
      Yields .resetComplete s (fun u => Becomes s u (s.d.bump.nextMigs s.env) ∧ (s.d.lkk.migWait = [] → Becomes s u s.d.bump))) ∧
    (∀ r, s.d.lkkRuns = true → s.d.lkk.rst = some r → r.asserted = true → s.d.scopeReady r = true → Yields .resetComplete s (fun u =>
      u.d.lkk.rst = none ∧ u.d.lkk.lastLevel = r.level ∧ u.d.lkk.lastCause = r.cause ∧ OnlyDevice s u ∧ u.d.fab.gated = (s.d.fab.gated &&& ~~~r.scope) ∧
      ((∀ t : TileId, r.scope.getLsbD (tileCluster t).val = true → tget s.d.fab.held [] t.val = []) → s.d.lkk.migWait = [] →
        u.d.fab.cols = s.d.fab.cols) ∧
      (r.level = 4 → u.d.fab.mapValid = s.d.fab.mapWritten) ∧ (r.level ≠ 4 → u.d.fab.mapValid = s.d.fab.mapValid) ∧
      (s.d.lkk.migHeld = [] → s.d.lkk.migWait = [] → ∀ t : TileId, u.d.fab.siteOf t = s.d.fab.siteOf t) ∧
      (∀ t a b, s.d.lkk.migHeld = [(t, a, b)] → s.d.lkk.migWait = [] → r.scope.getLsbD (tileCluster t).val = true →
        (let old := s.d.fab.cluster (tileCluster t)
          let k := moveTile (tileFin t) a b old
          u.d.fab.cluster (tileCluster t) =
            { k with mapGen := if k.siteOf = old.siteOf ∧ k.spare = old.spare ∧ k.bad = old.bad then old.mapGen else old.mapGen + 1 }) ∧
        u.d.lkk.migHeld = [] ∧ (r.level ≤ 3 → r.clear = false → u.d.lkk.mig[siteHalf a] = { s.d.lkk.mig[siteHalf a] with
          state := .copy, tile := t, src := a, dst := b, copying := true, rows := 0, mapped := true, took := 0 })) ∧
      (s.d.lkk.migHeld = [] → s.d.lkk.migWait = [] → ∀ (t : TileId) (x : SiteIx), r.scope.getLsbD (tileCluster t).val = true → s.d.fab.siteOf t = some x → s.d.siteBad x = false →
        s.d.bankSt (siteHalf x) (sitePcl x) = .up → (s.d.dom (domOf x)).state = .off →
        (u.d.dom (domOf x)).state = .ramping ∨ domOf x ∈ u.d.pwr.orders) ∧
      (∀ h : HalfId, 2 ≤ r.level → r.scope.getLsbD (16 * h.val) = true → s.d.fab.fenced[h] = true → s.d.lnk.cause[h] ≠ some .mesh →
        s.d.thm.tripped = false → s.d.railsUp h = true → s.d.linksConcluded h = true → s.d.lnk.trunk[h] ≠ 2 → s.d.halfTested h = true →
        (if r.level = 4 then s.d.fab.mapWritten else s.d.fab.mapValid) = true → u.d.fab.fenced[h] = false ∧ u.d.fab.halfUp[h] = true) ∧
      (r.level = 1 → u.d.fab.fenced = s.d.fab.fenced)))) ∧
  (∀ s : State,
    (∀ b, b = s.d.bump.pldmBinding →
      (s.d.pathUp b = false ∨ s.d.lkk.bootStage = 0 → Yields (.coldReset .pldm) s (fun u => Becomes s u s.d.bump)) ∧
      (s.d.pathUp b = true → s.d.lkk.bootStage ≠ 0 → s.d.fuseless = true → Yields (.coldReset .pldm) s (fun u => Becomes s u (s.d.bump.send (.mgmt b .notReady)))) ∧
      (∀ w, s.d.pathUp b = true → s.d.lkk.bootStage ≠ 0 → s.d.fuseless = false → s.d.bump.busy = some w →
        Yields (.coldReset .pldm) s (fun u => Becomes s u (s.d.bump.send (.mgmt b (.busy w)))))) ∧
    (s.d.pathUp s.d.bump.pldmBinding = true → s.d.lkk.bootStage ≠ 0 → s.d.fuseless = false → s.d.bump.busy = none → Yields (.coldReset .pldm) s (fun u => AfterCold s u true ∧ u.d.pwr.vaon = true ∧ u.d.lkk.lastCause = 1 ∧
      u.d.lkk.comps = bootedComps s.d.lkk.comps)) ∧
    (∀ f : FuncId, f ≠ 0 ∨ bit (s.env.reg 0x700100) 31 = true → Yields (.coldReset (.mailbox f)) s (fun u => Becomes s u s.d.bump)) ∧
    (bit (s.env.reg 0x700100) 31 = false → s.d.bump.busy = none → s.d.lkk.updating = false → s.env.reg 0x700104 = 0xC01D →
      Yields (.coldReset (.mailbox 0)) s (fun u => AfterCold s u true ∧ u.d.pwr.vaon = true ∧ u.d.lkk.lastCause = 0 ∧
        u.d.lkk.comps = bootedComps s.d.lkk.comps)) ∧
    (bit (s.env.reg 0x700100) 31 = false → s.d.bump.busy = none → s.d.lkk.updating = false → s.env.reg 0x700104 ≠ 0xC01D →
      Yields (.coldReset (.mailbox 0)) s (fun u => u.d.lkk.rsp = 2 ^ 31 + 2 * 2 ^ 16 ∧ OnlyDevice s u ∧ u.d.svc = s.d.svc ∧
        u.d.fab.sites = s.d.fab.sites ∧ u.d.fab.cols = s.d.fab.cols)) ∧
    Yields .vaonLoss s (fun u => AfterCold s u false ∧ u.d.pwr.vaon = false ∧ u.d.lkk.comps = bootedComps s.d.lkk.comps)) ∧
  (∀ (s : State) (h : HalfId),
    (s.d.pwr.vin[h] = false → Yields (.vinUndervoltage h) s (fun u => Becomes s u s.d.bump)) ∧
    (s.d.pwr.vin[h] = true → Yields (.vinUndervoltage h) s (fun u => u.d.pwr.vin = s.d.pwr.vin.set h false ∧ u.d.pwr.ctl[h] = false ∧
      (∀ k, k < 19 → (s.d.bankSt h k = .up ∨ s.d.bankSt h k = .starting → u.d.bankSt h k = .off) ∧
        (s.d.bankSt h k ≠ .up → s.d.bankSt h k ≠ .starting → u.d.bankSt h k = s.d.bankSt h k)) ∧
      (∀ (g : HalfId) (k : Nat), g ≠ h → k < 20 → u.d.bankSt g k = s.d.bankSt g k) ∧
      (∀ x : SiteIx, siteHalf x = h → s.d.bankSt h 16 = .up → (u.d.fab.col x).phase = .down) ∧
      (∀ x : SiteIx, siteHalf x ≠ h → u.d.fab.col x = s.d.fab.col x) ∧
      Fences s u h ∧ OnlyDevice s u ∧
      ((∀ q, s.d.lkk.rst = some q → q.level < 2) → ∃ r, u.d.lkk.rst = some r ∧ r.level = 2 ∧ r.cause = 2 ∧ r.scope.getLsbD (16 * h.val) = true ∧
        r.asserted = false ∧ u.d.lkk.refused = false) ∧
      ((∃ q, s.d.lkk.rst = some q ∧ 2 ≤ q.level) → u.d.lkk.rst = s.d.lkk.rst ∧ u.d.lkk.refused = true)))) ∧
  (∀ s : State,
    (s.d.pwr.vbsn = false → Yields .vbsnUndervoltage s (fun u => Becomes s u s.d.bump)) ∧
    (s.d.pwr.vbsn = true → Yields .vbsnUndervoltage s (fun u => u.d.pwr.vbsn = false ∧ u.d.pwr.vbsnLost = true ∧ u.d.lkk.basinUp = false ∧
      Fences s u 0 ∧ Fences s u 1 ∧ u.d.host.linkUp = false ∧ u.d.host.vfs = 0 ∧ OnlyDevice s u ∧ u.d.thm = s.d.thm ∧ u.d.net.ports = s.d.net.ports)) ∧
    (s.d.pwr.vphy = false → Yields .vphyUndervoltage s (fun u => Becomes s u s.d.bump)) ∧
    (s.d.pwr.vphy = true → Yields .vphyUndervoltage s (fun u => u.d.pwr.vphy = false ∧ (∀ n : LinkId, (u.d.link n).phase = .down) ∧
      (∀ n : PortId, (u.d.port n).up = 0 ∧ (u.d.port n).locked = 0) ∧ Fences s u 0 ∧ Fences s u 1 ∧ OnlyDevice s u ∧ u.d.thm = s.d.thm ∧
      u.d.host.linkUp = s.d.host.linkUp ∧ u.d.fab.cols = s.d.fab.cols)) ∧
    (s.d.pwr.vbsn = true → Yields .vphyReturn s (fun u => Becomes s u { s.d.bump with pwr := { s.d.pwr with vphy := true } })) ∧
    (s.d.pwr.vbsn = false → Yields .vphyReturn s (fun u => Becomes s u s.d.bump)) ∧
    (s.d.thm.sideLost = true → Yields .sidebandClockLoss s (fun u => u = s.bump)) ∧
    (s.d.thm.sideLost = false → Yields .sidebandClockLoss s (fun u => Tells s u 0x0807 (.basinBlock 13) ∧
      u = { s.bump with d := { s.d.bump with thm := { s.d.thm with sideLost := true }, fab := { s.d.bump.fab with reports := u.d.fab.reports } } })) ∧
    (s.d.lkk.events = [] ∨ s.d.lkk.evSent = true → Yields .sidebandClockReturn s (fun u =>
      u = { s.bump with d := { s.d.bump with thm := { s.d.thm with sideLost := false } } })) ∧
    (∀ p rest, s.d.lkk.events = p :: rest → s.d.lkk.evSent = false → Yields .sidebandClockReturn s (fun u =>
      u = { s.bump with d := { s.d.bump with
        thm := { s.d.thm with sideLost := false }, lkk := { s.d.lkk with evSent := true, dropped := 0 }
        out := s.d.out ++ [.mgmt .i3c (.event p.2 (Nat.min 255 s.d.lkk.dropped))] } })))

/-- A command of the mailbox that Lockkeeper cannot take is discarded, BUSY with its hint, or IN_PROGRESS. FW_STAGE begins a read;
FW_STAGE_COMPLETE ends BAD_IMAGE, AUTH_FAIL, FAILED, or with the image in the inactive slot. FW_ACTIVATE and FW_REVERT switch a bundle by
R416: refused in a trial or as incompatible; TILE holds launches until TILE_MICROCODE_DRAIN or TILE_SWITCH_ABANDON; COLL waits until no
collective operation is in flight, and goes on at a LOAD_WINDOW (the model's choice, log 179); LKK waits for CORE_B_TAKEOVER; one failure
returns all. TRIAL_PASS ends a trial after TRIAL s, FW_COMMIT makes active slots the boot slots and raises floors; a reverted image below
its floor is refused. LKK_HANDOVER, CORE_B_TAKEOVER and CORE_A_REJOIN are the steps of Table Bringup-8. A mismatch or a watchdog restarts
the cores that pass. LOAD_WINDOW sets SHED by Table Bringup-9. Without its clock Lockkeeper is stopped; when it returns it runs on the
cores that work and takes the records logged meanwhile. Work given to it while it does not run waits (R421). -/
def Obligations.FirmwareIsReplacedWhileTheDeviceServes : Prop :=
  MailboxTurnsAway .fwStage ∧ (∀ health, MailboxTurnsAway (fun f => .fwActivate f health)) ∧ MailboxTurnsAway .fwCommit ∧ MailboxTurnsAway .fwRevert ∧
  MailboxTurnsAway .lkkHandover ∧ MailboxTurnsAway (fun f => .coldReset (.mailbox f)) ∧
  (∀ s : State, Accepts s → let n := fld (s.env.reg 0x700100) 15 8
    Yields (.fwStage 0) s (fun u => u.d.lkk.op = some (.stage n (s.env.reg 0x700104 + s.env.reg 0x700108 * 2 ^ 32) (s.env.reg 0x70010C)) ∧
      u.d.comp n = { s.d.comp n with staging := true } ∧ (∀ m, m ≠ n → u.d.comp m = s.d.comp m) ∧ u.d.lkk.rsp = s.d.lkk.rsp % 2 ^ 31 ∧
      bit (tget u.d.regs 0 0x700100) 31 = true ∧ OnlyDevice s u ∧ u.d.svc = s.d.svc ∧ u.d.fab.sites = s.d.fab.sites) ∧
    (∀ health : List FwHealth, let fails := (health.filter (fun h => !h.ok)).map (·.comp)
      (n ≠ 0xFF → n = 0 ∨ 10 < n → Yields (.fwActivate 0 health) s (fun u => Responds u 2 0 ∧ Still s u)) ∧
      (1 ≤ n → n ≤ 10 → Yields (.fwActivate 0 health) s (fun u => Bundle s u (s.d.stagedComps.filter (fun m => m = n)) fails true false)) ∧
      (n = 0xFF → Yields (.fwActivate 0 health) s (fun u => Bundle s u s.d.stagedComps fails true false))) ∧
    (s.d.lkk.trial ≠ none → Yields (.fwCommit 0) s (fun u => Responds u 6 0 ∧ Still s u)) ∧
    (s.d.lkk.trial = none → Yields (.fwCommit 0) s (fun u => Responds u 0 0 ∧ Committed s u)) ∧
    (let all := switchOrder.filter (fun m => (m = n || n = 0xFF) && (s.d.comp m).other.isSome)
      let low := ∃ m ∈ all, ∃ i, (s.d.comp m).other = some i ∧ i.svn < tget s.sec.floors 0 m
      (n ≠ 0xFF → n = 0 ∨ 10 < n → Yields (.fwRevert 0) s (fun u => Responds u 2 0 ∧ Still s u)) ∧
      (n = 0xFF ∨ (1 ≤ n ∧ n ≤ 10) → all = [] → Yields (.fwRevert 0) s (fun u => Responds u 7 0 ∧ Still s u)) ∧
      (n = 0xFF ∨ (1 ≤ n ∧ n ≤ 10) → low → Yields (.fwRevert 0) s (fun u => Responds u 4 0 ∧ Still s u)) ∧
      (n = 0xFF ∨ (1 ≤ n ∧ n ≤ 10) → all ≠ [] → ¬ low → Yields (.fwRevert 0) s (fun u => Bundle s u all [] true true))) ∧
    (s.d.lkk.mode = .lockstep → Yields (.lkkHandover 0) s (fun u => u.d.lkk.mode = .handover ∧ u.d.lkk.op = some .handover ∧ Still s u ∧
      bit (tget u.d.regs 0 0x700100) 31 = true)) ∧
    (s.d.lkk.mode ≠ .lockstep → Yields (.lkkHandover 0) s (fun u => Responds u 7 0 ∧ Still s u))) ∧
  (∀ (s : State) (r : Option FwImage),
    ((∀ n a k, s.d.lkk.op ≠ some (.stage n a k)) ∨ s.sec.timebaseLost = true ∨ s.d.class3 = false → Yields (.fwStageComplete r) s (fun u =>
      Becomes s u s.d.bump)) ∧
    (∀ n a k, s.d.lkk.op = some (.stage n a k) → s.sec.timebaseLost = false → s.d.class3 = true → let c := { s.d.comp n with staging := false }
      let others := fun u : State => (∀ m, m ≠ n → u.d.comp m = s.d.comp m) ∧ u.d.lkk.op = none ∧ OnlyDevice s u ∧ u.d.svc = s.d.svc ∧
        u.d.fab.sites = s.d.fab.sites
      (r = none → Yields (.fwStageComplete r) s (fun u => Responds u 7 0 ∧ u.d.comp n = c ∧ others u)) ∧
      (∀ i, r = some i → fwHeaderOk i n = false → Yields (.fwStageComplete r) s (fun u => Responds u 3 0 ∧ u.d.comp n = c ∧ others u)) ∧
      (∀ i, r = some i → fwHeaderOk i n = true → fwSigned s.fuse i (tget s.sec.floors 0 n) = false → Yields (.fwStageComplete r) s (fun u =>
        Responds u 4 0 ∧ u.d.comp n = c ∧ others u)) ∧
      (∀ i, r = some i → fwHeaderOk i n = true → fwSigned s.fuse i (tget s.sec.floors 0 n) = true → Yields (.fwStageComplete r) s (fun u =>
        Responds u 0 0 ∧ others u ∧
        u.d.comp n = if c.activeB then { c with a := some (fwInfo i), staged := true } else { c with b := some (fwInfo i), staged := true })))) ∧
  (∀ s : State, let now := blockTicks s.time .lockkeeper
    (s.d.lkk.trial = none ∨ s.d.lkkRuns = false ∨ (∃ t, s.d.lkk.trial = some t ∧ now < t.since + 1000000 * trialS s.env) →
      Yields .trialPass s (fun u => Becomes s u s.d.bump)) ∧
    (∀ t, s.d.lkk.trial = some t → s.d.lkkRuns = true → t.since + 1000000 * trialS s.env ≤ now → Yields .trialPass s (fun u => u.d.lkk.trial = none ∧
      (∀ n ∈ t.comps, (u.d.comp n).trial = false) ∧
      (t.pldm = false → (∀ n, { u.d.comp n with trial := false } = { s.d.comp n with trial := false }) ∧ OnlyDevice s u ∧ u.d.lkk.upd = s.d.lkk.upd) ∧
      (t.pldm = true → Committed s u ∧ u.d.lkk.upd = s.d.lkk.upd.map (fun x => { x with state := 5 })))) ∧
    ((∀ r, s.d.lkk.op ≠ some (.drain r)) → Yields .tileMicrocodeDrain s (fun u => Becomes s u s.d.bump) ∧
      Yields .tileSwitchAbandon s (fun u => Becomes s u s.d.bump)) ∧
    (∀ r, s.d.lkk.op = some (.drain r) →
      (s.d.svc.launches ≠ [] ∨ s.d.class3 = false → Yields .tileMicrocodeDrain s (fun u => Becomes s u s.d.bump)) ∧
      (s.d.svc.launches = [] → s.d.class3 = true → r.done = [] → 6 ∈ r.fails → Yields .tileMicrocodeDrain s (fun u => Ends s u r.mbx 7 ∧
        u.d.svc = { s.d.svc with holdAll := false } ∧ u.d.lkk.comps = s.d.lkk.comps ∧ u.d.fab.sites = s.d.fab.sites ∧ OnlyDevice s u)) ∧
      (s.d.svc.launches = [] → s.d.class3 = true → r.done = [] → r.rest = [] → 6 ∉ r.fails → Yields .tileMicrocodeDrain s (fun u =>
        Ends s u r.mbx 0 ∧ Switched s u [6] r.mbx r.revert ∧ u.d.svc = { s.d.svc with holdAll := false } ∧
        ∀ x : SiteIx, let a := s.d.fab.site x
          ((if a.bank = 0 then a.code.2 else a.code.1) = 0 → u.d.fab.site x = a) ∧
          ((if a.bank = 0 then a.code.2 else a.code.1) ≠ 0 → u.d.fab.site x = { a with bank := 1 - a.bank }))) ∧
      (s.d.svc.launches = [] ∨ now < r.since + 100000 → Yields .tileSwitchAbandon s (fun u => Becomes s u s.d.bump)) ∧
      (s.d.svc.launches ≠ [] → r.since + 100000 ≤ now → r.done = [] → Yields .tileSwitchAbandon s (fun u =>
        u.d.svc = { s.d.svc with holdAll := false } ∧ u.d.lkk.comps = s.d.lkk.comps ∧ u.d.lkk.op = none ∧ OnlyDevice s u ∧
        (r.mbx = true → ∃ ms, 1 ≤ ms ∧ ms ≤ 65535 ∧ Responds u 1 ms) ∧
        (r.mbx = false → u.d.lkk.upd = s.d.lkk.upd.map (fun x => { x with state := 6 })))))) ∧
  (∀ (s : State) (ok : Bool),
    (s.d.lkk.mode ≠ .handover ∨ s.d.lkk.clkLost = true → Yields (.coreBTakeover ok) s (fun u => Becomes s u s.d.bump)) ∧
    (s.d.lkk.mode = .handover → s.d.lkk.clkLost = false →
      (s.d.lkk.op = some .handover → Yields (.coreBTakeover ok) s (fun u => (s.d.booted = true → u.agg.later = []) ∧
        (s.agg.later = [] → s.d.lkk.work = [] → u.d.lkk.mode = (if ok = true then .handover else .lockstep) ∧ u.d.lkk.op = none ∧
          Responds u (if ok = true then 0 else 7) 0 ∧ Still s u))) ∧
      (∀ r, s.d.lkk.op = some (.newImage r) → Yields (.coreBTakeover ok) s (fun u => (s.d.booted = true → u.agg.later = []) ∧
        (s.agg.later = [] → s.d.lkk.work = [] → r.done = [] → r.rest = [] → ok = true → 1 ∉ r.fails → u.d.lkk.mode = .handover ∧ Ends s u r.mbx 0 ∧
          Switched s u [1] r.mbx r.revert) ∧
        (s.agg.later = [] → s.d.lkk.work = [] → r.done = [] → ok = false ∨ 1 ∈ r.fails → u.d.lkk.mode = .lockstep ∧ Ends s u r.mbx 7 ∧ Still s u)))) ∧
    (s.d.lkk.taken = true → s.d.lkk.clkLost = false → Yields .coreARejoin s (fun u => u = { s.bump with d := { s.d.bump with
      lkk := { s.d.lkk with mode := .lockstep } } })) ∧
    (s.d.lkk.taken = false ∨ s.d.lkk.clkLost = true → Yields .coreARejoin s (fun u => u = s.bump))) ∧
  (∀ (s : State) (a b : Bool),
    (s.d.lkk.mode = .lockstep → s.d.lkkRuns = true → Yields (.lockstepMismatch a b) s (fun u => CoresTested s u a b)) ∧
    (s.d.lkk.mode ≠ .lockstep ∨ s.d.lkkRuns = false → Yields (.lockstepMismatch a b) s (fun u => u = s.bump)) ∧
    (s.d.lkkRuns = true → Yields (.watchdogExpiry a b) s (fun u => CoresTested s u a b)) ∧
    (s.d.lkkRuns = false → Yields (.watchdogExpiry a b) s (fun u => u = s.bump))) ∧
  (∀ (s : State) (load : Nat), let entry := fun i : Fin 3 => if i.val = 0 then 80 else if i.val = 1 then 90 else 98
    (s.d.lkkRuns = false → Yields (.loadWindow load) s (fun u => Becomes s u s.d.bump)) ∧
    (s.d.lkkRuns = true → Yields (.loadWindow load) s (fun u => u.agg.later = [] ∧
      (s.agg.later = [] → u.d.lkk.work = []) ∧
      (s.agg.later = [] → s.d.lkk.work = [] → (∀ r, s.d.lkk.op ≠ some (.quiet r)) → ∃ (calm : Vector Nat 3) (shed : Nat),
        Becomes s u { s.d.bump with lkk := { s.d.lkk with
          load := load, calm := calm, shed := shed
          sensHeld := if 2 ≤ shed ∧ s.d.lkk.shed < 2 then (List.range 22).map (fun n => s.bump.sensorValues s.env n) else s.d.lkk.sensHeld } } ∧
        shed ≤ 3 ∧ (∀ i : Fin 3, entry i < load → i.val + 1 ≤ shed) ∧
        (∀ i : Fin 3, calm[i] = if load < entry i - 10 then s.d.lkk.calm[i] + 1 else 0) ∧
        (s.d.lkk.shed = 0 → shed = if 98 < load then 3 else if 90 < load then 2 else if 80 < load then 1 else 0) ∧
        (∀ i : Fin 3, s.d.lkk.shed = i.val + 1 → calm[i] < 10 → i.val + 1 ≤ shed) ∧
        (∀ i : Fin 3, s.d.lkk.shed = i.val + 1 → 10 ≤ calm[i] → shed ≤ i.val)) ∧
      (∀ r, s.d.lkk.op = some (.quiet r) → s.agg.later = [] → s.d.lkk.work = [] → s.d.lkk.shed = 0 → load ≤ 98 → CollsIdle s → s.d.net.held = [] →
        r.done = [] → r.rest = [] → (5 ∉ r.fails → Ends s u r.mbx 0 ∧ Switched s u [5] r.mbx r.revert) ∧
          (5 ∈ r.fails → Ends s u r.mbx 7 ∧ SlotsHeld s u ∧ u.sec.updates = s.sec.updates))))) ∧
  (∀ s : State,
    Yields .lkkClockLoss s (fun u => u = { s.bump with d := { s.d.bump with lkk := { s.d.lkk with clkLost := true, mode := .stopped } } }) ∧
    (s.d.lkk.clkLost = false → Yields .lkkClockReturn s (fun u => Becomes s u s.d.bump)) ∧
    (s.d.lkk.clkLost = true → Yields .lkkClockReturn s (fun u => (s.d.booted = true → s.d.lkk.coreA = true ∨ s.d.lkk.coreB = true → u.agg.later = []) ∧
      (s.agg.later = [] → s.d.lkk.work = [] →
      u.d.lkk.clkLost = false ∧ ((∀ r, s.d.lkk.op = some (.newImage r) → r.done = []) → Still s u) ∧
      u.d.lkk.mode = (if s.d.lkk.coreA = true ∧ s.d.lkk.coreB = true then .lockstep else if s.d.lkk.coreA = true ∨ s.d.lkk.coreB = true then .single
        else .stopped) ∧
      (s.d.lkk.op = some .handover → u.d.lkk.op = none ∧ Responds u 7 0) ∧
      (∀ r, s.d.lkk.op = some (.newImage r) → r.done = [] → Ends s u r.mbx 7))))) ∧
  (∀ s : State, s.d.lkkRuns = false →
    (∀ (h : HalfId) (ok : Bool), Waits (.spareReady h ok) s (.spare h ok)) ∧ (∀ h : HalfId, Waits (.migrationCopyComplete h) s (.copied h)) ∧
    (∀ h : HalfId, Waits (.stateCopyComplete h) s (.stateCopied h)) ∧ (∀ caps, Waits (.tier2LinkUp caps) s (.tier2 caps)) ∧
    (∀ (k : CartId) (r : CartCheck), Waits (.cartCheckComplete k r) s (.checked k r)) ∧
    (∀ v : Word, v.getLsbD 31 = true → ∀ t : TileId, t.val = fld v.toNat 8 0 → Waits (.bsnMigCtrl 0 v) s (.migrate t)) ∧
    (∀ (k : CartId) (force : Bool), Yields (.prepare (.bar0 0) k force) s (fun u => Becomes s u { s.d.bump with
      regs := u.d.regs, lkk := { s.d.lkk with work := s.d.lkk.work ++ [.prepare k force] } })) ∧
    (∀ k : CartId, Yields (.cancelCartridge (.bar0 0) k) s (fun u => Becomes s u { s.d.bump with
      regs := u.d.regs, lkk := { s.d.lkk with work := s.d.lkk.work ++ [.cancel k] } })))

/-- An SPDM request without its path, or of more than 4,096 bytes, is not answered; after an erasure it is answered Unspecified, on
another transport InvalidSession, while it is put off ResponseNotReady; for another version, with a reserved field set, or for a slot
other than 0 with some error. Else GET_VERSION, GET_CAPABILITIES, NEGOTIATE_ALGORITHMS, GET_DIGESTS, GET_CERTIFICATE, CHALLENGE and
GET_MEASUREMENTS are answered from one instant. KEY_EXCHANGE opens a session, the fifth is refused, and none opens for 1 s after a level-2
event. FINISH, HEARTBEAT, KEY_UPDATE and END_SESSION act on their session; HEARTBEAT_EXPIRY ends one idle for 60 s. SEC_LOCK sets the
lock. TAMPER_EVENT acts at the level of its source, each level including those below; with ERASE_DATA a level-3 event orders a Basin
reset. SEC_TAMPER_STATUS clears level-1 and level-2 bits whose condition is absent. SECURITY_TIMEBASE_RETURN ends the loss of the
timebase. -/
def Obligations.TheSecurityBlockAnswersLocksAndErases : Prop :=
  SpdmAnswers .getVersion false [0x10] (fun _ _ => .versions [0x13, 0x12]) ∧
  SpdmAnswers .getCapabilities false [0x13, 0x12] (fun _ _ => .capabilities) ∧
  SpdmAnswers .negotiateAlgorithms false [0x13, 0x12] (fun _ _ => .algorithms) ∧
  SpdmAnswers .getDigests false [0x13, 0x12] (fun s _ => .digests s.sec.akGen) ∧
  SpdmAnswers .getMeasurements true [0x13, 0x12] (fun s m => .measurements s.sec.akGen
    ((s.measurements s.env).filter (fun p => m.param2.toNat = 0xFF || p.1 = m.param2.toNat))) ∧
  SpdmTurnsAway .getCertificate false [0x13, 0x12] ∧ SpdmTurnsAway .challenge true [0x13, 0x12] ∧ SpdmTurnsAway .keyExchange true [0x13, 0x12] ∧
  (∀ (s : State) (m : SpdmIn), let used := fun u : State => u.sec = { s.sec with sessions := SessionsAfter s m } ∧ OnlySec s u
    (SpdmServes s m false [0x13, 0x12] → m.param1.toNat % 16 = 0 → Yields (.getCertificate m) s (fun u =>
      Sends s u m.via (.certificate s.sec.akGen (leAt m.body 0 2) (leAt m.body 2 2)) ∧ used u)) ∧
    (SpdmServes s m true [0x13, 0x12] → m.param1.toNat % 16 = 0 → Yields (.challenge m) s (fun u => Sends s u m.via (.challengeAuth s.sec.akGen) ∧ used u)) ∧
    (SpdmServes s m false [0x13, 0x12] → m.param1.toNat % 16 ≠ 0 → Yields (.getCertificate m) s (fun u =>
      (∃ x, Sends s u m.via (.spdmError (.other x))) ∧ used u)) ∧
    (SpdmServes s m true [0x13, 0x12] → m.param1.toNat % 16 ≠ 0 → Yields (.challenge m) s (fun u =>
      (∃ x, Sends s u m.via (.spdmError (.other x))) ∧ used u)) ∧
    (SpdmServes s m true [0x13, 0x12] →
      (s.time.ticks < s.sec.barUntil → Yields (.keyExchange m) s (fun u => (∃ x, Sends s u m.via (.spdmError (.other x))) ∧ used u)) ∧
      (s.sec.barUntil ≤ s.time.ticks → 4 ≤ s.sec.sessions.length → Yields (.keyExchange m) s (fun u =>
        Sends s u m.via (.spdmError .sessionLimitExceeded) ∧ used u)) ∧
      (s.sec.barUntil ≤ s.time.ticks → s.sec.sessions.length < 4 → Yields (.keyExchange m) s (fun u =>
        Sends s u m.via (.keyExchanged s.sec.nextSession) ∧ OnlySec s u ∧ u.sec = { s.sec with
          nextSession := s.sec.nextSession + 1
          sessions := SessionsAfter s m ++ [{ id := s.sec.nextSession, via := m.via, open_ := false, last := s.time.ticks, keys := 0 }] })))) ∧
  InSession .finish true (fun q => some { q with open_ := true }) ∧ InSession .heartbeat false some ∧
  InSession .keyUpdate true (fun q => some { q with keys := q.keys + 1 }) ∧ InSession .endSession false (fun _ => none) ∧
  (∀ (s : State) (id : Nat), Yields (.heartbeatExpiry id) s (fun u => u = { s.bump with sec := { s.sec with
    sessions := s.sec.sessions.filter (fun q => decide (q.id ≠ id) || decide (s.time.ticks < q.last + 60000000)) } })) ∧
  (∀ (s : State) (f : FuncId) (v : Word),
    (f ≠ 0 ∨ v.getLsbD 0 = false → Yields (.secLock f v) s (fun u => OnlySends s u)) ∧
    (v.getLsbD 0 = true → Yields (.secLock 0 v) s (fun u => u.sec = { s.sec with lock := true } ∧ OnlyDevice { s with sec := u.sec } u ∧
      u.d.svc = s.d.svc ∧ u.d.fab.sites = s.d.fab.sites ∧ (∀ o, o ≠ 0x600000 → tget u.d.regs 0 o = tget s.d.regs 0 o) ∧
      (s.sec.lock = true → u.d.regs = s.d.regs) ∧
      (s.sec.lock = false → tget u.d.regs 0 0x600000 = 16 * fld v.toNat 7 4 + 2 * fld v.toNat 1 1)))) ∧
  (∀ (s : State) (src : Fin 6), let lv := levelOf s src
    let mark : BitVec 6 := BitVec.ofNat 6 (2 ^ src.val)
    let erases := bit (s.env.reg 0x600000) 1 = true
    (s.d.pwr.vaon = false ∨ lv = 0 → Yields (.tamperEvent src) s (fun u => OnlySends s u)) ∧
    (s.d.pwr.vaon = true → lv ≠ 0 → Yields (.tamperEvent src) s (fun u =>
      u.sec = { s.sec with
        sources := s.sec.sources ||| mark, level := Nat.max s.sec.level lv, timebaseLost := s.sec.timebaseLost || src.val == 4
        lock := s.sec.lock || decide (2 ≤ lv), sessions := if 2 ≤ lv then [] else s.sec.sessions
        barUntil := if 2 ≤ lv then s.time.ticks + 1000000 else s.sec.barUntil
        level3 := if lv = 3 then s.sec.level3 ||| mark else s.sec.level3, erased := s.sec.erased || decide (lv = 3)
        count := if lv = 3 then Nat.min 0xFFFF (s.sec.count + 1) else s.sec.count } ∧
      (s.d.lkk.events.length < 60 → ∃ sev, (sev, [15, BitVec.ofNat 8 s.sec.level, BitVec.ofNat 8 u.sec.level]) ∈ u.d.lkk.events) ∧
      u.time = s.time ∧ u.agg = s.agg ∧ u.pending = s.pending ∧ u.fuse = s.fuse ∧
      (lv ≠ 3 ∨ ¬ erases → u.d.lkk.rst = s.d.lkk.rst ∧ u.d.svc = s.d.svc ∧ u.d.fab.fenced = s.d.fab.fenced ∧ u.d.fab.sites = s.d.fab.sites ∧
        u.d.fab.cols = s.d.fab.cols) ∧
      (lv = 3 → erases → (∀ q, s.d.lkk.rst = some q → q.level < 4) → ∃ r, u.d.lkk.rst = some r ∧ r.level = 4 ∧ r.cause = 1 ∧ r.scope = 0xFFFFFFFF ∧
        r.asserted = false ∧ Fences s u 0 ∧ Fences s u 1)))) ∧
  (∀ (s : State) (v : Word) (present : BitVec 6), let clears := fun (m : BitVec 6) (u : State) =>
      u.sec = { s.sec with sources := s.sec.sources &&& ~~~(m &&& ~~~s.sec.level3 &&& ~~~present) } ∧ OnlySec s u
    Yields (.secTamperStatus (.bar0 0) v present) s (clears (v.setWidth 6)) ∧
    (∀ f : FuncId, f ≠ 0 → Yields (.secTamperStatus (.bar0 f) v present) s (fun u => OnlySends s u)) ∧
    (PldmServes s s.d.bump.pldmBinding → Yields (.secTamperStatus .pldm v present) s (fun u =>
      clears 0x3F u ∧ Sends s u s.d.bump.pldmBinding .pldmOk)) ∧
    (¬ PldmServes s s.d.bump.pldmBinding → Yields (.secTamperStatus .pldm v present) s (fun u => OnlySends s u))) ∧
  (∀ s : State, Yields .securityTimebaseReturn s (fun u => u = { s.bump with sec := { s.sec with timebaseLost := false } }))

/-- A PLDM request is not answered without its path, is answered ERROR_NOT_READY without a fuse map and BUSY with its hint while
Lockkeeper is busy. SET_ENDPOINT_ID sets the ID of its binding, without a fuse map too. GET_SENSOR_READING answers the sensor of Table
Trust-9; from SHED 2 on the last value, as unavailable. POWER_CAP_EFFECTER sets the PLDM cap from 300 W to the fused cap.
PLATFORM_EVENT_ACK drops the event that was sent and sends the next. REQUEST_UPDATE begins an update, or is answered RETRY_REQUEST_UPDATE;
PASS_COMPONENT_TABLE names its components; FIRMWARE_DATA takes pieces in order, asks for the next and, with the last one, checks the image
and stages it or fails the update; ACTIVATE_FIRMWARE switches all staged components as one bundle; GET_STATUS tells how it stands. -/
def Obligations.TheManagementEndpointServes : Prop :=
  (∀ n, PldmTurnsAway (fun b => .getSensorReading b n)) ∧ (∀ w, PldmTurnsAway (fun b => .powerCapEffecter b w)) ∧ PldmTurnsAway .requestUpdate ∧
  (∀ l, PldmTurnsAway (fun b => .passComponentTable b l)) ∧ (∀ h, PldmTurnsAway (fun b => .activateFirmware b h)) ∧ PldmTurnsAway .getStatus ∧
  (∀ (s : State) (b : MctpBinding) (eid : Byte), let up := s.d.pathUp b = true ∧ s.d.lkk.bootStage ≠ 0
    let set := fun u : State => Sends s u b (.eidSet eid) ∧ Becomes s u { s.d.bump with
      lkk := { s.d.lkk with eid := match b with | .i3c => s.d.lkk.eid.set 0 (some eid) | .vdm => s.d.lkk.eid.set 1 (some eid) }
      out := s.d.out ++ [.mgmt b (.eidSet eid)] }
    (¬ up → Yields (.setEndpointId b eid) s (fun u => OnlySends s u)) ∧ (up → s.d.lkk.bootStage = 0x1F → Yields (.setEndpointId b eid) s set) ∧
    (up → s.d.bump.busy = none → Yields (.setEndpointId b eid) s set) ∧
    (∀ h, up → s.d.lkk.bootStage ≠ 0x1F → s.d.bump.busy = some h → Yields (.setEndpointId b eid) s (fun u => Sends s u b (.busy h) ∧ OnlySends s u))) ∧
  (∀ (s : State) (b : MctpBinding), PldmServes s b →
    (∀ n v, s.bump.sensorValues s.env n = some v → s.d.lkk.shed < 2 → Yields (.getSensorReading b n) s (fun u => Sends s u b (.sensor v false) ∧
      OnlySends s u)) ∧
    (∀ n, n = 0 ∨ 21 < n → Yields (.getSensorReading b n) s (fun u => (∃ x, Sends s u b (.pldmError x)) ∧ OnlySends s u)) ∧
    (∀ n, 1 ≤ n → n ≤ 21 → ∃ v, s.bump.sensorValues s.env n = some v) ∧
    s.bump.sensorValues s.env 6 = some [(s.d.thm.throttled : Int)] ∧ s.bump.sensorValues s.env 15 = some [(s.sec.level : Int)] ∧
    s.bump.sensorValues s.env 9 = some [if s.d.fab.halfUp[(0 : HalfId)] = true then (if s.d.fab.halfUp[(1 : HalfId)] = true then 0 else 1)
      else (if s.d.fab.halfUp[(1 : HalfId)] = true then 2 else 3)] ∧
    s.bump.sensorValues s.env 16 = some [if s.d.lkk.trial.isSome = true then 1 else if s.d.lkk.fallback = true then 2 else 0] ∧
    (∀ k : CartId, s.bump.sensorValues s.env (10 + k.val) = some [((s.d.cart k).cstate.code : Int), ((s.d.cart k).drive : Int), ((s.d.cart k).eolHours : Int)]) ∧
    (∀ w, 300 ≤ w → w ≤ s.fuse.capW → Yields (.powerCapEffecter b w) s (fun u => Sends s u b .pldmOk ∧
      Becomes s u { s.d.bump with pwr := { s.d.pwr with pldmCap := some w }, out := s.d.out ++ [.mgmt b .pldmOk] })) ∧
    (∀ w, w < 300 ∨ s.fuse.capW < w → Yields (.powerCapEffecter b w) s (fun u => Sends s u b .invalidData ∧ OnlySends s u)) ∧
    (s.d.lkk.op ≠ none ∨ s.d.lkk.trial ≠ none ∨ s.d.lkk.updating = true → Yields (.requestUpdate b) s (fun u =>
      Sends s u b .retryRequestUpdate ∧ OnlySends s u)) ∧
    (s.d.lkk.op = none → s.d.lkk.trial = none → s.d.lkk.updating = false → Yields (.requestUpdate b) s (fun u => Sends s u b .pldmOk ∧
      Updating s u { comps := [], got := 0, done := [], state := 1 } ∧ u.d.lkk.comps = s.d.lkk.comps)) ∧
    (∀ l : List Byte, let good := l ≠ [] ∧ ∀ n ∈ l, 1 ≤ n.toNat ∧ n.toNat ≤ 10
      ((∀ x, s.d.lkk.upd = some x → x.state ≠ 1) ∨ ¬ good → Yields (.passComponentTable b l) s (fun u => Sends s u b .invalidData ∧ OnlySends s u)) ∧
      (∀ x, s.d.lkk.upd = some x → x.state = 1 → good → Yields (.passComponentTable b l) s (fun u =>
        SendsAll s u [.mgmt b .pldmOk, .mgmt b (.fwRequest ((l.map BitVec.toNat).headD 0) 0 1024)] ∧
        Updating s u { x with comps := l.map BitVec.toNat, state := 2 } ∧ (∀ n ∈ l, (u.d.comp n.toNat).staging = true)))) ∧
    (∀ health : List FwHealth, let fails := (health.filter (fun h => !h.ok)).map (·.comp)
      ((∀ x, s.d.lkk.upd = some x → x.state ≠ 3) → Yields (.activateFirmware b health) s (fun u => Sends s u b .invalidData ∧ OnlySends s u)) ∧
      (∀ x, s.d.lkk.upd = some x → x.state = 3 → Yields (.activateFirmware b health) s (fun u => Sends s u b .pldmOk ∧
        Bundle s u s.d.stagedComps fails false false))) ∧
    (s.d.lkk.upd = none → Yields (.getStatus b) s (fun u => Sends s u b (.fwProgress 0) ∧ OnlySends s u)) ∧
    (∀ x, s.d.lkk.upd = some x → Yields (.getStatus b) s (fun u => Sends s u b (.fwProgress x.state) ∧ OnlySends s u))) ∧
  (∀ (s : State) (b : MctpBinding) (n : Nat) (v w : List Int), s.d.pathUp b = true → s.d.lkk.bootStage ≠ 0 → s.d.lkk.bootStage ≠ 0x1F →
    s.bump.sensorValues s.env n = some v → 2 ≤ s.d.lkk.shed → s.d.lkk.sensHeld[n]? = some (some w) → Yields (.getSensorReading b n) s (fun u =>
      Sends s u b (match s.d.bump.busy with | some h => .busy h | none => .sensor w true) ∧ OnlySends s u)) ∧
  (∀ (s : State) (b : MctpBinding) (p : FwPiece),
    (s.d.pathUp b = false ∨ s.d.class3 = false ∨ s.d.lkk.upd = none → Yields (.firmwareData b p) s (fun u => OnlySends s u)) ∧
    (∀ x, s.d.pathUp b = true → s.d.class3 = true → s.d.lkk.upd = some x →
      (x.comps = [] ∨ x.state ≠ 2 ∨ x.comps.head? ≠ some p.comp ∨ p.off ≠ x.got ∨ p.len = 0 ∨ 1024 < p.len → Yields (.firmwareData b p) s (fun u =>
        OnlySends s u)) ∧
      (∀ rest, x.comps = p.comp :: rest → x.state = 2 → p.off = x.got → 1 ≤ p.len → p.len ≤ 1024 → let n := p.comp
        let c := { s.d.comp n with staging := false }
        (p.image = none → Yields (.firmwareData b p) s (fun u => Sends s u b (.fwRequest n (x.got + p.len) 1024) ∧
          Updating s u { x with got := x.got + p.len } ∧ u.d.lkk.comps = s.d.lkk.comps)) ∧
        (∀ i, p.image = some i → s.sec.timebaseLost = true → Yields (.firmwareData b p) s (fun u => OnlySends s u)) ∧
        (∀ i, p.image = some i → s.sec.timebaseLost = false → fwHeaderOk i n = true → fwSigned s.fuse i (tget s.sec.floors 0 n) = true →
          Yields (.firmwareData b p) s (fun u => SendsAll s u ([.mgmt b (.fwTransferred n), .mgmt b (.fwVerified n true), .mgmt b (.fwApplied n)] ++
              (match rest with | m :: _ => [.mgmt b (.fwRequest m 0 1024)] | [] => [])) ∧ OnlyDevice s u ∧ u.d.svc = s.d.svc ∧
            u.d.lkk.upd = some { comps := rest, got := 0, done := x.done ++ [n], state := if rest = [] then 3 else 2 } ∧
            (∀ m, m ≠ n → u.d.comp m = s.d.comp m) ∧
            u.d.comp n = if c.activeB then { c with a := some (fwInfo i), staged := true } else { c with b := some (fwInfo i), staged := true })) ∧
        (∀ i, p.image = some i → s.sec.timebaseLost = false → fwHeaderOk i n = false ∨ fwSigned s.fuse i (tget s.sec.floors 0 n) = false →
          Yields (.firmwareData b p) s (fun u => SendsAll s u [.mgmt b (.fwTransferred n), .mgmt b (.fwVerified n false)] ∧ Updating s u { x with state := 6 } ∧ ∀ m ∈ x.comps, (u.d.comp m).staging = false))))) ∧
  (∀ s : State,
    (s.d.thm.sideLost = true ∨ s.d.lkk.evSent = false → Yields .platformEventAck s (fun u => u = s.bump)) ∧
    (s.d.thm.sideLost = false → s.d.lkk.evSent = true →
      (s.d.lkk.events.length ≤ 1 → Yields .platformEventAck s (fun u => u = { s.bump with d := { s.d.bump with
        lkk := { s.d.lkk with events := [], evSent := false } } })) ∧
      (∀ p q rest, s.d.lkk.events = p :: q :: rest → Yields .platformEventAck s (fun u => u = { s.bump with d := { s.d.bump with
        lkk := { s.d.lkk with events := q :: rest, evSent := true, dropped := 0 }
        out := s.d.out ++ [.mgmt .i3c (.event q.2 (Nat.min 255 s.d.lkk.dropped))] } }))))
end

