-- ==== Sys2Proof/Laws/Tables.lean ====
section
/-! SUPPORT. Sparse tables: a read after a write gives the value written, a write leaves every other key alone, and every operation keeps the
canonical form; the same of scratch and of the columns. -/

namespace Sys2Proof.Machine
variable {α : Type}

@[simp] theorem tget_nil (d : α) (k : Nat) : tget [] d k = d := rfl

@[simp] theorem tget_tput (t : Tab α) (d : α) (k : Nat) (x : α) : tget (tput t k x) d k = x := by
  induction t with
  | nil => simp [tput, tget]
  | cons p r ih =>
    obtain ⟨j, y⟩ := p
    simp only [tput]
    split
    · rename_i h; simp [tget, Nat.ne_of_lt h, ih]
    · split <;> simp [tget]

theorem tget_tput_ne (t : Tab α) (d : α) {k j : Nat} (x : α) (h : k ≠ j) : tget (tput t k x) d j = tget t d j := by
  induction t with
  | nil => simp [tput, tget, h]
  | cons p r ih =>
    obtain ⟨i, y⟩ := p
    simp only [tput]
    split
    · simp only [tget, ih]
    · split
      · rename_i e; subst e; simp [tget, h]
      · simp [tget, h]

@[simp] theorem tget_tdel (t : Tab α) (d : α) (k : Nat) : tget (tdel t k) d k = d := by
  induction t with
  | nil => rfl
  | cons p r ih =>
    obtain ⟨i, y⟩ := p
    unfold tdel at *
    rw [List.filter_cons]
    split
    · rename_i h; simp only [bne_iff_ne, ne_eq] at h; simp only [tget, h, if_false, ih]
    · exact ih

theorem tget_tdel_ne (t : Tab α) (d : α) {k j : Nat} (h : k ≠ j) : tget (tdel t k) d j = tget t d j := by
  induction t with
  | nil => rfl
  | cons p r ih =>
    obtain ⟨i, y⟩ := p
    unfold tdel at *
    rw [List.filter_cons]
    split
    · simp only [tget, ih]
    · rename_i e
      have e : i = k := by simpa using e
      subst e
      simp only [tget, h, if_false, ih]

variable [DecidableEq α]

@[simp] theorem tget_tset (t : Tab α) (d : α) (k : Nat) (x : α) : tget (tset t d k x) d k = x := by
  unfold tset; split <;> simp_all

theorem tget_tset_ne (t : Tab α) (d : α) {k j : Nat} (x : α) (h : k ≠ j) : tget (tset t d k x) d j = tget t d j := by
  unfold tset; split
  · exact tget_tdel_ne t d h
  · exact tget_tput_ne t d x h

/-- A write, read at another key against another unlisted value. -/
theorem tget_tset_other (t : Tab α) {d : α} (e : α) {k j : Nat} (x : α) (h : k ≠ j) : tget (tset t d k x) e j = tget t e j := by
  unfold tset; split
  · exact tget_tdel_ne t e h
  · exact tget_tput_ne t e x h

/-- A write, read at any key. -/
theorem tget_tset_ite (t : Tab α) (d : α) (k j : Nat) (x : α) : tget (tset t d k x) d j = if j = k then x else tget t d j := by
  split
  · rename_i h; subst h; simp
  · rename_i h; exact tget_tset_ne t d x (Ne.symm h)

omit [DecidableEq α] in
theorem tget_tput_ite (t : Tab α) (d : α) (k j : Nat) (x : α) : tget (tput t k x) d j = if j = k then x else tget t d j := by
  split
  · rename_i h; subst h; simp
  · rename_i h; exact tget_tput_ne t d x (Ne.symm h)

-- The canonical form -------------------------------------------------------------------------------------------------

omit [DecidableEq α] in
/-- A table is sorted exactly where its keys rise strictly, pair by pair. -/
theorem tsorted_iff (t : Tab α) : tsorted t = true ↔ t.Pairwise (fun p q => p.1 < q.1) := by
  induction t with
  | nil => simp [tsorted]
  | cons p r ih =>
    cases r with
    | nil => simp [tsorted]
    | cons q s =>
      obtain ⟨j, x⟩ := p
      obtain ⟨k, y⟩ := q
      have hs : tsorted ((j, x) :: (k, y) :: s) = (decide (j < k) && tsorted ((k, y) :: s)) := rfl
      rw [hs, Bool.and_eq_true, decide_eq_true_eq, ih, List.pairwise_cons (a := (j, x))]
      constructor
      · rintro ⟨h, hp⟩
        refine ⟨?_, hp⟩
        intro z hz
        rcases List.mem_cons.mp hz with rfl | hz
        · exact h
        · exact Nat.lt_trans h ((List.pairwise_cons.mp hp).1 z hz)
      · rintro ⟨h, hp⟩
        exact ⟨h (k, y) (List.mem_cons_self ..), hp⟩

omit [DecidableEq α] in
/-- The keys of a table after a put. -/
theorem mem_tput (t : Tab α) (k : Nat) (x : α) (p : Nat × α) (h : p ∈ tput t k x) : p = (k, x) ∨ p ∈ t := by
  induction t with
  | nil => simpa [tput] using h
  | cons q r ih =>
    obtain ⟨j, y⟩ := q
    simp only [tput] at h
    split at h
    · rcases List.mem_cons.mp h with h | h
      · exact .inr (h ▸ List.mem_cons_self ..)
      · rcases ih h with h | h
        · exact .inl h
        · exact .inr (List.mem_cons_of_mem _ h)
    · split at h
      · rcases List.mem_cons.mp h with h | h
        · exact .inl h
        · exact .inr (List.mem_cons_of_mem _ h)
      · rcases List.mem_cons.mp h with h | h
        · exact .inl h
        · exact .inr h

omit [DecidableEq α] in
theorem tsorted_tput (t : Tab α) (k : Nat) (x : α) (h : tsorted t = true) : tsorted (tput t k x) = true := by
  rw [tsorted_iff] at *
  induction t with
  | nil => simp [tput]
  | cons q r ih =>
    obtain ⟨j, y⟩ := q
    have ⟨hq, hr⟩ := List.pairwise_cons.mp h
    simp only [tput]
    split
    · rename_i hj
      refine List.pairwise_cons.mpr ⟨?_, ih hr⟩
      intro p hp
      rcases mem_tput r k x p hp with rfl | hp
      · exact hj
      · exact hq p hp
    · split
      · rename_i e; subst e; exact List.pairwise_cons.mpr ⟨hq, hr⟩
      · rename_i h1 h2
        refine List.pairwise_cons.mpr ⟨?_, h⟩
        intro p hp
        rcases List.mem_cons.mp hp with rfl | hp
        · show k < j; omega
        · have : j < p.1 := hq p hp
          show k < p.1; omega

omit [DecidableEq α] in
theorem tsorted_tdel (t : Tab α) (k : Nat) (h : tsorted t = true) : tsorted (tdel t k) = true := by
  rw [tsorted_iff] at *; exact h.filter _

/-- A write keeps the canonical form. -/
theorem twf_tset (t : Tab α) (d : α) (k : Nat) (x : α) (h : twf t d = true) : twf (tset t d k x) d = true := by
  simp only [twf, Bool.and_eq_true, List.all_eq_true, bne_iff_ne] at *
  unfold tset
  split
  · exact ⟨tsorted_tdel t k h.1, fun p hp => h.2 p (List.mem_filter.mp hp).1⟩
  · rename_i hx
    refine ⟨tsorted_tput t k x h.1, fun p hp => ?_⟩
    rcases mem_tput t k x p hp with rfl | hp
    · exact hx
    · exact h.2 p hp

theorem twf_nil (d : α) : twf ([] : Tab α) d = true := by simp [twf, tsorted]

-- Scratch and columns ------------------------------------------------------------------------------------------------

/-- Scratch is held in canonical form. -/
def Site.scratchWf (s : Site) : Bool := twf s.scratch 0

/-- A column is held in canonical form: rising keys, and no entry equal to what an unlisted sector of its row holds. -/
def Column.cellsWf (c : Column) : Bool := tsorted c.cells && c.cells.all (fun p => p.2 != c.base (p.1 / 16))

theorem Site.putByte_wf (s : Site) (a : Nat) (b : Byte) (h : s.scratchWf = true) : (s.putByte a b).scratchWf = true :=
  twf_tset _ _ _ _ h

theorem Site.putBytes_wf (l : List (Byte × Nat)) (a : Nat) (s : Site) (h : s.scratchWf = true) :
    (l.foldl (fun s p => s.putByte (a + p.2) p.1) s).scratchWf = true := by
  induction l generalizing s with
  | nil => exact h
  | cons p r ih => exact ih _ (s.putByte_wf _ _ h)

theorem Site.apply_wf (s : Site) (w : ScratchWrite) (h : s.scratchWf = true) : (s.apply w).scratchWf = true := by
  have := Site.putBytes_wf w.bytes.zipIdx w.addr s h
  unfold Site.apply
  split <;> exact this

theorem Site.upsets_wf (us : List ScratchUpset) (s : Site) (h : s.scratchWf = true) : (s.upsets us).scratchWf = true := by
  unfold Site.upsets
  induction us generalizing s with
  | nil => exact h
  | cons u r ih => exact ih _ (twf_tset _ _ _ _ h)

/-- A sector of a row stored, against what the row's unlisted sectors hold. -/
theorem Column.store_wf (c : Column) (b : Tab (BitVec 64)) (p s : Nat) (x : Sector) (hs : s < 16) (h : c.cellsWf = true) :
    ({ c with cells := tset c.cells (c.base p) (16 * p + s) x, spareBytes := b } : Column).cellsWf = true := by
  simp only [Column.cellsWf, Bool.and_eq_true, List.all_eq_true, bne_iff_ne] at h ⊢
  obtain ⟨hs1, hs2⟩ := h
  have key : (16 * p + s) / 16 = p := by omega
  unfold tset
  split
  · exact ⟨tsorted_tdel _ _ hs1, fun q hq => hs2 q (List.mem_filter.mp hq).1⟩
  · rename_i hx
    refine ⟨tsorted_tput _ _ _ hs1, fun q hq => ?_⟩
    rcases mem_tput _ _ _ q hq with rfl | hq
    · rw [key]; exact hx
    · exact hs2 q hq

theorem Column.putPhys_wf (c : Column) (p s : Nat) (v : BitVec 512) (q : Bool) (hs : s < 16) (h : c.cellsWf = true) :
    (c.putPhys p s v q).cellsWf = true := c.store_wf _ p s _ hs h

theorem Column.putSector_wf (c : Column) (k : Nat) (v : BitVec 512) (p : Bool) (h : c.cellsWf = true) : (c.putSector k v p).cellsWf = true :=
  c.putPhys_wf _ _ v p (Nat.mod_lt _ (by decide)) h

theorem Column.upset_wf (c : Column) (k n : Nat) (b : Byte) (h : c.cellsWf = true) : (c.upset k n b).cellsWf = true := by
  simp only [Column.upset]
  split
  · exact h
  · exact c.store_wf c.spareBytes _ _ _ (Nat.mod_lt _ (by decide)) h

/-- The data and the poison of a sector read after a write of it. -/
theorem Column.sector_putSector (c : Column) (k : Nat) (v : BitVec 512) (p : Bool) :
    ((c.putSector k v p).sector k).data = v ∧ ((c.putSector k v p).sector k).poison = p := by
  have hx : tget (c.putSector k v p).cells (c.base (c.phys (k / 16))) (16 * c.phys (k / 16) + k % 16) = { data := v, poison := p, err := 0 } :=
    tget_tset _ _ _ _
  constructor
  · exact congrArg Sector.data hx
  · exact congrArg Sector.poison hx

/-- Without column repairs a write leaves every sector at another place as it is. -/
theorem Column.sector_putSector_ne (c : Column) (k j : Nat) (v : BitVec 512) (p : Bool) (hr : c.colRep = [])
    (hj : 16 * c.phys (k / 16) + k % 16 ≠ 16 * c.phys (j / 16) + j % 16) : (c.putSector k v p).sector j = c.sector j := by
  have hm : ∀ (d : Column) b s, d.colRep = [] → d.colMap b s = [] := fun d b s h => by simp [Column.colMap, h]
  have hx : tget (c.putSector k v p).cells (c.base (c.phys (j / 16))) (16 * c.phys (j / 16) + j % 16) =
      tget c.cells (c.base (c.phys (j / 16))) (16 * c.phys (j / 16) + j % 16) := tget_tset_other _ _ _ hj
  show (c.putSector k v p).physSector _ _ = c.physSector _ _
  unfold Column.physSector
  rw [hm _ _ _ hr, hm (c.putSector k v p) _ _ hr]
  simp only [List.foldl_nil]
  exact hx

end Sys2Proof.Machine
end

