-- ==== Sys2Proof/Laws/State.lean ====
section
/-! SUPPORT. Laws of the state: what each accessor reads after each update, what every kind of command leaves alone, and what follows at once
from a command (State.follow) leaves alone. -/

namespace Sys2Proof.Machine
open Sys2Proof

-- Accessors ----------------------------------------------------------------------------------------------------------

@[simp] theorem Fabric.site_setSite (f : Fabric) (x : SiteIx) (s : Site) : (f.setSite x s).site x = s := tget_tput ..
theorem Fabric.site_setSite_ne (f : Fabric) {x y : SiteIx} (s : Site) (h : y ≠ x) : (f.setSite x s).site y = f.site y :=
  tget_tput_ne _ _ _ (fun e => h (Fin.ext e.symm))
@[simp] theorem Fabric.col_setCol (f : Fabric) (x : SiteIx) (c : Column) : (f.setCol x c).col x = c := tget_tput ..
theorem Fabric.col_setCol_ne (f : Fabric) {x y : SiteIx} (c : Column) (h : y ≠ x) : (f.setCol x c).col y = f.col y :=
  tget_tput_ne _ _ _ (fun e => h (Fin.ext e.symm))
@[simp] theorem Fabric.col_setSite (f : Fabric) (x y : SiteIx) (s : Site) : (f.setSite x s).col y = f.col y := rfl
@[simp] theorem Fabric.site_setCol (f : Fabric) (x y : SiteIx) (c : Column) : (f.setCol x c).site y = f.site y := rfl
@[simp] theorem Fabric.siteOf_setSite (f : Fabric) (x : SiteIx) (s : Site) (t : TileId) : (f.setSite x s).siteOf t = f.siteOf t := rfl
@[simp] theorem Fabric.siteOf_setCol (f : Fabric) (x : SiteIx) (c : Column) (t : TileId) : (f.setCol x c).siteOf t = f.siteOf t := rfl
@[simp] theorem Fabric.cluster_setCluster (f : Fabric) (c : ClusterId) (s : ClusterSt) : (f.setCluster c s).cluster c = s := tget_tput ..
theorem Fabric.cluster_setCluster_ne (f : Fabric) {c k : ClusterId} (s : ClusterSt) (h : k ≠ c) :
    (f.setCluster c s).cluster k = f.cluster k := tget_tput_ne _ _ _ (fun e => h (Fin.ext e.symm))
@[simp] theorem Fabric.sampler_setSampler (f : Fabric) (c : ClusterId) (s : Sampler) : (f.setSampler c s).sampler c = s := tget_tput ..
theorem Fabric.sampler_setSampler_ne (f : Fabric) {c k : ClusterId} (s : Sampler) (h : k ≠ c) :
    (f.setSampler c s).sampler k = f.sampler k := tget_tput_ne _ _ _ (fun e => h (Fin.ext e.symm))
@[simp] theorem Site.stream_setStream (s : Site) (n : StreamId) (v : Stream) : (s.setStream n v).stream n = v := by
  simp [Site.stream, Site.setStream]
theorem Site.stream_setStream_ne (s : Site) {n m : StreamId} (v : Stream) (h : m ≠ n) : (s.setStream n v).stream m = s.stream m := by
  have : n.val ≠ m.val := fun e => h (Fin.ext e.symm)
  simp [Site.stream, Site.setStream, this]
@[simp] theorem Dev.ctx_setCtx (d : Dev) (c : CtxId) (v : Ctx) : (d.setCtx c v).ctx c = v := tget_tput ..
theorem Dev.ctx_setCtx_ne (d : Dev) {c k : CtxId} (v : Ctx) (h : k ≠ c) : (d.setCtx c v).ctx k = d.ctx k :=
  tget_tput_ne _ _ _ (fun e => h (Fin.ext e.symm))
@[simp] theorem Dev.seq_setSeq (d : Dev) (q : SeqSlot) (v : Option Seq) : (d.setSeq q v).seq q = v := tget_tset ..
theorem Dev.seq_setSeq_ne (d : Dev) {q k : SeqSlot} (v : Option Seq) (h : k ≠ q) : (d.setSeq q v).seq k = d.seq k :=
  tget_tset_ne _ _ _ (fun e => h (Fin.ext e.symm))
@[simp] theorem Dev.model_setModel (d : Dev) (m : ModelSlotId) (v : ModelSlot) : (d.setModel m v).model m = v := tget_tput ..
theorem Dev.model_setModel_ne (d : Dev) {m k : ModelSlotId} (v : ModelSlot) (h : k ≠ m) : (d.setModel m v).model k = d.model k :=
  tget_tput_ne _ _ _ (fun e => h (Fin.ext e.symm))
@[simp] theorem Dev.kvt_setKvt (d : Dev) (t : TileId) (v : Option KvTile) : (d.setKvt t v).kvt t = v := tget_tset ..
@[simp] theorem Dev.group_setGroup (d : Dev) (g : GroupId) (v : CollGroup) : (d.setGroup g v).group g = v := tget_tput ..
theorem Dev.group_setGroup_ne (d : Dev) {g k : GroupId} (v : CollGroup) (h : k ≠ g) : (d.setGroup g v).group k = d.group k :=
  tget_tput_ne _ _ _ (fun e => h (Fin.ext e.symm))
@[simp] theorem Dev.qp_setQp (d : Dev) (i : QpId) (q : Qp) : (d.setQp i q).qp i = q := tget_tput ..
theorem Dev.qp_setQp_ne (d : Dev) {i k : QpId} (q : Qp) (h : k ≠ i) : (d.setQp i q).qp k = d.qp k :=
  tget_tput_ne _ _ _ (fun e => h (Fin.ext e.symm))
@[simp] theorem Dev.port_setPort (d : Dev) (n : PortId) (p : Port) : (d.setPort n p).port n = p := by simp [Dev.port, Dev.setPort]
@[simp] theorem Dev.cart_setCart (d : Dev) (k : CartId) (c : Cart) : (d.setCart k c).cart k = c := by simp [Dev.cart, Dev.setCart]
@[simp] theorem Dev.link_setLink (d : Dev) (n : LinkId) (l : LinkSt) : (d.setLink n l).link n = l := by simp [Dev.link, Dev.setLink]
@[simp] theorem Dev.dom_setDom (d : Dev) (i : DomainIx) (v : DomSt) : (d.setDom i v).dom i = v := tget_tset ..
theorem Dev.dom_setDom_ne (d : Dev) {i k : DomainIx} (v : DomSt) (h : k ≠ i) : (d.setDom i v).dom k = d.dom k :=
  tget_tset_ne _ _ _ (fun e => h (Fin.ext e.symm))
@[simp] theorem Dev.clp_setClp (d : Dev) (c : ClusterId) (v : ClPower) : (d.setClp c v).clp c = v := tget_tput ..
@[simp] theorem Dev.comp_setComp (d : Dev) (n : Nat) (c : Comp) : (d.setComp n c).comp n = c := tget_tput ..
theorem Dev.comp_setComp_ne (d : Dev) {n k : Nat} (c : Comp) (h : k ≠ n) : (d.setComp n c).comp k = d.comp k :=
  tget_tput_ne _ _ _ (Ne.symm h)
@[simp] theorem Dev.reg_putReg (d : Dev) (fu : Fuses) (o v : Nat) : (d.putReg o v).reg fu o = v := tget_tput ..
theorem Dev.reg_putReg_ne (d : Dev) (fu : Fuses) {o k : Nat} (v : Nat) (h : k ≠ o) : (d.putReg o v).reg fu k = d.reg fu k :=
  tget_tput_ne _ _ _ (Ne.symm h)

-- Each command draws its free values at a count of its own -----------------------------------------------------------

@[simp] theorem Dev.bump_host (d : Dev) : d.bump.host = d.host := rfl
@[simp] theorem Dev.bump_svc (d : Dev) : d.bump.svc = d.svc := rfl
@[simp] theorem Dev.bump_lnk (d : Dev) : d.bump.lnk = d.lnk := rfl
@[simp] theorem Dev.bump_net (d : Dev) : d.bump.net = d.net := rfl
@[simp] theorem Dev.bump_pwr (d : Dev) : d.bump.pwr = d.pwr := rfl
@[simp] theorem Dev.bump_thm (d : Dev) : d.bump.thm = d.thm := rfl
@[simp] theorem Dev.bump_lkk (d : Dev) : d.bump.lkk = d.lkk := rfl
@[simp] theorem Dev.bump_regs (d : Dev) : d.bump.regs = d.regs := rfl
@[simp] theorem Dev.bump_out (d : Dev) : d.bump.out = d.out := rfl
@[simp] theorem Dev.bump_fab_sites (d : Dev) : d.bump.fab.sites = d.fab.sites := rfl
@[simp] theorem Dev.bump_fab_cols (d : Dev) : d.bump.fab.cols = d.fab.cols := rfl
@[simp] theorem Dev.bump_fab_clusters (d : Dev) : d.bump.fab.clusters = d.fab.clusters := rfl
@[simp] theorem Dev.bump_fab_samplers (d : Dev) : d.bump.fab.samplers = d.fab.samplers := rfl
@[simp] theorem Dev.bump_fab_results (d : Dev) : d.bump.fab.results = d.fab.results := rfl
@[simp] theorem Dev.bump_fab_inbox (d : Dev) : d.bump.fab.inbox = d.fab.inbox := rfl
@[simp] theorem Dev.bump_fab_ctl (d : Dev) : d.bump.fab.ctl = d.fab.ctl := rfl
@[simp] theorem Dev.bump_fab_held (d : Dev) : d.bump.fab.held = d.fab.held := rfl
@[simp] theorem Dev.bump_fab_cut (d : Dev) : d.bump.fab.cut = d.fab.cut := rfl
@[simp] theorem Dev.bump_fab_reports (d : Dev) : d.bump.fab.reports = d.fab.reports := rfl
@[simp] theorem Dev.bump_fab_halfUp (d : Dev) : d.bump.fab.halfUp = d.fab.halfUp := rfl
@[simp] theorem Dev.bump_fab_fenced (d : Dev) : d.bump.fab.fenced = d.fab.fenced := rfl
@[simp] theorem Dev.bump_fab_mapValid (d : Dev) : d.bump.fab.mapValid = d.fab.mapValid := rfl
@[simp] theorem Dev.bump_fab_acted (d : Dev) : d.bump.fab.acted = d.fab.acted := rfl
@[simp] theorem Dev.bump_fab_switching (d : Dev) : d.bump.fab.switching = d.fab.switching := rfl
@[simp] theorem Dev.bump_fab_kvRegion (d : Dev) : d.bump.fab.kvRegion = d.fab.kvRegion := rfl
@[simp] theorem Dev.bump_fab_tempMsgs (d : Dev) : d.bump.fab.tempMsgs = d.fab.tempMsgs := rfl
@[simp] theorem Dev.bump_fab_mapWritten (d : Dev) : d.bump.fab.mapWritten = d.fab.mapWritten := rfl
@[simp] theorem Dev.bump_fab_gated (d : Dev) : d.bump.fab.gated = d.fab.gated := rfl
@[simp] theorem Dev.bump_fab_toColumn (d : Dev) : d.bump.fab.toColumn = d.fab.toColumn := rfl
@[simp] theorem Dev.bump_fab_routes (d : Dev) : d.bump.fab.routes = d.fab.routes := rfl
@[simp] theorem Dev.bump_fab_routesNext (d : Dev) : d.bump.fab.routesNext = d.fab.routesNext := rfl
@[simp] theorem Dev.bump_free (d : Dev) : d.bump.fab.free = d.fab.free + 1 := rfl
@[simp] theorem State.bump_pending (s : State) : s.bump.pending = s.pending := rfl
@[simp] theorem State.bump_time (s : State) : s.bump.time = s.time := rfl
@[simp] theorem State.bump_fuse (s : State) : s.bump.fuse = s.fuse := rfl
@[simp] theorem State.bump_sec (s : State) : s.bump.sec = s.sec := rfl
@[simp] theorem State.bump_agg (s : State) : s.bump.agg = s.agg := rfl

-- What each kind of command leaves alone ------------------------------------------------------------------------------

@[simp] theorem State.onFab_pending (s : State) (g : Env → Fabric → Fabric) : (s.onFab g).pending = s.pending := rfl
@[simp] theorem State.onFab_time (s : State) (g : Env → Fabric → Fabric) : (s.onFab g).time = s.time := rfl
@[simp] theorem State.onFab_fuse (s : State) (g : Env → Fabric → Fabric) : (s.onFab g).fuse = s.fuse := rfl
@[simp] theorem State.onFab_sec (s : State) (g : Env → Fabric → Fabric) : (s.onFab g).sec = s.sec := rfl
@[simp] theorem State.onFab_agg (s : State) (g : Env → Fabric → Fabric) : (s.onFab g).agg = s.agg := rfl
@[simp] theorem State.onDev_pending (s : State) (g : Env → Dev → Dev) : (s.onDev g).pending = s.pending := rfl
@[simp] theorem State.onDev_time (s : State) (g : Env → Dev → Dev) : (s.onDev g).time = s.time := rfl
@[simp] theorem State.onDev_fuse (s : State) (g : Env → Dev → Dev) : (s.onDev g).fuse = s.fuse := rfl
@[simp] theorem State.onDev_sec (s : State) (g : Env → Dev → Dev) : (s.onDev g).sec = s.sec := rfl
@[simp] theorem State.onDev_agg (s : State) (g : Env → Dev → Dev) : (s.onDev g).agg = s.agg := rfl
@[simp] theorem State.onFab_host (s : State) (g : Env → Fabric → Fabric) : (s.onFab g).d.host = s.d.host := rfl
@[simp] theorem State.onFab_svc (s : State) (g : Env → Fabric → Fabric) : (s.onFab g).d.svc = s.d.svc := rfl
@[simp] theorem State.onFab_lnk (s : State) (g : Env → Fabric → Fabric) : (s.onFab g).d.lnk = s.d.lnk := rfl
@[simp] theorem State.onFab_net (s : State) (g : Env → Fabric → Fabric) : (s.onFab g).d.net = s.d.net := rfl
@[simp] theorem State.onFab_pwr (s : State) (g : Env → Fabric → Fabric) : (s.onFab g).d.pwr = s.d.pwr := rfl
@[simp] theorem State.onFab_thm (s : State) (g : Env → Fabric → Fabric) : (s.onFab g).d.thm = s.d.thm := rfl
@[simp] theorem State.onFab_lkk (s : State) (g : Env → Fabric → Fabric) : (s.onFab g).d.lkk = s.d.lkk := rfl
@[simp] theorem State.onFab_regs (s : State) (g : Env → Fabric → Fabric) : (s.onFab g).d.regs = s.d.regs := rfl
@[simp] theorem State.onFab_out (s : State) (g : Env → Fabric → Fabric) : (s.onFab g).d.out = s.d.out := rfl
@[simp] theorem State.onFab_fab (s : State) (g : Env → Fabric → Fabric) : (s.onFab g).d.fab = g s.env s.d.bump.fab := rfl
@[simp] theorem State.onDev_d (s : State) (g : Env → Dev → Dev) : (s.onDev g).d = g s.env s.d.bump := rfl

-- What follows from a command ------------------------------------------------------------------------------------------

/-- The device without the parts that State.follow may change: the phases of clusters, the waits of idle sites, HALFn_UP, the management
events and what has been sent. -/
def Dev.core (d : Dev) : Dev :=
  { d with
    pwr := { d.pwr with cls := [], doms := [] }
    fab := { d.fab with halfUp := Vector.replicate 2 false }
    lkk := { d.lkk with events := [], dropped := 0, evSent := false }
    out := [] }

theorem foldl_keeps {α β γ : Type} (p : α → γ) (g : α → β → α) (h : ∀ a b, p (g a b) = p a) (l : List β) (a : α) : p (l.foldl g a) = p a := by
  induction l generalizing a with
  | nil => rfl
  | cons b r ih => rw [List.foldl_cons, ih, h]

theorem Dev.notePhases_core (d : Dev) : d.notePhases.core = d.core := by
  unfold Dev.notePhases
  apply foldl_keeps Dev.core
  intro a b
  dsimp only
  split
  · split <;> rfl
  · rfl

theorem Dev.noteIdle_core (d : Dev) (e : Env) : (d.noteIdle e).core = d.core := by
  unfold Dev.noteIdle
  apply foldl_keeps Dev.core
  intro a b
  dsimp only
  split
  · rfl
  · split <;> rfl

theorem Dev.halfUpCheck_core (d : Dev) : d.halfUpCheck.core = d.core := by
  unfold Dev.halfUpCheck
  apply foldl_keeps Dev.core
  intro a b
  split <;> rfl

theorem Dev.sendEvent_core (d : Dev) : d.sendEvent.core = d.core := by
  unfold Dev.sendEvent
  split
  · split <;> rfl
  · rfl

theorem Dev.pldmEvent_core (d : Dev) (n : Nat) (b : List Byte) : (d.pldmEvent n b).core = d.core := by
  unfold Dev.pldmEvent
  dsimp only
  split
  · rw [Dev.sendEvent_core]; rfl
  · split
    · rw [Dev.sendEvent_core]; rfl
    · rfl

theorem sensorEvents_core (a b : List (Nat × Nat)) (d : Dev) : (sensorEvents a b d).core = d.core := by
  unfold sensorEvents
  apply foldl_keeps Dev.core
  intro d p
  split
  · rfl
  · exact Dev.pldmEvent_core ..

/-- State.follow changes nothing but what Dev.core leaves out. -/
theorem State.follow_core (b s : State) : (State.follow b s).d.core = s.d.core := by
  unfold State.follow
  dsimp only
  rw [sensorEvents_core, Dev.halfUpCheck_core]
  split
  · split
    · rfl
    · exact Dev.noteIdle_core ..
  · split
    · exact Dev.notePhases_core ..
    · rw [Dev.noteIdle_core]; exact Dev.notePhases_core ..

/-- Devices with equal cores are equal but for what Dev.core leaves out. -/
theorem Dev.eq_of_core {a b : Dev} (h : b.core = a.core) :
    b = { a with
      pwr := { a.pwr with cls := b.pwr.cls, doms := b.pwr.doms }
      fab := { a.fab with halfUp := b.fab.halfUp }
      lkk := { a.lkk with events := b.lkk.events, dropped := b.lkk.dropped, evSent := b.lkk.evSent }
      out := b.out } :=
  congrArg (fun c : Dev => { c with
      pwr := { c.pwr with cls := b.pwr.cls, doms := b.pwr.doms }
      fab := { c.fab with halfUp := b.fab.halfUp }
      lkk := { c.lkk with events := b.lkk.events, dropped := b.lkk.dropped, evSent := b.lkk.evSent }
      out := b.out }) h

/-- All that State.follow can do. -/
theorem State.follow_thereafter (b s : State) : Thereafter s (State.follow b s) := ⟨rfl, rfl, rfl, rfl, rfl, Dev.eq_of_core (State.follow_core b s)⟩

/-- All that a command of onAll can do: its effect on the device, and what follows. -/
theorem State.onAll_thereafter (s : State) (g : Env → Dev → Dev) : Thereafter (s.onDev g) (s.onAll g) := State.follow_thereafter _ _

/-- All that a command of onState can do. -/
theorem State.onState_thereafter (s : State) (g : Env → State → State) : Thereafter (g s.env s.bump) (s.onState g) := State.follow_thereafter _ _

@[simp] theorem State.follow_pending (b s : State) : (State.follow b s).pending = s.pending := rfl
@[simp] theorem State.follow_time (b s : State) : (State.follow b s).time = s.time := rfl
@[simp] theorem State.follow_fuse (b s : State) : (State.follow b s).fuse = s.fuse := rfl
@[simp] theorem State.follow_sec (b s : State) : (State.follow b s).sec = s.sec := rfl
@[simp] theorem State.follow_agg (b s : State) : (State.follow b s).agg = s.agg := rfl
@[simp] theorem State.follow_host (b s : State) : (State.follow b s).d.host = s.d.host := by
  have h := congrArg Dev.host (State.follow_core b s); exact h
@[simp] theorem State.follow_svc (b s : State) : (State.follow b s).d.svc = s.d.svc := by
  have h := congrArg Dev.svc (State.follow_core b s); exact h
@[simp] theorem State.follow_lnk (b s : State) : (State.follow b s).d.lnk = s.d.lnk := by
  have h := congrArg Dev.lnk (State.follow_core b s); exact h
@[simp] theorem State.follow_net (b s : State) : (State.follow b s).d.net = s.d.net := by
  have h := congrArg Dev.net (State.follow_core b s); exact h
@[simp] theorem State.follow_thm (b s : State) : (State.follow b s).d.thm = s.d.thm := by
  have h := congrArg Dev.thm (State.follow_core b s); exact h
@[simp] theorem State.follow_regs (b s : State) : (State.follow b s).d.regs = s.d.regs := by
  have h := congrArg Dev.regs (State.follow_core b s); exact h
@[simp] theorem State.follow_fab_sites (b s : State) : (State.follow b s).d.fab.sites = s.d.fab.sites := by
  have h := congrArg (fun d : Dev => d.fab.sites) (State.follow_core b s); exact h
@[simp] theorem State.follow_fab_cols (b s : State) : (State.follow b s).d.fab.cols = s.d.fab.cols := by
  have h := congrArg (fun d : Dev => d.fab.cols) (State.follow_core b s); exact h
@[simp] theorem State.follow_fab_clusters (b s : State) : (State.follow b s).d.fab.clusters = s.d.fab.clusters := by
  have h := congrArg (fun d : Dev => d.fab.clusters) (State.follow_core b s); exact h
@[simp] theorem State.follow_fab_samplers (b s : State) : (State.follow b s).d.fab.samplers = s.d.fab.samplers := by
  have h := congrArg (fun d : Dev => d.fab.samplers) (State.follow_core b s); exact h
@[simp] theorem State.follow_fab_results (b s : State) : (State.follow b s).d.fab.results = s.d.fab.results := by
  have h := congrArg (fun d : Dev => d.fab.results) (State.follow_core b s); exact h
@[simp] theorem State.follow_fab_inbox (b s : State) : (State.follow b s).d.fab.inbox = s.d.fab.inbox := by
  have h := congrArg (fun d : Dev => d.fab.inbox) (State.follow_core b s); exact h
@[simp] theorem State.follow_fab_ctl (b s : State) : (State.follow b s).d.fab.ctl = s.d.fab.ctl := by
  have h := congrArg (fun d : Dev => d.fab.ctl) (State.follow_core b s); exact h
@[simp] theorem State.follow_fab_held (b s : State) : (State.follow b s).d.fab.held = s.d.fab.held := by
  have h := congrArg (fun d : Dev => d.fab.held) (State.follow_core b s); exact h
@[simp] theorem State.follow_fab_cut (b s : State) : (State.follow b s).d.fab.cut = s.d.fab.cut := by
  have h := congrArg (fun d : Dev => d.fab.cut) (State.follow_core b s); exact h
@[simp] theorem State.follow_fab_reports (b s : State) : (State.follow b s).d.fab.reports = s.d.fab.reports := by
  have h := congrArg (fun d : Dev => d.fab.reports) (State.follow_core b s); exact h
@[simp] theorem State.follow_fab_fenced (b s : State) : (State.follow b s).d.fab.fenced = s.d.fab.fenced := by
  have h := congrArg (fun d : Dev => d.fab.fenced) (State.follow_core b s); exact h
@[simp] theorem State.follow_fab_mapValid (b s : State) : (State.follow b s).d.fab.mapValid = s.d.fab.mapValid := by
  have h := congrArg (fun d : Dev => d.fab.mapValid) (State.follow_core b s); exact h
@[simp] theorem State.follow_fab_acted (b s : State) : (State.follow b s).d.fab.acted = s.d.fab.acted := by
  have h := congrArg (fun d : Dev => d.fab.acted) (State.follow_core b s); exact h
@[simp] theorem State.follow_fab_switching (b s : State) : (State.follow b s).d.fab.switching = s.d.fab.switching := by
  have h := congrArg (fun d : Dev => d.fab.switching) (State.follow_core b s); exact h
@[simp] theorem State.follow_fab_kvRegion (b s : State) : (State.follow b s).d.fab.kvRegion = s.d.fab.kvRegion := by
  have h := congrArg (fun d : Dev => d.fab.kvRegion) (State.follow_core b s); exact h
@[simp] theorem State.follow_fab_tempMsgs (b s : State) : (State.follow b s).d.fab.tempMsgs = s.d.fab.tempMsgs := by
  have h := congrArg (fun d : Dev => d.fab.tempMsgs) (State.follow_core b s); exact h
@[simp] theorem State.follow_fab_free (b s : State) : (State.follow b s).d.fab.free = s.d.fab.free := by
  have h := congrArg (fun d : Dev => d.fab.free) (State.follow_core b s); exact h
@[simp] theorem State.follow_lkk_bootStage (b s : State) : (State.follow b s).d.lkk.bootStage = s.d.lkk.bootStage := by
  have h := congrArg (fun d : Dev => d.lkk.bootStage) (State.follow_core b s); exact h
@[simp] theorem State.follow_lkk_mode (b s : State) : (State.follow b s).d.lkk.mode = s.d.lkk.mode := by
  have h := congrArg (fun d : Dev => d.lkk.mode) (State.follow_core b s); exact h
@[simp] theorem State.follow_lkk_activeB (b s : State) : (State.follow b s).d.lkk.activeB = s.d.lkk.activeB := by
  have h := congrArg (fun d : Dev => d.lkk.activeB) (State.follow_core b s); exact h
@[simp] theorem State.follow_lkk_clkLost (b s : State) : (State.follow b s).d.lkk.clkLost = s.d.lkk.clkLost := by
  have h := congrArg (fun d : Dev => d.lkk.clkLost) (State.follow_core b s); exact h
@[simp] theorem State.follow_lkk_fallback (b s : State) : (State.follow b s).d.lkk.fallback = s.d.lkk.fallback := by
  have h := congrArg (fun d : Dev => d.lkk.fallback) (State.follow_core b s); exact h
@[simp] theorem State.follow_lkk_shed (b s : State) : (State.follow b s).d.lkk.shed = s.d.lkk.shed := by
  have h := congrArg (fun d : Dev => d.lkk.shed) (State.follow_core b s); exact h
@[simp] theorem State.follow_lkk_load (b s : State) : (State.follow b s).d.lkk.load = s.d.lkk.load := by
  have h := congrArg (fun d : Dev => d.lkk.load) (State.follow_core b s); exact h
@[simp] theorem State.follow_lkk_calm (b s : State) : (State.follow b s).d.lkk.calm = s.d.lkk.calm := by
  have h := congrArg (fun d : Dev => d.lkk.calm) (State.follow_core b s); exact h
@[simp] theorem State.follow_lkk_coreA (b s : State) : (State.follow b s).d.lkk.coreA = s.d.lkk.coreA := by
  have h := congrArg (fun d : Dev => d.lkk.coreA) (State.follow_core b s); exact h
@[simp] theorem State.follow_lkk_coreB (b s : State) : (State.follow b s).d.lkk.coreB = s.d.lkk.coreB := by
  have h := congrArg (fun d : Dev => d.lkk.coreB) (State.follow_core b s); exact h
@[simp] theorem State.follow_lkk_faultN (b s : State) : (State.follow b s).d.lkk.faultN = s.d.lkk.faultN := by
  have h := congrArg (fun d : Dev => d.lkk.faultN) (State.follow_core b s); exact h
@[simp] theorem State.follow_lkk_faultHeld (b s : State) : (State.follow b s).d.lkk.faultHeld = s.d.lkk.faultHeld := by
  have h := congrArg (fun d : Dev => d.lkk.faultHeld) (State.follow_core b s); exact h
@[simp] theorem State.follow_lkk_comps (b s : State) : (State.follow b s).d.lkk.comps = s.d.lkk.comps := by
  have h := congrArg (fun d : Dev => d.lkk.comps) (State.follow_core b s); exact h
@[simp] theorem State.follow_lkk_op (b s : State) : (State.follow b s).d.lkk.op = s.d.lkk.op := by
  have h := congrArg (fun d : Dev => d.lkk.op) (State.follow_core b s); exact h
@[simp] theorem State.follow_lkk_trial (b s : State) : (State.follow b s).d.lkk.trial = s.d.lkk.trial := by
  have h := congrArg (fun d : Dev => d.lkk.trial) (State.follow_core b s); exact h
@[simp] theorem State.follow_lkk_upd (b s : State) : (State.follow b s).d.lkk.upd = s.d.lkk.upd := by
  have h := congrArg (fun d : Dev => d.lkk.upd) (State.follow_core b s); exact h
@[simp] theorem State.follow_lkk_rsp (b s : State) : (State.follow b s).d.lkk.rsp = s.d.lkk.rsp := by
  have h := congrArg (fun d : Dev => d.lkk.rsp) (State.follow_core b s); exact h
@[simp] theorem State.follow_lkk_copyA (b s : State) : (State.follow b s).d.lkk.copyA = s.d.lkk.copyA := by
  have h := congrArg (fun d : Dev => d.lkk.copyA) (State.follow_core b s); exact h
@[simp] theorem State.follow_lkk_copyB (b s : State) : (State.follow b s).d.lkk.copyB = s.d.lkk.copyB := by
  have h := congrArg (fun d : Dev => d.lkk.copyB) (State.follow_core b s); exact h
@[simp] theorem State.follow_lkk_genNow (b s : State) : (State.follow b s).d.lkk.genNow = s.d.lkk.genNow := by
  have h := congrArg (fun d : Dev => d.lkk.genNow) (State.follow_core b s); exact h
@[simp] theorem State.follow_lkk_bad (b s : State) : (State.follow b s).d.lkk.bad = s.d.lkk.bad := by
  have h := congrArg (fun d : Dev => d.lkk.bad) (State.follow_core b s); exact h
@[simp] theorem State.follow_lkk_written (b s : State) : (State.follow b s).d.lkk.written = s.d.lkk.written := by
  have h := congrArg (fun d : Dev => d.lkk.written) (State.follow_core b s); exact h
@[simp] theorem State.follow_lkk_stale (b s : State) : (State.follow b s).d.lkk.stale = s.d.lkk.stale := by
  have h := congrArg (fun d : Dev => d.lkk.stale) (State.follow_core b s); exact h
@[simp] theorem State.follow_lkk_rst (b s : State) : (State.follow b s).d.lkk.rst = s.d.lkk.rst := by
  have h := congrArg (fun d : Dev => d.lkk.rst) (State.follow_core b s); exact h
@[simp] theorem State.follow_lkk_refused (b s : State) : (State.follow b s).d.lkk.refused = s.d.lkk.refused := by
  have h := congrArg (fun d : Dev => d.lkk.refused) (State.follow_core b s); exact h
@[simp] theorem State.follow_lkk_lastLevel (b s : State) : (State.follow b s).d.lkk.lastLevel = s.d.lkk.lastLevel := by
  have h := congrArg (fun d : Dev => d.lkk.lastLevel) (State.follow_core b s); exact h
@[simp] theorem State.follow_lkk_lastCause (b s : State) : (State.follow b s).d.lkk.lastCause = s.d.lkk.lastCause := by
  have h := congrArg (fun d : Dev => d.lkk.lastCause) (State.follow_core b s); exact h
@[simp] theorem State.follow_lkk_mig (b s : State) : (State.follow b s).d.lkk.mig = s.d.lkk.mig := by
  have h := congrArg (fun d : Dev => d.lkk.mig) (State.follow_core b s); exact h
@[simp] theorem State.follow_lkk_migWait (b s : State) : (State.follow b s).d.lkk.migWait = s.d.lkk.migWait := by
  have h := congrArg (fun d : Dev => d.lkk.migWait) (State.follow_core b s); exact h
@[simp] theorem State.follow_lkk_basinUp (b s : State) : (State.follow b s).d.lkk.basinUp = s.d.lkk.basinUp := by
  have h := congrArg (fun d : Dev => d.lkk.basinUp) (State.follow_core b s); exact h
@[simp] theorem State.follow_lkk_chroot (b s : State) : (State.follow b s).d.lkk.chroot = s.d.lkk.chroot := by
  have h := congrArg (fun d : Dev => d.lkk.chroot) (State.follow_core b s); exact h
@[simp] theorem State.follow_lkk_rlayer (b s : State) : (State.follow b s).d.lkk.rlayer = s.d.lkk.rlayer := by
  have h := congrArg (fun d : Dev => d.lkk.rlayer) (State.follow_core b s); exact h
@[simp] theorem State.follow_lkk_retries (b s : State) : (State.follow b s).d.lkk.retries = s.d.lkk.retries := by
  have h := congrArg (fun d : Dev => d.lkk.retries) (State.follow_core b s); exact h
@[simp] theorem State.follow_lkk_eid (b s : State) : (State.follow b s).d.lkk.eid = s.d.lkk.eid := by
  have h := congrArg (fun d : Dev => d.lkk.eid) (State.follow_core b s); exact h
@[simp] theorem State.follow_pwr_orders (b s : State) : (State.follow b s).d.pwr.orders = s.d.pwr.orders := by
  have h := congrArg (fun d : Dev => d.pwr.orders) (State.follow_core b s); exact h
@[simp] theorem State.follow_pwr_banks (b s : State) : (State.follow b s).d.pwr.banks = s.d.pwr.banks := by
  have h := congrArg (fun d : Dev => d.pwr.banks) (State.follow_core b s); exact h
@[simp] theorem State.follow_pwr_bankLatches (b s : State) : (State.follow b s).d.pwr.bankLatches = s.d.pwr.bankLatches := by
  have h := congrArg (fun d : Dev => d.pwr.bankLatches) (State.follow_core b s); exact h
@[simp] theorem State.follow_pwr_vin (b s : State) : (State.follow b s).d.pwr.vin = s.d.pwr.vin := by
  have h := congrArg (fun d : Dev => d.pwr.vin) (State.follow_core b s); exact h
@[simp] theorem State.follow_pwr_vbsn (b s : State) : (State.follow b s).d.pwr.vbsn = s.d.pwr.vbsn := by
  have h := congrArg (fun d : Dev => d.pwr.vbsn) (State.follow_core b s); exact h
@[simp] theorem State.follow_pwr_vbsnLost (b s : State) : (State.follow b s).d.pwr.vbsnLost = s.d.pwr.vbsnLost := by
  have h := congrArg (fun d : Dev => d.pwr.vbsnLost) (State.follow_core b s); exact h
@[simp] theorem State.follow_pwr_vphy (b s : State) : (State.follow b s).d.pwr.vphy = s.d.pwr.vphy := by
  have h := congrArg (fun d : Dev => d.pwr.vphy) (State.follow_core b s); exact h
@[simp] theorem State.follow_pwr_vaon (b s : State) : (State.follow b s).d.pwr.vaon = s.d.pwr.vaon := by
  have h := congrArg (fun d : Dev => d.pwr.vaon) (State.follow_core b s); exact h
@[simp] theorem State.follow_pwr_ctl (b s : State) : (State.follow b s).d.pwr.ctl = s.d.pwr.ctl := by
  have h := congrArg (fun d : Dev => d.pwr.ctl) (State.follow_core b s); exact h
@[simp] theorem State.follow_pwr_hist (b s : State) : (State.follow b s).d.pwr.hist = s.d.pwr.hist := by
  have h := congrArg (fun d : Dev => d.pwr.hist) (State.follow_core b s); exact h
@[simp] theorem State.follow_pwr_clMw (b s : State) : (State.follow b s).d.pwr.clMw = s.d.pwr.clMw := by
  have h := congrArg (fun d : Dev => d.pwr.clMw) (State.follow_core b s); exact h
@[simp] theorem State.follow_pwr_lastBcl (b s : State) : (State.follow b s).d.pwr.lastBcl = s.d.pwr.lastBcl := by
  have h := congrArg (fun d : Dev => d.pwr.lastBcl) (State.follow_core b s); exact h
@[simp] theorem State.follow_pwr_other (b s : State) : (State.follow b s).d.pwr.other = s.d.pwr.other := by
  have h := congrArg (fun d : Dev => d.pwr.other) (State.follow_core b s); exact h
@[simp] theorem State.follow_pwr_vinCur (b s : State) : (State.follow b s).d.pwr.vinCur = s.d.pwr.vinCur := by
  have h := congrArg (fun d : Dev => d.pwr.vinCur) (State.follow_core b s); exact h
@[simp] theorem State.follow_pwr_absent (b s : State) : (State.follow b s).d.pwr.absent = s.d.pwr.absent := by
  have h := congrArg (fun d : Dev => d.pwr.absent) (State.follow_core b s); exact h
@[simp] theorem State.follow_pwr_capLimited (b s : State) : (State.follow b s).d.pwr.capLimited = s.d.pwr.capLimited := by
  have h := congrArg (fun d : Dev => d.pwr.capLimited) (State.follow_core b s); exact h
@[simp] theorem State.follow_pwr_fixed (b s : State) : (State.follow b s).d.pwr.fixed = s.d.pwr.fixed := by
  have h := congrArg (fun d : Dev => d.pwr.fixed) (State.follow_core b s); exact h
@[simp] theorem State.follow_pwr_refused (b s : State) : (State.follow b s).d.pwr.refused = s.d.pwr.refused := by
  have h := congrArg (fun d : Dev => d.pwr.refused) (State.follow_core b s); exact h
@[simp] theorem State.follow_pwr_broken (b s : State) : (State.follow b s).d.pwr.broken = s.d.pwr.broken := by
  have h := congrArg (fun d : Dev => d.pwr.broken) (State.follow_core b s); exact h
@[simp] theorem State.follow_pwr_departs (b s : State) : (State.follow b s).d.pwr.departs = s.d.pwr.departs := by
  have h := congrArg (fun d : Dev => d.pwr.departs) (State.follow_core b s); exact h
@[simp] theorem State.follow_pwr_alertAt (b s : State) : (State.follow b s).d.pwr.alertAt = s.d.pwr.alertAt := by
  have h := congrArg (fun d : Dev => d.pwr.alertAt) (State.follow_core b s); exact h
@[simp] theorem State.follow_pwr_derated (b s : State) : (State.follow b s).d.pwr.derated = s.d.pwr.derated := by
  have h := congrArg (fun d : Dev => d.pwr.derated) (State.follow_core b s); exact h
@[simp] theorem State.follow_pwr_sources (b s : State) : (State.follow b s).d.pwr.sources = s.d.pwr.sources := by
  have h := congrArg (fun d : Dev => d.pwr.sources) (State.follow_core b s); exact h
@[simp] theorem State.follow_pwr_cut (b s : State) : (State.follow b s).d.pwr.cut = s.d.pwr.cut := by
  have h := congrArg (fun d : Dev => d.pwr.cut) (State.follow_core b s); exact h
@[simp] theorem State.follow_pwr_alertCuts (b s : State) : (State.follow b s).d.pwr.alertCuts = s.d.pwr.alertCuts := by
  have h := congrArg (fun d : Dev => d.pwr.alertCuts) (State.follow_core b s); exact h
@[simp] theorem State.follow_pwr_ocCuts (b s : State) : (State.follow b s).d.pwr.ocCuts = s.d.pwr.ocCuts := by
  have h := congrArg (fun d : Dev => d.pwr.ocCuts) (State.follow_core b s); exact h
@[simp] theorem State.follow_pwr_pldmCap (b s : State) : (State.follow b s).d.pwr.pldmCap = s.d.pwr.pldmCap := by
  have h := congrArg (fun d : Dev => d.pwr.pldmCap) (State.follow_core b s); exact h
@[simp] theorem State.follow_pwr_capEff (b s : State) : (State.follow b s).d.pwr.capEff = s.d.pwr.capEff := by
  have h := congrArg (fun d : Dev => d.pwr.capEff) (State.follow_core b s); exact h
@[simp] theorem State.follow_pwr_chars (b s : State) : (State.follow b s).d.pwr.chars = s.d.pwr.chars := by
  have h := congrArg (fun d : Dev => d.pwr.chars) (State.follow_core b s); exact h
@[simp] theorem State.follow_pwr_charAt (b s : State) : (State.follow b s).d.pwr.charAt = s.d.pwr.charAt := by
  have h := congrArg (fun d : Dev => d.pwr.charAt) (State.follow_core b s); exact h
@[simp] theorem State.follow_pwr_ceil (b s : State) : (State.follow b s).d.pwr.ceil = s.d.pwr.ceil := by
  have h := congrArg (fun d : Dev => d.pwr.ceil) (State.follow_core b s); exact h
@[simp] theorem State.follow_pwr_age (b s : State) : (State.follow b s).d.pwr.age = s.d.pwr.age := by
  have h := congrArg (fun d : Dev => d.pwr.age) (State.follow_core b s); exact h
@[simp] theorem State.follow_pwr_told (b s : State) : (State.follow b s).d.pwr.told = s.d.pwr.told := by
  have h := congrArg (fun d : Dev => d.pwr.told) (State.follow_core b s); exact h
@[simp] theorem State.follow_fab_mapWritten (b s : State) : (State.follow b s).d.fab.mapWritten = s.d.fab.mapWritten := by
  have h := congrArg (fun d : Dev => d.fab.mapWritten) (State.follow_core b s); exact h
@[simp] theorem State.follow_fab_gated (b s : State) : (State.follow b s).d.fab.gated = s.d.fab.gated := by
  have h := congrArg (fun d : Dev => d.fab.gated) (State.follow_core b s); exact h
@[simp] theorem State.follow_fab_toColumn (b s : State) : (State.follow b s).d.fab.toColumn = s.d.fab.toColumn := by
  have h := congrArg (fun d : Dev => d.fab.toColumn) (State.follow_core b s); exact h
@[simp] theorem State.follow_fab_routes (b s : State) : (State.follow b s).d.fab.routes = s.d.fab.routes := by
  have h := congrArg (fun d : Dev => d.fab.routes) (State.follow_core b s); exact h
@[simp] theorem State.follow_fab_routesNext (b s : State) : (State.follow b s).d.fab.routesNext = s.d.fab.routesNext := by
  have h := congrArg (fun d : Dev => d.fab.routesNext) (State.follow_core b s); exact h
@[simp] theorem State.follow_lkk_causes (b s : State) : (State.follow b s).d.lkk.causes = s.d.lkk.causes := by
  have h := congrArg (fun d : Dev => d.lkk.causes) (State.follow_core b s); exact h
@[simp] theorem State.follow_lkk_migHeld (b s : State) : (State.follow b s).d.lkk.migHeld = s.d.lkk.migHeld := by
  have h := congrArg (fun d : Dev => d.lkk.migHeld) (State.follow_core b s); exact h
@[simp] theorem State.follow_lkk_testAt (b s : State) : (State.follow b s).d.lkk.testAt = s.d.lkk.testAt := by
  have h := congrArg (fun d : Dev => d.lkk.testAt) (State.follow_core b s); exact h
@[simp] theorem State.follow_lkk_recAt (b s : State) : (State.follow b s).d.lkk.recAt = s.d.lkk.recAt := by
  have h := congrArg (fun d : Dev => d.lkk.recAt) (State.follow_core b s); exact h
@[simp] theorem State.follow_lkk_work (b s : State) : (State.follow b s).d.lkk.work = s.d.lkk.work := by
  have h := congrArg (fun d : Dev => d.lkk.work) (State.follow_core b s); exact h
@[simp] theorem State.follow_lkk_sensHeld (b s : State) : (State.follow b s).d.lkk.sensHeld = s.d.lkk.sensHeld := by
  have h := congrArg (fun d : Dev => d.lkk.sensHeld) (State.follow_core b s); exact h
@[simp] theorem State.follow_pwr_ringAt (b s : State) : (State.follow b s).d.pwr.ringAt = s.d.pwr.ringAt := by
  have h := congrArg (fun d : Dev => d.pwr.ringAt) (State.follow_core b s); exact h
@[simp] theorem State.follow_pwr_wearAt (b s : State) : (State.follow b s).d.pwr.wearAt = s.d.pwr.wearAt := by
  have h := congrArg (fun d : Dev => d.pwr.wearAt) (State.follow_core b s); exact h
@[simp] theorem State.onAll_pending (s : State) (g : Env → Dev → Dev) : (s.onAll g).pending = s.pending := rfl
@[simp] theorem State.onAll_time (s : State) (g : Env → Dev → Dev) : (s.onAll g).time = s.time := rfl
@[simp] theorem State.onAll_fuse (s : State) (g : Env → Dev → Dev) : (s.onAll g).fuse = s.fuse := rfl
@[simp] theorem State.onAll_sec (s : State) (g : Env → Dev → Dev) : (s.onAll g).sec = s.sec := rfl
@[simp] theorem State.onAll_agg (s : State) (g : Env → Dev → Dev) : (s.onAll g).agg = s.agg := rfl
@[simp] theorem State.onAll_host (s : State) (g : Env → Dev → Dev) : (s.onAll g).d.host = (g s.env s.d.bump).host := by simp [State.onAll]
@[simp] theorem State.onAll_svc (s : State) (g : Env → Dev → Dev) : (s.onAll g).d.svc = (g s.env s.d.bump).svc := by simp [State.onAll]
@[simp] theorem State.onAll_lnk (s : State) (g : Env → Dev → Dev) : (s.onAll g).d.lnk = (g s.env s.d.bump).lnk := by simp [State.onAll]
@[simp] theorem State.onAll_net (s : State) (g : Env → Dev → Dev) : (s.onAll g).d.net = (g s.env s.d.bump).net := by simp [State.onAll]
@[simp] theorem State.onAll_thm (s : State) (g : Env → Dev → Dev) : (s.onAll g).d.thm = (g s.env s.d.bump).thm := by simp [State.onAll]
@[simp] theorem State.onAll_regs (s : State) (g : Env → Dev → Dev) : (s.onAll g).d.regs = (g s.env s.d.bump).regs := by simp [State.onAll]

-- What an update of one part of the device leaves alone ---------------------------------------------------------------

@[simp] theorem Dev.onFab_host (d : Dev) (g : Fabric → Fabric) : (d.onFab g).host = d.host := rfl
@[simp] theorem Dev.onFab_svc (d : Dev) (g : Fabric → Fabric) : (d.onFab g).svc = d.svc := rfl
@[simp] theorem Dev.onFab_lnk (d : Dev) (g : Fabric → Fabric) : (d.onFab g).lnk = d.lnk := rfl
@[simp] theorem Dev.onFab_net (d : Dev) (g : Fabric → Fabric) : (d.onFab g).net = d.net := rfl
@[simp] theorem Dev.onFab_pwr (d : Dev) (g : Fabric → Fabric) : (d.onFab g).pwr = d.pwr := rfl
@[simp] theorem Dev.onFab_thm (d : Dev) (g : Fabric → Fabric) : (d.onFab g).thm = d.thm := rfl
@[simp] theorem Dev.onFab_lkk (d : Dev) (g : Fabric → Fabric) : (d.onFab g).lkk = d.lkk := rfl
@[simp] theorem Dev.onFab_regs (d : Dev) (g : Fabric → Fabric) : (d.onFab g).regs = d.regs := rfl
@[simp] theorem Dev.onFab_seen (d : Dev) (g : Fabric → Fabric) : (d.onFab g).seen = d.seen := rfl
@[simp] theorem Dev.onFab_out (d : Dev) (g : Fabric → Fabric) : (d.onFab g).out = d.out := rfl
@[simp] theorem Dev.send_fab (d : Dev) (o : Out) : (d.send o).fab = d.fab := rfl
@[simp] theorem Dev.send_host (d : Dev) (o : Out) : (d.send o).host = d.host := rfl
@[simp] theorem Dev.send_svc (d : Dev) (o : Out) : (d.send o).svc = d.svc := rfl
@[simp] theorem Dev.send_lnk (d : Dev) (o : Out) : (d.send o).lnk = d.lnk := rfl
@[simp] theorem Dev.send_net (d : Dev) (o : Out) : (d.send o).net = d.net := rfl
@[simp] theorem Dev.send_pwr (d : Dev) (o : Out) : (d.send o).pwr = d.pwr := rfl
@[simp] theorem Dev.send_thm (d : Dev) (o : Out) : (d.send o).thm = d.thm := rfl
@[simp] theorem Dev.send_lkk (d : Dev) (o : Out) : (d.send o).lkk = d.lkk := rfl
@[simp] theorem Dev.send_regs (d : Dev) (o : Out) : (d.send o).regs = d.regs := rfl
@[simp] theorem Dev.send_seen (d : Dev) (o : Out) : (d.send o).seen = d.seen := rfl
@[simp] theorem Dev.setCtx_fab (d : Dev) (c : CtxId) (v : Ctx) : (d.setCtx c v).fab = d.fab := rfl
@[simp] theorem Dev.setCtx_svc (d : Dev) (c : CtxId) (v : Ctx) : (d.setCtx c v).svc = d.svc := rfl
@[simp] theorem Dev.setCtx_lnk (d : Dev) (c : CtxId) (v : Ctx) : (d.setCtx c v).lnk = d.lnk := rfl
@[simp] theorem Dev.setCtx_net (d : Dev) (c : CtxId) (v : Ctx) : (d.setCtx c v).net = d.net := rfl
@[simp] theorem Dev.setCtx_pwr (d : Dev) (c : CtxId) (v : Ctx) : (d.setCtx c v).pwr = d.pwr := rfl
@[simp] theorem Dev.setCtx_thm (d : Dev) (c : CtxId) (v : Ctx) : (d.setCtx c v).thm = d.thm := rfl
@[simp] theorem Dev.setCtx_lkk (d : Dev) (c : CtxId) (v : Ctx) : (d.setCtx c v).lkk = d.lkk := rfl
@[simp] theorem Dev.setCtx_regs (d : Dev) (c : CtxId) (v : Ctx) : (d.setCtx c v).regs = d.regs := rfl
@[simp] theorem Dev.setCtx_seen (d : Dev) (c : CtxId) (v : Ctx) : (d.setCtx c v).seen = d.seen := rfl
@[simp] theorem Dev.setCtx_out (d : Dev) (c : CtxId) (v : Ctx) : (d.setCtx c v).out = d.out := rfl
@[simp] theorem Dev.setQp_fab (d : Dev) (i : QpId) (q : Qp) : (d.setQp i q).fab = d.fab := rfl
@[simp] theorem Dev.setQp_host (d : Dev) (i : QpId) (q : Qp) : (d.setQp i q).host = d.host := rfl
@[simp] theorem Dev.setQp_svc (d : Dev) (i : QpId) (q : Qp) : (d.setQp i q).svc = d.svc := rfl
@[simp] theorem Dev.setQp_lnk (d : Dev) (i : QpId) (q : Qp) : (d.setQp i q).lnk = d.lnk := rfl
@[simp] theorem Dev.setQp_pwr (d : Dev) (i : QpId) (q : Qp) : (d.setQp i q).pwr = d.pwr := rfl
@[simp] theorem Dev.setQp_thm (d : Dev) (i : QpId) (q : Qp) : (d.setQp i q).thm = d.thm := rfl
@[simp] theorem Dev.setQp_lkk (d : Dev) (i : QpId) (q : Qp) : (d.setQp i q).lkk = d.lkk := rfl
@[simp] theorem Dev.setQp_regs (d : Dev) (i : QpId) (q : Qp) : (d.setQp i q).regs = d.regs := rfl
@[simp] theorem Dev.setQp_seen (d : Dev) (i : QpId) (q : Qp) : (d.setQp i q).seen = d.seen := rfl
@[simp] theorem Dev.setQp_out (d : Dev) (i : QpId) (q : Qp) : (d.setQp i q).out = d.out := rfl
@[simp] theorem Dev.setLink_fab (d : Dev) (n : LinkId) (l : LinkSt) : (d.setLink n l).fab = d.fab := rfl
@[simp] theorem Dev.setLink_host (d : Dev) (n : LinkId) (l : LinkSt) : (d.setLink n l).host = d.host := rfl
@[simp] theorem Dev.setLink_svc (d : Dev) (n : LinkId) (l : LinkSt) : (d.setLink n l).svc = d.svc := rfl
@[simp] theorem Dev.setLink_net (d : Dev) (n : LinkId) (l : LinkSt) : (d.setLink n l).net = d.net := rfl
@[simp] theorem Dev.setLink_pwr (d : Dev) (n : LinkId) (l : LinkSt) : (d.setLink n l).pwr = d.pwr := rfl
@[simp] theorem Dev.setLink_thm (d : Dev) (n : LinkId) (l : LinkSt) : (d.setLink n l).thm = d.thm := rfl
@[simp] theorem Dev.setLink_lkk (d : Dev) (n : LinkId) (l : LinkSt) : (d.setLink n l).lkk = d.lkk := rfl
@[simp] theorem Dev.setLink_regs (d : Dev) (n : LinkId) (l : LinkSt) : (d.setLink n l).regs = d.regs := rfl
@[simp] theorem Dev.setLink_seen (d : Dev) (n : LinkId) (l : LinkSt) : (d.setLink n l).seen = d.seen := rfl
@[simp] theorem Dev.setLink_out (d : Dev) (n : LinkId) (l : LinkSt) : (d.setLink n l).out = d.out := rfl
@[simp] theorem Dev.setComp_fab (d : Dev) (n : Nat) (c : Comp) : (d.setComp n c).fab = d.fab := rfl
@[simp] theorem Dev.setComp_host (d : Dev) (n : Nat) (c : Comp) : (d.setComp n c).host = d.host := rfl
@[simp] theorem Dev.setComp_svc (d : Dev) (n : Nat) (c : Comp) : (d.setComp n c).svc = d.svc := rfl
@[simp] theorem Dev.setComp_lnk (d : Dev) (n : Nat) (c : Comp) : (d.setComp n c).lnk = d.lnk := rfl
@[simp] theorem Dev.setComp_net (d : Dev) (n : Nat) (c : Comp) : (d.setComp n c).net = d.net := rfl
@[simp] theorem Dev.setComp_pwr (d : Dev) (n : Nat) (c : Comp) : (d.setComp n c).pwr = d.pwr := rfl
@[simp] theorem Dev.setComp_thm (d : Dev) (n : Nat) (c : Comp) : (d.setComp n c).thm = d.thm := rfl
@[simp] theorem Dev.setComp_regs (d : Dev) (n : Nat) (c : Comp) : (d.setComp n c).regs = d.regs := rfl
@[simp] theorem Dev.setComp_seen (d : Dev) (n : Nat) (c : Comp) : (d.setComp n c).seen = d.seen := rfl
@[simp] theorem Dev.setComp_out (d : Dev) (n : Nat) (c : Comp) : (d.setComp n c).out = d.out := rfl
@[simp] theorem Dev.setSeq_fab (d : Dev) (q : SeqSlot) (v : Option Seq) : (d.setSeq q v).fab = d.fab := rfl
@[simp] theorem Dev.setSeq_host (d : Dev) (q : SeqSlot) (v : Option Seq) : (d.setSeq q v).host = d.host := rfl
@[simp] theorem Dev.setSeq_lnk (d : Dev) (q : SeqSlot) (v : Option Seq) : (d.setSeq q v).lnk = d.lnk := rfl
@[simp] theorem Dev.setSeq_net (d : Dev) (q : SeqSlot) (v : Option Seq) : (d.setSeq q v).net = d.net := rfl
@[simp] theorem Dev.setSeq_pwr (d : Dev) (q : SeqSlot) (v : Option Seq) : (d.setSeq q v).pwr = d.pwr := rfl
@[simp] theorem Dev.setSeq_thm (d : Dev) (q : SeqSlot) (v : Option Seq) : (d.setSeq q v).thm = d.thm := rfl
@[simp] theorem Dev.setSeq_lkk (d : Dev) (q : SeqSlot) (v : Option Seq) : (d.setSeq q v).lkk = d.lkk := rfl
@[simp] theorem Dev.setSeq_regs (d : Dev) (q : SeqSlot) (v : Option Seq) : (d.setSeq q v).regs = d.regs := rfl
@[simp] theorem Dev.setSeq_seen (d : Dev) (q : SeqSlot) (v : Option Seq) : (d.setSeq q v).seen = d.seen := rfl
@[simp] theorem Dev.setSeq_out (d : Dev) (q : SeqSlot) (v : Option Seq) : (d.setSeq q v).out = d.out := rfl
@[simp] theorem Dev.setModel_fab (d : Dev) (m : ModelSlotId) (v : ModelSlot) : (d.setModel m v).fab = d.fab := rfl
@[simp] theorem Dev.setModel_host (d : Dev) (m : ModelSlotId) (v : ModelSlot) : (d.setModel m v).host = d.host := rfl
@[simp] theorem Dev.setModel_lnk (d : Dev) (m : ModelSlotId) (v : ModelSlot) : (d.setModel m v).lnk = d.lnk := rfl
@[simp] theorem Dev.setModel_net (d : Dev) (m : ModelSlotId) (v : ModelSlot) : (d.setModel m v).net = d.net := rfl
@[simp] theorem Dev.setModel_pwr (d : Dev) (m : ModelSlotId) (v : ModelSlot) : (d.setModel m v).pwr = d.pwr := rfl
@[simp] theorem Dev.setModel_thm (d : Dev) (m : ModelSlotId) (v : ModelSlot) : (d.setModel m v).thm = d.thm := rfl
@[simp] theorem Dev.setModel_lkk (d : Dev) (m : ModelSlotId) (v : ModelSlot) : (d.setModel m v).lkk = d.lkk := rfl
@[simp] theorem Dev.setModel_regs (d : Dev) (m : ModelSlotId) (v : ModelSlot) : (d.setModel m v).regs = d.regs := rfl
@[simp] theorem Dev.setModel_seen (d : Dev) (m : ModelSlotId) (v : ModelSlot) : (d.setModel m v).seen = d.seen := rfl
@[simp] theorem Dev.setModel_out (d : Dev) (m : ModelSlotId) (v : ModelSlot) : (d.setModel m v).out = d.out := rfl
@[simp] theorem Dev.setDom_fab (d : Dev) (i : DomainIx) (v : DomSt) : (d.setDom i v).fab = d.fab := rfl
@[simp] theorem Dev.setDom_host (d : Dev) (i : DomainIx) (v : DomSt) : (d.setDom i v).host = d.host := rfl
@[simp] theorem Dev.setDom_svc (d : Dev) (i : DomainIx) (v : DomSt) : (d.setDom i v).svc = d.svc := rfl
@[simp] theorem Dev.setDom_lnk (d : Dev) (i : DomainIx) (v : DomSt) : (d.setDom i v).lnk = d.lnk := rfl
@[simp] theorem Dev.setDom_net (d : Dev) (i : DomainIx) (v : DomSt) : (d.setDom i v).net = d.net := rfl
@[simp] theorem Dev.setDom_thm (d : Dev) (i : DomainIx) (v : DomSt) : (d.setDom i v).thm = d.thm := rfl
@[simp] theorem Dev.setDom_lkk (d : Dev) (i : DomainIx) (v : DomSt) : (d.setDom i v).lkk = d.lkk := rfl
@[simp] theorem Dev.setDom_regs (d : Dev) (i : DomainIx) (v : DomSt) : (d.setDom i v).regs = d.regs := rfl
@[simp] theorem Dev.setDom_seen (d : Dev) (i : DomainIx) (v : DomSt) : (d.setDom i v).seen = d.seen := rfl
@[simp] theorem Dev.setDom_out (d : Dev) (i : DomainIx) (v : DomSt) : (d.setDom i v).out = d.out := rfl
@[simp] theorem Dev.setCart_fab (d : Dev) (k : CartId) (c : Cart) : (d.setCart k c).fab = d.fab := rfl
@[simp] theorem Dev.setCart_host (d : Dev) (k : CartId) (c : Cart) : (d.setCart k c).host = d.host := rfl
@[simp] theorem Dev.setCart_svc (d : Dev) (k : CartId) (c : Cart) : (d.setCart k c).svc = d.svc := rfl
@[simp] theorem Dev.setCart_lnk (d : Dev) (k : CartId) (c : Cart) : (d.setCart k c).lnk = d.lnk := rfl
@[simp] theorem Dev.setCart_pwr (d : Dev) (k : CartId) (c : Cart) : (d.setCart k c).pwr = d.pwr := rfl
@[simp] theorem Dev.setCart_thm (d : Dev) (k : CartId) (c : Cart) : (d.setCart k c).thm = d.thm := rfl
@[simp] theorem Dev.setCart_lkk (d : Dev) (k : CartId) (c : Cart) : (d.setCart k c).lkk = d.lkk := rfl
@[simp] theorem Dev.setCart_regs (d : Dev) (k : CartId) (c : Cart) : (d.setCart k c).regs = d.regs := rfl
@[simp] theorem Dev.setCart_seen (d : Dev) (k : CartId) (c : Cart) : (d.setCart k c).seen = d.seen := rfl
@[simp] theorem Dev.setCart_out (d : Dev) (k : CartId) (c : Cart) : (d.setCart k c).out = d.out := rfl
@[simp] theorem Dev.onFab_fab (d : Dev) (g : Fabric → Fabric) : (d.onFab g).fab = g d.fab := rfl
@[simp] theorem Dev.send_out (d : Dev) (o : Out) : (d.send o).out = d.out ++ [o] := rfl
@[simp] theorem Fabric.setCol_sites (f : Fabric) (x : SiteIx) (c : Column) : (f.setCol x c).sites = f.sites := rfl
@[simp] theorem Fabric.setSite_cols (f : Fabric) (x : SiteIx) (s : Site) : (f.setSite x s).cols = f.cols := rfl
@[simp] theorem Fabric.setSite_clusters (f : Fabric) (x : SiteIx) (s : Site) : (f.setSite x s).clusters = f.clusters := rfl
@[simp] theorem Fabric.setCol_clusters (f : Fabric) (x : SiteIx) (c : Column) : (f.setCol x c).clusters = f.clusters := rfl
@[simp] theorem Fabric.setSite_samplers (f : Fabric) (x : SiteIx) (s : Site) : (f.setSite x s).samplers = f.samplers := rfl
@[simp] theorem Fabric.setCol_samplers (f : Fabric) (x : SiteIx) (c : Column) : (f.setCol x c).samplers = f.samplers := rfl
@[simp] theorem Fabric.setSite_results (f : Fabric) (x : SiteIx) (s : Site) : (f.setSite x s).results = f.results := rfl
@[simp] theorem Fabric.setCol_results (f : Fabric) (x : SiteIx) (c : Column) : (f.setCol x c).results = f.results := rfl
@[simp] theorem Fabric.setSite_inbox (f : Fabric) (x : SiteIx) (s : Site) : (f.setSite x s).inbox = f.inbox := rfl
@[simp] theorem Fabric.setCol_inbox (f : Fabric) (x : SiteIx) (c : Column) : (f.setCol x c).inbox = f.inbox := rfl
@[simp] theorem Fabric.setSite_ctl (f : Fabric) (x : SiteIx) (s : Site) : (f.setSite x s).ctl = f.ctl := rfl
@[simp] theorem Fabric.setCol_ctl (f : Fabric) (x : SiteIx) (c : Column) : (f.setCol x c).ctl = f.ctl := rfl
@[simp] theorem Fabric.setSite_held (f : Fabric) (x : SiteIx) (s : Site) : (f.setSite x s).held = f.held := rfl
@[simp] theorem Fabric.setCol_held (f : Fabric) (x : SiteIx) (c : Column) : (f.setCol x c).held = f.held := rfl
@[simp] theorem Fabric.setSite_cut (f : Fabric) (x : SiteIx) (s : Site) : (f.setSite x s).cut = f.cut := rfl
@[simp] theorem Fabric.setCol_cut (f : Fabric) (x : SiteIx) (c : Column) : (f.setCol x c).cut = f.cut := rfl
@[simp] theorem Fabric.setSite_reports (f : Fabric) (x : SiteIx) (s : Site) : (f.setSite x s).reports = f.reports := rfl
@[simp] theorem Fabric.setCol_reports (f : Fabric) (x : SiteIx) (c : Column) : (f.setCol x c).reports = f.reports := rfl
@[simp] theorem Fabric.setSite_halfUp (f : Fabric) (x : SiteIx) (s : Site) : (f.setSite x s).halfUp = f.halfUp := rfl
@[simp] theorem Fabric.setCol_halfUp (f : Fabric) (x : SiteIx) (c : Column) : (f.setCol x c).halfUp = f.halfUp := rfl
@[simp] theorem Fabric.setSite_fenced (f : Fabric) (x : SiteIx) (s : Site) : (f.setSite x s).fenced = f.fenced := rfl
@[simp] theorem Fabric.setCol_fenced (f : Fabric) (x : SiteIx) (c : Column) : (f.setCol x c).fenced = f.fenced := rfl
@[simp] theorem Fabric.setSite_mapValid (f : Fabric) (x : SiteIx) (s : Site) : (f.setSite x s).mapValid = f.mapValid := rfl
@[simp] theorem Fabric.setCol_mapValid (f : Fabric) (x : SiteIx) (c : Column) : (f.setCol x c).mapValid = f.mapValid := rfl
@[simp] theorem Fabric.setSite_mapWritten (f : Fabric) (x : SiteIx) (s : Site) : (f.setSite x s).mapWritten = f.mapWritten := rfl
@[simp] theorem Fabric.setCol_mapWritten (f : Fabric) (x : SiteIx) (c : Column) : (f.setCol x c).mapWritten = f.mapWritten := rfl
@[simp] theorem Fabric.setSite_acted (f : Fabric) (x : SiteIx) (s : Site) : (f.setSite x s).acted = f.acted := rfl
@[simp] theorem Fabric.setCol_acted (f : Fabric) (x : SiteIx) (c : Column) : (f.setCol x c).acted = f.acted := rfl
@[simp] theorem Fabric.setSite_switching (f : Fabric) (x : SiteIx) (s : Site) : (f.setSite x s).switching = f.switching := rfl
@[simp] theorem Fabric.setCol_switching (f : Fabric) (x : SiteIx) (c : Column) : (f.setCol x c).switching = f.switching := rfl
@[simp] theorem Fabric.setSite_gated (f : Fabric) (x : SiteIx) (s : Site) : (f.setSite x s).gated = f.gated := rfl
@[simp] theorem Fabric.setCol_gated (f : Fabric) (x : SiteIx) (c : Column) : (f.setCol x c).gated = f.gated := rfl
@[simp] theorem Fabric.setSite_toColumn (f : Fabric) (x : SiteIx) (s : Site) : (f.setSite x s).toColumn = f.toColumn := rfl
@[simp] theorem Fabric.setCol_toColumn (f : Fabric) (x : SiteIx) (c : Column) : (f.setCol x c).toColumn = f.toColumn := rfl
@[simp] theorem Fabric.setSite_routes (f : Fabric) (x : SiteIx) (s : Site) : (f.setSite x s).routes = f.routes := rfl
@[simp] theorem Fabric.setCol_routes (f : Fabric) (x : SiteIx) (c : Column) : (f.setCol x c).routes = f.routes := rfl
@[simp] theorem Fabric.setSite_routesNext (f : Fabric) (x : SiteIx) (s : Site) : (f.setSite x s).routesNext = f.routesNext := rfl
@[simp] theorem Fabric.setCol_routesNext (f : Fabric) (x : SiteIx) (c : Column) : (f.setCol x c).routesNext = f.routesNext := rfl
@[simp] theorem Fabric.setSite_kvRegion (f : Fabric) (x : SiteIx) (s : Site) : (f.setSite x s).kvRegion = f.kvRegion := rfl
@[simp] theorem Fabric.setCol_kvRegion (f : Fabric) (x : SiteIx) (c : Column) : (f.setCol x c).kvRegion = f.kvRegion := rfl
@[simp] theorem Fabric.setSite_tempMsgs (f : Fabric) (x : SiteIx) (s : Site) : (f.setSite x s).tempMsgs = f.tempMsgs := rfl
@[simp] theorem Fabric.setCol_tempMsgs (f : Fabric) (x : SiteIx) (c : Column) : (f.setCol x c).tempMsgs = f.tempMsgs := rfl
@[simp] theorem Fabric.setSite_free (f : Fabric) (x : SiteIx) (s : Site) : (f.setSite x s).free = f.free := rfl
@[simp] theorem Fabric.setCol_free (f : Fabric) (x : SiteIx) (c : Column) : (f.setCol x c).free = f.free := rfl

end Sys2Proof.Machine
end

