-- ==== Sys2Proof/Laws/Scratch.lean ====
section
/-! SUPPORT. Laws of scratch: what a byte reads as after a write, parity, and what a scratch write, a semaphore operation and the marks of R111
leave alone. -/

namespace Sys2Proof.Machine

/-- The low eight of the nine stored bits are the byte. -/
@[simp] theorem withParity_byte (b : Byte) : (withParity b).setWidth 8 = b := by
  have h := b.isLt
  apply BitVec.eq_of_toNat_eq
  simp only [withParity, BitVec.toNat_setWidth, BitVec.toNat_ofNat]
  omega

/-- A byte as written holds an even number of ones in its nine bits (R51). -/
theorem parityBad_withParity (b : Byte) : parityBad (withParity b) = false := by
  revert b; decide

theorem Site.byte_putByte (s : Site) (a c : Nat) (b : Byte) : (s.putByte a b).byte c = if c = a then b else s.byte c := by
  unfold Site.byte Site.putByte
  simp only [tget_tset_ite]
  split
  · exact withParity_byte b
  · rfl

theorem Site.byte_putBytes (l : List (Byte × Nat)) (base a : Nat) (s : Site) (h : ∀ p ∈ l, a ≠ base + p.2) :
    (l.foldl (fun s p => s.putByte (base + p.2) p.1) s).byte a = s.byte a := by
  induction l generalizing s with
  | nil => rfl
  | cons p r ih =>
    rw [List.foldl_cons, ih _ (fun q hq => h q (List.mem_cons_of_mem _ hq)), Site.byte_putByte, if_neg (h p (List.mem_cons_self ..))]

theorem Site.byte_putRun (l : List Byte) (base k a : Nat) (s : Site) :
    ((l.zipIdx k).foldl (fun s p => s.putByte (base + p.2) p.1) s).byte a =
      if base + k ≤ a ∧ a < base + k + l.length then l.getD (a - (base + k)) 0 else s.byte a := by
  induction l generalizing s k with
  | nil => simp
  | cons b r ih =>
    rw [List.zipIdx_cons, List.foldl_cons, ih]
    by_cases h : a = base + k
    · subst h
      rw [if_neg (by omega), Site.byte_putByte, if_pos rfl, if_pos (by simp)]
      simp
    · rw [Site.byte_putByte, if_neg h]
      by_cases g : base + k ≤ a ∧ a < base + k + (b :: r).length
      · have g' : base + (k + 1) ≤ a ∧ a < base + (k + 1) + r.length := by simp at g; omega
        rw [if_pos g, if_pos g']
        have : a - (base + k) = (a - (base + (k + 1))) + 1 := by omega
        rw [this, List.getD_cons_succ]
      · have g' : ¬ (base + (k + 1) ≤ a ∧ a < base + (k + 1) + r.length) := by simp at g; omega
        rw [if_neg g, if_neg g']

/-- A byte after a scratch write: the byte written, or as before. -/
theorem Site.byte_apply (s : Site) (w : ScratchWrite) (a : Nat) :
    (s.apply w).byte a = if w.addr ≤ a ∧ a < w.addr + w.bytes.length then w.bytes.getD (a - w.addr) 0 else s.byte a := by
  have h := Site.byte_putRun w.bytes w.addr 0 a s
  simp only [Nat.add_zero] at h
  rw [← h]
  unfold Site.apply
  split <;> rfl

-- What a scratch write leaves alone ------------------------------------------------------------------------------------

/-- The site without its scratch, its poison marks and its tags. -/
def Site.rest (s : Site) : Site := { s with scratch := [], poison := [], tags := [] }

theorem Site.putByte_rest (s : Site) (a : Nat) (b : Byte) : (s.putByte a b).rest = s.rest := rfl

theorem Site.apply_rest (s : Site) (w : ScratchWrite) : (s.apply w).rest = s.rest := by
  have h := foldl_keeps Site.rest (fun (s : Site) (p : Byte × Nat) => s.putByte (w.addr + p.2) p.1) (fun _ _ => rfl) w.bytes.zipIdx s
  unfold Site.apply
  split
  · exact h
  · exact h

@[simp] theorem Site.apply_streams (s : Site) (w : ScratchWrite) : (s.apply w).streams = s.streams := by
  have h := congrArg Site.streams (s.apply_rest w); exact h
@[simp] theorem Site.apply_sems (s : Site) (w : ScratchWrite) : (s.apply w).sems = s.sems := by
  have h := congrArg Site.sems (s.apply_rest w); exact h
@[simp] theorem Site.apply_semTags (s : Site) (w : ScratchWrite) : (s.apply w).semTags = s.semTags := by
  have h := congrArg Site.semTags (s.apply_rest w); exact h
@[simp] theorem Site.apply_peers (s : Site) (w : ScratchWrite) : (s.apply w).peers = s.peers := by
  have h := congrArg Site.peers (s.apply_rest w); exact h
@[simp] theorem Site.apply_arr (s : Site) (w : ScratchWrite) : (s.apply w).arr = s.arr := by
  have h := congrArg Site.arr (s.apply_rest w); exact h

/-- Several scratch writes in order. -/
theorem Site.applyAll_rest (l : List ScratchWrite) (s : Site) : (l.foldl Site.apply s).rest = s.rest :=
  foldl_keeps Site.rest Site.apply (fun s w => s.apply_rest w) l s

theorem Site.byte_applyAll_outside (l : List ScratchWrite) (s : Site) (a : Nat)
    (h : ∀ w ∈ l, ¬ (w.addr ≤ a ∧ a < w.addr + w.bytes.length)) : (l.foldl Site.apply s).byte a = s.byte a := by
  induction l generalizing s with
  | nil => rfl
  | cons w r ih =>
    rw [List.foldl_cons, ih _ (fun q hq => h q (List.mem_cons_of_mem _ hq)), Site.byte_apply, if_neg (h w (List.mem_cons_self ..))]

-- The marks of R111 ----------------------------------------------------------------------------------------------------

@[simp] theorem Site.race_byte (s : Site) (who : Option StreamId) (ws : List (Nat × Nat)) (a : Nat) : (s.race who ws).byte a = s.byte a := rfl
@[simp] theorem Site.race_sems (s : Site) (who : Option StreamId) (ws : List (Nat × Nat)) : (s.race who ws).sems = s.sems := rfl
@[simp] theorem Site.race_semTags (s : Site) (who : Option StreamId) (ws : List (Nat × Nat)) : (s.race who ws).semTags = s.semTags := rfl
@[simp] theorem Site.race_peers (s : Site) (who : Option StreamId) (ws : List (Nat × Nat)) : (s.race who ws).peers = s.peers := rfl

/-- A stream after the marks: as before, but for marks on the steps in flight of the other streams. -/
theorem Site.race_stream (s : Site) (who : Option StreamId) (ws : List (Nat × Nat)) (n : StreamId) :
    ∃ m : StepRec → StepRec, (∀ r, m r = r ∨ m r = { r with spoiled := true }) ∧
      (s.race who ws).stream n = { s.stream n with steps := (s.stream n).steps.map m } := by
  by_cases h : who = some n
  · refine ⟨id, fun r => .inl rfl, ?_⟩
    simp [Site.race, Site.stream, h]
  · refine ⟨fun r => if anyOverlap r.regions ws then { r with spoiled := true } else r, ?_, ?_⟩
    · intro r; dsimp only; split
      · exact .inr rfl
      · exact .inl rfl
    · simp [Site.race, Site.stream, h]

end Sys2Proof.Machine
end

