-- ==== Sys2Proof/Machine/Read.lean ====
section
/-! DEFINITION. What a read of BAR0 or BAR2 returns, register by register (Tables Regmap-3 to Regmap-8, R243–R245, R464, R467), and what the
Towpath's read-only registers of a channel root hold. A read of a read-to-clear register clears it as the command of its own row does. -/

namespace Sys2Proof.Machine

/-- A word of two counts. -/
def pair16 (hi lo : Nat) : Nat := hi * 2 ^ 16 + lo

/-- The words of an MSI-X table, and of its pending bits. -/
def Dev.msixWord (d : Dev) (f : FuncId) (i : Nat) : Nat :=
  let m := tget d.host.msix MsixEntry.init (vecKey f (i / 4))
  match i % 4 with
  | 0 => m.addr % 2 ^ 32
  | 1 => m.addr / 2 ^ 32
  | 2 => m.data
  | _ => b2n m.masked
def Dev.pbaWord (d : Dev) (f : FuncId) (i n : Nat) : Nat :=
  ((List.range (Nat.min 32 (n - 32 * i))).map (fun k => b2n (tget d.host.msix MsixEntry.init (vecKey f (32 * i + k))).pending * 2 ^ k)).sum

/-- A context window (Table Regmap-7). -/
def Ctx.readWindow (x : Ctx) (off : Nat) : Nat :=
  match off with
  | 0x04 => x.status
  | 0x08 => x.sqBase % 2 ^ 32
  | 0x0C => x.sqBase / 2 ^ 32
  | 0x10 => x.cqBase % 2 ^ 32
  | 0x14 => x.cqBase / 2 ^ 32
  | 0x18 => x.eqBase % 2 ^ 32
  | 0x1C => x.eqBase / 2 ^ 32
  | 0x20 => x.ringSize
  | 0x24 => x.irq
  | 0x28 => x.irqTime
  | 0x2C => x.cfg
  | 0x30 => x.swapBase % 2 ^ 32
  | 0x34 => x.swapBase / 2 ^ 32
  | 0x38 => x.swapSize
  | 0x40 => x.sqHead
  | 0x44 => x.dsnWord
  | 0x48 => pair16 x.evLost x.dbDropped
  | _ => 0

/-- A collective group (Table Net-3), and a queue pair record (Table Net-2). -/
def CollGroup.word (g : CollGroup) (off : Nat) : Nat :=
  match off with
  | 0 => g.n * 2 ^ 16 + g.rank * 2 ^ 8 + g.gstate
  | 4 => g.udq * 2 ^ 16 + g.level
  | 8 => g.gid % 2 ^ 32
  | 0xC => g.gid / 2 ^ 32
  | _ =>
    if 0x40 ≤ off && off < 0x240 then
      let m := tget g.members 0 ((off - 0x40) / 8)
      if (off - 0x40) % 8 = 0 then m % 2 ^ 32 else m / 2 ^ 32
    else 0
def Qp.word (q : Qp) (i : Nat) : Nat := q.rcd / 2 ^ (32 * i) % 2 ^ 32

/-- A TILE_ window (Table Regmap-6): 0 for an absent tile and before MAP_VALID; a read-to-clear counter also for a half that is not up. -/
def State.tileRead (s : State) (t : TileId) (off : Nat) : Nat :=
  let d := s.d
  let e := s.env
  let rc := fun (v : Fabric → Fabric × Nat) => if d.tileTakes t then (v d.fab).2 else 0
  let st := fun (n : Nat) => (⟨n % 4, Nat.mod_lt _ (by decide)⟩ : StreamId)
  match off with
  | 0x100 => d.tileView t (fun _ _ => e.reg (tileReg t 0x100))
  | 0x110 => rc (fun f => f.readScratchErr t)
  | 0x120 => rc (fun f => f.readFmtEvents t)
  | 0x130 => d.mmStatus t
  | 0x134 => rc (fun f => f.readMmChk t)
  | 0x138 => d.tileView t (fun _ _ => e.reg (tileReg t 0x138))
  | 0x140 => d.tileView t (fun d x => (d.fab.site x).shown.2.dbgSel.toNat)
  | 0x148 => d.mmDbgData t % 2 ^ 32
  | 0x14C => d.mmDbgData t / 2 ^ 32
  | 0x160 => rc (fun f => f.readAttEvents t)
  | 0x180 => rc (fun f => f.readDramErr t)
  | 0x184 => d.drgStatus t
  | 0x188 => d.drgPos t
  | 0x18C => d.repairStatus t
  | 0x1A0 => d.pace e t
  | 0x1A4 => d.paceAge e t
  | 0x1C0 => d.tileThm0 t
  | 0x1C4 => d.tileThm1 t
  | 0x1C8 => d.tileThm2 t
  | _ =>
    if off < 0x40 then
      match off % 0x10 with
      | 0 => d.streamStatus t (st (off / 0x10))
      | 4 => d.streamPc t (st (off / 0x10))
      | _ => 0
    else 0

/-- BSN_ registers that are more than what was written to them (Table Regmap-3). -/
def State.bsnRead (s : State) (off : Nat) : Nat :=
  let d := s.d
  let e := s.env
  match off with
  | 0x100 => d.topoStatus
  | 0x4004 => d.kvStatus e
  | 0x4008 => d.kvTotal
  | 0x4010 => pair16 d.svc.poisonMoves d.svc.t2Fallbacks
  | 0x420C => d.ctxData ⟨fld (e.reg 0x4208) 11 0 % 4096, Nat.mod_lt _ (by decide)⟩
  | 0x4210 => d.tsStatus
  | 0x4214 => d.tsLevels
  | 0x4218 => pair16 d.svc.launchFaults d.svc.replays
  | 0x421C => d.modelLoaded
  | 0x4300 => d.bindSelWord e
  | 0x4304 => d.bindWord ⟨fld (e.reg 0x4300) 11 0 % 4096, Nat.mod_lt _ (by decide)⟩
  | 0x430C => pair16 d.host.lateCpl d.host.discCpl
  | 0x4310 => d.hostTags
  | 0x4314 => pair16 d.host.aptPoison d.host.aptPartial
  | 0x4404 => s.agg.prod % 2 ^ 16
  | 0x4408 => s.agg.cons % 2 ^ 16
  | 0x440C => s.agg.status d
  | 0x4410 => pair16 s.agg.logLost s.agg.overflows
  | 0x4428 => d.migStatus 0
  | 0x442C => d.migStatus 1
  | 0x4430 => d.repairRec
  | 0x4504 => d.resetStatus
  | _ => 0

/-- LNK_, NET_ and T2_ registers (Table Regmap-4). -/
def State.linkRead (s : State) (off : Nat) : Nat :=
  let d := s.d
  let e := s.env
  let port : PortId := ⟨(off - 0x200000) / 0x40 % 16, Nat.mod_lt _ (by decide)⟩
  let link : LinkId := ⟨(off - 0x100100) / 0x20 % 8, Nat.mod_lt _ (by decide)⟩
  let cart : CartId := ⟨(off - 0x202010) / 0x10 % 4, Nat.mod_lt _ (by decide)⟩
  let l := d.link link
  match off with
  | 0x100010 => d.halfStatus
  | 0x100014 => d.lnk.fenceDrops
  | 0x200800 => e.reg 0x200800
  | 0x200804 => e.reg 0x200804
  | 0x201008 => d.collLevels
  | 0x20100C => pair16 d.net.opsFailed d.net.msgDropped
  | 0x201014 => d.ptpStatus
  | 0x202000 => d.cartCtrlWord e
  | 0x300000 => d.t2Status
  | 0x300008 => pair16 d.lnk.t2.poisonRd d.lnk.t2.timeouts
  | _ =>
    if 0x100100 ≤ off && off < 0x100200 then
      match (off - 0x100100) % 0x20 with
      | 0 => d.lnkStatus link
      | 4 => pair16 l.replays l.crcErrs
      | 8 => l.retrains * 2 ^ 24 + l.mapChanges * 2 ^ 16 + l.dupFlits
      | _ => 0
    else if 0x200000 ≤ off && off < 0x200400 then
      match (off - 0x200000) % 0x40 with
      | 0 => e.reg off
      | 4 => d.portStatus port
      | 8 => pair16 (d.port port).fecUncorr (d.port port).rxDrop
      | _ => 0
    else if 0x202010 ≤ off && off < 0x202050 then
      match (off - 0x202010) % 0x10 with
      | 0 => d.cartStatus cart
      | 4 => d.cartLife cart
      | _ => 0
    else if 0x240000 ≤ off && off < 0x250000 then (d.group (groupFin ((off - 0x240000) / 0x400))).word ((off - 0x240000) % 0x400)
    else if 0x280000 ≤ off && off < 0x300000 then (d.qp (qpFin ((off - 0x280000) / 64))).word ((off - 0x280000) % 64 / 4)
    else if 0x300010 ≤ off && off < 0x300020 then d.t2Dec ⟨(off - 0x300010) / 4 % 4, Nat.mod_lt _ (by decide)⟩
    else 0

/-- PWR_, THM_, SEC_ and LKK_ registers (Table Regmap-5). -/
def State.aonRead (s : State) (off : Nat) : Nat :=
  let d := s.d
  let e := s.env
  match off with
  | 0x400004 => fusePower s.fuse
  | 0x400008 => fusePeak s.fuse
  | 0x40000C => d.powerStatus
  | 0x400010 => d.windowStatus
  | 0x400014 => d.controlStatus
  | 0x400024 => d.sluiceStatus
  | 0x400028 => d.sluiceCl
  | 0x40002C => pair16 d.pwr.alertCuts d.pwr.ocCuts
  | 0x400040 => e.reg 0x400040 + b2n d.pwr.refused * 2 ^ 30 + b2n d.pwr.broken * 2 ^ 29
  | 0x400044 => d.pwr.departs
  | 0x400300 => d.railStatus 0
  | 0x400310 => d.railStatus 1
  | 0x500000 => d.thmStatus
  | 0x500004 => d.thmTray
  | 0x500010 => d.thmTim 0
  | 0x500014 => d.thmTim 1
  | 0x500018 => d.thmSuspect
  | 0x500020 => d.thmTrip
  | 0x500024 => d.thmTripTime % 2 ^ 32
  | 0x500028 => d.thmTripTime / 2 ^ 32
  | 0x600000 => e.reg 0x600000
  | 0x600004 => s.sec.status
  | 0x600008 => s.sec.tamper
  | 0x60000C => s.sec.tamperCount
  | 0x700000 => d.lkkStatus
  | 0x700100 => e.reg 0x700100
  | 0x700104 => e.reg 0x700104
  | 0x700108 => e.reg 0x700108
  | 0x70010C => e.reg 0x70010C
  | 0x700110 => e.reg 0x700110
  | 0x700114 => d.mbxRsp
  | _ =>
    if 0x400100 ≤ off && off < 0x400300 then
      let c : ClusterId := ⟨(off - 0x400100) / 0x10 % 32, Nat.mod_lt _ (by decide)⟩
      match (off - 0x400100) % 0x10 with
      | 0 => d.clStatus c
      | 4 => d.clHeaders c
      | 8 => d.clLatches c
      | _ => d.clPhase e c
    else if 0x700208 ≤ off && off < 0x700258 then
      if (off - 0x700200) % 8 = 0 then d.fwStatus ((off - 0x700200) / 8) else d.fwVersion ((off - 0x700200) / 8)
    else 0

/-- What an aligned 32-bit read of the PF's BAR0 returns: 0 where no table lists the offset (R464). -/
def State.pfRead (s : State) (off : Nat) : Nat :=
  let d := s.d
  match plainReg off with
  | some r => if r.off = 0x4300 then s.bsnRead off else s.env.reg off
  | none =>
    if off < 0x10000 then s.bsnRead off
    else if off < 0x20000 then leAt (s.agg.logBytes ((off - 0x10000) / 64)) ((off - 0x10000) % 64) 4
    else if 0x80000 ≤ off && off < 0x88000 then d.msixWord 0 ((off - 0x80000) / 4)
    else if 0x88000 ≤ off && off < 0x88100 then d.pbaWord 0 ((off - 0x88000) / 4) 2048
    else if 0x100000 ≤ off && off < 0x400000 then s.linkRead off
    else if 0x400000 ≤ off && off < 0x800000 then s.aonRead off
    else if 0x800000 ≤ off && off < 0xC00000 then
      let c : ClusterId := ⟨(off - 0x800000) / 0x20000 % 32, Nat.mod_lt _ (by decide)⟩
      match (off - 0x800000) % 0x20000 with
      | 0x100 => d.clSiteMap c 0
      | 0x104 => d.clSiteMap c 1
      | 0x108 => d.clSiteMap c 2
      | 0x10C => d.clSiteMap c 3
      | 0x110 => d.clSiteStatus c
      | _ => 0
    else if 0xC00000 ≤ off && off < 0x1C00000 then s.tileRead (tileOfNat ((off - 0xC00000) / 0x8000)) ((off - 0xC00000) % 0x8000)
    else if 0x1C00000 ≤ off && off < 0x3C00000 then
      (d.ctx ⟨(off - 0x1C00000) / 0x2000 % 4096, Nat.mod_lt _ (by decide)⟩).readWindow ((off - 0x1C00000) % 0x2000)
    else 0

/-- The same for a VF (Table Host-3, Table Regmap-8). -/
def State.vfRead (s : State) (f : FuncId) (off : Nat) : Nat :=
  if off = 0 then s.d.vfInfo f
  else if 0x1000 ≤ off && off < 0x1100 then s.d.msixWord f ((off - 0x1000) / 4)
  else if 0x1800 ≤ off && off < 0x1808 then s.d.pbaWord f ((off - 0x1800) / 4) 16
  else if 0x20000 ≤ off && off < 0x40000 then
    match s.d.localCtx f ((off - 0x20000) / 0x2000) with
    | some c => (s.d.ctx c).readWindow ((off - 0x20000) % 0x2000)
    | none => 0
  else 0

def State.read32 (s : State) (f : FuncId) (off : Nat) : Nat := if f = 0 then s.pfRead off else s.vfRead f off

/-- A read of BAR0 (R244): aligned 32 bits, or aligned 64 bits with both halves from one instant; none where it completes with Unsupported
Request. -/
def State.read (s : State) (f : FuncId) (off size : Nat) : Option Nat :=
  if size = 4 && off % 4 = 0 then some (s.read32 f off)
  else if size = 8 && off % 8 = 0 then some (s.read32 f (off + 4) * 2 ^ 32 + s.read32 f off)
  else none

/-- A read of BAR2 returns 0 and does nothing (R244). -/
def State.readBar2 (_ : State) (_ : FuncId) (_ : Nat) : Nat := 0

/-- SITE_CNT of a channel root: its own counts, which no read clears (R467, Table Regmap-10). -/
def Column.siteCnt (c : Column) (i : Fin 4) : Nat :=
  match i with
  | 0 => pair16 c.ownUncorr c.ownCorr
  | 1 => c.drgStatus
  | 2 => c.drgPos
  | 3 => c.repairStatus

-- The Towpath ----------------------------------------------------------------------------------------------------------

/-- A register of a Towpath node (Table Regmap-10). -/
inductive TowReg where
  | peer (x : SiteIx) (w : Fin 128)
  | code (x : SiteIx)
  | codeCrc (x : SiteIx)
  | repair (x : SiteIx) (e : RepairEntry)
  | lane (x : SiteIx) (b : Fin 8) (g : Fin 144)
  | dsens (x : SiteIx) (l : Fin 8)
  | siteCnt (x : SiteIx) (i : Fin 4)
  | ring (x : SiteIx)
  | tsens (x : SiteIx) (i : Fin 2)
  | flim (x : SiteIx)
  | suspect (x : SiteIx)
  | siteMap (c : ClusterId) (i : Fin 5)
  | route (c : ClusterId)
  | vset (h : HalfId) (p : Fin 16)
  | domainCmd (h : HalfId)
deriving DecidableEq, Repr

/-- Word n of a block of k words. -/
def nth? (k n : Nat) : Option (Fin k) := if h : n < k then some ⟨n, h⟩ else none

/-- The register at an offset of a site's node. -/
def towSite (x : SiteIx) (node off : Nat) : Option TowReg :=
  match node with
  | 0 =>
    if off < 0x200 then (nth? 128 (off / 4)).map (.peer x)
    else if off = 0x1000 then some (.code x) else if off = 0x1004 then some (.codeCrc x) else none
  | 1 =>
    if h : off < 0x4000 then some (.repair x (.row ⟨off / 128, by omega⟩ ⟨off / 4 % 32, by omega⟩))
    else if h : off < 0x5000 then some (.repair x (.col ⟨(off - 0x4000) / 32, by omega⟩ ⟨off / 4 % 8, by omega⟩))
    else if h : off < 0x6200 then some (.lane x ⟨(off - 0x5000) / 576, by omega⟩ ⟨(off - 0x5000) / 4 % 144, by omega⟩)
    else if off < 0x6400 then none
    else if off < 0x6500 then (nth? 64 ((off - 0x6400) / 4)).map (fun i => .repair x (.dead i))
    else if off < 0x7000 then none
    else if off < 0x7020 then (nth? 8 ((off - 0x7000) / 4)).map (.dsens x)
    else if off < 0x8000 then none
    else (nth? 4 ((off - 0x8000) / 4)).map (.siteCnt x)
  | 2 =>
    match off with
    | 0 => some (.ring x)
    | 4 => some (.tsens x 0)
    | 8 => some (.tsens x 1)
    | 0xC => some (.flim x)
    | 0x10 => some (.suspect x)
    | _ => none
  | _ => none

/-- The register that a Towpath address names (R468); none where the node or the offset is not assigned, or the address is not aligned. -/
def towReg (a : Word) : Option TowReg :=
  let w := a.toNat
  let h : HalfId := if bit w 31 then 1 else 0
  let pcl := fld w 30 27
  let site := fld w 26 22
  let node := fld w 21 18
  let off := fld w 17 0
  if off % 4 ≠ 0 then none
  else if node = 3 then
    let c := siteCluster (siteOfNat (272 * h.val + 17 * pcl))
    if site ≠ 0x1F then none
    else if off < 0x14 then (nth? 5 (off / 4)).map (.siteMap c)
    else if off = 0x100 then some (.route c) else none
  else if node = 5 then
    if site ≠ 0x1F || pcl ≠ 0 then none
    else if off < 0x40 then (nth? 16 (off / 4)).map (.vset h)
    else if off = 0x100 then some (.domainCmd h) else none
  else if 17 ≤ site then none
  else towSite (siteOfNat (272 * h.val + 17 * pcl + site)) node off

def TowReg.half : TowReg → HalfId
  | .peer x _ | .code x | .codeCrc x | .repair x _ | .lane x _ _ | .dsens x _ | .siteCnt x _ | .ring x | .tsens x _ | .flim x | .suspect x => siteHalf x
  | .siteMap c _ | .route c => clusterHalf c
  | .vset h _ | .domainCmd h => h

/-- The node of a register has its power (R469). -/
def TowReg.powered (d : Dev) : TowReg → Bool
  | .peer x _ | .code x | .codeCrc x => d.siteOn x
  | .vset h _ | .domainCmd h => d.pwr.vin[h]
  | r => d.bankSt r.half 16 == .up

def TowReg.readOnly : TowReg → Bool
  | .code _ | .codeCrc _ | .dsens _ _ | .siteCnt _ _ | .ring _ | .tsens _ _ => true
  | _ => false

/-- A raw sensor in units of 0.125 °C, as a word. -/
def rawTemp (d : Dev) (s : SensorId) : Nat := (BitVec.ofInt 32 ((d.sen s).reading.getD 0)).toNat

/-- LOC of a dead lane of a column, with VALID (Table Errors-3). -/
def Column.deadWord (c : Column) (i : Nat) : Nat :=
  let all := c.lanes.flatMap (fun q => match q.2 with | some l => l.dead.map (fun n => (q.1 / 144, q.1 % 144, n)) | none => [])
  match all[i]? with
  | some p => 2 ^ 31 + p.2.2 % 64 * 2 ^ 11 + p.2.1 * 2 ^ 3 + p.1
  | none => 0

/-- The shifts of a lane group. -/
def LaneSt.word (l : LaneSt) : Nat :=
  let sh := fun (i : Nat) => match l.shifted[i]? with | some n => n % 64 | none => 0x7F
  sh 0 + sh 1 * 2 ^ 8 + b2n (1 ≤ l.sparesBad) * 2 ^ 16 + b2n (2 ≤ l.sparesBad) * 2 ^ 17

/-- What a register of a node holds. -/
def State.towValue (s : State) : TowReg → Nat
  | .peer x w => ((s.d.fab.site x).peers[2 * w.val + 1]'(by omega)).toNat * 2 ^ 16 + ((s.d.fab.site x).peers[2 * w.val]'(by omega)).toNat
  | .code x =>
    let t := s.d.fab.site x
    b2n (t.bank = 1) + b2n (t.code.1 ≠ 0) * 2 + b2n (t.code.2 ≠ 0) * 4
  | .codeCrc x =>
    let t := s.d.fab.site x
    (Config.codeCrc (if t.bank = 0 then t.code.2 else t.code.1)).toNat
  | .repair x (.row b i) => (tget (s.d.fab.col x).rowRep 0 (32 * b.val + i.val)).toNat
  | .repair x (.col b i) => (tget (s.d.fab.col x).colRep 0 (8 * b.val + i.val)).toNat
  | .repair x (.dead i) => (s.d.fab.col x).deadWord i.val
  | .lane x b g => ((s.d.fab.col x).lane b.val g.val).word
  | .dsens x l => rawTemp s.d (.dram x l)
  | .siteCnt x i => (s.d.fab.col x).siteCnt i
  | .ring x => s.d.fab.freeNat (600 + x.val) % 2 ^ 32
  | .tsens x i => rawTemp s.d (.logic x i)
  | .flim x => (s.d.fab.site x).flim
  | .suspect x => (((colSensors x).zipIdx).map (fun p => b2n (s.d.sen p.1).suspect * 2 ^ p.2)).sum
  | .siteMap c i =>
    let m := s.d.fab.cluster c
    if h : i.val < 4 then
      siteCode (m.siteOf[4 * i.val + 3]'(by omega)) * 2 ^ 24 + siteCode (m.siteOf[4 * i.val + 2]'(by omega)) * 2 ^ 16 +
      siteCode (m.siteOf[4 * i.val + 1]'(by omega)) * 2 ^ 8 + siteCode (m.siteOf[4 * i.val]'(by omega))
    else m.mapGen.toNat * 2 ^ 28 + m.bad.toNat * 2 ^ 8 + b2n m.spare.isSome * 2 ^ 5 + siteCode m.spare
  | .route c => b2n (s.d.fab.cluster c).columnFirst
  | .vset h p => (s.d.clp (siteCluster (siteOfNat (272 * h.val + 17 * p.val)))).vset
  | .domainCmd _ => 0

/-- A Towpath read (R469): status and value; none where no trunk reaches the half. -/
def State.towRead (s : State) (a : Word) : Option (Nat × Nat) :=
  match towReg a with
  | none => some (3, 0)
  | some r => if !s.d.towUp r.half then none else if !r.powered s.d then some (1, 0) else some (0, s.towValue r)

/-- The response to a Towpath write that has no effect by its address (R469): NO_NODE, or DISCARDED for a read-only register. None where the
register's own command answers, or no trunk reaches the half. -/
def State.towRefusal (s : State) (a : Word) : Option Nat :=
  match towReg a with
  | none => some 3
  | some r => if !r.readOnly || !s.d.towUp r.half then none else if !r.powered s.d then some 1 else some 2

end Sys2Proof.Machine
end

