-- ==== Sys2Proof/Tests/Slice0.lean ====
section
/-! SUPPORT. Tests: for every statement with hypotheses a witness, concrete states and operands that meet the hypotheses of each of its clauses;
an ill-formed command for each check of WellFormed.lean; and the worked examples of the manual. -/

namespace Sys2Proof.Tests
open Sys2Proof Sys2Proof.Machine
set_option Elab.async false

/-- A small device: site 0 on logical tile 48, powered and tested, with a column of zeros; both halves in service; Lockkeeper and the host up. -/
def site0 : Site := { Site.init with ready := true, code := (1, 0) }
def col0 : Column := { Column.init with phase := .ready, fill := { data := 0, poison := false, err := 0 } }
def fab0 : Fabric := { Fabric.init with sites := [(0, site0)], cols := [(0, col0)], mapValid := true, halfUp := Vector.replicate 2 true }
def pwr0 : PwrSt := { PwrSt.init with
  vaon := true, vbsn := true, vphy := true, vin := Vector.replicate 2 true, ctl := Vector.replicate 2 true
  doms := [(0, { DomSt.init with state := .on }), (17, { DomSt.init with state := .on })], banks := [(0, .up), (16, .up), (17, .up), (18, .up)] }
def dev0 : Dev := { Dev.init with
  fab := fab0, pwr := pwr0, host := { HostSt.init with linkUp := true, perst := false, bme := [(0, true)] }
  lkk := { Lkk.init with bootStage := 13, basinUp := true } }
def up : State := { State.reset with d := dev0 }

/-- `up` with another site, stream or column there. -/
def withSite (g : Site → Site) : State := { up with d := { dev0 with fab := { fab0 with sites := [(0, g site0)] } } }
def withStream (g : Stream → Stream) : State := withSite (fun s => { s with streams := s.streams.set 0 (g Stream.init) })
def withCol (g : Column → Column) : State := { up with d := { dev0 with fab := { fab0 with cols := [(0, g col0)] } } }
def withFab (g : Fabric → Fabric) : State := { up with d := { dev0 with fab := g fab0 } }
def withDev (g : Dev → Dev) : State := { up with d := g dev0 }
def withLkk (g : Lkk → Lkk) : State := withDev (fun d => { d with lkk := g d.lkk })

-- Witnesses of the hypotheses of the statements --------------------------------------------------------------------------

theorem witness_StepRunsFrontCommand : State.reset.pending = [] := by decide +kernel
theorem witness_SecurityInvariantKept : SecInv State.reset.sec ∧ Goes State.reset State.reset := ⟨by constructor <;> decide, rfl⟩
theorem witness_SecLockOnlyColdReset : ∃ s : State, s.sec.lock = true ∧ coldCommand .timeTick = false := ⟨{ up with sec := { Sec.init with lock := true } }, by decide +kernel⟩
theorem witness_TamperEvidenceNeverFalls : Goes State.reset State.reset ∧ SecInv State.reset.sec := ⟨rfl, by constructor <;> decide⟩
theorem witness_TimePassesByTicksAlone : up.d.pwr.vaon = true ∧ missedOf up.time .aggregator ≤ up.time.ticks ∧ coldCommand .timeTick = false ∧
    Dev.init.pwr.vaon = false := by decide +kernel

def lp : LaunchPkt := { stream := 0, tag := 5, start := 64, semClear := 3, params := List.replicate 256 7 }
theorem witness_LaunchTakesAnIdleStream :
    (∀ s ∈ [up, withStream (fun v => { v with state := .faulted }), withStream (fun v => { v with state := .running })],
      Carries s 48 0 ∧ s.d.fab.switching[tileHalf 48] = false) ∧
    (Carries up 48 0 ∧ lp.params.length = 256 ∧ ((up.d.fab.site 0).stream lp.stream).state = .idle) ∧
    (∃ s : State, Carries s 48 0 ∧ ((s.d.fab.site 0).stream lp.stream).state = .faulted) ∧
    (∃ s : State, Carries s 48 0 ∧ ((s.d.fab.site 0).stream lp.stream).state ≠ .idle ∧ ((s.d.fab.site 0).stream lp.stream).state ≠ .faulted) ∧
    (∃ s : State, s.d.fab.siteOf 48 = some 0 ∧ s.d.fab.switching[tileHalf 48] = false ∧ (s.d.fab.site 0).ready = false) ∧
    (∃ s : State, s.d.fab.siteOf 48 = some 0 ∧ s.d.fab.switching[tileHalf 48] = false ∧ s.d.fab.holding 48 = true) ∧
    (∃ s : State, s.d.fab.siteOf 48 = none ∧ s.d.fab.switching[tileHalf 48] = false) ∧
    (∃ s : State, s.d.fab.switching[tileHalf 48] = true) := by
  unfold Carries
  exact ⟨by decide +kernel, by decide +kernel, ⟨withStream (fun v => { v with state := .faulted }), by decide +kernel⟩, ⟨withStream (fun v => { v with state := .running }), by decide +kernel⟩,
    ⟨withSite (fun s => { s with ready := false }), by decide +kernel⟩,
    ⟨withFab (fun f => { f with cut := f.cut.set 0 (some { tile := 48, src := 0, dst := 16, phase := .quiescing }) }), by decide +kernel⟩,
    ⟨withFab (fun f => { f with clusters := [(3, { ClusterSt.init with siteOf := Vector.replicate 16 none })] }), by decide +kernel⟩,
    ⟨withFab (fun f => { f with switching := Vector.replicate 2 true }), by decide +kernel⟩⟩
theorem witness_AbortFaultsTheStreamsOfItsLaunch : Carries up 48 0 ∧ up.d.fab.switching[tileHalf 48] = false := by unfold Carries; decide

def si : StepIn := { tile := 48, stream := 0, scratchUps := [], dramUps := [] }
/-- `up` with stream 0 running at a row whose first descriptor is w. -/
def running (w : Nat) : Stream :=
  { Stream.init with state := .running, fetched := [{ row := 0, bytes := leBytes 32 w ++ List.replicate 992 0, poison := List.replicate 16 none }] }
def runs (w : Nat) : State := withStream (fun _ => running w)
def stepRec (kind : StepKind) : StepRec :=
  { id := 3, off := 0, kind := kind, sen := some 1, reads := [], scratch := [{ addr := 64, bytes := [7], poison := false, tag := none }]
    rowReads := [], sectors := [], rowWrites := [], sat := 1, nan := 2, empty := 0, spoiled := false }
/-- VEC COPY of four FP32 elements; SIGNAL of one unit; NOP that takes a unit of semaphore 1; FENCE; LOOP; END with SEN; MATMUL with a bad format. -/
def wCopy : Nat := 0x20 + 0x1000 * 2 ^ 96 + 0x2000 * 2 ^ 160 + 4 * 2 ^ 192
def wSignal : Nat := 0x51 + 2 ^ 14 + 2 ^ 19 + 2 ^ 192
def wNopTake : Nat := 2 ^ 8 + 2 ^ 13
def wFence : Nat := 0x52
def wLoop : Nat := 0x60 + 2 * 2 ^ 80 + 2 ^ 192
def wEnd : Nat := 0x7F + 2 ^ 19

theorem witness_StepsIssueAndWaitForCompletion :
    (StepsAs (.copy si) si (Desc.ofNat wCopy) ∧ Stands (runs wCopy) si 0 (Desc.ofNat wCopy) ∧ HasUnits (runs wCopy) si 0 (Desc.ofNat wCopy) ∧
      MayRun (runs wCopy) si 0 (Desc.ofNat wCopy) ∧ (∃ ef, (Work (At (runs wCopy) si 0 (Desc.ofNat wCopy) (Took (runs wCopy) si 0 (Desc.ofNat wCopy)))).res = .ok ef) ∧
      NextClear (StreamOf (runs wCopy) si 0)) ∧
    (StepsAs (.signal si) si (Desc.ofNat wSignal) ∧ Stands (runs wSignal) si 0 (Desc.ofNat wSignal) ∧ HasUnits (runs wSignal) si 0 (Desc.ofNat wSignal) ∧
      MayRun (runs wSignal) si 0 (Desc.ofNat wSignal) ∧
      (∃ ef, (Work (At (runs wSignal) si 0 (Desc.ofNat wSignal) (Took (runs wSignal) si 0 (Desc.ofNat wSignal)))).res = .ok ef) ∧
      NextClear (StreamOf (runs wSignal) si 0)) := by
  unfold HasUnits MayRun NextClear
  refine ⟨⟨by simp only [StepsAs, reduceCtorEq, false_and, true_and, false_or]; decide +kernel, ?_,
    by decide +kernel, by decide +kernel, ⟨_, rfl⟩, by decide +kernel⟩,
    by simp only [StepsAs, reduceCtorEq, false_and, true_and, false_or]; decide +kernel, ?_,
    by decide +kernel, by decide +kernel, ⟨_, rfl⟩, by decide +kernel⟩ <;>
  constructor <;> decide +kernel

/-- A FENCE of scope TILE, of scope MESH and of scope STREAM, with a step of the stream in flight. -/
def wFenceTile : Nat := wFence + 2 ^ 24
def fences (w : Nat) : State := withStream (fun _ => { running w with steps := [stepRec .plain] })
theorem witness_ControlStepsWait :
    (let d := Desc.ofNat wFenceTile; d.opcode = 0x52 ∧ d.mod = 1 ∧ Stands (fences wFenceTile) si 0 d ∧ HasUnits (fences wFenceTile) si 0 d ∧
      LeftOfFence (fences wFenceTile) si 0 ≠ [] ∧ (StreamOf (fences wFenceTile) si 0).pc < 0x18000000) ∧
    (let d := Desc.ofNat wFence; ControlAs (.fenceStream si) si d ∧ d.opcode = 0x52 ∧ d.mod ≠ 1 ∧ Stands (fences wFence) si 0 d ∧
      ¬ FenceHolds (fences wFence) si 0 d) := by
  unfold HasUnits FenceHolds
  refine ⟨⟨by decide +kernel, by decide +kernel, ?_, by decide +kernel, by decide +kernel, by decide +kernel⟩,
    by simp only [ControlAs, reduceCtorEq, false_and, true_and, or_false]; decide +kernel, by decide +kernel, by decide +kernel, ?_, by decide +kernel⟩ <;>
  constructor <;> decide +kernel
theorem witness_ControlStepsPassBy : ∀ p ∈ [(Instr.fenceStream si, wFence), (.loop si, wLoop), (.endStep si, wEnd)], let d := Desc.ofNat p.2;
    ControlAs p.1 si d ∧ Stands (runs p.2) si 0 d ∧ HasUnits (runs p.2) si 0 d ∧ FenceHolds (runs p.2) si 0 d ∧
    (d.opcode ≠ 0x60 → d.opcode ≠ 0x7F → NextClear (StreamOf (runs p.2) si 0)) ∧
    (d.opcode = 0x60 → (StreamOf (runs p.2) si 0).pc + 32 < 0x18000000 ∧ (StreamOf (runs p.2) si 0).poisonAt ((StreamOf (runs p.2) si 0).pc + 32) = none) ∧
    (d.sen = true → (((Took (runs p.2) si 0 d).site 0).sems[d.ssem]).toNat + 1 ≤ 0xFFFF) := by
  intro p hp
  simp only [List.mem_cons, List.not_mem_nil, or_false] at hp
  unfold HasUnits FenceHolds NextClear
  obtain rfl | rfl | rfl := hp <;>
  refine ⟨by simp only [ControlAs, reduceCtorEq, false_and, true_and, or_false]; decide +kernel, ?_, by decide +kernel, by decide +kernel, by decide +kernel, by decide +kernel, by decide +kernel⟩ <;> constructor <;> decide +kernel

theorem witness_StepsWithoutTheirUnitsWait : let d := Desc.ofNat wNopTake;
    ControlAs (.nop si) si d ∧ FenceHolds (runs wNopTake) si 0 d ∧ Stands (runs wNopTake) si 0 d ∧ (StreamOf (runs wNopTake) si 0).granted = false ∧
    (((runs wNopTake).d.fab.site 0).sems[d.wsem]).toNat < takeUnits d := by
  unfold FenceHolds
  refine ⟨by simp only [ControlAs, reduceCtorEq, false_and, true_and, or_false]; decide +kernel, by decide +kernel, ?_, by decide +kernel, by decide +kernel⟩
  constructor <;> decide +kernel

theorem witness_BadDescriptorsFaultTheStream :
    (let d := Desc.ofNat (wCopy + 2 ^ 21);
      StepsAs (.copy si) si d ∧ (runs (wCopy + 2 ^ 21)).d.mayIssue 48 = true ∧ (runs (wCopy + 2 ^ 21)).d.fab.siteOf 48 = some 0 ∧
      (StreamOf (runs (wCopy + 2 ^ 21)) si 0).nextDesc = some d ∧ issueCause (StreamOf (runs (wCopy + 2 ^ 21)) si 0) d ≠ none ∧
      (usesColumn d = true → ((runs (wCopy + 2 ^ 21)).d.fab.col 0).phase = .ready) ∧ (Struck (runs (wCopy + 2 ^ 21)) si 0).sendHeld 0 48 d = false) ∧
    (let d := Desc.ofNat 0x99;
      opKnown d = false ∧ (runs 0x99).d.mayIssue 48 = true ∧ (StreamOf (runs 0x99) si 0).nextDesc = some d ∧ issueCause (StreamOf (runs 0x99) si 0) d ≠ none) := by
  refine ⟨⟨by simp only [StepsAs, reduceCtorEq, false_and, true_and, or_false, false_or]; decide +kernel, by decide +kernel⟩, by decide +kernel⟩

/-- A step at `up` with scratch of its own. -/
def at0 (w : Nat) (scratch : List (Nat × Byte)) : StepCtx :=
  let f := { fab0 with sites := [(0, { site0 with scratch := scratch.map (fun p => (p.1, withParity p.2)) })], kvRegion := [(48, some (0, 0x10000))] }
  { e := up.env, f := f, x := 0, t := 48, st := 0, d := Desc.ofNat w, off := 0 }
def bytesAt (a : Nat) (l : List Byte) : List (Nat × Byte) := l.zipIdx.map (fun p => (a + p.2, p.1))

theorem witness_VectorElements :
    ∀ m ∈ [0, 1, 2, 3, 4, 5, 6, 7, 8, 9, 10, 11, 0x10, 0x17, 0x2A, 0x2B, 0x38], let c := at0 (wCopy + m * 2 ^ 24 + 0x3000 * 2 ^ 128 + 4 * 2 ^ 224) [];
      c.d.opcode = 0x20 ∧ c.d.mod = m ∧ c.site.checkReads (VecReads c) true = none := by decide +kernel
theorem witness_VectorReductions :
    (∀ m ∈ [0x20, 0x21, 0x22, 0x28, 0x29, 0x30, 0x31], let c := at0 (wCopy + m * 2 ^ 24 + 0x3000 * 2 ^ 128 + 4 * 2 ^ 224) [];
      c.d.opcode = 0x20 ∧ c.d.mod = m ∧ c.site.checkReads (VecReads c) true = none) ∧
    (let c := at0 (wCopy + 0x30 * 2 ^ 24) [];
      (cvt c.rd c.d.fa c.d.fd c.d.ae5 (Rnd.ofField c.d.rnd) c.d.sa.toNat c.d.sd.toNat c.d.len c.d.k c.d.imm).invalid = none) ∧
    (let c := at0 (wCopy + 0x30 * 2 ^ 24 + 4 * 2 ^ 224 + 14 * 2 ^ 240) (bytesAt 0x1000 [0xFF]);
      (cvt c.rd c.d.fa c.d.fd c.d.ae5 (Rnd.ofField c.d.rnd) c.d.sa.toNat c.d.sd.toNat c.d.len c.d.k c.d.imm).invalid ≠ none) := by decide +kernel

def wMat (fa : Nat) : Nat := 0x10 + 0x1000 * 2 ^ 96 + 0x8000 * 2 ^ 128 + 0x10000 * 2 ^ 160 + 2 ^ 192 + 2 ^ 208 + 64 * 2 ^ 224 + fa * 2 ^ 240 + fa * 2 ^ 244
def scaleOf (c : StepCtx) : List (Nat × Byte) := bytesAt (c.d.sa.toNat + matmulABytes c.d - 64) (leBytes 4 0x3F800000) ++
  bytesAt (c.d.sb.toNat + matmulBBytes c.d - 64) (leBytes 4 0x3F800000)
/-- No byte that the array reads has a parity error or poison. -/
def Clean (c : StepCtx) : Prop :=
  (∀ p ∈ c.site.scratch, parityBad p.2 = true → matKeys c.d p.1 = []) ∧ c.site.poison = []
theorem witness_RowAndMatrixResults :
    (at0 (0x01 + 2 ^ 80) []).d.opcode = 0x01 ∧
    (let c := at0 (0x02 + 2 ^ 80 + 0x1000 * 2 ^ 96) []; c.d.opcode = 0x02 ∧ c.site.checkReads [(c.d.sa.toNat, 1024 * c.d.count)] false = none) ∧
    (let c := at0 (0x03 + 0x80 * 2 ^ 24 + 64 * 2 ^ 192) [];
      c.d.opcode = 0x03 ∧ c.d.mod % 8 = 0 ∧ 128 ≤ c.d.mod ∧ c.site.checkReads [(c.d.sa.toNat, c.d.len)] false = none) ∧
    (let c := at0 (0x03 + 0x83 * 2 ^ 24 + 2 * 2 ^ 192 + 2 * 2 ^ 224 + 2 * 2 ^ 240) [];
      c.d.opcode = 0x03 ∧ c.d.mod % 8 ≠ 0 ∧ 128 ≤ c.d.mod ∧ c.site.checkReads [(c.d.sa.toNat, layoutSrcBytes c.d)] true = none ∧
        (skewOut c.rd c.d c.d.sa.toNat).invalid = none) ∧
    (let c := at0 (wMat 2) []; c.d.opcode = 0x10 ∧ tensorScalesOk c.rd c.d = true ∧ matInvalid c.rd c.d = none ∧ Clean c) ∧
    (let c := at0 (wMat 12) []; c.d.opcode = 0x10 ∧ tensorScalesOk c.rd c.d = false ∧ Clean c) ∧
    (let c := at0 (wMat 14) (bytesAt 0x1000 (List.replicate 8 0xFF)); c.d.opcode = 0x10 ∧ tensorScalesOk c.rd c.d = true ∧ matInvalid c.rd c.d ≠ none ∧ Clean c) ∧
    (let c := at0 (wMat 2) []; c.d.opcode = 0x10 ∧ (firstMatBad (matBads { c.site with scratch := [(0x1000, 1)] } c.d)).isSome = true) := by
  unfold Clean; decide +kernel

/-- A step at `up` whose column is c. -/
def atCol (w : Nat) (scratch : List (Nat × Byte)) (v : Column) : StepCtx :=
  let c := at0 w scratch; { c with f := { c.f with cols := [(0, v)] } }
def kvHdr (kvf pos0 count : Nat) : BitVec 512 := bytesSector (PageHeader.mk 0 pos0 kvf count 0 0).toBytes
/-- ATTEND of one query row over one entry of one token: query block at 0x1000, page list at 0x2000, results at 0x3000. -/
def wAtt (mod fd : Nat) : Nat :=
  0x18 + mod * 2 ^ 24 + 2 ^ 80 + 0x1000 * 2 ^ 96 + 0x2000 * 2 ^ 128 + 0x3000 * 2 ^ 160 + 0x10001 * 2 ^ 192 + 64 * 2 ^ 224 +
    2 * 2 ^ 240 + 2 * 2 ^ 244 + fd * 2 ^ 248
def qHdr : List (Nat × Byte) := bytesAt 0x1000 (leBytes 4 0x3F800000 ++ leBytes 2 1)
/-- The walk of a step's page list. -/
def walk (c : StepCtx) : PageWalk :=
  ((List.range c.d.count).map (fun i => PageEntry.ofNat (rdLe c.rd (c.d.sb.toNat + 8 * i) 8))).zipIdx.foldl
    (fun w p => takeEntry c (QueryHeader.read c.rd c.d.sa.toNat) (p.2 + 1 == c.d.count) w p.1) { f := c.f, pages := [], rows := [], bad := none }
def attGoes (c : StepCtx) (pos : List Nat) : Prop :=
  let d := c.d; let h := QueryHeader.read c.rd d.sa.toNat
  c.site.checkReads [(d.sa.toNat, 64)] true = none ∧ h.nq ≤ 256 ∧ c.site.checkReads [(d.sa.toNat + 64, 4 * h.nq)] true = none ∧
  attHeaderOk d h pos = true ∧ rdRangeOk d.sa (qBlockBytes d h.nq) = true ∧ wrRangeOk d.sd (attDBytes d h.nq) = true ∧
  overlaps d.sd.toNat (attDBytes d h.nq) d.sa.toNat (qBlockBytes d h.nq) = false ∧
  overlaps d.sd.toNat (attDBytes d h.nq) d.sb.toNat (8 * d.count) = false ∧
  c.site.checkReads [(d.sa.toNat, qBlockBytes d h.nq), (d.sb.toNat, 8 * d.count)] true = none

theorem witness_AttentionResults :
    (∀ p ∈ [(0, 2), (1, 0)], let c := atCol (wAtt p.1 p.2) qHdr ((col0.putSector 0 (kvHdr 1 0 1) false).putSector 256 (kvHdr 1 0 1) false);
      c.d.opcode = 0x18 ∧ attOut c.d ≠ 2 ∧ attGoes c [0] ∧ (walk c).bad = none ∧ (walk c).pages ≠ []) ∧
    (let c := at0 (wAtt 0 2) qHdr;
      c.d.opcode = 0x18 ∧ attOut c.d ≠ 2 ∧ attGoes c [0] ∧ (walk c).bad = some (.badField, none)) ∧
    (let c := at0 (wAtt 2 2) (bytesAt 0x1000 (leBytes 4 0 ++ leBytes 2 1)); let d := c.d; let h := QueryHeader.read c.rd d.sa.toNat;
      d.opcode = 0x18 ∧ attOut d = 2 ∧ c.site.checkReads [(d.sa.toNat, 64)] true = none ∧ attHeaderOk d h [] = true ∧
      rdRangeOk d.sa (mergeBytes d h.nq) = true ∧ wrRangeOk d.sd (attDBytes d h.nq) = true ∧
      overlaps d.sd.toNat (attDBytes d h.nq) d.sa.toNat (mergeBytes d h.nq) = false ∧
      c.site.checkReads [(d.sa.toNat, mergeBytes d h.nq)] true = none) := by
  unfold attGoes; decide +kernel

/-- A near-bank operation on one row of eight BF16 elements, or of LEN. -/
def wDram (mod len : Nat) : Nat :=
  0x30 + mod * 2 ^ 24 + 2 ^ 80 + 0x1000 * 2 ^ 96 + 0x2000 * 2 ^ 128 + 0x3000 * 2 ^ 160 + len * 2 ^ 192 + 2 * 2 ^ 240 + 2 * 2 ^ 248
theorem witness_NearBankResults :
    (∀ m ∈ [1, 6, 7], let c := at0 (wDram m 8) []; c.d.opcode = 0x30 ∧ c.d.mod = m) ∧
    (let c := at0 (wDram 2 8) []; let rs := (c.f.readRows c.e c.x 3 (rowsFrom c.d.addr c.d.count)).2;
      c.d.opcode = 0x30 ∧ c.d.mod = 2 ∧ c.site.checkReads [(c.d.sa.toNat, srcBytes c.d.fa c.d.count c.d.len), (c.d.sb.toNat, 4)] false = none ∧
      rs.length = c.d.count ∧ 0 < c.d.count ∧ ∀ r ∈ rs, ∀ q ∈ r, q.poison = false) ∧
    (∀ a : Nat, ((at0 (wDram 2 8) []).site).blockPoison a = false) ∧
    (∀ n ∈ [0, 64], let c := at0 (wDram 4 n) [];
      c.d.opcode = 0x30 ∧ c.d.mod = 4 ∧ (c.d.len = 64 → c.site.checkReads [(c.d.sa.toNat, 64)] false = none) ∧ c.site.blockPoison c.d.sa.toNat = false) ∧
    (let c := at0 (wDram 6 8) []; let rs := (c.f.readRows c.e c.x 3 (rowsFrom c.d.addr c.d.count)).2;
      rs.length = 1 ∧ ∀ r ∈ rs, ∀ i < c.d.len, (rowElem c.d.fa r i).isNaN = false ∧ (rowElem c.d.fa r i).isInf = false) := by
  refine ⟨by decide +kernel, by decide +kernel, fun a => rfl, by decide +kernel, by decide +kernel⟩

/-- SEND of 64 bytes to peer entry 0; SAMPLE of two rows of four FP32 logits. -/
def wSend : Nat := 0x40 + 0x1000 * 2 ^ 96 + 0x3000 * 2 ^ 160 + 64 * 2 ^ 192
def wSample : Nat := 0x48 + 2 * 2 ^ 80 + 0x1000 * 2 ^ 96 + 0x2000 * 2 ^ 128 + 4 * 2 ^ 192
/-- A SEND whose peer entry 0 is e, with the tiles of its cluster absent; East is fenced or not. -/
def sendAt (e : BitVec 16) (fence : Bool) : StepCtx :=
  let c := at0 wSend []
  let cl := { ClusterSt.init with siteOf := Vector.replicate 16 none }
  { c with f := { c.f with sites := [(0, { site0 with peers := site0.peers.set 0 e })], fenced := (c.f.fenced).set 1 fence, clusters := [(3, cl)] } }
def words (c : StepCtx) : List Nat := (List.range c.d.count).map (fun i => rdLe c.rd (c.d.sb.toNat + 2 * i) 2)
def rowReads (c : StepCtx) : List (Nat × Nat) :=
  ((words c).zipIdx.filter (fun p => p.1 != 0xFFFF)).map (fun p => (c.d.sa.toNat + p.2 * sampleStride c.d, c.d.len * bytesOf c.d.fa))
def sampleAt (l : List Byte) : StepCtx := at0 wSample (bytesAt 0x2000 l)
theorem witness_MessageStepResults :
    (sendAt 0x8030 false).d.opcode = 0x40 ∧ ((sendAt 0x8030 false).site.peers[0]).toNat = 0x8030 ∧ ((sendAt 0 false).site.peers[0]).toNat = 0 ∧
    (sendAt 0x8030 false).site.checkReads [(0x1000, 64)] true = none ∧
    sendPeer (Desc.ofNat wSend) = 0 ∧ (Desc.ofNat wSend).sa.toNat = 0x1000 ∧ (Desc.ofNat wSend).len = 64 ∧
    ((at0 wSend []).f.siteOf 48 ≠ none ∧ (sendAt 0x8031 false).f.siteOf 49 = none ∧ (sendAt 0x8031 false).f.fenced[tileHalf 49] = false) ∧
    ((sendAt 0x8130 true).f.fenced[tileHalf 304] = true ∧ tileHalf 304 ≠ tileHalf (sendAt 0x8130 true).t) ∧
    (∀ l ∈ ([[0xFF, 0xFF, 0, 0x20], [0, 1, 0xFF, 0xFF]] : List (List Byte)), (sampleAt l).d.opcode = 0x48 ∧
      (sampleAt l).site.checkReads [((sampleAt l).d.sb.toNat, 2 * (sampleAt l).d.count)] true = none ∧
      (sampleAt l).site.checkReads [(0x1000, 16)] true = none ∧ (sampleAt l).site.checkReads [(0x1040, 16)] true = none) ∧
    rowReads (sampleAt [0, 1, 0xFF, 0xFF]) = [(0x1000, 16)] ∧ words (sampleAt [0xFF, 0xFF, 0, 0x20]) = [0xFFFF, 0x2000] ∧ words (sampleAt [0, 1, 0xFF, 0xFF]) = [0x100, 0xFFFF] ∧
    (∀ w ∈ [wSignal], (at0 w []).d.opcode = 0x51) := by
  and_intros <;> decide +kernel

/-- KV_APPEND of one BF16 or E4M3 token of 64 elements to page 0, with the hint 1.0 and position 0. -/
def wAppend (fd : Nat) : Nat :=
  0x30 + 5 * 2 ^ 24 + 2 ^ 80 + 0x1000 * 2 ^ 96 + 0x2000 * 2 ^ 128 + 64 * 2 ^ 192 + 2 * 2 ^ 240 + fd * 2 ^ 248
theorem witness_GatherAndAppendResults :
    (let c := at0 (wDram 3 64) (bytesAt 0x1000 (leBytes 4 7));
      c.d.opcode = 0x30 ∧ c.d.mod = 3 ∧ c.d.count = 1 ∧ c.d.len / 64 = 1 ∧ c.site.checkReads [(c.d.sa.toNat, 4 * c.d.count)] true = none ∧
      ∀ i < c.d.count, rdLe c.rd (c.d.sa.toNat + 4 * i) 4 < 2 ^ 19 ∧ c.d.addr.toNat / 1024 + rdLe c.rd (c.d.sa.toNat + 4 * i) 4 < 393216) ∧
    (∀ fd ∈ [2, 3], let c := at0 (wAppend fd) (bytesAt 0x2000 (leBytes 4 0x3F800000)); let d := c.d; let page := d.addr.toNat / 16384;
      let hint := rdLe c.rd d.sb.toNat 4; let pw := rdLe c.rd (d.sb.toNat + 4) 4; let pr := (readPage c.f c.e c.x 3 page 16384).2;
      let h := PageHeader.ofBytes pr.bytes;
      d.opcode = 0x30 ∧ d.mod = 5 ∧ c.site.checkReads [(d.sb.toNat, 8)] false = none ∧
      c.site.checkReads [(d.sa.toNat, srcBytes d.fa d.count d.len)] false = none ∧ pw < 2 ^ 20 ∧ (d.fd = .e4m3 → posNormal32 hint = true) ∧
      pw + d.count ≤ 1048576 ∧ pr.firstPoison c page 64 = none ∧ (h.kvf = 0 ∨ h.kvf = if d.fd = .e4m3 then 2 else 1) ∧
      (h.kvf = 2 → h.count ≠ 0 → posNormal32 h.scale = true) ∧ h.count + d.count ≤ tokensPerPage d.len (kvBytes d.fd) ∧ pw = h.pos0 + h.count) := by
  decide +kernel

/-- The site is at row 0, held, or in the hole. -/
def atHole : State := withStream (fun _ => { running wCopy with pc := 0x18000000 })
theorem witness_DescriptorRowsAreFetched : (∀ s ∈ [runs wCopy, withStream (fun v => { v with state := .waiting }), atHole],
      s.d.engineOn 48 = true ∧ s.d.fab.siteOf 48 = some 0 ∧ ((StreamOf s si 0).state = .running ∨ (StreamOf s si 0).state = .waiting) ∧
      (StreamOf s si 0).ending = false ∧ (s.d.fab.col 0).phase = .ready) ∧
    (withStream (fun v => { v with state := .waiting })).d.engineOn 48 = true ∧ (StreamOf (runs wCopy) si 0).poisonAt 0 = none ∧
    (StreamOf atHole si 0).state = .running ∧ 0x18000000 ≤ (StreamOf atHole si 0).pc := by decide +kernel
theorem witness_StepsStayOnTheirSite : ((∃ d : Desc, StepsAs (.copy si) si d ∨ ControlAs (.copy si) si d) ∨ Instr.copy si = .descriptorFetch si) ∧
    up.d.fab.siteOf 48 = some 0 ∧ (sendAt 0 false).f.siteOf 48 = none :=
  ⟨.inl ⟨Desc.ofNat wCopy, .inl (by simp only [StepsAs, reduceCtorEq, false_and, true_and, false_or]; decide +kernel)⟩, by decide +kernel⟩

def inFlight (l : List StepRec) : State := withStream (fun v => { v with state := .running, steps := l })
theorem witness_StepCompletionMakesWritesVisible :
    (∀ k ∈ [StepKind.plain, .matmul 0 1 1, .signal 2 5], let s := inFlight [stepRec k]; let v := (s.d.fab.site 0).stream 0;
      s.d.fab.siteOf 48 = some 0 ∧ v.steps.find? (fun q => q.id = 3) = some (stepRec k) ∧ (∀ q ∈ v.steps, 3 ≤ q.id) ∧
      ∀ m : StreamId, ((s.d.fab.site 0).stream m).want = none) ∧
    (let v := ((inFlight []).d.fab.site 0).stream 0; v.steps.find? (fun q => q.id = 3) = none) ∧
    (let e : StepRec := { stepRec .plain with id := 2 }; let v := ((inFlight [e, stepRec (.signal 2 5)]).d.fab.site 0).stream 0;
      v.steps.find? (fun q => q.id = 3) = some (stepRec (.signal 2 5)) ∧ ∃ q ∈ v.steps, q.id < 3) := by decide +kernel
/-- A stream at its END with SEN, or with work left. -/
def ends (g : Stream → Stream) : State := withStream (fun v => g { v with state := .running, ending := true, endSen := some 4 })
theorem witness_EndCompletionReports :
    (let s := ends id; let v := (s.d.fab.site 0).stream 0;
      s.d.fab.siteOf 48 = some 0 ∧ v.state = .running ∧ v.ending = true ∧ v.steps = [] ∧ v.sends = [] ∧ v.slices = 0 ∧ v.endSen = some 4 ∧
      ((s.d.fab.site 0).sems[4]).toNat + 1 ≤ 0xFFFF ∧ ∀ m : StreamId, ((s.d.fab.site 0).stream m).want = none) ∧
    (let s := ends (fun v => { v with slices := 1 }); s.d.fab.siteOf 48 = some 0 ∧ ((s.d.fab.site 0).stream 0).slices ≠ 0) := by decide +kernel
/-- A stream that waits since tick 0, at a tick count, with a timeout register. -/
def waits (now reg : Nat) : State :=
  let s := withStream (fun v => { v with state := .waiting, want := some (1, 1) })
  { s with time := { s.time with ticks := now }, d := { s.d with regs := [(0xC00100 + 0x8000 * 48, reg)] } }
theorem witness_SemaphoreWaitsTimeOut : (∀ p ∈ [(1000, 7), (1000, 1000), (10000000, 4000000000), (999, 7), (5, 0)], let s := waits p.1 p.2;
      s.d.fab.siteOf 48 = some 0 ∧ ((s.d.fab.site 0).stream 0).state = .waiting ∧ ((s.d.fab.site 0).stream 0).waitFrom = 0 ∧ s.d.reg s.fuse (0xC00000 + 0x8000 * 48 + 0x100) = p.2 ∧
      missedOf s.time (.stepEngine 0) = 0 ∧ s.time.ticks = p.1) ∧ clampN 1000 10000000 7 = 1000 ∧ clampN 1000 10000000 4000000000 = 10000000 := by
  decide +kernel
def sendRec (id : Nat) : SendRec := { id := id, peer := 49, dst := 128, data := [1, 2, 3], dsem := some 6, off := 0 }
/-- Sites 0 and 1 carry tiles 48 and 49; tile 48 has these SENDs under way. -/
def sending (l : List SendRec) : State :=
  withFab (fun f => { f with sites := [(0, { site0 with streams := site0.streams.set 0 { Stream.init with sends := l } }), (1, site0)] })
def absent49 (s : State) : State := { s with d := { s.d with fab := { s.d.fab with clusters := [(3, { ClusterSt.init with siteOf := ClusterSt.init.siteOf.set 1 none })] } } }
theorem witness_SendsArriveInOrder :
    (let s := sending [sendRec 1]; let v := (s.d.fab.site 0).stream 0;
      s.d.fab.siteOf 48 = some 0 ∧ v.sends.find? (fun q => q.id = 1) = some (sendRec 1) ∧ (∀ q ∈ v.sends, q.peer = 49 → 1 ≤ q.id) ∧
      (s.d.fab.siteOf 49 = some 1 ∧ s.d.fab.holding 49 = false ∧ (s.d.fab.site 1).ready = true) ∧ tileHalf 49 = tileHalf 48 ∧ (0 : SiteIx) ≠ 1 ∧
      ((s.d.fab.site 1).sems[6]).toNat + 1 ≤ 0xFFFF ∧ ∀ m : StreamId, ((s.d.fab.site 1).stream m).want = none) ∧
    (let v := ((sending [sendRec 1, sendRec 2]).d.fab.site 0).stream 0;
      v.sends.find? (fun q => q.id = 2) = some (sendRec 2) ∧ sendRec 1 ∈ v.sends ∧ (sendRec 1).peer = (sendRec 2).peer ∧ (sendRec 1).id < 2) ∧
    (let s := absent49 (sending [sendRec 1]); let v := (s.d.fab.site 0).stream 0;
      s.d.fab.siteOf 48 = some 0 ∧ v.sends.find? (fun q => q.id = 1) = some (sendRec 1) ∧ s.d.fab.siteOf 49 = none) := by decide +kernel

/-- Stream 1 waits for the reload of block 2, which names row 5. -/
def reloads : State := withSite (fun s => { s with
  streams := s.streams.set 1 { Stream.init with state := .running, refetch := some { block := 2, row := 5, off := 0 } } })
/-- A checked MATMUL of stream 0 is in the array, and is being replayed or not. -/
def wronged (replay : Option (StreamId × Nat)) : State := withSite (fun s => { s with
  streams := s.streams.set 0 { Stream.init with state := .running, steps := [{ stepRec .plain with id := 1 }, stepRec (.matmul 8 64 64)] }
  arr := { s.arr with queue := [{ stream := 0, id := 3, mod := 8, live := true }], shape := 0, replay := replay } })
theorem witness_ReloadsAndReplays :
    (reloads.d.fab.siteOf 48 = some 0 ∧ ((reloads.d.fab.site 0).stream 1).refetch = some { block := 2, row := 5, off := 0 } ∧
      ∀ m : StreamId, m < 1 → ((reloads.d.fab.site 0).stream m).refetch = none) ∧
    ((up.d.fab.siteOf 48 = some 0) ∧ ∀ m : StreamId, ((up.d.fab.site 0).stream m).refetch = none) ∧
    (∀ p ∈ [(none, false), (some ((0 : StreamId), 3), true)], (wronged p.1).d.fab.siteOf 48 = some 0 ∧
      ((wronged p.1).d.fab.site 0).arr.checked = some { stream := 0, id := 3, mod := 8, live := true } ∧ [(0 : Fin 64), 63] ≠ [] ∧
      (p.2 = true ↔ ((wronged p.1).d.fab.site 0).arr.replay = some (0, 3))) ∧
    (up.d.fab.site 0).arr.checked = none := by
  and_intros <;> decide +kernel
theorem witness_ScratchBytesKeepParity :
    (let v : Site := { site0 with scratch := [(2048, 1)] }; v.checkReads [(2048, 1)] false = some (.parity 2048)) ∧
    (let v : Site := { site0 with scratch := [(2048, 1)], tags := [(2, 1)] }; v.checkReads [(2000, 49)] false = some (.refetch 2)) := by decide +kernel
/-- A cut-over of tile 48 to the spare site, quiescing with a step in flight or not, or copying. -/
def cuts (p : CutPhase) (l : List StepRec) : State :=
  let s := inFlight l; { s with d := { s.d with fab := { s.d.fab with cut := s.d.fab.cut.set 0 (some { tile := 48, src := 0, dst := 16, phase := p }) } } }
theorem witness_MeshSwitchesAndCutOver :
    (let s := withFab (fun f => { f with clusters := [(3, { ClusterSt.init with laneFails := ClusterSt.init.laneFails.set 1 2 })], switching := f.switching.set 1 true });
      2 < (s.d.fab.cluster 3).laneFails[1] + 1 ∧ (s.d.fab.cluster 3).columnFirst = false ∧ s.d.fab.switching[1] = true ∧ s.d.fab.switching[0] = false) ∧
    ((up.d.fab.cluster 3).laneFails[1] + 1 ≤ 2) ∧
    (∀ l ∈ [[], [stepRec .plain]], let s := cuts .quiescing l; ∃ k, s.d.fab.cut[0] = some k ∧ k.phase = .quiescing ∧ ((s.d.fab.site k.src).stream 0).steps = l) ∧
    up.d.lkkRuns = true ∧ (let s := withFab (fun f => { f with switching := f.switching.set 1 true }); s.d.fab.switching[1] = true ∧ s.d.fab.meshEmpty 1 = true) ∧
    (let s := cuts .copying []; s.d.lkkRuns = true ∧ ∃ k, s.d.fab.cut[0] = some k ∧ k.phase = .copying ∧ s.d.lkk.mig[0].state ≠ .cutover ∧ k.src ≠ k.dst ∧ tget s.d.fab.held [] k.tile.val = []) ∧
    (let s := withSite (fun v => { v with ready := false }); s.d.siteOn 0 = true ∧ s.d.codeLoaded 0 = true ∧ (s.d.fab.site 0).ready = false ∧
      ∀ t : TileId, s.d.fab.tileOf 0 = some t → tget s.d.fab.held [] t.val = []) := by
  refine ⟨by decide +kernel, by decide +kernel, ?_, by decide +kernel, by decide +kernel, ⟨by decide +kernel, _, rfl, by decide +kernel⟩,
    by decide +kernel, by decide +kernel, by decide +kernel, ?_⟩
  · intro l h
    simp only [List.mem_cons, List.not_mem_nil, or_false] at h
    obtain rfl | rfl := h <;> exact ⟨_, rfl, by decide +kernel, by decide +kernel⟩
  · intro t h; rfl

def prm (n : Nat) : ArmParams := { nslice := n, method := 0, tempFactor := 0x3F800000, topK := 0, topP := 0, minP := 0, nalt := 0, key := 0, counter := 0 }
def slice (base z : Nat) : Slice := { tile := 48, stream := 0, slot := 9, vocabBase := base, logits := [0, z] }
def kept (base : Nat) : KeptSlice := { base := base, count := 1, max := 0, sum := 0, top := [] }
/-- The sampler of cluster 3 with slot 9 armed for n slices and holding l, and a slice under way; the engine waits to arm slot 255. -/
def sampling (n : Nat) (l : List KeptSlice) (q : Slice) : State :=
  withDev (fun d => { d with
    svc := { d.svc with arms := [(3, 255, prm 1)] }
    fab := { d.fab with samplers := [(3, { slots := [(9, some { params := prm n, slices := l })], discarded := 0, inflight := [q], flim := 0 })] }
    pwr := { d.pwr with doms := [(0, { DomSt.init with state := .on }), (16, { DomSt.init with state := .on }), (17, { DomSt.init with state := .on }), (67, { DomSt.init with state := .on })] } })
theorem witness_SamplersTakeSlices :
    ((sampling 2 [] (slice 0 0)).d.samplerOn 3 = true ∧ (sampling 2 [] (slice 0 0)).d.svc.arms.find? (fun q => q.1 == 3 && q.2.1 == 255) = some (3, 255, prm 1)) ∧
    (∀ s ∈ [sampling 2 [] (slice 0 0), sampling 2 [kept 8] (slice 0 0), sampling 1 [kept 8] (slice 0 0), sampling 2 [kept 8] (slice 8 0), sampling 2 [] (slice 0 0x7F800000)],
      s.d.samplerOn 3 = true ∧ ((s.d.fab.sampler 3).inflight[0]?).isSome = true ∧ ((s.d.fab.sampler 3).slot 9).isSome = true ∧ (s.d.fab.sampler 3).slot 0 = none) ∧
    notFinite 0 = false ∧ notFinite 0x7F800000 = true ∧ [kept 8].length = (prm 1).nslice ∧ [kept 8].length < (prm 2).nslice ∧ (kept 8).base = 8 ∧
    (up.d.tileTakes 48 = true ∧ up.d.fab.siteOf 48 = some 0) := by
  and_intros <;> decide +kernel
theorem witness_TileCountersReadAndClear : up.d.tileTakes 48 = true ∧ up.d.fab.siteOf 48 = some 0 ∧ (1 : FuncId) ≠ 0 ∧
    (withFab (fun f => { f with halfUp := Vector.replicate 2 false })).d.tileTakes 48 = false := by decide +kernel
theorem witness_BasinCountersReadAndClear : (1 : FuncId) ≠ 0 ∧ up.d.sees 0 5 = true ∧ up.d.sees 200 5 = false := by decide +kernel
theorem witness_RegisterWritesByTheMap :
    up.d.funcOn 0 = true ∧ up.d.funcOn 200 = false ∧ (∃ r, plainReg 0x500008 = some r ∧ r.off = 0x500008) ∧ up.d.tileTakes 48 = true ∧
    (withFab (fun f => { f with halfUp := Vector.replicate 2 false })).d.tileTakes 48 = false ∧
    (let s := withDev (fun d => { (d.setGroup 0 { d.group 0 with gstate := 1 }).setQp 0 { d.qp 0 with rcd := 1 } with
        host := { d.host with ctxs := [(0, { Ctx.init with phase := .active })] } });
      (s.d.ctx 0).phase ≠ .disabled ∧ (s.d.group 0).gstate ≠ 0 ∧ (s.d.qp 0).state ≠ 0) := by
  refine ⟨by decide +kernel, by decide +kernel, ⟨_, rfl, rfl⟩, by decide +kernel, by decide +kernel, by decide +kernel⟩

/-- A bank of a column with a due repair, and the states of its channel. -/
def rowReq (write : Bool) : RowReqRec := { cls := 1, ri := 5, mask := 0x8001, data := [1, 2], poison := false, write := write, fetch := false, stream := 0 }
theorem witness_ChannelTransfersAndRefresh :
    (∀ b ∈ [false, true], let s := withCol (fun c => { c with queue := [rowReq b] }); (s.d.fab.col 0).phase = .ready ∧
      (let c := (s.d.fab.col 0).admitReqs []; grant c = some { place := 0, rr := 1, stepRr := 0 } ∧ c.queue[0]? = some (rowReq b))) ∧
    grant (up.d.fab.col 0) = none ∧ (withCol (fun c => { c with phase := .down })).d.fab.col 0 = { col0 with phase := .down } ∧ (up.d.fab.col 0).phase ≠ .down ∧
    (tget up.d.fab.tempMsgs [] 0 = [] ∧ (tget (withFab (fun f => { f with tempMsgs := [(0, List.replicate 8 681)] })).d.fab.tempMsgs [] 0)[7]? = some 681) ∧
    (∀ n ∈ [999999, 1000000], let s := withCol (fun c => { c with layers := c.layers.set 7 { c.layers[7] with fast := true, coolSince := some 0, updated := 0 } });
      ((s.d.fab.col 0).layers[7]).coolSince = some 0 ∧ ((s.d.fab.col 0).layers[7]).updated = 0 ∧
      blockTicks ({ s.time with ticks := n } : Time) (.channelRoot 0) = n) := by
  and_intros <;> decide +kernel

/-- Every row spare of bank 0's group, or every column spare of a bank, is used. -/
def usedUp : State := withCol (fun c => { c with
  rowRep := (List.range 32).map (fun i => (32 * 0 + i, BitVec.ofNat 32 (i * 2 ^ 12 + 3 * 2 ^ 30))), colRep := (List.range 8).map (fun i => (i, BitVec.ofNat 32 (1 + i * 2 ^ 11 + 3 * 2 ^ 30))) })
def laneUp (bad : Nat) : State := withCol (fun c => { c with
  laneTests := [{ boundary := 7, group := 143, lane := 3 }], lanes := [(7 * 144 + 143, some { shifted := [], sparesBad := bad, dead := [] })] })
theorem witness_DredgerAndRepairs :
    (up.d.fab.col 0).phase = .ready ∧ (dredgeSlot up.env (up.d.fab.site 0).flim (blockTicks up.time (.channelRoot 0)) (up.d.fab.col 0)).isSome = true ∧
    (up.d.fab.col 0).hint = none ∧ (withCol (fun c => { c with hint := some 393215 })).d.fab.col 0 = { col0 with hint := some 393215 } ∧
    (withCol (fun c => { c with pos := 397311 })).d.fab.col 0 = { col0 with pos := 397311 } ∧
    ((up.d.fab.col 0).freeRowSpare 0 7).isSome = true ∧ (usedUp.d.fab.col 0).freeRowSpare 0 7 = none ∧
    ((up.d.fab.col 0).freeColSpare 0 7).isSome = true ∧ (usedUp.d.fab.col 0).freeColSpare 0 7 = none ∧ (up.d.fab.col 0).dual = none ∧
    (usedUp.d.fab.col 0).phase = .ready ∧
    (withCol (fun c => { c with dual := some (0, 7) })).d.fab.col 0 = { col0 with dual := some (0, 7) } ∧
    (∀ n ∈ [0, 1], ((laneUp n).d.fab.col 0).laneTests.find? (fun q => q.boundary = 7 && q.group = 143) = some { boundary := 7, group := 143, lane := 3 }) ∧
    1 < (((laneUp 0).d.fab.col 0).lane 7 143).sparesLeft ∧ (((laneUp 9).d.fab.col 0).lane 7 143).sparesLeft ≤ 1 := by
  and_intros <;> decide +kernel

theorem apart_plain (c : Column) (h : c.rowRep = []) : Apart c := by
  intro a b _ _ e
  have k : ∀ x : Nat, c.phys x = x := fun x => by unfold Column.phys Column.spareRow; rw [h]; rfl
  rwa [k, k] at e
theorem witness_ColumnsComeUpAndTheHostReachesThem :
    (∀ p ∈ [ColPhase.training, .filling, .reloading], ((withCol (fun c => { c with phase := p })).d.fab.col 0).phase = p) ∧ up.d.host.aptHeld = [] ∧
    up.d.colHolds 48 = false ∧ (withCol (fun c => { c with phase := .filling })).d.colHolds 48 = true ∧ up.d.fab.accessSite 48 = some 0 ∧
    (up.d.fab.mapValid = true ∧ inHole 0 4096 = false ∧ inHole 0x18000000 1 = true ∧ inHole 0x17FFFFFF 1 = false ∧
      up.d.fab.fenced[tileHalf (stackTile 0)] = false) ∧
    (withFab (fun f => { f with mapValid := false })).d.fab.mapValid = false ∧
    (stackOff (48 * 0x20000000) % 64 = 0 ∧ (List.replicate 64 (0 : Byte)).length % 64 = 0 ∧ stackTile (48 * 0x20000000) = 48 ∧ up.d.fab.siteOf 48 = some 0) ∧
    stackOff 32 % 64 ≠ 0 ∧ Apart (up.d.fab.col 0) := by
  refine ⟨?_, ?_, ?_, ?_, ?_, ?_, ?_, ?_, ?_, apart_plain _ rfl⟩ <;> decide +kernel

/-- An image of one GRAPH entry with one launch record, for v virtual tiles and SPAN or not, with its CRC given. -/
def pad (n : Nat) (l : List Byte) : List Byte := l ++ List.replicate (n - l.length) 0
def imgBody : List Byte := pad 0x40 (leBytes 32 (3 + 0x3FF * 2 ^ 8 + 0xC0 * 2 ^ 64 + 320 * 2 ^ 128)) ++ pad 320 (leBytes 8 (3 * 2 ^ 8 + 1 * 2 ^ 16 + 4 * 2 ^ 32))
def imgHead (v chk : Nat) : List Byte :=
  pad 0x80 (leBytes 84 (0x4D494C47 + 2 * 2 ^ 32 + 1 * 2 ^ 48 + 0x1234 * 2 ^ 64 + v * 2 ^ 128 + 16 * 2 ^ 160 + (1 + 2 ^ 8) * 2 ^ 192 + 512 * 2 ^ 512 +
    (255 + 255 * 2 ^ 8 + 2 ^ 16) * 2 ^ 576 + chk * 2 ^ 640))
def imgBytes (v chk : Nat) : List Byte := imgHead v chk ++ imgBody

/-- A fold over a byte string, 64 bytes at a time, with the value after each 64 given. -/
def foldSteps (g : Nat → Byte → Nat) (fin : Nat) : List Byte → Nat → List Nat → Bool
  | l, c, [] => l.isEmpty && c == fin
  | l, c, n :: ns => ((l.take 64).foldl g c == n) && foldSteps g fin (l.drop 64) n ns
theorem fold_of_steps (g : Nat → Byte → Nat) (fin : Nat) (ns : List Nat) : ∀ (l : List Byte) (c : Nat), foldSteps g fin l c ns = true → l.foldl g c = fin := by
  induction ns with
  | nil => intro l c h; simp [foldSteps] at h; simp [h]
  | cons n ns ih =>
    intro l c h
    simp only [foldSteps, Bool.and_eq_true, beq_iff_eq] at h
    rw [← List.take_append_drop 64 l, List.foldl_append, h.1, ih _ _ h.2]
def crcByte (c : Nat) (b : Byte) : Nat :=
  (List.range 8).foldl (fun c _ => if c % 2 = 1 then Nat.xor (c / 2) 0x82F63B78 else c / 2) (Nat.xor c b.toNat)
def crc64Byte (c : Nat) (b : Byte) : Nat :=
  (List.range 8).foldl (fun c _ => if 2 ^ 63 ≤ c then Nat.xor (c * 2 % 2 ^ 64) 0x42F0E1EBA9EA3693 else c * 2) (Nat.xor c (b.toNat * 2 ^ 56))
theorem crc64_eq (l : List Byte) : crc64 l = Nat.xor (l.foldl crc64Byte (2 ^ 64 - 1)) (2 ^ 64 - 1) := rfl
theorem crc32c_eq (l : List Byte) : crc32c l = Nat.xor (l.foldl crcByte 0xFFFFFFFF) 0xFFFFFFFF := rfl
def imgW : List Byte := imgBytes 1 2908870997
def imgS : List Byte := imgBytes 1025 1151484888
theorem imgW_ok : imageOk imgW (readImage imgW) = true := by
  have h : crc32c (imgW.take 0x50 ++ leBytes 4 0 ++ imgW.drop 0x54) = 2908870997 := by
    rw [crc32c_eq, fold_of_steps _ 1386096298 [3845081654, 3563215906, 3598990351, 105384052, 2182551752, 2595087726, 4239771283, 1386096298] _ _ (by decide +kernel)]; decide +kernel
  unfold imageOk; rw [h]; decide +kernel
theorem imgS_ok : imageOk imgS (readImage imgS) = true := by
  have h : crc32c (imgS.take 0x50 ++ leBytes 4 0 ++ imgS.drop 0x54) = 1151484888 := by
    rw [crc32c_eq, fold_of_steps _ 3143482407 [3705872823, 3509124091, 139970981, 909089638, 2313362875, 649214960, 2940083788, 3143482407] _ _ (by decide +kernel)]; decide +kernel
  unfold imageOk; rw [h]; decide +kernel
/-- An export image of two tokens, with one group of two pages. -/
def impHdr (crc : Nat) : List Byte := leBytes 32 (0x56454B47 + 2 ^ 32 + 2 * 2 ^ 128 + 2 ^ 192) ++ leBytes 4 crc ++ leBytes 28 0
def impImg (crc : Nat) : List Byte := impHdr crc ++ List.replicate 49088 0

def gen0 : GenReq := { ctx := 0, dsn := 6, prio := 1, method := 0, logprob := false, ignoreEos := false, holdKv := false, cont := false, reportEvery := 0, model := 0
                       nalt := 0, topK := 0, tag := 77, promptAddr := 0, promptLen := 4, maxNew := 8, outAddr := 0, temp := 0, topP := 0x3F800000, minP := 0, contSeq := 0
                       seed := 0, got := [], ready := true, since := 0, bump := 0 }
def seq0 : Seq := { gen := 3, ctx := 0, model := 0, phase := .held, kst := 1, tokens := 5, lastToken := 9, input := [], inputPos := 0, fed := 0, req := none, count := 0
                    prio := 1, order := 0, groups := [], lists := [], blocks := [], inLaunch := 0, ending := none, waitFrom := none, since := 0, bump := 0, exporting := false }
def entry0 (n kind : Nat) : Entry :=
  { num := n, kind := kind, maxBatch := 4, nslice := 1, inVt := 0, inOff := 0, inMax := 64, outVt := 0, outOff := 0, outMax := 64
    recs := [{ vtile := 0, stream := 0, start := 0, semClear := 0, template := List.replicate 192 0 }] }
def imgP : Image := { level := 2, id := 0, vtiles := 1, span := false, vocab := 16, layers := 1, heads := 1, dcode := 0, kv8 := false, eos := [], len := 0, prefill := 0, decode := 1
                      nentry := 3, layout := 0, sections := [] }
def model0 : ModelSlot := { ModelSlot.init with phase := .loaded, img := some imgP, entries := [entry0 0 1, entry0 1 2, entry0 2 3], bind := [48] }
def serving (v : Svc) : Svc := { v with models := [(0, model0)] }
def holding (q : Seq) (v : Svc) : Svc := { serving v with seqs := [(0, some q)] }
/-- Context 0 has fetched the descriptor w as its DSN 7. -/
def ctx7 (w : Nat) : Ctx := { Ctx.init with phase := .active, fetched := [(7, w)] }
def asks (w : Nat) (g : Svc → Svc) : State :=
  withDev (fun d => { d with host := { d.host with ctxs := [(0, ctx7 w)] }, svc := g d.svc })
theorem asks_next (w : Nat) (g : Svc → Svc) (h : ∀ m : ModelSlotId, ((asks w g).d.model m).op = none) : NextIs (asks w g) 0 7 w :=
  ⟨rfl, ⟨[], rfl, fun _ h => by cases h⟩, fun m o ho => by rw [h m] at ho; cases ho⟩
theorem serves (w : Nat) : ServesTokens (asks w serving) 0 := ⟨rfl, rfl, ⟨imgP, rfl, by decide⟩⟩
/-- The completion ring of context 0 has room, and its record can be written at once. -/
def Roomy (s : State) : Prop :=
  let v := s.d.ctx 0
  v.held = [] ∧ v.flushing = false ∧ 0 < v.cqFree ∧ s.d.canIssue v.func = true ∧ s.d.direct v.func = true ∧ 32 ≤ (s.d.cfg 0).mps ∧ v.cqBase % 32 = 0 ∧ bit v.cfg 0 = false
theorem asks_takes (w : Nat) (g : Svc → Svc) : TakesLevel (asks w g) 2 ∧ TakesLevel (asks w g) 1 ∧ ReadsNow (asks w g) 0 ∧ Roomy (asks w g) := by
  have h : ∀ l ∈ [1, 2], ((up.d.comp 3).active.all fun i => decide (i.descMin ≤ l ∧ l ≤ i.descN)) = true := by decide +kernel
  have k : ∀ l ∈ [1, 2], TakesLevel (asks w g) l := fun l hl i hi => by
    have hi : (up.d.comp 3).active = some i := hi
    have := h l hl; rw [hi] at this; simpa using this
  exact ⟨k 2 (by decide), k 1 (by decide), ⟨rfl, rfl⟩, rfl, rfl, (by decide +kernel : 0 < (ctx7 0).cqFree), rfl, rfl,
    (by decide +kernel : 32 ≤ (up.d.cfg 0).mps), rfl, (by decide +kernel : bit (ctx7 0).cfg 0 = false)⟩
/-- GENERATE for slot 0 with flags in [23:16], a level, a prompt length and CONT_SEQ. -/
def wGen (level flags plen cont : Nat) : Nat :=
  1 + level * 2 ^ 8 + flags * 2 ^ 16 + 77 * 2 ^ 64 + plen * 2 ^ 192 + 2 ^ 224 + 0x3F800000 * 2 ^ 352 + cont * 2 ^ 416

theorem witness_RingRequestsAreCheckedAndTaken :
    (∀ (w : Nat) (g : Svc → Svc), TakesLevel (asks w g) 2 ∧ TakesLevel (asks w g) 1 ∧ Roomy (asks w g)) ∧
    (∀ v ∈ [{ ctx7 5 with flushing := true }, { ctx7 5 with cqTail := 63 }], let s := withDev (fun d => d.setCtx 0 v);
      (s.d.ctx 0).flushing = true ∨ ((s.d.ctx 0).held = [] ∧ (s.d.ctx 0).cqFree = 0 ∧ bit (s.d.ctx 0).cfg 0 = false)) ∧
    NoLost (asks (wGen 2 0 4 0) serving) ∧ NoLost (asks (wGen 2 0x80 4 0x30000) (holding seq0)) ∧ NoLost (asks (6 + 2 * 2 ^ 8 + 2 * 2 ^ 24) serving) ∧
    (NextIs (asks (wGen 3 0 4 0) serving) 0 7 (wGen 3 0 4 0) ∧ fld (wGen 3 0 4 0) 7 0 = 1 ∧ fld (wGen 3 0 4 0) 15 8 ≠ 2 ∧ fld (wGen 3 0 4 0) 15 8 ≠ 1) ∧
    (∀ k ∈ [49, 63], fld (wGen 2 0 4 0 + 2 ^ k) 7 0 = 1 ∧ fld (wGen 2 0 4 0 + 2 ^ k) 15 8 = 2 ∧ fld (wGen 2 0 4 0 + 2 ^ k) 63 49 ≠ 0) ∧
    (∀ p ∈ [(1, 0, 1), (2, 0, 1048576), (2, 0x40, 4)], GoodGenerate (wGen p.1 p.2.1 p.2.2 0) ∧ Begins (wGen p.1 p.2.1 p.2.2 0)) ∧
    (NextIs (asks (wGen 2 0 4 0) id) 0 7 (wGen 2 0 4 0) ∧ ¬ ServesTokens (asks (wGen 2 0 4 0) id) 0) ∧
    (NextIs (asks (wGen 2 0 4 0) serving) 0 7 (wGen 2 0 4 0) ∧ ServesTokens (asks (wGen 2 0 4 0) serving) 0 ∧
      ∀ t ∈ ((asks (wGen 2 0 4 0) serving).d.model 0).bind, (asks (wGen 2 0 4 0) serving).d.fab.fenced[tileHalf t] = false) ∧
    (let f := { fab0 with fenced := Vector.replicate 2 true }; (model0.bind).any (fun t => f.fenced[tileHalf t]) = true) ∧
    (∀ n ∈ [0, 4], GoodGenerate (wGen 2 0x80 n 0x30000) ∧ bit (wGen 2 0x80 n 0x30000) 23 = true) ∧
    (∀ (q : SeqSlot) (v : Seq), ¬ IsHeld (asks (wGen 2 0x80 4 0x30000) serving) 0 0x30000 q v) ∧
    (∀ n ∈ [5, 1048571, 1048572], let s := asks (wGen 2 0x80 4 0x30000) (holding { seq0 with tokens := n }); IsHeld s 0 0x30000 0 { seq0 with tokens := n }) ∧
    (let w := 5 + 2 * 2 ^ 8 + 0x30000 * 2 ^ 32;
      NextIs (asks w (holding seq0)) 0 7 w ∧ fld w 7 0 = 5 ∧ fld w 15 8 = 2 ∧ fld w 31 16 = 0 ∧ fld w 511 128 = 0 ∧ IsHeld (asks w (holding seq0)) 0 (fld w 63 32) 0 seq0) ∧
    (∀ (q : SeqSlot) (v : Seq), ¬ IsHeld (asks 5 id) 0 0 q v) ∧
    (∀ n ∈ [0, 2], let w := 2 + 2 * 2 ^ 8 + 0x30000 * 2 ^ 32; let v := { seq0 with phase := .decode, req := some gen0, inLaunch := n };
      NextIs (asks w (holding v)) 0 7 w ∧ fld w 7 0 = 2 ∧ fld w 15 8 = 2 ∧ fld w 31 17 = 0 ∧ fld w 511 192 = 0 ∧ bit w 16 = false ∧ fld w 191 128 = 0 ∧
      (asks w (holding v)).d.seq 0 = some v ∧ fld w 63 32 = (0 : SeqSlot).val + 0x10000 * v.gen ∧ v.ctx = 0 ∧ v.req.isSome = true ∧ v.kst ≠ 5 ∧ v.inLaunch = n ∧
      (∀ k ∈ [true, false], ∀ t ∈ [1, 3], ({ v with kst := t, req := some { gen0 with holdKv := k } } : Seq).phase = .decode) ∧
      (asks w (holding v)).d.undelivered 0 v.gen = false) ∧
    (let w := 2 + 1 * 2 ^ 8 + 2 ^ 16 + 77 * 2 ^ 128; let s := asks w (fun v => { v with queue := [gen0] });
      NextIs s 0 7 w ∧ fld w 15 8 = 1 ∧ bit w 16 = true ∧ fld w 63 32 = 0 ∧ fld w 31 17 = 0 ∧ fld w 511 192 = 0 ∧ s.d.liveSeqs = [] ∧
      (∀ r ∈ s.d.svc.queue, r.cont = false) ∧ gen0.tag = fld w 191 128) ∧
    (∀ n ∈ [0, 64], let w := 6 + 2 * 2 ^ 8 + 2 * 2 ^ 24 + n * 2 ^ 192; let s := asks w serving;
      NextIs s 0 7 w ∧ fld w 7 0 = 6 ∧ fld w 15 8 = 2 ∧ fld w 23 18 = 0 ∧ fld w 63 36 = 0 ∧ fld w 511 320 = 0 ∧ (s.d.model 0).phase = .loaded ∧
      (s.d.model 0).failed = false ∧ (s.d.model 0).entry (fld w 31 24) = some (entry0 2 3) ∧ fld w 191 128 % 64 = 0 ∧ fld w 223 192 % 64 = 0 ∧
      fld w 223 192 ≤ (entry0 2 3).inMax ∧ fld w 319 256 % 64 = 0) := by
  have no : ∀ (w id : Nat) (g : Svc → Svc), (asks w g).d.svc.seqs = [] → ∀ (q : SeqSlot) (v : Seq), ¬ IsHeld (asks w g) 0 id q v := fun w id g e q v h => by
    have h := h.1; unfold Dev.seq at h; rw [e] at h; cases h
  unfold GoodGenerate Begins IsHeld
  refine ⟨fun w g => ⟨(asks_takes w g).1, (asks_takes w g).2.1, (asks_takes w g).2.2.2⟩, by decide +kernel, by unfold NoLost; decide +kernel,
    by unfold NoLost; decide +kernel, by unfold NoLost; decide +kernel, ⟨asks_next _ _ (by decide +kernel), by decide +kernel⟩, by decide +kernel, by decide +kernel, ⟨asks_next _ _ (by decide +kernel), fun h => ?_⟩,
    ⟨asks_next _ _ (by decide +kernel), serves _, by decide +kernel⟩, by decide +kernel, by decide +kernel, no _ _ _ rfl, by decide +kernel,
    ⟨asks_next _ _ (by decide +kernel), by decide +kernel⟩, no _ _ _ rfl, ?_, ⟨asks_next _ _ (by decide +kernel), by decide +kernel⟩, ?_⟩
  · exact absurd h.1 (by decide +kernel)
  · intro n h
    simp only [List.mem_cons, List.not_mem_nil, or_false] at h
    obtain rfl | rfl := h <;> exact ⟨asks_next _ _ (by decide +kernel), by decide +kernel⟩
  · intro n h
    simp only [List.mem_cons, List.not_mem_nil, or_false] at h
    obtain rfl | rfl := h <;> exact ⟨asks_next _ _ (by decide +kernel), by decide +kernel⟩

/-- KV_EXPORT at a level, with DEST and RELEASE bits, of SEQ_ID 0x30000 to address 0 with a DEST_CAP. -/
def wExp (level flags cap : Nat) : Nat := 3 + level * 2 ^ 8 + flags * 2 ^ 16 + 0x30000 * 2 ^ 32 + cap * 2 ^ 192
def grp0 : Group := { pos0 := 0, tile := 48, base := 16, gst := 1, poison := false, spill := 0, left := 0, bad := [] }
def seqG : Seq := { seq0 with tokens := 100, groups := [grp0] }
def withImg (i : Image) (ph : ModelPhase) (raw : List Byte) (b : List TileId) (v : Svc) : Svc :=
  { v with models := [(0, { ModelSlot.init with phase := ph, img := some i, op := some { ctx := 0, dsn := 5, tag := 1 }, raw := raw, bind := b })] }
def launch0 : Launch := { tag := 9, model := 0, entry := 1, kind := 2, rows := [], graph := none, told := false, streams := [(48, 0)], packets := [], names := [(48, 36)]
                          counts := [], fault := none, parity := 0, parityAt := none, chk := 0, land := [], arms := [] }
def moveI (page : Nat) : Move := { port := .host, cls := 3, kind := .import_, seq := 0, gen := 3, pos0 := 0, page := page, since := 0 }
def imp0 (left : Nat) : Import :=
  { ctx := 0, dsn := 6, tag := 1, prio := 0, model := 0, addr := 0, seq := some 0, img := pad 80 (impHdr 0), left := some left }
theorem import_ok (w : Nat) : (asks w serving).d.importError 0 (impImg 1548308023) 0xC000 = none := by
  have h : (impImg 1548308023).length = 49152 := by
    unfold impImg; rw [List.length_append, List.length_replicate, (by decide +kernel : (impHdr 1548308023).length = 64)]
  have k : (asks w serving).d.imgOf 0 = imgP := rfl
  unfold Dev.importError; simp only [h, k]; decide +kernel
theorem witness_ImagesAreExportedImportedAndLoaded :
    (∀ (w : Nat) (g : Svc → Svc), TakesLevel (asks w g) 2 ∧ TakesLevel (asks w g) 1 ∧ ReadsNow (asks w g) 0 ∧ Roomy (asks w g)) ∧
    (∀ g ∈ [id, serving, holding seqG], NoLost (asks 0 g)) ∧
    (let s := withDev (fun d => { d with host := { d.host with linkUp := false }, svc := serving d.svc }); s.d.tagFree s.env 0 = false ∧ s.d.ats 0 = false) ∧
    (∀ n ∈ [1, 2], ∀ p ∈ [0, 1], let s := asks 0 (fun v => { holding seqG v with imports := [imp0 n], moves := [moveI p] });
      s.d.pickMove .host = some (0, moveI p) ∧ s.d.seq 0 = some seqG ∧ seqG.groups.find? (fun g => g.pos0 = 0) = some grp0 ∧
      s.d.svc.imports.find? (fun i => i.seq = some 0) = some (imp0 n) ∧ s.d.svc.rdma = [] ∧ NoLost s ∧ bit (leAt (imp0 n).img 0x40 16) 27 = false ∧
      s.d.fab.accessSite grp0.tile = some 0 ∧ 16 * (grp0.base + p + 1) ≤ 393216 ∧ (s.d.ctx 0).phase = .active) ∧
    Apart (up.d.fab.col 0) ∧ (up.d.fab.col 0).queue = [] ∧
    (∀ g ∈ [serving, fun v => { serving v with launches := [launch0] }], (asks 0 g).d.svc.imports = [] ∧
      (decide (∀ l ∈ (asks 0 g).d.svc.launches, l.model ≠ 0) = !decide (∃ l ∈ (asks 0 g).d.svc.launches, l.model = 0))) ∧
    (∀ p ∈ [(1, 0), (2, 0)], NextIs (asks (wExp p.1 p.2 0) (holding seqG)) 0 7 (wExp p.1 p.2 0) ∧ fld (wExp p.1 p.2 0) 7 0 = 3 ∧
      (asks (wExp p.1 p.2 0) (holding seqG)).d.svc.rdma = []) ∧
    (let w := wExp 2 1 0; fld w 31 18 = 0 ∧ fld w 287 280 = 0 ∧ fld w 511 320 = 0 ∧ bit w 16 = true ∧ fld (tget (asks w id).d.net.qps Qp.init (fld w 279 256)).rcd 2 0 ≠ 1) ∧
    (fld (0x11 : Nat) 2 0 = 1 ∧ bit 0x11 3 = false ∧ fld 0x11 5 4 = 1 ∧ fld 0x11 27 16 = (0 : CtxId).val) ∧
    (∀ p ∈ [(0, true), (0x3FFF, true), (0x10000000, false)], let w := wExp 2 0 p.1; let s := asks w (holding seqG);
      IsHeld s 0 (fld w 63 32) 0 seqG ∧ fld w 191 128 % 4096 = 0 ∧ bit w 16 = false ∧ decide (fld w 255 192 < exportLen (s.d.imgOf 0) seqG) = p.2 ∧
      0 < (seqG.groups.take (exportGroups seqG.tokens (s.d.imgOf 0).tp)).length * (s.d.imgOf 0).pages) ∧
    (let w := 4 + 2 * 2 ^ 8 + 0xC000 * 2 ^ 192; let s := asks w serving;
      NextIs s 0 7 w ∧ fld w 7 0 = 4 ∧ fld w 15 8 = 2 ∧ fld w 31 18 = 0 ∧ fld w 63 36 = 0 ∧ fld w 511 256 = 0 ∧ fld w 191 128 % 4096 = 0 ∧ ServesTokens s 0 ∧
      (∀ t ∈ (s.d.model 0).bind, s.d.fab.fenced[tileHalf t] = false) ∧
      s.d.importError (fld w 35 32) (impImg 1548308023) (fld w 255 192) = none ∧ 0 < exportGroups (leAt (impImg 1548308023) 0x10 4 % 2 ^ 21) imgP.tp * imgP.pages ∧
      s.d.seq 0 = none ∧ s.d.svc.seqs.length = 0 ∧ s.d.svc.imports = []) ∧
    (let w := 0x10 + 2 * 2 ^ 8 + 512 * 2 ^ 192;
      NextIs (asks w id) 0 7 w ∧ fld w 7 0 = 0x10 ∧ ((asks w id).d.ctx 0).func = 0 ∧ fld w 15 8 = 2 ∧ fld w 31 20 = 0 ∧ fld w 63 32 = 0 ∧ fld w 511 256 = 0 ∧
      ((asks w id).d.model 0).phase = .empty ∧ ((asks w serving).d.model 0).phase ≠ .empty ∧ fld w 191 128 % 4096 = 0 ∧ leAt [0, 0, 0, 0] 0 4 ≠ 0x4D494C47 ∧
      headerError (1, 2) imgW (fld w 255 192) = none ∧ (withDev (fun d => d.setCtx 0 { ctx7 w with func := 1 })).d.ctx 0 = { ctx7 w with func := 1 }) ∧
    (∀ i ∈ [readImage imgW, readImage imgS], let s := asks 0 (withImg i .reading [] []);
      (s.d.model 0).phase = .reading ∧ (s.d.model 0).img = some i ∧ (s.d.model 0).op = some { ctx := 0, dsn := 5, tag := 1 } ∧ (s.d.ctx 0).phase = .active ∧
      s.d.fab.halfUp[(0 : HalfId)] = true ∧ s.d.fab.halfUp[(1 : HalfId)] = true ∧ i.vtiles ≤ (s.d.freeTiles 0).length ∧ i.vtiles ≤ (s.d.freeTiles 1).length) ∧
    imageOk imgW (readImage imgW) = true ∧ imageOk imgS (readImage imgS) = true ∧ (readImage imgW).span = false ∧ (readImage imgS).span = true ∧
    (imgW.take 100).length ≠ (readImage imgW).len ∧
    (let s := withFab (fun f => { f with halfUp := f.halfUp.set 0 false }); s.d.fab.halfUp[(0 : HalfId)] = false ∧ s.d.fab.halfUp[(1 : HalfId)] = true ∧ 1 ≤ (s.d.freeTiles 1).length) ∧
    (let s := withFab (fun f => { f with clusters := (List.range 32).map (fun c => (c, { ClusterSt.init with siteOf := Vector.replicate 16 none })) }); (s.d.freeTiles 0).length + (s.d.freeTiles 1).length < (readImage imgW).vtiles) ∧
    (let i := { imgP with sections := [{ styp := 1, vtile := 0, off := 0, len := 64, dest := 128 }, { styp := 4, vtile := 0, off := 64, len := 32, dest := 0 }] };
      imageColumns (List.replicate 96 0) i 0 = [(128, List.replicate 64 0)] ∧ (imageKvs (List.replicate 96 0) i).map (·.vtile) = [0]) ∧
    (let s := asks 0 (withImg imgP .zeroing [] [48]); (s.d.model 0).phase = .zeroing ∧ s.d.slotReady 0 = true) ∧
    (let s := asks 0 (withImg imgP .zeroing [] [49]); (s.d.model 0).phase = .zeroing ∧ s.d.slotReady 0 = false) ∧
    (let s := asks 0 (withImg (readImage imgW) .copying imgW [48]); (s.d.model 0).phase = .copying ∧ (s.d.model 0).img = some (readImage imgW) ∧
      (s.d.model 0).bind = [48] ∧ s.d.fab.accessSite 48 = some 0 ∧ 128 + 64 ≤ 0x18000000 ∧ (s.d.ctx 0).phase = .active) ∧
    (∀ k ∈ [0, 1], let w := 0x11 + 2 * 2 ^ 8 + k * 2 ^ 20;
      NextIs (asks w serving) 0 7 w ∧ fld w 7 0 = 0x11 ∧ ((asks w serving).d.ctx 0).func = 0 ∧ fld w 15 8 = 2 ∧ fld w 31 21 = 0 ∧ fld w 63 32 = 0 ∧ fld w 511 128 = 0 ∧
      ((asks w serving).d.model 0).phase = .loaded ∧ (asks w serving).d.modelBusy 0 = false ∧ (asks w (holding seq0)).d.modelBusy 0 = true ∧
      ((asks w id).d.model 0).phase = .empty) := by
  have nx : ∀ w : Nat, NextIs (asks w id) 0 7 w := fun w => asks_next _ _ (by intro m; rfl)
  have op : ∀ w g, (asks w g).d.svc.models = [(0, model0)] → NextIs (asks w g) 0 7 w := fun w g h => asks_next _ _ (by
    intro m; unfold Dev.model; rw [h]; revert m; decide +kernel)
  unfold IsHeld NoLost
  refine ⟨asks_takes, by decide +kernel, by decide +kernel, by decide +kernel, apart_plain _ rfl, by decide +kernel, by decide +kernel, ?_, by decide +kernel,
    by decide +kernel, by decide +kernel, ⟨op _ _ rfl, by decide +kernel, by decide +kernel, by decide +kernel, by decide +kernel,
    by decide +kernel, by decide +kernel, serves _, by decide +kernel, import_ok _, by decide +kernel, by decide +kernel, by decide +kernel, by decide +kernel⟩, ⟨nx _, by decide +kernel⟩, by decide +kernel, imgW_ok, imgS_ok,
    by decide +kernel, by decide +kernel, by decide +kernel, by decide +kernel, by decide +kernel, by decide +kernel, ⟨by decide +kernel, by decide +kernel, by decide +kernel, ?_⟩⟩
  · intro p h
    simp only [List.mem_cons, List.not_mem_nil, or_false] at h
    obtain rfl | rfl := h <;> exact ⟨op _ _ rfl, by decide +kernel⟩
  · intro n h
    simp only [List.mem_cons, List.not_mem_nil, or_false] at h
    obtain rfl | rfl := h <;> exact ⟨op _ _ rfl, by decide +kernel⟩

/-- Model slot 0 is loaded on tile 48, which holds a KV region; context 0 is active with swap space. -/
def kt0 : KvTile := { model := 0, srvRow := 100, srvRows := 20, srvUsed := [], landBase := 0, landSlices := 0, landUsed := [], total := 4, free := [32, 34], freed := [36], filling := [38] }
def svcUp (g : Svc → Svc) : State :=
  withDev (fun d => { d with host := { d.host with ctxs := [(0, { Ctx.init with phase := .active, swapSize := 100 })] }, svc := g { serving d.svc with kv := [(48, some kt0)] } })
def live (q : Seq) (v : Svc) : Svc := { v with seqs := [(0, some q)] }
def gq (gst left : Nat) : Group := { grp0 with gst := gst, left := left }
def move0 (port : BargePort) (kind : MoveKind) (cls : Nat) : Move := { port := port, cls := cls, kind := kind, seq := 0, gen := 3, pos0 := 0, page := 1, since := 0 }
/-- A group can be taken for the one that is away, with the tables of its sequence. -/
def comesBack (s : State) (v : Seq) (gst : Nat) : Bool :=
  match (s.d.bump.setSeq 0 (some v)).takeGroup s.env 0 v 0 with
  | some (d1, t, b) => (d1.syncSeq s.env 0 (v.modGroup 0 (fun g => { g with gst := gst, tile := t, base := b, left := (d1.imgOf v.model).pages }))).isSome
  | none => false
def withTime (n : Nat) (s : State) : State := { s with time := { s.time with ticks := n } }
def landJob (layer : Nat) : LandJob := { tile := 48, next := 0, ready := 1, free := 2, slices := [], groups := [(0, 0)], left := [(layer, 4)] }
def landing (sem : Nat) : State :=
  let s := svcUp (fun v => { v with launches := [{ launch0 with land := [landJob 0] }], moves := [{ move0 .tier2 (.landing 9 0 0) 0 with page := 0 }] })
  { s with d := { s.d with fab := { s.d.fab with sites := [(0, { s.d.fab.site 0 with sems := (s.d.fab.site 0).sems.set 2 (BitVec.ofNat 16 sem) })] } } }
theorem witness_GroupsAndPagesMove :
    (let s := svcUp id; s.d.kvt 48 = some kt0 ∧ 36 ∈ kt0.freed ∧ 38 ∈ kt0.filling ∧ s.d.named 48 36 = false ∧ s.d.fab.fenced[tileHalf 48] = false ∧
      (s.d.fab.siteOf 48).isSome = true ∧ s.d.fab.accessSite 48 = some 0 ∧ (s.d.fab.col 0).queue = [] ∧ 16 * (38 + (s.d.imgOf kt0.model).pages) ≤ 393216 ∧
      s.d.svc.imports = [] ∧ kvMode s.env = false ∧ s.d.svc.spillMode = false) ∧ Apart (up.d.fab.col 0) ∧
    (svcUp (fun v => { v with launches := [launch0] })).d.named 48 36 = true ∧
    (∀ n ∈ [0, 10000000], ∀ r ∈ [none, some gen0], ∀ i ∈ [[], [imp0 2]], let v := { seqG with waitFrom := some n, req := r };
      let s := withTime 10000000 (svcUp (fun x => { live v x with kv := [], imports := i }));
      (s.d.seq 0) = some v ∧ v.kst ≠ 5 ∧ decide (n + kvWait s.env ≤ svcNow s.env) = decide (n = 0) ∧ s.d.noReclaim s.env = true ∧
      (∀ p ∈ s.d.liveSeqs, p.1 = 0 → p.2 = v) ∧ kvMode s.env = false ∧ s.d.svc.spillMode = false ∧ (s.d.ctx 0).phase = .active ∧
      decide (∀ j ∈ s.d.svc.imports, j.seq ≠ some 0) = i.isEmpty ∧ (i ≠ [] → s.d.svc.imports.find? (fun i => i.seq = some 0) = some (imp0 2))) ∧
    (∀ g ∈ [[gq 0 0], List.replicate 51 (gq 0 0)], let v := { seqG with kst := 2, groups := g }; let s := svcUp (live v);
      s.d.seq 0 = some v ∧ v.kst = 2 ∧ v.inLaunch = 0 ∧ (∀ g ∈ v.groups, g.gst ≠ 1 ∧ g.gst ≠ 2) ∧ (v.stackGroups.head?).isSome = true ∧
      (s.d.freeSwap v.ctx (s.d.swapUnit v.model)).isSome = true ∧ decide (v.stackGroups.length ≤ s.d.swapRoom v.ctx (s.d.swapUnit v.model)) = decide (g.length = 1)) ∧
    (∃ g ∈ [gq 1 2], g.gst = 1) ∧ (∀ g ∈ [gq 2 0], g.gst ≠ 0 ∧ g.gst ≠ 1) ∧ (∀ g ∈ [gq 2 0, gq 0 0], g.gst ≠ 1) ∧ (∃ g ∈ [gq 2 0, gq 0 0], g.gst = 2) ∧
    (let v := { seqG with kst := 3, groups := [gq 2 0] }; let s := svcUp (live v);
      s.d.returning = some (0, v) ∧ v.groups.filter (fun g => g.gst = 2) = [gq 2 0] ∧ s.d.atHigh s.env 1 = true ∧ comesBack s { v with kst := 4 } 3 = true) ∧
    (let s := svcUp (fun v => { v with kv := [(48, some { kt0 with free := [32] })] }); s.d.atHigh s.env 1 = false) ∧
    (let v := { seqG with groups := [gq 5 0] }; let s := svcUp (live v);
      s.d.liveSeqs.filter (fun p => p.2.kst == 1 && p.2.groups.any (fun g => g.gst == 5)) = [(0, v)] ∧ gq 5 0 ∈ v.groups ∧ (∀ h ∈ v.groups, h.gst = 5 → h ≠ gq 5 0 → h.pos0 < 0) ∧
      2 * (kvHigh s.env * s.d.totalGroups) < 256 * s.d.freeGroups ∧ comesBack s v 6 = true) ∧
    (let s := svcUp (fun v => { v with kv := [(48, some { kt0 with free := [] })] }); 256 * s.d.freeGroups ≤ 2 * (kvHigh s.env * s.d.totalGroups)) ∧
    (let s := svcUp (fun v => { v with moves := [move0 .host .swapIn 1, move0 .host .swapOut 2], since2 := v.since2.set 0 7 });
      (∀ n ∈ s.d.svc.moves, n.cls ≤ 3) ∧ s.d.pickMove .host = some (1, move0 .host .swapOut 2)) ∧
    (∀ p ∈ [(BargePort.host, MoveKind.swapIn), (.tier2, .t2Return)], let m := move0 p.1 p.2 1; let s := svcUp (fun v => live { seqG with groups := [gq 3 2] } { v with moves := [m] });
      s.d.pickMove p.1 = some (0, m) ∧ s.d.seq 0 = some { seqG with groups := [gq 3 2] } ∧ seqG.gen = m.gen ∧ (gq 3 2).tile = 48 ∧ s.d.fab.accessSite 48 = some 0 ∧ s.d.svc.rdma = [] ∧ (∀ p ∈ s.d.liveSeqs, p.2.kst ≠ 5) ∧
      s.d.tagFree s.env 0 = true ∧ s.d.ats 0 = false ∧ (s.d.fab.col 0).queue = [] ∧ 16 * ((gq 3 2).base + m.page + 1) ≤ 393216 ∧ m.page ∉ (gq 3 2).bad ∧ (s.d.ctx 0).phase = .active) ∧
    (List.replicate 16384 (0 : Byte)).length = 16384 ∧ pageOwner (leBytes 12 0 ++ leBytes 2 0 ++ leBytes 2 3) = (0, 3) ∧
    (let s := svcUp (fun v => { v with moves := [move0 .host .swapIn 1] }); s.d.pickMove .host = some (0, move0 .host .swapIn 1) ∧ s.d.seq 0 = none ∧ s.d.svc.rdma = [] ∧ (∀ p ∈ s.d.liveSeqs, p.2.kst ≠ 5)) ∧
    (∀ n ∈ [0, 1], let j := landJob 0; let l := { launch0 with land := [j] }; let s := landing n;
      s.d.pickMove .tier2 = some (0, { move0 .tier2 (.landing 9 0 0) 0 with page := 0 }) ∧ s.d.svc.launches.find? (fun l' => l'.tag = launch0.tag) = some l ∧
      l.land.find? (fun j => j.groups.contains (0, 0) && j.left.any (fun p => p.1 = 0)) = some j ∧ s.d.kvt 48 = some kt0 ∧ s.d.svc.rdma = [] ∧
      s.d.fab.accessSite 48 = some 0 ∧ 16 * (kt0.landBase + 2 * (s.d.imgOf 0).heads * 0 + (0 - 2 * 0 * (s.d.imgOf 0).heads) + 1) ≤ 393216 ∧
      s.d.fab.siteOf 48 = some 0 ∧ s.d.svc.launches.find? (fun l => l.land.any (fun j => j.tile == 48 && decide (j.next < (s.d.imgOf l.model.val).layers))) = some l ∧
      l.land.find? (fun j => j.tile = 48) = some j ∧ ((s.d.fab.site 0).sems[j.free]).toNat = n) := by
  refine ⟨by decide +kernel, apart_plain _ rfl, ?_⟩
  and_intros <;> decide +kernel

def graph0 : GraphReq := { ctx := 0, dsn := 6, prio := 1, entry := 2, inAddr := 0, inLen := 0, outCap := 64, outAddr := 0, tag := 77, got := [], ready := true, cancelled := false, since := 0, bump := 0 }
def seqD : Seq := { seqG with phase := .decode, req := some gen0 }
def seqP : Seq := { seqG with phase := .prefill, req := some gen0, input := [1, 2, 3] }
def withRecent (b : Bool) (v : Svc) : Svc := { v with models := [(0, { model0 with recent := List.replicate 15 b, graphs := [graph0] })] }
theorem witness_WorkIsAdmittedAndLaunched :
    (let s := asks 0 (fun v => { v with queue := [gen0] }); s.d.svc.queue.find? (fun r => !s.d.servesTokens r.model) = some gen0 ∧ gen0.cont = false ∧ (s.d.ctx 0).phase = .active) ∧
    (let s := svcUp (fun v => { v with queue := [gen0] }); s.d.svc.queue.length ≤ 16384 ∧ s.d.servesTokens 0 = true ∧ gen0.promptLen < 1048576 ∧ gen0.prio ≤ 3 ∧ NoLost s ∧ MayBeAdmitted s gen0) ∧
    (∀ s : State, ¬ MayBeAdmitted s { gen0 with ready := false }) ∧
    (let s := svcUp (live seqD); (s.d.model 0).img = some imgP ∧ (s.d.model 0).entry imgP.decode = some (entry0 1 2) ∧ 1 ≤ (entry0 1 2).maxBatch ∧ s.d.mayLaunch s.env 0 = true ∧
      s.d.decodeReady 0 = [(0, seqD)] ∧ seqD.prio ≤ 3 ∧ cdiv seqD.tokens (Nat.max 1 (s.d.imgOf seqD.model).tp) ≤ seqD.groups.length ∧
      (∀ g ∈ seqD.groups, g.gst ≠ 5 ∧ g.gst ≠ 6) ∧ (s.d.freeSamplers (s.d.model 0)).head? = some (3, 0) ∧ s.d.seq 0 = some seqD ∧ s.d.belowLow s.env = false ∧ s.d.svc.reclaiming = false) ∧
    (let s := svcUp (fun v => { v with holdAll := true }); s.d.mayLaunch s.env 0 = false) ∧ (svcUp id).d.decodeReady 0 = [] ∧
    (let s := svcUp (live seqP); (s.d.model 0).entry imgP.prefill = some (entry0 0 1) ∧ s.d.mayLaunch s.env 0 = true ∧ s.d.decodeReady 0 = [] ∧ s.d.prefillReady 0 = [(0, seqP)] ∧
      cdiv (seqP.inputPos + seqP.fed + Nat.min (seqP.input.length - seqP.fed) (chunkTok s.env)) (Nat.max 1 (s.d.imgOf seqP.model).tp) ≤ seqP.groups.length ∧
      (s.d.freeSamplers (s.d.model 0)).head? = some (3, 0)) ∧
    (let s := svcUp (fun v => live seqD (withRecent true v)); s.d.decodeReady 0 ≠ [] ∧ prefillShare s.env ≤ (((s.d.model 0).recent.take 15).filter id).length) ∧
    (let s := svcUp (fun v => live seqD (withRecent false v)); (((s.d.model 0).recent.take 15).filter id).length < prefillShare s.env ∧ s.d.mayLaunch s.env 0 = true ∧
      (s.d.model 0).graphs.filter (·.ready) = [graph0] ∧ (s.d.model 0).entry graph0.entry = some (entry0 2 3)) ∧
    (let s := svcUp (live seqD); s.d.seq 0 = some seqD ∧ ageTicks s.env ≠ 0 ∧
      (∃ p ∈ s.d.decodeReady seqD.model ++ s.d.prefillReady seqD.model, p.1 = 0) ∧ seqD.bump < s.d.classOf seqD.ctx seqD.prio ∧
      elapsed (withTime (ageTicks s.env) s).time .tokenService seqD.since (ageTicks s.env * (seqD.bump + 1)) = true ∧
      elapsed (withTime (ageTicks s.env - 1) s).time .tokenService seqD.since (ageTicks s.env * (seqD.bump + 1)) = false) ∧
    (let s := svcUp (live seqG); s.d.seq 0 = some seqG ∧ ∀ p ∈ s.d.decodeReady seqG.model ++ s.d.prefillReady seqG.model, p.1 ≠ 0) ∧
    (let s := withDev (fun d => { d with regs := [(0x4200, 0)] }); ageTicks s.env = 0) ∧
    (let s := svcUp id; rotOn s.env = true ∧ elapsed s.time .tokenService s.d.svc.rotAt (1000 * rotMs s.env) = false ∧
      elapsed (withTime (1000 * rotMs s.env) s).time .tokenService s.d.svc.rotAt (1000 * rotMs s.env) = true ∧ (s.d.model 0).phase = .loaded ∧ (s.d.model 1).phase ≠ .loaded) ∧
    (let s := withDev (fun d => { d with regs := [(0x4204, 0)] }); rotOn s.env = false) ∧
    (∃ l ∈ (svcUp (fun v => { v with launches := [launch0] })).d.svc.launches, l.model = 0) ∧
    (let s := svcUp (fun v => { v with models := [(0, { model0 with rots := [{ members := [0, 1], active := 0, next := some 1 }] })] });
      (∀ l ∈ s.d.svc.launches, l.model ≠ 0) ∧ ∃ r ∈ (s.d.model 0).rots, r.next ≠ none) := by
  refine ⟨?_, ?_, fun s h => absurd h.1 (by decide), ?_, ?_, ?_, ?_, ?_, ?_, ?_, ?_, ?_, ⟨?_, ?_, ?_, ?_⟩⟩ <;> (try unfold MayBeAdmitted NoLost) <;> decide +kernel

/-- A launch of one row whose streams have told what is in the inbox. -/
def row0 : Row := { seq := 0, gen := 3, pos := 4, ntok := 1, token := 9, sample := none }
def launched (l : Launch) (q : Seq) (inbox : List TileMsg) : State :=
  let s := svcUp (fun v => live q { v with launches := [l] }); { s with d := { s.d with fab := { s.d.fab with inbox := inbox } } }
def launchR : Launch := { launch0 with rows := [row0] }
def seqL : Seq := { seqD with inLaunch := 1 }
def graphL : Launch := { launch0 with entry := 2, kind := 3, graph := some graph0 }
def faulted (cause extra parity chk : Nat) : Launch := { launchR with fault := some { tile := 48, cause := cause, extra := extra }, parity := parity, chk := chk }
def result (tok : Option Nat) : SampleResult := { cluster := 3, slot := 7, token := tok, logprob := 0, alts := [] }
def owner0 : SlotOwner := { cluster := 3, slot := 7, launch := 9, seq := 0, gen := 3 }
def delivering (tok : Option Nat) (own : List SlotOwner) (q : Seq) : State :=
  let s := svcUp (fun v => live q { v with owners := own }); { s with d := { s.d with fab := { s.d.fab with results := [result tok] } } }
theorem witness_LaunchesEndAndTokensAreDelivered :
    (∀ p ∈ [([], true), ([TileMsg.ended 48 0 9], false)], let s := launched launchR seqL p.1;
      s.d.svc.launches.find? (fun k => k.tag = launchR.tag) = some launchR ∧ launchR.fault = none ∧ launchR.graph = none ∧
      decide (∀ q ∈ launchR.streams, TileMsg.ended q.1 q.2 launchR.tag ∈ s.d.fab.inbox) = !p.2 ∧
      decide (∃ q ∈ launchR.streams, TileMsg.ended q.1 q.2 launchR.tag ∉ s.d.fab.inbox) = p.2) ∧
    (let s := launched launchR seqL []; s.d.seq 0 = some seqL ∧ launchR.rows.filter (fun r => r.seq = 0) = [row0] ∧ row0.gen = seqL.gen ∧ seqL.ending = none ∧ seqL.kst ≠ 5 ∧ (∀ p ∈ s.d.liveSeqs, p.2.kst ≠ 5) ∧
      seqL.inLaunch = 1 ∧ s.d.undelivered 0 seqL.gen = false ∧ gen0.holdKv = false ∧ (s.d.model launchR.model).phase = .loaded ∧ seqL.req = some gen0 ∧ (s.d.ctx gen0.ctx).phase = .active) ∧
    (let s := launched graphL seqL [TileMsg.ended 48 0 9]; s.d.svc.launches.find? (fun k => k.tag = graphL.tag) = some graphL ∧ graphL.fault = none ∧ graphL.graph = some graph0 ∧ graphL.told = false ∧ (s.d.ctx graph0.ctx).phase = .active ∧ s.d.direct 0 = true ∧
      (∀ p ∈ graphL.streams, TileMsg.ended p.1 p.2 graphL.tag ∈ s.d.fab.inbox) ∧
      graph0.cancelled = false ∧ graphL.rows = [] ∧ (s.d.model graphL.model).phase = .loaded ∧ (s.d.model graphL.model).entry graphL.entry = some (entry0 2 3) ∧
      (s.d.model graphL.model).bind[(entry0 2 3).outVt]? = some 48 ∧ (s.d.bump.fab.slotRead s.env 48 (entry0 2 3).outOff 1).2.2 = []) ∧
    (let s := withCol (fun c => c.putSector 0 4 false); leAt (s.d.fab.slotRead s.env 48 0 1).2.1 0 4 = 4 ∧ (s.d.fab.slotRead s.env 48 64 (cdiv 4 64)).2.2 = [] ∧
      4 ≤ (s.d.fab.slotRead s.env 48 64 (cdiv 4 64)).2.1.length) ∧
    (let s := withCol (fun c => c.putSector 0 65 false); leAt (s.d.fab.slotRead s.env 48 0 1).2.1 0 4 = 65) ∧
    (let s := launched launchR seqL [TileMsg.fault 48 0 9 0x0A 32 0]; s.d.firstFault launchR.tag = some { tile := 48, cause := 0x0A, extra := 0 } ∧ launchR.streams ≠ []) ∧
    (∀ p ∈ [(0x04, 0, 0), (0x0A, 1, 0), (0x0A, 2, 0), (0x0F, 0, 0), (0x0F, 0, 1), (0x0D, 0, 0), (0x0E, 0, 0)], let l := faulted p.1 0 p.2.1 p.2.2; let s := launched l seqL [];
      s.d.svc.launches.find? (fun k => k.tag = l.tag) = some l ∧ l.fault = some { tile := 48, cause := p.1, extra := 0 } ∧ s.d.launchStopped l = true ∧ l.graph = none ∧ (s.d.model l.model).failed = false ∧ (∀ p ∈ s.d.liveSeqs, p.2.kst ≠ 5)) ∧
    ((svcUp (fun v => { v with models := [(0, { model0 with failed := true })] })).d.model 0).failed = true ∧
    (up.d.fab.accessSite 48 = some 0 ∧ (up.d.fab.col 0).queue = [] ∧ ((up.d.fab.col 0).sector (256 * 7)).poison = false) ∧
    ((delivering (some 5) [] seqL).d.fab.results = [result (some 5)] ∧ ∀ o ∈ (delivering (some 5) [] seqL).d.svc.owners, ¬ (o.cluster = 3 ∧ o.slot = 7)) ∧
    (∀ t ∈ [none, some 5], let s := delivering t [owner0] seqL; s.d.svc.owners.find? (fun o => o.cluster == 3 && o.slot == 7) = some owner0 ∧ s.d.seq owner0.seq = some seqL ∧
      seqL.gen = owner0.gen ∧ seqL.req = some gen0 ∧ seqL.count + 1 ≠ gen0.maxNew ∧ seqL.tokens ≠ 1048575 ∧ seqL.kst = 1 ∧ seqL.ending = none ∧ s.d.direct 0 = true ∧ (s.d.ctx gen0.ctx).phase = .active) ∧
    (let v : Seq := { seqL with count := 7, tokens := 1048575 }; v.count + 1 = gen0.maxNew ∧ v.tokens = 1048575) := by
  and_intros <;> decide +kernel

/-- A doorbell of the PF for context 0, whose state is v. -/
def bell (size : Nat) (v : BitVec 64) : Bell := { func := 0, page := 0, size := size, v := v }
def ringAt (v : Ctx) : State := withDev (fun d => { d with host := { d.host with ctxs := [(0, v)] } })
def ctxA : Ctx := { Ctx.init with phase := .active, irq := 0x80010000 }
def rec0 (full : Option Nat) : HeldRec := { rcd := endRec 0 1 0 0 0, since := 0, flushed := false, full := full }
/-- A read tag of context 0: of a fetch of n entries since tick 0, or in quarantine. -/
def tagged (quar : Option Nat) (n : Nat) : State :=
  withDev (fun d => { d with host := { d.host with ctxs := [(0, { ctxA with fetching := n })]
                                                   tags := [(16383, some { func := 0, use := .fetch 0 n, page := 0, at_ := 0, quar := quar, timedOut := quar.isSome })] } })
theorem witness_DoorbellsRingsAndHostReads :
    (∀ v ∈ [ctxA, { ctxA with phase := .disabled }, { ctxA with phase := .resetPending }, { ctxA with phase := .draining }], (ringAt v).d.bellCtx (bell 4 0) = some (0, false)) ∧
    (ringAt { ctxA with func := 3 }).d.bellCtx (bell 4 0) = some (0, true) ∧ (bell 8 0).size ≠ 4 ∧ (bell 4 0).size ≠ 8 ∧
    (∀ n ∈ [0, 63, 64], let s := ringAt ctxA; Rings s (bell 4 (BitVec.ofNat 64 n)) 4 0 (· = .active) ∧ decide (bellVal (bell 4 (BitVec.ofNat 64 n)) < (s.d.ctx 0).sqSize) = decide (n ≠ 64)) ∧
    (let s := ringAt ctxA; let v := s.d.ctx 0; s.d.host.ctxs = [(0, v)] ∧ v.fetched = [] ∧ (∀ x ∈ s.d.waitingUses, x = .fetch 0 0) ∧ NoLost s ∧ 0 < (s.d.cfg 0).mrrs / 64 ∧
      v.held = [] ∧ v.fetching = 0 ∧ v.fences = Vector.replicate 4 none ∧ s.d.fab.mapValid = true ∧ s.d.svc.queue = [] ∧
      v.func = 0 ∧ s.d.canIssue 0 = true ∧ s.d.freeTag = some 0 ∧ 0 < Nat.min 16 (Nat.min (v.sqSize - v.sqHead) (ringDist v.sqSize v.sqHead 63))) ∧
    (∀ n ∈ [3, 5, 6], let v := { ctxA with cqHead := 3, cqTail := 5, eqHead := 3, eqTail := 5 }; Rings (ringAt v) (bell 4 (BitVec.ofNat 64 n)) 4 0 (fun p => p = .active ∨ p = .draining ∨ p = .faulted) ∧
      headOk v.cqSize v.cqHead v.cqTail (bellVal (bell 4 (BitVec.ofNat 64 n))) = decide (n ≠ 6) ∧ headOk v.eqSize v.eqHead v.eqTail (bellVal (bell 4 (BitVec.ofNat 64 n))) = decide (n ≠ 6)) ∧
    (let v := { ctxA with cqTail := 63, held := [rec0 none], eqTail := 15, eqLost := true };
      v.held = [rec0 none] ∧ (rec0 none).rcd.last = none ∧ v.flushing = false ∧ (ringAt v).d.canIssue v.func = true ∧ (ringAt v).d.direct v.func = true ∧
      32 ≤ ((ringAt v).d.cfg 0).mps ∧ v.cqBase % 32 = 0 ∧ v.eqBase % 32 = 0 ∧ (∀ p ∈ (ringAt v).d.host.posts, p.func ≠ v.func) ∧ headOk v.cqSize v.cqHead v.cqTail 1 = true ∧ 0 < ({ v with cqHead := 1 } : Ctx).cqFree ∧
      headOk v.eqSize v.eqHead v.eqTail 2 = true ∧ 2 ≤ ({ v with eqHead := 2 } : Ctx).eqFree) ∧
    ({ ctxA with armed := true } : Ctx).irqDue 0 = false ∧
    (let s := withTime 1000 (withDev (fun d => { d with host := { d.host with ctxs := [(0, { ctxA with pend := 1, armed := true })], msix := [(0, { MsixEntry.init with masked := false })] } })); let v := s.d.ctx 0;
      bit v.irq 31 = true ∧ Nat.max 1 (fld v.irq 23 16) ≤ v.pend ∧ s.d.canIssue v.func = true ∧ (tget s.d.host.msix MsixEntry.init (vecKey v.func (fld v.irq 10 0))).masked = false ∧
      v.pendSince + fld v.irqTime 15 0 ≤ hostNow s.env ∧ v.phase = .active ∧ v.armed = true ∧
      (∀ p ∈ s.d.host.posts, p.func ≠ v.func)) ∧
    (ctxA.armed = false ∧ ctxA.evPend = false ∧ ctxA.pend = 0) ∧
    (∀ p ∈ [(0, true), (1, false)], let b := bell 8 0; let v := { ctxA with fences := ctxA.fences.set 3 (some { atDsn := 0, waitCtx := 0, waitDsn := p.1 }) }; let s := ringAt v;
      Rings s b 8 0 (· = .active) ∧ bit b.v.toNat 63 = false ∧ fld b.v.toNat 31 28 = 0 ∧ fld b.v.toNat 62 48 = 0 ∧
      dsnReached (s.d.ctx 0).doneDsn p.1 = p.2) ∧
    (∀ w ∈ [0, 0x8000000500000004], let b := bell 8 (BitVec.ofNat 64 w); let s := ringAt ctxA; Rings s b 8 0 (· = .active) ∧ fld b.v.toNat 31 28 = 0 ∧ fld b.v.toNat 62 48 = 0 ∧
      s.d.fenceCtx b.func (fld b.v.toNat 27 16) = some 0 ∧ (s.d.ctx 0).fences[(3 : Fin 4)] = none ∧
      (fld b.v.toNat 15 0 + 65536 - ((s.d.ctx 0).nextDsn + (s.d.ctx 0).fetching) % 65536) % 65536 < 32768 ∧ 2 ≤ (s.d.ctx 0).eqFree ∧ (s.d.ctx 0).eqLost = false) ∧
    (bit (0x8000000500000004 : Nat) 63 = true ∧ fld (0x80000000 : Nat) 31 28 ≠ 0 ∧ fld (0x4000000000000000 : Nat) 62 48 ≠ 0) ∧
    (∀ n ∈ [99999, 100000], let s := withTime n (ringAt { ctxA with held := [rec0 (some 0)], cqTail := 63 }); (s.d.ctx 0).held = [rec0 (some 0)] ∧ (s.d.ctx 0).cqStall = false ∧
      (s.d.ctx 0).phase ≠ .resetPending ∧ (s.d.ctx 0).cqFree = 0 ∧ decide (0 + 100000 ≤ hostNow s.env) = decide (n = 100000) ∧ 2 ≤ (s.d.ctx 0).eqFree ∧ (s.d.ctx 0).eqLost = false) ∧
    0 < ctxA.cqFree ∧
    (let s := tagged none 2; tget s.d.host.tags none 16383 = some { func := 0, use := .fetch 0 2, page := 0, at_ := 0, quar := none, timedOut := false } ∧ (s.d.ctx 0).phase = .active ∧
      (s.d.ctx 0).fetching = 2 ∧ (s.d.ctx 0).fetched = [] ∧ (s.d.ctx 0).held = [] ∧ NoLost s ∧ (∀ i, i < 2 → descKnown (((leBytes 64 1 ++ leBytes 64 5).getD (64 * i) 0).toNat) = true) ∧
      0 + s.d.cto 0 ≤ hostNow (withTime 50000 s).env ∧ hostNow (withTime 49999 s).env < 0 + s.d.cto 0) ∧
    (let s := tagged (some 7) 2; (tget s.d.host.tags none 16383).isSome = true ∧ hostNow s.env < 7 ∧ 7 ≤ hostNow (withTime 7 s).env) ∧
    (∀ l ∈ [[], [(5, 0)]], let s := withDev (fun d => { d with host := { d.host with expired := l } }); tget s.d.host.tags none 5 = none ∧
      s.d.host.expired.find? (fun p => p.1 = 5) = l.head? ∧ decide (∀ p ∈ s.d.host.expired, p.1 ≠ 5) = l.isEmpty) := by
  and_intros <;> (try unfold Rings) <;> (try unfold NoLost) <;> decide +kernel

/-- A flit from its header, payload and CRC. -/
def fl (hdr : Nat) (payload : List Byte) (crc : Nat) : Flit := { bytes := leBytes 8 hdr ++ pad 240 payload ++ leBytes 8 crc }
def mapPay (kind : Nat) : List Byte := leBytes 4 (kind + 7 * 2 ^ 8 + 2 ^ 16 + 64 * 2 ^ 24) ++ List.replicate 9 0xFF
theorem flitOk_of (f : Flit) (ns : List Nat) (fin : Nat) (hl : f.bytes.length = 256) (h : foldSteps crc64Byte fin (f.bytes.take 248) (2 ^ 64 - 1) ns = true)
    (hc : leAt f.bytes 248 8 = Nat.xor fin (2 ^ 64 - 1)) : flitOk f = true := by
  unfold flitOk; rw [crc64_eq, fold_of_steps _ fin ns _ _ h, hl, hc]; simp
def flData : Flit := fl (5 + 2 ^ 26) [] 3502191879073857801
def flAck : Flit := fl (3 * 2 ^ 12 + 2 ^ 24) [] 2522414574730140526
def flNak : Flit := fl (3 * 2 ^ 12 + 2 ^ 24 + 2 ^ 25) [] 8801348187358045571
def flMap : Flit := fl (2 * 2 ^ 26) (mapPay 1) 4463174190131334157
def flMapack : Flit := fl (2 * 2 ^ 26) (mapPay 2) 5531135314559213092
def flRetrain : Flit := fl (2 * 2 ^ 26) (mapPay 3) 11708387174364954034
def flRetrainack : Flit := fl (2 * 2 ^ 26) (mapPay 4) 12585129162778098294
theorem flData_ok : flitOk flData = true :=
  flitOk_of _ [9631328132613918685, 1639284380199118758, 12285628890633765129, 14944552194635693814] 14944552194635693814 (by decide +kernel) (by decide +kernel) (by decide +kernel)
theorem flAck_ok : flitOk flAck = true :=
  flitOk_of _ [7654163736194540932, 2823767437746975905, 10901181546431411116, 15924329498979411089] 15924329498979411089 (by decide +kernel) (by decide +kernel) (by decide +kernel)
theorem flNak_ok : flitOk flNak = true :=
  flitOk_of _ [7515586618093430466, 12899677400586300572, 6521146527167181897, 9645395886351506044] 9645395886351506044 (by decide +kernel) (by decide +kernel) (by decide +kernel)
theorem flMap_ok : flitOk flMap = true :=
  flitOk_of _ [11404214921283235024, 12218364021702678263, 6530182831125387132, 13983569883578217458] 13983569883578217458 (by decide +kernel) (by decide +kernel) (by decide +kernel)
theorem flMapack_ok : flitOk flMapack = true :=
  flitOk_of _ [13185499525148228626, 7180268555880017230, 4358456915101410034, 12915608759150338523] 12915608759150338523 (by decide +kernel) (by decide +kernel) (by decide +kernel)
theorem flRetrain_ok : flitOk flRetrain = true :=
  flitOk_of _ [8014561277490520541, 2717474784232143833, 16108667148973270009, 6738356899344597581] 6738356899344597581 (by decide +kernel) (by decide +kernel) (by decide +kernel)
theorem flRetrainack_ok : flitOk flRetrainack = true :=
  flitOk_of _ [16682181872839040406, 13060371965239192751, 17418611462463654382, 5861614910931453321] 5861614910931453321 (by decide +kernel) (by decide +kernel) (by decide +kernel)

def vfs3 (v : Ctx) (tags : Tab (Option TagSt)) : State :=
  withDev (fun d => { d with host := { d.host with ctxs := [(0, v)], vfs := 3, tags := tags } })
theorem witness_ContextsAndFunctionsComeAndGo :
    (let s := vfs3 { Ctx.init with func := 3 } []; let v := s.d.ctx 0; v.func = 3 ∧ v.func ≠ 0 ∧ s.d.funcOn 3 = true ∧ v.phase = .disabled ∧ v.phase ≠ .active ∧ v.eqLost = false ∧
      v.sqBase % 4096 = 0 ∧ v.cqBase % 4096 = 0 ∧ v.eqBase % 4096 = 0 ∧ 6 ≤ fld v.ringSize 3 0 ∧ 6 ≤ fld v.ringSize 11 8 ∧ 4 ≤ fld v.ringSize 19 16 ∧ fld v.ringSize 19 16 ≤ 12 ∧
      bit v.irq 31 = false ∧ v.swapBase % 16384 = 0 ∧ v.swapBase + v.swapSize * 16384 ≤ 2 ^ 64) ∧
    (let s := vfs3 { Ctx.init with func := 3, sqBase := 64 } []; (s.d.ctx 0).sqBase % 4096 ≠ 0) ∧
    (∀ l ∈ [[], [7]], let s := vfs3 { ctxA with func := 3, open_ := l } []; let v := s.d.ctx 0; v.func = 3 ∧ v.phase = .active ∧ v.open_ = l ∧ v.fetching = 0 ∧ 2 ≤ v.eqFree ∧ v.eqLost = false) ∧
    (let s := vfs3 { ctxA with phase := .resetPending, quarEnd := 5 } []; let v := s.d.ctx 0; v.phase = .resetPending ∧ s.d.readsOf 0 = false ∧ ¬ v.quarEnd ≤ hostNow s.env ∧
      v.quarEnd ≤ hostNow (withTime 5 s).env ∧ v.waitTags = []) ∧
    ((0 : CtxId).val = fld (up.env.reg 0x4300) 11 0 ∧ fld (0x20005 : Word).toNat 8 0 = 5 ∧ fld (0x20005 : Word).toNat 19 16 = 2 ∧ (up.d.ctx 0).phase = .disabled ∧
      (∀ x : CtxId, (up.d.ctx x).func = 0)) ∧
    (let s := withDev (fun d => { d with host := { d.host with ctxs := [(9, { Ctx.init with func := 5, loc := 2 })] } }); (9 : CtxId) ≠ 0 ∧ (s.d.ctx 9).func.val = 5 ∧ (s.d.ctx 9).loc = 2) ∧
    (up.d.host.perst = false ∧ State.reset.d.host.perst = true ∧ up.d.host.vfs = 0 ∧ (vfs3 ctxA []).d.host.vfs ≠ 0 ∧ up.d.funcOn 3 = false) ∧
    (let t : TagSt := { func := 3, use := .fetch 0 1, page := 12, at_ := 0, quar := none, timedOut := false }; let s := vfs3 ctxA [(0, some t)];
      s.d.funcOn 3 = true ∧ s.d.host.inval = [] ∧ tget s.d.host.tags none 0 = some t) ∧
    (vfs3 ctxA []).d.host.tags = [] ∧ up.d.funcOn 0 = true ∧ (vfs3 ctxA []).d.funcOn 3 = true ∧
    (∀ k ∈ [ResetKind.cmd, .bme, .flr, .pfFlr], let s := withTime 5 (vfs3 { ctxA with phase := .resetPending, quarEnd := 5, reset := some k } []); let v := s.d.ctx 0;
      v.phase = .resetPending ∧ s.d.readsOf 0 = false ∧ v.quarEnd ≤ hostNow s.env ∧ v.waitTags = [] ∧ v.reset = some k) ∧
    (let t : TagSt := { func := 3, use := .translate 3 9, page := 9, at_ := 0, quar := none, timedOut := false }; let s := vfs3 ctxA [(0, some t)];
      tget s.d.host.tags none 0 = some t ∧ bit (leAt (padTo 8 [3]) 0 8) 0 = true ∧ (s.d.ctx 0).phase = .active) := by
  refine ⟨?_, ?_, ?_, ?_, ⟨?_, ?_, ?_, ?_, fun x => rfl⟩, ?_, ?_, ?_, ?_, ?_, ?_, ?_, ?_⟩ <;> decide +kernel

/-- Link 5 with its two ends, at a tick count. -/
def linkUp (ph : LinkPhase) (b h : EndSt) (now : Nat) : State :=
  withTime now (withDev (fun d => { d with lnk := { d.lnk with links := d.lnk.links.set 5 { LinkSt.init with phase := ph, basin := b, half := h }, wcap := 64 } }))
def endUp : EndSt := { EndSt.init with good := BitVec.allOnes 66, rxMap := BitVec.allOnes 66, width := 64, txMap := BitVec.allOnes 66, txWidth := 64 }
def prop0 (retrain : Bool) : Proposal := { retrain := retrain, pc := 7, width := 64, good := BitVec.allOnes 66, oldWidth := 64, oldGood := BitVec.allOnes 66, since := 0, last := 0 }
theorem witness_LinkFlitsAreNumberedAndReplayed :
    ((linkUp .down endUp endUp 0).d.link 5).phase ≠ .up ∧ ((linkUp .up endUp endUp 0).d.link 5).phase = .up ∧ flitOk { bytes := [] } = false ∧
    (GoodFlit flData 1 ∧ fld (flitHdr flData) 11 0 = 5) ∧
    (∀ p ∈ [(5, 0), (6, 1), (2052, 2047), (2053, 2048), (4, 4095)], let v := ((linkUp .up { endUp with exp := p.1 } endUp 0).d.link 5).at_ .basin;
      (v.exp + 4096 - fld (flitHdr flData) 11 0) % 4096 = p.2 ∧ v.exp < 4096 ∧ v.nakAt = none) ∧
    (∀ n ∈ [5, 6], let far := ((linkUp .up endUp { endUp with next := n } 0).d.link 5).at_ (endOther .basin); far.next = n ∧ ¬ (far.next = 5 ∧ 2047 ≤ far.unacked)) ∧
    ((withFab (fun f => { f with fenced := f.fenced.set 1 true })).d.fab.fenced[linkHalf 5] = true ∧ up.d.fab.fenced[linkHalf 5] = false) ∧
    (GoodFlit flAck 0 ∧ GoodFlit flNak 0 ∧ bit (flitHdr flAck) 24 = true ∧ bit (flitHdr flNak) 24 = true ∧ bit (flitHdr flNak) 25 = true ∧ bit (flitHdr flAck) 25 = false) ∧
    (∀ p ∈ [(5, 3), (4, 2), (3, 1)], let v := ((linkUp .up { endUp with next := p.1, buf := List.replicate 2 [] } endUp 0).d.link 5).at_ .basin;
      decide ((fld (flitHdr flAck) 23 12 + 4096 - v.oldest) % 4096 < v.unacked) = decide (p.1 ≠ 3)) ∧
    (GoodCtl flMap 1 ∧ GoodCtl flMapack 2 ∧ GoodCtl flRetrain 3 ∧ GoodCtl flRetrainack 4) ∧
    (leAt flMap.bytes 10 1 = rxDir (endOther .half) ∧ leAt flMap.bytes 11 1 = 64 ∧ leAt flMapack.bytes 9 1 = 7 ∧ leAt flRetrainack.bytes 9 1 = 7 ∧
      afterAck endUp (flitHdr flMap) 0 = endUp ∧ endUp.prop = none ∧ afterAck { endUp with prop := some (prop0 false) } (flitHdr flMapack) 0 = { endUp with prop := some (prop0 false) } ∧
      chooseWidth 64 (lanesGood endUp.good) = endUp.width ∧ ∀ i ∈ lanesUsed endUp.rxMap endUp.width, endUp.good.getLsbD i = true) ∧
    (({ endUp with prop := some (prop0 true) } : EndSt).retraining = true ∧ ({ endUp with prop := some (prop0 false) } : EndSt).retraining = false ∧
      (∀ v ∈ [endUp, { endUp with prop := some (prop0 true) }, { endUp with prop := some (prop0 false) }], afterAck v (flitHdr flRetrain) 0 = v) ∧
      chooseWidth 64 (lanesGood 0) = 0) ∧
    ((prop0 true).retrain = true ∧ (prop0 true).pc = 7 ∧ (prop0 false).retrain = false ∧ (prop0 false).pc ≠ 8) ∧
    (∀ n ∈ [0, 1, 10], let s := linkUp .up { endUp with prop := some (prop0 false) } endUp n; ((s.d.link 5).at_ .basin).prop = some (prop0 false) ∧ s.time.ticks = n) ∧
    (∀ n ∈ [0, 1000], let s := linkUp .up { endUp with next := 1, buf := [[]] } endUp n; ((s.d.link 5).at_ .basin).unacked ≠ 0 ∧
      decide (((s.d.link 5).at_ .basin).timer + lnkLimit s.env ≤ s.time.ticks) = decide (n = 1000)) := by
  unfold GoodCtl GoodFlit
  refine ⟨?_, ?_, ?_, ⟨⟨flData_ok, ?_⟩, ?_⟩, ?_, ?_, ?_, ⟨⟨flAck_ok, ?_⟩, ⟨flNak_ok, ?_⟩, ?_⟩, ?_,
    ⟨⟨⟨flMap_ok, ?_⟩, ?_⟩, ⟨⟨flMapack_ok, ?_⟩, ?_⟩, ⟨⟨flRetrain_ok, ?_⟩, ?_⟩, ⟨flRetrainack_ok, ?_⟩, ?_⟩, ?_, ?_, ?_, ?_, ?_⟩ <;> decide +kernel

/-- A half that is fenced, with what its return needs. -/
def fencedBack (h : Bool) : State :=
  let l := { up.d.lnk with cause := up.d.lnk.cause.set 0 (some .reset), links := up.d.lnk.links.map (fun l => { l with phase := if h then .up else .failed }) }
  withDev (fun d => { d with fab := { d.fab with fenced := d.fab.fenced.set 0 true }, lnk := l })
def trunks (j : Bool) : State := withDev (fun d => { d with lnk := { d.lnk with trunkOk := d.lnk.trunkOk.set 1 j } })
theorem witness_LinksTrainFailAndHalvesAreFenced :
    (endUp.good.getLsbD 65 = true ∧ ({ endUp with good := 0 } : EndSt).good.getLsbD 65 = false) ∧
    (let v := endUp; let good := v.good &&& ~~~(BitVec.ofNat 66 (2 ^ 65)); chooseWidth 64 (lanesGood good) = v.width ∧ v.width ≠ 0 ∧ v.prop = none ∧ ∀ i ∈ lanesUsed v.rxMap v.width, good.getLsbD i = true) ∧
    (let v := endUp; let good := v.good &&& ~~~(BitVec.ofNat 66 (2 ^ 0)); chooseWidth 64 (lanesGood good) ≠ 0 ∧ ∃ i ∈ lanesUsed v.rxMap v.width, good.getLsbD i = false) ∧
    (let v := { endUp with good := BitVec.ofNat 66 0xFFFF, rxMap := BitVec.ofNat 66 0xFFFF, width := 16 }; let good := v.good &&& ~~~(BitVec.ofNat 66 (2 ^ 15));
      v.good.getLsbD 15 = true ∧ chooseWidth 64 (lanesGood good) = 0 ∧ lanesGood good < v.width) ∧
    (let v := endUp; v.width ≤ lanesGood (v.good &&& ~~~(BitVec.ofNat 66 (2 ^ 63))) ∧ 63 ∈ lanesUsed v.rxMap v.width ∧ 64 ∉ lanesUsed v.rxMap v.width) ∧
    (let l := (linkUp .down endUp endUp 0).d.link 5; l.phase = .down ∧ l.clockLost = false ∧ (linkUp .down endUp endUp 0).d.lnk.wcap ≠ 0 ∧ up.d.lnk.wcap = 0) ∧
    (∀ n ∈ [999999, 1000000], let s := linkUp .failed endUp endUp n; (s.d.link 5).phase = .failed ∧ s.d.lkkRuns = true ∧ s.d.lnk.wcap ≠ 0 ∧
      decide ((s.d.link 5).failedAt + 1000000 ≤ s.time.ticks) = decide (n = 1000000)) ∧
    (∀ ph ∈ [LinkPhase.training, .recovery], ((linkUp ph endUp endUp 0).d.link 5).phase = ph) ∧
    (chooseWidth 64 (lanesGood (BitVec.ofNat 66 0xFFFF &&& State.reset.fuse.linkOk 5 0)) ≠ 0 ∧ chooseWidth 64 (lanesGood (BitVec.ofNat 66 0x7FFF &&& State.reset.fuse.linkOk 5 1)) = 0) ∧
    (let s := linkUp .training endUp endUp 0; (s.d.link 5).retry = false ∧ (s.d.link 5).tries + 1 < retrainMax s.env ∧ retrainMax s.env ≤ retrainMax s.env - 1 + 1 ∧
      (6 : LinkId) ≠ 5 ∧ linkHalf 6 = linkHalf 5 ∧ (s.d.link 6).phase ≠ .failed) ∧
    (up.d.fab.fenced[(0 : HalfId)] = false ∧ ∀ p ∈ up.d.liveSeqs, p.2.kst ≠ 5) ∧
    (∀ j ∈ [false, true], (trunks j).d.lnk.trunkOk[(0 : Fin 4)] = true ∧ (trunks j).d.lnk.trunkOk[(1 : Fin 4)] = j ∧ (trunks j).d.lnk.trunk[(0 : HalfId)] = 0) ∧
    (let s := withDev (fun d => { d with lnk := { d.lnk with links := (d.lnk.links.map (fun l => { l with phase := .failed })).set 2 { LinkSt.init with phase := .up } } });
      linkHalf 2 = 0 ∧ (s.d.link 2).phase = .up ∧ s.d.fab.fenced[(0 : HalfId)] = false ∧ (∀ p ∈ s.d.liveSeqs, p.2.kst ≠ 5) ∧ ∀ m : LinkId, m ≠ 2 → linkHalf m = 0 → (s.d.link m).phase = .failed) ∧
    (∀ h ∈ [false, true], let s := fencedBack h; s.d.fab.fenced[(0 : HalfId)] = true ∧ s.d.lnk.cause[(0 : HalfId)] ≠ some .mesh ∧ s.d.thm.tripped = false ∧ s.d.outOfReset 0 = true ∧
      s.d.linksConcluded 0 = h ∧ s.d.lnk.trunk[(0 : HalfId)] ≠ 2 ∧ s.d.fab.mapValid = true ∧ s.d.halfTested 0 = true ∧
      s.d.railsUp 0 = true ∧ s.d.lkk.migWait = [] ∧ s.d.lkk.migHeld = []) ∧
    (withDev (fun d => { d with pwr := { d.pwr with banks := [] } })).d.railsUp 0 = false ∧
    (up.d.lkkRuns = true ∧ up.d.lnk.t2.up = false ∧ up.d.lnk.t2.clock = true ∧ 0x200000 % 256 = 0 ∧ 2 * 0x200000 ≤ 0x400000 ∧ 256 ≤ 256 ∧ 256 + 512 < 0x400000) ∧
    (let s := withDev (fun d => { d with lnk := { d.lnk with t2 := { d.lnk.t2 with up := true } } }); s.d.lnk.t2.up = true) ∧
    (∀ n ∈ [0, 1000000], let s := withTime n (svcUp (fun v => { v with moves := [move0 .tier2 .t2Return 1] })); s.d.pickMove .tier2 = some (0, move0 .tier2 .t2Return 1) ∧ s.d.seq 0 = none ∧
      decide (0 + t2Limit s.env ≤ blockTicks s.time .barge) = decide (n = 1000000)) ∧
    (∀ k ∈ [1, 2], let v := { seqG with groups := [gq 4 0] }; let s := svcUp (fun w => live v { w with t2Acks := [(0, 0, k)] });
      s.d.svc.t2Acks = [(0, 0, k)] ∧ s.d.seq 0 = some v ∧ v.groups.find? (fun g => g.pos0 == 0 && g.gst == 4) = some (gq 4 0) ∧ s.d.belowLow s.env = false ∧ s.d.svc.reclaiming = false) := by
  and_intros <;> decide +kernel

/-- Port 3 with its configuration, its state, and queue pair 8191 with a record. -/
def netUp (cfg : Nat) (p : Port) (q : Qp) : State :=
  withDev (fun d => { d with regs := [(0x2000C0, cfg)], net := { d.net with ports := d.net.ports.set 3 p, qps := [(8191, q)] } })
def portUp : Port := { Port.init with up := 1, locked := 0xFF }
/-- A record in a state, with bits of word 0, on port 3, with SIP and DIP 5 and 6, MTU 4096, and V6 or not. -/
def qpRec (word0 : Nat) (v6 : Bool) : Qp := { Qp.init with rcd := word0 + 3 * 2 ^ 10 + 5 * 2 ^ 56 + b2n v6 * 2 ^ 62 + 5 * 2 ^ 256 + 6 * 2 ^ 384 + 2 * 2 ^ 149 }
theorem witness_PortsLanesAndClocks :
    ((1 : FuncId) ≠ 0 ∧ Keeps (portCfg (netUp 0 portUp Qp.init).env 3) 0xC0000000 ∧ ¬ Keeps (portCfg (netUp 0x80000000 portUp Qp.init).env 3) 0xC0000000 ∧
      Keeps (portCfg (netUp 0x80000000 portUp Qp.init).env 3) 0x80010000 ∧ (0x80000000 : Word).getLsbD 31 = true ∧ (0 : Word).getLsbD 31 = false) ∧
    (let s := netUp 0xC0000000 portUp Qp.init; portEn s.env 3 = true ∧ portSplit s.env 3 = true ∧ (s.d.port 3).dark = false ∧ (s.d.port 3).clkLost = false) ∧
    (portEn (netUp 0 portUp Qp.init).env 3 = false) ∧
    (∀ n ∈ [0, 7], (portUp.locked.getLsbD n = true)) ∧ Port.init.locked.getLsbD 7 = false ∧
    (∀ b ∈ [false, true], let s := netUp 0 portUp (qpRec 1 b); s.d.subUp 3 0 = true ∧ s.d.subUp 3 1 = false ∧
      ∃ p ∈ s.d.net.qps, p.2.state = 1 ∧ p.2.port = 3 ∧ p.2.sub = 0 ∧ p.2.f 4 30 30 = b2n b ∧ p.2.sip = 5) ∧
    (∀ p ∈ (netUp 0 portUp (qpRec 1 false)).d.net.qps, p.2.sip ≠ 9) ∧
    (let s := netUp 0x80800000 { portUp with pause := portUp.pause.set 7 (some 20) } Qp.init; bit (portCfg s.env 3) (16 + 7) = true ∧ bit (portCfg s.env 3) (16 + 6) = false ∧
      (s.d.port 3).pause[(7 : Fin 8)] = some 20 ∧ netNow s.env < 20 ∧ 20 ≤ netNow (withTime 20 s).env ∧ (s.d.port 3).pause[(6 : Fin 8)] = none) ∧
    (let s := withDev (fun d => { d with regs := [(0x201010, 0x543)], net := { d.net with ports := d.net.ports.set 3 portUp } }); let c := s.env.reg 0x201010;
      bit c 6 = true ∧ fld c 3 0 = (3 : PortId).val ∧ fld c 4 4 = (0 : Fin 2).val ∧ fld c 15 8 = (5 : Byte).toNat ∧ bit c 7 = false ∧ s.d.subUp 3 0 = true ∧ s.d.net.ptp.clkLost = false ∧ s.d.lkkRuns = true) ∧
    (bit (up.env.reg 0x201010) 6 = false) ∧
    ((100 : Int).natAbs ≤ 100 ∧ 100 < (-101 : Int).natAbs ∧ (1000 : Int).natAbs ≤ 1000 ∧ 1000 < (-1001 : Int).natAbs) := by
  unfold Keeps
  and_intros <;> decide +kernel

def pkt (opcode : Byte) (psn : BitVec 24) (syn : Byte) : RocePkt :=
  { port := 3, sub := 0, src := 6, dst := 5, opcode := opcode, qp := 8191, psn := psn, ackReq := true, ce := false, good := true, syndrome := syn, msn := 0, va := 0, rkey := 0
    dmaLen := 0, imm := 0, payload := [1, 2, 3, 4] }
def work0 : WorkReq := { write := false, imm := none, va := 0, rkey := 0, bytes := [1], psn := 0, packets := 2, export_ := none }
/-- Queue pair 8191 in RTS for the collective engine, next to send PSN 2 with one message of two packets unacknowledged. -/
def qpRts : Qp := { qpRec (1 + 2 * 16) false with rcd := (qpRec (1 + 2 * 16) false).rcd + 2 * 2 ^ 64, out := [work0] }
def qpUd : Qp := { qpRec (1 + 8 + 2 * 16) false with una := 0 }
/-- The receive buffer of queue pair 8191 holds n bytes, with PFC of its priority or not. -/
def rxUp (pfc n : Nat) : State := netUp (0x80000000 + pfc * 2 ^ 16) portUp { qpRts with rx := n }
theorem rx_fill (pfc n : Nat) : (rxUp pfc n).d.rxFill 3 ({ qpRts with rx := n } : Qp).prio = n := by
  have hp : ({ qpRts with rx := n } : Qp).port = 3 := (by decide +kernel : qpRts.port = 3)
  have hq : (rxUp pfc n).d.net.qps = [(8191, { qpRts with rx := n })] := rfl
  unfold Dev.rxFill; rw [hq]; simp [hp]
theorem witness_QueuePairsCarryAndRetry :
    (pfcEn (rxUp 0 0).env 3 ((rxUp 0 0).d.qp 8191).prio = false ∧ Config.portBuffer < (rxUp 0 Config.portBuffer).d.rxFill 3 ({ qpRts with rx := Config.portBuffer } : Qp).prio + 4) ∧
    (pfcEn (rxUp 1 Config.rxBuffer).env 3 ((rxUp 1 Config.rxBuffer).d.qp 8191).prio = true ∧ ((rxUp 1 Config.rxBuffer).d.qp 8191) = { qpRts with rx := Config.rxBuffer } ∧ Config.rxBuffer < ({ qpRts with rx := Config.rxBuffer } : Qp).rx + 4) ∧
    (pfcEn (rxUp 1 0).env 3 ((rxUp 1 0).d.qp 8191).prio = true ∧ ¬ Config.rxBuffer < ({ qpRts with rx := 0 } : Qp).rx + ({ pkt 4 0 0 with payload := [] } : RocePkt).payload.length) ∧
    (∀ n ∈ [0, 1], Reaches (rxUp n 0) (pkt 4 0 0) 8191 ∧ ((rxUp n 0).d.qp 8191).nakSent = false) ∧
    (∀ p ∈ [(pkt 0x11 0 0), { pkt 0x11 0 0x60 with qp := 8191 }], let s := netUp 0 portUp qpRts; Reaches s p 8191 ∧ p.psn.toNat = (s.d.qp 8191).una ∧ (s.d.qp 8191).una < 2 ^ 24 ∧
      ∀ r ∈ s.d.net.qps, r.2.wait = []) ∧
    (let w := { work0 with export_ := some (0, 7) }
      let x : Export := { ctx := 0, dsn := 7, tag := 1, seq := 0, dest := 1, addr := 0, qpn := 8191, rkey := 0, release := false, left := 0, bytes := 4, waiting := true }
      let s := (fun s : State => { s with d := { s.d with svc := { s.d.svc with exports := [x] } } }) (netUp 0 portUp { qpRts with out := [w] });
      x ∈ s.d.svc.exports ∧ w ∈ (s.d.qp 8191).out ∧ w ∉ (s.d.qp 8191).out.dropWhile (fun w => decide (psnDist 0 (w.psn + w.packets - 1) ≤ 1)) ∧
      w.export_ = some (x.ctx, x.dsn) ∧ (s.d.qp 8191).wait = []) ∧
    (let s := netUp 0 portUp (qpRec 0 false); let q := s.d.qp 8191; let w := q.setF 0 31 0 (0xC21 : Word).toNat; q.state = 0 ∧ fld (0xC21 : Word).toNat 2 0 = 1 ∧ GoodRecord w (portSplit s.env w.port)) ∧
    (let s := netUp 0 portUp (qpRec 0 false); let w := (s.d.qp 8191).setF 0 31 0 (0x4C21 : Word).toNat; ¬ GoodRecord w (portSplit s.env w.port)) ∧
    (let s := netUp 0 portUp qpRts; (s.d.qp 8191).state ≠ 0 ∧ fld (0 : Word).toNat 2 0 = 0 ∧ ∀ r ∈ (s.d.qp 8191).out ++ (s.d.qp 8191).wait, r.export_ = none) ∧
    (∀ i : QpId, ¬ Reaches up (pkt 4 0 0) i) ∧
    (∀ n ∈ [0, 0xFFFFFF, 0x800000, 0x7FFFFF], let s := netUp 0 portUp qpRts; let p := pkt 4 (BitVec.ofNat 24 n) 0;
      Reaches s p 8191 ∧ p.ce = false ∧ p.opcode.toNat ≤ 5 ∧ (s.d.qp 8191).owner = 2 ∧ (s.d.qp 8191).ud = false ∧
      (p.psn.toNat + 2 ^ 24 - (s.d.qp 8191).rqPsn) % 2 ^ 24 = n) ∧
    (Reaches (netUp 0 portUp qpRts) (pkt 6 0 0) 8191 ∧ ¬ (pkt 6 0 0).opcode.toNat ≤ 5 ∧ (pkt 6 0 0).opcode.toNat ≤ 0x0C) ∧
    (let s := netUp 0 portUp qpUd; Reaches s (pkt 0x64 0 0) 8191 ∧ (s.d.qp 8191).ud = true ∧ (s.d.qp 8191).owner = 2) ∧
    (ccEn (netUp 0 portUp qpRts).env = true ∧ ccEn (withDev (fun d => { d with regs := [(0x201000, 0)] })).env = false) ∧
    (∀ p ∈ [(0, true), (1, true), (2, false)], let q := (netUp 0 portUp qpRts).d.qp 8191; (pkt 0x11 0 0).syndrome.toNat / 32 = 0 ∧
      decide (psnDist q.una p.1 < psnDist q.una q.sqPsn) = p.2 ∧ ∀ r ∈ q.out, r.export_ = none) ∧
    (∀ n ∈ [0, 2], let q := { qpRts with tries := n }; q.una = 0 ∧ q.wait = [] ∧ decide (q.tries < q.retry) = decide (n = 0) ∧ q.out ≠ []) ∧
    ((pkt 0x11 0 0x61).syndrome.toNat / 32 = 3 ∧ (pkt 0x11 0 0x61).syndrome ≠ 0x60) ∧
    (∀ n ∈ [0, 2], let s := withTime 9 (netUp 0 portUp { qpRts with tries := n }); let q := s.d.qp 8191; q.state = 1 ∧ q.ud = false ∧ q.out ≠ [] ∧ q.rnr = none ∧
      q.sentAt + cdiv (4096 * 2 ^ Nat.max 1 (q.f 0x10 20 16)) 1000 ≤ netNow s.env ∧ decide (q.tries < q.f 0x10 23 21) = decide (n = 0)) ∧
    (let s := withTime 8 (netUp 0 portUp qpRts); ¬ (0 + cdiv (4096 * 2 ^ Nat.max 1 ((s.d.qp 8191).f 0x10 20 16)) 1000 ≤ netNow s.env)) ∧
    (let s := withTime 7 (netUp 0 portUp { qpRts with rnr := some 7, cnpSent := some 7 }); (s.d.qp 8191).rnr = some 7 ∧ 7 ≤ netNow s.env ∧ (s.d.qp 8191).wait = [] ∧
      netNow s.env < 7 + fld (s.env.reg 0x201000) 7 0 ∧ 7 + fld (s.env.reg 0x201000) 7 0 ≤ netNow (withTime 1000 s).env) ∧
    (let s := withTime 1000 (netUp 0 portUp qpRts); (s.d.qp 8191).incAt + ccInc s.env ≤ netNow s.env ∧ ¬ (s.d.qp 8191).incAt + ccInc s.env ≤ 0) := by
  have none : ∀ i : QpId, ¬ Reaches up (pkt 4 0 0) i := fun i h => by have h2 := h.2.2.2.1; rw [show up.d.qp i = Qp.init from rfl] at h2; exact absurd h2 (by decide +kernel)
  have grows : ∀ (k : Nat), k < k + 4 := fun k => by omega
  refine ⟨⟨by decide +kernel, by rw [rx_fill]; exact grows _⟩, ⟨by decide +kernel, rfl, grows _⟩, ⟨by decide +kernel, Nat.not_lt_zero _⟩, ?_, ?_, ?_, ?_, ?_, ?_, none, ?_, ?_, ?_, ?_, ?_, ?_, ?_, ?_, ?_, ⟨?_, ?_⟩⟩ <;> (try unfold GoodRecord) <;> (try unfold Reaches) <;> decide +kernel

/-- Group 5: this device is rank 1 of three, with RC queue pairs 100 and 102 to the others. -/
def grp1 : CollGroup :=
  { CollGroup.init with gstate := 2, rank := 1, n := 3, level := 2, udq := 8191, gid := 77, members := [(0, 0x8064), (2, 0x8066)] }
def op0 : CollOp :=
  { group := 5, opSeq := 9, op := 1, bf16 := false, localN := 1, elems := 2, root := 0, since := some 0, contribs := [], slices := []
    partials := [], results := [], sent := [], gathers := [] }
def collUp (g : CollGroup) (os : List CollOp) : State :=
  let eng := qpRec (1 + 2 * 16) false
  withDev (fun d => { d with net := { d.net with groups := [(5, g)], ops := os, qps := [(100, eng), (102, eng), (8191, qpUd)], ports := d.net.ports.set 3 portUp } })
def msgHdr (mtype rank : Nat) (o : CollOp) : BitVec 256 := BitVec.ofNat 256 (leNat (opHeader mtype 2 5 rank o 0 0))
/-- A HELLO of a rank with levels and GROUP_ID. -/
def helloHdr (rank lo hi gid : Nat) : BitVec 256 := BitVec.ofNat 256 (1 + rank * 2 ^ 24 + gid * 2 ^ 128 + lo * 2 ^ 192 + hi * 2 ^ 200 + 3 * 2 ^ 208)
/-- A slice for operation 9 of group 5: op, LOCAL_N, IDX, ELEMS, OFF, N, with RET_SD and STATUS_SD 0x1000 and 0x2000. -/
def sliceHdr (op localN idx elems off n : Nat) : BitVec 256 :=
  BitVec.ofNat 256 (op + 5 * 2 ^ 8 + localN * 2 ^ 16 + 9 * 2 ^ 32 + idx * 2 ^ 64 + elems * 2 ^ 96 + off * 2 ^ 128 + n * 2 ^ 160 + 0x1000 * 2 ^ 192 + 0x2000 * 2 ^ 224)
def gathering : CollGroup := { grp1 with gstate := 1, level := 0, helloAt := 5 }
def loc0 : CollOp := { op0 with localN := 2, contribs := [{ idx := 0, tile := 49, sem := 0, retSd := 0x1000, statusSd := 0x2000 }], slices := [(0, 0, [0x3F800000, 0x40000000])] }
def alone : CollGroup := { grp1 with rank := 0, n := 1, members := [] }
def early : CollOp := { op0 with since := none }
theorem witness_CollectivesRunOrFail :
    (let s := collUp grp1 []; let q := s.d.qp (qpFin grp1.udq); q.state = 1 ∧ q.ud = true ∧ q.owner = 2 ∧ s.d.subUp q.port q.sub = true ∧ s.d.collQuiet = false ∧
      Collective s (grp1.memberQp 2) ∧ Collective s (grp1.memberQp 0)) ∧
    (let s := collUp grp1 []; ({ s.d with lkk := { s.d.lkk with op := some (.quiet { done := [], rest := [], fails := [], mbx := false, revert := false, since := 0 }) } } : Dev).collQuiet = true) ∧
    (let s := collUp { grp1 with gstate := 0 } []; (s.d.group 5).gstate ≠ 2 ∧ s.d.collOp 5 9 = none ∧ Collective s 100 ∧ (s.d.qp 100).state = 1) ∧
    ((1 : FuncId) ≠ 0 ∧ (collUp grp1 [op0]).d.net.held = [] ∧ (collUp grp1 []).d.group 5 = grp1 ∧ ∃ r ∈ List.range grp1.n, r < grp1.n ∧ r ≠ grp1.rank) ∧
    (let s := withTime 1005 (collUp gathering []); gathering.gstate = 1 ∧ gathering.helloAt + 1000 ≤ blockTicks s.time .collective ∧
      blockTicks (withTime 1004 s).time .collective < gathering.helloAt + 1000) ∧
    (let s := collUp gathering []; let good := fun h : Nat => hw h 0 23 22 = 0 ∧ hw h 2 15 3 = 0 ∧ hw h 2 31 26 = 0 ∧ hw h 6 31 23 = 0 ∧ hw h 0 7 0 = 1
      (∀ t ∈ [(0, 77), (2, 77), (2, 78)], let h := (helloHdr t.1 1 2 t.2).toNat
        good h ∧ hw h 0 31 24 < (s.d.group 5).n ∧ hw h 0 31 24 ≠ (s.d.group 5).rank ∧ decide (hw h 6 22 16 = grp1.n ∧ fld h 191 128 = grp1.gid) = decide (t.2 = 77)) ∧
      ¬ good (helloHdr 0 1 2 77 + BitVec.ofNat 256 (2 ^ 23)).toNat ∧ grp1.n ≤ hw (helloHdr 3 1 2 77).toNat 0 31 24 ∧ hw (helloHdr 1 1 2 77).toNat 0 31 24 = grp1.rank ∧
      (∃ k ∈ List.range 3, k < 3 ∧ k ≠ 1 ∧ ∀ x ∈ [({ rank := 0, min := 1, max := 2 } : Heard)], x.rank ≠ k) ∧
      (∀ k ∈ List.range 3, k < 3 → k ≠ 1 → ∃ x ∈ [({ rank := 0, min := 1, max := 2 } : Heard), { rank := 2, min := 1, max := 2 }], x.rank = k)) ∧
    (let s := collUp grp1 []; (∀ t ∈ [(1, 1, 0), (512, 511, 1)], let h := (sliceHdr 1 t.1 t.2.1 2 0 2).toNat; let o := sliceOp 5 h
        groupFin (hw h 0 13 8) = 5 ∧ hw h 1 31 0 = 9 ∧ s.d.collOp 5 9 = none ∧ s.d.net.ops = [] ∧ s.d.net.doomed = [] ∧ s.d.fab.fenced[tileHalf 48] = false ∧
        sliceReserved h = false ∧ (s.d.group 5).gstate = 2 ∧ levelOk (s.d.group 5).level o = true ∧ o.elems = 2 ∧
        (∀ r ∈ List.range 3, r ≠ 1 → (s.d.qp ((s.d.group 5).memberQp r)).state ≠ 2) ∧ decide (hw h 2 9 0 < o.localN) = decide (t.2.2 = 1) ∧
        1 ≤ o.localN ∧ o.localN ≤ 512 ∧ 2 * o.width ≤ 992 ∧ 0 + 2 ≤ o.elems ∧ hw h 6 20 0 + o.elems * o.width ≤ 0x1FF000 ∧ hw h 7 20 0 + 8 ≤ 0x1FF000) ∧
      (s.d.group 4).gstate ≠ 2 ∧ sliceReserved ((sliceHdr 1 2 0 2 0 2).toNat + 8) = true ∧ hw ((sliceHdr 1 2 0 2 0 2).toNat + 8) 0 7 3 ≠ 0) ∧
    (let s := withFab (fun f => { f with fenced := Vector.replicate 2 true }); s.d.fab.fenced[tileHalf 48] = true ∧ s.d.collOp 5 9 = none) ∧
    (let s := collUp alone [loc0]; let h := (sliceHdr 1 2 1 2 0 2).toNat; let bs : List Byte := [0, 0, 0x80, 0x3F, 0, 0, 0, 0x40]
      let c : Contrib := { idx := 1, tile := 48, sem := 0, retSd := 0x1000, statusSd := 0x2000 }
      let o' := { loc0 with contribs := loc0.contribs ++ [c], slices := loc0.slices ++ [(1, 0, (List.range 2).map (fun i => leAt bs (4 * i) 4))] }
      sliceReserved h = false ∧ s.d.collOp 5 9 = some loc0 ∧ levelOk (s.d.group 5).level loc0 = true ∧ (∀ y ∈ loc0.contribs, y.tile ≠ 48) ∧
        sliceMismatch (s.d.group 5) loc0 48 h = false ∧ o'.contribs.length = loc0.localN ∧ o'.localChunk 0 0 = some [0x3F800000, 0x40000000] ∧
        o'.localChunk 1 0 = some [0x3F800000, 0x40000000] ∧ s.d.fab.siteOf 48 = some 0 ∧ s.d.fab.holding 48 = false ∧ (s.d.fab.site 0).ready = true ∧
        (∀ y ∈ loc0.contribs, s.d.fab.siteOf y.tile ≠ some 0)) ∧
    (let s := collUp grp1 [op0]; GoodMsg s 100 (msgHdr 2 0 op0) (List.replicate 8 0) 5 op0 2 0 (4 * op0.chunkLen 0) ∧ s.d.collOp 5 (hw (msgHdr 2 0 op0).toNat 1 31 0) = some op0 ∧
      0 + 1 = grp1.rank ∧ hw (msgHdr 2 0 op0).toNat 4 31 0 < op0.chunks) ∧
    (let s := collUp { grp1 with members := [(0, 0x8064)], n := 2 } [{ op0 with contribs := loc0.contribs, slices := loc0.slices }]
      ∀ o ∈ s.d.net.ops, GoodMsg s 100 (msgHdr 2 0 op0) (List.replicate 8 0) 5 o 2 0 (4 * o.chunkLen 0) ∧ (s.d.group 5).rank + 1 = (s.d.group 5).n ∧
        o.localN = 1 ∧ o.localChunk 0 0 = some [0x3F800000, 0x40000000]) ∧
    (let s := collUp grp1 [op0]; GoodMsg s 100 (msgHdr 3 0 op0) (List.replicate 8 0) 5 op0 3 ((grp1.rank + grp1.n - 1) % grp1.n) (4 * op0.chunkLen 0) ∧ op0.op ≠ 3 ∧
      grp1.rank ≠ grp1.n - 1 ∧ (grp1.rank + 1) % grp1.n = grp1.n - 1) ∧
    (let o := { op0 with op := 3 }; let s := collUp grp1 [o]; GoodMsg s 102 (msgHdr 4 2 o) (List.replicate 8 0) 5 o 4 2 (o.localN * o.elems * o.width) ∧
      s.d.collOp 5 (hw (msgHdr 4 2 o).toNat 1 31 0) = some o ∧ 2 ≠ (s.d.group 5).rank ∧ 2 < (s.d.group 5).n) ∧
    (msgReserved (msgHdr 5 0 op0).toNat = false ∧ msgReserved (msgHdr 5 0 op0 + BitVec.ofNat 256 (2 ^ 23)).toNat = true ∧ (collUp grp1 []).d.collOp 5 9 = none ∧
      (collUp grp1 [op0]).d.collOp 5 (hw (msgHdr 5 0 op0).toNat 1 31 0) = some op0 ∧ (up.d.group 5).gstate ≠ 2) ∧
    (let s := collUp grp1 [op0]; let lim := 1000 * clampN 1 10000 (fld (s.env.reg 0x201004) 15 0); s.d.collOp 5 (9 : Word).toNat = some op0 ∧ op0.since = some 0 ∧
      0 + lim ≤ blockTicks (withTime lim s).time .collective ∧ blockTicks (withTime (lim - 1) s).time .collective < 0 + lim ∧
      (collUp grp1 [early]).d.collOp 5 9 = some early ∧ early.since = none) := by
  and_intros <;> (try unfold GoodMsg) <;> (try unfold Collective) <;> decide +kernel

/-- Cartridge 1 in a state, others serving as given, each with a rated and an attainable output of 100. -/
def cartIn (c : CState) : Cart := { Cart.init with cstate := c, present := true, rated := 100, pmax := 100 }
def cartsUp (a b c d : CState) (g : Net → Net) : State :=
  withDev (fun x => { x with net := g { x.net with carts := Vector.ofFn (fun j : Fin 4 => cartIn (if j.val = 0 then a else if j.val = 1 then b else if j.val = 2 then c else d)) } })
def check0 (ok : Bool) : CartCheck := { recordOk := ok, rootKey := State.reset.fuse.cartRoot, signatureOk := ok, continuityOk := ok, serial := 1, rated := 100, pmax := 90, onHours := 7, driveHours := 7 }
theorem witness_CartridgesServeAndAreReplaced :
    (∀ c ∈ [CState.absent, .checking, .serving, .draining, .removeOk, .failed, .rejected],
      ((cartsUp .serving c .serving .serving id).d.cart 1).cstate = c ∧ (cartsUp .serving c .serving .serving id).d.net.cartClkLost = false) ∧
    ((cartsUp .serving .serving .serving .serving id).fuse.cartRoot = (check0 true).rootKey ∧ up.d.lkkRuns = true ∧ up.d.telemetry = true ∧ (check0 true).recordOk = true ∧ (check0 true).signatureOk = true ∧ (check0 true).continuityOk = true ∧ (check0 false).recordOk = false) ∧
    (let s := cartsUp .serving .serving .serving .serving (fun n => { n with carts := n.carts.set 1 { cartIn .serving with recheck := true } });
      (s.d.cart 1).cstate = .serving ∧ (s.d.cart 1).recheck = true) ∧
    (cartsUp .serving .serving .serving .serving (fun n => { n with cartClkLost := true })).d.net.cartClkLost = true ∧
    (∀ t ∈ [(CState.serving, true), (.failed, false)], let s := cartsUp .serving .serving .serving t.1 id; let less := s.d.lightWithout 1
      decide (3 * less.2 ≤ less.1) = t.2 ∧ ∀ j : CartId, j ≠ 1 → (s.d.cart j).cstate ≠ .draining ∧ (s.d.cart j).cstate ≠ .removeOk) ∧
    (∀ c ∈ [CState.serving, .draining, .removeOk], ∀ b ∈ [MctpBinding.i3c, .vdm], PldmServes (cartsUp .serving c .serving .serving id) b ∧
      ((cartsUp .serving c .serving .serving id).d.bump.pldmBinding = .i3c ∨ (cartsUp .serving c .serving .serving id).d.bump.pldmBinding = .vdm)) ∧
    (∃ j : CartId, j ≠ 1 ∧ ((cartsUp .removeOk .serving .serving .serving id).d.cart j).cstate = .removeOk) ∧
    (let s := cartsUp .serving .serving .serving .serving id; (withTime 100000 s).time.ticks = (s.d.cart 1).readAt + 100000 ∧ (withTime 99999 s).time.ticks < (s.d.cart 1).readAt + 100000 ∧
      (withTime 600000000 s).time.ticks = (s.d.cart 1).wroteAt + 600000000 ∧ (withTime 3600000000 s).time.ticks = (s.d.cart 1).fitAt + 3600000000) ∧
    (eolHours [(0, 200), (10, 190)] 36000000000 100 ≠ none ∧ eolHours [(3, 200), (3, 190)] 36000000000 100 = none ∧ ∀ p ∈ [(3, 200), (3, 190)], ∀ q ∈ [(3, 200), (3, 190)], p.1 = q.1) := by
  have any : ∀ b : MctpBinding, b = .i3c ∨ b = .vdm := fun b => by cases b <;> decide
  have k : ∀ c ∈ [CState.serving, .draining, .removeOk], ∀ b ∈ [MctpBinding.i3c, .vdm], PldmServes (cartsUp .serving c .serving .serving id) b := by
    unfold PldmServes; decide +kernel
  refine ⟨?_, ?_, ?_, ?_, ?_, fun c hc b hb => ⟨k c hc b hb, any _⟩, ?_, ?_, ?_⟩ <;> decide +kernel

def pwrUp (g : PwrSt → PwrSt) : State := withDev (fun d => { d with pwr := g d.pwr })
/-- `up` with cluster 0, or the domain of site 0, in a state. -/
def clUp (v : ClPower) : State := pwrUp (fun p => { p with cls := [(0, v)] })
def domUp (v : DomSt) : State := pwrUp (fun p => { p with doms := [(0, v), (17, v)] })
def meas0 : PowerMeas := { clMw := List.replicate 32 1000, clCur := List.replicate 32 2, otherMw := 50000, vinCur := [1, 1] }
/-- A launch of entry 3 of slot 0 is in flight on cluster 0. -/
def oneLaunch : State :=
  withDev (fun d => { d with svc := { d.svc with launches := [{ launch0 with packets := [(0, { stream := 0, start := 0, tag := 0, semClear := 0, params := [] })] }] } })
theorem witness_WeirControlsThePower :
    (Controls up 0 ∧ Controls oneLaunch 0 ∧ ¬ Controls (pwrUp (fun p => { p with ctl := Vector.replicate 2 false })) 0) ∧
    (∀ p ∈ [(1000000, true), (999999, false)], let s := withTime p.1 up; s.d.pwr.absent = false ∧ decide ((s.d.clp 0).bondAt + 1000000 ≤ pwrNow s.env) = p.2 ∧
      decide (s.d.pwr.ringAt + 1000000 ≤ pwrNow s.env) = p.2) ∧
    (∀ p ∈ [(100000, true), (99999, false)], let s := withTime p.1 up; decide (s.d.pwr.wearAt + 100000 ≤ pwrNow s.env) = p.2) ∧
    (let s := withTime 604800000000 up; let x := siteOfNat 16; (s.d.fab.cluster (siteCluster x)).spare = some (siteFin x) ∧ s.d.siteBad x = false ∧
      (s.d.dom (domOf x)).state = .off ∧ s.d.bankSt (siteHalf x) (sitePcl x) = .up ∧ tget s.d.pwr.charAt 0 x.val + 604800000000 ≤ pwrNow s.env) ∧
    (up.d.pwr.absent = false ∧ up.d.pwr.vaon = true ∧ up.d.pwr.fixed = false ∧ up.d.pwr.ctl[clusterHalf 0] = true ∧ up.d.fab.fenced[clusterHalf 0] = false ∧
      up.d.phasesOn 0 = [] ∧ up.d.bound 0 = false) ∧
    (∀ s ∈ [pwrUp (fun p => { p with absent := true }), pwrUp (fun p => { p with vaon := false })], s.d.pwr.absent = true ∨ s.d.pwr.vaon = false) ∧
    (oneLaunch.d.phasesOn 0 ≠ [] ∧ oneLaunch.d.phasesOn 1 = [] ∧ (oneLaunch.d.phasesOn 0).length = 1) ∧
    (let s := clUp { ClPower.init with only := some 3, volt := 300, lim := 80 }; (s.d.clp 0).only = some 3 ∧ (v2f (s.d.clp 0).volt (s.d.clp 0).lim).num ≠ 0 ∧ (s.d.clp 1).only = none) ∧
    (let s := pwrUp (fun p => { p with fixed := true }); s.d.pwr.fixed = true ∧ s.d.bound 0 = false) ∧
    (let s := withDev (fun d => { d with pwr := { d.pwr with fixed := true }, svc := { d.svc with models := [(0, { model0 with bind := [48] })] } }); s.d.pwr.fixed = true ∧ s.d.bound (tileCluster 48) = true) ∧
    ((let v := (clUp ClPower.init).d.clp 0; v.volt = v.vset ∧ v.raise = none) ∧
      (∀ v ∈ [{ ClPower.init with vset := 300 }, { ClPower.init with raise := some 100 }], let w := (clUp v).d.clp 0; w.volt ≠ w.vset ∨ w.raise ≠ none)) ∧
    (let s := clUp { ClPower.init with bond := 303, bondTold := 260 }; (s.d.clp 0).bond < cdiv (152 * 400) 200 ∧ (s.d.clp 0).bondTold ≠ 0 ∧ cdiv (152 * 400) 200 < (s.d.clp 0).bondTold + 50 ∧
      (up.d.clp 0).bondTold = 0 ∧ (s.d.clp 0).bondTold + 50 ≤ cdiv (155 * 400) 200 ∧ cdiv (151 * 400) 200 ≤ (s.d.clp 0).bond) ∧
    (let s := clUp { ClPower.init with lowered := some 5 }; (s.d.clp 0).lowered = some 5 ∧ 5 + 1000000 ≤ pwrNow (withTime 1000005 s).env ∧
      pwrNow (withTime 1000004 s).env < 5 + 1000000 ∧ (up.d.clp 0).lowered = none) ∧
    (let s := up; (s.d.charOf s.env 0).ring ≠ 0 ∧ (0 : SiteIx).val ∉ s.d.pwr.told ∧
      let now := fun q : Nat => ((Frac.ofNat (tget s.fuse.chars SiteChar.typical 0).ceiling).mul ((Frac.ofNat 1).sub ((Frac.ofNat 1).sub (Frac.mk2 q (s.d.charOf s.env 0).ring)))).floor.toNat
      Nat.min (s.d.ceilOf s.env 0) (now 1) < 80 ∧ 80 ≤ Nat.min (s.d.ceilOf s.env 0) (now (s.d.charOf s.env 0).ring)) ∧
    ((0 : SiteIx).val ∈ (pwrUp (fun p => { p with told := [0] })).d.pwr.told) ∧
    (∀ b ∈ [false, true], ∃ x ∈ [siteIxOf 0 16, siteIxOf 0 0], ((up.d.fab.cluster (siteCluster x)).spare = some (siteFin x)) = (b = true)) ∧
    ((48 : SiteIx) ≠ 0 ∧ (let s := { up with d := { dev0 with fab := { fab0 with clusters := [(0, { ClusterSt.init with siteOf := Vector.replicate 16 (some 3) })] } } }
      ∃ c ∈ [(0 : ClusterId)], siteIxOf 0 3 ∈ s.d.carriers c)) ∧
    (let s := up; bit (0x80000000 : Word).toNat 31 = true ∧ bit (0x20001000 : Word).toNat 29 = true ∧ bit (0x20001000 : Word).toNat 31 = false ∧
      s.d.fixedRefused s.env 0 = false) ∧
    (let s := { up with fuse := { up.fuse with point := 15 } }; s.env.maxCadence < 80 + 5 * 16 ∧ ¬ s.env.maxCadence < 80 + 5 * 15) ∧
    (let s := pwrUp (fun p => { p with alertAt := some 5 }); let hold := 1000 * Nat.max 1 (fld (s.env.reg 0x400020) 15 8); s.d.pwr.alertAt = some 5 ∧
      5 + hold ≤ pwrNow (withTime (5 + hold) s).env ∧ pwrNow (withTime (4 + hold) s).env < 5 + hold ∧ up.d.pwr.alertAt = none) := by
  and_intros <;> (try unfold Controls) <;> decide +kernel

theorem witness_DomainsAndBanksRampAndLatch :
    (∀ q ∈ [DomainState.off, .ramping, .on, .latched], let s := domUp { DomSt.init with state := q }; (s.d.dom 0).state = q ∧ (s.d.dom 0).stage = 0 ∧
      s.d.bankSt (domHalf 0) (domPcl 0) = .up ∧ s.d.siteBad (siteOfNat 0) = false ∧ s.d.pwr.orders = []) ∧
    (∀ n ∈ [3, 4], let s := pwrUp (fun p => { p with doms := (List.range n).map (fun i => (i + 1, { DomSt.init with state := .ramping })) })
      ((List.range 17).filter (fun n => decide ((s.d.dom (domAt 0 0 n)).state = .ramping))).length = n ∧ (s.d.dom 0).state = .off ∧ domUnit 0 < 17 ∧ domUnit 17 = 17) ∧
    (let s := withDev (fun d => { d with fab := { d.fab with clusters := [(3, { ClusterSt.init with bad := 1 })] } }); s.d.siteBad (siteOfNat 0) = true) ∧
    (∀ k ∈ [0, 1, 7, 8], let s := domUp { DomSt.init with state := .ramping, stage := k }; (s.d.dom 0).state = .ramping ∧ (s.d.dom 0).stage = k ∧ k ≤ 8) ∧
    (let s := pwrUp (fun p => { p with ctl := Vector.replicate 2 false, doms := [(0, { DomSt.init with state := .ramping, stage := 8 })] });
      s.d.pwr.ctl[domHalf 0] = false ∧ (s.d.dom 0).stage = 8 ∧ ∀ j : Fin 576, j ≠ 0 → domHalf j = domHalf 0 → (s.d.dom j).state ≠ .ramping) ∧
    (∀ h : HalfId, ¬ ((up.d.lkk.mig[h]).active = true ∧ domOf (up.d.lkk.mig[h]).dst = 0)) ∧
    (∀ n ∈ [1, 2], let s := domUp { DomSt.init with state := .latched, latched := n }; (s.d.dom 0).state = .latched ∧ (s.d.dom 0).latched = n) ∧
    (let s := domUp { DomSt.init with state := .on, idleAt := some 5 }; (s.d.dom (domOf 0)).idleAt = some 5 ∧ s.d.siteBound 0 = false ∧ (s.d.dom (domOf 0)).state = .on ∧
      5 + 1000000 ≤ (withTime 1000005 s).time.ticks ∧ (withTime 1000004 s).time.ticks < 5 + 1000000 ∧ (up.d.dom (domOf 0)).idleAt = none) ∧
    (withDev (fun d => { d with svc := { d.svc with models := [(0, { model0 with bind := [48] })] } })).d.siteBound 0 = true ∧
    (∀ b ∈ [0, 15, 16, 18], ∀ q ∈ [BankPhase.off, .starting, .up, .latched], ∀ n ∈ [1, 2],
      let s := pwrUp (fun p => { p with banks := [(b, q)], bankLatches := [(b, n)] }); s.d.bankSt 0 b = q ∧ tget s.d.pwr.bankLatches 0 (20 * 0 + b) = n ∧ s.d.pwr.vin[(0 : HalfId)] = true) ∧
    (let s := pwrUp (fun p => { p with banks := [(17, .starting), (18, .up)] }); s.d.bankSt 0 17 = .starting ∧ s.d.bankSt 0 18 = .up ∧ (s.d.fab.col 1).phase = .down) ∧
    (let s := pwrUp (fun p => { p with banks := [(16, .starting)] }); s.d.bankSt 0 17 = .off ∧ s.d.bankSt 0 18 = .off) ∧
    (let s := pwrUp (fun p => { p with vin := Vector.replicate 2 false }); s.d.pwr.vin[(0 : HalfId)] = false ∧ s.d.towUp 0 = true) ∧
    (up.d.towUp 0 = true ∧ up.d.pwr.vin[(0 : HalfId)] = true ∧ (withDev (fun d => { d with lnk := { d.lnk with trunk := Vector.replicate 2 2 } })).d.towUp 0 = false ∧ up.d.lkk.rst = none) ∧
    (∀ t ∈ [(0, 0, 0), (17, 0, 0), (18, 0, 0), (18, 15, 15), (19, 0, 16), (21, 0, 18), (22, 0, 19)], let v : Word := BitVec.ofNat 32 (16 * t.1 + t.2.1)
      fld v.toNat 8 4 = t.1 ∧ fld v.toNat 3 0 = t.2.1 ∧ ((18 ≤ t.1 ∧ t.1 ≤ 21) → (if t.1 = 18 then t.2.1 else t.1 - 3) = t.2.2)) := by
  and_intros <;> decide +kernel

theorem witness_SluiceCutsAndRestores :
    (up.d.pwr.vaon = true ∧ CutSource.bank 0 ∉ up.d.pwr.sources ∧ CutSource.alert ∉ up.d.pwr.sources ∧ up.d.pwr.vin[(0 : HalfId)] = true ∧ up.d.thm.tripped = false) ∧
    (CutSource.bank 0 ∈ (pwrUp (fun p => { p with sources := [.bank 0] })).d.pwr.sources ∧ (pwrUp (fun p => { p with vaon := false })).d.pwr.vaon = false) ∧
    (∀ n ∈ [14, 15], let s := withTime 2000 (clUp { ClPower.init with cuts := 1000 :: List.replicate n 1001 })
      ((s.d.clp 0).cuts.filter (fun t => decide (s.time.ticks < t + 1000))).length = n) ∧
    (let s := pwrUp (fun p => { p with vin := Vector.replicate 2 false, vbsn := false }); s.d.pwr.vin[(0 : HalfId)] = false ∧ s.d.pwr.vin[(1 : HalfId)] = false ∧ s.d.pwr.vbsn = false) ∧
    (let s := withDev (fun d => { d with thm := { d.thm with tripped := true }, pwr := { d.pwr with sources := [.alert] } }); CutSource.alert ∈ s.d.pwr.sources ∧ s.d.thm.tripped = true) ∧
    (let s := pwrUp (fun p => { p with cut := 0x30, sources := [.bank 4] }); s.d.pwr.cut.getLsbD 4 = true ∧ s.d.pwr.cut.getLsbD 5 = true ∧
      (cutScope (.bank 4)).getLsbD 4 = true ∧ (cutScope (.bank 4)).getLsbD 5 = false ∧ s.d.fab.fenced[clusterHalf 5] = false) := by
  and_intros <;> decide +kernel

def thmUp (g : Therm → Therm) : State := withDev (fun d => { d with thm := g d.thm })
def senUp (n : SensorId) (v : SenSt) : State := thmUp (fun t => { t with sens := [(senKey n, v)] })
theorem witness_TemperaturesAreModelledAndAnswered :
    (up.d.pwr.absent = false ∧ up.d.pwr.vaon = true ∧ up.d.thm.tripped = false ∧ up.d.thm.ran < 10000 ∧ up.d.thm.ran = 0 ∧ up.d.fab.siteOf 48 = some 0 ∧
      (pwrUp (fun p => { p with absent := true })).d.pwr.absent = true) ∧
    (SensorId.logic 0 1 ∈ colSensors 0 ∧ SensorId.dram 0 7 ∈ colSensors 0 ∧ (0 : SiteIx).val ∉ up.d.thm.blind ∧ (thmUp (fun t => { t with blind := [0] })).d.thm.blind = [0]) ∧
    ((up.d.sen (.logic 0 0)).inUse = false ∧ ((senUp (.logic 0 0) { SenSt.init with reading := some 400 }).d.sen (.logic 0 0)).inUse = true) ∧
    (let s := thmUp (fun t => { t with ran := 10000, resync := true }); 10000 ≤ s.d.thm.ran ∧ s.d.thm.ran ≠ 0 ∧ s.d.thm.resync = true) ∧
    (let s := senUp (.dram 0 7) { SenSt.init with suspect := true }; (s.d.sen (.dram 0 7)).suspect = true ∧ (s.d.sen (.dram 0 6)).suspect = false) ∧
    (let s := thmUp (fun t => { t with floor := [(48, 1000)], drop := [(48, 150)], sens := [(senKey (.logic 0 0), { SenSt.init with reading := some 1100 })] });
      tget s.d.thm.drop 0 48 = 150 ∧ tget s.d.thm.floor 0 48 = 1000 ∧ Dy.zero.lt (s.d.excess 48 0) = true ∧ s.d.towUp (clusterHalf (tileCluster 48)) = true) ∧
    (let s := thmUp (fun t => { t with hat := [(1, ⟨920, -3⟩)] }); s.d.ofModel (.logic 0 0) = true ∧ s.d.pwr.absent = false ∧ s.d.thm.tripped = false ∧
      920 ≤ ((Dy.frac ((s.d.ctlTemp (.logic 0 0)).getD Dy.zero)).mul (Frac.ofNat 8)).floor.toNat) ∧
    (∀ t ∈ [(999999, true), (1000000, false)], let s := withTime t.1 (thmUp (fun t => { t with fInAt := some 0, fInT := 7 }));
      decide (pwrNow s.env < 0 + 1000000) = t.2 ∧ s.d.tEff s.env ≠ s.d.thm.fInT) ∧
    (let s := thmUp (fun t => { t with fInAt := some 0, fInT := 90 }); s.d.thm.fInAt ≠ none ∧ s.d.tEff s.env = s.d.thm.fInT) ∧
    (let s := thmUp (fun t => { t with trayLost := false }); s.d.thm.trayLost = false ∧ s.d.thm.tray.flow < 800 ∧ s.d.thm.sideLost = false ∧ up.d.thm.trayLost = true ∧ up.d.thm.trayAt = none) ∧
    (∀ t ∈ [(5999999, false), (6000000, true)], let s := withTime t.1 up; decide (Nat.max (s.d.thm.trayAt.getD 0) (s.d.thm.startAt + 5000000) + 1000000 ≤ s.time.ticks) = t.2) ∧
    (∀ n ∈ [SensorId.logic 0 0, .dram 0 0, .rlayer 0 0, .basin 0], (up.d.sen n).suspect = false ∧ (up.d.sen n).inUse = false) ∧
    (let th := fun s : State => fld (s.env.reg 0x50000C) 15 0; th up = 0 ∧ th { up with d := { dev0 with regs := [(0x50000C, 5)] } } ≠ 0) ∧
    (let s := thmUp (fun t => { t with rcs := Vector.replicate 2 { TimSt.init with baseN := 5999 } }); (s.d.thm.rcs[(0 : HalfId)]).base = none ∧ (s.d.thm.rcs[(0 : HalfId)]).baseN = 5999 ∧
      (up.d.thm.rcs[(0 : HalfId)]).base = none ∧ (up.d.thm.rcs[(0 : HalfId)]).baseN ≠ 5999 ∧ (up.d.thm.rcs[(0 : HalfId)]).warn = false) := by
  and_intros <;> decide +kernel

def report0 : Report := { code := 0x0101, suspect := .site 0, d1 := 1, d2 := 2, ctx := none, action := 0, time := 5 }
def keyNo (n : Nat) : ErrKey := { code := 0x0101, w20 := n, w24 := 0 }
def rec1 : ErrRec :=
  { rid := 0, code := 0x0101, first := 0, last := 0, reporters := 1, again := false, basinRep := false, repMap := 0, suspect := .site 0, w20 := 0, w24 := 0
    ctx := none, seqId := 0xFFFFFFFF, d1 := 0, d2 := 0, action := 0 }
def aggUp (g : Agg → Agg) (rs : List Report) : State := { withFab (fun f => { f with reports := rs }) with agg := g Agg.init }
def keyUp (hold : Bool) (r : Option ErrRec) : State := aggUp (fun a => { a with keys := [{ key := keyNo 0, rcd := r, hold := hold, since := 7 }] }) []
def migUp (m : Mig) (on : Bool) : State :=
  withDev (fun d => { d with lkk := { d.lkk with mig := d.lkk.mig.set 0 m }, pwr := { d.pwr with doms := (16, { DomSt.init with state := if on then .on else .off }) :: d.pwr.doms }
                             fab := { d.fab with sites := [(0, site0), (16, { site0 with ready := on })] } })
def mig0 : Mig := { Mig.init with state := .copy, tile := 48, src := 0, dst := 16, dead := false }
theorem witness_ErrorsAreRecordedAndTilesMigrate :
    (let s := { (keyUp false (some rec1)) with time := { up.time with lost := [.aggregator] } }; s.time.lost.contains .aggregator = true ∧ up.time.lost.contains .aggregator = false) ∧
    (∀ p ∈ [(18000000000, true), (17999999999, false)], let s := withTime p.1 (withDev (fun d => { d with regs := [(0x4420, 5)] }));
      decide (tget s.d.lkk.testAt 0 48 + 3600000000 * fld (s.env.reg 0x4420) 15 0 ≤ blockTicks s.time .lockkeeper) = p.2) ∧
    (∀ p ∈ [(600000000, true), (599999999, false)], let s := withTime p.1 (withLkk (fun k => { k with stale := true })); s.d.lkk.stale = true ∧ s.d.lkkRuns = true ∧
      decide (s.d.lkk.recAt + 600000000 ≤ blockTicks s.time .lockkeeper) = p.2) ∧
    Apart ((migUp mig0 true).d.fab.col 16) ∧
    (let s := migUp mig0 true; (s.d.fab.col 0).listedRows = [] ∧ s.d.lkkRuns = true ∧ (s.d.lkk.mig[(0 : HalfId)]).dst ∉ s.d.lkk.bad) ∧
    ((aggUp id []).d.fab.reports = [] ∧ (aggUp id [report0]).d.fab.reports = [report0] ∧ (aggUp id [report0]).agg.keys = []) ∧
    (∀ n ∈ [255, 256], let s := aggUp (fun a => { a with keys := (List.range n).map (fun i => { key := keyNo i, rcd := none, hold := true, since := 0 }) }) [report0];
      (s.agg.keys.filter (fun k => decide (k.key ≠ { code := 0x0802, w20 := 14 * 2 ^ 21, w24 := 8 }))).length = n ∧
      ∀ k ∈ s.agg.keys, k.key ≠ { code := 0x0101, w20 := (s.d.suspectWords (.site 0)).1, w24 := 0 }) ∧
    (let s := aggUp (fun a => { a with keys := [{ key := { code := 0x0101, w20 := (up.d.suspectWords (.site 0)).1, w24 := 0 }, rcd := some rec1, hold := false, since := 0 }] }) [report0];
      ∃ k ∈ s.agg.keys, k.key = { code := report0.code, w20 := (s.d.suspectWords report0.suspect).1, w24 := (s.d.suspectWords report0.suspect).2 }) ∧
    (∀ t ∈ [(16, false), (17, true)], let s := withTime t.1 (keyUp false (some rec1)); s.agg.keys.find? (fun q => decide (q.key = keyNo 0) && !q.hold) = some ⟨keyNo 0, some rec1, false, 7⟩ ∧
      decide (7 + 10 ≤ blockTicks s.time .aggregator) = t.2 ∧ s.agg.keys.find? (fun q => decide (q.key = keyNo 1) && !q.hold) = none) ∧
    (∀ r ∈ [none, some rec1], let s := keyUp true r; let hold := 10000 * Nat.max 1 (fld (s.env.reg 0x4400) 23 16)
      s.agg.keys.find? (fun q => decide (q.key = keyNo 0) && q.hold) = some ⟨keyNo 0, r, true, 7⟩ ∧ blockTicks (withTime (6 + hold) s).time .aggregator < 7 + hold ∧
        7 + hold ≤ blockTicks (withTime (7 + hold) s).time .aggregator) ∧
    (∀ n ∈ [0, 1023, 1024], let s := aggUp (fun a => { a with prod := n, cons := 0 }) []; decide ((s.agg.prod + 65536 - s.agg.cons) % 65536 < 1024) = decide (n ≠ 1024) ∧ s.d.lkkRuns = true) ∧
    (∀ t ∈ [(0, true), (0xFFFF, false)], decide ((1024 + 65536 - t.1) % 65536 ≤ 1024) = t.2) ∧
    (errSev rec1.code = 2 ∧ errSev 0x0506 = 4 ∧ errSev 0x0104 = 3 ∧ errSev 0x0202 = 1) ∧
    (let s := withDev (fun d => { d with regs := [(0x4400, 0xA0000000)] }); bit (s.env.reg 0x4400) 31 = true ∧ Nat.min 4 (fld (s.env.reg 0x4400) 30 28) ≤ errSev rec1.code ∧ s.d.canIssue 0 = true) ∧
    (let s := withLkk (fun k => { k with bootStage := 0 }); s.d.lkkRuns = false) ∧
    (let s := withDev (fun d => { d with svc := { d.svc with models := [(0, { model0 with bind := [48] })] }, regs := [(0x4420, 5)] })
     fld (s.env.reg 0x4420) 15 0 ≠ 0 ∧ (48 : TileId) ∈ s.d.boundTiles ∧ s.d.fab.siteOf 48 = some 0 ∧ (s.d.fab.site 0).ready = true ∧ ∀ q : StreamId, ((s.d.fab.site 0).stream q).state = .idle) ∧
    (let v : Word := 0x80000030; (48 : TileId).val = fld v.toNat 8 0 ∧ v.getLsbD 31 = true ∧ up.d.spareOf (tileCluster 48) = some 16 ∧ (up.d.lkk.mig[tileHalf 48]).active = false ∧
      (up.d.dom (domOf 16)).state = .off ∧ up.d.bankSt (siteHalf 16) (sitePcl 16) = .up ∧ up.d.siteBad 16 = false) ∧
    (let s := migUp { mig0 with tile := 49 } false; (s.d.lkk.mig[tileHalf 48]).active = true ∧ (s.d.lkk.mig[tileHalf 48]).tile ≠ 48 ∧ s.d.lkk.migWait = []) ∧
    ((withFab (fun f => { f with clusters := [(3, { ClusterSt.init with spare := none })] })).d.spareOf (tileCluster 48) = none) ∧
    (∀ b ∈ [false, true], let s := migUp mig0 b; let m := s.d.lkk.mig[(0 : HalfId)]; m.state = .copy ∧ m.copying = false ∧ m.dead = false ∧ s.d.siteOn m.dst = b ∧ (s.d.fab.site m.dst).ready = b ∧
      s.d.fab.cut[(0 : HalfId)] = none ∧ s.d.lkk.migWait = []) ∧
    (∀ b ∈ [false, true], let s := migUp { mig0 with copying := true, dead := b } true; let m := s.d.lkk.mig[(0 : HalfId)]; m.state = .copy ∧ m.copying = true ∧ m.mapped = false ∧ m.dead = b ∧
      siteHalf m.src = 0 ∧ m.src ≠ m.dst ∧ tget s.d.fab.held [] m.tile.val = [] ∧ tileHalf m.tile = 0 ∧ siteCluster m.dst = tileCluster m.tile ∧ (s.d.fab.col m.src).cells = []) ∧
    (up.d.lkk.stale = false ∧ up.d.repairBody = up.d.lkk.written) ∧
    (let s := withLkk (fun k => { k with bad := [3] }); s.d.repairBody ≠ s.d.lkk.written ∧ s.d.lkkRuns = true ∧ s.d.lkk.stale = false) ∧
    (let s := withLkk (fun k => { k with stale := true }); s.d.lkk.stale = true ∧ s.d.lkkRuns = true) := by
  refine ⟨by decide +kernel, by decide +kernel, by decide +kernel, apart_plain _ rfl, ?_⟩
  and_intros <;> decide +kernel

def boot0 (fails other : List Nat) (f recA recB : Bool) : BootIn := { fuse0 := f, fuse1 := false, recA := recA, recB := recB, bootFails := fails, otherFails := other }
def lkkUp (g : Lkk → Lkk) (p : PwrSt → PwrSt) : State := withDev (fun d => { d with lkk := g d.lkk, pwr := p d.pwr })
/-- Half 0 with every column in service. -/
def halfCols : List (Nat × Column) := (List.range 272).map (fun i => (i, col0))
def rails0 (p : PwrSt) : PwrSt := { p with banks := [(16, .up), (17, .up), (18, .up)] }
/-- The words of a site map with tile i on site i but tile 15 on site k, and the spare on site 16. -/
def mapWords (k : Nat) : SiteMapWords :=
  { maps := Vector.ofFn (fun j : Fin 4 => BitVec.ofNat 32 ((List.range 4).foldl (fun a i => a + (if 4 * j.val + i = 15 then k else 4 * j.val + i) * 2 ^ (8 * i)) 0)), status := 0x30 }
def entryOf (m : SiteMapWords) (i : Fin 16) : Nat := fld (m.maps[i.val / 4]'(by omega)).toNat (8 * (i.val % 4) + 4) (8 * (i.val % 4))
theorem witness_TheModuleComesUpAndTakesItsCode :
    (∀ p ∈ [(15, true), (14, false), (16, false)], let m := mapWords p.1; let sp := fld m.status.toNat 4 0; m.status.getLsbD 5 = true ∧ sp < 17 ∧
      decide ((∀ i j : Fin 16, i ≠ j → entryOf m i < 17 → entryOf m i ≠ entryOf m j) ∧ m.status.getLsbD (8 + sp) = false ∧ ∀ i : Fin 16, entryOf m i ≠ sp) = p.2) ∧
    (up.d.towUp 0 = true ∧ (withDev (fun d => { d with lnk := { d.lnk with trunk := Vector.replicate 2 2 } })).d.towUp 0 = false ∧ (up.d.thm.sens.map (·.1)).Nodup) ∧
    (∀ b ∈ [false, true], let s := withFab (fun f => { f with mapValid := false, mapWritten := b }); s.d.fab.mapValid = false ∧ s.d.fab.mapWritten = b ∧ s.d.lkkRuns = true) ∧
    (up.d.pwr.vaon = true ∧ up.d.lkk.bootStage ≠ 0 ∧ up.d.lkk.copyA.ok = true ∧ up.d.lkk.copyB.ok = true) ∧
    (let s := withLkk (fun k => { k with bootStage := 0 }); s.d.lkk.bootStage = 0 ∧ s.d.pwr.vaon = true ∧ (boot0 [] [] false true true).fuse0 = false ∧ (boot0 [] [] true true true).fuse0 = true) ∧
    ((boot0 [] [] true true true).bootFails = [] ∧ ∀ o ∈ [[], [3]], (boot0 [3] o true true false).bootFails = [3] ∧ decide (3 ∉ (boot0 [3] o true true false).otherFails) = o.isEmpty) ∧
    (let c := Comp.factory 3; (if c.bootB then c.a else c.b).isSome = false ∧ (let k := { c with b := c.a }; (if k.bootB then k.a else k.b).isSome = true)) ∧
    ((pwrUp (fun p => { p with vbsnLost := true })).d.pwr.vbsnLost = true ∧ up.d.pwr.vbsnLost = false ∧ up.d.thm.tripped = false ∧ up.d.lkk.basinUp = true ∧
      (let s := withLkk (fun k => { k with bootStage := 6, basinUp := false }); s.d.booted = true ∧ s.d.lkk.basinUp = false)) ∧
    (∀ q ∈ [BankPhase.off, .up], ∀ b ∈ [false, true], let s := lkkUp (fun k => { k with basinUp := b }) (fun p => { p with banks := [(16, q)] })
     s.d.lkk.basinUp = b ∧ (s.d.bankSt 0 16 = .off ↔ q = .off) ∧ s.d.pwr.vin[(0 : HalfId)] = true) ∧
    (∀ h : HalfId, up.d.columnsUp h = false) ∧
    (let s := withDev (fun d => { d with fab := { d.fab with cols := halfCols }, pwr := rails0 d.pwr })
     s.d.columnsUp 0 = true ∧ s.d.booted = true ∧ s.d.fab.mapValid = true ∧ s.d.pwr.ctl[(0 : HalfId)] = true) ∧
    (let s := withDev (fun d => { d with fab := { d.fab with cols := halfCols, mapValid := false }, pwr := { rails0 d.pwr with ctl := Vector.replicate 2 false } })
     s.d.columnsUp 0 = true ∧ s.d.fab.mapValid = false ∧ s.d.pwr.ctl[(0 : HalfId)] = false ∧ ∀ k ∈ List.range 16, s.d.bankSt 0 k ≠ .starting) ∧
    (up.d.lkkRuns = true ∧ up.d.lkk.shed ≠ 3 ∧ (withLkk (fun k => { k with shed := 3 })).d.lkk.shed = 3 ∧ (withLkk (fun k => { k with clkLost := true })).d.lkkRuns = false) ∧
    (siteHalf 271 = 0 ∧ siteHalf 272 = 1 ∧ (272 : SiteIx).val = 272 * (1 : HalfId).val) ∧
    (∀ n ∈ [0, 1, 3], let s := withLkk (fun k => { k with retries := [(3 * 5, n)] }); tget s.d.lkk.retries 0 (3 * (5 : SiteIx).val) = n ∧ s.d.lkkRuns = true) ∧
    (∀ c ∈ [0, 7], let s := withSite (fun x => { x with code := (1, c) }); (if (s.d.fab.site 0).bank = 0 then (s.d.fab.site 0).code.2 else (s.d.fab.site 0).code.1) = c) ∧
    (up.d.bankSt (siteHalf 0) 16 = .up ∧ up.d.bankSt (siteHalf 272) 16 ≠ .up ∧ up.d.siteOn 0 = true ∧ up.d.siteOn 272 = false) ∧
    (∀ b ∈ [false, true], let s := withCol (fun c => { c with rowRep := [(32 * 127 + 31, BitVec.ofNat 32 (b2n b * 2 ^ 31))], colRep := [(8 * 127 + 7, BitVec.ofNat 32 (b2n b * 2 ^ 31))] })
     (tget (s.d.fab.col 0).rowRep 0 (32 * 127 + 31)).getLsbD 31 = b ∧ (tget (s.d.fab.col 0).colRep 0 (8 * 127 + 7)).getLsbD 31 = b) ∧
    (let v : Word := BitVec.ofNat 32 (2 ^ 31 + 143 * 2 ^ 3 + 63 * 2 ^ 11 + 7); v.getLsbD 31 = true ∧ fld v.toNat 10 3 < 144 ∧ (up.d.fab.col 0).lanes = [] ∧ (0 : Word).getLsbD 31 = false) ∧
    (∀ t ∈ [(0x7, false), (0x207, true), (0x203, true)], decide (2 < ((List.range 10).filter (fun i => (BitVec.ofNat 32 t.1 : Word).getLsbD i)).length) = (t.1 = 7 || t.1 = 0x207 || t.1 = 0x203)) ∧
    (((List.range 10).filter (fun i => (0x201 : Word).getLsbD i)).length ≤ 2) ∧
    (up.d.bankSt (clusterHalf 0) 16 = .up ∧ up.d.bankSt (clusterHalf 16) 16 ≠ .up) := by
  and_intros <;> decide +kernel

/-- A reset in progress of a level, over half 0 or over cluster 3. -/
def rst0 (level : Nat) (asserted : Bool) : ResetSt :=
  { level := level, scope := if level = 1 then 8 else if level = 2 then 0xFFFF else 0xFFFFFFFF, clear := false, cause := 2, asserted := asserted }
def rstUp (level : Nat) (asserted : Bool) : State := withLkk (fun k => { k with rst := some (rst0 level asserted) })
theorem witness_ResetsAndLostRails :
    (∀ b ∈ [MctpBinding.i3c, .vdm], up.d.pathUp b = true ∧ up.d.fuseless = false ∧ up.d.bump.busy = none ∧
      (withLkk (fun k => { k with bootStage := 0x1F })).d.fuseless = true ∧ (withLkk (fun k => { k with bootStage := 0x1F })).d.pathUp b = true ∧
      ({ dev0 with thm := { dev0.thm with sideLost := true }, host := { dev0.host with linkUp := false } } : Dev).pathUp b = false) ∧
    (let s := withLkk (fun k => { k with rst := some (rst0 1 true), migHeld := [(48, 0, 16)] }); s.d.lkk.migHeld = [(48, 0, 16)] ∧ s.d.lkk.migWait = [] ∧
      (rst0 1 true).scope.getLsbD (tileCluster 48).val = true ∧ tget s.d.fab.held [] 48 = []) ∧
    (let s := migUp mig0 true; (s.d.lkk.mig[(0 : HalfId)]).state = .copy ∧ (rst0 1 true).scope.getLsbD (siteCluster mig0.src).val = true) ∧
    (let s := { oneLaunch with d := { oneLaunch.d with lkk := { dev0.lkk with rst := some (rst0 1 false) } } }
     ∃ l ∈ s.d.svc.launches, ∃ p ∈ l.streams, (rst0 1 false).scope.getLsbD (tileCluster p.1).val = true) ∧
    ((0 : FuncId) = 0 ∧ (0x80000003 : Word).getLsbD 31 = true ∧ (3 : Word).getLsbD 31 = false ∧ up.d.lkk.rst = none) ∧
    (∀ n ∈ [1, 2, 3, 4], ∀ b ∈ [false, true], let s := rstUp n b; s.d.lkk.rst = some (rst0 n b) ∧ (rst0 n b).level = n ∧ (rst0 n b).asserted = b ∧ s.d.lkk.trial = none) ∧
    ((rst0 1 false).scope.getLsbD (siteCluster 0).val = true ∧ (rst0 1 false).scope.getLsbD (siteCluster 17).val = false ∧ (rst0 2 false).scope.getLsbD (16 * (0 : HalfId).val) = true ∧
      (rst0 2 false).scope.getLsbD (16 * (1 : HalfId).val) = false ∧ (rst0 4 false).scope.getLsbD (16 * (1 : HalfId).val) = true) ∧
    (let s := rstUp 1 true; s.d.scopeReady (rst0 1 true) = true ∧ s.d.lkk.migHeld = [] ∧ s.d.lkk.migWait = [] ∧ s.d.siteBad 0 = false ∧ s.d.fab.siteOf 48 = some 0 ∧ s.d.bankSt (siteHalf 0) (sitePcl 0) = .up) ∧
    (let s := { domUp DomSt.init with d := { (domUp DomSt.init).d with lkk := { dev0.lkk with rst := some (rst0 1 true) } } };
      s.d.scopeReady (rst0 1 true) = true ∧ (s.d.dom (domOf 0)).state = .off) ∧
    (let s := rstUp 2 true; s.d.scopeReady (rst0 2 true) = false) ∧
    (let ls := (Vector.replicate 8 { LinkSt.init with phase := .up });
     let f := { fab0 with cols := halfCols, fenced := Vector.replicate 2 true };
     let k := { dev0.lkk with rst := some (rst0 2 true) };
     let s := withDev (fun d => { d with fab := f, lkk := k, pwr := rails0 d.pwr, lnk := { d.lnk with links := ls, trunk := Vector.replicate 2 0 } });
     s.d.scopeReady (rst0 2 true) = true ∧ s.d.fab.fenced[(0 : HalfId)] = true ∧ s.d.lnk.cause[(0 : HalfId)] ≠ some .mesh ∧ s.d.thm.tripped = false ∧ s.d.railsUp 0 = true ∧
       s.d.linksConcluded 0 = true ∧ s.d.lnk.trunk[(0 : HalfId)] ≠ 2 ∧ s.d.halfTested 0 = true ∧ s.d.fab.mapValid = true) ∧
    (let s := up; s.d.bump.busy = none ∧ bit (s.env.reg 0x700100) 31 = false ∧ s.d.lkk.updating = false ∧ s.env.reg 0x700104 ≠ 0xC01D) ∧
    (let s := withDev (fun d => { d with regs := [(0x700104, 0xC01D)] }); s.env.reg 0x700104 = 0xC01D ∧ bit (s.env.reg 0x700100) 31 = false) ∧
    ((withLkk (fun k => { k with clkLost := true })).d.bump.busy ≠ none ∧ bit ((withDev (fun d => { d with regs := [(0x700100, 0x80000000)] })).env.reg 0x700100) 31 = true) ∧
    (up.d.pwr.vin[(0 : HalfId)] = true ∧ State.reset.d.pwr.vin[(0 : HalfId)] = false ∧ up.d.pwr.vbsn = true ∧ up.d.pwr.vphy = true ∧ State.reset.d.pwr.vbsn = false ∧ State.reset.d.pwr.vphy = false) ∧
    (up.d.thm.sideLost = false ∧ (thmUp (fun t => { t with sideLost := true })).d.thm.sideLost = true ∧ up.d.lkk.events = [] ∧
      (let s := withLkk (fun k => { k with events := [(1, [2])] }); s.d.lkk.events = [(1, [2])] ∧ s.d.lkk.evSent = false)) := by
  and_intros <;> decide +kernel

/-- A good image of component 3 with an SVN; one with another HLVL has a bad header. -/
def fwImg (hlvl svn : Nat) : FwImage :=
  { hdr := leBytes 128 (0x57464C47 + 3 * 2 ^ 32 + hlvl * 2 ^ 40 + 7 * 2 ^ 256), bodyLen := 7, sig := leBytes 256 (0x53494753 + svn * 2 ^ 48), digestOk := true, sigOk := true
    digest := 0 }
def firm (g : Lkk → Lkk) (rs : List (Nat × Nat)) : State := withDev (fun d => { d with lkk := g d.lkk, regs := rs })
def other3 : Comp := { Comp.factory 3 with b := some (FwInfo.factory 3), staged := true }
def run0 (fails : List Nat) : SwitchRun := { done := [], rest := [], fails := fails, mbx := true, revert := false, since := 0 }
def trial0 (pldm : Bool) : Trial := { comps := [3], since := 0, pldm := pldm, revert := false }
/-- Component 3 is staged in its other slot, as an image that asks the others for bundle n. -/
def staged3 (n : Nat) : State := firm (fun k => { k with comps := [(3, { other3 with b := some { FwInfo.factory 3 with compatMin := n } })] }) []
theorem staged3_after (n : Nat) (i : FwInfo) (h : (staged3 n).d.after [3] 3 = some i) : i.compatMin = n := (Option.some.inj h) ▸ rfl
/-- An image that asks for bundle 2 is refused; one that asks for bundle 1, with no model loaded, is not. -/
theorem staged3_incompatible : Incompatible (staged3 2) [3] ∧ ¬ Incompatible (staged3 1) [3] := by
  refine ⟨⟨3, List.mem_singleton.mpr rfl, _, rfl, .inl ⟨1, FwInfo.factory 1, by decide, by decide, by decide, rfl, by decide⟩⟩, ?_⟩
  rintro ⟨n, hn, i, hi, h⟩
  obtain rfl := List.mem_singleton.mp hn
  have asks := staged3_after 1 i hi
  have one : ∀ m ∈ List.range 11, ((staged3 1).d.after [3] m).all (fun j => j.bundle == 1) = true := by decide +kernel
  have unloaded : ∀ m : ModelSlotId, ((staged3 1).d.model m).phase ≠ .loaded := by decide +kernel
  rcases h with ⟨m, j, h1, h10, -, hj, lt⟩ | ⟨-, m, g, ph, -⟩ | ⟨h5, -⟩
  · have := one m (List.mem_range.mpr (by omega)); rw [hj] at this; have := beq_iff_eq.mp this; omega
  · exact unloaded m ph
  · omega
theorem witness_FirmwareIsReplacedWhileTheDeviceServes :
    (Accepts up ∧ up.d.lkk.trial = none ∧ up.d.lkk.mode = .lockstep ∧ up.d.lkkRuns = true ∧ up.agg.later = [] ∧ up.d.class3 = true ∧ up.sec.timebaseLost = false ∧ up.d.lkk.op = none) ∧
    (let s := firm (fun k => { k with mode := .handover }) []; bit (s.env.reg 0x700100) 31 = false ∧ s.d.lkk.clkLost = false ∧ s.d.lkk.mode = .handover ∧ s.d.lkk.taken = true) ∧
    (let s := firm (fun k => { k with mode := .handover, op := some .handover }) []; s.d.lkk.taken = false ∧ s.d.bump.busy = some 20) ∧
    (let s := firm (fun k => { k with upd := some { comps := [], got := 0, done := [], state := 1 } }) []; s.d.bump.busy = none ∧ s.d.lkk.updating = true) ∧
    (∀ n ∈ [0, 1, 10, 11, 0xFF], fld ((firm id [(0x700100, n * 256)]).env.reg 0x700100) 15 8 = n ∧ bit ((firm id [(0x700100, n * 256)]).env.reg 0x700100) 31 = false) ∧
    ((firm (fun k => { k with comps := [(3, other3)] }) [(0x700100, 0x300)]).d.stagedComps = [3] ∧ up.d.stagedComps = []) ∧
    (let s := { firm (fun k => { k with comps := [(3, other3)] }) [(0x700100, 0x300)] with sec := { up.sec with floors := [(3, 1)] } };
      ∃ m ∈ switchOrder.filter (fun m => (m = 3 || false) && (s.d.comp m).other.isSome), ∃ i ∈ [FwInfo.factory 3], (s.d.comp m).other = some i ∧ i.svn < tget s.sec.floors 0 m) ∧
    (let s := firm (fun k => { k with comps := [(3, { other3 with b := some { FwInfo.factory 3 with compatMin := 2 } })] }) []; s.d.incompatible [3] = true ∧
      (firm (fun k => { k with comps := [(3, other3)] }) []).d.incompatible [3] = false) ∧
    (let s := firm (fun k => { k with op := some (.stage 3 0 0) }) []; s.d.lkk.op = some (.stage 3 0 0) ∧ s.sec.timebaseLost = false ∧ s.d.class3 = true) ∧
    (fwHeaderOk (fwImg 1 2) 3 = true ∧ fwSigned up.fuse (fwImg 1 2) 2 = true ∧ fwSigned up.fuse (fwImg 1 2) 3 = false ∧ fwHeaderOk (fwImg 2 2) 3 = false) ∧
    (∀ b ∈ [false, true], let s := firm (fun k => { k with trial := some (trial0 b) }) []; let due := 1000000 * trialS s.env
      s.d.lkk.trial = some (trial0 b) ∧ blockTicks (withTime due s).time .lockkeeper = 0 + due ∧ blockTicks (withTime (due - 1) s).time .lockkeeper < 0 + due) ∧
    (∀ l ∈ [[], [6]], let s := firm (fun k => { k with op := some (.drain (run0 l)) }) []; s.d.lkk.op = some (.drain (run0 l)) ∧ s.d.svc.launches = [] ∧ (run0 l).done = [] ∧ (run0 l).rest = []) ∧
    (let s := withTime 100000 { oneLaunch with d := { oneLaunch.d with lkk := { dev0.lkk with op := some (.drain (run0 [])) } } }; s.d.svc.launches ≠ [] ∧ 0 + 100000 ≤ blockTicks s.time .lockkeeper) ∧
    (let s := firm (fun k => { k with mode := .handover, op := some (.newImage (run0 [1])) }) []; s.d.lkk.op = some (.newImage (run0 [1])) ∧ 1 ∈ (run0 [1]).fails ∧ 1 ∉ (run0 []).fails) ∧
    (let s := firm (fun k => { k with shed := 3, calm := Vector.replicate 3 9 }) []; s.d.lkkRuns = true ∧ s.d.lkk.shed = (2 : Fin 3).val + 1 ∧ s.d.lkk.calm[(2 : Fin 3)] = 9) ∧
    ((withLkk (fun k => { k with clkLost := true })).d.lkk.clkLost = true ∧ up.d.lkk.clkLost = false) ∧
    (let s := firm (fun k => { k with mode := .handover, op := some .handover, shed := 0 }) []; s.d.booted = true ∧ s.agg.later = [] ∧ s.d.lkk.work = []) ∧
    (∀ r ∈ [run0 [], run0 [5]], let s := firm (fun k => { k with op := some (.quiet r) }) [];
      s.d.lkkRuns = true ∧ s.d.lkk.op = some (.quiet r) ∧ s.agg.later = [] ∧ s.d.lkk.work = [] ∧ s.d.lkk.shed = 0 ∧ CollsIdle s ∧ s.d.net.held = [] ∧ r.done = [] ∧ r.rest = []) ∧
    (¬ CollsIdle (collUp grp1 [op0])) ∧ (Incompatible (staged3 2) [3] ∧ ¬ Incompatible (staged3 1) [3] ∧ (staged3 1).d.lkk.trial = none) ∧
    (let s := withLkk (fun k => { k with clkLost := true, coreA := true, coreB := false, op := some (.newImage (run0 [])) });
      s.d.lkkRuns = false ∧ s.d.booted = true ∧ s.d.lkk.coreA = true ∧ s.agg.later = [] ∧ s.d.lkk.work = [] ∧ (run0 []).done = []) ∧
    ((0x80000120 : Word).getLsbD 31 = true ∧ (0x120 : TileId).val = fld (0x80000120 : Word).toNat 8 0) := by
  have idle : ∀ {s : State}, s.d.net.ops = [] → CollsIdle s := fun h o ho => by rw [h] at ho; exact nomatch ho
  refine ⟨?_, ?_, ?_, ?_, ?_, ?_, ?_, ?_, ?_, ⟨?_, ?_, ?_, ?_, ?_, ?_, ?_, ?_, ?_, ⟨?_, ⟨staged3_incompatible.1, staged3_incompatible.2, ?_⟩, ?_, ?_⟩⟩⟩
  case refine_18 => intro r hr; simp only [List.mem_cons, List.not_mem_nil, or_false] at hr; rcases hr with rfl | rfl <;> exact ⟨by decide +kernel, rfl, rfl, rfl, rfl, idle rfl, rfl, rfl, rfl⟩
  case refine_19 => intro h; exact nomatch h _ (List.mem_singleton.mpr rfl)
  all_goals (try unfold Accepts); decide +kernel

def spdm0 (s : Option Nat) (v p : Byte) (good : Bool) : SpdmIn := { via := .i3c, session := s, version := v, param1 := p, param2 := 0xFF, body := [], good := good }
def secUp (g : Sec → Sec) : State := { up with sec := g up.sec }
def sess (via : MctpBinding) : Session := { id := 7, via := via, open_ := true, last := 5, keys := 0 }
theorem served (s : State) (m : SpdmIn) (b : Bool) (l : List Byte)
    (h : s.d.pathUp m.via = true ∧ s.d.lkk.bootStage ≠ 0 ∧ m.body.length + 4 ≤ 4096 ∧ s.sec.erased = false ∧ s.bump.putOff s.env b = none ∧ m.version ∈ l ∧ m.good = true)
    (own : OwnSession s m) : SpdmServes s m b l := ⟨h.1, h.2.1, h.2.2.1, h.2.2.2.1, own, h.2.2.2.2.1, h.2.2.2.2.2.1, h.2.2.2.2.2.2⟩
theorem own_none (s : State) (v p : Byte) (g : Bool) : OwnSession s (spdm0 none v p g) := fun _ h => nomatch h
theorem own_seven : OwnSession (secUp (fun x => { x with sessions := [sess .i3c] })) (spdm0 (some 7) 0x12 0 true) :=
  fun _ h => ⟨sess .i3c, List.mem_singleton.mpr rfl, Option.some.inj h, rfl⟩
theorem witness_TheSecurityBlockAnswersLocksAndErases :
    (SpdmServes up (spdm0 none 0x10 0 true) false [0x10] ∧ SpdmServes up (spdm0 none 0x13 0 true) true [0x13, 0x12] ∧
      SpdmServes (secUp (fun x => { x with sessions := [sess .i3c] })) (spdm0 (some 7) 0x12 0 true) true [0x13, 0x12] ∧
      SpdmServes (secUp (fun x => { x with barUntil := 1 })) (spdm0 none 0x13 0 true) true [0x13, 0x12] ∧
      SpdmServes (secUp (fun x => { x with sessions := List.replicate 4 (sess .vdm) })) (spdm0 none 0x13 0 true) true [0x13, 0x12]) ∧
    ((spdm0 none 0x13 0 true).param1.toNat % 16 = 0 ∧ (spdm0 none 0x13 0x11 true).param1.toNat % 16 ≠ 0 ∧ (spdm0 none 0x11 0 true).version ∉ ([0x13, 0x12] : List Byte)) ∧
    (up.d.pathUp .i3c = true ∧ (thmUp (fun t => { t with sideLost := true })).d.pathUp .i3c = false ∧ (secUp (fun x => { x with erased := true })).sec.erased = true) ∧
    (¬ OwnSession up (spdm0 (some 7) 0x13 0 true)) ∧
    ((withLkk (fun k => { k with clkLost := true })).bump.putOff (withLkk (fun k => { k with clkLost := true })).env false = some 1000) ∧
    ((withTime 0 (secUp (fun x => { x with barUntil := 1 }))).time.ticks < 1 ∧ up.sec.barUntil ≤ up.time.ticks ∧ up.sec.sessions.length < 4) ∧
    (decide ((60000004 : Nat) < (sess .i3c).last + 60000000) = true ∧ decide ((60000005 : Nat) < (sess .i3c).last + 60000000) = false) ∧
    ((1 : Word).getLsbD 0 = true ∧ up.sec.lock = false ∧ (secUp (fun x => { x with lock := true })).sec.lock = true) ∧
    ((∀ n ∈ [0, 1, 2, 3], levelOf (withDev (fun d => { d with regs := [(0x600000, n * 64 + n * 16)] })) 0 = n) ∧ levelOf up 2 = 3 ∧ levelOf up 4 = 2 ∧ up.d.pwr.vaon = true ∧
      up.d.lkk.events.length < 60 ∧ bit ((withDev (fun d => { d with regs := [(0x600000, 2)] })).env.reg 0x600000) 1 = true ∧ up.d.lkk.rst = none) ∧
    (up.d.bump.busy = none ∧ (withLkk (fun k => { k with clkLost := true })).d.bump.busy ≠ none) ∧
    (4096 < ({ spdm0 none 0x13 0 true with body := List.replicate 4093 0 } : SpdmIn).body.length + 4) ∧
    (PldmServes up up.d.bump.pldmBinding ∧ (let s := withLkk (fun k => { k with clkLost := true }); ¬ PldmServes s s.d.bump.pldmBinding)) ∧
    (SpdmServes up (spdm0 none 0x13 1 true) true [0x13, 0x12] ∧ (spdm0 none 0x13 1 true).param1.toNat % 16 ≠ 0) := by
  have serves : ∀ b, PldmServes up b := by intro b; cases b <;> unfold PldmServes <;> decide +kernel
  have idle : ∀ b, ¬ PldmServes (withLkk (fun k => { k with clkLost := true })) b := by intro b; cases b <;> unfold PldmServes <;> decide +kernel
  refine ⟨⟨served _ _ _ _ ?_ (own_none _ _ _ _), served _ _ _ _ ?_ (own_none _ _ _ _), served _ _ _ _ ?_ own_seven, served _ _ _ _ ?_ (own_none _ _ _ _), served _ _ _ _ ?_ (own_none _ _ _ _)⟩,
    ?_, ?_, fun h => ?_, ?_, ?_, ?_, ?_, ?_, ?_, Nat.lt_of_lt_of_eq (by decide : 4096 < 4093 + 4) (congrArg (· + 4) List.length_replicate.symm), ⟨serves _, fun h => idle _ h⟩, served _ _ _ _ ?_ (own_none _ _ _ _), ?_⟩
  case refine_8 => obtain ⟨q, hq, -⟩ := h 7 rfl; exact nomatch hq
  all_goals decide +kernel

def pldmUp (state : Nat) (comps : List Nat) : State := withLkk (fun k => { k with upd := some { comps := comps, got := 0, done := [], state := state } })
def piece0 (len : Nat) (i : Option FwImage) : FwPiece := { comp := 3, off := 0, len := len, image := i }
theorem witness_TheManagementEndpointServes :
    (PldmServes up .i3c ∧ PldmServes up .vdm ∧ up.d.lkk.op = none ∧ up.d.lkk.trial = none ∧ up.d.lkk.updating = false ∧ up.d.lkk.upd = none) ∧
    (¬ (thmUp (fun t => { t with sideLost := true })).d.pathUp .i3c = true) ∧
    (let s := withLkk (fun k => { k with bootStage := 0x1F }); s.d.pathUp .i3c = true ∧ s.d.lkk.bootStage = 0x1F) ∧
    (let s := withLkk (fun k => { k with clkLost := true }); s.d.bump.busy = some 1000 ∧ s.d.lkk.bootStage ≠ 0x1F) ∧
    (300 ≤ up.fuse.capW) ∧
    (∀ n ∈ [1, 2, 3, 6], let s := pldmUp n [3, 4]; (s.d.lkk.upd.map (·.state)) = some n ∧ s.d.pathUp .i3c = true ∧ s.d.class3 = true ∧ s.d.bump.busy = none ∧ s.sec.timebaseLost = false) ∧
    (∀ n ∈ [1, 10], 1 ≤ (BitVec.ofNat 8 n : Byte).toNat ∧ (BitVec.ofNat 8 n : Byte).toNat ≤ 10) ∧
    (1 ≤ (piece0 1 none).len ∧ (piece0 1024 none).len ≤ 1024 ∧ (piece0 1024 (some (fwImg 1 0))).image = some (fwImg 1 0) ∧ fwHeaderOk (fwImg 1 0) (piece0 1 none).comp = true ∧
      fwSigned up.fuse (fwImg 1 0) (tget up.sec.floors 0 3) = true ∧ fwHeaderOk (fwImg 0 0) 3 = false) ∧
    ((secUp (fun x => { x with timebaseLost := true })).sec.timebaseLost = true) ∧
    (up.d.lkk.evSent = false ∧ (let s := withLkk (fun k => { k with events := [(1, [2]), (1, [3])], evSent := true }); s.d.lkk.evSent = true ∧ s.d.thm.sideLost = false ∧
      s.d.lkk.events = (1, [2]) :: (1, [3]) :: [] ∧ (withLkk (fun k => { k with events := [(1, [2])], evSent := true })).d.lkk.events.length ≤ 1)) ∧
    (let s := withLkk (fun k => { k with shed := 2, sensHeld := [none, some [25]] }); s.d.pathUp .i3c = true ∧ 2 ≤ s.d.lkk.shed ∧ s.d.lkk.sensHeld[1]? = some (some [25]) ∧
      (s.bump.sensorValues s.env 1).isSome = true ∧ (up.bump.sensorValues up.env 21).isSome = true) ∧
    (let s := { pldmUp 2 [3, 4] with sec := { up.sec with timebaseLost := true } }; s.sec.timebaseLost = true ∧ (s.d.lkk.upd.map (·.comps)) = some [3, 4] ∧
      s.d.class3 = true ∧ s.d.pathUp .i3c = true ∧ fwSigned s.fuse (fwImg 1 0) (tget s.sec.floors 0 3) = true ∧ fwSigned s.fuse (fwImg 1 0) 1 = false) ∧
    (∀ n ∈ [1, 3], (pldmUp n [3]).d.lkk.upd.any (·.state == n) = true ∧ PldmServes (pldmUp n [3]) .vdm) := by
  and_intros <;> (try unfold PldmServes) <;> decide +kernel

-- Well-formedness: an ill-formed command for each check ---------------------------------------------------------------------

def stepWf (u : ScratchUpset) (o : Nat) : StepIn := { tile := 0, stream := 0, scratchUps := [u], dramUps := [⟨o, 0, 0⟩] }
theorem test_wf_scratch : (Instr.nop (stepWf ⟨2097152, 0⟩ 0)).wf = false ∧ (Instr.nop (stepWf ⟨2097151, 0⟩ 0)).wf = true := by decide +kernel
theorem test_wf_dram : (Instr.nop (stepWf ⟨0, 0⟩ 402653184)).wf = false ∧ (Instr.nop (stepWf ⟨0, 0⟩ 32)).wf = false ∧ (Instr.nop (stepWf ⟨0, 0⟩ 402653120)).wf = true := by
  decide +kernel
theorem test_wf_launch : (Instr.launch 0 ⟨0, 16, 0, 0, List.replicate 256 0⟩).wf = false ∧ (Instr.launch 0 ⟨0, 32, 0, 0, List.replicate 255 0⟩).wf = false ∧
    (Instr.launch 0 ⟨0, 32, 0, 0, List.replicate 256 0⟩).wf = true := by decide +kernel
theorem test_wf_row : (Instr.rowTransfer 0 [{ cls := 0, ri := 393216, write := false, mask := 0, data := [] }] []).wf = false ∧ (Instr.rowTransfer 0 [{ cls := 0, ri := 0, write := true, mask := 3, data := [0] }] []).wf = false ∧
    (Instr.rowTransfer 0 [{ cls := 0, ri := 0, write := false, mask := 3, data := [0] }] []).wf = false ∧ (Instr.rowTransfer 0 [{ cls := 0, ri := 393215, write := true, mask := 3, data := [0, 0] }] []).wf = true := by decide +kernel
theorem test_wf_checksum : (Instr.checksumMismatch 0 0 [] [] false).wf = false ∧ (Instr.checksumMismatch 0 0 [] [63] false).wf = true := by decide +kernel
theorem test_wf_flit : (Instr.dataFlit 0 .half ⟨[], ⟨List.replicate 255 0⟩⟩).wf = false ∧ (Instr.dataFlit 0 .half ⟨[], ⟨List.replicate 256 0⟩⟩).wf = true := by decide +kernel
theorem test_wf_packet : (Instr.roceAck { pkt 0x11 0 0 with payload := List.replicate 4097 0 }).wf = false ∧ (Instr.roceAck (pkt 0x11 0 0)).wf = true := by decide +kernel
theorem test_wf_move : (Instr.bargeMoveComplete .host (.done [0] [])).wf = false ∧ (Instr.bargeMoveComplete .host (.done [] [256])).wf = false ∧
    (Instr.bargeMoveComplete .host (.done [] [255])).wf = true := by decide +kernel
theorem test_wf_read : (Instr.hostReadCompletion 0 (.data (List.replicate 4097 0))).wf = false ∧ (Instr.hostReadCompletion 0 .poisoned).wf = true := by decide +kernel
theorem test_wf_image : (Instr.fwStageComplete (some { fwImg 1 0 with hdr := [] })).wf = false ∧ (Instr.fwStageComplete (some { fwImg 1 0 with sig := [] })).wf = false ∧
    (Instr.fwStageComplete (some (fwImg 1 0))).wf = true := by decide +kernel
theorem test_wf_piece : (Instr.firmwareData .i3c (piece0 1025 none)).wf = false ∧ (Instr.firmwareData .i3c { piece0 1 none with comp := 11 }).wf = false ∧
    (Instr.firmwareData .i3c (piece0 1 (some { fwImg 1 0 with hdr := [] }))).wf = false ∧ (Instr.firmwareData .i3c (piece0 1024 none)).wf = true := by decide +kernel
theorem test_wf_health : (Instr.fwActivate 0 [⟨0, true⟩]).wf = false ∧ (Instr.activateFirmware .vdm [⟨10, false⟩]).wf = true := by decide +kernel
theorem test_wf_spdm : (Instr.getVersion { spdm0 none 0x10 0 true with body := List.replicate 4097 0 }).wf = false ∧ (Instr.getVersion (spdm0 none 0x10 0 true)).wf = true := by
  decide +kernel
theorem test_wf_power : (Instr.weirControlPeriod { meas0 with clMw := [] }).wf = false ∧ (Instr.weirControlPeriod { meas0 with clCur := [] }).wf = false ∧
    (Instr.weirControlPeriod { meas0 with vinCur := [] }).wf = false ∧ (Instr.weirControlPeriod meas0).wf = true := by decide +kernel
theorem test_wf_characterisation : (Instr.spareCharacterisation 0 { SiteChar.typical with volts := [5000] }).wf = false ∧ (Instr.spareCharacterisation 0 SiteChar.typical).wf = true := by
  decide +kernel
theorem test_wf_boot : (Instr.vaonUp (boot0 [11] [] true true true)).wf = false ∧ (Instr.vaonUp (boot0 [3] [4] true true true)).wf = false ∧ (Instr.vaonUp (boot0 [3] [3] true true true)).wf = true := by
  decide +kernel
theorem test_wf_lengths : (Instr.tier2LinkUp [1, 2, 3, 4, 5]).wf = false ∧ (Instr.collectiveSlice 0 0 (List.replicate 993 0)).wf = false ∧ (Instr.loadWindow 101).wf = false ∧
    (Instr.passComponentTable .i3c (List.replicate 11 1)).wf = false ∧ (Instr.tier2LinkUp [1, 2, 3, 4]).wf = true ∧ (Instr.loadWindow 100).wf = true := by decide +kernel

/-- No word spells a command: the opcode table gives none of them bits. -/
theorem test_no_word_decodes : decodeTableWord 32 0xFFFFFFFF = none ∧ (up.withFetchWord 32 0xFFFFFFFF) = up := by decide +kernel

-- The worked examples of the manual, by the functions that the commands use ------------------------------------------------

/-- Chapter "Stack, Basin and token path": East logical cluster 5 is PCL 5, West logical cluster 5 is PCL 6; tile 0x151 is tile 1 of its cluster. -/
theorem test_stack_address : 0x2A34567840 / 2 ^ 29 = 0x151 ∧ clusterPcl 0x15 = 5 ∧ clusterPcl 5 = 6 ∧ tileCluster 0x151 = 0x15 ∧ tileHalf 0x151 = 1 ∧ (tileFin 0x151).val = 1 := by
  decide +kernel

/-- Chapter "Tiles": unit (p = 5, k = 10) of a GL4 SKEW_16 tile lies at byte 122, bits 7:4. -/
theorem test_ribbon_operand : skewUnit (fun a => if a = 122 then 0xA0 else 0) 0 .gl4 16 5 10 = 0xA := by decide +kernel

/-- Chapter "Number formats": the GL4 block of 2.9, −1.1, 0.7, 0.12 (as 725/250 and so on, scaled by 1,000) takes scale 0x68 and codes 7, B, 2, 0. -/
def block0 : List Val := [.fin false ⟨2900, 0⟩, .fin true ⟨-1100, 0⟩, .fin false ⟨700, 0⟩, .fin false ⟨120, 0⟩]
theorem test_gl4_block : let q := quantBlock .gl4 false .nearest ⟨1000, 0⟩ block0
    q.1 = 0x68 ∧ q.2.map (·.code) = [7, 0xB, 2, 0] ∧ (q.2.map (·.sat)).sum = 0 ∧ (q.2.map (·.nan)).sum = 0 := by decide +kernel

/-- Chapter "Number formats": the TRIT byte 0xC8 holds −1, 0, +1, +1, −1. -/
theorem test_trit_byte : (List.range 5).map (tritElem 0xC8) = [.fin true ⟨-1, 0⟩, Val.zero, .fin false ⟨1, 0⟩, .fin false ⟨1, 0⟩, .fin true ⟨-1, 0⟩] ∧
    tritInvalid 242 = false ∧ tritInvalid 243 = true := by decide +kernel

/-- Chapter "Matrix array": the square block. A at 0 and B at 0x1080, lane 0 alone; element (0, 0) is 184, BF16 code 0x4338. -/
def squareRd (a : Nat) : Nat :=
  let b := a % 0x1080
  let k := b / 32
  if b < 4064 then
    (if b % 32 ≠ 0 then 0 else if a < 0x1080 then (if k < 32 then 3 else if k < 64 then (if k % 2 = 0 then 7 else 9) else 0) else if k < 32 then 1 else if k < 64 then 4 else 0)
  else if b = 0x1000 then (if a < 0x1080 then 0x7F else 0x81) else if b = 0x1001 then (if a < 0x1080 then 0x7E else 0x7F) else 0
def squareDesc : Desc := Desc.ofNat (0x10 + 0x08 * 2 ^ 24 + 0x1080 * 2 ^ 128 + 64 * 2 ^ 192 + 64 * 2 ^ 208 + 64 * 2 ^ 224 + 8 * 2 ^ 240 + 8 * 2 ^ 244 + 2 * 2 ^ 248)
theorem test_square_block : squareDesc.fd = .bf16 ∧ (arrayResult squareDesc.fd .nearest (fp32F.decode 0x3F800000) (fp32F.decode 0x3F800000) Val.zero
    (matElem squareRd squareDesc 0 0 0)).code = 0x4338 := by decide +kernel

/-- Chapter "Near-bank attention": the first key of a group. 3.1 is 31/10; the scale is 2^−7, 396.8 becomes 384 (0x7C), −6.4 becomes −6.5 (0xCD), 512 saturates. -/
theorem test_first_key : kvScale 0x3B83126F ⟨0xC66666, -22⟩ = 0x3C000000 ∧ (kvElem .e4m3 0x3C000000 (fp32F.decode 0x40466666)).code = 0x7C ∧
    (kvElem .e4m3 0x3C000000 (fp32F.decode 0xBD4CCCCD)).code = 0xCD ∧ kvElem .e4m3 0x3C000000 (fp32F.decode 0x40800000) = ⟨0x7E, 1, 0⟩ := by decide +kernel

/-- Chapter "Vertical channels": row index 0x4AC0 is layer M1, bank 8, row 149. -/
theorem test_row_index : riLayer 0x4AC0 = 0 ∧ riBank 0x4AC0 = 8 ∧ riRow 0x4AC0 = 149 ∧ riOf 8 149 = 0x4AC0 := by decide +kernel

/-- Chapter "Basin": the replay across the wrap. ACK 0x002 with OLDEST 0xFFE and NEXT 0x2F0 frees 5 flits and leaves 749 from 0x003 on. -/
theorem test_replay_across_the_wrap : let v : EndSt := { EndSt.init with next := 0x2F0, buf := List.replicate 754 [] }
    v.oldest = 0xFFE ∧ (v.free 0x002 0).unacked = 749 ∧ (v.free 0x002 0).oldest = 0x003 := by decide +kernel

/-- Chapter "Power delivery": sharing between decode and prefill. At 40 W cluster 3 (K = 18) stops at point 10 and cluster 9 (K = 30) at point 9. -/
def share0 (c k : Nat) : Share :=
  { c := c, top := 13, busy := true, pt := 0
    pred := (typicalVolts.zipIdx).map (fun p => (Frac.mk2 (k * p.1 * p.1 * (80 + 5 * p.2) : Nat) (10000 * 10000 * 100)).add
      (Frac.mk2 (24 * p.1 * p.1 * p.1 : Nat) (10 * 7200 * 7200 * 7200))) }
theorem test_sharing : (assignPoints (Frac.ofNat 40) 600 [share0 3 18, share0 9 30] (predSum [share0 3 18, share0 9 30])).map (·.pt) = [10, 9] := by decide +kernel

/-- Chapter "Lands, rails and mechanics": reduced airflow. At 40 °C and 56 L/s T_eff is 46 °C and f_in is 1.23 Gstep/s on the GLD-192-880. -/
theorem test_reduced_airflow : let s := thmUp (fun t => { t with trayLost := false, tray := { inlet := 80, outlet := 100, flow := 560 } })
    s.d.tEff s.env = 92 ∧ inletLimit s.env 92 = some 123 := by decide +kernel

/-- Chapter "Tiles": the ROW_LOAD of the paced weight load waits on semaphore 3 and signals semaphore 5, with 16 KiB from slot offset 0x0123_4000. -/
theorem test_row_load_descriptor : let d := Desc.ofNat (0x00096301 + 0x01234000 * 2 ^ 32 + 0x00100000 * 2 ^ 64 + 0x00040000 * 2 ^ 160)
    d.opcode = 1 ∧ d.wen = true ∧ d.wsem = 3 ∧ d.sen = true ∧ d.ssem = 5 ∧ d.rawAddr = 0x01234000 ∧ d.count = 16 ∧
      d.rawSd = 0x40000 := by decide +kernel

-- Single commands ---------------------------------------------------------------------------------------------------------

def after (c : Instr) (s : State) : State := match exec c s with | .next u => u | _ => s

/-- Chapter "Setup register map": the repair of row 149 of bank 8 in layer M1 to spare 0 writes 0xC000_0095 into its entry. -/
theorem test_row_repair : tget ((after (.rowRepair 0 8 149) (withCol id)).d.fab.col 0).rowRep 0 (32 * 8) = 0xC0000095 := by decide +kernel

/-- Chapter "Setup register map": entry 0 of bank 8 of ROW_REP, of the column of HALF 1, PCL 5, SITE 1 and of HALF 0, PCL 6, SITE 1; an offset that
is no multiple of 4, and a node that no site has, name nothing. -/
theorem test_towpath_address : towReg 0xA8440400 = some (.repair 358 (.row 8 0)) ∧ towReg 0x30440400 = some (.repair 103 (.row 8 0)) ∧
    towReg 0xA8440402 = none ∧ towReg 0xA87C0400 = none := by decide +kernel

/-- Chapter "Errors": a second report of a key raises REPORTERS of its open record, and opens none. -/
def keyOpen : KeySt := { key := { code := 0x0101, w20 := (up.d.suspectWords (.site 0)).1, w24 := 0 }, rcd := some { rec1 with reporters := 999 }, hold := false, since := 0 }
theorem test_error_merge :
    (after .errorReport (aggUp (fun a => { a with keys := [keyOpen] }) [report0])).agg.keys.map (fun k => k.rcd.map (·.reporters)) = [some 1000] := by decide +kernel

/-- R21: a tick advances the count by one; the queue of commands that wait is untouched. -/
theorem test_time_tick : (after .timeTick (withTime 41 up)).time.ticks = 42 ∧ (after .timeTick { up with pending := [.timeTick] }).pending = [.timeTick] := by decide +kernel

/-- R433: SEC_LOCK written 1 sets the lock; written by a VF it does not. -/
theorem test_sec_lock : (after (.secLock 0 1) up).sec.lock = true ∧ (after (.secLock 5 1) up).sec.lock = false := by decide +kernel

end Sys2Proof.Tests
end

section
/-! PROOFS. Read-to-clear counters (R7, R91, R243): what a read by the PF and by another function answers and clears, and from it the
statements about the counters of a tile and of the Basin. -/

namespace Sys2Proof.Machine
open Sys2Proof

-- One rule for each kind of read --------------------------------------------------------------------------------------

/-- The PF gets the value, and the counters are cleared (R91). -/
theorem Dev.readRc_pf (d : Dev) (v : Nat) (clear : Dev → Dev) : d.readRc 0 v clear = (clear d).send (.regValue v) := if_pos rfl

/-- Another function has no such register (R243). -/
theorem Dev.readRc_of_ne (d : Dev) {f : FuncId} (v : Nat) (clear : Dev → Dev) (hf : f ≠ 0) :
    d.readRc f v clear = d.send (.regValue 0) := if_neg hf

/-- The window of a tile that is there answers the PF with the value, and keeps the halves as the read leaves them. -/
theorem Dev.readTileReg_of_takes (d : Dev) {t : TileId} (rd : Fabric → Fabric × Nat) (ht : d.tileTakes t = true) :
    d.readTileReg 0 t rd = ({ d with fab := (rd d.fab).1 }).send (.regValue (rd d.fab).2) := if_pos (by simp [ht])

/-- Another function, or a window that is not there, reads 0 (R28, R243). -/
theorem Dev.readTileReg_of_not_takes (d : Dev) {f : FuncId} {t : TileId} (rd : Fabric → Fabric × Nat)
    (h : f ≠ 0 ∨ d.tileTakes t = false) : d.readTileReg f t rd = d.send (.regValue 0) := by
  refine if_neg fun hc => ?_
  obtain ⟨hf, ht⟩ := (Bool.and_eq_true ..).mp hc
  obtain h | h := h
  · exact h (of_decide_eq_true hf)
  · exact Bool.false_ne_true (h.symm.trans ht)

/-- A counter of the site that carries the tile: the value, and that site cleared. -/
theorem Fabric.readTile_of_siteOf {f : Fabric} {t : TileId} {x : SiteIx} (value : Site → Nat) (clear : Site → Site)
    (h : f.siteOf t = some x) : f.readTile t value clear = (f.setSite x (clear (f.site x)), value (f.site x)) := by
  simp only [Fabric.readTile, h]

/-- TILE_DRAM_ERR counts in the column of the site. -/
theorem Fabric.readDramErr_of_siteOf {f : Fabric} {t : TileId} {x : SiteIx} (h : f.siteOf t = some x) :
    f.readDramErr t = (f.setCol x { f.col x with uncorrSectors := 0, corrSectors := 0 },
      (f.col x).uncorrSectors * 2 ^ 16 + (f.col x).corrSectors) := by
  simp only [Fabric.readDramErr, h]

/-- BSN_ERR_CNT counts in the aggregator. -/
theorem readErrCnt_pf (a : Agg) (d : Dev) :
    readErrCnt a d 0 = ({ a with logLost := 0, overflows := 0 }, d.send (.regValue (a.logLost * 2 ^ 16 + a.overflows))) := if_pos rfl
theorem readErrCnt_of_ne (a : Agg) (d : Dev) {f : FuncId} (hf : f ≠ 0) : readErrCnt a d f = (a, d.send (.regValue 0)) := if_neg hf

/-- CTX_ERR answers a function that sees the context, and clears the counts of that context. -/
theorem Dev.readCtxErr_of_sees {d : Dev} {f : FuncId} {c : CtxId} (h : d.sees f c = true) :
    d.readCtxErr f c = (d.setCtx c { d.ctx c with evLost := 0, dbDropped := 0 }).send
      (.regValue ((d.ctx c).evLost * 2 ^ 16 + (d.ctx c).dbDropped)) := if_pos h
theorem Dev.readCtxErr_of_not_sees {d : Dev} {f : FuncId} {c : CtxId} (h : d.sees f c = false) :
    d.readCtxErr f c = d.send (.regValue 0) := if_neg (by simp [h])

-- From the rule of a read to the statement about its command ----------------------------------------------------------

/-- A command that reads by Dev.readRc reads and clears, where a cleared counter has the value 0. -/
theorem readClears_of_readRc {c : FuncId → Instr} {value : Dev → Nat} {clear : Dev → Dev}
    (hexec : ∀ f s, exec (c f) s = .next (s.onDev (fun _ d => d.readRc f (value d) (fun _ => clear d))))
    (hbump : ∀ d : Dev, value d.bump = value d)
    (hsend : ∀ (d : Dev) (o : Out), value (d.send o) = value d) (hout : ∀ d : Dev, (clear d).out = d.out)
    (hzero : ∀ d : Dev, value (clear d) = 0) : ReadClears c value clear := by
  intro s
  refine ⟨⟨_, hexec 0 s, ?_, ?_⟩, fun f hf => ⟨_, hexec f s, ?_⟩⟩
  · simp only [State.onDev, Dev.readRc_pf, Dev.send, hout, hbump]
    rfl
  · rw [State.onDev_d, Dev.readRc_pf, hsend, hzero]
  · simp only [State.onDev, Dev.readRc_of_ne _ _ _ hf]
    rfl

/-- A command that reads by Dev.readTileReg reads and clears a counter of its tile, where the read of a tile that is there gives the value
and the halves cleared, and a cleared counter has the value 0. -/
theorem tileReadClears_of_readTileReg {c : FuncId → TileId → Instr} {value : Fabric → SiteIx → Nat} {clear : Fabric → SiteIx → Fabric}
    (rd : Fabric → TileId → Fabric × Nat)
    (hexec : ∀ f t s, exec (c f t) s = .next (s.onDev (fun _ d => d.readTileReg f t (fun g => rd g t))))
    (hread : ∀ {g : Fabric} {t : TileId} {x : SiteIx}, g.siteOf t = some x → rd g t = (clear g x, value g x))
    (hbump : ∀ (d : Dev) (x : SiteIx), value d.bump.fab x = value d.fab x)
    (hzero : ∀ (g : Fabric) (x : SiteIx), value (clear g x) x = 0) : TileReadClears c value clear := by
  intro s t
  refine ⟨fun x ht hx => ?_, fun f hf => ?_⟩
  · have ht' : s.d.bump.tileTakes t = true := ht
    have hrd : rd s.d.bump.fab t = (clear s.d.bump.fab x, value s.d.fab x) := by
      rw [← hbump]
      exact hread hx
    have hdev : s.d.bump.readTileReg 0 t (fun g => rd g t) =
        ({ s.d.bump with fab := clear s.d.bump.fab x }).send (.regValue (value s.d.fab x)) := by
      rw [Dev.readTileReg_of_takes _ _ ht', hrd]
    refine ⟨_, hexec 0 t s, ?_, ?_⟩
    · simp only [State.onDev, hdev]
      rfl
    · rw [State.onDev_d, hdev]
      exact hzero ..
  · have hdev : s.d.bump.readTileReg f t (fun g => rd g t) = s.d.bump.send (.regValue 0) := Dev.readTileReg_of_not_takes _ _ hf
    refine ⟨_, hexec f t s, ?_⟩
    simp only [State.onDev, hdev]
    rfl

-- Commands whose read is neither --------------------------------------------------------------------------------------

theorem exec_bsnErrCnt (f : FuncId) (s : State) :
    exec (.bsnErrCnt f) s = .next { s with agg := (readErrCnt s.agg s.d.bump f).1, d := (readErrCnt s.agg s.d.bump f).2 } := rfl

theorem exec_ctxErr (f : FuncId) (c : CtxId) (s : State) : exec (.ctxErr f c) s = .next { s with d := s.d.bump.readCtxErr f c } := rfl

-- The statements ------------------------------------------------------------------------------------------------------

/-- Settles O32: each of the five commands reads by Dev.readTileReg, four from the site and one from its column. -/
theorem tileCountersReadAndClear : Obligations.TileCountersReadAndClear := by
  refine ⟨?scratch, ?fmt, ?mm, ?att, ?dram⟩
  case scratch | fmt | mm | att =>
    exact tileReadClears_of_readTileReg _ (fun _ _ _ => rfl) (Fabric.readTile_of_siteOf _ _) (fun _ _ => rfl) (by simp)
  case dram =>
    exact tileReadClears_of_readTileReg Fabric.readDramErr (fun _ _ _ => rfl) Fabric.readDramErr_of_siteOf (fun _ _ => rfl) (by simp)

/-- Settles O33: all but two commands read by Dev.readRc; BSN_ERR_CNT reads the aggregator, CTX_ERR asks who sees the context. -/
theorem basinCountersReadAndClear : Obligations.BasinCountersReadAndClear := by
  refine ⟨?hostErr, ?aptErr, ?bargeErr, ?launchErr, ?t2Err, ?fenceErr, fun n => ?lnkErr, fun n => ?lnkEvents, ?collErr, fun n => ?portErr,
    ?sluice, ?fixed, fun s => ⟨?errCntPf, fun f hf => ?errCntOther⟩, fun s f c => ⟨fun h => ?ctxSeen, fun h => ?ctxUnseen⟩⟩
  case hostErr | aptErr | bargeErr | launchErr | t2Err | fenceErr | collErr | sluice | fixed =>
    exact readClears_of_readRc (fun _ _ => rfl) (fun _ => rfl) (fun _ _ => rfl) (fun _ => rfl) (by simp)
  case lnkErr | lnkEvents =>
    exact readClears_of_readRc (fun _ _ => rfl) (fun _ => rfl) (fun _ _ => rfl) (fun _ => rfl) (by simp [Dev.link_setLink])
  case portErr =>
    exact readClears_of_readRc (fun _ _ => rfl) (fun _ => rfl) (fun _ _ => rfl) (fun _ => rfl) (by simp [Dev.port_setPort])
  case errCntPf =>
    rw [Yields, exec_bsnErrCnt, readErrCnt_pf]
    exact ⟨_, rfl, rfl⟩
  case errCntOther =>
    rw [Yields, exec_bsnErrCnt, readErrCnt_of_ne _ _ hf]
    exact ⟨_, rfl, rfl⟩
  case ctxSeen =>
    have h' : s.d.bump.sees f c = true := h
    rw [Yields, exec_ctxErr, Dev.readCtxErr_of_sees h']
    exact ⟨_, rfl, rfl⟩
  case ctxUnseen =>
    have h' : s.d.bump.sees f c = false := h
    rw [Yields, exec_ctxErr, Dev.readCtxErr_of_not_sees h']
    exact ⟨_, rfl, rfl⟩

end Sys2Proof.Machine
end

section
/-! PROOFS. Time ticks (R21, R22, R348, R472): what a block has counted after a tick, a lost and a resumed time base, and that no other command
counts a tick. -/

namespace Sys2Proof.Machine
open Sys2Proof

-- The ticks that blocks have missed -----------------------------------------------------------------------------------

/-- More ticks missed by block b are more for b and for no other. -/
theorem missedOf_addMissed (t : Time) (l : List (TickBlock × Nat)) (b k : TickBlock) (n : Nat) :
    missedOf { t with missed := addMissed b n l } k = missedOf { t with missed := l } k + if k = b then n else 0 := by
  simp only [missedOf]
  induction l with
  | nil => by_cases h : k = b <;> simp [addMissed, h, eq_comm]
  | cons p r ih =>
    simp only [addMissed]
    by_cases hp : p.1 = b
    · by_cases h : k = b <;> simp [hp, h, eq_comm]
    · by_cases hk : p.1 = k
      · have hkb : k ≠ b := hk ▸ hp
        simp [hk, hkb]
      · simpa [hp, hk] using ih

/-- One more tick missed by each block of a list without repeats. -/
theorem missedOf_foldl_addMissed (t : Time) {held : List TickBlock} (h : held.Nodup) (l : List (TickBlock × Nat)) (k : TickBlock) :
    missedOf { t with missed := held.foldl (fun l b => addMissed b 1 l) l } k =
      missedOf { t with missed := l } k + if k ∈ held then 1 else 0 := by
  induction held generalizing l with
  | nil => simp
  | cons b r ih =>
    obtain ⟨hb, hr⟩ := List.nodup_cons.mp h
    rw [List.foldl_cons, ih hr, missedOf_addMissed]
    by_cases hk : k = b
    · subst hk; simp [hb]
    · simp [hk]

/-- What a block has counted after a tick. -/
theorem blockTicks_tick (s : State) (b : TickBlock) (h : missedOf s.time b ≤ s.time.ticks) :
    blockTicks s.tick.time b = if b ∈ s.time.lost ∨ b ∈ s.d.cutEngines then blockTicks s.time b else blockTicks s.time b + 1 := by
  have hm : missedOf s.tick.time b = missedOf s.time b + if b ∈ s.time.lost ∨ b ∈ s.d.cutEngines then 1 else 0 :=
    (missedOf_foldl_addMissed _ (List.nodup_dedup _) _ b).trans (by simp; rfl)
  have ht : s.tick.time.ticks = s.time.ticks + 1 := rfl
  simp only [blockTicks, hm, ht]
  split <;> omega

-- Operations that act on the state as a whole count no tick -----------------------------------------------------------

@[simp] theorem State.onStep_time (s : State) (t : TileId) (g : Env → Fabric → Fabric) : (s.onStep t g).time = s.time := by
  unfold State.onStep; split <;> rfl
@[simp] theorem State.answer_time (s : State) (b : MctpBinding) (r : MgmtRsp) : (s.answer b r).time = s.time := rfl
@[simp] theorem State.setUpd_time (s : State) (u : PldmUpd) : (s.setUpd u).time = s.time := rfl

theorem time_ite {c : Prop} [Decidable c] {s a b : State} (ha : a.time = s.time) (hb : b.time = s.time) :
    (if c then a else b).time = s.time := by
  split
  · exact ha
  · exact hb

/-- A mailbox command counts no tick where the work that it submits counts none. -/
theorem State.submit_time (s : State) (e : Env) (f : FuncId) (cmd : Nat) {run : State → State} (h : ∀ s, (run s).time = s.time) :
    (s.submit e f cmd run).time = s.time := by
  unfold State.submit
  dsimp only
  split
  · rfl
  · split
    · rfl
    · split
      · rfl
      · exact h _

/-- A PLDM request counts no tick where what it asks for counts none. -/
theorem State.pldm_time (s : State) (b : MctpBinding) {run : State → State × MgmtRsp} (h : ∀ s, (run s).1.time = s.time) :
    (s.pldm b run).time = s.time := by
  unfold State.pldm
  split
  · rfl
  · split
    · rfl
    · split
      · rfl
      · exact h _

/-- An SPDM request counts no tick where what it asks for counts none. -/
theorem State.spdm_time (s : State) (e : Env) (m : SpdmIn) (signs : Bool) (versions : List Byte) {run : State → State × MgmtRsp}
    (h : ∀ s, (run s).1.time = s.time) : (s.spdm e m signs versions run).time = s.time := by
  unfold State.spdm
  refine time_ite rfl (time_ite rfl (time_ite rfl ?_))
  split
  · rfl
  · refine time_ite rfl ?_
    rw [State.answer_time, h]
    split <;> rfl

theorem onSlot0_time (m : SpdmIn) (s : State) (r : MgmtRsp) : (onSlot0 m s r).1.time = s.time := by
  unfold onSlot0; split <;> rfl

theorem State.inSession_time (s : State) (e : Env) (m : SpdmIn) (signs : Bool) (act : Session → Session) :
    (s.inSession e m signs act).time = s.time :=
  s.spdm_time e m signs _ (fun s => by dsimp only; split <;> rfl)

theorem State.keyExchange_time (s : State) (e : Env) (m : SpdmIn) : (s.keyExchange e m).time = s.time :=
  s.spdm_time e m _ _ (fun s => by dsimp only; split; · rfl
                                   · split <;> rfl)

theorem State.endSession_time (s : State) (e : Env) (m : SpdmIn) : (s.endSession e m).time = s.time :=
  s.spdm_time e m _ _ (fun s => by dsimp only; split <;> rfl)

-- Firmware ------------------------------------------------------------------------------------------------------------

theorem State.goSwitch_time (e : Env) (l : List Nat) (s : State) (r : SwitchRun) : (s.goSwitch e r l).time = s.time := by
  induction l generalizing s r with
  | nil => rfl
  | cons n rest ih =>
    unfold State.goSwitch
    split
    · rfl
    · split
      · split <;> rfl
      · split
        · rfl
        · split
          · rfl
          · rw [ih]; split <;> rfl

theorem State.switchAll_time (s : State) (e : Env) (comps : List Nat) (health : List FwHealth) (mbx revert : Bool) :
    (s.switchAll e comps health mbx revert).time = s.time := by
  unfold State.switchAll
  dsimp only
  split
  · rfl
  · split
    · rfl
    · exact State.goSwitch_time ..

theorem State.stageImage_time (s : State) (n : Nat) (i : FwImage) : (s.stageImage n i).1.time = s.time := by
  unfold State.stageImage
  dsimp only
  split
  · rfl
  · split <;> rfl

theorem State.fwStage_time (s : State) (e : Env) (f : FuncId) : (s.fwStage e f).time = s.time := s.submit_time e f _ (fun _ => rfl)

theorem State.fwStaged_time (s : State) (r : Option FwImage) : (s.fwStaged r).time = s.time := by
  unfold State.fwStaged
  split
  · split
    · rfl
    · split
      · exact State.stageImage_time ..
      · rfl
  · rfl

theorem State.fwActivate_time (s : State) (e : Env) (f : FuncId) (health : List FwHealth) : (s.fwActivate e f health).time = s.time :=
  s.submit_time e f _ (fun s => by
    dsimp only
    split
    · exact State.switchAll_time ..
    · split
      · exact State.switchAll_time ..
      · rfl)

theorem State.fwRevert_time (s : State) (e : Env) (f : FuncId) : (s.fwRevert e f).time = s.time :=
  s.submit_time e f _ (fun s => by
    dsimp only
    split
    · rfl
    · split
      · rfl
      · split
        · rfl
        · exact State.switchAll_time ..)

theorem State.fwCommit_time (s : State) (e : Env) (f : FuncId) : (s.fwCommit e f).time = s.time :=
  s.submit_time e f _ (fun s => by dsimp only; split <;> rfl)

theorem State.trialPass_time (s : State) (e : Env) : (s.trialPass e).time = s.time := by
  unfold State.trialPass
  split
  · split
    · rfl
    · dsimp only; split <;> rfl
  · rfl

theorem State.tileDrained_time (s : State) (e : Env) : (s.tileDrained e).time = s.time := by
  unfold State.tileDrained
  split
  · split
    · rfl
    · dsimp only
      split
      · rfl
      · exact State.goSwitch_time ..
  · rfl

theorem State.collQuieted_time (s : State) (e : Env) : (s.collQuieted e).time = s.time := by
  unfold State.collQuieted
  split
  · split
    · rfl
    · exact State.goSwitch_time ..
  · rfl

theorem State.tileAbandon_time (s : State) (e : Env) : (s.tileAbandon e).time = s.time := by
  unfold State.tileAbandon
  split
  · split <;> rfl
  · rfl

theorem State.takeRecords_time (s : State) (e : Env) : (s.takeRecords e).time = s.time := by
  unfold State.takeRecords; split <;> rfl

theorem State.handover_time (s : State) (e : Env) (f : FuncId) : (s.handover e f).time = s.time :=
  s.submit_time e f _ (fun s => by split <;> rfl)

theorem State.coreB_time (s : State) (e : Env) (ok : Bool) : (s.coreB e ok).time = s.time := by
  unfold State.coreB
  split
  · rfl
  · split
    · dsimp only
      rw [State.takeRecords_time]
      split
      · rw [State.goSwitch_time]
      · rfl
    · exact State.takeRecords_time ..
    · rfl

theorem State.lkkClockReturn_time (s : State) (e : Env) : (s.lkkClockReturn e).time = s.time := by
  unfold State.lkkClockReturn
  split
  · rfl
  · dsimp only
    rw [State.takeRecords_time]
    split <;> rfl

-- Bring-up, trust and management -------------------------------------------------------------------------------------

theorem State.lkkBooted_time (s : State) (e : Env) (b : BootIn) : (s.lkkBooted e b).time = s.time := by
  unfold State.lkkBooted
  split
  · rfl
  · split <;> rfl

theorem State.secLock_time (s : State) (f : FuncId) (v : Word) : (s.secLock f v).time = s.time := by
  unfold State.secLock State.writeSecCtrl
  split
  · split <;> rfl
  · rfl

theorem State.tamper_time (s : State) (e : Env) (src : Fin 6) : (s.tamper e src).time = s.time := by
  unfold State.tamper
  dsimp only
  split <;> rfl

theorem State.clearTamper_time (s : State) (via : TamperPath) (v : Word) (present : BitVec 6) : (s.clearTamper via v present).time = s.time := by
  cases via with
  | bar0 f => unfold State.clearTamper; dsimp only; split <;> rfl
  | pldm => exact s.pldm_time _ (fun _ => rfl)

theorem State.setEid_time (s : State) (b : MctpBinding) (eid : Byte) : (s.setEid b eid).time = s.time := by
  unfold State.setEid
  dsimp only
  split
  · rfl
  · split <;> rfl

theorem State.getSensor_time (s : State) (e : Env) (b : MctpBinding) (n : Nat) : (s.getSensor e b n).time = s.time :=
  s.pldm_time b (fun s => by
    split
    · split <;> rfl
    · rfl)

theorem State.capEffecter_time (s : State) (e : Env) (b : MctpBinding) (watts : Nat) : (s.capEffecter e b watts).time = s.time :=
  s.pldm_time b (fun s => by dsimp only; split <;> rfl)

theorem State.requestUpdate_time (s : State) (b : MctpBinding) : (s.requestUpdate b).time = s.time :=
  s.pldm_time b (fun s => by split <;> rfl)

theorem State.passTable_time (s : State) (b : MctpBinding) (comps : List Byte) : (s.passTable b comps).time = s.time := by
  unfold State.passTable
  dsimp only
  have h : ∀ taken : Bool, (s.pldm b fun s => match s.d.lkk.upd with
      | some u =>
        if !taken then (s, .invalidData)
        else
          let s := s.setUpd { u with comps := comps.map BitVec.toNat, state := 2 }
          ({ s with d := (comps.map BitVec.toNat).foldl (fun d n => d.setComp n { d.comp n with staging := true }) s.d }, .pldmOk)
      | none => (s, .invalidData)).time = s.time := fun taken => s.pldm_time b fun s => by
    split
    · split <;> rfl
    · rfl
  exact time_ite (h _) (h _)

theorem State.firmwareData_time (s : State) (b : MctpBinding) (p : FwPiece) : (s.firmwareData b p).time = s.time := by
  unfold State.firmwareData
  split
  · rfl
  · split
    · split
      · split
        · rfl
        · split
          · rfl
          · split
            · rfl
            · dsimp only
              refine time_ite ?_ ?_
              · split <;> simp only [State.setUpd_time, State.answer_time, State.stageImage_time]
              · simp only [State.setUpd_time, State.answer_time, State.stageImage_time]
      · rfl
    · rfl

theorem State.activateFirmware_time (s : State) (e : Env) (b : MctpBinding) (health : List FwHealth) :
    (s.activateFirmware e b health).time = s.time :=
  s.pldm_time b (fun s => by
    split
    · split
      · exact State.switchAll_time ..
      · rfl
    · rfl)

theorem State.cartPrepare_time (s : State) (e : Env) (via : CartPath) (k : CartId) (force : Bool) : (s.cartPrepare e via k force).time = s.time := by
  cases via with
  | bar0 f => unfold State.cartPrepare; dsimp only; split <;> rfl
  | pldm => exact s.pldm_time _ (fun _ => rfl)

theorem State.cartCancel_time (s : State) (e : Env) (via : CartPath) (k : CartId) : (s.cartCancel e via k).time = s.time := by
  cases via with
  | bar0 f => unfold State.cartCancel; dsimp only; split <;> rfl
  | pldm => exact s.pldm_time _ (fun _ => rfl)

-- Every command but TIME_TICK and those that can bring a cold reset ---------------------------------------------------

theorem State.tickLost_ticks (s : State) (b : TickBlock) : (s.tickLost b).time.ticks = s.time.ticks := by
  unfold State.tickLost; split <;> rfl

theorem yields_ticks_of_time {c : Instr} {s u : State} (h : exec c s = .next u) (ht : u.time = s.time) :
    Yields c s (fun t => t.time.ticks = s.time.ticks) := ⟨u, h, congrArg Time.ticks ht⟩

theorem exec_keeps_ticks (c : Instr) (s : State) (hc : coldCommand c = false) (ht : c = .timeTick → s.d.pwr.vaon = false) :
    Yields c s (fun t => t.time.ticks = s.time.ticks) := by
  cases c
  case vaonUp | vaonLoss | basinRailsUp | coldReset | registerWrite => exact nomatch hc
  case timeTick => exact yields_ticks_of_time rfl (by rw [ht rfl]; rfl)
  case tickLost b => exact ⟨_, rfl, s.tickLost_ticks b⟩
  case tickResume => exact ⟨_, rfl, rfl⟩
  case descriptorFetch => exact yields_ticks_of_time rfl (time_ite rfl rfl)
  case nop | rowLoad | rowStore | linearLayout | skewLayout | matmul | attendFinal | attendPartial | attendMerge | copy | add | sub | mul |
      fma | max | min | abs | neg | mulS | addS | clampS | recip | rsqrt | exp | log | sigmoid | silu | geluTanh | tanh | rsum | rmax |
      rsumsq | rmsnorm | softmax | rope | swiglu | cvt | quant | maskIdx | reduce | scaleAdd | gather | fill | kvAppend | rmsStats |
      checkRecomp | send | sample | wait | signal | fenceStream | fenceTile | fenceMesh | fenceDevice | loop | endStep =>
    exact yields_ticks_of_time rfl (s.onStep_time ..)
  case lockkeeperBootDone => exact yields_ticks_of_time rfl (State.lkkBooted_time ..)
  case prepare => exact yields_ticks_of_time rfl (State.cartPrepare_time ..)
  case cancelCartridge => exact yields_ticks_of_time rfl (State.cartCancel_time ..)
  case fwStage => exact yields_ticks_of_time rfl (State.fwStage_time ..)
  case fwStageComplete => exact yields_ticks_of_time rfl (State.fwStaged_time ..)
  case fwActivate => exact yields_ticks_of_time rfl (State.fwActivate_time ..)
  case trialPass => exact yields_ticks_of_time rfl (State.trialPass_time ..)
  case fwCommit => exact yields_ticks_of_time rfl (State.fwCommit_time ..)
  case fwRevert => exact yields_ticks_of_time rfl (State.fwRevert_time ..)
  case lkkHandover => exact yields_ticks_of_time rfl (State.handover_time ..)
  case coreBTakeover => exact yields_ticks_of_time rfl (State.coreB_time ..)
  case tileMicrocodeDrain => exact yields_ticks_of_time rfl (State.tileDrained_time ..)
  case tileSwitchAbandon => exact yields_ticks_of_time rfl (State.tileAbandon_time ..)
  case loadWindow => exact yields_ticks_of_time rfl ((State.collQuieted_time ..).trans (State.takeRecords_time ..))
  case lkkClockReturn => exact yields_ticks_of_time rfl (State.lkkClockReturn_time ..)
  case getVersion | getCapabilities | negotiateAlgorithms | getDigests | getMeasurements =>
    exact yields_ticks_of_time rfl (State.spdm_time _ _ _ _ _ fun _ => rfl)
  case getCertificate | challenge => exact yields_ticks_of_time rfl (State.spdm_time _ _ _ _ _ fun _ => onSlot0_time ..)
  case keyExchange => exact yields_ticks_of_time rfl (State.keyExchange_time ..)
  case finish | heartbeat | keyUpdate => exact yields_ticks_of_time rfl (State.inSession_time ..)
  case endSession => exact yields_ticks_of_time rfl (State.endSession_time ..)
  case secLock => exact yields_ticks_of_time rfl (State.secLock_time ..)
  case tamperEvent => exact yields_ticks_of_time rfl (State.tamper_time ..)
  case secTamperStatus => exact yields_ticks_of_time rfl (State.clearTamper_time ..)
  case setEndpointId => exact yields_ticks_of_time rfl (State.setEid_time ..)
  case getSensorReading => exact yields_ticks_of_time rfl (State.getSensor_time ..)
  case powerCapEffecter => exact yields_ticks_of_time rfl (State.capEffecter_time ..)
  case requestUpdate => exact yields_ticks_of_time rfl (State.requestUpdate_time ..)
  case passComponentTable => exact yields_ticks_of_time rfl (State.passTable_time ..)
  case firmwareData => exact yields_ticks_of_time rfl (State.firmwareData_time ..)
  case activateFirmware => exact yields_ticks_of_time rfl (State.activateFirmware_time ..)
  case getStatus => exact yields_ticks_of_time rfl (State.pldm_time _ _ fun _ => rfl)
  case temperatureUpdateTimeout => exact yields_ticks_of_time rfl (State.onFab_time ..)
  all_goals exact ⟨_, rfl, rfl⟩

/-- Settles O7: a tick is missed by the blocks that are lost or held alone, and no other command writes the count. -/
theorem timePassesByTicksAlone : Obligations.TimePassesByTicksAlone := by
  refine ⟨fun s hv => ⟨s.tick, ?_, rfl, rfl, rfl, rfl, rfl, fun b hb => blockTicks_tick s b hb⟩, exec_keeps_ticks⟩
  show execTimeTick s = _
  rw [execTimeTick, if_pos hv]

-- Lost and resumed ticks ----------------------------------------------------------------------------------------------

/-- A change of the refresh oscillator of a channel root changes nothing but its column. -/
theorem Dev.setFallback_frame (d : Dev) (b : TickBlock) (v : Bool) :
    d.setFallback b v = { d with fab := (d.setFallback b v).fab } ∧ (d.setFallback b v).fab.sites = d.fab.sites ∧
    (d.setFallback b v).fab.reports = d.fab.reports ∧ ∀ x : SiteIx, b ≠ .channelRoot x → (d.setFallback b v).fab.col x = d.fab.col x := by
  cases b with
  | channelRoot y => exact ⟨rfl, rfl, rfl, fun x h => Fabric.col_setCol_ne _ _ (fun e => h (congrArg _ e.symm))⟩
  | _ => exact ⟨rfl, rfl, rfl, fun _ _ => rfl⟩

/-- What a block has counted once TICK_LOST has taken back the last 16 ticks of block b. -/
theorem blockTicks_lost (t : Time) (b k : TickBlock) (l : List TickBlock) :
    blockTicks { t with lost := l, missed := addMissed b (Nat.min 16 (blockTicks t b)) t.missed } k =
      if k = b then blockTicks t k - 16 else blockTicks t k := by
  have h : missedOf { t with lost := l, missed := addMissed b (Nat.min 16 (blockTicks t b)) t.missed } k =
      missedOf t k + if k = b then Nat.min 16 (blockTicks t b) else 0 := missedOf_addMissed t _ b k _
  show t.ticks - missedOf _ k = _
  rw [h]
  by_cases hk : k = b
  · subst hk
    simp only [if_true, blockTicks, Nat.min_def]
    split <;> omega
  · simp [hk, blockTicks]

theorem tickLost_of_lost {s : State} {b : TickBlock} (h : b ∈ s.time.lost) : s.tickLost b = s.bump := by
  rw [State.tickLost, if_pos (by simpa using h)]

theorem tickLost_time_of_not_lost {s : State} {b : TickBlock} (h : b ∉ s.time.lost) :
    (s.tickLost b).time = { s.time with lost := s.time.lost ++ [b], missed := addMissed b (Nat.min 16 (blockTicks s.time b)) s.time.missed } := by
  rw [State.tickLost, if_neg (by simpa using h)]

theorem tickLost_d_of_not_lost {s : State} {b : TickBlock} (h : b ∉ s.time.lost) :
    (s.tickLost b).d = (s.d.bump.setFallback b true).onFab (fun f => { f with reports := f.reports ++
      [{ code := 0x0801, suspect := tickSuspect (s.d.bump.fab.freeNat 30) b, d1 := 0, d2 := 0, ctx := none, action := 0, time := nowNs s.time }] }) := by
  rw [State.tickLost, if_neg (by simpa using h)]
  rfl

theorem tickLost_keeps (s : State) (b : TickBlock) : (s.tickLost b).sec = s.sec ∧ (s.tickLost b).agg = s.agg := by
  unfold State.tickLost; split <;> exact ⟨rfl, rfl⟩

theorem tickLost_d_frame (s : State) (b : TickBlock) :
    (s.tickLost b).d = { s.d with fab := (s.tickLost b).d.fab } ∧ (s.tickLost b).d.fab.sites = s.d.fab.sites ∧
    ∀ x : SiteIx, b ≠ .channelRoot x → (s.tickLost b).d.fab.col x = s.d.fab.col x := by
  by_cases h : b ∈ s.time.lost
  · rw [tickLost_of_lost h]
    exact ⟨rfl, rfl, fun _ _ => rfl⟩
  · obtain ⟨hd, hs, -, hc⟩ := s.d.bump.setFallback_frame b true
    rw [tickLost_d_of_not_lost h]
    exact ⟨by rw [hd]; rfl, hs, hc⟩

theorem blockTicks_tickLost_ne (s : State) {b k : TickBlock} (h : k ≠ b) : blockTicks (s.tickLost b).time k = blockTicks s.time k := by
  by_cases hl : b ∈ s.time.lost
  · rw [tickLost_of_lost hl]; rfl
  · rw [tickLost_time_of_not_lost hl, blockTicks_lost, if_neg h]

/-- Settles O8: TICK_LOST adds to the ticks missed by its block alone, TICK_RESUME takes the block from the list of those that are lost. -/
theorem lostTicksHoldTheBlock : Obligations.LostTicksHoldTheBlock := by
  refine ⟨fun b s => ⟨s.tickLost b, rfl, ?_, fun k hk => blockTicks_tickLost_ne s hk, s.tickLost_ticks b, (tickLost_keeps s b).1,
    (tickLost_keeps s b).2, tickLost_d_frame s b⟩, fun b s => ⟨s.tickResume b, rfl, ?_, fun k hk => ?_, fun k => rfl, rfl, rfl, rfl, ?_⟩⟩
  · split
    · next h => exact tickLost_of_lost h
    · next h =>
      rw [tickLost_time_of_not_lost h, tickLost_d_of_not_lost h, blockTicks_lost, if_pos rfl]
      obtain ⟨-, -, hr, -⟩ := s.d.bump.setFallback_frame b true
      exact ⟨rfl, congrArg (· ++ _) hr, rfl⟩
  · simp [State.tickResume]
  · simp [State.tickResume, hk]
  · obtain ⟨hd, hs, -, hc⟩ := s.d.bump.setFallback_frame b false
    exact ⟨hd, hs, hc⟩

end Sys2Proof.Machine
end

section
/-! PROOFS. Register writes (R244, R464, R466): which register of the map a write of the PF reaches, what it then holds, and when a write is
discarded. -/

namespace Sys2Proof.Machine
open Sys2Proof

-- Which register an offset names --------------------------------------------------------------------------------------

theorem plainReg_off_mod {r : PlainReg} {o : Nat} (h : plainReg o = some r) : r.off % 4 = 0 :=
  (by decide : ∀ r ∈ plainRegs, r.off % 4 = 0) r (List.mem_of_find?_eq_some h)

/-- No plain register lies between NET_PTP_CFG and LNK_CFG_1. -/
theorem plainReg_of_net {o : Nat} (h : 0x201010 < o) (h' : o < 0x300004) : plainReg o = none := by
  refine List.find?_eq_none.mpr fun r hr => ?_
  have hoff := (by decide : ∀ r ∈ plainRegs, r.off ≤ 0x201010 ∨ 0x300004 ≤ r.off) r hr
  simp only [beq_iff_eq]
  omega

/-- No plain register lies in the windows of tiles and contexts. -/
theorem plainReg_of_window {o : Nat} (h : 0xC00000 ≤ o) : plainReg o = none := by
  refine List.find?_eq_none.mpr fun r hr => ?_
  have hoff := (by decide : ∀ r ∈ plainRegs, r.off < 0xC00000) r hr
  simp only [beq_iff_eq]
  omega

theorem State.pfWrite_group (s : State) (g : GroupId) {o : Nat} (v : Word) (h : o < 0x400) :
    s.pfWrite (0x240000 + 0x400 * g.val + o) v = { s with d := s.d.groupWrite s.env g o v } := by
  have hg := g.isLt
  have hid : groupFin ((0x240000 + 0x400 * g.val + o - 0x240000) / 0x400) = g := Fin.ext (by simp only [groupFin]; omega)
  have ho : (0x240000 + 0x400 * g.val + o - 0x240000) % 0x400 = o := by omega
  simp only [State.pfWrite, plainReg_of_net (show 0x201010 < 0x240000 + 0x400 * g.val + o by omega) (by omega)]
  rw [if_neg (by simp; omega), if_neg (by simp; omega), if_pos (by simp; omega), hid, ho]

theorem State.pfWrite_qp (s : State) (q : QpId) {k : Nat} (v : Word) (h : k < 16) :
    s.pfWrite (0x280000 + 64 * q.val + 4 * k) v = { s with d := s.d.qpWrite s.env q k v } := by
  have hq := q.isLt
  have hid : qpFin ((0x280000 + 64 * q.val + 4 * k - 0x280000) / 64) = q := Fin.ext (by simp only [qpFin]; omega)
  have hk : (0x280000 + 64 * q.val + 4 * k - 0x280000) % 64 / 4 = k := by omega
  simp only [State.pfWrite, plainReg_of_net (show 0x201010 < 0x280000 + 64 * q.val + 4 * k by omega) (by omega)]
  rw [if_neg (by simp; omega), if_neg (by simp; omega), if_neg (by simp; omega), if_pos (by simp; omega), hid, hk]

theorem State.pfWrite_tile (s : State) (t : TileId) {o : Nat} (v : Word) (h : o < 0x8000) :
    s.pfWrite (0xC00000 + 0x8000 * t.val + o) v = { s with d := s.d.tileWrite s.env t o v } := by
  have ht := t.isLt
  have hid : tileOfNat ((0xC00000 + 0x8000 * t.val + o - 0xC00000) / 0x8000) = t := Fin.ext (by simp only [tileOfNat]; omega)
  have ho : (0xC00000 + 0x8000 * t.val + o - 0xC00000) % 0x8000 = o := by omega
  simp only [State.pfWrite, plainReg_of_window (show 0xC00000 ≤ 0xC00000 + 0x8000 * t.val + o by omega)]
  rw [if_neg (by simp; omega), if_neg (by simp; omega), if_neg (by simp; omega), if_neg (by simp; omega), if_pos (by simp; omega), hid, ho]

theorem State.pfWrite_ctx (s : State) (c : CtxId) {o : Nat} (v : Word) (h : o < 0x2000) :
    s.pfWrite (0x1C00000 + 0x2000 * c.val + o) v = { s with d := s.d.ctxWrite s.env 0 c o v } := by
  have hc := c.isLt
  have hid : (⟨(0x1C00000 + 0x2000 * c.val + o - 0x1C00000) / 0x2000 % 4096, Nat.mod_lt _ (by decide)⟩ : CtxId) = c := Fin.ext (by simp only; omega)
  have ho : (0x1C00000 + 0x2000 * c.val + o - 0x1C00000) % 0x2000 = o := by omega
  simp only [State.pfWrite, plainReg_of_window (show 0xC00000 ≤ 0x1C00000 + 0x2000 * c.val + o by omega)]
  rw [if_neg (by simp; omega), if_neg (by simp; omega), if_neg (by simp; omega), if_neg (by simp; omega), if_neg (by simp; omega),
    if_pos (by simp; omega), hid, ho]

/-- What a write of a plain register does beside holding its bits. -/
def plainEffect (d : Dev) (o v : Nat) : Dev := if o = 0x50000C then d.restartBase else if o = 0x201010 then d.ptpCfg v else d

theorem State.pfWrite_plain (s : State) {r : PlainReg} (v : Word) (h : plainReg r.off = some r) :
    s.pfWrite r.off v = { s with d := plainEffect (s.d.putReg r.off (v &&& BitVec.ofNat 32 r.mask).toNat) r.off v.toNat } := by
  simp only [State.pfWrite, h, plainEffect]

theorem plainEffect_regs (d : Dev) (o v : Nat) : (plainEffect d o v).regs = d.regs := by
  unfold plainEffect
  split
  · rfl
  · split
    · unfold Dev.ptpCfg; split <;> rfl
    · rfl

theorem plainEffect_of_ne (d : Dev) {o : Nat} (v : Nat) (h : o ≠ 0x50000C) (h' : o ≠ 0x201010) : plainEffect d o v = d := by
  rw [plainEffect, if_neg h, if_neg h']

-- Writes that change nothing ------------------------------------------------------------------------------------------

theorem Dev.tileWrite_of_not_takes (d : Dev) (e : Env) {t : TileId} (o : Nat) (v : Word) (h : d.tileTakes t = false) :
    d.tileWrite e t o v = d := if_pos (by simp [h])

theorem Dev.tileWrite_semTimeout (d : Dev) (e : Env) {t : TileId} (v : Word) (h : d.tileTakes t = true) :
    d.tileWrite e t 0x100 v = d.putReg (tileReg t 0x100) v.toNat := by
  rw [Dev.tileWrite, if_neg (by simp [h]), if_pos rfl]

theorem Dev.groupWrite_of_not_off (d : Dev) (e : Env) {g : GroupId} {o : Nat} (v : Word) (ho : 0 < o) (h : (d.group g).gstate ≠ 0) :
    d.groupWrite e g o v = d := by
  unfold Dev.groupWrite
  dsimp only
  rw [if_neg (by omega), if_pos (by simp [h])]

theorem Dev.qpWrite_of_not_reset (d : Dev) (e : Env) {q : QpId} {k : Nat} (v : Word) (hk : 0 < k) (h : (d.qp q).state ≠ 0) :
    d.qpWrite e q k v = d := by
  unfold Dev.qpWrite
  dsimp only
  rw [if_neg (by omega), if_neg h]

theorem Dev.ctxWrite_of_not_disabled (d : Dev) (e : Env) (f : FuncId) {c : CtxId} {o : Nat} (v : Word) (ho : 0 < o)
    (h : (d.ctx c).phase ≠ .disabled) : d.ctxWrite e f c o v = d := by
  unfold Dev.ctxWrite
  rw [if_neg (by omega), if_neg (by simp [h])]

-- The command ---------------------------------------------------------------------------------------------------------

theorem yields_registerWrite {f : FuncId} {tgt : RegTarget} {size : Nat} {v : BitVec 64} {s a : State} (h : s.bump.write f tgt size v = a) :
    Yields (.registerWrite f tgt size v) s (Thereafter a) := ⟨_, rfl, h ▸ s.onState_thereafter _⟩

theorem Dev.funcOn_pf (d : Dev) : d.funcOn 0 = true := by simp [Dev.funcOn]

theorem State.write_of_not_funcOn (s : State) {f : FuncId} (tgt : RegTarget) (size : Nat) (v : BitVec 64) (h : s.d.funcOn f = false) :
    s.write f tgt size v = s := if_pos (by simp [h])

theorem State.write_bar0 (s : State) {f : FuncId} (off size : Nat) (v : BitVec 64) (h : s.d.funcOn f = true) :
    s.write f (.bar0 off) size v = s.barWrite f off size v := if_neg (by simp [h])

theorem State.write_config (s : State) {f : FuncId} (r : CfgReg) (size : Nat) (v : BitVec 64) (h : s.d.funcOn f = true) (hp : s.d.host.perst = false) :
    s.write f (.config r) size v = { s with d := s.d.cfgWrite s.env f r v.toNat } := by
  simp [State.write, h, hp]

theorem State.write_config_perst (s : State) (f : FuncId) (r : CfgReg) (size : Nat) (v : BitVec 64) (hp : s.d.host.perst = true) :
    s.write f (.config r) size v = s := by
  simp only [State.write, hp, if_true, ite_self]

theorem State.barWrite_word (s : State) (f : FuncId) {off : Nat} (v : BitVec 64) (h : off % 4 = 0) :
    s.barWrite f off 4 v = s.write32 f off (v.setWidth 32) := if_pos (by simp [h])

/-- A 32-bit write of the PF at an aligned offset is that of State.pfWrite. -/
theorem yields_pfWrite {off : Nat} {v : BitVec 64} {s a : State} (h4 : off % 4 = 0) (h : s.bump.pfWrite off (v.setWidth 32) = a) :
    Yields (.registerWrite 0 (.bar0 off) 4 v) s (Thereafter a) :=
  yields_registerWrite (by rw [State.write_bar0 _ _ _ _ (Dev.funcOn_pf _), State.barWrite_word _ _ _ h4]; exact h)

theorem Thereafter.regs {a u : State} (h : Thereafter a u) : u.d.regs = a.d.regs := by
  obtain ⟨-, -, -, -, -, hd⟩ := h
  rw [hd]

/-- What the registers hold after a write of one of them, whatever else it does. -/
theorem Thereafter.reg {a u : State} {d : Dev} {o v : Nat} (h : Thereafter a u) (hr : a.d.regs = (d.putReg o v).regs) :
    u.d.reg u.fuse o = v ∧ ∀ k : Nat, k ≠ o → u.d.reg u.fuse k = d.reg a.fuse k := by
  have hk : ∀ k, u.d.reg u.fuse k = (d.putReg o v).reg a.fuse k := fun k => by
    have hregs := h.regs
    obtain ⟨-, -, hf, -⟩ := h
    simp only [Dev.reg, hregs, hr, hf]
  exact ⟨(hk o).trans (Dev.reg_putReg ..), fun k hne => (hk k).trans (Dev.reg_putReg_ne _ _ _ hne)⟩

theorem Yields.mono {c : Instr} {s : State} {P Q : State → Prop} (h : Yields c s P) (hpq : ∀ u, P u → Q u) : Yields c s Q := by
  obtain ⟨u, hu, hp⟩ := h
  exact ⟨u, hu, hpq u hp⟩

-- The parts of the statement ------------------------------------------------------------------------------------------

theorem registerWrite_discarded (s : State) (f : FuncId) (off size : Nat) (v : BitVec 64)
    (h : s.d.funcOn f = false ∨ ¬ ((size = 4 ∧ off % 4 = 0) ∨ (size = 8 ∧ off % 8 = 0))) :
    Yields (.registerWrite f (.bar0 off) size v) s (Thereafter s.bump) := by
  refine yields_registerWrite ?_
  cases hf : s.d.funcOn f with
  | false => exact State.write_of_not_funcOn s.bump _ _ _ hf
  | true =>
    obtain ⟨h4, h8⟩ := not_or.mp (h.resolve_left (by simp [hf]))
    rw [State.write_bar0 s.bump _ _ _ hf, State.barWrite, if_neg (by simpa using h4), if_neg (by simpa using h8)]

theorem registerWrite_twice (s : State) (f : FuncId) (off : Nat) (v : BitVec 64) (hf : s.d.funcOn f = true) (h8 : off % 8 = 0) :
    Yields (.registerWrite f (.bar0 off) 8 v) s
      (Thereafter ((s.bump.write32 f off (v.setWidth 32)).write32 f (off + 4) ((v >>> 32).setWidth 32))) := by
  refine yields_registerWrite ?_
  rw [State.write_bar0 s.bump _ _ _ hf, State.barWrite, if_neg (by simp), if_pos (by simp [h8])]

theorem registerWrite_plain (s : State) (r : PlainReg) (v : BitVec 64) (h : plainReg r.off = some r) :
    Yields (.registerWrite 0 (.bar0 r.off) 4 v) s (fun u =>
      u.d.reg u.fuse r.off = (v.setWidth 32 &&& BitVec.ofNat 32 r.mask).toNat ∧ (∀ o : Nat, o ≠ r.off → u.d.reg u.fuse o = s.d.reg s.fuse o) ∧
      (r.off ≠ 0x50000C → r.off ≠ 0x201010 →
        Thereafter { s.bump with d := s.d.bump.putReg r.off (v.setWidth 32 &&& BitVec.ofNat 32 r.mask).toNat } u)) := by
  refine (yields_pfWrite (plainReg_off_mod h) (State.pfWrite_plain _ _ h)).mono fun u hu => ?_
  obtain ⟨hsame, hother⟩ := hu.reg (d := s.d.bump) (plainEffect_regs _ _ _)
  refine ⟨hsame, hother, fun h1 h2 => ?_⟩
  rw [plainEffect_of_ne _ _ h1 h2] at hu
  exact hu

theorem registerWrite_config (s : State) (f : FuncId) (r : CfgReg) (size : Nat) (v : BitVec 64) (hf : s.d.funcOn f = true)
    (hp : s.d.host.perst = false) :
    Yields (.registerWrite f (.config r) size v) s (Thereafter { s.bump with d := s.d.bump.cfgWrite s.env f r v.toNat }) :=
  yields_registerWrite (State.write_config s.bump _ _ _ hf hp)

/-- Settles O34: the register that the offset names is found (State.pfWrite_plain and its companions), and its write is read off. -/
theorem registerWritesByTheMap : Obligations.RegisterWritesByTheMap := by
  refine ⟨registerWrite_discarded, registerWrite_twice, registerWrite_plain, fun s t v => ⟨fun ht o ho h4 => ?absent, fun ht => ?window⟩,
    fun s g o v hg h0 ho h4 => ?group, fun s q k v hq h0 hk => ?qp, fun s c k v hc h0 hk => ?ctx, fun s f r size v => ⟨fun h => ?quiet, fun hf hp => ?config⟩⟩
  case absent =>
    refine yields_pfWrite (by omega) ?_
    rw [State.pfWrite_tile _ _ _ ho, Dev.tileWrite_of_not_takes s.bump.d _ _ _ ht]
  case window =>
    refine (yields_pfWrite (a := { s.bump with d := s.d.bump.putReg (tileReg t 0x100) (v.setWidth 32 : Word).toNat }) (by omega) ?_).mono
      fun u hu => ⟨(hu.reg rfl).1, hu⟩
    rw [State.pfWrite_tile _ _ _ (by decide), Dev.tileWrite_semTimeout s.bump.d _ _ ht]
    rfl
  case group =>
    refine yields_pfWrite (by omega) ?_
    rw [State.pfWrite_group _ _ _ ho, Dev.groupWrite_of_not_off s.bump.d _ _ h0 hg]
  case qp =>
    refine yields_pfWrite (by omega) ?_
    rw [State.pfWrite_qp _ _ _ hk, Dev.qpWrite_of_not_reset s.bump.d _ _ h0 hq]
  case ctx =>
    refine yields_pfWrite (by omega) ?_
    rw [State.pfWrite_ctx _ _ _ (by omega), Dev.ctxWrite_of_not_disabled s.bump.d _ _ _ (by omega) hc]
  case quiet =>
    refine yields_registerWrite (h.elim (fun hf => ?_) fun hp => ?_)
    · exact State.write_of_not_funcOn s.bump _ _ _ hf
    · exact State.write_config_perst s.bump _ _ _ _ hp
  case config =>
    have hw := registerWrite_config s f r size v hf hp
    refine ⟨?_, ?_, ?_, ?_, ?_⟩
    · rintro rfl
      have hcto : fld v.toNat 3 0 = v.toNat % 16 := by simp [fld]
      rwa [Dev.cfgWrite, hcto] at hw
    · rintro rfl; exact hw
    · rintro rfl; exact hw
    · rintro rfl rfl; exact hw
    · rintro rfl h0; rwa [Dev.cfgWrite, if_neg h0] at hw

end Sys2Proof.Machine
end

section
/-! PROOFS. Columns: what a sector reads as after a write of it and of another, with column repairs in force (R159, R191), and what the transfers
of one column leave alone (R156, R161). -/

namespace Sys2Proof.Machine
open Sys2Proof

-- Spare bytes ---------------------------------------------------------------------------------------------------------

/-- Bit i of spare byte n. -/
theorem testBit_spareByte (b : BitVec 64) (n i : Nat) : (spareByte b n).testBit i = (decide (i < 8) && b.toNat.testBit (8 * n + i)) := by
  rw [spareByte, show (256 : Nat) = 2 ^ 8 from rfl, Nat.testBit_mod_two_pow, Nat.testBit_div_two_pow, Nat.add_comm i]

theorem testBit_setSpareByte_zero (b : BitVec 64) {n : Nat} (hn : n < 8) (m i : Nat) (hm : m < 8) (hi : i < 8) :
    (setSpareByte b n 0).toNat.testBit (8 * m + i) = (decide (m ≠ n) && b.toNat.testBit (8 * m + i)) := by
  have hlt : 8 * m + i < 64 := by omega
  simp only [setSpareByte, BitVec.toNat_xor, BitVec.toNat_ofNat, Nat.testBit_xor, Nat.testBit_mod_two_pow, hlt, decide_true, Bool.true_and,
    Nat.zero_mod, Nat.testBit_mul_two_pow]
  have hx : Nat.xor (spareByte b n) 0 = spareByte b n := Nat.xor_zero _
  rw [hx, testBit_spareByte]
  by_cases h : m = n
  · subst h
    simp [hi]
  · by_cases hle : 8 * n ≤ 8 * m + i
    · have : ¬ 8 * m + i - 8 * n < 8 := by omega
      simp [h, this]
    · simp [h, hle]

/-- A spare byte set to 0 is 0, and no other that is 0 changes. -/
theorem spareByte_setSpareByte_zero (b : BitVec 64) {n m : Nat} (hn : n < 8) (hm : m < 8) (h : m = n ∨ spareByte b m = 0) :
    spareByte (setSpareByte b n 0) m = 0 := by
  refine Nat.eq_of_testBit_eq fun i => ?_
  rw [testBit_spareByte, Nat.zero_testBit]
  by_cases hi : i < 8
  · rw [testBit_setSpareByte_zero b hn m i hm hi]
    rcases h with h | h
    · simp [h]
    · have hb := congrArg (Nat.testBit · i) h
      simp only [testBit_spareByte, hi, decide_true, Bool.true_and, Nat.zero_testBit] at hb
      simp [hb]
  · simp [hi]

@[simp] theorem spareByte_zero (n : Nat) : spareByte 0 n = 0 := by simp [spareByte]

@[simp] theorem setSym_zero_zero (j : Nat) : setSym 0 j 0 = 0 := by
  have h : errSym 0 j = 0 := by
    show (0#576).toNat / _ % 256 = 0
    rw [BitVec.toNat_zero, Nat.zero_div]
  have hx : Nat.xor 0 (0 % 256) = 0 := rfl
  rw [setSym, h, hx, Nat.zero_mul]
  exact BitVec.xor_self

theorem Column.spare_lt_of_mem_colMap {c : Column} {bank s : Nat} {m : Nat × Nat} (h : m ∈ c.colMap bank s) : m.2 < 8 := by
  obtain ⟨p, -, hp⟩ := List.mem_filterMap.mp h
  dsimp only at hp
  split at hp
  · cases hp
    exact Nat.mod_lt _ (by decide)
  · cases hp

/-- Spare bytes set to 0 in turn: those of the list are 0, and none that is 0 changes. -/
theorem spareByte_foldl_zero (l : List (Nat × Nat)) (hl : ∀ m ∈ l, m.2 < 8) (b : BitVec 64) {n : Nat} (hn : n < 8)
    (h : n ∈ l.map (·.2) ∨ spareByte b n = 0) : spareByte (l.foldl (fun b m => setSpareByte b m.2 0) b) n = 0 := by
  induction l generalizing b with
  | nil => simpa using h
  | cons q r ih =>
    obtain ⟨hq, hr⟩ := List.forall_mem_cons.mp hl
    rw [List.foldl_cons]
    refine ih hr _ ?_
    by_cases hnr : n ∈ r.map (·.2)
    · exact .inl hnr
    · refine .inr (spareByte_setSpareByte_zero b hq hn ?_)
      rcases h with h | h
      · rw [List.map_cons, List.mem_cons] at h
        exact .inl (h.resolve_right hnr)
      · exact .inr h

-- Sectors -------------------------------------------------------------------------------------------------------------

/-- Sector k of a column holds x where its cell does, and every spare byte that it uses is 0. -/
def Column.Holds (c : Column) (k : Nat) (x : Sector) : Prop :=
  tget c.cells (c.base (c.phys (k / 16))) (16 * c.phys (k / 16) + k % 16) = x ∧
  ∀ m ∈ c.colMap (physBank (c.phys (k / 16))) (k % 16), spareByte (tget c.spareBytes 0 (c.phys (k / 16))) m.2 = 0

theorem foldl_setSym_of_zero (l : List (Nat × Nat)) (b : BitVec 64) (h : ∀ m ∈ l, spareByte b m.2 = 0) :
    l.foldl (fun e m => setSym e m.1 (spareByte b m.2)) 0 = 0 := by
  induction l with
  | nil => rfl
  | cons m r ih =>
    obtain ⟨hm, hr⟩ := List.forall_mem_cons.mp h
    rw [List.foldl_cons, hm, setSym_zero_zero]
    exact ih hr

theorem Column.sector_of_holds {c : Column} {k : Nat} {x : Sector} (h : c.Holds k x) (hx : x.err = 0) : c.sector k = x := by
  obtain ⟨hcell, hspare⟩ := h
  show c.physSector _ _ = x
  simp only [Column.physSector, hcell, hx, foldl_setSym_of_zero _ _ hspare]
  rw [← hx]

/-- After a write the sector holds what was written. -/
theorem Column.holds_putSector (c : Column) (k : Nat) (v : BitVec 512) (p : Bool) :
    (c.putSector k v p).Holds k { data := v, poison := p, err := 0 } := by
  refine ⟨tget_tset _ _ _ _, fun m hm => ?_⟩
  have hm' : m ∈ c.colMap (physBank (c.phys (k / 16))) (k % 16) := hm
  have hs : tget (c.putSector k v p).spareBytes 0 (c.phys (k / 16)) =
      (c.colMap (physBank (c.phys (k / 16))) (k % 16)).foldl (fun b m => setSpareByte b m.2 0) (tget c.spareBytes 0 (c.phys (k / 16))) :=
    tget_tset _ _ _ _
  show spareByte (tget (c.putSector k v p).spareBytes 0 (c.phys (k / 16))) m.2 = 0
  rw [hs]
  exact spareByte_foldl_zero _ (fun _ h => c.spare_lt_of_mem_colMap h) _ (c.spare_lt_of_mem_colMap hm') (.inl (List.mem_map_of_mem hm'))

/-- The places of two sectors of rows that the column has differ, where no two rows share a physical row. -/
theorem Column.place_ne {c : Column} (ha : Apart c) {j k : Nat} (hj : j / 16 < 393216) (hk : k / 16 < 393216) (h : k ≠ j) :
    16 * c.phys (k / 16) + k % 16 ≠ 16 * c.phys (j / 16) + j % 16 := by
  intro e
  have hp : c.phys (k / 16) = c.phys (j / 16) := by omega
  have hr : k / 16 = j / 16 := ha _ _ hk hj hp
  omega

/-- A write keeps what another sector holds. -/
theorem Column.Holds.putSector {c : Column} {j : Nat} {x : Sector} (h : c.Holds j x) (ha : Apart c) (k : Nat) (v : BitVec 512) (p : Bool)
    (hj : j / 16 < 393216) (hk : k / 16 < 393216) (hne : k ≠ j) : (c.putSector k v p).Holds j x := by
  obtain ⟨hcell, hspare⟩ := h
  refine ⟨?_, fun m hm => ?_⟩
  · rw [← hcell]
    exact tget_tset_other _ _ _ (Column.place_ne ha hj hk hne)
  · have h0 := hspare m hm
    by_cases hp : c.phys (k / 16) = c.phys (j / 16)
    · have hs : tget (c.putSector k v p).spareBytes 0 (c.phys (j / 16)) =
          (c.colMap (physBank (c.phys (k / 16))) (k % 16)).foldl (fun b m => setSpareByte b m.2 0) (tget c.spareBytes 0 (c.phys (k / 16))) := by
        rw [← hp]; exact tget_tset _ _ _ _
      show spareByte (tget (c.putSector k v p).spareBytes 0 (c.phys (j / 16))) m.2 = 0
      rw [hs]
      exact spareByte_foldl_zero _ (fun _ h => c.spare_lt_of_mem_colMap h) _ (c.spare_lt_of_mem_colMap hm) (.inr (hp ▸ h0))
    · have hs : tget (c.putSector k v p).spareBytes 0 (c.phys (j / 16)) = tget c.spareBytes 0 (c.phys (j / 16)) := tget_tset_ne _ _ _ hp
      show spareByte (tget (c.putSector k v p).spareBytes 0 (c.phys (j / 16))) m.2 = 0
      rw [hs]
      exact h0

/-- A write keeps the data and the poison of another sector. -/
theorem Column.sector_putSector_other {c : Column} (ha : Apart c) {j : Nat} (k : Nat) (v : BitVec 512) (p : Bool)
    (hj : j / 16 < 393216) (hk : k / 16 < 393216) (hne : k ≠ j) :
    ((c.putSector k v p).sector j).data = (c.sector j).data ∧ ((c.putSector k v p).sector j).poison = (c.sector j).poison := by
  have hx : tget (c.putSector k v p).cells (c.base (c.phys (j / 16))) (16 * c.phys (j / 16) + j % 16) =
      tget c.cells (c.base (c.phys (j / 16))) (16 * c.phys (j / 16) + j % 16) := tget_tset_other _ _ _ (Column.place_ne ha hj hk hne)
  constructor
  · have h := congrArg Sector.data hx; exact h
  · have h := congrArg Sector.poison hx; exact h

/-- The writes of n sectors from key k on, with data and poison by their number. -/
def sectorRun (k n : Nat) (data : Nat → BitVec 512) (poison : Bool) : List SectorWrite :=
  (List.range n).map (fun i => { key := k + i, data := data i, poison := poison })

/-- The column after writes in turn. -/
def Column.putAll (c : Column) (ws : List SectorWrite) : Column := ws.foldl (fun c w => c.putSector w.key w.data w.poison) c

theorem Column.putAll_rowRep (c : Column) (ws : List SectorWrite) : (c.putAll ws).rowRep = c.rowRep :=
  foldl_keeps Column.rowRep (fun (c : Column) (w : SectorWrite) => c.putSector w.key w.data w.poison) (fun _ _ => rfl) ws c

theorem phys_of_rowRep {c d : Column} (h : d.rowRep = c.rowRep) (ri : Nat) : d.phys ri = c.phys ri := by
  simp only [Column.phys, Column.spareRow, h]

theorem apart_of_rowRep {c d : Column} (ha : Apart c) (h : d.rowRep = c.rowRep) : Apart d := fun a b hai hbi hab =>
  ha a b hai hbi (by rwa [phys_of_rowRep h, phys_of_rowRep h] at hab)

theorem sectorRun_succ (k n : Nat) (data : Nat → BitVec 512) (poison : Bool) :
    sectorRun k (n + 1) data poison = sectorRun k n data poison ++ [{ key := k + n, data := data n, poison := poison }] := by
  simp [sectorRun, List.range_succ]

/-- A run of sectors written: each holds what was written. -/
theorem Column.holds_putAll_run {c : Column} (ha : Apart c) (k n : Nat) (data : Nat → BitVec 512) (poison : Bool) (hn : k + n ≤ 6291456)
    {j : Nat} (hj : k ≤ j) (hj' : j < k + n) : (c.putAll (sectorRun k n data poison)).Holds j { data := data (j - k), poison := poison, err := 0 } := by
  induction n with
  | zero => omega
  | succ n ih =>
    rw [sectorRun_succ, Column.putAll, List.foldl_append]
    show ((c.putAll (sectorRun k n data poison)).putSector (k + n) (data n) poison).Holds j _
    by_cases h : j = k + n
    · subst h
      rw [Nat.add_sub_cancel_left]
      exact Column.holds_putSector _ _ _ _
    · exact (ih (by omega) (by omega)).putSector (apart_of_rowRep ha (c.putAll_rowRep _)) _ _ _ (by omega) (by omega) (by omega)

theorem Column.sector_putAll_run {c : Column} (ha : Apart c) (k n : Nat) (data : Nat → BitVec 512) (poison : Bool) (hn : k + n ≤ 6291456)
    {j : Nat} (hj : k ≤ j) (hj' : j < k + n) :
    (c.putAll (sectorRun k n data poison)).sector j = { data := data (j - k), poison := poison, err := 0 } :=
  Column.sector_of_holds (Column.holds_putAll_run ha k n data poison hn hj hj') rfl

/-- Every other sector keeps its data and its poison. -/
theorem Column.sector_putAll_run_other {c : Column} (ha : Apart c) (k n : Nat) (data : Nat → BitVec 512) (poison : Bool) (hn : k + n ≤ 6291456)
    {j : Nat} (hj : j / 16 < 393216) (hout : ¬ (k ≤ j ∧ j < k + n)) :
    ((c.putAll (sectorRun k n data poison)).sector j).data = (c.sector j).data ∧
    ((c.putAll (sectorRun k n data poison)).sector j).poison = (c.sector j).poison := by
  induction n with
  | zero => exact ⟨rfl, rfl⟩
  | succ n ih =>
    rw [sectorRun_succ, Column.putAll, List.foldl_append]
    obtain ⟨hd, hp⟩ := ih (by omega) (by omega)
    obtain ⟨hd', hp'⟩ := Column.sector_putSector_other (c := c.putAll (sectorRun k n data poison)) (apart_of_rowRep ha (c.putAll_rowRep _)) (j := j) (k + n)
      (data n) poison hj (by omega) (by omega)
    exact ⟨hd'.trans hd, hp'.trans hp⟩

theorem ite_keeps {α γ : Type} (p : α → γ) {z : γ} {c : Prop} [Decidable c] {a b : α} (ha : p a = z) (hb : p b = z) :
    p (if c then a else b) = z := by
  split
  · exact ha
  · exact hb

-- Transfers of one column ---------------------------------------------------------------------------------------------

/-- From halves f transfers of the column of site x have made halves g: other sites and columns are as they were, of the site itself the tags of
its scratch may have gone, and the row table stands. Beside sites and columns reports have come. -/
structure ColumnWork (x : SiteIx) (f g : Fabric) : Prop where
  siteAt : { g.site x with tags := [] } = { f.site x with tags := [] }
  siteOff : ∀ y : SiteIx, y ≠ x → g.site y = f.site y
  colOff : ∀ y : SiteIx, y ≠ x → g.col y = f.col y
  rowRep : (g.col x).rowRep = (f.col x).rowRep

theorem ColumnWork.refl (x : SiteIx) (f : Fabric) : ColumnWork x f f := ⟨rfl, fun _ _ => rfl, fun _ _ => rfl, rfl⟩

theorem ColumnWork.trans {x : SiteIx} {f g h : Fabric} (a : ColumnWork x f g) (b : ColumnWork x g h) : ColumnWork x f h :=
  ⟨b.siteAt.trans a.siteAt, fun y hy => (b.siteOff y hy).trans (a.siteOff y hy), fun y hy => (b.colOff y hy).trans (a.colOff y hy),
    b.rowRep.trans a.rowRep⟩

theorem ColumnWork.foldl {α : Type} {x : SiteIx} {step : Fabric → α → Fabric} (h : ∀ f a, ColumnWork x f (step f a)) (l : List α) (f : Fabric) :
    ColumnWork x f (l.foldl step f) := by
  induction l generalizing f with
  | nil => exact .refl x f
  | cons a r ih => exact (h f a).trans (ih _)

/-- Every site is as before but for tags. -/
theorem ColumnWork.site {x : SiteIx} {f g : Fabric} (h : ColumnWork x f g) (y : SiteIx) :
    { g.site y with tags := [] } = { f.site y with tags := [] } := by
  by_cases hy : y = x
  · exact hy ▸ h.siteAt
  · rw [h.siteOff y hy]

theorem ColumnWork.setCol {x : SiteIx} (f : Fabric) {c : Column} (h : c.rowRep = (f.col x).rowRep) : ColumnWork x f (f.setCol x c) :=
  ⟨rfl, fun _ _ => rfl, fun _ hy => f.col_setCol_ne c hy, by rw [Fabric.col_setCol, h]⟩

theorem ColumnWork.report (x : SiteIx) (f : Fabric) (e : Env) (code : Nat) (s : Suspect) (d1 d2 : Nat) :
    ColumnWork x f (f.report e code s d1 d2) := ⟨rfl, fun _ _ => rfl, fun _ _ => rfl, rfl⟩

theorem Fabric.xferWrite_work (f : Fabric) (x : SiteIx) (ws : List SectorWrite) : ColumnWork x f (f.xferWrite x ws) := by
  unfold Fabric.xferWrite
  split
  · exact .refl x f
  · refine (ColumnWork.setCol f (c := _) ?_).trans ⟨?_, fun y hy => Fabric.site_setSite_ne _ _ hy, fun _ _ => rfl, rfl⟩
    · exact Column.putAll_rowRep (f.col x) ws
    · rw [Fabric.site_setSite]; rfl

theorem Column.noteSector_rowRep (c : Column) (ri s : Nat) (r : SecRead) : (c.noteSector ri s r).rowRep = c.rowRep := by
  unfold Column.noteSector; split <;> rfl

theorem Column.markColDue_rowRep (c : Column) (e : Env) : (c.markColDue e).1.rowRep = c.rowRep := by
  unfold Column.markColDue; dsimp only; split <;> rfl

theorem Column.declareLane_rowRep (c : Column) (e : Env) : (c.declareLane e).1.rowRep = c.rowRep := by
  unfold Column.declareLane
  have keeps := @ite_keeps _ _ (fun p : Column × List (Nat × Nat × Nat × Bool) => p.1.rowRep)
  refine foldl_keeps (fun p : Column × List (Nat × Nat × Nat × Bool) => p.1.rowRep) _ (fun p bb => keeps rfl ?_) _ _
  split
  · rfl
  · exact keeps rfl (keeps rfl (keeps rfl rfl))

theorem Fabric.noteRead_work (f : Fabric) (e : Env) (x : SiteIx) (cls ri : Nat) (rs : List SecRead) : ColumnWork x f (f.noteRead e x cls ri rs) := by
  unfold Fabric.noteRead
  dsimp only
  have hc : ∀ c : Column, c.rowRep = (f.col x).rowRep → ((c.markColDue e).1.declareLane e).1.rowRep = (f.col x).rowRep := fun c h => by
    rw [Column.declareLane_rowRep, Column.markColDue_rowRep, h]
  have hn : (rs.zipIdx.foldl (fun (c : Column) p => c.noteSector ri p.2 p.1) { f.col x with xfers := (f.col x).xfers + 1 }).rowRep = (f.col x).rowRep :=
    foldl_keeps Column.rowRep (fun (c : Column) (p : SecRead × Nat) => c.noteSector ri p.2 p.1) (fun c p => c.noteSector_rowRep ri p.2 p.1) _ _
  refine (ColumnWork.setCol f (hc _ hn)).trans ((ColumnWork.foldl (fun f k => ColumnWork.report ..) _ _).trans
    ((ColumnWork.foldl (fun f p => ?_) _ _).trans (ColumnWork.foldl (fun f q => ?_) _ _)))
  · split
    · exact .report ..
    · exact .refl ..
  · split <;> exact .report ..

theorem Fabric.xferRead_work (f : Fabric) (e : Env) (x : SiteIx) (cls ri : Nat) (errs : List SymErr) :
    ColumnWork x f (f.xferRead e x cls ri errs).1 := f.noteRead_work ..

theorem Fabric.perform_work (f : Fabric) (e : Env) (x : SiteIx) (r : RowReqRec) (errs : List SymErr) : ColumnWork x f (f.perform e x r errs) := by
  unfold Fabric.perform
  split
  · exact f.xferWrite_work ..
  · exact f.xferRead_work ..

theorem Fabric.before_work (f : Fabric) (e : Env) (x : SiteIx) (ris : List Nat) : ColumnWork x f (f.before e x ris) := by
  unfold Fabric.before
  dsimp only
  split
  · exact .refl ..
  · refine ColumnWork.trans (ColumnWork.setCol f ?_) (ColumnWork.foldl (fun f r => f.perform_work e x r []) _ _)
    rfl

theorem Fabric.before_of_queue_nil (f : Fabric) (e : Env) (x : SiteIx) (ris : List Nat) (h : (f.col x).queue = []) : f.before e x ris = f := by
  simp [Fabric.before, h]

theorem Fabric.readRow_work (f : Fabric) (e : Env) (x : SiteIx) (cls ri : Nat) (errs : List SymErr) : ColumnWork x f (f.readRow e x cls ri errs).1 :=
  (f.before_work ..).trans (Fabric.xferRead_work ..)

theorem Fabric.readRows_work (f : Fabric) (e : Env) (x : SiteIx) (cls : Nat) (ris : List Nat) : ColumnWork x f (f.readRows e x cls ris).1 := by
  have h : ∀ p : Fabric × List (List SecRead), ColumnWork x p.1 (ris.foldl (fun p ri =>
      let (g, rs) := p.1.readRow e x cls ri []
      (g, p.2 ++ [rs])) p).1 := by
    induction ris with
    | nil => exact fun p => .refl ..
    | cons ri r ih =>
      intro p
      rw [List.foldl_cons]
      exact (p.1.readRow_work e x cls ri []).trans (ih (_, _))
  exact h (f, [])

theorem Fabric.writeSectors_work (f : Fabric) (e : Env) (x : SiteIx) (ws : List SectorWrite) : ColumnWork x f (f.writeSectors e x ws) :=
  (f.before_work ..).trans (Fabric.xferWrite_work ..)

/-- The column after a write of sectors: what waited for their rows, and then the sectors. -/
theorem Fabric.col_xferWrite (f : Fabric) (x : SiteIx) {ws : List SectorWrite} (h : ws ≠ []) :
    ∃ n, (f.xferWrite x ws).col x = { (f.col x).putAll ws with xfers := n } := by
  rw [Fabric.xferWrite, if_neg (by simpa using h)]
  exact ⟨_, Fabric.col_setCol ..⟩

theorem Column.sector_xfers (c : Column) (n k : Nat) : ({ c with xfers := n } : Column).sector k = c.sector k := rfl

theorem Fabric.xferWrite_reports (f : Fabric) (x : SiteIx) (ws : List SectorWrite) : (f.xferWrite x ws).reports = f.reports := by
  unfold Fabric.xferWrite; split <;> rfl

end Sys2Proof.Machine
end

section
/-! PROOFS. Start-up of a column and the stack aperture (R24, R25, R168 to R171, R200 to R202, R268). -/

namespace Sys2Proof.Machine
open Sys2Proof

-- Training, fill and reload -------------------------------------------------------------------------------------------

theorem Fabric.laneTrained_unusable (f : Fabric) (e : Env) (x : SiteIx) (bad : List LaneLoc) (ok : Bool) (rows cols : List (Nat × Word))
    (hp : (f.col x).phase = .training) (h : ok = false ∨ ctlOk (ctlBad bad) = false) :
    f.laneTrained e x bad ok rows cols = f.setCol x { f.col x with phase := .unusable, ctlLanes := ctlBad bad } := by
  rw [Fabric.laneTrained, if_neg (by simp [hp]), if_pos (by simpa using h)]

/-- The column at the start of its fill (R201). -/
def Column.starting (c : Column) (e : Env) (x : SiteIx) (bad : List LaneLoc) (rows cols : List (Nat × Word)) : Column :=
  { c with
    phase := .filling, ctlLanes := ctlBad bad
    layers := Vector.replicate 8 { LayerSt.init with updated := blockTicks e.time (.channelRoot x) }
    rowRep := rows.foldl (fun t p => tset t 0 p.1 p.2) c.rowRep
    colRep := cols.foldl (fun t p => tset t 0 p.1 p.2) c.colRep }

/-- Training with failed lanes keeps what neither lane settings nor reports change. -/
theorem Fabric.laneTrained_keeps {γ : Type} (p : Fabric → γ) (f : Fabric) (e : Env) (x : SiteIx) (bad : List LaneLoc) {ok : Bool}
    (rows cols : List (Nat × Word)) (hp : (f.col x).phase = .training) (hok : ok = true) (hctl : ctlOk (ctlBad bad) = true)
    (hlane : ∀ f b g l ex, p (f.setCol x { (f.col x).setLane b g l with exhausted := ex }) = p f)
    (hrep : ∀ f code q d1 d2, p (Fabric.report f e code q d1 d2) = p f) :
    p (f.laneTrained e x bad ok rows cols) = p (f.setCol x ((f.col x).starting e x bad rows cols)) := by
  rw [Fabric.laneTrained, if_neg (by simp [hp]), if_neg (by simp [hok, hctl])]
  refine foldl_keeps p _ (fun f q => ?_) _ _
  exact ite_keeps p rfl (ite_keeps p (hlane f _ _ _ _) ((hrep _ _ _ _ _).trans (hlane f _ _ _ _)))

/-- A column that can be used begins its fill, with every layer at the fast interval (R183, R201). -/
theorem Fabric.laneTrained_usable (f : Fabric) (e : Env) (x : SiteIx) (bad : List LaneLoc) {ok : Bool} (rows cols : List (Nat × Word))
    (hp : (f.col x).phase = .training) (hok : ok = true) (hctl : ctlOk (ctlBad bad) = true) :
    let g := f.laneTrained e x bad ok rows cols
    (g.col x).phase = .filling ∧ (∀ i : Fin 8, ((g.col x).layers[i]).fast = true) ∧ (g.col x).cells = (f.col x).cells ∧
    (∀ y : SiteIx, y ≠ x → g.col y = f.col y) ∧ g.sites = f.sites := by
  have col {γ : Type} (p : Column → γ) (h : ∀ c b g l ex, p { Column.setLane c b g l with exhausted := ex } = p c) :
      p ((f.laneTrained e x bad ok rows cols).col x) = p ((f.col x).starting e x bad rows cols) :=
    (f.laneTrained_keeps (fun g => p (g.col x)) e x bad rows cols hp hok hctl (fun g _ _ _ _ => by rw [Fabric.col_setCol]; exact h ..)
      (fun _ _ _ _ _ => rfl)).trans (by rw [Fabric.col_setCol])
  refine ⟨col Column.phase (fun _ _ _ _ _ => rfl), fun i => ?_, col Column.cells (fun _ _ _ _ _ => rfl), fun y hy => ?_, ?_⟩
  · rw [col Column.layers (fun _ _ _ _ _ => rfl)]
    simp [Column.starting, LayerSt.init]
  · exact (f.laneTrained_keeps (fun g => g.col y) e x bad rows cols hp hok hctl (fun g _ _ _ _ => g.col_setCol_ne _ hy) (fun _ _ _ _ _ => rfl)).trans
      (f.col_setCol_ne _ hy)
  · exact f.laneTrained_keeps Fabric.sites e x bad rows cols hp hok hctl (fun _ _ _ _ _ => rfl) (fun _ _ _ _ _ => rfl)

theorem Dev.columnUnusable_of_usable (d : Dev) (e : Env) {x : SiteIx} (h : (d.fab.col x).phase ≠ .unusable) : d.columnUnusable e x = d :=
  if_pos (by simp [h])

theorem Dev.columnUnusable_of_unusable (d : Dev) (e : Env) {x : SiteIx} (h : (d.fab.col x).phase = .unusable) :
    d.columnUnusable e x = if d.fab.mapWritten = false then d else match d.fab.tileOf x with
      | some t => d.startMig e t true 0x0103
      | none => d.declareBad x 0x0103 := by
  unfold Dev.columnUnusable
  by_cases hm : d.fab.mapWritten = false
  · rw [if_pos (by simp [hm]), if_pos hm]
  · exact (if_neg (by simp [h, hm])).trans (if_neg hm).symm

theorem Dev.resumeApt_of_nil (d : Dev) (e : Env) (h : d.host.aptHeld = []) : d.resumeApt e = d := by
  rw [Dev.resumeApt, h]
  show { d with host := { d.host with aptHeld := [] } } = d
  rw [← h]

/-- The column once its fill is done (R171). -/
def Column.filled (c : Column) (e : Env) (x : SiteIx) (tile : Nat) : Column :=
  { c with
    phase := .ready, cells := [], spareBytes := [], pos := 0, lapFrom := blockTicks e.time (.channelRoot x), minLap := minLapS e
    lapCorr := [], prevCorr := [], colHits := [], colTold := [], hint := none
    fill := { data := poisonRec .uninitialised tile 2 (nowNs e.time), poison := true, err := 0 } }

theorem Fabric.fillDone_of_filling (f : Fabric) (e : Env) {x : SiteIx} (h : (f.col x).phase = .filling) :
    f.fillDone e x = f.setCol x ((f.col x).filled e x (((f.tileOf x).map (·.val)).getD 0)) := if_neg (by simp [h])

/-- A row of the column that a spare row holds makes that spare row one in use (R191). -/
theorem Column.spareInUse_of_spareRow {c : Column} {bank row sp : Nat} (h : c.spareRow bank row = some sp) :
    c.spareInUse (32 * bank + sp) = true := by
  obtain ⟨p, hp, hsp⟩ := List.exists_of_findSome?_eq_some h
  split at hsp
  · next hc =>
    simp only [Bool.and_eq_true, decide_eq_true_eq, beq_iff_eq] at hc
    obtain ⟨⟨hb, hv⟩, -⟩ := hc
    have hlt : sp < 32 := by
      cases hsp
      exact Nat.mod_lt _ (by decide)
    cases hsp
    refine List.any_eq_true.mpr ⟨p, hp, ?_⟩
    simp only [Bool.and_eq_true, beq_iff_eq]
    exact ⟨⟨by omega, hv⟩, by omega⟩
  · cases hsp

/-- What an unlisted sector of an addressable row holds is the last fill. -/
theorem Column.base_phys (c : Column) {ri : Nat} (h : ri < 393216) : c.base (c.phys ri) = c.fill := by
  unfold Column.base Column.phys
  split
  · next sp hs =>
    have hu := Column.spareInUse_of_spareRow hs
    have hk : spareAt (riBank128 ri) sp - rowsPerColumn = 32 * riBank128 ri + sp := by simp only [spareAt]; omega
    rw [hk, hu]
    simp
  · have : ¬ rowsPerColumn ≤ ri := by simp only [rowsPerColumn]; omega
    simp [this]

theorem Column.sector_filled (c : Column) (e : Env) (x : SiteIx) (tile : Nat) {k : Nat} (h : k / 16 < 393216) :
    (c.filled e x tile).sector k = { data := poisonRec .uninitialised tile 2 (nowNs e.time), poison := true, err := 0 } :=
  Column.sector_of_holds ⟨(c.filled e x tile).base_phys h, fun _ _ => spareByte_zero _⟩ rfl

/-- A repair entry loaded at a reload where none is VALID. -/
def loadEntry (t : Tab Word) (p : Nat × Word) : Tab Word := if (tget t 0 p.1).getLsbD 31 then t else tset t 0 p.1 p.2

/-- A VALID entry stays at a reload (R202). -/
theorem tget_foldl_loadEntry (l : List (Nat × Word)) (t : Tab Word) {k : Nat} (h : (tget t 0 k).getLsbD 31 = true) :
    tget (l.foldl loadEntry t) 0 k = tget t 0 k := by
  induction l generalizing t with
  | nil => rfl
  | cons p r ih =>
    have hp : tget (loadEntry t p) 0 k = tget t 0 k := by
      unfold loadEntry
      split
      · rfl
      · next hn => exact tget_tset_ne t 0 _ (fun e => hn (e ▸ h))
    rw [List.foldl_cons, ih _ (hp ▸ h), hp]

theorem Dev.reloadColumn_of_reloading (d : Dev) (e : Env) {x : SiteIx} (h : (d.fab.col x).phase = .reloading) :
    ∃ (rows cols : List (Nat × Word)) (lanes : Tab (Option LaneSt)), d.reloadColumn e x = d.onFab (fun f => f.setCol x { d.fab.col x with
      phase := .ready, rowRep := rows.foldl loadEntry (d.fab.col x).rowRep, colRep := cols.foldl loadEntry (d.fab.col x).colRep, lanes := lanes
      pos := 0, lapFrom := blockTicks e.time (.channelRoot x), minLap := minLapS e
      lapCorr := [], prevCorr := [], colHits := [], colTold := [], hint := none }) :=
  ⟨e.fuse.rowsOf x ++ (d.lkk.written.rows.filter (fun r => r.1 = x)).map (·.2), e.fuse.colsOf x ++ (d.lkk.written.cols.filter (fun r => r.1 = x)).map (·.2),
    ((d.lkk.written.lanes.filter (fun r => r.1 = x)).map (·.2)).foldl
      (fun t p => if (tget t none p.1).isSome then t else tput t p.1 (some p.2)) (d.fab.col x).lanes,
    congrArg (fun f => { d with fab := f }) (if_neg (by simp [h]))⟩

end Sys2Proof.Machine
end

section
/-! PROOFS. The stack aperture (R24, R25, R28, R168, R170, R268): what a read returns, and what a write of whole sectors leaves in the column. -/

namespace Sys2Proof.Machine
open Sys2Proof

-- Lists of bytes ------------------------------------------------------------------------------------------------------

/-- A place in a list of pieces of one length is a place in one of the pieces. -/
theorem getElem?_flatMap_pieces {α β : Type} (g : α → List β) {n : Nat} (h : ∀ a, (g a).length = n) (l : List α) (j : Nat) {r : Nat} (hr : r < n) :
    (l.flatMap g)[n * j + r]? = l[j]?.bind (fun a => (g a)[r]?) := by
  induction l generalizing j with
  | nil => simp
  | cons a l ih =>
    rw [List.flatMap_cons]
    cases j with
    | zero => simp [List.getElem?_append_left (show r < (g a).length by rw [h]; exact hr)]
    | succ j =>
      rw [List.getElem?_append_right (by rw [h]; nlinarith), h, show n * (j + 1) + r - n = n * j + r by rw [Nat.mul_succ]; omega, ih]
      rfl

theorem leBytes_length (n v : Nat) : (leBytes n v).length = n := by
  induction n generalizing v with
  | zero => rfl
  | succ n ih => rw [leBytes, List.length_cons, ih]

theorem sectorBytes_length (v : BitVec 512) : (sectorBytes v).length = 64 := leBytes_length 64 _

theorem bytesSector_padTo {bs : List Byte} (h : 64 ≤ bs.length) : bytesSector (padTo 64 bs) = bytesSector bs := by
  have hz : 64 - bs.length = 0 := by omega
  simp only [bytesSector, padTo, hz, List.replicate_zero, List.append_nil, List.take_take, Nat.min_self]

/-- The bytes that a read of the aperture returns: free ones in the units that it names as poisoned (R168). -/
def apertureBytes (free base : Nat) (bs : List Byte) (poison : List Nat) : List Byte :=
  bs.zipIdx.map (fun p => if poison.contains (p.2 / 64) then Config.freeByte free (base + p.2) else p.1)

theorem getElem?_apertureBytes (free base : Nat) (bs : List Byte) {poison : List Nat} {i : Nat} (h : i / 64 ∉ poison) :
    (apertureBytes free base bs poison)[i]? = bs[i]? := by
  simp only [apertureBytes, List.getElem?_map, List.getElem?_zipIdx, Option.map_map]
  cases bs[i]? with
  | none => rfl
  | some b => simp [h]

-- A slot read ---------------------------------------------------------------------------------------------------------

theorem Fabric.slotRead_absent (f : Fabric) (e : Env) {t : TileId} (off n : Nat) (h : f.accessSite t = none) :
    (f.slotRead e t off n).1 = f ∧ (f.slotRead e t off n).2.2 = List.range n := by
  simp only [Fabric.slotRead, h, and_self]

/-- The sectors that a read of a slot gets from the column. -/
def Fabric.slotSectors (f : Fabric) (e : Env) (x : SiteIx) (k n : Nat) : List SecRead :=
  ((f.readRows e x 1 ((List.range ((k + n + 15) / 16 - k / 16)).map (fun i => k / 16 + i))).2.flatMap id).drop (k % 16)

theorem Fabric.slotRead_present (f : Fabric) (e : Env) {t : TileId} {x : SiteIx} (k n : Nat) (h : f.accessSite t = some x) :
    let r := f.slotRead e t (64 * k) n
    let secs := (f.slotSectors e x k n).take n
    ColumnWork x f r.1 ∧ r.2.1 = secs.flatMap (fun s => sectorBytes s.data) ∧
    r.2.2 = (secs.zipIdx.filter (fun p => p.1.poison || p.1.outcome == 5)).map (·.2) := by
  have hk : 64 * k / 64 = k := by omega
  simp only [Fabric.slotRead, h, hk]
  exact ⟨f.readRows_work .., rfl, rfl⟩

/-- A unit is named as poisoned where its sector is poison or does not correct. -/
theorem mem_poisoned_iff {secs : List SecRead} {j : Nat} {q : SecRead} (h : secs[j]? = some q) :
    j ∈ (secs.zipIdx.filter (fun p => p.1.poison || p.1.outcome == 5)).map (·.2) ↔ q.poison = true ∨ q.outcome = 5 := by
  simp only [List.mem_map, List.mem_filter, List.mem_zipIdx_iff_getElem?, Prod.exists, Bool.or_eq_true, beq_iff_eq]
  constructor
  · rintro ⟨a, b, ⟨ha, hq⟩, rfl⟩
    rw [h] at ha
    cases ha
    exact hq
  · exact fun hq => ⟨q, j, ⟨h, hq⟩, rfl⟩

-- A read of the aperture ----------------------------------------------------------------------------------------------

/-- The device with the errors that meet a read put into the column of the tile. -/
def Dev.upsetSlot (d : Dev) (t : TileId) (ups : List DramUpset) : Dev :=
  match d.fab.accessSite t with
  | some x => d.onFab (fun g => g.setCol x ((g.col x).upsets ups))
  | none => d

theorem Dev.upsetSlot_out (d : Dev) (t : TileId) (ups : List DramUpset) : (d.upsetSlot t ups).out = d.out := by
  unfold Dev.upsetSlot; split <;> rfl

/-- What the first of a list of places adds to the device is not seen by p. -/
theorem head_keeps {γ : Type} (p : Dev → γ) (l : List Nat) (d : Dev) {g : Nat → Dev} (h : ∀ i, p (g i) = p d) :
    p (match l with
      | [] => d
      | i :: _ => g i) = p d := by
  cases l with
  | nil => rfl
  | cons i r => exact h i

/-- A read that is bad (R28, R268). -/
theorem Dev.apertureRead_bad (d : Dev) (e : Env) {f : FuncId} {addr len : Nat} (ups : List DramUpset)
    (h : f ≠ 0 ∨ d.fab.mapValid = false ∨ len = 0 ∨ 4096 < len ∨ inHole addr len = true) :
    d.apertureRead e f addr len ups = d.send .unsupported := if_pos (by simpa [or_assoc] using h)

section
variable {d : Dev} {addr len : Nat} (hm : d.fab.mapValid = true) (hlen : 0 < len) (hmax : len ≤ 4096) (hin : inHole addr len = false)
  (hfen : d.fab.fenced[tileHalf (stackTile addr)] = false)
include hm hlen hmax hin hfen

theorem Dev.apertureRead_held (e : Env) (ups : List DramUpset) (hh : d.colHolds (stackTile addr) = true) :
    d.apertureRead e 0 addr len ups = d.holdApt (.read 0 addr len) := by
  unfold Dev.apertureRead
  dsimp only
  rw [if_neg (by simp [hm, hin]; omega), if_neg (by simp [hfen]), if_pos hh]

/-- A read that is served: what it sends, and the sites after it. -/
theorem Dev.apertureRead_served (e : Env) (ups : List DramUpset) (hh : d.colHolds (stackTile addr) = false) :
    let k := stackOff addr / 64
    let d1 := d.upsetSlot (stackTile addr) ups
    let r := d1.fab.slotRead e (stackTile addr) (64 * k) ((stackOff addr + len + 63) / 64 - k)
    let u := d.apertureRead e 0 addr len ups
    u.out = d.out ++ [.aperture (((apertureBytes d1.fab.free (2 ^ 29 * (stackTile addr).val + 64 * k) r.2.1 r.2.2).drop (stackOff addr % 64)).take len)
      r.2.2] ∧ u.fab.sites = r.1.sites := by
  dsimp only
  have hout := d.upsetSlot_out (stackTile addr) ups
  unfold Dev.apertureRead
  dsimp only
  rw [if_neg (by simp [hm, hin]; omega), if_neg (by simp [hfen]), if_neg (by simp [hh]), ← hout]
  exact ⟨head_keeps (γ := List Out) Dev.out _ _ (fun _ => rfl), head_keeps (γ := Tab Site) (fun v => v.fab.sites) _ _ (fun _ => rfl)⟩

end

end Sys2Proof.Machine
end

section
/-! PROOFS. Columns come up and the host reaches them: the clauses of the statement, one by one (R24, R25, R28, R168 to R171, R200 to R202, R268). -/

namespace Sys2Proof.Machine
open Sys2Proof

-- What follows a command keeps columns and sites ----------------------------------------------------------------------

theorem State.onAll_col (s : State) (g : Env → Dev → Dev) (x : SiteIx) : (s.onAll g).d.fab.col x = (g s.env s.d.bump).fab.col x :=
  congrArg (fun t => tget t Column.init x.val) (State.follow_fab_cols _ _)

theorem State.onAll_sites (s : State) (g : Env → Dev → Dev) : (s.onAll g).d.fab.sites = (g s.env s.d.bump).fab.sites :=
  State.follow_fab_sites _ _

theorem State.onAll_thereafter_of (s : State) {g : Env → Dev → Dev} {d : Dev} (h : g s.env s.d.bump = d) :
    Thereafter { s.bump with d := d } (s.onAll g) := h ▸ s.onAll_thereafter g

-- Start-up ------------------------------------------------------------------------------------------------------------

/-- The device once the lanes of a column are trained (R200, R201). -/
def Dev.trainLanes (d : Dev) (e : Env) (x : SiteIx) (bad : List LaneLoc) (ok : Bool) : Dev :=
  (d.onFab (fun f => f.laneTrained e x (bad ++ e.fuse.lanesOf x) ok (e.fuse.rowsOf x) (e.fuse.colsOf x))).columnUnusable e x

theorem Dev.trainLanes_unusable (d : Dev) (e : Env) (x : SiteIx) (bad : List LaneLoc) (ok : Bool) (hp : (d.fab.col x).phase = .training)
    (h : ok = false ∨ ctlOk (ctlBad (bad ++ e.fuse.lanesOf x)) = false) :
    let gone := d.onFab (fun f => f.setCol x { d.fab.col x with phase := .unusable, ctlLanes := ctlBad (bad ++ e.fuse.lanesOf x) })
    d.trainLanes e x bad ok = if d.fab.mapWritten = false then gone else match d.fab.tileOf x with
      | some t => gone.startMig e t true 0x0103
      | none => gone.declareBad x 0x0103 := by
  have hl := d.fab.laneTrained_unusable e x (bad ++ e.fuse.lanesOf x) ok (e.fuse.rowsOf x) (e.fuse.colsOf x) hp h
  dsimp only
  rw [Dev.trainLanes, Dev.onFab, hl]
  exact Dev.columnUnusable_of_unusable _ e (congrArg Column.phase (Fabric.col_setCol ..))

theorem Dev.trainLanes_usable (d : Dev) (e : Env) (x : SiteIx) (bad : List LaneLoc) (ok : Bool) (hp : (d.fab.col x).phase = .training)
    (hok : ok = true) (hctl : ctlOk (ctlBad (bad ++ e.fuse.lanesOf x)) = true) :
    let g := (d.trainLanes e x bad ok).fab
    (g.col x).phase = .filling ∧ (∀ i : Fin 8, ((g.col x).layers[i]).fast = true) ∧ (g.col x).cells = (d.fab.col x).cells ∧
    (∀ y : SiteIx, y ≠ x → g.col y = d.fab.col y) ∧ g.sites = d.fab.sites := by
  have hl := d.fab.laneTrained_usable e x (bad ++ e.fuse.lanesOf x) (e.fuse.rowsOf x) (e.fuse.colsOf x) hp hok hctl
  have hphase := hl.1
  have hd : d.trainLanes e x bad ok = d.onFab (fun f => f.laneTrained e x (bad ++ e.fuse.lanesOf x) ok (e.fuse.rowsOf x) (e.fuse.colsOf x)) :=
    Dev.columnUnusable_of_usable _ e (fun hc => absurd (hphase.symm.trans hc) (by decide))
  rw [hd]
  exact hl

/-- LANE_TRAINING_DONE of a training column (R200, R201). -/
theorem laneTrainingDone_yields (s : State) (x : SiteIx) (bad : List LaneLoc) (ok : Bool) (hp : (s.d.fab.col x).phase = .training) :
    Yields (.laneTrainingDone x bad ok) s (fun u =>
      let ctl := ctlBad (bad ++ s.fuse.lanesOf x)
      let gone := s.d.bump.onFab (fun f => f.setCol x { s.d.fab.col x with phase := .unusable, ctlLanes := ctl })
      let after : Dev := if s.d.fab.mapWritten = false then gone
        else match s.d.fab.tileOf x with
          | some t => gone.startMig s.env t true 0x0103
          | none => gone.declareBad x 0x0103
      (ok = false ∨ ctlOk ctl = false → Thereafter { s.bump with d := after } u) ∧
      (ok = true → ctlOk ctl = true → (u.d.fab.col x).phase = .filling ∧ (∀ i : Fin 8, ((u.d.fab.col x).layers[i]).fast = true) ∧
        (u.d.fab.col x).cells = (s.d.fab.col x).cells ∧ (∀ y : SiteIx, y ≠ x → u.d.fab.col y = s.d.fab.col y) ∧ u.d.fab.sites = s.d.fab.sites)) := by
  refine ⟨s.onAll (fun e d => d.trainLanes e x bad ok), rfl, fun h => ?_, fun hok hctl => ?_⟩
  · exact s.onAll_thereafter_of (s.d.bump.trainLanes_unusable s.env x bad ok hp h)
  · obtain ⟨hphase, hlayers, hcells, hcols, hsites⟩ := s.d.bump.trainLanes_usable s.env x bad ok hp hok hctl
    refine ⟨?_, fun i => ?_, ?_, fun y hy => ?_, ?_⟩
    · rw [s.onAll_col]; exact hphase
    · rw [s.onAll_col]; exact hlayers i
    · rw [s.onAll_col]; exact hcells
    · rw [s.onAll_col]; exact hcols y hy
    · rw [s.onAll_sites]; exact hsites

/-- COLUMN_FILL_DONE of a filling column, with no access held (R171). -/
theorem columnFillDone_yields (s : State) (x : SiteIx) (hp : (s.d.fab.col x).phase = .filling) (hh : s.d.host.aptHeld = []) :
    Yields (.columnFillDone x) s (fun u => (u.d.fab.col x).phase = .ready ∧
      (u.d.fab.col x).pos = 0 ∧ (∀ k : Nat, k / 16 < 393216 → (u.d.fab.col x).sector k =
        { data := poisonRec .uninitialised (((s.d.fab.tileOf x).map (·.val)).getD 0) 2 (nowNs s.time), poison := true, err := 0 }) ∧
      (∀ y : SiteIx, y ≠ x → u.d.fab.col y = s.d.fab.col y) ∧ u.d.fab.sites = s.d.fab.sites) := by
  refine ⟨s.onAll (fun e d => (d.onFab (fun f => f.fillDone e x)).resumeApt e), rfl, ?_⟩
  have hd : (s.d.bump.onFab (fun f => f.fillDone s.env x)).resumeApt s.env = s.d.bump.onFab (fun f => f.fillDone s.env x) :=
    Dev.resumeApt_of_nil _ _ hh
  have hf := s.d.bump.fab.fillDone_of_filling s.env hp
  have hx : (s.onAll (fun e d => (d.onFab (fun f => f.fillDone e x)).resumeApt e)).d.fab.col x =
      (s.d.fab.col x).filled s.env x (((s.d.fab.tileOf x).map (·.val)).getD 0) := by
    rw [s.onAll_col, hd, Dev.onFab, hf, Fabric.col_setCol]; rfl
  refine ⟨hx ▸ rfl, hx ▸ rfl, fun k hk => ?_, fun y hy => ?_, ?_⟩
  · rw [hx]
    exact Column.sector_filled _ _ _ _ hk
  · rw [s.onAll_col, hd, Dev.onFab, hf]
    exact Fabric.col_setCol_ne _ _ hy
  · rw [s.onAll_sites, hd, Dev.onFab, hf]
    rfl

/-- REPAIR_TABLE_RELOAD of a reloading column, with no access held (R202). -/
theorem repairTableReload_yields (s : State) (x : SiteIx) (hp : (s.d.fab.col x).phase = .reloading) (hh : s.d.host.aptHeld = []) :
    Yields (.repairTableReload x) s (fun u =>
      (u.d.fab.col x).phase = .ready ∧ (u.d.fab.col x).pos = 0 ∧ (u.d.fab.col x).lapFrom = blockTicks s.time (.channelRoot x) ∧
      (u.d.fab.col x).cells = (s.d.fab.col x).cells ∧ (u.d.fab.col x).fill = (s.d.fab.col x).fill ∧
      (∀ k : Nat, (tget (s.d.fab.col x).rowRep 0 k).getLsbD 31 = true → tget (u.d.fab.col x).rowRep 0 k = tget (s.d.fab.col x).rowRep 0 k) ∧
      (∀ k : Nat, (tget (s.d.fab.col x).colRep 0 k).getLsbD 31 = true → tget (u.d.fab.col x).colRep 0 k = tget (s.d.fab.col x).colRep 0 k) ∧
      (∀ y : SiteIx, y ≠ x → u.d.fab.col y = s.d.fab.col y) ∧ u.d.fab.sites = s.d.fab.sites) := by
  refine ⟨s.onAll (fun e d => (d.reloadColumn e x).resumeApt e), rfl, ?_⟩
  obtain ⟨rows, cols, lanes, hr⟩ := s.d.bump.reloadColumn_of_reloading s.env hp
  have hd : (s.d.bump.reloadColumn s.env x).resumeApt s.env = s.d.bump.reloadColumn s.env x := Dev.resumeApt_of_nil _ _ hh
  have hd := hd.trans hr
  have hx := ((s.onAll_col (fun e d => (d.reloadColumn e x).resumeApt e) x).trans (congrArg (fun d : Dev => d.fab.col x) hd)).trans
    (Fabric.col_setCol ..)
  refine ⟨by rw [hx], by rw [hx], by rw [hx]; rfl, by rw [hx]; rfl, by rw [hx]; rfl, fun k hk => ?_, fun k hk => ?_, fun y hy => ?_, ?_⟩
  · rw [hx]
    exact tget_foldl_loadEntry rows _ hk
  · rw [hx]
    exact tget_foldl_loadEntry cols _ hk
  · rw [s.onAll_col, hd]
    exact Fabric.col_setCol_ne _ _ hy
  · rw [s.onAll_sites, hd]
    rfl

/-- After a fill and after a reload the accesses held are made in order (R171, R202). -/
theorem columnFillDone_thereafter (s : State) (x : SiteIx) : Yields (.columnFillDone x) s
    (Thereafter { s.bump with d := (s.d.bump.onFab (fun f => f.fillDone s.env x)).resumeApt s.env }) :=
  ⟨s.onAll (fun e d => (d.onFab (fun f => f.fillDone e x)).resumeApt e), rfl, s.onAll_thereafter_of rfl⟩

theorem repairTableReload_thereafter (s : State) (x : SiteIx) : Yields (.repairTableReload x) s
    (Thereafter { s.bump with d := (s.d.bump.reloadColumn s.env x).resumeApt s.env }) :=
  ⟨s.onAll (fun e d => (d.reloadColumn e x).resumeApt e), rfl, s.onAll_thereafter_of rfl⟩

end Sys2Proof.Machine
end

section
/-! PROOFS. The accesses of the host to the stack aperture (R24, R25, R28, R168, R170, R268), and the statement O37. -/

namespace Sys2Proof.Machine
open Sys2Proof

theorem yields_onDev {c : Instr} {s : State} {g : Env → Dev → Dev} {P : State → Prop} {d : Dev} (hc : exec c s = .next (s.onDev g))
    (hd : g s.env s.d.bump = d) (hp : P { s.bump with d := d }) : Yields c s P := by
  subst hd
  exact ⟨_, hc, hp⟩

-- Reads ---------------------------------------------------------------------------------------------------------------

/-- Byte r of sector j among the bytes of the sectors read. -/
theorem getElem?_sectorBytes {secs : List SecRead} {j r : Nat} {q : SecRead} (h : secs[j]? = some q) (hr : r < 64) :
    (secs.flatMap (fun s => sectorBytes s.data))[64 * j + r]? = some ((sectorBytes q.data).getD r 0) := by
  have hlt : r < (sectorBytes q.data).length := (sectorBytes_length q.data).symm ▸ hr
  rw [getElem?_flatMap_pieces (fun s : SecRead => sectorBytes s.data) (fun s => sectorBytes_length s.data) secs j hr, h, Option.bind_some,
    List.getElem?_eq_getElem hlt, List.getD_eq_getElem _ _ hlt]

/-- A read that is served names the poisoned units and gives the bytes of the others (R25, R168). -/
theorem hostApertureRead_served (s : State) (addr len : Nat) (ups : List DramUpset) (hm : s.d.fab.mapValid = true) (hlen : 0 < len)
    (hmax : len ≤ 4096) (hin : inHole addr len = false) (hfen : s.d.fab.fenced[tileHalf (stackTile addr)] = false)
    (hh : s.d.colHolds (stackTile addr) = false) :
    Yields (.hostApertureRead 0 addr len ups) s (fun u =>
      ∃ (bs : List Byte) (ep : List Nat), u.d.out = s.d.out ++ [.aperture bs ep] ∧
        (s.d.fab.accessSite (stackTile addr) = none → ∀ i : Nat, i < len → (stackOff addr + i) / 64 - stackOff addr / 64 ∈ ep) ∧
        (∀ x : SiteIx, s.d.fab.accessSite (stackTile addr) = some x →
          let k := stackOff addr / 64
          let n := (stackOff addr + len + 63) / 64 - k
          let rows := (List.range ((k + n + 15) / 16 - k / 16)).map (fun i => k / 16 + i)
          let got := (((s.d.bump.fab.setCol x ((s.d.fab.col x).upsets ups)).readRows s.env x 1 rows).2.flatMap id).drop (k % 16)
          ∀ (i : Nat) (q : SecRead), i < len → got[(stackOff addr + i) / 64 - k]? = some q →
            (q.poison = false → q.outcome ≠ 5 → bs[i]? = some ((sectorBytes q.data).getD ((stackOff addr + i) % 64) 0)) ∧
            (q.poison = true ∨ q.outcome = 5 → (stackOff addr + i) / 64 - k ∈ ep)) ∧
        (∀ y : SiteIx, { u.d.fab.site y with tags := [] } = { s.d.fab.site y with tags := [] })) := by
  have hserved := Dev.apertureRead_served (d := s.d.bump) hm hlen hmax hin hfen s.env ups hh
  set d1 := s.d.bump.upsetSlot (stackTile addr) ups with hd1
  obtain ⟨u, hu⟩ : ∃ u, s.d.bump.apertureRead s.env 0 addr len ups = u := ⟨_, rfl⟩
  rw [hu] at hserved
  obtain ⟨hout, hsites⟩ := hserved
  refine yields_onDev rfl hu ⟨_, _, hout, fun ha i hi => ?_, fun x hx => ?_, fun y => ?_⟩
  · have hf : d1.fab.accessSite (stackTile addr) = none := by
      rw [hd1, Dev.upsetSlot, show s.d.bump.fab.accessSite (stackTile addr) = none from ha]
      exact ha
    rw [(d1.fab.slotRead_absent s.env _ _ hf).2, List.mem_range]
    omega
  · intro k n rows got i q hi hq
    have hf : d1.fab = s.d.bump.fab.setCol x ((s.d.fab.col x).upsets ups) := by
      rw [hd1, Dev.upsetSlot, show s.d.bump.fab.accessSite (stackTile addr) = some x from hx]
      rfl
    have hacc : d1.fab.accessSite (stackTile addr) = some x := by rw [hf]; exact hx
    obtain ⟨-, hbytes, hpoison⟩ := d1.fab.slotRead_present s.env k n hacc
    have hj : (stackOff addr + i) / 64 - k < n := by omega
    have hsec : ((d1.fab.slotSectors s.env x k n).take n)[(stackOff addr + i) / 64 - k]? = some q := by
      rw [List.getElem?_take_of_lt hj, Fabric.slotSectors, hf]
      exact hq
    have hmem := mem_poisoned_iff hsec
    rw [← hpoison] at hmem
    refine ⟨fun hp ho => ?_, hmem.mpr⟩
    have hplace : stackOff addr % 64 + i = 64 * ((stackOff addr + i) / 64 - k) + (stackOff addr + i) % 64 := by omega
    have hr : (stackOff addr + i) % 64 < 64 := Nat.mod_lt _ (by decide)
    have hunit : (stackOff addr % 64 + i) / 64 = (stackOff addr + i) / 64 - k := by omega
    rw [List.getElem?_take_of_lt hi, List.getElem?_drop, getElem?_apertureBytes _ _ _ (by
      rw [hunit, hmem]
      simp [hp, ho]), hbytes, hplace]
    exact getElem?_sectorBytes hsec hr
  · have hy : u.fab.site y =
        (d1.fab.slotRead s.env (stackTile addr) (64 * (stackOff addr / 64)) ((stackOff addr + len + 63) / 64 - stackOff addr / 64)).1.site y :=
      congrArg (fun t => tget t Site.init y.val) hsites
    show { u.fab.site y with tags := [] } = _
    rw [hy]
    cases ha : s.d.fab.accessSite (stackTile addr) with
    | none =>
      have hf : d1 = s.d.bump := by rw [hd1, Dev.upsetSlot, show s.d.bump.fab.accessSite (stackTile addr) = none from ha]
      rw [(d1.fab.slotRead_absent s.env _ _ (by rw [hf]; exact ha)).1, hf]
      rfl
    | some x =>
      have hf : d1.fab = s.d.bump.fab.setCol x ((s.d.fab.col x).upsets ups) := by
        rw [hd1, Dev.upsetSlot, show s.d.bump.fab.accessSite (stackTile addr) = some x from ha]
        rfl
      obtain ⟨hw, -⟩ := d1.fab.slotRead_present s.env (stackOff addr / 64) ((stackOff addr + len + 63) / 64 - stackOff addr / 64)
        (show d1.fab.accessSite (stackTile addr) = some x by rw [hf]; exact ha)
      rw [hw.site y, hf]
      rfl

-- Writes --------------------------------------------------------------------------------------------------------------

/-- What a write of sectors leaves: the sectors written hold what was written, and where nothing waited for the column every other sector and
the reports are as before. -/
theorem Fabric.writeSectors_run (f : Fabric) (e : Env) (x : SiteIx) (k n : Nat) (data : Nat → BitVec 512) (poison : Bool) (hn : 0 < n)
    (hend : k + n ≤ 6291456) (ha : Apart (f.col x)) :
    let g := f.writeSectors e x (sectorRun k n data poison)
    (∀ j : Nat, k ≤ j → j < k + n → (g.col x).sector j = { data := data (j - k), poison := poison, err := 0 }) ∧
    ((f.col x).queue = [] → (∀ j : Nat, j / 16 < 393216 → ¬ (k ≤ j ∧ j < k + n) → ((g.col x).sector j).data = ((f.col x).sector j).data ∧
      ((g.col x).sector j).poison = ((f.col x).sector j).poison) ∧ g.reports = f.reports) := by
  intro g
  have hne : sectorRun k n data poison ≠ [] := by simp [sectorRun]; omega
  set ris := ((sectorRun k n data poison).map (fun w => w.key / 16)).eraseDups
  obtain ⟨m, hcol⟩ := (f.before e x ris).col_xferWrite x hne
  have hg : ∀ j, (g.col x).sector j = (((f.before e x ris).col x).putAll (sectorRun k n data poison)).sector j := fun j => by
    rw [show g.col x = _ from hcol, Column.sector_xfers]
  refine ⟨fun j hj hj' => ?_, fun hq => ⟨fun j hj hout => ?_, ?_⟩⟩
  · rw [hg]
    exact Column.sector_putAll_run (apart_of_rowRep ha (f.before_work e x ris).rowRep) k n data poison hend hj hj'
  · rw [hg, f.before_of_queue_nil e x ris hq]
    exact Column.sector_putAll_run_other ha k n data poison hend hj hout
  · exact (Fabric.xferWrite_reports _ x _).trans (congrArg Fabric.reports (f.before_of_queue_nil e x ris hq))

/-- The sectors that a write of the aperture stores: the bytes, or a poison record (R170). -/
def apertureData (now : Nat) (t : TileId) (bs : List Byte) (ep : Bool) (i : Nat) : BitVec 512 :=
  if ep then poisonRec .hostPoison t.val 4 now else bytesSector (bs.drop (64 * i))

/-- The counters of the host interface after a write of the aperture. -/
def HostSt.countPoison (h : HostSt) (ep : Bool) : HostSt := if ep then { h with aptPoison := satAdd 16 h.aptPoison 1 } else h

theorem Fabric.slotWrite_sectors (f : Fabric) (e : Env) {t : TileId} {x : SiteIx} {off : Nat} {bs : List Byte} (now : Nat)
    (h : f.accessSite t = some x) (hl : bs.length % 64 = 0) :
    f.slotWrite e t off bs = f.writeSectors e x (sectorRun (off / 64) (bs.length / 64) (apertureData now t bs false) false) := by
  simp only [Fabric.slotWrite, h]
  have hc : cdiv bs.length 64 = bs.length / 64 := by simp only [cdiv]; omega
  rw [hc, sectorRun]
  refine congrArg (f.writeSectors e x) (List.map_congr_left fun i hi => ?_)
  rw [List.mem_range] at hi
  rw [bytesSector_padTo (by rw [List.length_drop]; omega)]
  rfl

theorem Fabric.slotPoison_sectors (f : Fabric) (e : Env) {t : TileId} {x : SiteIx} {off n : Nat} (bs : List Byte)
    (h : f.accessSite t = some x) :
    f.slotPoison e t off n .hostPoison 4 = f.writeSectors e x (sectorRun (off / 64) n (apertureData (nowNs e.time) t bs true) true) := by
  simp only [Fabric.slotPoison, h]
  rfl

section
variable {d : Dev} {addr : Nat} {bs : List Byte} (hm : d.fab.mapValid = true) (hbs : bs ≠ [])
include hm hbs

theorem Dev.apertureWrite_partial (e : Env) (ep : Bool) (h : stackOff addr % 64 ≠ 0 ∨ bs.length % 64 ≠ 0) :
    d.apertureWrite e 0 addr bs ep =
      ({ d with host := { d.host with aptPartial := satAdd 16 d.host.aptPartial 1 } } : Dev).apertureReport e 0 2 addr := by
  unfold Dev.apertureWrite
  dsimp only
  rw [if_neg (by simp [hm, hbs]), if_pos (by simpa using h)]

/-- A write of whole sectors that reaches no column is reported (R17, R24, R28). -/
theorem Dev.apertureWrite_nowhere (e : Env) (ep : Bool) (ho : stackOff addr % 64 = 0) (hl : bs.length % 64 = 0)
    (h : inHole addr bs.length = true ∨ d.fab.fenced[tileHalf (stackTile addr)] = true ∨ d.fab.accessSite (stackTile addr) = none) :
    ∃ n, d.apertureWrite e 0 addr bs ep = d.apertureReport e 0 n addr := by
  unfold Dev.apertureWrite
  dsimp only
  rw [if_neg (by simp [hm, hbs]), if_neg (by simp [ho, hl])]
  by_cases hin : inHole addr bs.length = true
  · exact ⟨_, if_pos hin⟩
  rw [if_neg hin]
  by_cases hf : d.fab.fenced[tileHalf (stackTile addr)] = true
  · exact ⟨_, if_pos hf⟩
  have ha := (h.resolve_left hin).resolve_left hf
  rw [if_neg hf, if_neg (by simp [Dev.colHolds, ha]), ha]
  exact ⟨_, rfl⟩

variable (ho : stackOff addr % 64 = 0) (hl : bs.length % 64 = 0) (hin : inHole addr bs.length = false)
  (hfen : d.fab.fenced[tileHalf (stackTile addr)] = false)
include ho hl hin hfen

theorem Dev.apertureWrite_held (e : Env) (ep : Bool) (hh : d.colHolds (stackTile addr) = true) :
    d.apertureWrite e 0 addr bs ep = d.holdApt (.write 0 addr bs ep) := by
  unfold Dev.apertureWrite
  dsimp only
  rw [if_neg (by simp [hm, hbs]), if_neg (by simp [ho, hl]), if_neg (by simp [hin]), if_neg (by simp [hfen]), if_pos hh]

/-- A write that is served stores its sectors in the column (R25, R170). -/
theorem Dev.apertureWrite_served (e : Env) (ep : Bool) {x : SiteIx} (hh : d.colHolds (stackTile addr) = false)
    (ha : d.fab.accessSite (stackTile addr) = some x) :
    d.apertureWrite e 0 addr bs ep = { d with
      fab := d.fab.writeSectors e x (sectorRun (stackOff addr / 64) (bs.length / 64) (apertureData (nowNs e.time) (stackTile addr) bs ep) ep)
      host := d.host.countPoison ep } := by
  unfold Dev.apertureWrite
  dsimp only
  rw [if_neg (by simp [hm, hbs]), if_neg (by simp [ho, hl]), if_neg (by simp [hin]), if_neg (by simp [hfen]), if_neg (by simp [hh]), ha]
  cases ep with
  | true => exact congrArg (fun f => ({ d with fab := f, host := d.host.countPoison true } : Dev)) (d.fab.slotPoison_sectors e bs ha)
  | false => exact congrArg (fun f => ({ d with fab := f } : Dev)) (d.fab.slotWrite_sectors e _ ha hl)

end

/-- A report of the aperture alone. -/
theorem tells_apertureReport (s : State) (d : Dev) (hd : d.fab = s.d.bump.fab) (n addr : Nat) :
    let u := d.apertureReport s.env 0 n addr
    u.fab.sites = s.d.fab.sites ∧ u.fab.cols = s.d.fab.cols ∧ u.host = d.host ∧ Tells s { s.bump with d := u } 0x0206 (.function 0) := by
  refine ⟨show d.fab.sites = s.d.bump.fab.sites from congrArg Fabric.sites hd, show d.fab.cols = s.d.bump.fab.cols from congrArg Fabric.cols hd, rfl, [], [],
    { code := 0x0206, suspect := .function 0, d1 := n, d2 := addr % 2 ^ 32, ctx := none, action := 0, time := nowNs s.time }, ?_, rfl, rfl⟩
  show d.fab.reports ++ [_] = _
  rw [hd, List.append_nil]
  rfl

/-- A write of whole sectors that is served (R25, R170). -/
theorem hostApertureWrite_served (s : State) (addr : Nat) (bs : List Byte) (ep : Bool) (x : SiteIx) (hm : s.d.fab.mapValid = true) (hbs : bs ≠ [])
    (ho : stackOff addr % 64 = 0) (hl : bs.length % 64 = 0) (hin : inHole addr bs.length = false)
    (hfen : s.d.fab.fenced[tileHalf (stackTile addr)] = false) (hh : s.d.colHolds (stackTile addr) = false)
    (ha : s.d.fab.accessSite (stackTile addr) = some x) (hap : Apart (s.d.fab.col x)) :
    let mine := fun (k : Nat) => stackOff addr / 64 ≤ k ∧ k < stackOff addr / 64 + bs.length / 64
    Yields (.hostApertureWrite 0 addr bs ep) s (fun u =>
      (∀ k : Nat, mine k → (u.d.fab.col x).sector k =
          if ep then { data := poisonRec .hostPoison (stackTile addr).val 4 (nowNs s.time), poison := true, err := 0 }
          else { data := bytesSector (bs.drop (64 * (k - stackOff addr / 64))), poison := false, err := 0 }) ∧
      ((s.d.fab.col x).queue = [] → (∀ k : Nat, k / 16 < 393216 → ¬ mine k → ((u.d.fab.col x).sector k).data = ((s.d.fab.col x).sector k).data ∧
        ((u.d.fab.col x).sector k).poison = ((s.d.fab.col x).sector k).poison) ∧ u.d.fab.reports = s.d.fab.reports) ∧
      u.d.host.aptPoison = (if ep then Nat.min (s.d.host.aptPoison + 1) 0xFFFF else s.d.host.aptPoison) ∧
      (∀ y : SiteIx, y ≠ x → u.d.fab.site y = s.d.fab.site y ∧ u.d.fab.col y = s.d.fab.col y) ∧
      { u.d.fab.site x with tags := [] } = { s.d.fab.site x with tags := [] } ∧ u.d.out = s.d.out) := by
  intro mine
  have hpos := List.length_pos_iff.mpr hbs
  have hend : stackOff addr / 64 + bs.length / 64 ≤ 6291456 := by
    simp only [inHole, Bool.or_eq_false_iff, decide_eq_false_iff_not] at hin
    have hcol : colEnd = 402653184 := rfl
    omega
  have hd := Dev.apertureWrite_served (d := s.d.bump) hm hbs ho hl hin hfen s.env ep hh ha
  obtain ⟨hmine, hrest⟩ := s.d.bump.fab.writeSectors_run s.env x (stackOff addr / 64) (bs.length / 64)
    (apertureData (nowNs s.time) (stackTile addr) bs ep) ep (by omega) hend hap
  have hw := s.d.bump.fab.writeSectors_work s.env x (sectorRun (stackOff addr / 64) (bs.length / 64)
    (apertureData (nowNs s.time) (stackTile addr) bs ep) ep)
  refine yields_onDev rfl hd ⟨fun k hk => ?_, hrest, ?_, fun y hy => ⟨hw.siteOff y hy, hw.colOff y hy⟩, hw.siteAt, rfl⟩
  · obtain ⟨hk, hk'⟩ := hk
    refine (hmine k hk hk').trans ?_
    cases ep <;> rfl
  · cases ep <;> rfl

/-- Settles O37: training, fill and reload go by the equations of the column, a served read by the place of its bytes in the sectors read, and a
served write by the sectors that a run of writes leaves. -/
theorem columnsComeUpAndTheHostReachesThem : Obligations.ColumnsComeUpAndTheHostReachesThem := by
  unfold Obligations.ColumnsComeUpAndTheHostReachesThem
  refine ⟨laneTrainingDone_yields, columnFillDone_yields, repairTableReload_yields, fun s x => ?_, fun s f addr len ups => ?_,
    fun s addr bs ep x hm hbs => ?_⟩
  · exact ⟨fun _ => columnFillDone_thereafter s x, fun _ => repairTableReload_thereafter s x⟩
  · refine ⟨fun h => ?_, fun hf hm hlen hmax hin hfen => ⟨fun hh => ?_, fun hh => ?_⟩⟩
    · exact yields_onDev rfl (s.d.bump.apertureRead_bad s.env ups h) rfl
    · subst hf
      exact yields_onDev rfl (Dev.apertureRead_held (d := s.d.bump) hm hlen hmax hin hfen s.env ups hh) rfl
    · subst hf
      exact hostApertureRead_served s addr len ups hm hlen hmax hin hfen hh
  · intro stands mine
    refine ⟨fun ⟨ho, hl, hin, hfen⟩ hh => ?_, fun ⟨ho, hl, hin, hfen⟩ hh ha hap => ?_, fun ho hl h => ?_, fun h => ?_⟩
    · exact yields_onDev rfl (Dev.apertureWrite_held (d := s.d.bump) hm hbs ho hl hin hfen s.env ep hh) rfl
    · exact hostApertureWrite_served s addr bs ep x hm hbs ho hl hin hfen hh ha hap
    · obtain ⟨n, hn⟩ := Dev.apertureWrite_nowhere (d := s.d.bump) hm hbs s.env ep ho hl h
      obtain ⟨hs, hc, hhost, ht⟩ := tells_apertureReport s s.d.bump rfl n addr
      exact yields_onDev rfl hn ⟨hs, hc, hhost, ht⟩
    · have hn := Dev.apertureWrite_partial (d := s.d.bump) hm hbs s.env ep h
      obtain ⟨hs, hc, hhost, ht⟩ := tells_apertureReport s { s.d.bump with host := { s.d.host with aptPartial := satAdd 16 s.d.host.aptPartial 1 } } rfl 2 addr
      exact yields_onDev rfl hn ⟨hs, hc, congrArg HostSt.aptPartial hhost, ht⟩

end Sys2Proof.Machine
end

section
/-! PROOFS. What follows at once from a command (R343, R353, R439): of the domains it keeps the states, of the clusters the bond wear; no half
comes into service without a site map, and what has been sent stays sent. -/

namespace Sys2Proof.Machine
open Sys2Proof

/-- A property that each step keeps holds after all of them. -/
theorem foldl_preserves {α β : Type} {P : α → Prop} {g : α → β → α} (h : ∀ a b, P a → P (g a b)) (l : List β) {a : α} (ha : P a) :
    P (l.foldl g a) := by
  induction l generalizing a with
  | nil => exact ha
  | cons b r ih => exact ih (h a b ha)

/-- State u is state a but for what follows at once from a command, in what the statements of bring-up ask of it. -/
structure Follows (a u : State) : Prop where
  thereafter : Thereafter a u
  core : u.d.core = a.d.core
  out : ∃ rest, u.d.out = a.d.out ++ rest
  halfUp : a.d.fab.mapValid = false → u.d.fab.halfUp = a.d.fab.halfUp
  domState : ∀ i, (u.d.dom i).state = (a.d.dom i).state
  bond : ∀ k, (tget u.d.pwr.cls ClPower.init k).bond = (tget a.d.pwr.cls ClPower.init k).bond ∧
    (tget u.d.pwr.cls ClPower.init k).bondTold = (tget a.d.pwr.cls ClPower.init k).bondTold

/-- Device b came of device a by steps of State.follow. -/
structure Dev.Followed (a b : Dev) : Prop where
  out : ∃ rest, b.out = a.out ++ rest
  mapValid : b.fab.mapValid = a.fab.mapValid
  halfUp : a.fab.mapValid = false → b.fab.halfUp = a.fab.halfUp
  domState : ∀ i, (b.dom i).state = (a.dom i).state
  bond : ∀ k, (tget b.pwr.cls ClPower.init k).bond = (tget a.pwr.cls ClPower.init k).bond ∧
    (tget b.pwr.cls ClPower.init k).bondTold = (tget a.pwr.cls ClPower.init k).bondTold

theorem Dev.Followed.refl (a : Dev) : Dev.Followed a a := ⟨⟨[], (List.append_nil _).symm⟩, rfl, fun _ => rfl, fun _ => rfl, fun _ => ⟨rfl, rfl⟩⟩

theorem Dev.Followed.trans {a b c : Dev} (h : Dev.Followed a b) (k : Dev.Followed b c) : Dev.Followed a c := by
  obtain ⟨r, hr⟩ := h.out
  obtain ⟨q, hq⟩ := k.out
  exact ⟨⟨r ++ q, by rw [hq, hr, List.append_assoc]⟩, k.mapValid.trans h.mapValid, fun hv => (k.halfUp (h.mapValid.trans hv)).trans (h.halfUp hv),
    fun i => (k.domState i).trans (h.domState i), fun i => ⟨(k.bond i).1.trans (h.bond i).1, (k.bond i).2.trans (h.bond i).2⟩⟩

/-- A step that changes events and what is sent alone. -/
theorem Dev.Followed.of_sent {a b : Dev} (hf : b.fab = a.fab) (hp : b.pwr = a.pwr) (ho : ∃ rest, b.out = a.out ++ rest) : Dev.Followed a b :=
  ⟨ho, by rw [hf], fun _ => by rw [hf], fun i => by rw [Dev.dom, hp]; rfl, fun k => by rw [hp]; exact ⟨rfl, rfl⟩⟩

theorem Dev.Followed.foldl {β : Type} {g : Dev → β → Dev} (h : ∀ d b, Dev.Followed d (g d b)) (l : List β) (d : Dev) :
    Dev.Followed d (l.foldl g d) :=
  foldl_preserves (P := Dev.Followed d) (fun a b ha => ha.trans (h a b)) l (.refl d)

theorem Dev.Followed.ite {a b c : Dev} {p : Prop} [Decidable p] (hb : Dev.Followed a b) (hc : Dev.Followed a c) :
    Dev.Followed a (if p then b else c) := by
  split
  · exact hb
  · exact hc

theorem Dev.followed_setDom (d : Dev) (i : DomainIx) {v : DomSt} (h : v.state = (d.dom i).state) : Dev.Followed d (d.setDom i v) := by
  refine ⟨⟨[], (List.append_nil _).symm⟩, rfl, fun _ => rfl, fun j => ?_, fun _ => ⟨rfl, rfl⟩⟩
  simp only [Dev.setDom, Dev.dom, tget_tset_ite]
  split
  · next hj => rw [h, hj, Dev.dom]
  · rfl

theorem Dev.followed_setClp (d : Dev) (c : ClusterId) {v : ClPower} (hb : v.bond = (d.clp c).bond) (ht : v.bondTold = (d.clp c).bondTold) :
    Dev.Followed d (d.setClp c v) := by
  refine ⟨⟨[], (List.append_nil _).symm⟩, rfl, fun _ => rfl, fun _ => rfl, fun k => ?_⟩
  simp only [Dev.setClp, tget_tput_ite]
  split
  · next hk => rw [hk]; exact ⟨hb, ht⟩
  · exact ⟨rfl, rfl⟩

theorem Dev.notePhases_followed (d : Dev) : Dev.Followed d d.notePhases := by
  unfold Dev.notePhases
  refine .foldl (fun d c => ?_) _ d
  dsimp only
  split
  · exact .ite (.refl d) (d.followed_setClp c rfl rfl)
  · exact .refl d

theorem Dev.noteIdle_followed (d : Dev) (e : Env) : Dev.Followed d (d.noteIdle e) := by
  unfold Dev.noteIdle
  refine .foldl (fun d x => ?_) _ d
  dsimp only
  exact .ite (d.followed_setDom _ rfl) (.ite (d.followed_setDom _ rfl) (.refl d))

theorem Dev.halfUpCheck_followed (d : Dev) : Dev.Followed d d.halfUpCheck := by
  unfold Dev.halfUpCheck
  refine .foldl (fun d h => ?_) _ d
  split
  · next hc =>
    refine ⟨⟨[], (List.append_nil _).symm⟩, rfl, fun hv => ?_, fun _ => rfl, fun _ => ⟨rfl, rfl⟩⟩
    simp [hv] at hc
  · exact .refl d

theorem Dev.sendEvent_followed (d : Dev) : Dev.Followed d d.sendEvent := by
  unfold Dev.sendEvent
  split
  · exact .ite (.refl d) (.of_sent rfl rfl ⟨_, rfl⟩)
  · exact .refl d

theorem Dev.followed_setLkk (d : Dev) (g : Lkk → Lkk) : Dev.Followed d (d.setLkk g) := .of_sent rfl rfl ⟨[], (List.append_nil _).symm⟩

theorem Dev.pldmEvent_followed (d : Dev) (sev : Nat) (bytes : List Byte) : Dev.Followed d (d.pldmEvent sev bytes) := by
  unfold Dev.pldmEvent
  dsimp only
  refine .ite ((d.followed_setLkk _).trans (Dev.sendEvent_followed _)) ?_
  split
  · exact (d.followed_setLkk _).trans (Dev.sendEvent_followed _)
  · exact d.followed_setLkk _

theorem sensorEvents_followed (was now : List (Nat × Nat)) (d : Dev) : Dev.Followed d (sensorEvents was now d) := by
  unfold sensorEvents
  exact .foldl (fun d p => .ite (.refl d) (d.pldmEvent_followed _ _)) _ d

theorem State.follow_followed (b s : State) : Dev.Followed s.d (State.follow b s).d := by
  unfold State.follow
  dsimp only
  exact ((Dev.Followed.ite (.refl _) (Dev.notePhases_followed _)).trans (.ite (.refl _) (Dev.noteIdle_followed _ _))).trans
    ((Dev.halfUpCheck_followed _).trans (sensorEvents_followed _ _ _))

theorem State.follow_follows (b s : State) : Follows s (State.follow b s) :=
  have h := State.follow_followed b s
  ⟨State.follow_thereafter b s, State.follow_core b s, h.out, h.halfUp, h.domState, h.bond⟩

/-- What the core of the device holds is as before. -/
theorem Follows.keeps {γ : Type} {a u : State} (h : Follows a u) (p : Dev → γ) (hp : ∀ d : Dev, p d.core = p d) : p u.d = p a.d := by
  rw [← hp, h.core, hp]

theorem Follows.becomes {s u : State} {d : Dev} (h : Follows { s.bump with d := d } u) : Becomes s u d := ⟨h.thereafter, h.out⟩

theorem Follows.onlyDevice {s u : State} {d : Dev} (h : Follows { s.bump with d := d } u) : OnlyDevice s u := by
  obtain ⟨hp, ht, hf, hs, ha, -⟩ := h.thereafter
  exact ⟨hp, ht, hf, hs, ha⟩

/-- A part of a list that was sent after the start is sent after the start. -/
theorem Follows.mem_out_drop {a u : State} (h : Follows a u) {o : Out} {n : Nat} (hm : o ∈ a.d.out.drop n) : o ∈ u.d.out.drop n := by
  obtain ⟨rest, hr⟩ := h.out
  rw [hr, List.drop_append]
  exact List.mem_append_left _ hm

theorem yields_onState {c : Instr} {s a : State} {g : Env → State → State} {P : State → Prop} (hc : exec c s = .next (s.onState g))
    (ha : g s.env s.bump = a) (hp : ∀ u, Follows a u → P u) : Yields c s P := by
  subst ha
  exact ⟨_, hc, hp _ (State.follow_follows _ _)⟩

theorem yields_onAll {c : Instr} {s : State} {d : Dev} {g : Env → Dev → Dev} {P : State → Prop} (hc : exec c s = .next (s.onAll g))
    (hd : g s.env s.d.bump = d) (hp : ∀ u, Follows { s.bump with d := d } u → P u) : Yields c s P := by
  subst hd
  exact ⟨_, hc, hp _ (State.follow_follows _ _)⟩

end Sys2Proof.Machine
end

section
/-! PROOFS. Power-on, boot and cold reset (R400, R401, R403 to R408, R417, R427, R443): what a cold reset leaves, how components boot, and what a
repair record adds. -/

namespace Sys2Proof.Machine
open Sys2Proof

-- Components boot -----------------------------------------------------------------------------------------------------

/-- Lockkeeper's state but for what booting components changes, the cause of the last reset and the management events. -/
def Lkk.stem (k : Lkk) : Lkk :=
  { k with comps := [], fallback := false, faultHeld := false, lastCause := 0, events := [], dropped := 0, evSent := false }

/-- Boot failures change of Lockkeeper's state the components, BOOT_FALLBACK and the hold of FAULT_N alone. -/
theorem Lkk.bootFails_keeps {γ : Type} (p : Lkk → γ) (hp : ∀ (k : Lkk) c f h, p { k with comps := c, fallback := f, faultHeld := h } = p k)
    (k : Lkk) (fails other : List Nat) : p (k.bootFails fails other) = p k :=
  foldl_keeps p _ (fun k _ => ite_keeps p (hp k _ _ k.faultHeld) (hp k k.comps k.fallback _)) fails k

/-- One component that fails to boot (R417, R427). -/
theorem bootFallsBack_of_bootFails {k v : Lkk} {n : Nat} {other : List Nat} (hc : v.comps = (k.bootFails [n] other).comps)
    (hf : v.fallback = (k.bootFails [n] other).fallback) (hh : v.faultHeld = (k.bootFails [n] other).faultHeld) : BootFallsBack k v n other := by
  have h1 : k.bootFails [n] other = if ((if (tget k.comps (Comp.factory n) n).bootB then (tget k.comps (Comp.factory n) n).a else
      (tget k.comps (Comp.factory n) n).b).isSome && !other.contains n) = true then
      { k with comps := tput k.comps n { tget k.comps (Comp.factory n) n with activeB := !(tget k.comps (Comp.factory n) n).bootB }, fallback := true }
    else { k with faultHeld := true } := rfl
  rw [h1] at hc hf hh
  refine ⟨fun hs ho => ?_, fun h => ?_⟩
  · rw [if_pos (by simp [hs, ho])] at hc hf hh
    exact ⟨by rw [hc, tget_tput], hf, hh⟩
  · have hno : ¬ ((if (tget k.comps (Comp.factory n) n).bootB then (tget k.comps (Comp.factory n) n).a else
        (tget k.comps (Comp.factory n) n).b).isSome && !other.contains n) = true := by
      rcases h with h | h
      · simp only [h, Bool.false_and, Bool.false_eq_true, not_false_eq_true]
      · simp [h]
    rw [if_neg hno] at hc hf hh
    exact ⟨by rw [hc], hf, hh⟩

-- Cold reset ----------------------------------------------------------------------------------------------------------

/-- The suspect marks that a cold reset keeps (R372). -/
theorem tget_suspects (l : Tab SenSt) (hl : (l.map (·.1)).Nodup) (k : Nat) :
    (tget (l.filterMap (fun p => if p.2.suspect then some (p.1, { SenSt.init with suspect := true }) else none)) SenSt.init k).suspect =
      (tget l SenSt.init k).suspect := by
  induction l with
  | nil => rfl
  | cons p r ih =>
    obtain ⟨j, v⟩ := p
    obtain ⟨hj, hr⟩ := List.nodup_cons.mp hl
    by_cases hk : j = k
    · subst hk
      by_cases hv : v.suspect = true
      · simp [hv, tget]
      · have hout : (tget r SenSt.init j).suspect = false := by
          have hn : ∀ r : Tab SenSt, j ∉ r.map (·.1) → tget r SenSt.init j = SenSt.init := by
            intro r
            induction r with
            | nil => exact fun _ => rfl
            | cons q r ih =>
              intro h
              obtain ⟨i, w⟩ := q
              rw [List.map_cons, List.mem_cons, not_or] at h
              rw [tget, if_neg (Ne.symm h.1), ih h.2]
          rw [hn r hj]
          rfl
        rw [List.filterMap_cons_none (by simp [hv]), ih hr, hout, tget, if_pos rfl]
        exact (Bool.eq_false_iff.mpr hv).symm
    · by_cases hv : v.suspect = true
      · rw [List.filterMap_cons_some (by simp only [hv, if_true]; rfl), tget, if_neg hk, ih hr, tget, if_neg hk]
      · rw [List.filterMap_cons_none (by simp [hv]), ih hr, tget, if_neg hk]

/-- After a cold reset, and a change of Lockkeeper's state that touches the boot of the components and the cause alone. -/
theorem afterCold_of_follows {s u : State} {held : Bool} {g : Lkk → Lkk}
    (hg : ∀ k, (g k).stem = k.stem)
    (hcause : held = false → ∀ k, (g k).lastCause = k.lastCause)
    (h : Follows { s.bump.cold held with d := (s.bump.cold held).d.setLkk g } u) : AfterCold s u held := by
  obtain ⟨hpend, htime, hfuse, hsec, hagg, -⟩ := h.thereafter
  have hstem : u.d.lkk.stem = (s.bump.cold held).d.lkk.stem := (h.keeps (fun d => d.lkk.stem) (fun _ => rfl)).trans (hg _)
  have lkk {γ : Type} (p : Lkk → γ) (hp : ∀ k : Lkk, p k.stem = p k) : p u.d.lkk = p (s.bump.cold held).d.lkk :=
    (hp _).symm.trans ((congrArg p hstem).trans (hp _))
  have hthm : u.d.thm = (s.bump.cold held).d.thm := h.keeps Dev.thm (fun _ => rfl)
  have hnet : u.d.net = (s.bump.cold held).d.net := h.keeps Dev.net (fun _ => rfl)
  have hlnk : u.d.lnk = (s.bump.cold held).d.lnk := h.keeps Dev.lnk (fun _ => rfl)
  have hbanks : u.d.pwr.banks = [] := h.keeps (fun d => d.pwr.banks) (fun _ => rfl)
  have hpin : ∀ o ∈ [Out.pin .faultN false, Out.pin .thermtripN true], o ∈ u.d.out.drop s.d.out.length := fun o ho => by
    refine h.mem_out_drop ?_
    show o ∈ (s.d.out ++ [Out.pin .faultN false, Out.pin .thermtripN true]).drop s.d.out.length
    rw [List.drop_left]
    exact ho
  refine ⟨hpend, hfuse, hsec, fun hh => ?_, fun hh => ?_, fun hh hn q => ?_, h.keeps Dev.svc (fun _ => rfl), h.keeps Dev.regs (fun _ => rfl),
    h.keeps Dev.host (fun _ => rfl), ?_, fun n => ?_, ?_, fun n => ?_, fun i => ?_, fun i => ?_, fun i b => ?_, fun i => h.domState i,
    h.keeps (fun d => d.pwr.vin) (fun _ => rfl), h.keeps (fun d => d.pwr.vbsn) (fun _ => rfl), ?_, lkk Lkk.copyA (fun _ => rfl),
    lkk Lkk.copyB (fun _ => rfl), lkk Lkk.bootStage (fun _ => rfl),
    lkk Lkk.mode (fun _ => rfl), lkk Lkk.basinUp (fun _ => rfl),
    lkk Lkk.rst (fun _ => rfl), lkk Lkk.op (fun _ => rfl),
    lkk Lkk.trial (fun _ => rfl), lkk Lkk.faultN (fun _ => rfl),
    lkk Lkk.lastLevel (fun _ => rfl), hpin _ (by simp), hpin _ (by simp)⟩
  · subst hh
    exact ⟨htime, by rw [hthm]; rfl, hagg⟩
  · subst hh
    refine ⟨htime, congrArg Therm.trip hthm, hagg, ?_, fun q => ?_⟩
    · exact (h.keeps (fun d => d.lkk.lastCause) (fun _ => rfl)).trans (hcause rfl _)
    · rw [Dev.sen, hthm]
      rfl
  · subst hh
    rw [Dev.sen, hthm]
    exact tget_suspects s.d.thm.sens hn _
  · have hfab := h.keeps (fun d => { d.fab with halfUp := Vector.replicate 2 false }) (fun _ => rfl)
    have hhalf : u.d.fab.halfUp = Vector.replicate 2 false := h.halfUp rfl
    have hu : u.d.fab = { u.d.fab with halfUp := Vector.replicate 2 false } := by rw [← hhalf]
    rw [hu, hfab]
    rfl
  · rw [Dev.link, hlnk]
    simp [State.cold, Dev.cold, LinkSt.init]
  · rw [hlnk]
    rfl
  · rw [Dev.port, hnet]
    simp [State.cold, Dev.cold, Port.init]
  · rw [Dev.qp, hnet]
    rfl
  · rw [Dev.group, hnet]
    rfl
  · rw [Dev.bankSt, hbanks]
    rfl
  · rw [hthm]
    rfl

end Sys2Proof.Machine
end

section
/-! PROOFS. VAON_UP and LOCKKEEPER_BOOT_DONE (R400, R401, R403, R405, R406, R417, R427, R428). -/

namespace Sys2Proof.Machine
open Sys2Proof

-- Measurements --------------------------------------------------------------------------------------------------------

theorem mem_tput_self {α : Type} (t : Tab α) (k : Nat) (x : α) : (k, x) ∈ tput t k x := by
  induction t with
  | nil => exact List.mem_singleton.mpr rfl
  | cons p r ih =>
    rw [tput]
    split
    · exact List.mem_cons_of_mem _ ih
    · split <;> exact List.mem_cons_self

theorem mem_tput_of_ne {α : Type} {t : Tab α} {k : Nat} (x : α) {p : Nat × α} (hp : p ∈ t) (hk : p.1 ≠ k) : p ∈ tput t k x := by
  induction t with
  | nil => cases hp
  | cons q r ih =>
    rw [tput]
    rcases List.mem_cons.mp hp with h | h
    · subst h
      split
      · exact List.mem_cons_self
      · exact List.mem_cons_of_mem _ List.mem_cons_self
    · split
      · exact List.mem_cons_of_mem _ (ih h)
      · split
        · exact List.mem_cons_of_mem _ h
        · exact List.mem_cons_of_mem _ (List.mem_cons_of_mem _ h)

theorem mem_foldl_tput {α : Type} (l : List (Nat × Nat)) (f : Nat → α) (hl : (l.map (·.1)).Nodup) (t : Tab α) {p : Nat × α}
    (h : (p ∈ t ∧ p.1 ∉ l.map (·.1)) ∨ ∃ q ∈ l, p = (q.1, f q.2)) : p ∈ l.foldl (fun t q => tput t q.1 (f q.2)) t := by
  induction l generalizing t with
  | nil => simpa using h
  | cons q r ih =>
    obtain ⟨hq, hr⟩ := List.nodup_cons.mp hl
    refine ih hr _ ?_
    rcases h with ⟨hp, hn⟩ | ⟨w, hw, rfl⟩
    · rw [List.map_cons, List.mem_cons, not_or] at hn
      exact .inl ⟨mem_tput_of_ne _ hp hn.1, hn.2⟩
    · rcases List.mem_cons.mp hw with rfl | hw
      · exact .inl ⟨mem_tput_self _ _ _, hq⟩
      · exact .inr ⟨w, hw, rfl⟩

/-- Measurements taken stand in the security block (R428). -/
theorem measured_of_measure {u : State} {q : Sec} {d : Dev} {l : List (Nat × Nat)} (hl : (l.map (·.1)).Nodup)
    (hs : u.sec.meas = (q.measure d l).meas) (hd : u.d.lkk.comps = d.lkk.comps) : Measured u l := by
  intro p hp
  have hdig : u.d.digestOf p.2 = d.digestOf p.2 := by rw [Dev.digestOf, Dev.digestOf, Dev.comp, Dev.comp, hd]
  rw [hs, hdig]
  exact mem_foldl_tput l d.digestOf hl _ (.inr ⟨p, hp, rfl⟩)

-- The repair record ---------------------------------------------------------------------------------------------------

theorem foldl_preserves_of_mem {α β : Type} {P : α → Prop} {g : α → β → α} {l : List β} (h : ∀ a, ∀ b ∈ l, P a → P (g a b)) {a : α} (ha : P a) :
    P (l.foldl g a) := by
  induction l generalizing a with
  | nil => exact ha
  | cons b r ih => exact ih (fun a b hb => h a b (List.mem_cons_of_mem _ hb)) (h a b List.mem_cons_self ha)

/-- What is read under a key after a list of writes is what the last write of that key wrote. -/
theorem exists_last_write {α β κ ν : Type} [DecidableEq κ] {g : α → β → α} {key : β → κ} {val : β → ν} {rd : α → κ → ν}
    (hsame : ∀ a q, rd (g a q) (key q) = val q) (hother : ∀ a q k, k ≠ key q → rd (g a q) k = rd a k) (l : List β) (a : α) :
    ∀ r ∈ l, ∃ q ∈ l, key q = key r ∧ rd (l.foldl g a) (key r) = val q := by
  induction l generalizing a with
  | nil => exact fun _ h => nomatch h
  | cons p l ih =>
    intro r hr
    by_cases hlater : ∃ w ∈ l, key w = key r
    · obtain ⟨w, hw, hk⟩ := hlater
      obtain ⟨q, hq, hkq, hv⟩ := ih (g a p) w hw
      exact ⟨q, List.mem_cons_of_mem _ hq, hkq.trans hk, hk ▸ hv⟩
    · have hrp : r = p := (List.mem_cons.mp hr).resolve_right (fun h => hlater ⟨r, h, rfl⟩)
      subst hrp
      refine ⟨r, List.mem_cons_self, rfl, ?_⟩
      rw [List.foldl_cons]
      refine foldl_preserves_of_mem (P := fun b => rd b (key r) = val r) (fun b q hq hb => ?_) (hsame a r)
      exact (hother b q (key r) (fun e => hlater ⟨q, hq, e.symm⟩)).trans hb

/-- The steps of applying a record: its lists and tables, suspect marks, bad spares, rows, byte columns and lanes. -/
def Dev.loadTables (d : Dev) (b : RepairBody) : Dev :=
  { d with
    pwr := { d.pwr with ceil := b.ceil, age := b.age, cls := b.bond.foldl (fun t p =>
      tput t p.1 { tget t ClPower.init p.1 with bond := p.2, bondTold := p.2 }) d.pwr.cls }
    thm := { d.thm with blind := b.blind }
    lkk := { d.lkk with bad := b.bad, causes := b.causes, written := b } }
def Dev.markSuspects (d : Dev) (l : List SensorId) : Dev := l.foldl (fun d s => d.setSen s { d.sen s with suspect := true }) d
def Dev.loadSpares (d : Dev) (l : List (SiteIx × List Nat × List Nat)) : Dev :=
  l.foldl (fun d r => d.onFab (fun f => f.setCol r.1 { f.col r.1 with badRows := r.2.1, badCols := r.2.2 })) d
def Dev.loadRows (d : Dev) (l : List (SiteIx × Nat × Word)) : Dev :=
  l.foldl (fun d r => d.onFab (fun f => f.setCol r.1 { f.col r.1 with rowRep := tput (f.col r.1).rowRep r.2.1 r.2.2 })) d
def Dev.loadCols (d : Dev) (l : List (SiteIx × Nat × Word)) : Dev :=
  l.foldl (fun d r => d.onFab (fun f => f.setCol r.1 { f.col r.1 with colRep := tput (f.col r.1).colRep r.2.1 r.2.2 })) d
def Dev.loadLanes (d : Dev) (l : List (SiteIx × Nat × LaneSt)) : Dev :=
  l.foldl (fun d r => d.onFab (fun f => f.setCol r.1 { f.col r.1 with lanes := tput (f.col r.1).lanes r.2.1 (some r.2.2) })) d

theorem Dev.applyRecord_eq (d : Dev) (b : RepairBody) : d.applyRecord b =
    (((((d.loadTables b).markSuspects b.suspects).loadSpares b.spares).loadRows b.rows).loadCols b.cols).loadLanes b.lanes := rfl

/-- What neither suspect marks nor columns are part of is as the tables left it. -/
theorem Dev.applyRecord_keeps {γ : Type} (p : Dev → γ) (hsen : ∀ d q v, p (Dev.setSen d q v) = p d) 
    (hcol : ∀ d x (c : Fabric → Column), p (Dev.onFab d (fun f => f.setCol x (c f))) = p d)
    (d : Dev) (b : RepairBody) : p (d.applyRecord b) = p (d.loadTables b) := by
  rw [Dev.applyRecord_eq]
  exact (((((foldl_keeps p _ (fun d _ => hcol d ..) _ _).trans (foldl_keeps p _ (fun d _ => hcol d ..) _ _)).trans
    (foldl_keeps p _ (fun d _ => hcol d ..) _ _)).trans (foldl_keeps p _ (fun d _ => hcol d ..) _ _)).trans
    (foldl_keeps p _ (fun d _ => hsen d ..) _ _))

/-- A load of columns keeps every property of the other columns and every part that it does not write. -/
theorem Dev.col_onFab_setCol (d : Dev) (x y : SiteIx) (c : Fabric → Column) :
    (d.onFab (fun f => f.setCol x (c f))).fab.col y = if y = x then c d.fab else d.fab.col y := by
  by_cases h : y = x
  · subst h
    rw [if_pos rfl]
    exact Fabric.col_setCol ..
  · rw [if_neg h]
    exact Fabric.col_setCol_ne _ _ h

theorem Dev.col_onFab_setCol_keeps {γ : Type} (p : Column → γ) (d : Dev) (x y : SiteIx) {c : Fabric → Column} (h : p (c d.fab) = p (d.fab.col x)) :
    p ((d.onFab (fun f => f.setCol x (c f))).fab.col y) = p (d.fab.col y) := by
  rw [Dev.col_onFab_setCol]
  split
  · next hy => rw [h, hy]
  · rfl

section
variable {γ : Type} (p : Column → γ) (d : Dev) (x : SiteIx)

theorem Dev.loadRows_keeps (hp : ∀ c t, p { c with rowRep := t } = p c) (l : List (SiteIx × Nat × Word)) :
    p ((d.loadRows l).fab.col x) = p (d.fab.col x) :=
  foldl_keeps (fun d : Dev => p (d.fab.col x)) _ (fun d _ => d.col_onFab_setCol_keeps p _ x (hp _ _)) l d
theorem Dev.loadCols_keeps (hp : ∀ c t, p { c with colRep := t } = p c) (l : List (SiteIx × Nat × Word)) :
    p ((d.loadCols l).fab.col x) = p (d.fab.col x) :=
  foldl_keeps (fun d : Dev => p (d.fab.col x)) _ (fun d _ => d.col_onFab_setCol_keeps p _ x (hp _ _)) l d
theorem Dev.loadLanes_keeps (hp : ∀ c t, p { c with lanes := t } = p c) (l : List (SiteIx × Nat × LaneSt)) :
    p ((d.loadLanes l).fab.col x) = p (d.fab.col x) :=
  foldl_keeps (fun d : Dev => p (d.fab.col x)) _ (fun d _ => d.col_onFab_setCol_keeps p _ x (hp _ _)) l d

end

/-- An entry of a table of a column is written, and no other of any column. -/
theorem Dev.entry_write {α : Type} (t : Column → Tab α) (def_ : α) (d : Dev) (x : SiteIx) (k : Nat) (v : α) {c : Fabric → Column}
    (hc : t (c d.fab) = tput (t (d.fab.col x)) k v) (y : SiteIx × Nat) :
    tget (t ((d.onFab (fun f => f.setCol x (c f))).fab.col y.1)) def_ y.2 = if y = (x, k) then v else tget (t (d.fab.col y.1)) def_ y.2 := by
  obtain ⟨y, j⟩ := y
  simp only [Dev.col_onFab_setCol, Prod.mk.injEq]
  by_cases hy : y = x
  · rw [if_pos hy, hc, tget_tput_ite, hy]
    simp
  · simp [hy]

theorem Dev.spares_last (d : Dev) (l : List (SiteIx × List Nat × List Nat)) : ∀ r ∈ l, ∃ q ∈ l, q.1 = r.1 ∧
    (((d.loadSpares l).fab.col r.1).badRows, ((d.loadSpares l).fab.col r.1).badCols) = q.2 :=
  exists_last_write (rd := fun (d : Dev) x => ((d.fab.col x).badRows, (d.fab.col x).badCols)) (key := fun r => r.1)
    (fun d q => by simp only [Dev.col_onFab_setCol, if_true]) (fun d q k hk => by simp only [Dev.col_onFab_setCol, if_neg hk]) l d

theorem Dev.rows_last (d : Dev) (l : List (SiteIx × Nat × Word)) : ∀ r ∈ l, ∃ q ∈ l, (q.1, q.2.1) = (r.1, r.2.1) ∧
    tget ((d.loadRows l).fab.col r.1).rowRep 0 r.2.1 = q.2.2 :=
  exists_last_write (rd := fun (d : Dev) (y : SiteIx × Nat) => tget (d.fab.col y.1).rowRep 0 y.2) (key := fun r => (r.1, r.2.1))
    (fun d q => by rw [d.entry_write Column.rowRep 0 q.1 q.2.1 q.2.2 rfl, if_pos rfl])
    (fun d q k hk => by rw [d.entry_write Column.rowRep 0 q.1 q.2.1 q.2.2 rfl, if_neg hk]) l d

theorem Dev.cols_last (d : Dev) (l : List (SiteIx × Nat × Word)) : ∀ r ∈ l, ∃ q ∈ l, (q.1, q.2.1) = (r.1, r.2.1) ∧
    tget ((d.loadCols l).fab.col r.1).colRep 0 r.2.1 = q.2.2 :=
  exists_last_write (rd := fun (d : Dev) (y : SiteIx × Nat) => tget (d.fab.col y.1).colRep 0 y.2) (key := fun r => (r.1, r.2.1))
    (fun d q => by rw [d.entry_write Column.colRep 0 q.1 q.2.1 q.2.2 rfl, if_pos rfl])
    (fun d q k hk => by rw [d.entry_write Column.colRep 0 q.1 q.2.1 q.2.2 rfl, if_neg hk]) l d

theorem Dev.lanes_last (d : Dev) (l : List (SiteIx × Nat × LaneSt)) : ∀ r ∈ l, ∃ q ∈ l, (q.1, q.2.1) = (r.1, r.2.1) ∧
    tget ((d.loadLanes l).fab.col r.1).lanes none r.2.1 = some q.2.2 :=
  exists_last_write (rd := fun (d : Dev) (y : SiteIx × Nat) => tget (d.fab.col y.1).lanes none y.2) (key := fun r => (r.1, r.2.1))
    (fun d q => by rw [d.entry_write Column.lanes none q.1 q.2.1 (some q.2.2) rfl, if_pos rfl])
    (fun d q k hk => by rw [d.entry_write Column.lanes none q.1 q.2.1 (some q.2.2) rfl, if_neg hk]) l d

theorem Dev.suspects_marked (d : Dev) (l : List SensorId) : ∀ q ∈ l, ((d.markSuspects l).sen q).suspect = true := by
  intro q hq
  obtain ⟨_, -, -, h⟩ := exists_last_write (g := fun (d : Dev) s => d.setSen s { d.sen s with suspect := true })
    (rd := fun (d : Dev) k => (tget d.thm.sens SenSt.init k).suspect) (key := senKey) (val := fun _ => true)
    (fun d q => by simp only [Dev.setSen, tget_tset]) (fun d q k hk => by simp only [Dev.setSen, tget_tset_ne _ _ _ (Ne.symm hk)]) l d q hq
  exact h

theorem bonds_last (t : Tab ClPower) (l : Tab Nat) : ∀ r ∈ l, ∃ q ∈ l, q.1 = r.1 ∧
    ((tget (l.foldl (fun t p => tput t p.1 { tget t ClPower.init p.1 with bond := p.2, bondTold := p.2 }) t) ClPower.init r.1).bond,
      (tget (l.foldl (fun t p => tput t p.1 { tget t ClPower.init p.1 with bond := p.2, bondTold := p.2 }) t) ClPower.init r.1).bondTold) = (q.2, q.2) :=
  exists_last_write (rd := fun (t : Tab ClPower) k => ((tget t ClPower.init k).bond, (tget t ClPower.init k).bondTold)) (key := fun r => r.1)
    (val := fun q => (q.2, q.2)) (fun t q => by simp only [tget_tput]) (fun t q k hk => by simp only [tget_tput_ne _ _ _ (Ne.symm hk)]) l t

end Sys2Proof.Machine
end

section
/-! PROOFS. VAON_UP and LOCKKEEPER_BOOT_DONE, clause by clause (R400, R401, R403, R405, R406, R417, R427, R428). -/

namespace Sys2Proof.Machine
open Sys2Proof

-- VAON_UP -------------------------------------------------------------------------------------------------------------

theorem vaonUp_running (s : State) (b : BootIn) (hv : s.d.pwr.vaon = true) (hb : s.d.lkk.bootStage ≠ 0) :
    Yields (.vaonUp b) s (fun u => Becomes s u s.d.bump) :=
  yields_onState rfl (if_pos (by simp [State.bump, Dev.bump, hv, hb]) : s.bump.vaonUp b = s.bump) (fun _ h => Follows.becomes h)

theorem vaonUp_cold (s : State) (b : BootIn) (h : s.d.pwr.vaon = false ∨ s.d.lkk.bootStage = 0) :
    Yields (.vaonUp b) s (fun u => AfterCold s u false ∧ u.d.pwr.vaon = true ∧
      (b.bootFails = [] → u.d.lkk.comps = bootedComps s.d.lkk.comps) ∧
      (∀ n, b.bootFails = [n] → BootFallsBack { Lkk.init with comps := bootedComps s.d.lkk.comps } u.d.lkk n b.otherFails)) := by
  have ha : s.bump.vaonUp b = { s.bump.cold false with d := (s.bump.cold false).d.setLkk (fun k => k.bootFails b.bootFails b.otherFails) } :=
    if_neg (by rcases h with h | h <;> simp [State.bump, Dev.bump, h])
  refine yields_onState rfl ha (fun u hu => ⟨afterCold_of_follows (fun k => ?_) (fun _ k => ?_) hu, hu.keeps (fun d => d.pwr.vaon) (fun _ => rfl),
    fun hn => ?_, fun n hn => ?_⟩)
  · exact Lkk.bootFails_keeps Lkk.stem (fun _ _ _ _ => rfl) ..
  · exact Lkk.bootFails_keeps Lkk.lastCause (fun _ _ _ _ => rfl) ..
  · refine (hu.keeps (fun d => d.lkk.comps) (fun _ => rfl)).trans ?_
    rw [hn]
    rfl
  · rw [hn] at hu
    show BootFallsBack (s.bump.cold false).d.lkk u.d.lkk n b.otherFails
    exact bootFallsBack_of_bootFails (hu.keeps (fun d => d.lkk.comps) (fun _ => rfl)) (hu.keeps (fun d => d.lkk.fallback) (fun _ => rfl))
      (hu.keeps (fun d => d.lkk.faultHeld) (fun _ => rfl))

-- LOCKKEEPER_BOOT_DONE ------------------------------------------------------------------------------------------------

theorem lockkeeperBootDone_idle (s : State) (b : BootIn) (h : s.d.pwr.vaon = false ∨ s.d.lkk.bootStage ≠ 0) :
    Yields (.lockkeeperBootDone b) s (fun u => Becomes s u s.d.bump) :=
  yields_onState rfl (if_pos (by rcases h with h | h <;> simp [State.bump, Dev.bump, h]) : s.bump.lkkBooted s.env b = s.bump) (fun _ h => Follows.becomes h)

theorem State.lkkBooted_noFuses (s : State) (e : Env) {b : BootIn} (hv : s.d.pwr.vaon = true) (hs : s.d.lkk.bootStage = 0) (h0 : b.fuse0 = false)
    (h1 : b.fuse1 = false) : s.lkkBooted e b = { s with d := s.d.setLkk (fun k => { k with bootStage := 0x1F }) } := by
  rw [State.lkkBooted, if_neg (by simp [hv, hs]), if_pos (by simp [h0, h1])]

theorem lockkeeperBootDone_noFuses (s : State) (b : BootIn) (hv : s.d.pwr.vaon = true) (hs : s.d.lkk.bootStage = 0) (h0 : b.fuse0 = false)
    (h1 : b.fuse1 = false) : Yields (.lockkeeperBootDone b) s (fun u => Becomes s u { s.d.bump with lkk := { s.d.lkk with bootStage := 0x1F } }) :=
  yields_onState rfl (s.bump.lkkBooted_noFuses s.env hv hs h0 h1) (fun _ h => Follows.becomes h)

/-- Lockkeeper's state once it has booted the components and checked the copies of the record. -/
def Lkk.checked (k : Lkk) (b : BootIn) : Lkk :=
  { k.bootFails b.bootFails b.otherFails with
    copyA := { k.copyA with ok := k.copyA.ok && b.recA }, copyB := { k.copyB with ok := k.copyB.ok && b.recB } }

/-- The device once the record in use has been applied, or RECORD_STALE reported. -/
def Dev.withRecord (d : Dev) (e : Env) : Dev :=
  match d.lkk.record with
  | some c => (d.applyRecord c.body).setLkk (fun k => { k with genNow := c.gen })
  | none => d.onFab (fun f => f.report e 0x0803 (.basinBlock 6) 2 0)

/-- The device once Lockkeeper has booted. -/
def Dev.bootedUp (d : Dev) (e : Env) (b : BootIn) : Dev :=
  ((d.setLkk (fun k => k.checked b)).withRecord e).setLkk (fun k => { k with bootStage := 6, faultN := !k.faultHeld })

theorem State.lkkBooted_eq (s : State) (e : Env) {b : BootIn} (hv : s.d.pwr.vaon = true) (hs : s.d.lkk.bootStage = 0)
    (hf : b.fuse0 = true ∨ b.fuse1 = true) : s.lkkBooted e b =
      { s with d := (s.d.bootedUp e b).send (.pin .faultN (s.d.bootedUp e b).lkk.faultN)
               sec := { s.sec.measure (s.d.bootedUp e b) [(1, 10), (3, 1), (4, 2)] with akGen := s.sec.akGen + 1 } } := by
  rw [State.lkkBooted, if_neg (by simp [hv, hs]), if_neg (by rcases hf with h | h <;> simp [h])]
  rfl

theorem Dev.withRecord_some (d : Dev) (e : Env) {c : RecCopy} (h : d.lkk.record = some c) :
    d.withRecord e = (d.applyRecord c.body).setLkk (fun k => { k with genNow := c.gen }) := by
  rw [Dev.withRecord, h]

theorem Dev.withRecord_none (d : Dev) (e : Env) (h : d.lkk.record = none) :
    d.withRecord e = d.onFab (fun f => f.report e 0x0803 (.basinBlock 6) 2 0) := by
  rw [Dev.withRecord, h]

/-- The record leaves every part of the device that is not its own. -/
theorem Dev.withRecord_keeps {γ : Type} (p : Dev → γ) (hsen : ∀ d q v, p (Dev.setSen d q v) = p d)
    (hcol : ∀ d x (c : Fabric → Column), p (Dev.onFab d (fun f => f.setCol x (c f))) = p d) (htab : ∀ d b, p (Dev.loadTables d b) = p d)
    (hgen : ∀ d n, p (Dev.setLkk d (fun k => { k with genNow := n })) = p d)
    (hrep : ∀ d e code q d1 d2, p (Dev.onFab d (fun f => f.report e code q d1 d2)) = p d) (d : Dev) (e : Env) : p (d.withRecord e) = p d := by
  unfold Dev.withRecord
  split
  · exact (hgen _ _).trans ((Dev.applyRecord_keeps p hsen hcol _ _).trans (htab _ _))
  · exact hrep ..

theorem Dev.bootedUp_lkk {γ : Type} (p : Lkk → γ) (hp : ∀ (k : Lkk) bad causes w, p { k with bad := bad, causes := causes, written := w } = p k)
    (hg : ∀ (k : Lkk) n, p { k with genNow := n } = p k) (hb : ∀ (k : Lkk) f, p { k with bootStage := 6, faultN := f } = p k) (d : Dev) (e : Env) (b : BootIn) :
    p (d.bootedUp e b).lkk = p (d.lkk.checked b) :=
  (hb _ _).trans (Dev.withRecord_keeps (fun d => p d.lkk) (fun _ _ _ => rfl) (fun _ _ _ => rfl) (fun d _ => hp d.lkk _ _ _) (fun d n => hg d.lkk n)
    (fun _ _ _ _ _ _ => rfl) _ e)

theorem Dev.bootedUp_svc (d : Dev) (e : Env) (b : BootIn) : (d.bootedUp e b).svc = d.svc :=
  Dev.withRecord_keeps Dev.svc (fun _ _ _ => rfl) (fun _ _ _ => rfl) (fun _ _ => rfl) (fun _ _ => rfl) (fun _ _ _ _ _ _ => rfl) _ e

theorem Dev.bootedUp_sites (d : Dev) (e : Env) (b : BootIn) : (d.bootedUp e b).fab.sites = d.fab.sites :=
  Dev.withRecord_keeps (fun d => d.fab.sites) (fun _ _ _ => rfl) (fun _ _ _ => rfl) (fun _ _ => rfl) (fun _ _ => rfl) (fun _ _ _ _ _ _ => rfl) _ e

theorem Dev.bootedUp_out (d : Dev) (e : Env) (b : BootIn) : (d.bootedUp e b).out = d.out :=
  Dev.withRecord_keeps Dev.out (fun _ _ _ => rfl) (fun _ _ _ => rfl) (fun _ _ => rfl) (fun _ _ => rfl) (fun _ _ _ _ _ _ => rfl) _ e

/-- The record applied stands in the device (R401, R406). -/
theorem recordApplied_of_follows {a u : State} (h : Follows a u) {d : Dev} {c : RecCopy} (hcols : a.d.fab.cols = (d.applyRecord c.body).fab.cols)
    (hpwr : a.d.pwr = (d.applyRecord c.body).pwr) (hthm : a.d.thm = (d.applyRecord c.body).thm) (hgen : a.d.lkk.genNow = c.gen)
    (hbad : a.d.lkk.bad = c.body.bad) (hcauses : a.d.lkk.causes = c.body.causes) (hwritten : a.d.lkk.written = c.body) : RecordApplied u c := by
  have hcol (x : SiteIx) : u.d.fab.col x = (d.applyRecord c.body).fab.col x :=
    congrArg (fun t => tget t Column.init x.val) ((h.keeps (fun d => d.fab.cols) (fun _ => rfl)).trans hcols)
  have hpk {γ : Type} (p : PwrSt → γ) : p (d.applyRecord c.body).pwr = p (d.loadTables c.body).pwr :=
    Dev.applyRecord_keeps (fun d => p d.pwr) (fun _ _ _ => rfl) (fun _ _ _ => rfl) d c.body
  have hutm : u.d.thm = (d.applyRecord c.body).thm := (h.keeps Dev.thm (fun _ => rfl)).trans hthm
  refine ⟨(h.keeps (fun d => d.lkk.genNow) (fun _ => rfl)).trans hgen, (h.keeps (fun d => d.lkk.bad) (fun _ => rfl)).trans hbad,
    (h.keeps (fun d => d.lkk.causes) (fun _ => rfl)).trans hcauses, (h.keeps (fun d => d.lkk.written) (fun _ => rfl)).trans hwritten,
    ?_, ?_, ?_, fun q hq => ?_, fun r hr => ?_, fun r hr => ?_, fun r hr => ?_, fun r hr => ?_, fun r hr => ?_⟩
  · exact (h.keeps (fun d => d.pwr.ceil) (fun _ => rfl)).trans ((congrArg PwrSt.ceil hpwr).trans (hpk PwrSt.ceil))
  · exact (h.keeps (fun d => d.pwr.age) (fun _ => rfl)).trans ((congrArg PwrSt.age hpwr).trans (hpk PwrSt.age))
  · rw [hutm]
    exact Dev.applyRecord_keeps (fun d => d.thm.blind) (fun _ _ _ => rfl) (fun _ _ _ => rfl) d c.body
  · have hs : (d.applyRecord c.body).thm = ((d.loadTables c.body).markSuspects c.body.suspects).thm := by
      have hc : ∀ (e : Dev) x (g : Fabric → Column), (Dev.onFab e (fun f => f.setCol x (g f))).thm = e.thm := fun _ _ _ => rfl
      rw [Dev.applyRecord_eq]
      exact (((foldl_keeps Dev.thm _ (fun d _ => hc d ..) _ _).trans (foldl_keeps Dev.thm _ (fun d _ => hc d ..) _ _)).trans
        (foldl_keeps Dev.thm _ (fun d _ => hc d ..) _ _)).trans (foldl_keeps Dev.thm _ (fun d _ => hc d ..) _ _)
    rw [Dev.sen, hutm, hs]
    exact Dev.suspects_marked _ _ q hq
  · obtain ⟨q, hq, hk, hv⟩ := bonds_last d.pwr.cls c.body.bond r hr
    obtain ⟨hb, ht⟩ := Prod.mk.inj hv
    have hcls : a.d.pwr.cls = (d.loadTables c.body).pwr.cls := (congrArg PwrSt.cls hpwr).trans (hpk PwrSt.cls)
    have hu := h.bond r.1
    rw [hcls] at hu
    exact ⟨q, hq, hk, hu.1.trans hb, hu.2.trans ht⟩
  · obtain ⟨q, hq, hk, hv⟩ := Dev.spares_last ((d.loadTables c.body).markSuspects c.body.suspects) c.body.spares r hr
    obtain ⟨hb, ht⟩ := Prod.ext_iff.mp hv
    rw [hcol, Dev.applyRecord_eq]
    exact ⟨q, hq, hk,
      (((Dev.loadLanes_keeps Column.badRows _ _ (fun _ _ => rfl) _).trans (Dev.loadCols_keeps Column.badRows _ _ (fun _ _ => rfl) _)).trans
        (Dev.loadRows_keeps Column.badRows _ _ (fun _ _ => rfl) _)).trans hb,
      (((Dev.loadLanes_keeps Column.badCols _ _ (fun _ _ => rfl) _).trans (Dev.loadCols_keeps Column.badCols _ _ (fun _ _ => rfl) _)).trans
        (Dev.loadRows_keeps Column.badCols _ _ (fun _ _ => rfl) _)).trans ht⟩
  · obtain ⟨q, hq, hk, hv⟩ := Dev.rows_last (((d.loadTables c.body).markSuspects c.body.suspects).loadSpares c.body.spares) c.body.rows r hr
    obtain ⟨hk1, hk2⟩ := Prod.mk.inj hk
    rw [hcol, Dev.applyRecord_eq, Dev.loadLanes_keeps Column.rowRep _ _ (fun _ _ => rfl) _, Dev.loadCols_keeps Column.rowRep _ _ (fun _ _ => rfl) _]
    exact ⟨q, hq, hk1, hk2, hv⟩
  · obtain ⟨q, hq, hk, hv⟩ := Dev.cols_last ((((d.loadTables c.body).markSuspects c.body.suspects).loadSpares c.body.spares).loadRows c.body.rows)
      c.body.cols r hr
    obtain ⟨hk1, hk2⟩ := Prod.mk.inj hk
    rw [hcol, Dev.applyRecord_eq, Dev.loadLanes_keeps Column.colRep _ _ (fun _ _ => rfl) _]
    exact ⟨q, hq, hk1, hk2, hv⟩
  · obtain ⟨q, hq, hk, hv⟩ := Dev.lanes_last (((((d.loadTables c.body).markSuspects c.body.suspects).loadSpares c.body.spares).loadRows
      c.body.rows).loadCols c.body.cols) c.body.lanes r hr
    obtain ⟨hk1, hk2⟩ := Prod.mk.inj hk
    rw [hcol, Dev.applyRecord_eq]
    exact ⟨q, hq, hk1, hk2, hv⟩

/-- The copies of the record that are valid (R401). -/
def copyOk (c : RecCopy) (read : Bool) : Prop := c.ok = true ∧ read = true

theorem checked_ok_iff {c : RecCopy} {read : Bool} : (c.ok && read) = true ↔ copyOk c read := Bool.and_eq_true _ _ ▸ Iff.rfl

theorem Lkk.checked_copyA (k : Lkk) (b : BootIn) : (k.checked b).copyA = { k.copyA with ok := k.copyA.ok && b.recA } := rfl
theorem Lkk.checked_copyB (k : Lkk) (b : BootIn) : (k.checked b).copyB = { k.copyB with ok := k.copyB.ok && b.recB } := rfl

theorem Lkk.record_checked_both (k : Lkk) (b : BootIn) (hA : copyOk k.copyA b.recA) (hB : copyOk k.copyB b.recB) : (k.checked b).record =
    some (if k.copyA.gen < k.copyB.gen then { k.copyB with ok := true } else { k.copyA with ok := true }) := by
  rw [Lkk.record, Lkk.checked_copyA, Lkk.checked_copyB, checked_ok_iff.mpr hA, checked_ok_iff.mpr hB]
  rfl

theorem Lkk.record_checked_A (k : Lkk) (b : BootIn) (hA : copyOk k.copyA b.recA) (hB : ¬ copyOk k.copyB b.recB) :
    (k.checked b).record = some { k.copyA with ok := true } := by
  rw [Lkk.record, Lkk.checked_copyA, Lkk.checked_copyB, checked_ok_iff.mpr hA, Bool.eq_false_iff.mpr (fun h => hB (checked_ok_iff.mp h))]
  rfl

theorem Lkk.record_checked_B (k : Lkk) (b : BootIn) (hA : ¬ copyOk k.copyA b.recA) (hB : copyOk k.copyB b.recB) :
    (k.checked b).record = some { k.copyB with ok := true } := by
  rw [Lkk.record, Lkk.checked_copyA, Lkk.checked_copyB, checked_ok_iff.mpr hB, Bool.eq_false_iff.mpr (fun h => hA (checked_ok_iff.mp h))]
  rfl

theorem Lkk.record_checked_none (k : Lkk) (b : BootIn) (hA : ¬ copyOk k.copyA b.recA) (hB : ¬ copyOk k.copyB b.recB) : (k.checked b).record = none := by
  rw [Lkk.record, Lkk.checked_copyA, Lkk.checked_copyB, Bool.eq_false_iff.mpr (fun h => hA (checked_ok_iff.mp h)),
    Bool.eq_false_iff.mpr (fun h => hB (checked_ok_iff.mp h))]
  rfl

/-- A record in use is applied by the boot. -/
theorem recordApplied_of_bootedUp {a u : State} (h : Follows a u) {d : Dev} {e : Env} {b : BootIn} {c : RecCopy}
    (ha : a.d = (d.bootedUp e b).send (.pin .faultN (d.bootedUp e b).lkk.faultN)) (hr : (d.lkk.checked b).record = some c) : RecordApplied u c := by
  have hd : d.bootedUp e b = (((d.setLkk (fun k => k.checked b)).applyRecord c.body).setLkk (fun k => { k with genNow := c.gen })).setLkk
      (fun k => { k with bootStage := 6, faultN := !k.faultHeld }) := by
    rw [Dev.bootedUp, Dev.withRecord_some _ e (show (d.setLkk (fun k => k.checked b)).lkk.record = some c from hr)]
  have lkk {γ : Type} (p : Lkk → γ) (hp : ∀ (k : Lkk) n f, p { k with genNow := n, bootStage := 6, faultN := f } = p k) :
      p a.d.lkk = p ((d.setLkk (fun k => k.checked b)).loadTables c.body).lkk := by
    rw [ha, hd]
    exact (hp ((d.setLkk (fun k => k.checked b)).applyRecord c.body).lkk _ _).trans
      (Dev.applyRecord_keeps (fun d => p d.lkk) (fun _ _ _ => rfl) (fun _ _ _ => rfl) _ c.body)
  exact recordApplied_of_follows h (d := d.setLkk (fun k => k.checked b)) (by rw [ha, hd]; rfl) (by rw [ha, hd]; rfl) (by rw [ha, hd]; rfl)
    (by rw [ha, hd]; rfl) (lkk Lkk.bad (fun _ _ _ => rfl)) (lkk Lkk.causes (fun _ _ _ => rfl)) (lkk Lkk.written (fun _ _ _ => rfl))

theorem lockkeeperBootDone_boots (s : State) (b : BootIn) (hv : s.d.pwr.vaon = true) (hs : s.d.lkk.bootStage = 0)
    (hf : b.fuse0 = true ∨ b.fuse1 = true) : let A := s.d.lkk.copyA
    let B := s.d.lkk.copyB
    let okA := A.ok = true ∧ b.recA = true
    let okB := B.ok = true ∧ b.recB = true
    Yields (.lockkeeperBootDone b) s (fun u => u.d.lkk.bootStage = 6 ∧ u.d.lkk.faultN = !u.d.lkk.faultHeld ∧
      Out.pin .faultN u.d.lkk.faultN ∈ u.d.out.drop s.d.out.length ∧ u.sec.akGen = s.sec.akGen + 1 ∧ u.sec.sessions = s.sec.sessions ∧
      Measured u [(1, 10), (3, 1), (4, 2)] ∧ u.time = s.time ∧ u.agg = s.agg ∧ u.pending = s.pending ∧ u.d.svc = s.d.svc ∧ u.d.fab.sites = s.d.fab.sites ∧
      (b.bootFails = [] → u.d.lkk.comps = s.d.lkk.comps ∧ u.d.lkk.faultHeld = s.d.lkk.faultHeld) ∧
      (∀ n, b.bootFails = [n] → BootFallsBack s.d.lkk u.d.lkk n b.otherFails) ∧
      (okA → okB → RecordApplied u (if A.gen < B.gen then { B with ok := true } else { A with ok := true })) ∧
      (okA → ¬ okB → RecordApplied u A) ∧ (¬ okA → okB → RecordApplied u B) ∧
      (¬ okA → ¬ okB → Tells s u 0x0803 (.basinBlock 6) ∧ u.d.fab.cols = s.d.fab.cols)) := by
  intro A B okA okB
  refine yields_onState rfl (s.bump.lkkBooted_eq s.env hv hs hf) (fun u hu => ?_)
  set d := s.bump.d.bootedUp s.env b with hd
  obtain ⟨hpend, htime, -, hsec, hagg, -⟩ := hu.thereafter
  have lkk {γ : Type} (p : Lkk → γ) (hc : ∀ d : Dev, p d.core.lkk = p d.lkk)
      (hp : ∀ (k : Lkk) bad causes w, p { k with bad := bad, causes := causes, written := w } = p k)
      (hg : ∀ (k : Lkk) n, p { k with genNow := n } = p k) (hb : ∀ (k : Lkk) f, p { k with bootStage := 6, faultN := f } = p k) :
      p u.d.lkk = p (s.d.lkk.checked b) :=
    (hu.keeps (fun d => p d.lkk) hc).trans (Dev.bootedUp_lkk p hp hg hb s.bump.d s.env b)
  have hcomps := lkk Lkk.comps (fun _ => rfl) (fun _ _ _ _ => rfl) (fun _ _ => rfl) (fun _ _ => rfl)
  have hfall := lkk Lkk.fallback (fun _ => rfl) (fun _ _ _ _ => rfl) (fun _ _ => rfl) (fun _ _ => rfl)
  have hheld := lkk Lkk.faultHeld (fun _ => rfl) (fun _ _ _ _ => rfl) (fun _ _ => rfl) (fun _ _ => rfl)
  have hfault : u.d.lkk.faultN = d.lkk.faultN := hu.keeps (fun d => d.lkk.faultN) (fun _ => rfl)
  refine ⟨hu.keeps (fun d => d.lkk.bootStage) (fun _ => rfl), ?_, ?_, by rw [hsec]; rfl, by rw [hsec]; rfl, ?_, htime, hagg, hpend,
    (hu.keeps Dev.svc (fun _ => rfl)).trans (Dev.bootedUp_svc ..), (hu.keeps (fun d => d.fab.sites) (fun _ => rfl)).trans (Dev.bootedUp_sites ..),
    fun hn => ?_, fun n hn => ?_, fun hA hB => ?_, fun hA hB => ?_, fun hA hB => ?_, fun hA hB => ?_⟩
  · rw [hfault, show u.d.lkk.faultHeld = d.lkk.faultHeld from hu.keeps (fun d => d.lkk.faultHeld) (fun _ => rfl)]
    rfl
  · refine hu.mem_out_drop ?_
    show _ ∈ (d.out ++ [Out.pin .faultN d.lkk.faultN]).drop s.d.out.length
    rw [show d.out = s.d.out from Dev.bootedUp_out .., List.drop_left, hfault]
    exact List.mem_singleton_self _
  · exact measured_of_measure (q := s.sec) (d := d) (by decide) (by rw [hsec]; rfl) (hu.keeps (fun d => d.lkk.comps) (fun _ => rfl))
  · rw [hcomps, hheld, Lkk.checked, hn]
    exact ⟨rfl, rfl⟩
  · rw [Lkk.checked, hn] at hcomps hfall hheld
    exact bootFallsBack_of_bootFails hcomps hfall hheld
  · exact recordApplied_of_bootedUp hu (d := s.bump.d) rfl (s.d.lkk.record_checked_both b hA hB)
  · have hr := recordApplied_of_bootedUp hu (d := s.bump.d) rfl (s.d.lkk.record_checked_A b hA hB)
    exact hr
  · have hr := recordApplied_of_bootedUp hu (d := s.bump.d) rfl (s.d.lkk.record_checked_B b hA hB)
    exact hr
  · have hfab : d.fab = s.d.bump.fab.report s.env 0x0803 (.basinBlock 6) 2 0 := by
      rw [hd, Dev.bootedUp, Dev.withRecord_none _ s.env (show (s.bump.d.setLkk (fun k => k.checked b)).lkk.record = none from
        s.d.lkk.record_checked_none b hA hB)]
      rfl
    refine ⟨⟨[], [], { code := 0x0803, suspect := .basinBlock 6, d1 := 2, d2 := 0, ctx := none, action := 0, time := nowNs s.env.time }, ?_, rfl, rfl⟩, ?_⟩
    · rw [show u.d.fab.reports = d.fab.reports from hu.keeps (fun d => d.fab.reports) (fun _ => rfl), hfab, List.append_nil]
      rfl
    · rw [show u.d.fab.cols = d.fab.cols from hu.keeps (fun d => d.fab.cols) (fun _ => rfl), hfab]
      rfl

end Sys2Proof.Machine
end

section
/-! PROOFS. BASIN_RAILS_UP, VIN_UP and TOPOLOGY_SET (R15, R357, R401, R403, R407, R428, R452). -/

namespace Sys2Proof.Machine
open Sys2Proof

-- Banks ---------------------------------------------------------------------------------------------------------------

theorem Dev.bankSt_setBank (d : Dev) {h g : HalfId} {b k : Nat} (v : BankPhase) (hb : b < 20) (hk : k < 20) :
    (d.setBank h b v).bankSt g k = if g = h ∧ k = b then v else d.bankSt g k := by
  simp only [Dev.bankSt, Dev.setBank, tget_tset_ite]
  by_cases hc : g = h ∧ k = b
  · rw [if_pos hc, if_pos (by rw [hc.1, hc.2])]
  · rw [if_neg hc, if_neg (fun he => hc ⟨Fin.ext (by omega), by omega⟩)]

/-- The R-layer of a half starts when its VIN comes (Table Power-8). -/
def Dev.starts (d : Dev) (h : HalfId) : Bool := d.pwr.vin[h] && d.lkk.basinUp && !d.thm.tripped && d.bankSt h 16 == .off

/-- The code banks of an R-layer controller that has taken the image in force. -/
def Dev.layerCode (d : Dev) : CodeBanks := { bank := 0, a := d.codeOf 7, b := 0 }

theorem Dev.startHalf_of_starts (d : Dev) {h : HalfId} (hs : d.starts h = true) :
    d.startHalf h = (d.setLkk (fun k => { k with rlayer := tput k.rlayer h.val d.layerCode })).setBank h 16 .starting := if_pos hs

theorem Dev.startHalf_of_not_starts (d : Dev) {h : HalfId} (hs : d.starts h = false) : d.startHalf h = d := if_neg (by
  show ¬ d.starts h = true
  simp [hs])

theorem Dev.startHalf_bankSt (d : Dev) (h g : HalfId) {k : Nat} (hk : k < 20) :
    (d.startHalf h).bankSt g k = if (g = h ∧ k = 16) ∧ d.starts h = true then .starting else d.bankSt g k := by
  cases hs : d.starts h with
  | true => rw [d.startHalf_of_starts hs, Dev.bankSt_setBank _ _ (by decide) hk]; simp [Dev.bankSt, Dev.setLkk]
  | false => rw [d.startHalf_of_not_starts hs]; simp

theorem Dev.startHalf_rlayer (d : Dev) (h g : HalfId) :
    tget (d.startHalf h).lkk.rlayer CodeBanks.init g.val = if g = h ∧ d.starts h = true then d.layerCode else tget d.lkk.rlayer CodeBanks.init g.val := by
  cases hs : d.starts h with
  | true =>
    rw [d.startHalf_of_starts hs]
    show tget (tput d.lkk.rlayer h.val d.layerCode) CodeBanks.init g.val = _
    rw [tget_tput_ite]
    simp [Fin.ext_iff]
  | false => rw [d.startHalf_of_not_starts hs]; simp

/-- A half that starts changes its bank and the code of its controller alone. -/
theorem Dev.startHalf_keeps {γ : Type} (p : Dev → γ) (hb : ∀ d h b v, p (Dev.setBank d h b v) = p d)
    (hr : ∀ d (t : Lkk → Tab CodeBanks), p (Dev.setLkk d (fun k => { k with rlayer := t k })) = p d) (d : Dev) (h : HalfId) : p (d.startHalf h) = p d := by
  cases hs : d.starts h with
  | true => rw [d.startHalf_of_starts hs, hb, hr]
  | false => rw [d.startHalf_of_not_starts hs]

theorem half_cases (h : HalfId) : h = 0 ∨ h = 1 := by
  revert h
  decide

/-- Both halves, each started where its VIN stands. -/
def Dev.startHalves (d : Dev) : Dev := (d.startHalf 0).startHalf 1

theorem Dev.startHalf_zero_starts (d : Dev) : (d.startHalf 0).starts 1 = d.starts 1 := by
  have hv : (d.startHalf 0).pwr.vin = d.pwr.vin := Dev.startHalf_keeps (fun d => d.pwr.vin) (fun _ _ _ _ => rfl) (fun _ _ => rfl) d 0
  have hu : (d.startHalf 0).lkk.basinUp = d.lkk.basinUp := Dev.startHalf_keeps (fun d => d.lkk.basinUp) (fun _ _ _ _ => rfl) (fun _ _ => rfl) d 0
  have ht : (d.startHalf 0).thm = d.thm := Dev.startHalf_keeps Dev.thm (fun _ _ _ _ => rfl) (fun _ _ => rfl) d 0
  have hb : (d.startHalf 0).bankSt 1 16 = d.bankSt 1 16 := by rw [Dev.startHalf_bankSt _ _ _ (by decide)]; simp
  simp only [Dev.starts, hv, hu, ht, hb]

theorem Dev.startHalf_layerCode (d : Dev) (h : HalfId) : (d.startHalf h).layerCode = d.layerCode :=
  Dev.startHalf_keeps Dev.layerCode (fun _ _ _ _ => rfl) (fun _ _ => rfl) d h

theorem Dev.startHalves_bankSt (d : Dev) (h : HalfId) {k : Nat} (hk : k < 20) :
    d.startHalves.bankSt h k = if k = 16 ∧ d.starts h = true then .starting else d.bankSt h k := by
  rw [Dev.startHalves, Dev.startHalf_bankSt _ _ _ hk, Dev.startHalf_bankSt _ _ _ hk, Dev.startHalf_zero_starts]
  rcases half_cases h with rfl | rfl <;> simp

theorem Dev.startHalves_rlayer (d : Dev) (h : HalfId) :
    tget d.startHalves.lkk.rlayer CodeBanks.init h.val = if d.starts h = true then d.layerCode else tget d.lkk.rlayer CodeBanks.init h.val := by
  rw [Dev.startHalves, Dev.startHalf_rlayer, Dev.startHalf_rlayer, Dev.startHalf_zero_starts, Dev.startHalf_layerCode]
  rcases half_cases h with rfl | rfl <;> simp

theorem Dev.startHalves_keeps {γ : Type} (p : Dev → γ) (hb : ∀ d h b v, p (Dev.setBank d h b v) = p d)
    (hr : ∀ d (t : Lkk → Tab CodeBanks), p (Dev.setLkk d (fun k => { k with rlayer := t k })) = p d) (d : Dev) : p d.startHalves = p d :=
  (Dev.startHalf_keeps p hb hr _ 1).trans (Dev.startHalf_keeps p hb hr d 0)

-- BASIN_RAILS_UP ------------------------------------------------------------------------------------------------------

theorem basinRailsUp_cold (s : State) (h : s.d.pwr.vbsnLost = true ∨ s.d.thm.tripped = true) :
    Yields .basinRailsUp s (fun u => AfterCold s u true ∧ u.d.pwr.vaon = true ∧ u.d.lkk.lastCause = 5 ∧
      u.d.lkk.comps = bootedComps s.d.lkk.comps) := by
  have ha : s.bump.basinRails = { s.bump.cold true with d := (s.bump.cold true).d.setLkk (fun k => { k with lastCause := 5 }) } :=
    if_pos (by rcases h with h | h <;> simp [State.bump, Dev.bump, h])
  exact yields_onState rfl ha (fun u hu => ⟨afterCold_of_follows (g := fun k => { k with lastCause := 5 }) (fun _ => rfl) (fun h => nomatch h) hu, hu.keeps (fun d => d.pwr.vaon) (fun _ => rfl),
    hu.keeps (fun d => d.lkk.lastCause) (fun _ => rfl), hu.keeps (fun d => d.lkk.comps) (fun _ => rfl)⟩)

theorem basinRailsUp_idle (s : State) (hl : s.d.pwr.vbsnLost = false) (ht : s.d.thm.tripped = false)
    (h : s.d.booted = false ∨ s.d.lkk.basinUp = true) : Yields .basinRailsUp s (fun u => Becomes s u s.d.bump) := by
  have ha : s.bump.basinRails = s.bump := by
    have hb : s.bump.d.booted = s.d.booted := rfl
    rw [State.basinRails, if_neg (by simp [State.bump, Dev.bump, hl, ht]), if_pos (by rw [hb]; rcases h with h | h <;> simp [State.bump, Dev.bump, h])]
  exact yields_onState rfl ha (fun _ hu => Follows.becomes hu)

/-- The device with the main rails in tolerance and the Basin core out of reset. -/
def Dev.railed (d : Dev) : Dev := { d with pwr := { d.pwr with vbsn := true, vphy := true }, lkk := { d.lkk with basinUp := true } }

theorem basinRailsUp_starts (s : State) (hl : s.d.pwr.vbsnLost = false) (ht : s.d.thm.tripped = false) (hb : s.d.booted = true)
    (hu : s.d.lkk.basinUp = false) : Yields .basinRailsUp s (fun u =>
      u.d.pwr.vbsn = true ∧ u.d.pwr.vphy = true ∧ u.d.lkk.basinUp = true ∧ u.d.lkk.bootStage = s.d.lkk.bootStage ∧
      (∀ h : HalfId, s.d.bankSt h 16 = .off → (s.d.pwr.vin[h] = false → u.d.bankSt h 16 = .off) ∧ (s.d.pwr.vin[h] = true → u.d.bankSt h 16 = .starting ∧
        tget u.d.lkk.rlayer CodeBanks.init h.val = { bank := 0, a := s.d.codeOf 7, b := 0 })) ∧
      (∀ (h : HalfId) (k : Nat), k < 20 → k ≠ 16 → u.d.bankSt h k = s.d.bankSt h k) ∧ Measured u [(5, 3), (6, 4), (7, 5), (8, 9)] ∧
      u.d.svc = s.d.svc ∧ u.d.fab.sites = s.d.fab.sites ∧ u.time = s.time ∧ u.agg = s.agg ∧ u.pending = s.pending) := by
  have ha : s.bump.basinRails = { s.bump with
      d := s.d.bump.railed.startHalves, sec := s.sec.measure s.d.bump.railed [(5, 3), (6, 4), (7, 5), (8, 9)] } := by
    have hb' : s.bump.d.booted = true := hb
    rw [State.basinRails, if_neg (by simp [State.bump, Dev.bump, hl, ht]), if_neg (by rw [hb']; simp [State.bump, Dev.bump, hu])]
    rfl
  refine yields_onState rfl ha (fun u hf => ?_)
  obtain ⟨hpend, htime, -, hsec, hagg, -⟩ := hf.thereafter
  have keep {γ : Type} (p : Dev → γ) (hc : ∀ d : Dev, p d.core = p d) (hb : ∀ d h b v, p (Dev.setBank d h b v) = p d)
      (hr : ∀ d (t : Lkk → Tab CodeBanks), p (Dev.setLkk d (fun k => { k with rlayer := t k })) = p d) : p u.d = p s.d.bump.railed :=
    (hf.keeps p hc).trans (Dev.startHalves_keeps p hb hr _)
  have hbank (h : HalfId) (k : Nat) : u.d.bankSt h k = s.d.bump.railed.startHalves.bankSt h k := hf.keeps (fun d => d.bankSt h k) (fun _ => rfl)
  have hstarts (h : HalfId) (hoff : s.d.bankSt h 16 = .off) : s.d.bump.railed.starts h = s.d.pwr.vin[h] := by
    have h16 : s.d.bump.railed.bankSt h 16 = .off := hoff
    have htr : s.d.bump.railed.thm.tripped = false := ht
    have hup : s.d.bump.railed.lkk.basinUp = true := rfl
    rw [Dev.starts, h16, htr, hup]
    simp [Dev.railed, Dev.bump]
  refine ⟨keep (fun d => d.pwr.vbsn) (fun _ => rfl) (fun _ _ _ _ => rfl) (fun _ _ => rfl),
    keep (fun d => d.pwr.vphy) (fun _ => rfl) (fun _ _ _ _ => rfl) (fun _ _ => rfl),
    keep (fun d => d.lkk.basinUp) (fun _ => rfl) (fun _ _ _ _ => rfl) (fun _ _ => rfl),
    keep (fun d => d.lkk.bootStage) (fun _ => rfl) (fun _ _ _ _ => rfl) (fun _ _ => rfl), fun h hoff => ⟨fun hv => ?_, fun hv => ⟨?_, ?_⟩⟩, fun h k hk hne => ?_,
    measured_of_measure (q := s.sec) (d := s.d.bump.railed) (by decide) (by rw [hsec])
      (keep (fun d => d.lkk.comps) (fun _ => rfl) (fun _ _ _ _ => rfl) (fun _ _ => rfl)),
    keep Dev.svc (fun _ => rfl) (fun _ _ _ _ => rfl) (fun _ _ => rfl), keep (fun d => d.fab.sites) (fun _ => rfl) (fun _ _ _ _ => rfl) (fun _ _ => rfl),
    htime, hagg, hpend⟩
  · rw [hbank, Dev.startHalves_bankSt _ _ (by decide), if_neg (by rw [hstarts h hoff, hv]; simp)]
    exact hoff
  · rw [hbank, Dev.startHalves_bankSt _ _ (by decide), if_pos ⟨rfl, by rw [hstarts h hoff, hv]⟩]
  · rw [show u.d.lkk.rlayer = s.d.bump.railed.startHalves.lkk.rlayer from hf.keeps (fun d => d.lkk.rlayer) (fun _ => rfl), Dev.startHalves_rlayer,
      if_pos (by rw [hstarts h hoff, hv])]
    rfl
  · rw [hbank, Dev.startHalves_bankSt _ _ hk, if_neg (fun h => hne h.1)]
    rfl

-- VIN_UP --------------------------------------------------------------------------------------------------------------

/-- The device with the VIN of a half in tolerance. -/
def Dev.vinOn (d : Dev) (h : HalfId) : Dev := { d with pwr := { d.pwr with vin := d.pwr.vin.set h true } }

theorem vinUp_yields (s : State) (h : HalfId) : Yields (.vinUp h) s (fun u => u.d.pwr.vin = s.d.pwr.vin.set h true ∧
    (s.d.lkk.basinUp = true → s.d.thm.tripped = false → s.d.bankSt h 16 = .off → u.d.bankSt h 16 = .starting ∧
      tget u.d.lkk.rlayer CodeBanks.init h.val = { bank := 0, a := s.d.codeOf 7, b := 0 } ∧ ∀ (g : HalfId) (k : Nat), k < 20 → ¬ (g = h ∧ k = 16) → u.d.bankSt g k = s.d.bankSt g k) ∧
    (s.d.lkk.basinUp = false ∨ s.d.thm.tripped = true ∨ s.d.bankSt h 16 ≠ .off → u.d.pwr.banks = s.d.pwr.banks) ∧
    (s.d.lkk.basinUp = true → Measured u [(9, 7), (10, 8), (11, 6)]) ∧ (s.d.lkk.basinUp = false → u.sec = s.sec) ∧
    u.d.svc = s.d.svc ∧ u.d.fab.sites = s.d.fab.sites ∧ u.time = s.time ∧ u.agg = s.agg ∧ u.pending = s.pending) := by
  refine yields_onState (a := { s.bump with
    d := (s.d.bump.vinOn h).startHalf h
    sec := if ((s.d.bump.vinOn h).startHalf h).lkk.basinUp then s.sec.measure ((s.d.bump.vinOn h).startHalf h) [(9, 7), (10, 8), (11, 6)] else s.sec })
    rfl rfl (fun u hf => ?_)
  obtain ⟨hpend, htime, -, hsec, hagg, -⟩ := hf.thereafter
  have keep {γ : Type} (p : Dev → γ) (hc : ∀ d : Dev, p d.core = p d) (hb : ∀ d h b v, p (Dev.setBank d h b v) = p d)
      (hr : ∀ d (t : Lkk → Tab CodeBanks), p (Dev.setLkk d (fun k => { k with rlayer := t k })) = p d) : p u.d = p (s.d.bump.vinOn h) :=
    (hf.keeps p hc).trans (Dev.startHalf_keeps p hb hr _ h)
  have hup : ((s.d.bump.vinOn h).startHalf h).lkk.basinUp = s.d.lkk.basinUp :=
    Dev.startHalf_keeps (fun d => d.lkk.basinUp) (fun _ _ _ _ => rfl) (fun _ _ => rfl) _ h
  rw [hup] at hsec
  have hvin : (s.d.bump.vinOn h).pwr.vin[h] = true := Vector.getElem_set_self ..
  have hstarts : (s.d.bump.vinOn h).starts h = (s.d.lkk.basinUp && !s.d.thm.tripped && s.d.bankSt h 16 == .off) := by
    rw [Dev.starts, hvin]
    rfl
  have hbank (g : HalfId) (k : Nat) : u.d.bankSt g k = ((s.d.bump.vinOn h).startHalf h).bankSt g k := hf.keeps (fun d => d.bankSt g k) (fun _ => rfl)
  refine ⟨keep (fun d => d.pwr.vin) (fun _ => rfl) (fun _ _ _ _ => rfl) (fun _ _ => rfl), fun hb ht hoff => ?_, fun hn => ?_, fun hb => ?_, fun hb => ?_,
    keep Dev.svc (fun _ => rfl) (fun _ _ _ _ => rfl) (fun _ _ => rfl), keep (fun d => d.fab.sites) (fun _ => rfl) (fun _ _ _ _ => rfl) (fun _ _ => rfl),
    htime, hagg, hpend⟩
  · have hst : (s.d.bump.vinOn h).starts h = true := by rw [hstarts, hb, ht, hoff]; rfl
    refine ⟨?_, ?_, fun g k hk hne => ?_⟩
    · rw [hbank, Dev.startHalf_bankSt _ _ _ (by decide), if_pos ⟨⟨rfl, rfl⟩, hst⟩]
    · rw [show u.d.lkk.rlayer = ((s.d.bump.vinOn h).startHalf h).lkk.rlayer from hf.keeps (fun d => d.lkk.rlayer) (fun _ => rfl), Dev.startHalf_rlayer,
        if_pos ⟨rfl, hst⟩]
      rfl
    · rw [hbank, Dev.startHalf_bankSt _ _ _ hk, if_neg (fun hc => hne hc.1)]
      rfl
  · have hst : (s.d.bump.vinOn h).starts h = false := by
      rw [hstarts]
      rcases hn with hn | hn | hn <;> simp [hn]
    refine (hf.keeps (fun d => d.pwr.banks) (fun _ => rfl)).trans ?_
    rw [Dev.startHalf_of_not_starts _ hst]
    rfl
  · refine measured_of_measure (q := s.sec) (d := (s.d.bump.vinOn h).startHalf h) (by decide) ?_ (hf.keeps (fun d => d.lkk.comps) (fun _ => rfl))
    rw [hsec, if_pos hb]
  · rw [hsec, hb]
    rfl

end Sys2Proof.Machine
end

section
/-! PROOFS. TOPOLOGY_SET (R15, R401, R403, Table Stack-10). -/

namespace Sys2Proof.Machine
open Sys2Proof

-- The parts of the command --------------------------------------------------------------------------------------------

/-- Site i of cluster c is left out of the map: fused or declared bad, or with a column that cannot train (R15, R201). -/
def Dev.leavesOut (d : Dev) (e : Env) (c : ClusterId) (i : Fin 17) : Bool :=
  e.fuse.badSites.contains (siteIxOf c i.val) || d.lkk.bad.contains (siteIxOf c i.val) || (d.fab.col (siteIxOf c i.val)).phase == .unusable

/-- The site maps of the clusters of a list written. -/
def Dev.writeMaps (d : Dev) (bad : ClusterId → Fin 17 → Bool) (l : List ClusterId) : Dev :=
  l.foldl (fun d c => d.onFab (fun f => f.writeMap c (siteMapFor (bad c)))) d

/-- The fused mesh lanes counted. -/
def Dev.countMeshLanes (d : Dev) (l : List (ClusterId × Nat × Nat)) : Dev :=
  l.foldl (fun d m => d.onFab (fun f => f.setCluster m.1 { f.cluster m.1 with
    laneFails := (f.cluster m.1).laneFails.set (m.2.1 % 4) ((f.cluster m.1).laneFails[m.2.1 % 4]'(Nat.mod_lt _ (by decide)) + 1) (Nat.mod_lt _ (by decide)) })) d

def Dev.freshMaps (d : Dev) (e : Env) : Dev :=
  ((d.writeMaps (d.leavesOut e) allClusters).countMeshLanes e.fuse.meshLanes).onFab (fun f => { f with mapValid := true, mapWritten := true })

/-- The maps in force after the command: those that stand, or those written now (R401). -/
def Dev.setMaps (d : Dev) (e : Env) : Dev :=
  if d.fab.mapValid then d else if d.fab.mapWritten then d.onFab (fun f => { f with mapValid := true }) else d.freshMaps e

/-- The cluster banks of the halves of a list start, where their controller is not held. -/
def Dev.startClusterBanks (d : Dev) (hs : List HalfId) : Dev := hs.foldl (fun d h => if d.pwr.ctl[h] then d else d.startBanks h) d

theorem Dev.setTopology_idle (d : Dev) (e : Env) (h : (∀ h : HalfId, d.columnsUp h = false) ∨ d.lkkRuns = false) : d.setTopology e = d := by
  refine if_pos ?_
  rcases h with h | h
  · rw [List.filter_eq_nil_iff.mpr (fun g _ => by simp [h g])]
    rfl
  · simp [h]

theorem mem_bothHalves (h : HalfId) : h ∈ bothHalves := by rcases half_cases h with rfl | rfl <;> decide

theorem Dev.setTopology_eq (d : Dev) (e : Env) (h : ∃ h : HalfId, d.columnsUp h = true) (hr : d.lkkRuns = true) : d.setTopology e =
    ((d.setMaps e).startClusterBanks (bothHalves.filter d.columnsUp)).setLkk (fun k => { k with bootStage := Nat.max 13 k.bootStage }) := by
  obtain ⟨g, hg⟩ := h
  have hne : (bothHalves.filter d.columnsUp).isEmpty = false := by
    rw [List.isEmpty_eq_false_iff_exists_mem]
    exact ⟨g, List.mem_filter.mpr ⟨mem_bothHalves g, hg⟩⟩
  have hc : ¬ ((bothHalves.filter d.columnsUp).isEmpty || !d.lkkRuns) = true := by simp [hne, hr]
  unfold Dev.setTopology
  dsimp only
  rw [if_neg hc]
  rfl

-- Banks ---------------------------------------------------------------------------------------------------------------

/-- Banks that are started change no other part of the device. -/
theorem Dev.startBanks_keeps {γ : Type} (p : Dev → γ) (hb : ∀ d h b v, p (Dev.setBank d h b v) = p d) (d : Dev) (h : HalfId) :
    p (d.startBanks h) = p d := by
  unfold Dev.startBanks
  exact ite_keeps p rfl (foldl_keeps p _ (fun d b => hb d h b _) _ _)

theorem Dev.startClusterBanks_keeps {γ : Type} (p : Dev → γ) (hb : ∀ d h b v, p (Dev.setBank d h b v) = p d) (d : Dev) (hs : List HalfId) :
    p (d.startClusterBanks hs) = p d :=
  foldl_keeps p _ (fun d h => ite_keeps p rfl (d.startBanks_keeps p hb h)) hs d

/-- The cluster banks of a half, in the order of its clusters. -/
def halfPcls (h : HalfId) : List Nat := (allClusters.filter (fun c => clusterHalf c = h)).map clusterPcl

theorem lt_of_mem_halfPcls {h : HalfId} {p : Nat} (hp : p ∈ halfPcls h) : p < 16 := by
  obtain ⟨c, -, rfl⟩ := List.mem_map.mp hp
  exact Nat.mod_lt _ (by decide)

/-- The cluster banks of a half that start first. -/
def Dev.firstBanks (d : Dev) (h : HalfId) : List Nat := ((halfPcls h).filter (fun p => d.bankSt h p == .off)).take 4

theorem Dev.lt_of_mem_firstBanks {d : Dev} {h : HalfId} {p : Nat} (hp : p ∈ d.firstBanks h) : p < 16 :=
  lt_of_mem_halfPcls (List.mem_of_mem_filter (List.mem_of_mem_take hp))

theorem Dev.startBanks_eq (d : Dev) (h : HalfId) : d.startBanks h =
    if (halfPcls h).any (fun p => d.bankSt h p == .starting) then d else (d.firstBanks h).foldl (fun d p => d.setBank h p .starting) d := rfl

/-- Banks set to starting: those of the list are, and the others are as they were. -/
theorem Dev.bankSt_foldl_setBank (l : List Nat) (hl : ∀ p ∈ l, p < 20) (d : Dev) (h g : HalfId) {k : Nat} (hk : k < 20) :
    (l.foldl (fun d p => d.setBank h p .starting) d).bankSt g k = if g = h ∧ k ∈ l then .starting else d.bankSt g k := by
  induction l generalizing d with
  | nil => simp
  | cons p r ih =>
    obtain ⟨hp, hr⟩ := List.forall_mem_cons.mp hl
    rw [List.foldl_cons, ih hr, Dev.bankSt_setBank _ _ hp hk]
    by_cases hg : g = h <;> by_cases hkp : k = p <;> simp [hg, hkp]

theorem Dev.startBanks_bankSt_other (d : Dev) {h g : HalfId} (hg : g ≠ h) {k : Nat} (hk : k < 20) : (d.startBanks h).bankSt g k = d.bankSt g k := by
  rw [Dev.startBanks_eq]
  refine ite_keeps (fun d : Dev => d.bankSt g k) rfl ?_
  rw [Dev.bankSt_foldl_setBank _ (fun p hp => Nat.lt_trans (Dev.lt_of_mem_firstBanks hp) (by decide)) _ _ _ hk, if_neg (fun hc => hg hc.1)]

/-- The first four cluster banks of a half that are off, none starting, start. -/
theorem Dev.startBanks_bankSt (d : Dev) (h : HalfId) (hn : ∀ k, k < 16 → d.bankSt h k ≠ .starting) {k : Nat} (hk : k ∈ d.firstBanks h) :
    (d.startBanks h).bankSt h k = .starting := by
  have hany : (halfPcls h).any (fun p => d.bankSt h p == .starting) = false :=
    List.any_eq_false.mpr (fun p hp => by simpa using hn p (lt_of_mem_halfPcls hp))
  rw [Dev.startBanks_eq, hany, if_neg (by decide), Dev.bankSt_foldl_setBank _ (fun p hp => Nat.lt_trans (Dev.lt_of_mem_firstBanks hp) (by decide)) _ _ _
    (Nat.lt_trans (Dev.lt_of_mem_firstBanks hk) (by decide)), if_pos ⟨rfl, hk⟩]

/-- A half of the list, whose controller is not held, has its first banks started. -/
theorem Dev.startClusterBanks_bankSt {l : List HalfId} (hl : l.Nodup) {h : HalfId} (hh : h ∈ l) (d : Dev) (hctl : d.pwr.ctl[h] = false)
    (hn : ∀ k, k < 16 → d.bankSt h k ≠ .starting) {k : Nat} (hk : k ∈ d.firstBanks h) :
    (d.startClusterBanks l).bankSt h k = .starting := by
  have hk16 : k < 16 := Dev.lt_of_mem_firstBanks hk
  have hother {g : HalfId} (d : Dev) (hg : h ≠ g) {j : Nat} (hj : j < 16) :
      (if d.pwr.ctl[g] then d else d.startBanks g).bankSt h j = d.bankSt h j :=
    ite_keeps (fun d : Dev => d.bankSt h j) rfl (d.startBanks_bankSt_other hg (Nat.lt_trans hj (by decide)))
  induction l generalizing d with
  | nil => cases hh
  | cons g r ih =>
    obtain ⟨hg, hr⟩ := List.nodup_cons.mp hl
    show (Dev.startClusterBanks (if d.pwr.ctl[g] then d else d.startBanks g) r).bankSt h k = _
    rcases List.mem_cons.mp hh with rfl | hmem
    · rw [hctl]
      refine foldl_preserves_of_mem (P := fun d : Dev => d.bankSt h k = .starting) (fun d g' hg' hd => ?_) (d.startBanks_bankSt h hn hk)
      exact (hother d (fun e => hg (e ▸ hg')) hk16).trans hd
    · have hne : h ≠ g := fun e => hg (e ▸ hmem)
      refine ih hr hmem _ ?_ (fun j hj => ?_) ?_
      · exact (congrArg (fun v => v[h]) (ite_keeps (fun d : Dev => d.pwr.ctl) rfl (d.startBanks_keeps (fun d => d.pwr.ctl) (fun _ _ _ _ => rfl) g))).trans hctl
      · rw [hother d hne hj]
        exact hn j hj
      · rw [Dev.firstBanks, List.filter_congr (fun p hp => by rw [hother d hne (lt_of_mem_halfPcls hp)])]
        exact hk

-- Maps ----------------------------------------------------------------------------------------------------------------

/-- Maps that are set change no part of the device but the clusters, MAP_VALID and the mark that maps are written. -/
theorem Dev.setMaps_keeps {γ : Type} (p : Dev → γ) (hc : ∀ d (g : Fabric → Tab ClusterSt), p (Dev.onFab d (fun f => { f with clusters := g f })) = p d)
    (hv : ∀ d, p (Dev.onFab d (fun f => { f with mapValid := true })) = p d)
    (hw : ∀ d, p (Dev.onFab d (fun f => { f with mapValid := true, mapWritten := true })) = p d) (d : Dev) (e : Env) : p (d.setMaps e) = p d := by
  unfold Dev.setMaps Dev.freshMaps
  exact ite_keeps p rfl (ite_keeps p (hv d) ((hw _).trans ((foldl_keeps p _ (fun d _ => hc d ..) _ _).trans (foldl_keeps p _ (fun d _ => hc d ..) _ _))))

theorem Dev.setMaps_mapValid (d : Dev) (e : Env) : (d.setMaps e).fab.mapValid = true := by
  unfold Dev.setMaps
  split
  · next h => exact h
  · split <;> rfl

theorem Dev.cluster_writeMap (d : Dev) (c k : ClusterId) (g : ClusterSt → ClusterSt) :
    (d.onFab (fun f => f.writeMap c g)).fab.cluster k = if k = c then { g (d.fab.cluster c) with mapGen := (d.fab.cluster c).mapGen + 1 } else d.fab.cluster k := by
  by_cases h : k = c
  · subst h
    rw [if_pos rfl]
    exact Fabric.cluster_setCluster ..
  · rw [if_neg h]
    exact Fabric.cluster_setCluster_ne _ _ h

/-- Every cluster of the list has its map written once. -/
theorem Dev.cluster_writeMaps (d : Dev) (bad : ClusterId → Fin 17 → Bool) {l : List ClusterId} (hl : l.Nodup) (c : ClusterId) :
    (d.writeMaps bad l).fab.cluster c =
      if c ∈ l then { siteMapFor (bad c) (d.fab.cluster c) with mapGen := (d.fab.cluster c).mapGen + 1 } else d.fab.cluster c := by
  induction l generalizing d with
  | nil => rfl
  | cons k r ih =>
    obtain ⟨hk, hr⟩ := List.nodup_cons.mp hl
    show ((d.onFab (fun f => f.writeMap k (siteMapFor (bad k)))).writeMaps bad r).fab.cluster c = _
    rw [ih _ hr, Dev.cluster_writeMap]
    by_cases hc : c = k
    · subst hc
      rw [if_neg hk, if_pos rfl, if_pos List.mem_cons_self]
    · simp [hc]

/-- Counting mesh lanes keeps what a cluster holds beside them. -/
theorem Dev.countMeshLanes_keeps {γ : Type} (p : ClusterSt → γ) (hp : ∀ c v, p { c with laneFails := v } = p c) (d : Dev)
    (l : List (ClusterId × Nat × Nat)) (c : ClusterId) : p ((d.countMeshLanes l).fab.cluster c) = p (d.fab.cluster c) := by
  refine foldl_keeps (fun d : Dev => p (d.fab.cluster c)) _ (fun d m => ?_) l d
  by_cases h : c = m.1
  · subst h
    exact (congrArg p (Fabric.cluster_setCluster ..)).trans (hp _ _)
  · exact congrArg p (Fabric.cluster_setCluster_ne _ _ h)

/-- A bit of the mask of bad sites. -/
theorem getLsbD_foldl_bad (bad : Fin 17 → Bool) (l : List (Fin 17)) (m : BitVec 17) (j : Fin 17) :
    (l.foldl (fun (m : BitVec 17) i => if bad i then m ||| BitVec.ofNat 17 (2 ^ i.val) else m) m).getLsbD j.val =
      (m.getLsbD j.val || (decide (j ∈ l) && bad j)) := by
  induction l generalizing m with
  | nil => simp
  | cons i r ih =>
    rw [List.foldl_cons, ih]
    have hj := j.isLt
    have hbit : (if bad i then m ||| BitVec.ofNat 17 (2 ^ i.val) else m).getLsbD j.val = (m.getLsbD j.val || (decide (j = i) && bad i)) := by
      split
      · next hb =>
        rw [BitVec.getLsbD_or, BitVec.getLsbD_ofNat, Nat.testBit_two_pow, hb]
        simp [Fin.ext_iff, eq_comm, hj]
      · next hb => simp [hb]
    rw [hbit]
    by_cases hji : j = i
    · subst hji
      cases bad j <;> simp
    · simp [hji]

end Sys2Proof.Machine
end

section
/-! PROOFS. TOPOLOGY_SET, clause by clause (R15, R401, R403). -/

namespace Sys2Proof.Machine
open Sys2Proof

theorem topologySet_idle (s : State) (h : (∀ h : HalfId, s.d.columnsUp h = false) ∨ s.d.lkkRuns = false) :
    Yields .topologySet s (fun u => Becomes s u s.d.bump) :=
  yields_onAll rfl (s.d.bump.setTopology_idle s.env h) (fun _ hu => hu.becomes)

/-- The map that is written: the lowest working sites, the spare, and the bad sites (R15). -/
theorem siteMapFor_fields (bad : Fin 17 → Bool) (s : ClusterSt) :
    (∀ i : Fin 16, (siteMapFor bad s).siteOf[i] = ((List.finRange 17).filter (fun i => !bad i))[i.val]?) ∧
    (siteMapFor bad s).spare = ((List.finRange 17).filter (fun i => !bad i))[16]? ∧
    ∀ i : Fin 17, (siteMapFor bad s).bad.getLsbD i.val = bad i := by
  refine ⟨fun i => ?_, rfl, fun i => ?_⟩
  · simp only [siteMapFor, Fin.getElem_fin, Vector.getElem_ofFn]
  · exact (getLsbD_foldl_bad bad (List.finRange 17) 0 i).trans (by simp)

/-- A cluster after maps have been written where none stood (R15). -/
theorem Dev.setMaps_cluster (d : Dev) (e : Env) (hv : d.fab.mapValid = false) (hw : d.fab.mapWritten = false) (c : ClusterId) :
    let k := (d.setMaps e).fab.cluster c
    let m := siteMapFor (d.leavesOut e c) (d.fab.cluster c)
    k.siteOf = m.siteOf ∧ k.spare = m.spare ∧ k.bad = m.bad ∧ k.mapGen = (d.fab.cluster c).mapGen + 1 := by
  have hf : d.setMaps e = d.freshMaps e := by rw [Dev.setMaps, hv, hw]; rfl
  have hk {γ : Type} (p : ClusterSt → γ) (hp : ∀ c v, p { c with laneFails := v } = p c) :
      p ((d.setMaps e).fab.cluster c) = p { siteMapFor (d.leavesOut e c) (d.fab.cluster c) with mapGen := (d.fab.cluster c).mapGen + 1 } := by
    rw [hf]
    refine (Dev.countMeshLanes_keeps p hp (d.writeMaps (d.leavesOut e) allClusters) e.fuse.meshLanes c).trans ?_
    rw [Dev.cluster_writeMaps _ _ (show allClusters.Nodup from List.nodup_finRange 32), if_pos (show c ∈ allClusters from List.mem_finRange c)]
  exact ⟨hk ClusterSt.siteOf (fun _ _ => rfl), hk ClusterSt.spare (fun _ _ => rfl), hk ClusterSt.bad (fun _ _ => rfl), hk ClusterSt.mapGen (fun _ _ => rfl)⟩

theorem Dev.setMaps_clusters (d : Dev) (e : Env) (h : d.fab.mapValid = true ∨ d.fab.mapWritten = true) :
    (d.setMaps e).fab.clusters = d.fab.clusters := by
  unfold Dev.setMaps
  split
  · rfl
  · next hv => rw [if_pos (h.resolve_left hv)]; rfl

theorem Dev.setMaps_mapWritten (d : Dev) (e : Env) :
    (d.setMaps e).fab.mapWritten = if d.fab.mapValid = true then d.fab.mapWritten else true := by
  unfold Dev.setMaps
  split
  · rfl
  · split
    · next hw => exact hw
    · rfl

theorem mem_firstBanks_of_mem {d : Dev} {h : HalfId} {c : ClusterId}
    (hc : c ∈ (allClusters.filter (fun c => clusterHalf c = h && d.bankSt h (clusterPcl c) == .off)).take 4) : clusterPcl c ∈ d.firstBanks h := by
  have he : d.firstBanks h = ((allClusters.filter (fun c => clusterHalf c = h && d.bankSt h (clusterPcl c) == .off)).take 4).map clusterPcl := by
    rw [Dev.firstBanks, halfPcls, List.filter_map, List.filter_filter, List.map_take]
    refine congrArg (fun l => (List.map clusterPcl l).take 4) (List.filter_congr (fun c _ => ?_))
    simp [Bool.and_comm]
  rw [he]
  exact List.mem_map_of_mem hc

theorem topologySet_yields (s : State) (hup : ∃ h : HalfId, s.d.columnsUp h = true) (hr : s.d.lkkRuns = true) : Yields .topologySet s (fun u =>
    u.d.fab.mapValid = true ∧ u.d.lkk.bootStage = Nat.max 13 s.d.lkk.bootStage ∧ OnlyDevice s u ∧ u.d.fab.sites = s.d.fab.sites ∧
    u.d.fab.cols = s.d.fab.cols ∧ u.d.svc = s.d.svc ∧ (s.d.fab.mapValid = true → u.d.fab.mapWritten = s.d.fab.mapWritten) ∧
    (s.d.fab.mapValid = true ∨ s.d.fab.mapWritten = true → u.d.fab.clusters = s.d.fab.clusters) ∧ (s.d.fab.mapValid = false → u.d.fab.mapWritten = true) ∧
    (s.d.fab.mapValid = false → s.d.fab.mapWritten = false → ∀ c : ClusterId,
      let works := fun i : Fin 17 => decide (siteIxOf c i.val ∉ s.fuse.badSites) && decide (siteIxOf c i.val ∉ s.d.lkk.bad) &&
        decide ((s.d.fab.col (siteIxOf c i.val)).phase ≠ .unusable)
      let l := (List.finRange 17).filter works
      (∀ i : Fin 16, (u.d.fab.cluster c).siteOf[i] = l[i.val]?) ∧ (u.d.fab.cluster c).spare = l[16]? ∧
      (∀ i : Fin 17, (u.d.fab.cluster c).bad.getLsbD i.val = !works i) ∧ (u.d.fab.cluster c).mapGen = (s.d.fab.cluster c).mapGen + 1) ∧
    (∀ h : HalfId, s.d.columnsUp h = true → s.d.pwr.ctl[h] = false → (∀ k, k < 16 → s.d.bankSt h k ≠ .starting) →
      ∀ c ∈ (allClusters.filter (fun c => clusterHalf c = h && s.d.bankSt h (clusterPcl c) == .off)).take 4, u.d.bankSt h (clusterPcl c) = .starting)) := by
  refine yields_onAll rfl (s.d.bump.setTopology_eq s.env hup hr) (fun u hu => ?_)
  have fab {γ : Type} (p : Fabric → γ) (hc : ∀ d : Dev, p d.core.fab = p d.fab) : p u.d.fab = p (s.d.bump.setMaps s.env).fab :=
    (hu.keeps (fun d => p d.fab) hc).trans (Dev.startClusterBanks_keeps (fun d => p d.fab) (fun _ _ _ _ => rfl) _ _)
  have keep {γ : Type} (p : Dev → γ) (hb : ∀ d h b v, p (Dev.setBank d h b v) = p d)
      (hc : ∀ d (g : Fabric → Tab ClusterSt), p (Dev.onFab d (fun f => { f with clusters := g f })) = p d)
      (hv : ∀ d, p (Dev.onFab d (fun f => { f with mapValid := true })) = p d)
      (hw : ∀ d, p (Dev.onFab d (fun f => { f with mapValid := true, mapWritten := true })) = p d) :
      p ((s.d.bump.setMaps s.env).startClusterBanks (bothHalves.filter s.d.bump.columnsUp)) = p s.d.bump :=
    (Dev.startClusterBanks_keeps p hb _ _).trans (Dev.setMaps_keeps p hc hv hw _ _)
  have hclusters : u.d.fab.clusters = (s.d.bump.setMaps s.env).fab.clusters := fab Fabric.clusters (fun _ => rfl)
  have hwritten : u.d.fab.mapWritten = _ := (fab Fabric.mapWritten (fun _ => rfl)).trans (s.d.bump.setMaps_mapWritten s.env)
  refine ⟨(fab Fabric.mapValid (fun _ => rfl)).trans (Dev.setMaps_mapValid _ _), ?_, hu.onlyDevice, ?_, ?_, ?_, fun hv => ?_, fun h => ?_, fun hv => ?_,
    fun hv hw c => ?_, fun h hh hctl hn c hc => ?_⟩
  · refine (hu.keeps (fun d => d.lkk.bootStage) (fun _ => rfl)).trans ?_
    exact congrArg (Nat.max 13) (keep (fun d => d.lkk.bootStage) (fun _ _ _ _ => rfl) (fun _ _ => rfl) (fun _ => rfl) (fun _ => rfl))
  · exact (hu.keeps (fun d => d.fab.sites) (fun _ => rfl)).trans
      (keep (fun d => d.fab.sites) (fun _ _ _ _ => rfl) (fun _ _ => rfl) (fun _ => rfl) (fun _ => rfl))
  · exact (hu.keeps (fun d => d.fab.cols) (fun _ => rfl)).trans
      (keep (fun d => d.fab.cols) (fun _ _ _ _ => rfl) (fun _ _ => rfl) (fun _ => rfl) (fun _ => rfl))
  · exact (hu.keeps Dev.svc (fun _ => rfl)).trans (keep Dev.svc (fun _ _ _ _ => rfl) (fun _ _ => rfl) (fun _ => rfl) (fun _ => rfl))
  · rw [hwritten]
    exact if_pos hv
  · exact hclusters.trans (s.d.bump.setMaps_clusters s.env h)
  · rw [hwritten]
    exact if_neg (by rw [show s.d.bump.fab.mapValid = false from hv]; decide)
  · intro works l
    have hcl : u.d.fab.cluster c = (s.d.bump.setMaps s.env).fab.cluster c := congrArg (fun t => tget t ClusterSt.init c.val) hclusters
    obtain ⟨hsite, hspare, hbad, hgen⟩ := s.d.bump.setMaps_cluster s.env hv hw c
    obtain ⟨mSite, mSpare, mBad⟩ := siteMapFor_fields (s.d.bump.leavesOut s.env c) (s.d.bump.fab.cluster c)
    have hworks (i : Fin 17) : (!s.d.bump.leavesOut s.env c i) = works i := by
      have hb : s.d.bump.leavesOut s.env c i = (s.fuse.badSites.contains (siteIxOf c i.val) || s.d.lkk.bad.contains (siteIxOf c i.val) ||
        (s.d.fab.col (siteIxOf c i.val)).phase == .unusable) := rfl
      rw [hb, Bool.not_or, Bool.not_or]
      simp [works, beq_eq_decide]
    have hl : (List.finRange 17).filter (fun i => !s.d.bump.leavesOut s.env c i) = l := List.filter_congr (fun i _ => hworks i)
    rw [hl] at mSite mSpare
    rw [hcl]
    refine ⟨fun i => ?_, hspare.trans mSpare, fun i => ?_, hgen⟩
    · rw [hsite]
      exact mSite i
    · rw [hbad, mBad, ← hworks, Bool.not_not]
  · have hbank : u.d.bankSt h (clusterPcl c) = ((s.d.bump.setMaps s.env).startClusterBanks (bothHalves.filter s.d.bump.columnsUp)).bankSt h (clusterPcl c) :=
      hu.keeps (fun d => d.bankSt h (clusterPcl c)) (fun _ => rfl)
    have hpwr : (s.d.bump.setMaps s.env).pwr = s.d.pwr := Dev.setMaps_keeps Dev.pwr (fun _ _ => rfl) (fun _ => rfl) (fun _ => rfl) _ _
    have hst (k : Nat) : (s.d.bump.setMaps s.env).bankSt h k = s.d.bankSt h k := congrArg (fun p : PwrSt => tget p.banks .off (20 * h.val + k)) hpwr
    rw [hbank]
    refine Dev.startClusterBanks_bankSt ((by decide : bothHalves.Nodup).filter _) (List.mem_filter.mpr ⟨mem_bothHalves h, hh⟩) _ ?_ (fun k hk => ?_) ?_
    · rw [hpwr]
      exact hctl
    · rw [hst]
      exact hn k hk
    · have hf : (s.d.bump.setMaps s.env).firstBanks h = s.d.firstBanks h := by simp only [Dev.firstBanks, hst]
      rw [hf]
      exact mem_firstBanks_of_mem hc

end Sys2Proof.Machine
end

section
/-! PROOFS. Code for the nodes (R407): broadcasts, checks that are sent again, and the switch to the other bank. -/

namespace Sys2Proof.Machine
open Sys2Proof

-- One node ------------------------------------------------------------------------------------------------------------

/-- Two code banks take an image (R407). -/
theorem CodeBanks.load_takes (b : CodeBanks) (force new : Nat) :
    ∃ c : Nat × Nat, BankTakes b.bank (b.a, b.b) c force new ∧ b.load force new = { b with a := c.1, b := c.2 } := by
  unfold CodeBanks.load BankTakes
  by_cases hb : b.bank = 0
  · by_cases ha : b.a = 0
    · exact ⟨(force, b.b), by simp [hb, ha], by simp [hb, ha]⟩
    · exact ⟨(b.a, new), by simp [hb, ha], by simp [hb, ha]⟩
  · by_cases ha : b.b = 0
    · exact ⟨(b.a, force), by simp [hb, ha], by simp [hb, ha]⟩
    · exact ⟨(new, b.b), by simp [hb, ha], by simp [hb, ha]⟩

theorem Site.loadCode_takes (a : Site) (force new : Nat) : ∃ c, BankTakes a.bank a.code c force new ∧ a.loadCode force new = { a with code := c } := by
  obtain ⟨c, hc, he⟩ := CodeBanks.load_takes { bank := a.bank, a := a.code.1, b := a.code.2 } force new
  refine ⟨c, hc, ?_⟩
  rw [Site.loadCode, he]

theorem tget_tmod {α : Type} [DecidableEq α] (t : Tab α) (d : α) (k : Nat) (f : α → α) : tget (tmod t d k f) d k = f (tget t d k) := tget_tset ..

/-- The device without what code and its checks change. -/
def Dev.codeStem (d : Dev) : Dev :=
  { d with fab := { d.fab with sites := [] }, lkk := { d.lkk with retries := [], chroot := [], rlayer := [] } }

theorem Dev.eq_of_codeStem {a b : Dev} (h : b.codeStem = a.codeStem) :
    b = { a with fab := { a.fab with sites := b.fab.sites }
                 lkk := { a.lkk with retries := b.lkk.retries, chroot := b.lkk.chroot, rlayer := b.lkk.rlayer } } :=
  congrArg (fun c : Dev => { c with
    fab := { c.fab with sites := b.fab.sites }
    lkk := { c.lkk with retries := b.lkk.retries, chroot := b.lkk.chroot, rlayer := b.lkk.rlayer } }) h

theorem Dev.of_codeStem {γ : Type} (p : Dev → γ) (hp : ∀ d : Dev, p d.codeStem = p d) {a b : Dev} (h : b.codeStem = a.codeStem) : p b = p a :=
  (hp b).symm.trans ((congrArg p h).trans (hp a))

theorem Dev.loadNode_codeStem (d : Dev) (n : CodeNodes) (x : SiteIx) : (d.loadNode n x).codeStem = d.codeStem := by
  cases n with
  | tile h => exact ite_keeps Dev.codeStem rfl rfl
  | chroot h => rfl
  | rlayer h => rfl

/-- What the code of the nodes at site x depends on, beside the stem. -/
def Dev.nodeAt (d : Dev) (n : CodeNodes) (x : SiteIx) : Site × Nat × CodeBanks × CodeBanks :=
  (d.fab.site x, tget d.lkk.retries 0 (nodeKey n x.val), tget d.lkk.chroot CodeBanks.init x.val, tget d.lkk.rlayer CodeBanks.init (nodesHalf n).val)

/-- What the images in force and the power of the sites depend on. -/
def Dev.codeBase (d : Dev) : Tab Comp × Tab DomSt := (d.lkk.comps, d.pwr.doms)

/-- Whether a node has taken the image depends on its own code, the images in force and the power of its site alone. -/
theorem nodeTakes_congr {s s' u u' : State} {n : CodeNodes} {x : SiteIx} (h : NodeTakes s u n x) (hs : s'.d.nodeAt n x = s.d.nodeAt n x)
    (hst : s'.d.codeBase = s.d.codeBase) (hu : u'.d.nodeAt n x = u.d.nodeAt n x) : NodeTakes s' u' n x := by
  obtain ⟨hsite, hrest⟩ := Prod.mk.inj hs
  obtain ⟨-, hrest⟩ := Prod.mk.inj hrest
  obtain ⟨hch, hrl⟩ := Prod.mk.inj hrest
  obtain ⟨husite, hrest⟩ := Prod.mk.inj hu
  obtain ⟨-, hrest⟩ := Prod.mk.inj hrest
  obtain ⟨huch, hurl⟩ := Prod.mk.inj hrest
  obtain ⟨hcomps, hdoms⟩ := Prod.mk.inj hst
  have hon : s'.d.siteOn x = s.d.siteOn x := by rw [Dev.siteOn, Dev.siteOn, Dev.dom, Dev.dom, hdoms]
  have hof (k : Nat) : s'.d.codeOf k = s.d.codeOf k := by rw [Dev.codeOf, Dev.codeOf, Dev.comp, Dev.comp, hcomps]
  have hfor (k : Nat) : s'.d.codeFor k = s.d.codeFor k := by rw [Dev.codeFor, Dev.codeFor, Dev.comp, Dev.comp, hcomps]
  cases n with
  | tile g =>
    simp only [NodeTakes] at h ⊢
    rw [hsite, husite, hon, hof, hfor]
    exact h
  | chroot g =>
    simp only [NodeTakes] at h ⊢
    rw [hch, huch, hof, hfor]
    exact h
  | rlayer g =>
    simp only [NodeTakes] at h ⊢
    simp only [nodesHalf] at hrl hurl
    rw [hrl, hurl, hof, hfor]
    exact h

/-- A node that is given the image takes it. -/
theorem nodeTakes_loadNode {s u : State} {n : CodeNodes} {x : SiteIx} (hu : u.d = s.d.loadNode n x) : NodeTakes s u n x := by
  cases n with
  | tile h =>
    refine ⟨fun hoff => ?_, fun hon => ?_⟩
    · rw [hu, Dev.loadNode, if_neg (by simp [hoff])]
    · obtain ⟨c, hc, he⟩ := Site.loadCode_takes (s.d.fab.site x) (s.d.codeOf 6) (s.d.codeFor 6)
      refine ⟨c, hc, ?_⟩
      rw [hu, Dev.loadNode, if_pos hon, ← he]
      exact Fabric.site_setSite ..
  | chroot h =>
    obtain ⟨c, hc, he⟩ := CodeBanks.load_takes (tget s.d.lkk.chroot CodeBanks.init x.val) (s.d.codeOf 8) (s.d.codeFor 8)
    refine ⟨c, hc, ?_⟩
    rw [hu, ← he]
    exact tget_tmod s.d.lkk.chroot CodeBanks.init x.val (fun b => b.load (s.d.codeOf 8) (s.d.codeFor 8))
  | rlayer h =>
    obtain ⟨c, hc, he⟩ := CodeBanks.load_takes (tget s.d.lkk.rlayer CodeBanks.init h.val) (s.d.codeOf 7) (s.d.codeFor 7)
    refine ⟨c, hc, ?_⟩
    rw [hu, ← he]
    exact tget_tmod s.d.lkk.rlayer CodeBanks.init h.val (fun b => b.load (s.d.codeOf 7) (s.d.codeFor 7))

theorem Dev.loadNode_retries (d : Dev) (n : CodeNodes) (x : SiteIx) : (d.loadNode n x).lkk.retries = d.lkk.retries := by
  cases n with
  | tile h => exact ite_keeps (fun d : Dev => d.lkk.retries) rfl rfl
  | chroot h => rfl
  | rlayer h => rfl

theorem Dev.loadNode_site_of_ne (d : Dev) (n : CodeNodes) {x y : SiteIx} (h : y ≠ x) : (d.loadNode n x).fab.site y = d.fab.site y := by
  cases n with
  | tile g => exact ite_keeps (fun d : Dev => d.fab.site y) (Fabric.site_setSite_ne _ _ h) rfl
  | chroot g => rfl
  | rlayer g => rfl

-- Broadcasts ----------------------------------------------------------------------------------------------------------

/-- The nodes that a broadcast addresses. -/
def broadcastNodes : CodeNodes → List SiteIx
  | .rlayer h => [siteOfNat (272 * h.val)]
  | .tile h => allSites.filter (fun x => siteHalf x = h)
  | .chroot h => allSites.filter (fun x => siteHalf x = h)

/-- BOOT_STAGE as a broadcast to the tiles counts it. -/
def codeStage : CodeNodes → Nat → Nat
  | .tile _, k => if 13 ≤ k && k != 0x1F then 15 else k
  | .chroot _, k => k
  | .rlayer _, k => k

/-- One node of a broadcast: it takes the image, or its CHECK fails. -/
def Dev.sendImage (n : CodeNodes) (bad : List SiteIx) (d : Dev) (x : SiteIx) : Dev :=
  if bad.contains x || !d.towUp (nodesHalf n) then d.setLkk (fun k => { k with retries := tput k.retries (nodeKey n x.val) 3 }) else d.loadNode n x

def Dev.sendImages (d : Dev) (n : CodeNodes) (bad : List SiteIx) : Dev := (broadcastNodes n).foldl (Dev.sendImage n bad) d

theorem Dev.broadcast_idle (d : Dev) (n : CodeNodes) (bad : List SiteIx) (h : d.lkkRuns = false ∨ d.lkk.shed = 3) : d.broadcast n bad = d :=
  if_pos (by rcases h with h | h <;> simp [h])

theorem Dev.broadcast_eq (d : Dev) (n : CodeNodes) (bad : List SiteIx) (hr : d.lkkRuns = true) (hs : d.lkk.shed ≠ 3) :
    d.broadcast n bad = (d.setLkk (fun k => { k with bootStage := codeStage n k.bootStage })).sendImages n bad := by
  unfold Dev.broadcast
  rw [if_neg (by simp [hr, hs])]
  cases n <;> rfl

theorem allSites_nodup : allSites.Nodup := by
  unfold allSites
  exact List.nodup_finRange 544

theorem broadcastNodes_nodup (n : CodeNodes) : (broadcastNodes n).Nodup := by
  cases n with
  | tile h => rw [broadcastNodes]; exact allSites_nodup.filter _
  | chroot h => rw [broadcastNodes]; exact allSites_nodup.filter _
  | rlayer h => exact List.nodup_singleton _

theorem nodeKey_inj {n : CodeNodes} {x y : SiteIx} (h : nodeKey n x.val = nodeKey n y.val) : x = y := by
  cases n <;> simp only [nodeKey] at h <;> exact Fin.ext (by omega)

theorem Dev.sendImage_codeStem (n : CodeNodes) (bad : List SiteIx) (d : Dev) (x : SiteIx) : (Dev.sendImage n bad d x).codeStem = d.codeStem :=
  ite_keeps Dev.codeStem rfl (d.loadNode_codeStem n x)

theorem Dev.sendImage_retries_of_ne (n : CodeNodes) (bad : List SiteIx) (d : Dev) {x y : SiteIx} (h : y ≠ x) :
    tget (Dev.sendImage n bad d x).lkk.retries 0 (nodeKey n y.val) = tget d.lkk.retries 0 (nodeKey n y.val) :=
  ite_keeps (fun d : Dev => tget d.lkk.retries 0 (nodeKey n y.val)) (tget_tput_ne _ _ _ (fun e => h (nodeKey_inj e.symm)))
    (by rw [Dev.loadNode_retries])

theorem Dev.sendImage_site_of_ne (n : CodeNodes) (bad : List SiteIx) (d : Dev) {x y : SiteIx} (h : y ≠ x) :
    (Dev.sendImage n bad d x).fab.site y = d.fab.site y :=
  ite_keeps (fun d : Dev => d.fab.site y) rfl (d.loadNode_site_of_ne n h)

/-- A node of a broadcast leaves the code and the retries of its other nodes. -/
theorem Dev.sendImage_nodeAt_of_ne (n : CodeNodes) (bad : List SiteIx) (d : Dev) {x y : SiteIx} (hx : x ∈ broadcastNodes n) (hy : y ∈ broadcastNodes n)
    (h : y ≠ x) : (Dev.sendImage n bad d x).nodeAt n y = d.nodeAt n y := by
  refine Prod.ext (Dev.sendImage_site_of_ne n bad d h) (Prod.ext (Dev.sendImage_retries_of_ne n bad d h) (Prod.ext ?_ ?_))
  · refine ite_keeps (fun d : Dev => tget d.lkk.chroot CodeBanks.init y.val) rfl ?_
    cases n with
    | tile g => exact ite_keeps (fun d : Dev => tget d.lkk.chroot CodeBanks.init y.val) rfl rfl
    | chroot g => exact tget_tset_ne _ _ _ (fun e => h (Fin.ext e.symm))
    | rlayer g => rfl
  · refine ite_keeps (fun d : Dev => tget d.lkk.rlayer CodeBanks.init (nodesHalf n).val) rfl ?_
    cases n with
    | tile g => exact ite_keeps (fun d : Dev => tget d.lkk.rlayer CodeBanks.init g.val) rfl rfl
    | chroot g => rfl
    | rlayer g => exact absurd ((List.mem_singleton.mp hy).trans (List.mem_singleton.mp hx).symm) h

/-- In a list of nodes done in turn each is done once: from a device in which it is as at the start, and it stays as it is then. -/
theorem exists_step_of_mem {α β ρ γ : Type} {g : α → β → α} {rd : α → β → ρ} {stem : α → γ} {l : List β} (hl : l.Nodup)
    (hother : ∀ a, ∀ x ∈ l, ∀ y ∈ l, y ≠ x → rd (g a x) y = rd a y) (hstem : ∀ a x, stem (g a x) = stem a) (a : α) {x : β} (hx : x ∈ l) :
    ∃ b, rd b x = rd a x ∧ stem b = stem a ∧ rd (l.foldl g a) x = rd (g b x) x := by
  obtain ⟨l₁, l₂, rfl⟩ := List.append_of_mem hx
  have hd := List.nodup_append.mp hl
  obtain ⟨-, hcons, hdis⟩ := hd
  have hx₂ := (List.nodup_cons.mp hcons).1
  refine ⟨l₁.foldl g a, ?_, foldl_keeps stem g hstem l₁ a, ?_⟩
  · exact foldl_preserves_of_mem (P := fun b => rd b x = rd a x) (fun b y hy hb =>
      (hother b y (List.mem_append_left _ hy) x hx (fun e => hdis y hy x List.mem_cons_self e.symm)).trans hb) rfl
  · rw [List.foldl_append, List.foldl_cons]
    exact foldl_preserves_of_mem (P := fun b => rd b x = rd (g (l₁.foldl g a) x) x) (fun b y hy hb =>
      (hother b y (List.mem_append_right _ (List.mem_cons_of_mem _ hy)) x hx (fun e => hx₂ (e ▸ hy))).trans hb) rfl

theorem Dev.sendImages_codeStem (d : Dev) (n : CodeNodes) (bad : List SiteIx) : (d.sendImages n bad).codeStem = d.codeStem :=
  foldl_keeps Dev.codeStem _ (Dev.sendImage_codeStem n bad) _ d

/-- A node that the broadcast does not address is as before. -/
theorem Dev.sendImages_of_not_mem (d : Dev) (n : CodeNodes) (bad : List SiteIx) {x : SiteIx} (hx : x ∉ broadcastNodes n) :
    (d.sendImages n bad).fab.site x = d.fab.site x ∧
    tget (d.sendImages n bad).lkk.retries 0 (nodeKey n x.val) = tget d.lkk.retries 0 (nodeKey n x.val) :=
  foldl_preserves_of_mem (P := fun g : Dev => g.fab.site x = d.fab.site x ∧ tget g.lkk.retries 0 (nodeKey n x.val) = tget d.lkk.retries 0 (nodeKey n x.val))
    (fun g y hy hg => ⟨(Dev.sendImage_site_of_ne n bad g (fun e => hx (by rw [e]; exact hy))).trans hg.1,
      (Dev.sendImage_retries_of_ne n bad g (fun e => hx (by rw [e]; exact hy))).trans hg.2⟩) ⟨rfl, rfl⟩

theorem Dev.exists_sendImage (d : Dev) (n : CodeNodes) (bad : List SiteIx) {x : SiteIx} (hx : x ∈ broadcastNodes n) :
    ∃ b : Dev, b.nodeAt n x = d.nodeAt n x ∧ b.codeStem = d.codeStem ∧ (d.sendImages n bad).nodeAt n x = (Dev.sendImage n bad b x).nodeAt n x :=
  exists_step_of_mem (rd := fun d x => Dev.nodeAt d n x) (broadcastNodes_nodup n)
    (fun a _ hx _ hy h => Dev.sendImage_nodeAt_of_ne n bad a hx hy h) (Dev.sendImage_codeStem n bad) d hx

theorem towUp_of_codeStem {a b : Dev} (h : b.codeStem = a.codeStem) (g : HalfId) : b.towUp g = a.towUp g :=
  Dev.of_codeStem (fun d => d.towUp g) (fun _ => rfl) h

/-- An addressed node that answers takes the image. -/
theorem sendImages_takes {s u : State} {n : CodeNodes} {bad : List SiteIx} {x : SiteIx} (hu : u.d = s.d.sendImages n bad) (hx : x ∈ broadcastNodes n)
    (hb : x ∉ bad) (ht : s.d.towUp (nodesHalf n) = true) :
    NodeTakes s u n x ∧ tget u.d.lkk.retries 0 (nodeKey n x.val) = tget s.d.lkk.retries 0 (nodeKey n x.val) := by
  obtain ⟨b, hb1, hb2, hb3⟩ := s.d.exists_sendImage n bad hx
  have hstep : Dev.sendImage n bad b x = b.loadNode n x := if_neg (by rw [towUp_of_codeStem hb2, ht]; simp [hb])
  rw [hstep] at hb3
  refine ⟨nodeTakes_congr (s := { s with d := b }) (u := { u with d := b.loadNode n x }) (nodeTakes_loadNode rfl) hb1.symm
    (Dev.of_codeStem Dev.codeBase (fun _ => rfl) hb2.symm) (by rw [hu]; exact hb3), ?_⟩
  have h3 := congrArg (fun q : Site × Nat × CodeBanks × CodeBanks => q.2.1) hb3
  have h1 := congrArg (fun q : Site × Nat × CodeBanks × CodeBanks => q.2.1) hb1
  simp only [Dev.nodeAt, Dev.loadNode_retries] at h3 h1
  rw [hu, h3, h1]

/-- An addressed node that does not answer is to be sent the image three times more. -/
theorem sendImages_fails {s u : State} {n : CodeNodes} {bad : List SiteIx} {x : SiteIx} (hu : u.d = s.d.sendImages n bad) (hx : x ∈ broadcastNodes n)
    (h : x ∈ bad ∨ s.d.towUp (nodesHalf n) = false) :
    tget u.d.lkk.retries 0 (nodeKey n x.val) = 3 ∧ u.d.fab.site x = s.d.fab.site x := by
  obtain ⟨b, hb1, hb2, hb3⟩ := s.d.exists_sendImage n bad hx
  have hstep : Dev.sendImage n bad b x = b.setLkk (fun k => { k with retries := tput k.retries (nodeKey n x.val) 3 }) :=
    if_pos (by rw [towUp_of_codeStem hb2]; rcases h with h | h <;> simp [h])
  rw [hstep] at hb3
  have hr := congrArg (fun q : Site × Nat × CodeBanks × CodeBanks => q.2.1) hb3
  have hs := congrArg (fun q : Site × Nat × CodeBanks × CodeBanks => q.1) hb3
  have h1 := congrArg (fun q : Site × Nat × CodeBanks × CodeBanks => q.1) hb1
  rw [hu]
  exact ⟨hr.trans (tget_tput ..), hs.trans h1⟩

end Sys2Proof.Machine
end

section
/-! PROOFS. MICROCODE_BROADCAST, CHECK_TIMEOUT and CODE_SWITCH, clause by clause (R407). -/

namespace Sys2Proof.Machine
open Sys2Proof

-- MICROCODE_BROADCAST -------------------------------------------------------------------------------------------------

theorem microcodeBroadcast_idle (s : State) (n : CodeNodes) (bad : List SiteIx) (h : s.d.lkkRuns = false ∨ s.d.lkk.shed = 3) :
    Yields (.microcodeBroadcast n bad) s (fun u => u = s.bump) :=
  yields_onDev rfl (s.d.bump.broadcast_idle n bad h) rfl

theorem microcodeBroadcast_yields (s : State) (n : CodeNodes) (bad : List SiteIx) (hr : s.d.lkkRuns = true) (hs : s.d.lkk.shed ≠ 3) :
    Yields (.microcodeBroadcast n bad) s (fun u =>
      (∀ x ∈ broadcastNodes n, x ∉ bad → s.d.towUp (nodesHalf n) = true → NodeTakes s u n x ∧
        tget u.d.lkk.retries 0 (nodeKey n x.val) = tget s.d.lkk.retries 0 (nodeKey n x.val)) ∧
      (∀ x ∈ broadcastNodes n, x ∈ bad ∨ s.d.towUp (nodesHalf n) = false → tget u.d.lkk.retries 0 (nodeKey n x.val) = 3 ∧ u.d.fab.site x = s.d.fab.site x) ∧
      (∀ x, x ∉ broadcastNodes n → u.d.fab.site x = s.d.fab.site x ∧ tget u.d.lkk.retries 0 (nodeKey n x.val) = tget s.d.lkk.retries 0 (nodeKey n x.val)) ∧
      u = { s.bump with d := { s.d.bump with
        fab := { s.d.bump.fab with sites := u.d.fab.sites }
        lkk := { s.d.lkk with
          retries := u.d.lkk.retries, chroot := u.d.lkk.chroot, rlayer := u.d.lkk.rlayer, bootStage := codeStage n s.d.lkk.bootStage } } }) := by
  refine yields_onDev rfl (s.d.bump.broadcast_eq n bad hr hs) ?_
  set d := s.d.bump.setLkk (fun k => { k with bootStage := codeStage n k.bootStage }) with hd
  refine ⟨fun x hx hb ht => ?_, fun x hx h => sendImages_fails (s := { s with d := d }) rfl hx h, fun x hx => d.sendImages_of_not_mem n bad hx, ?_⟩
  · obtain ⟨hn, hret⟩ := sendImages_takes (s := { s with d := d }) (u := { s.bump with d := d.sendImages n bad }) rfl hx hb ht
    exact ⟨nodeTakes_congr (s' := s) (u' := { s.bump with d := d.sendImages n bad }) hn rfl rfl rfl, hret⟩
  · exact congrArg (fun d => ({ s.bump with d := d } : State)) (Dev.eq_of_codeStem (d.sendImages_codeStem n bad))

-- CHECK_TIMEOUT -------------------------------------------------------------------------------------------------------

theorem checkTimeout_idle (s : State) (n : CodeNodes) (x : SiteIx) (ok : Bool)
    (h : tget s.d.lkk.retries 0 (nodeKey n x.val) = 0 ∨ s.d.lkkRuns = false) : Yields (.checkTimeout n x ok) s (fun u => Becomes s u s.d.bump) := by
  have hd : s.d.bump.checkAgain s.env n x (ok && s.d.bump.towUp (nodesHalf n)) = s.d.bump := by
    refine if_pos ?_
    rcases h with h | h
    · rw [show tget s.d.bump.lkk.retries 0 (nodeKey n x.val) = 0 from h]; rfl
    · rw [show s.d.bump.lkkRuns = false from h]; simp
  exact yields_onAll rfl hd (fun _ hu => hu.becomes)

theorem Dev.checkAgain_ok (d : Dev) (e : Env) (n : CodeNodes) (x : SiteIx) (hl : tget d.lkk.retries 0 (nodeKey n x.val) ≠ 0) (hr : d.lkkRuns = true) :
    d.checkAgain e n x true = (d.loadNode n x).setLkk (fun k => { k with retries := tdel k.retries (nodeKey n x.val) }) := by
  rw [Dev.checkAgain, if_neg (by simp [hl, hr]), if_pos rfl]

theorem Dev.checkAgain_fails (d : Dev) (e : Env) (n : CodeNodes) (x : SiteIx) (hl : tget d.lkk.retries 0 (nodeKey n x.val) ≠ 0) (hr : d.lkkRuns = true) :
    let g := d.setLkk (fun k => { k with retries := tset k.retries 0 (nodeKey n x.val) (tget d.lkk.retries 0 (nodeKey n x.val) - 1) })
    d.checkAgain e n x false =
      if tget d.lkk.retries 0 (nodeKey n x.val) = 1 then g.onFab (fun f => f.report e 0x0103 (.site x) (f.freeNat 5) 0) else g := by
  dsimp only
  rw [Dev.checkAgain, if_neg (by simp [hl, hr]), if_neg (by decide)]

theorem checkTimeout_takes (s : State) (n : CodeNodes) (x : SiteIx) (ok : Bool) (hl : tget s.d.lkk.retries 0 (nodeKey n x.val) ≠ 0)
    (hr : s.d.lkkRuns = true) (hok : ok = true) (ht : s.d.towUp (nodesHalf n) = true) : Yields (.checkTimeout n x ok) s (fun u => NodeTakes s u n x ∧
      tget u.d.lkk.retries 0 (nodeKey n x.val) = 0 ∧ u.d.fab.reports = s.d.fab.reports ∧ (∀ y : SiteIx, y ≠ x → u.d.fab.site y = s.d.fab.site y) ∧
      OnlyDevice s u) := by
  have hd : s.d.bump.checkAgain s.env n x (ok && s.d.bump.towUp (nodesHalf n)) =
      (s.d.bump.loadNode n x).setLkk (fun k => { k with retries := tdel k.retries (nodeKey n x.val) }) := by
    rw [hok, show s.d.bump.towUp (nodesHalf n) = true from ht]
    exact s.d.bump.checkAgain_ok s.env n x hl hr
  refine yields_onAll rfl hd (fun u hu => ⟨?_, ?_, ?_, fun y hy => ?_, hu.onlyDevice⟩)
  · have hn := nodeTakes_loadNode (s := s.bump) (u := { s with d := s.d.bump.loadNode n x }) (n := n) (x := x) rfl
    have hsite : u.d.fab.site x = (s.d.bump.loadNode n x).fab.site x := hu.keeps (fun d => d.fab.site x) (fun _ => rfl)
    have hch : u.d.lkk.chroot = (s.d.bump.loadNode n x).lkk.chroot := hu.keeps (fun d => d.lkk.chroot) (fun _ => rfl)
    have hrl : u.d.lkk.rlayer = (s.d.bump.loadNode n x).lkk.rlayer := hu.keeps (fun d => d.lkk.rlayer) (fun _ => rfl)
    cases n with
    | tile h => simp only [NodeTakes] at hn ⊢; rw [hsite]; exact hn
    | chroot h => simp only [NodeTakes] at hn ⊢; rw [hch]; exact hn
    | rlayer h => simp only [NodeTakes] at hn ⊢; rw [hrl]; exact hn
  · rw [show u.d.lkk.retries = tdel (s.d.bump.loadNode n x).lkk.retries (nodeKey n x.val) from hu.keeps (fun d => d.lkk.retries) (fun _ => rfl)]
    exact tget_tdel ..
  · exact (hu.keeps (fun d => d.fab.reports) (fun _ => rfl)).trans
      (Dev.of_codeStem (a := s.d.bump) (b := s.d.bump.loadNode n x) (fun d => d.fab.reports) (fun _ => rfl) (s.d.bump.loadNode_codeStem n x))
  · exact (hu.keeps (fun d => d.fab.site y) (fun _ => rfl)).trans (s.d.bump.loadNode_site_of_ne n hy)

theorem checkTimeout_fails (s : State) (n : CodeNodes) (x : SiteIx) (ok : Bool) (hl : tget s.d.lkk.retries 0 (nodeKey n x.val) ≠ 0)
    (hr : s.d.lkkRuns = true) (h : ok = false ∨ s.d.towUp (nodesHalf n) = false) : let left := tget s.d.lkk.retries 0 (nodeKey n x.val)
    Yields (.checkTimeout n x ok) s (fun u => tget u.d.lkk.retries 0 (nodeKey n x.val) = left - 1 ∧
      u.d.fab.sites = s.d.fab.sites ∧ OnlyDevice s u ∧ (left = 1 → Tells s u 0x0103 (.site x)) ∧ (left ≠ 1 → u.d.fab.reports = s.d.fab.reports)) := by
  intro left
  have hno : (ok && s.d.bump.towUp (nodesHalf n)) = false := by
    rcases h with h | h
    · rw [h]; rfl
    · rw [show s.d.bump.towUp (nodesHalf n) = false from h, Bool.and_false]
  have hd := s.d.bump.checkAgain_fails s.env n x hl hr
  rw [← hno] at hd
  refine yields_onAll rfl hd (fun u hu => ⟨?_, ?_, hu.onlyDevice, fun h1 => ?_, fun h1 => ?_⟩)
  · refine (hu.keeps (fun d => tget d.lkk.retries 0 (nodeKey n x.val)) (fun _ => rfl)).trans ?_
    exact ite_keeps (fun d : Dev => tget d.lkk.retries 0 (nodeKey n x.val)) (tget_tset ..) (tget_tset ..)
  · refine (hu.keeps (fun d => d.fab.sites) (fun _ => rfl)).trans ?_
    exact ite_keeps (fun d : Dev => d.fab.sites) rfl rfl
  · rw [if_pos (show tget s.d.bump.lkk.retries 0 (nodeKey n x.val) = 1 from h1)] at hu
    refine ⟨[], [], { code := 0x0103, suspect := .site x, d1 := s.d.bump.fab.freeNat 5, d2 := 0, ctx := none, action := 0, time := nowNs s.time },
      ?_, rfl, rfl⟩
    rw [List.append_nil]
    exact hu.keeps (fun d => d.fab.reports) (fun _ => rfl)
  · rw [if_neg (show ¬ tget s.d.bump.lkk.retries 0 (nodeKey n x.val) = 1 from h1)] at hu
    exact hu.keeps (fun d => d.fab.reports) (fun _ => rfl)

-- CODE_SWITCH ---------------------------------------------------------------------------------------------------------

theorem codeSwitch_idle (s : State) (n : CodeNodes) (x : SiteIx) (h : s.d.towUp (nodesHalf n) = false) :
    Yields (.codeSwitch n x) s (fun u => Becomes s u s.d.bump) :=
  yields_onAll rfl (if_neg (by rw [show s.d.bump.towUp (nodesHalf n) = false from h]; decide) :
    (if s.d.bump.towUp (nodesHalf n) then s.d.bump.switchCode n x else s.d.bump) = s.d.bump) (fun _ hu => hu.becomes)

/-- Two code banks after a SWITCH packet. -/
def CodeBanks.switched (b : CodeBanks) : CodeBanks := if (if b.bank = 0 then b.b else b.a) = 0 then b else { b with bank := 1 - b.bank }

theorem CodeBanks.switches_switched (b : CodeBanks) : Switches b b.switched := ⟨fun h => if_pos h, fun h => if_neg h⟩

/-- A switch changes the code of the nodes at its own site alone. -/
theorem Dev.switchCode_codeStem (d : Dev) (n : CodeNodes) (x : SiteIx) : (d.switchCode n x).codeStem = d.codeStem := by
  cases n with
  | tile h => exact ite_keeps (fun f : Fabric => ({ d with fab := f } : Dev).codeStem) rfl rfl
  | chroot h => rfl
  | rlayer h => rfl

theorem Dev.switchCode_site_of_ne (d : Dev) (n : CodeNodes) {x y : SiteIx} (h : y ≠ x) : (d.switchCode n x).fab.site y = d.fab.site y := by
  cases n with
  | tile g => exact ite_keeps (fun f : Fabric => f.site y) rfl (Fabric.site_setSite_ne _ _ h)
  | chroot g => rfl
  | rlayer g => rfl

/-- A node that code can reach switches (R407). -/
theorem codeSwitch_of {s : State} {n : CodeNodes} {x : SiteIx} {P : State → Prop} (ht : s.d.towUp (nodesHalf n) = true)
    (hp : ∀ u : State, u.d.fab.sites = (s.d.bump.switchCode n x).fab.sites → u.d.lkk.chroot = (s.d.bump.switchCode n x).lkk.chroot →
      u.d.lkk.rlayer = (s.d.bump.switchCode n x).lkk.rlayer → P u) :
    Yields (.codeSwitch n x) s (fun u => OnlyDevice s u ∧ u.d.fab.reports = s.d.fab.reports ∧ u.d.svc = s.d.svc ∧
      (∀ y : SiteIx, y ≠ x → u.d.fab.site y = s.d.fab.site y) ∧ P u) := by
  refine yields_onAll rfl (if_pos ht : (if s.d.bump.towUp (nodesHalf n) then s.d.bump.switchCode n x else s.d.bump) = s.d.bump.switchCode n x)
    (fun u hu => ⟨hu.onlyDevice, ?_, ?_, fun y hy => ?_, ?_⟩)
  · exact (hu.keeps (fun d => d.fab.reports) (fun _ => rfl)).trans
      (Dev.of_codeStem (a := s.d.bump) (b := s.d.bump.switchCode n x) (fun d => d.fab.reports) (fun _ => rfl) (s.d.bump.switchCode_codeStem n x))
  · exact (hu.keeps Dev.svc (fun _ => rfl)).trans (Dev.of_codeStem (a := s.d.bump) (b := s.d.bump.switchCode n x) Dev.svc (fun _ => rfl)
      (s.d.bump.switchCode_codeStem n x))
  · exact (hu.keeps (fun d => d.fab.site y) (fun _ => rfl)).trans (s.d.bump.switchCode_site_of_ne n hy)
  · exact hp u (hu.keeps (fun d => d.fab.sites) (fun _ => rfl)) (hu.keeps (fun d => d.lkk.chroot) (fun _ => rfl))
      (hu.keeps (fun d => d.lkk.rlayer) (fun _ => rfl))

theorem Dev.switchCode_tile_site (d : Dev) (h : HalfId) (x : SiteIx) : let a := d.fab.site x
    (d.switchCode (.tile h) x).fab.site x = if (if a.bank = 0 then a.code.2 else a.code.1) = 0 then a else { a with bank := 1 - a.bank } := by
  intro a
  by_cases hc : (if a.bank = 0 then a.code.2 else a.code.1) = 0
  · rw [if_pos hc]
    exact congrArg (fun f : Fabric => f.site x) (if_pos hc)
  · rw [if_neg hc]
    exact (congrArg (fun f : Fabric => f.site x) (if_neg hc)).trans (Fabric.site_setSite ..)

end Sys2Proof.Machine
end

section
/-! PROOFS. Towpath writes of peers, repair entries, lanes, limits, routes and setpoints (R290, R336, R337, R469, R470, R471). -/

namespace Sys2Proof.Machine
open Sys2Proof

-- The rule of a Towpath write -----------------------------------------------------------------------------------------

section
variable {c : Instr} {s : State} {g : Env → Dev → Dev} {h : HalfId} {powered taken : Bool} {act : Dev → Dev}
  (hc : exec c s = .next (s.onDev g)) (hg : g s.env s.d.bump = s.d.bump.towWrite h powered taken act)
include hc hg

/-- A write that reaches no node, or one without its rail (R290, R469). -/
theorem towpath_of_onDev {rail : Prop} (hr : powered = true ↔ rail) : Towpath c s h rail := by
  refine ⟨fun ht => yields_onDev hc (hg.trans (if_pos (by rw [show s.d.bump.towUp h = false from ht]; rfl))) rfl, fun ht hn => ?_⟩
  refine yields_onDev hc (hg.trans ?_) rfl
  rw [Dev.towWrite, show s.d.bump.towUp h = true from ht, Bool.eq_false_iff.mpr (fun hp => hn (hr.mp hp))]
  rfl

theorem discarded_of_onDev (ht : s.d.towUp h = true) (hp : powered = true) (hk : taken = false) : Yields c s (fun u => Discarded s u) := by
  refine yields_onDev hc (hg.trans ?_) rfl
  rw [Dev.towWrite, show s.d.bump.towUp h = true from ht, hp, hk]
  rfl

omit hc in
theorem towWrite_done (ht : s.d.towUp h = true) (hp : powered = true) (hk : taken = true) :
    g s.env s.d.bump = (act s.d.bump).send (.towpath 0) := by
  rw [hg, Dev.towWrite, show s.d.bump.towUp h = true from ht, hp, hk]
  rfl

theorem done_of_onDev {d : Dev} (ht : s.d.towUp h = true) (hp : powered = true) (hk : taken = true) (hd : act s.d.bump = d) :
    Yields c s (fun u => Done s u d) :=
  yields_onDev hc ((towWrite_done hg ht hp hk).trans (congrArg (fun d : Dev => d.send (.towpath 0)) hd)) rfl

end

theorem bank_up_iff (d : Dev) (h : HalfId) : (d.bankSt h 16 == .up) = true ↔ d.bankSt h 16 = .up := beq_iff_eq

-- PEER ----------------------------------------------------------------------------------------------------------------

theorem peerTableWrite_yields (s : State) (x : SiteIx) (w : Fin 128) (v : Word) :
    Towpath (.peerTableWrite x w v) s (siteHalf x) (s.d.siteOn x = true) ∧
    (s.d.towUp (siteHalf x) = true → s.d.siteOn x = true → Yields (.peerTableWrite x w v) s (fun u => ∃ p : Vector (BitVec 16) 256,
      Done s u { s.d.bump with fab := s.d.bump.fab.setSite x { s.d.fab.site x with peers := p } } ∧
      ∀ i : Fin 256, p[i] = if i.val = 2 * w.val then v.setWidth 16 &&& 0x81FF else if i.val = 2 * w.val + 1 then (v >>> 16).setWidth 16 &&& 0x81FF
        else (s.d.fab.site x).peers[i])) := by
  refine ⟨towpath_of_onDev rfl rfl Iff.rfl, fun ht hon => ?_⟩
  obtain ⟨u, hu, hd⟩ := done_of_onDev (c := .peerTableWrite x w v) (s := s) rfl rfl ht hon rfl rfl
  refine ⟨u, hu, _, hd, fun i => ?_⟩
  simp only [Fin.getElem_fin, Vector.getElem_set]
  by_cases h0 : i.val = 2 * w.val
  · rw [if_neg (by omega), if_pos h0.symm, if_pos h0]
  · by_cases h1 : i.val = 2 * w.val + 1
    · rw [if_pos h1.symm, if_neg h0, if_pos h1]
    · rw [if_neg (Ne.symm h1), if_neg (Ne.symm h0), if_neg h0, if_neg h1]
      rfl

-- Repair entries ------------------------------------------------------------------------------------------------------

theorem Column.takeSpare_rowRep (c : Column) (k : Nat) : (c.takeSpare k).rowRep = c.rowRep := by
  unfold Column.takeSpare
  exact ite_keeps Column.rowRep rfl rfl

/-- An entry whose VALID is 1 does not change (R471). -/
theorem repairEntry_discarded (s : State) (x : SiteIx) (e : RepairEntry) (v : Word) (ht : s.d.towUp (siteHalf x) = true)
    (hp : s.d.bankSt (siteHalf x) 16 = .up) (hf : s.d.repairFree x e = false) : Yields (.repairEntryWrite x e v) s (fun u => Discarded s u) :=
  discarded_of_onDev rfl rfl ht ((bank_up_iff ..).mpr hp) hf

theorem repairEntry_done (s : State) (x : SiteIx) (e : RepairEntry) (v : Word) (ht : s.d.towUp (siteHalf x) = true)
    (hp : s.d.bankSt (siteHalf x) 16 = .up) (hf : s.d.repairFree x e = true) {d : Dev} (hd : s.d.bump.writeRepair s.env x e v = d) :
    Yields (.repairEntryWrite x e v) s (fun u => Done s u d) :=
  done_of_onDev rfl rfl ht ((bank_up_iff ..).mpr hp) hf hd

theorem rowEntry_done (s : State) (x : SiteIx) (b : Fin 128) (i : Fin 32) (v : Word) (ht : s.d.towUp (siteHalf x) = true)
    (hp : s.d.bankSt (siteHalf x) 16 = .up) (hf : (tget (s.d.fab.col x).rowRep 0 (32 * b.val + i.val)).getLsbD 31 = false) :
    Yields (.repairEntryWrite x (.row b i) v) s (fun u => ∃ t,
      let r := if v.getLsbD 31 = true then (s.d.fab.col x).takeSpare (32 * b.val + fld v.toNat 16 12) else s.d.fab.col x
      DoneCol s u x { r with rowRep := t } ∧ tget t 0 (32 * b.val + i.val) = v &&& 0xC001FFFF ∧
      ∀ j, j ≠ 32 * b.val + i.val → tget t 0 j = tget (s.d.fab.col x).rowRep 0 j) := by
  obtain ⟨u, hu, hd⟩ := repairEntry_done s x (.row b i) v ht hp (by rw [Dev.repairFree, hf]; rfl)
    (if_neg (Bool.eq_false_iff.mp hf))
  have hr : (if v.getLsbD 31 = true then (s.d.fab.col x).takeSpare (32 * b.val + fld v.toNat 16 12) else s.d.fab.col x).rowRep = (s.d.fab.col x).rowRep :=
    ite_keeps Column.rowRep (Column.takeSpare_rowRep ..) rfl
  refine ⟨u, hu, _, hd, tget_tset .., fun j hj => ?_⟩
  refine (tget_tset_ne _ _ _ (Ne.symm hj)).trans ?_
  exact congrArg (fun t => tget t 0 j) hr

theorem colEntry_done (s : State) (x : SiteIx) (b : Fin 128) (i : Fin 8) (v : Word) (ht : s.d.towUp (siteHalf x) = true)
    (hp : s.d.bankSt (siteHalf x) 16 = .up) (hf : (tget (s.d.fab.col x).colRep 0 (8 * b.val + i.val)).getLsbD 31 = false) :
    Yields (.repairEntryWrite x (.col b i) v) s (fun u => ∃ t, DoneCol s u x { s.d.fab.col x with colRep := t } ∧
      tget t 0 (8 * b.val + i.val) = v &&& 0xC0003FFF ∧ ∀ j, j ≠ 8 * b.val + i.val → tget t 0 j = tget (s.d.fab.col x).colRep 0 j) := by
  obtain ⟨u, hu, hd⟩ := repairEntry_done s x (.col b i) v ht hp (by rw [Dev.repairFree, hf]; rfl)
    (if_neg (Bool.eq_false_iff.mp hf))
  exact ⟨u, hu, _, hd, tget_tset .., fun j hj => tget_tset_ne _ _ _ (Ne.symm hj)⟩

/-- A write to the DEAD list: it has room where its entry is free, so nothing is reported. -/
theorem Dev.writeRepair_dead (d : Dev) (e : Env) (x : SiteIx) (i : Fin 64) (v : Word) (hf : (d.fab.col x).deadLanes.length ≤ i.val)
    (hv : v.getLsbD 31 = true) : let g := fld v.toNat 10 3 % 144
    let l := (d.fab.col x).lane (fld v.toNat 2 0) g
    d.writeRepair e x (.dead i) v = { d with fab := d.fab.setCol x ((d.fab.col x).setLane (fld v.toNat 2 0) g
      { l with dead := l.dead ++ [64 * g + fld v.toNat 17 11] }) } := by
  have hlt : ¬ i.val < (d.fab.col x).deadLanes.length := Nat.not_lt.mpr hf
  have hroom : ¬ 64 ≤ (d.fab.col x).deadLanes.length := by omega
  dsimp only [Dev.writeRepair]
  rw [if_neg (by simp [hlt, hv]), if_neg (by simpa using hroom)]
  rfl

theorem Dev.writeRepair_dead_invalid (d : Dev) (e : Env) (x : SiteIx) (i : Fin 64) (v : Word) (hv : v.getLsbD 31 = false) :
    d.writeRepair e x (.dead i) v = d := if_pos (by rw [hv]; simp)

-- LANE, FLIM, ROUTE and VSET ------------------------------------------------------------------------------------------

theorem bit_toNat (v : Word) (i : Nat) : bit v.toNat i = v.getLsbD i := by
  rw [bit, BitVec.getLsbD, Nat.testBit_eq_decide_div_mod_eq]
  rfl

theorem b2n_bit (v : Word) (i : Nat) : b2n (bit v.toNat i) = if v.getLsbD i then 1 else 0 := by rw [bit_toNat, b2n]

theorem laneWrite_yields (s : State) (x : SiteIx) (b : Fin 8) (g : Fin 144) (v : Word) :
    Towpath (.laneWrite x b g v) s (siteHalf x) (s.d.bankSt (siteHalf x) 16 = .up) ∧
    (s.d.towUp (siteHalf x) = true ∧ s.d.bankSt (siteHalf x) 16 = .up → Yields (.laneWrite x b g v) s (fun u =>
      DoneCol s u x ((s.d.fab.col x).setLane b.val g.val { (s.d.fab.col x).lane b.val g.val with
        shifted := ([fld v.toNat 6 0, fld v.toNat 14 8].filter (fun l => l ≠ 0x7F)).map (fun l => 64 * g.val + l)
        sparesBad := (if v.getLsbD 16 then 1 else 0) + (if v.getLsbD 17 then 1 else 0) }))) := by
  refine ⟨towpath_of_onDev rfl rfl (bank_up_iff ..), fun ⟨ht, hp⟩ => ?_⟩
  rw [← b2n_bit, ← b2n_bit]
  exact done_of_onDev rfl rfl ht ((bank_up_iff ..).mpr hp) rfl rfl

theorem flimWrite_yields (s : State) (x : SiteIx) (v : Word) :
    Towpath (.flimWrite x v) s (siteHalf x) (s.d.bankSt (siteHalf x) 16 = .up) ∧
    (s.d.towUp (siteHalf x) = true ∧ s.d.bankSt (siteHalf x) 16 = .up → Yields (.flimWrite x v) s (fun u => Done s u { s.d.bump with
      fab := s.d.bump.fab.setSite x { s.d.fab.site x with flim := Nat.min (Nat.max 10 v.toNat) (Nat.min (s.d.ceilOf s.env x) s.env.maxCadence) } })) :=
  ⟨towpath_of_onDev rfl rfl (bank_up_iff ..), fun ⟨ht, hp⟩ => done_of_onDev rfl rfl ht ((bank_up_iff ..).mpr hp) rfl rfl⟩

theorem routeWrite_yields (s : State) (c : ClusterId) (v : Word) :
    Towpath (.routeWrite c v) s (clusterHalf c) (s.d.bankSt (clusterHalf c) 16 = .up) ∧
    (s.d.towUp (clusterHalf c) = true ∧ s.d.bankSt (clusterHalf c) 16 = .up → Yields (.routeWrite c v) s (fun u => Done s u { s.d.bump with
      fab := s.d.bump.fab.setCluster c { s.d.fab.cluster c with columnFirst := v.getLsbD 0 } })) :=
  ⟨towpath_of_onDev rfl rfl (bank_up_iff ..), fun ⟨ht, hp⟩ => done_of_onDev rfl rfl ht ((bank_up_iff ..).mpr hp) rfl rfl⟩

theorem vsetWrite_yields (s : State) (h : HalfId) (p : Fin 16) (v : Word) : let c := siteCluster (siteOfNat (272 * h.val + 17 * p.val))
    Towpath (.vsetWrite h p v) s h (s.d.pwr.vin[h] = true) ∧
    (s.d.towUp h = true → s.d.pwr.vin[h] = true → Yields (.vsetWrite h p v) s (fun u =>
      Done s u (s.d.bump.setClp c { s.d.clp c with vset := fld v.toNat 8 0 }))) :=
  ⟨towpath_of_onDev rfl rfl Iff.rfl, fun ht hp => done_of_onDev rfl rfl ht hp rfl rfl⟩

end Sys2Proof.Machine
end

section
/-! PROOFS. SUSPECT_WRITE (R364, R365, R470): the marks of the sensors of a column, and when it is BLIND. -/

namespace Sys2Proof.Machine
open Sys2Proof

-- The sensors of a column ---------------------------------------------------------------------------------------------

theorem senKey_logic {q : SensorId} {x : SiteIx} {i : Fin 2} (h : senKey q = senKey (.logic x i)) : q = .logic x i := by
  have hx := x.isLt
  have hi := i.isLt
  cases q with
  | logic y j =>
    have hj := j.isLt
    simp only [senKey] at h
    rw [show y = x from Fin.ext (by omega), show j = i from Fin.ext (by omega)]
  | dram y l => simp only [senKey] at h; omega
  | rlayer g b => simp only [senKey] at h; omega
  | basin b => simp only [senKey] at h; omega

theorem senKey_dram {q : SensorId} {x : SiteIx} {l : Fin 8} (h : senKey q = senKey (.dram x l)) : q = .dram x l := by
  have hx := x.isLt
  have hl := l.isLt
  cases q with
  | logic y j =>
    have hy := y.isLt
    have hj := j.isLt
    simp only [senKey] at h
    omega
  | dram y k =>
    have hk := k.isLt
    simp only [senKey] at h
    rw [show y = x from Fin.ext (by omega), show k = l from Fin.ext (by omega)]
  | rlayer g b => simp only [senKey] at h; omega
  | basin b => simp only [senKey] at h; omega

theorem senKey_of_mem {q p : SensorId} {x : SiteIx} (hp : p ∈ colSensors x) (h : senKey q = senKey p) : q = p := by
  rcases List.mem_append.mp hp with hp | hp
  · rcases List.mem_cons.mp hp with rfl | hp
    · exact senKey_logic h
    · rw [List.mem_singleton.mp hp] at h ⊢
      exact senKey_logic h
  · obtain ⟨l, -, rfl⟩ := List.mem_map.mp hp
    exact senKey_dram h

theorem colSensors_nodup (x : SiteIx) : (colSensors x).Nodup := by
  refine List.nodup_append.mpr ⟨by simp, (List.nodup_finRange 8).map (fun a b h => by cases h; rfl), fun a ha b hb => ?_⟩
  obtain ⟨l, -, rfl⟩ := List.mem_map.mp hb
  intro e
  subst e
  simp at ha

-- SUSPECT_WRITE -------------------------------------------------------------------------------------------------------

/-- One mark of a sensor set or cleared. -/
def Dev.setMark (v : Word) (d : Dev) (p : SensorId × Nat) : Dev :=
  if (d.sen p.1).suspect = v.getLsbD p.2 then d else d.setSen p.1 { d.sen p.1 with suspect := v.getLsbD p.2, off := 0 }

/-- The marks of numbered sensors as the word has them. -/
def Dev.setMarks (d : Dev) (v : Word) (l : List (SensorId × Nat)) : Dev := l.foldl (Dev.setMark v) d

theorem Dev.writeSuspects_eq (d : Dev) (e : Env) (x : SiteIx) (v : Word) : d.writeSuspects e x v = (d.setMarks v (colSensors x).zipIdx).checkBlind e x := rfl

theorem Dev.setMark_suspect (v : Word) (d : Dev) (p : SensorId × Nat) :
    (tget (Dev.setMark v d p).thm.sens SenSt.init (senKey p.1)).suspect = v.getLsbD p.2 := by
  unfold Dev.setMark
  split
  · next h => exact h
  · exact congrArg SenSt.suspect (tget_tset ..)

theorem Dev.setMark_of_ne (v : Word) (d : Dev) (p : SensorId × Nat) {k : Nat} (h : k ≠ senKey p.1) :
    tget (Dev.setMark v d p).thm.sens SenSt.init k = tget d.thm.sens SenSt.init k :=
  ite_keeps (fun d : Dev => tget d.thm.sens SenSt.init k) rfl (tget_tset_ne _ _ _ (Ne.symm h))

theorem mem_of_mem_zipIdx_colSensors {x : SiteIx} {p : SensorId × Nat} (hp : p ∈ (colSensors x).zipIdx) : p.1 ∈ colSensors x :=
  List.mem_of_getElem? (List.mem_zipIdx_iff_getElem?.mp hp)

theorem Dev.setMarks_last (d : Dev) (v : Word) (l : List (SensorId × Nat)) : ∀ p ∈ l, ∃ q ∈ l, senKey q.1 = senKey p.1 ∧
    (tget (d.setMarks v l).thm.sens SenSt.init (senKey p.1)).suspect = v.getLsbD q.2 :=
  exists_last_write (rd := fun (d : Dev) k => (tget d.thm.sens SenSt.init k).suspect) (key := fun p : SensorId × Nat => senKey p.1)
    (val := fun p => v.getLsbD p.2) (Dev.setMark_suspect v) (fun d p _ hk => congrArg SenSt.suspect (Dev.setMark_of_ne v d p hk)) l d

theorem Dev.setMarks_other (d : Dev) (v : Word) {l : List (SensorId × Nat)} {q : SensorId} (hq : ∀ p ∈ l, senKey q ≠ senKey p.1) :
    (d.setMarks v l).sen q = d.sen q :=
  foldl_preserves_of_mem (P := fun g : Dev => g.sen q = d.sen q) (fun g p hp hg => (Dev.setMark_of_ne v g p (hq p hp)).trans hg) rfl

theorem Dev.setMarks_suspect (d : Dev) (x : SiteIx) (v : Word) :
    ∀ p ∈ (colSensors x).zipIdx, ((d.setMarks v (colSensors x).zipIdx).sen p.1).suspect = v.getLsbD p.2 := by
  intro p hp
  obtain ⟨q, hq, hk, hv⟩ := d.setMarks_last v (colSensors x).zipIdx p hp
  have he : q.1 = p.1 := senKey_of_mem (mem_of_mem_zipIdx_colSensors hp) hk
  have hq' := List.mem_zipIdx_iff_getElem?.mp hq
  have hp' := List.mem_zipIdx_iff_getElem?.mp hp
  obtain ⟨hlt, -⟩ := List.getElem?_eq_some_iff.mp hq'
  have hi : q.2 = p.2 := (List.getElem?_inj hlt (colSensors_nodup x)).mp (by rw [hq', hp', he])
  rw [← hi]
  exact hv

theorem Dev.setMarks_of_not_mem (d : Dev) {x : SiteIx} (v : Word) {q : SensorId} (hq : q ∉ colSensors x) :
    (d.setMarks v (colSensors x).zipIdx).sen q = d.sen q :=
  d.setMarks_other v (fun _ hp e => hq (by
    rw [senKey_of_mem (mem_of_mem_zipIdx_colSensors hp) e]
    exact mem_of_mem_zipIdx_colSensors hp))

/-- The suspects of the column are the marks of the word. -/
theorem Dev.setMarks_suspects (d : Dev) (x : SiteIx) (v : Word) :
    (d.setMarks v (colSensors x).zipIdx).suspects x = ((List.range 10).filter (fun i => v.getLsbD i)).length := by
  have h1 : (colSensors x).zipIdx.map Prod.fst = colSensors x := List.zipIdx_map_fst ..
  have h2 : (colSensors x).zipIdx.map Prod.snd = List.range 10 := by
    rw [List.zipIdx_map_snd, List.range_eq_range']
    rfl
  rw [Dev.suspects, ← List.countP_eq_length_filter, ← List.countP_eq_length_filter, ← h2, ← h1, List.countP_map, List.countP_map, h1]
  exact List.countP_congr (fun p hp => by rw [Function.comp, Function.comp, d.setMarks_suspect x v p hp])

/-- The device without the marks, the BLIND columns and the reports. -/
def Dev.markStem (d : Dev) : Dev := { d with thm := { d.thm with sens := [], blind := [] }, fab := { d.fab with reports := [] } }

theorem Dev.eq_of_markStem {a b : Dev} (h : b.markStem = a.markStem) :
    b = { a with thm := { a.thm with sens := b.thm.sens, blind := b.thm.blind }, fab := { a.fab with reports := b.fab.reports } } :=
  congrArg (fun c : Dev => { c with thm := { c.thm with sens := b.thm.sens, blind := b.thm.blind }, fab := { c.fab with reports := b.fab.reports } }) h

theorem Dev.setMarks_keeps {γ : Type} (p : Dev → γ) (hp : ∀ d q v, p (Dev.setSen d q v) = p d) (d : Dev) (v : Word) (l : List (SensorId × Nat)) :
    p (d.setMarks v l) = p d :=
  foldl_keeps p _ (fun d _ => ite_keeps p rfl (hp d _ _)) _ d

theorem Dev.checkBlind_markStem (d : Dev) (e : Env) (x : SiteIx) : (d.checkBlind e x).markStem = d.markStem :=
  ite_keeps Dev.markStem rfl (ite_keeps Dev.markStem rfl rfl)

theorem Dev.checkBlind_sens (d : Dev) (e : Env) (x : SiteIx) : (d.checkBlind e x).thm.sens = d.thm.sens :=
  ite_keeps (fun d : Dev => d.thm.sens) rfl (ite_keeps (fun d : Dev => d.thm.sens) rfl rfl)

/-- A column with more than two suspect sensors is BLIND, and told when it was not (R365). -/
theorem Dev.checkBlind_of_many (d : Dev) (e : Env) (x : SiteIx) (h : 2 < d.suspects x) : x.val ∈ (d.checkBlind e x).thm.blind ∧
    (x.val ∉ d.thm.blind → (d.checkBlind e x).fab.reports = d.fab.reports ++
      [{ code := 0x0502, suspect := .site x, d1 := d.suspects x, d2 := 0, ctx := none, action := 0, time := nowNs e.time }]) := by
  by_cases hb : x.val ∈ d.thm.blind
  · have he : d.checkBlind e x = d := by
      rw [Dev.checkBlind, if_neg (by simp [hb]), if_neg (by simp; omega)]
    rw [he]
    exact ⟨hb, fun hn => absurd hb hn⟩
  · have he : d.checkBlind e x = ({ d with thm := { d.thm with blind := d.thm.blind ++ [x.val] } } : Dev).onFab
        (fun f => f.report e 0x0502 (.site x) (d.suspects x) 0) := if_pos (by simp [hb, h])
    rw [he]
    exact ⟨List.mem_append_right _ (List.mem_singleton_self _), fun _ => rfl⟩

theorem Dev.checkBlind_of_few (d : Dev) (e : Env) (x : SiteIx) (h : d.suspects x ≤ 2) : x.val ∉ (d.checkBlind e x).thm.blind := by
  by_cases hb : x.val ∈ d.thm.blind
  · have he : d.checkBlind e x = { d with thm := { d.thm with blind := d.thm.blind.filter (fun k => k ≠ x.val) } } := by
      rw [Dev.checkBlind, if_neg (by simp [hb]), if_pos (by simp [hb, h])]
    rw [he]
    simp
  · have he : d.checkBlind e x = d := by
      rw [Dev.checkBlind, if_neg (by simp; omega), if_neg (by simp [hb])]
    rw [he]
    exact hb

theorem suspectWrite_yields (s : State) (x : SiteIx) (v : Word) :
    Towpath (.suspectWrite x v) s (siteHalf x) (s.d.bankSt (siteHalf x) 16 = .up) ∧
    (s.d.towUp (siteHalf x) = true ∧ s.d.bankSt (siteHalf x) 16 = .up → let marks := ((List.range 10).filter (fun i => v.getLsbD i)).length
      Yields (.suspectWrite x v) s (fun u => (∀ p ∈ (colSensors x).zipIdx, (u.d.sen p.1).suspect = v.getLsbD p.2) ∧
        (∀ q : SensorId, q ∉ colSensors x → u.d.sen q = s.d.sen q) ∧
        (2 < marks → x.val ∈ u.d.thm.blind ∧ (x.val ∉ s.d.thm.blind → Tells s u 0x0502 (.site x))) ∧ (marks ≤ 2 → x.val ∉ u.d.thm.blind) ∧
        Done s u { s.d.bump with
          thm := { s.d.thm with sens := u.d.thm.sens, blind := u.d.thm.blind }, fab := { s.d.bump.fab with reports := u.d.fab.reports } })) := by
  refine ⟨towpath_of_onDev rfl rfl (bank_up_iff ..), fun ⟨ht, hp⟩ => ?_⟩
  intro marks
  have hd := towWrite_done (g := fun e d => d.towMesh (siteHalf x) true (fun d => d.writeSuspects e x v)) rfl ht ((bank_up_iff ..).mpr hp) rfl
  have heq := s.d.bump.writeSuspects_eq s.env x v
  have hmarks : (s.d.bump.setMarks v (colSensors x).zipIdx).suspects x = marks := s.d.bump.setMarks_suspects x v
  have hset := s.d.bump.setMarks_suspect x v
  have hother (q : SensorId) (hq : q ∉ colSensors x) := s.d.bump.setMarks_of_not_mem v hq
  have hkeeps {γ : Type} (p : Dev → γ) (hp : ∀ d q v, p (Dev.setSen d q v) = p d) := Dev.setMarks_keeps p hp s.d.bump v (colSensors x).zipIdx
  generalize s.d.bump.setMarks v (colSensors x).zipIdx = g at heq hmarks hset hother hkeeps
  rw [heq] at hd
  have hsen (q : SensorId) : (g.checkBlind s.env x).sen q = g.sen q := by rw [Dev.sen, Dev.checkBlind_sens, Dev.sen]
  refine yields_onDev rfl hd ⟨fun p hp => ?_, fun q hq => ?_, fun hm => ⟨?_, fun hb => ?_⟩, fun hm => ?_, ?_⟩
  · exact (congrArg SenSt.suspect (hsen p.1)).trans (hset p hp)
  · exact (hsen q).trans (hother q hq)
  · exact (g.checkBlind_of_many s.env x (hmarks ▸ hm)).1
  · have hblind : g.thm.blind = s.d.thm.blind := hkeeps (fun d => d.thm.blind) (fun _ _ _ => rfl)
    have hrep : g.fab.reports = s.d.fab.reports := hkeeps (fun d => d.fab.reports) (fun _ _ _ => rfl)
    refine ⟨[], [], { code := 0x0502, suspect := .site x, d1 := g.suspects x, d2 := 0, ctx := none, action := 0, time := nowNs s.env.time },
      ((g.checkBlind_of_many s.env x (hmarks ▸ hm)).2 (hblind ▸ hb)).trans ?_, rfl, rfl⟩
    rw [hrep, List.append_nil]
  · exact g.checkBlind_of_few s.env x (hmarks ▸ hm)
  · have hstem : (g.checkBlind s.env x).markStem = s.d.bump.markStem := (g.checkBlind_markStem s.env x).trans (hkeeps Dev.markStem (fun _ _ _ => rfl))
    exact congrArg (fun d : Dev => ({ s.bump with d := d.send (.towpath 0) } : State)) (Dev.eq_of_markStem hstem)

end Sys2Proof.Machine
end

section
/-! PROOFS. SITE_MAP_WRITE (R15, R16, R470), and the statement O56. -/

namespace Sys2Proof.Machine
open Sys2Proof

-- The words of a map --------------------------------------------------------------------------------------------------

/-- The site that a number of the map names; none from 17 on. -/
def pickSite (n : Nat) : Option (Fin 17) := if h : n < 17 then some ⟨n, h⟩ else none

theorem pickSite_eq_some {n : Nat} {a : Fin 17} : pickSite n = some a ↔ a.val = n := by
  unfold pickSite
  split
  · next h => simp [Fin.ext_iff, eq_comm]
  · next h => simp; omega

theorem pickSite_map_val (n : Nat) : (pickSite n).map (·.val) = if n < 17 then some n else none := by
  unfold pickSite
  split <;> rfl

/-- The number of the site that the words name for tile i of the cluster. -/
def mapEntry (m : SiteMapWords) (i : Fin 16) : Nat := fld (m.maps[i.val / 4]'(by omega)).toNat (8 * (i.val % 4) + 4) (8 * (i.val % 4))

theorem mapOfWords_siteOf (m : SiteMapWords) (a : ClusterSt) : (mapOfWords m a).siteOf = Vector.ofFn (fun i => pickSite (mapEntry m i)) := rfl

theorem mapOfWords_spare (m : SiteMapWords) (a : ClusterSt) :
    (mapOfWords m a).spare = if m.status.getLsbD 5 = true then pickSite (fld m.status.toNat 4 0) else none := by
  rw [← bit_toNat]
  rfl

/-- The words name a spare. -/
def namesSpare (m : SiteMapWords) : Prop := m.status.getLsbD 5 = true ∧ fld m.status.toNat 4 0 < 17

theorem mapOfWords_spare_some (m : SiteMapWords) (a : ClusterSt) (h : namesSpare m) :
    (mapOfWords m a).spare = some ⟨fld m.status.toNat 4 0, h.2⟩ := by
  rw [mapOfWords_spare, if_pos h.1, pickSite, dif_pos h.2]

theorem mapOfWords_spare_none (m : SiteMapWords) (a : ClusterSt) (h : ¬ namesSpare m) : (mapOfWords m a).spare = none := by
  rw [mapOfWords_spare]
  split
  · next h5 => exact dif_neg (fun hlt => h ⟨h5, hlt⟩)
  · rfl

theorem mapOfWords_bad_toNat (m : SiteMapWords) (a : ClusterSt) : (mapOfWords m a).bad.toNat = fld m.status.toNat 24 8 := by
  show (BitVec.ofNat 17 (fld m.status.toNat 24 8)).toNat = _
  rw [BitVec.toNat_ofNat]
  exact Nat.mod_eq_of_lt (Nat.mod_lt _ (by decide))

theorem mapOfWords_bad (m : SiteMapWords) (a : ClusterSt) {k : Nat} (hk : k < 17) : (mapOfWords m a).bad.getLsbD k = m.status.getLsbD (8 + k) := by
  rw [BitVec.getLsbD, mapOfWords_bad_toNat, fld, Nat.testBit_mod_two_pow, Nat.testBit_div_two_pow, Nat.add_comm k 8]
  simp [hk]
  rfl

/-- What R15 asks of a map that is written. -/
def mapAllowed (m : SiteMapWords) : Prop :=
  (∀ i j : Fin 16, i ≠ j → mapEntry m i < 17 → mapEntry m i ≠ mapEntry m j) ∧
  (namesSpare m → m.status.getLsbD (8 + fld m.status.toNat 4 0) = false ∧ ∀ i : Fin 16, mapEntry m i ≠ fld m.status.toNat 4 0)

/-- No site carries two tiles where different tiles have different entries. -/
theorem used_nodup_iff (m : SiteMapWords) (a : ClusterSt) : ((mapOfWords m a).siteOf.toList.filterMap id).Nodup ↔
    ∀ i j : Fin 16, i ≠ j → mapEntry m i < 17 → mapEntry m i ≠ mapEntry m j := by
  rw [mapOfWords_siteOf, Vector.toList_ofFn, List.Nodup, List.pairwise_filterMap, List.pairwise_ofFn]
  constructor
  · intro h i j hij hi he
    rcases Nat.lt_or_gt_of_ne (fun e => hij (Fin.ext e)) with hlt | hgt
    · exact h hlt ⟨mapEntry m i, hi⟩ (pickSite_eq_some.mpr rfl) ⟨mapEntry m i, hi⟩ (pickSite_eq_some.mpr he) rfl
    · exact h hgt ⟨mapEntry m i, hi⟩ (pickSite_eq_some.mpr he) ⟨mapEntry m i, hi⟩ (pickSite_eq_some.mpr rfl) rfl
  · intro h i j hij b hb b' hb' e
    subst e
    have h1 := pickSite_eq_some.mp hb
    have h2 := pickSite_eq_some.mp hb'
    exact h i j (Fin.ne_of_lt hij) (h1 ▸ b.isLt) (h1.symm.trans h2)

theorem mem_used_iff (m : SiteMapWords) (a : ClusterSt) (x : Fin 17) :
    x ∈ (mapOfWords m a).siteOf.toList.filterMap id ↔ ∃ i : Fin 16, mapEntry m i = x.val := by
  rw [mapOfWords_siteOf, Vector.toList_ofFn, List.mem_filterMap]
  simp only [List.mem_ofFn, id_eq, exists_eq_right, pickSite_eq_some, eq_comm (a := x.val)]

theorem mapOk_iff (m : SiteMapWords) (a : ClusterSt) : (mapOfWords m a).mapOk = true ↔ mapAllowed m := by
  unfold ClusterSt.mapOk mapAllowed
  dsimp only
  rw [Bool.and_eq_true, decide_eq_true_eq, used_nodup_iff]
  refine and_congr_right (fun _ => ?_)
  by_cases hs : namesSpare m
  · rw [mapOfWords_spare_some m a hs]
    simp only [Bool.and_eq_true, Bool.not_eq_true', List.contains_eq_mem, decide_eq_false_iff_not, mem_used_iff, mapOfWords_bad m a hs.2, not_exists]
    exact ⟨fun h _ => ⟨h.2, h.1⟩, fun h => ⟨(h hs).2, (h hs).1⟩⟩
  · rw [mapOfWords_spare_none m a hs]
    exact ⟨fun _ h => absurd h hs, fun _ => rfl⟩

-- SITE_MAP_WRITE ------------------------------------------------------------------------------------------------------

/-- A cluster after a change of its map: MAP_GEN counts a map that differs (R16). -/
theorem Fabric.cluster_changeMap (f : Fabric) (c : ClusterId) (g : ClusterSt → ClusterSt) : (f.changeMap c g).cluster c =
    if (g (f.cluster c)).siteOf = (f.cluster c).siteOf ∧ (g (f.cluster c)).spare = (f.cluster c).spare ∧ (g (f.cluster c)).bad = (f.cluster c).bad
    then g (f.cluster c) else { g (f.cluster c) with mapGen := (f.cluster c).mapGen + 1 } := by
  unfold Fabric.changeMap
  by_cases h : (g (f.cluster c)).siteOf = (f.cluster c).siteOf ∧ (g (f.cluster c)).spare = (f.cluster c).spare ∧ (g (f.cluster c)).bad = (f.cluster c).bad
  · rw [if_pos h]
    dsimp only
    rw [if_pos (by simp [h])]
    exact Fabric.cluster_setCluster ..
  · rw [if_neg h]
    dsimp only
    rw [if_neg (by simpa [and_assoc] using h)]
    exact Fabric.cluster_setCluster ..

theorem Fabric.mapGen_changeMap (f : Fabric) (c : ClusterId) (m : SiteMapWords) :
    let old := f.cluster c
    let new := mapOfWords m old
    ((f.changeMap c (mapOfWords m)).cluster c).mapGen =
      if new.siteOf = old.siteOf ∧ new.spare = old.spare ∧ new.bad = old.bad then old.mapGen else old.mapGen + 1 := by
  intro old new
  rw [Fabric.cluster_changeMap]
  by_cases h : new.siteOf = old.siteOf ∧ new.spare = old.spare ∧ new.bad = old.bad
  · rw [if_pos h, if_pos h]
    rfl
  · rw [if_neg h, if_neg h]

theorem Fabric.changeMap_keeps {γ : Type} (p : Fabric → γ) (hp : ∀ (f : Fabric) t, p { f with clusters := t } = p f) (f : Fabric) (c : ClusterId)
    (g : ClusterSt → ClusterSt) : p (f.changeMap c g) = p f := by
  unfold Fabric.changeMap
  exact ite_keeps p (hp ..) (hp ..)

theorem Fabric.cluster_changeMap_ne (f : Fabric) {c k : ClusterId} (g : ClusterSt → ClusterSt) (h : k ≠ c) : (f.changeMap c g).cluster k = f.cluster k := by
  unfold Fabric.changeMap
  exact ite_keeps (fun f : Fabric => f.cluster k) (Fabric.cluster_setCluster_ne _ _ h) (Fabric.cluster_setCluster_ne _ _ h)

theorem Dev.writeMap_allowed (d : Dev) (c : ClusterId) {m : SiteMapWords} (h : mapAllowed m) :
    d.writeMap c m = d.onFab (fun f => f.changeMap c (mapOfWords m)) := if_pos ((mapOk_iff m _).mpr h)

section
variable {s : State} {c : ClusterId} {m : SiteMapWords}

theorem siteMapWrite_unreached (h : s.d.towUp (clusterHalf c) = false) : Yields (.siteMapWrite c m) s (fun u => Becomes s u s.d.bump) :=
  yields_onAll (d := s.d.bump) rfl (if_pos (by rw [show s.d.bump.towUp (clusterHalf c) = false from h]; rfl)) (fun _ hu => hu.becomes)

theorem siteMapWrite_unpowered (h : s.d.towUp (clusterHalf c) = true) (hp : s.d.bankSt (clusterHalf c) 16 ≠ .up) :
    Yields (.siteMapWrite c m) s (fun u => Becomes s u (s.d.bump.send (.towpath 1))) := by
  refine yields_onAll (d := s.d.bump.send (.towpath 1)) rfl ?_ (fun _ hu => hu.becomes)
  rw [Dev.towMesh, Dev.towWrite, show s.d.bump.towUp (clusterHalf c) = true from h, beq_false_of_ne (show s.d.bump.bankSt (clusterHalf c) 16 ≠ .up from hp)]
  rfl

theorem siteMapWrite_discarded (h : s.d.towUp (clusterHalf c) = true) (hp : s.d.bankSt (clusterHalf c) 16 = .up) (hn : ¬ mapAllowed m) :
    Yields (.siteMapWrite c m) s (fun u => Becomes s u (s.d.bump.send (.towpath 2))) := by
  refine yields_onAll (d := s.d.bump.send (.towpath 2)) rfl ?_ (fun _ hu => hu.becomes)
  rw [Dev.towMesh, Dev.towWrite, show s.d.bump.towUp (clusterHalf c) = true from h, show s.d.bump.bankSt (clusterHalf c) 16 = .up from hp,
    Bool.eq_false_iff.mpr (fun hk => hn ((mapOk_iff m _).mp hk))]
  rfl

/-- A map that R15 allows is in force as one act (R16). -/
theorem siteMapWrite_done (h : s.d.towUp (clusterHalf c) = true) (hp : s.d.bankSt (clusterHalf c) 16 = .up) (hm : mapAllowed m) :
    Yields (.siteMapWrite c m) s (fun u => let k := u.d.fab.cluster c
      let old := s.d.fab.cluster c
      (∀ i : Fin 16, (k.siteOf[i]).map (·.val) = if mapEntry m i < 17 then some (mapEntry m i) else none) ∧
      (namesSpare m → k.spare.map (·.val) = some (fld m.status.toNat 4 0)) ∧ (¬ namesSpare m → k.spare = none) ∧
      k.bad.toNat = fld m.status.toNat 24 8 ∧ k.columnFirst = old.columnFirst ∧
      k.mapGen = (if k.siteOf = old.siteOf ∧ k.spare = old.spare ∧ k.bad = old.bad then old.mapGen else old.mapGen + 1) ∧
      (∀ g : ClusterId, g ≠ c → u.d.fab.cluster g = s.d.fab.cluster g) ∧ u.d.fab.sites = s.d.fab.sites ∧ u.d.fab.cols = s.d.fab.cols ∧
      OnlyDevice s u ∧ ∃ rest, u.d.out = s.d.out ++ Out.towpath 0 :: rest) := by
  have hd : s.d.bump.towMesh (clusterHalf c) (mapOfWords m (s.d.bump.fab.cluster c)).mapOk (fun d => d.writeMap c m) =
      (s.d.bump.onFab (fun f => f.changeMap c (mapOfWords m))).send (.towpath 0) := by
    rw [Dev.towMesh, Dev.towWrite, show s.d.bump.towUp (clusterHalf c) = true from h, show s.d.bump.bankSt (clusterHalf c) 16 = .up from hp,
      (mapOk_iff m _).mpr hm, Dev.writeMap_allowed _ _ hm]
    rfl
  refine yields_onAll rfl hd (fun u hu => ?_)
  have hclusters : u.d.fab.clusters = (s.d.bump.fab.changeMap c (mapOfWords m)).clusters := hu.keeps (fun d => d.fab.clusters) (fun _ => rfl)
  have hcl (g : ClusterId) : u.d.fab.cluster g = (s.d.bump.fab.changeMap c (mapOfWords m)).cluster g := congrArg (fun t => tget t ClusterSt.init g.val) hclusters
  have hk := (hcl c).trans (Fabric.cluster_changeMap ..)
  have field {γ : Type} (p : ClusterSt → γ) (hp : ∀ (a : ClusterSt) n, p { a with mapGen := n } = p a) :
      p (u.d.fab.cluster c) = p (mapOfWords m (s.d.fab.cluster c)) := by
    rw [hk]
    exact ite_keeps p rfl (hp _ _)
  have hsite := field ClusterSt.siteOf (fun _ _ => rfl)
  have hspare := field ClusterSt.spare (fun _ _ => rfl)
  have hbad := field ClusterSt.bad (fun _ _ => rfl)
  refine ⟨fun i => ?_, fun hs => ?_, fun hs => ?_, ?_, field ClusterSt.columnFirst (fun _ _ => rfl), ?_, fun g hg => ?_, ?_, ?_, hu.onlyDevice, ?_⟩
  · rw [hsite, mapOfWords_siteOf]
    simp only [Fin.getElem_fin, Vector.getElem_ofFn]
    exact pickSite_map_val _
  · rw [hspare, mapOfWords_spare_some m _ hs]
    rfl
  · rw [hspare, mapOfWords_spare_none m _ hs]
  · rw [hbad, mapOfWords_bad_toNat]
  · rw [hsite, hspare, hbad, hcl]
    exact s.d.bump.fab.mapGen_changeMap c m
  · exact (hcl g).trans (Fabric.cluster_changeMap_ne _ _ hg)
  · exact (hu.keeps (fun d => d.fab.sites) (fun _ => rfl)).trans (Fabric.changeMap_keeps Fabric.sites (fun _ _ => rfl) s.d.bump.fab c (mapOfWords m))
  · exact (hu.keeps (fun d => d.fab.cols) (fun _ => rfl)).trans (Fabric.changeMap_keeps Fabric.cols (fun _ _ => rfl) s.d.bump.fab c (mapOfWords m))
  · obtain ⟨rest, hr⟩ := hu.out
    refine ⟨rest, ?_⟩
    have hsend (d : Dev) : (d.send (.towpath 0)).out = d.out ++ [.towpath 0] := rfl
    have hfab (d : Dev) (g : Fabric → Fabric) : (d.onFab g).out = d.out := rfl
    dsimp only at hr
    rw [hr, hsend, hfab, List.append_assoc]
    rfl

end

end Sys2Proof.Machine
end

section
/-! PROOFS. The statement O56, from its clauses. -/

namespace Sys2Proof.Machine
open Sys2Proof

/-- BOOT_STAGE after a broadcast, as the statement has it. -/
theorem codeStage_tile (h : HalfId) (k : Nat) : codeStage (.tile h) k = if 13 ≤ k ∧ k ≠ 0x1F then 15 else k := by
  simp [codeStage]

theorem mem_broadcastNodes_tile {h : HalfId} {x : SiteIx} : x ∈ broadcastNodes (.tile h) ↔ siteHalf x = h := by
  rw [broadcastNodes, List.mem_filter, decide_eq_true_eq]
  exact and_iff_right (by unfold allSites; exact List.mem_finRange x)

theorem mem_broadcastNodes_chroot {h : HalfId} {x : SiteIx} : x ∈ broadcastNodes (.chroot h) ↔ siteHalf x = h := mem_broadcastNodes_tile (h := h)

theorem mem_broadcastNodes_rlayer {h : HalfId} {x : SiteIx} : x ∈ broadcastNodes (.rlayer h) ↔ x.val = 272 * h.val := by
  have hh := h.isLt
  rw [broadcastNodes, List.mem_singleton, Fin.ext_iff]
  show x.val = 272 * h.val % 544 ↔ _
  rw [Nat.mod_eq_of_lt (by omega)]

/-- The clauses about repair entries (R471). -/
theorem repairEntryWrite_yields (s : State) (x : SiteIx) (v : Word) : let h := siteHalf x
    let on := s.d.towUp h = true ∧ s.d.bankSt h 16 = .up
    let c := s.d.fab.col x
    (∀ e : RepairEntry, Towpath (.repairEntryWrite x e v) s h (s.d.bankSt h 16 = .up)) ∧
    (∀ (b : Fin 128) (i : Fin 32), on → let k := 32 * b.val + i.val
      ((tget c.rowRep 0 k).getLsbD 31 = true → Yields (.repairEntryWrite x (.row b i) v) s (fun u => Discarded s u)) ∧
      ((tget c.rowRep 0 k).getLsbD 31 = false → Yields (.repairEntryWrite x (.row b i) v) s (fun u => ∃ t,
        let r := if v.getLsbD 31 = true then c.takeSpare (32 * b.val + fld v.toNat 16 12) else c
        DoneCol s u x { r with rowRep := t } ∧ tget t 0 k = v &&& 0xC001FFFF ∧ ∀ j, j ≠ k → tget t 0 j = tget c.rowRep 0 j))) ∧
    (∀ (b : Fin 128) (i : Fin 8), on → let k := 8 * b.val + i.val
      ((tget c.colRep 0 k).getLsbD 31 = true → Yields (.repairEntryWrite x (.col b i) v) s (fun u => Discarded s u)) ∧
      ((tget c.colRep 0 k).getLsbD 31 = false → Yields (.repairEntryWrite x (.col b i) v) s (fun u => ∃ t, DoneCol s u x { c with colRep := t } ∧
        tget t 0 k = v &&& 0xC0003FFF ∧ ∀ j, j ≠ k → tget t 0 j = tget c.colRep 0 j))) ∧
    (∀ i : Fin 64, on → let dead := c.deadLanes.length
      (i.val < dead → Yields (.repairEntryWrite x (.dead i) v) s (fun u => Discarded s u)) ∧
      (dead ≤ i.val → v.getLsbD 31 = false → Yields (.repairEntryWrite x (.dead i) v) s (fun u => Done s u s.d.bump)) ∧
      (dead ≤ i.val → v.getLsbD 31 = true → let g := fld v.toNat 10 3 % 144
        let l := c.lane (fld v.toNat 2 0) g
        Yields (.repairEntryWrite x (.dead i) v) s (fun u => DoneCol s u x (c.setLane (fld v.toNat 2 0) g
          { l with dead := l.dead ++ [64 * g + fld v.toNat 17 11] })))) := by
  intro h on c
  refine ⟨fun e => towpath_of_onDev rfl rfl (bank_up_iff ..), fun b i ⟨ht, hp⟩ => ⟨fun hv => ?_, rowEntry_done s x b i v ht hp⟩,
    fun b i ⟨ht, hp⟩ => ⟨fun hv => ?_, colEntry_done s x b i v ht hp⟩, fun i ⟨ht, hp⟩ => ⟨fun hi => ?_, fun hi hv => ?_, fun hi hv => ?_⟩⟩
  · exact repairEntry_discarded s x (.row b i) v ht hp (by rw [Dev.repairFree, hv]; rfl)
  · exact repairEntry_discarded s x (.col b i) v ht hp (by rw [Dev.repairFree, hv]; rfl)
  · exact repairEntry_discarded s x (.dead i) v ht hp (decide_eq_false (Nat.not_le.mpr hi))
  · exact repairEntry_done s x (.dead i) v ht hp (decide_eq_true hi) (s.d.bump.writeRepair_dead_invalid s.env x i v hv)
  · exact repairEntry_done s x (.dead i) v ht hp (decide_eq_true hi) (s.d.bump.writeRepair_dead s.env x i v hi hv)

/-- Settles O56: power-on and cold reset by what a cold reset leaves, boot by the record that is applied, the topology by the maps and banks
that the command writes, code by what each node of a broadcast takes, and each Towpath write by its one effect. -/
theorem theModuleComesUpAndTakesItsCode : Obligations.TheModuleComesUpAndTakesItsCode := by
  unfold Obligations.TheModuleComesUpAndTakesItsCode
  refine ⟨fun s b => ?_, fun s => ?_, fun s n bad => ?_, fun s x v => ?_, fun s c => ?_, fun s h p v => ?_⟩
  · exact ⟨vaonUp_running s b, vaonUp_cold s b, lockkeeperBootDone_idle s b, lockkeeperBootDone_noFuses s b, lockkeeperBootDone_boots s b⟩
  · exact ⟨basinRailsUp_cold s, basinRailsUp_idle s, basinRailsUp_starts s, vinUp_yields s, topologySet_idle s, topologySet_yields s⟩
  · cases n with
    | tile h =>
      refine ⟨microcodeBroadcast_idle s (.tile h) bad, fun hr hs => ?_, fun x ok => ⟨checkTimeout_idle s (.tile h) x ok, checkTimeout_takes s (.tile h) x ok,
        checkTimeout_fails s (.tile h) x ok, codeSwitch_idle s (.tile h) x, fun ht => codeSwitch_of ht (fun u hu _ _ => ?_)⟩⟩
      · have hb := microcodeBroadcast_yields s (.tile h) bad hr hs
        simp only [mem_broadcastNodes_tile, codeStage_tile] at hb
        exact hb
      · have hx : u.d.fab.site x = _ := (congrArg (fun t => tget t Site.init x.val) hu).trans (s.d.bump.switchCode_tile_site h x)
        exact ⟨fun h0 => hx.trans (if_pos h0), fun h0 => hx.trans (if_neg h0)⟩
    | chroot h =>
      refine ⟨microcodeBroadcast_idle s (.chroot h) bad, fun hr hs => ?_, fun x ok => ⟨checkTimeout_idle s (.chroot h) x ok, checkTimeout_takes s (.chroot h) x ok,
        checkTimeout_fails s (.chroot h) x ok, codeSwitch_idle s (.chroot h) x, fun ht => codeSwitch_of ht (fun u hu hch _ => ?_)⟩⟩
      · have hb := microcodeBroadcast_yields s (.chroot h) bad hr hs
        simp only [mem_broadcastNodes_chroot] at hb
        exact hb
      · refine ⟨?_, congrArg (fun t => tget t Site.init x.val) hu⟩
        rw [hch]
        exact (tget_tmod s.d.lkk.chroot CodeBanks.init x.val CodeBanks.switched).symm ▸ CodeBanks.switches_switched _
    | rlayer h =>
      refine ⟨microcodeBroadcast_idle s (.rlayer h) bad, fun hr hs => ?_, fun x ok => ⟨checkTimeout_idle s (.rlayer h) x ok, checkTimeout_takes s (.rlayer h) x ok,
        checkTimeout_fails s (.rlayer h) x ok, codeSwitch_idle s (.rlayer h) x, fun ht => codeSwitch_of ht (fun u hu _ hrl => ?_)⟩⟩
      · have hb := microcodeBroadcast_yields s (.rlayer h) bad hr hs
        simp only [mem_broadcastNodes_rlayer] at hb
        exact hb
      · refine ⟨?_, congrArg (fun t => tget t Site.init x.val) hu⟩
        rw [hrl]
        exact (tget_tmod s.d.lkk.rlayer CodeBanks.init h.val CodeBanks.switched).symm ▸ CodeBanks.switches_switched _
  · obtain ⟨hrepair, hrow, hcol, hdead⟩ := repairEntryWrite_yields s x v
    obtain ⟨hflim, hflimDone⟩ := flimWrite_yields s x v
    obtain ⟨hsus, hsusDone⟩ := suspectWrite_yields s x v
    exact ⟨fun w => peerTableWrite_yields s x w v, hrepair, hrow, hcol, hdead, fun b g => laneWrite_yields s x b g v, hflim, hflimDone, hsus, hsusDone⟩
  · exact ⟨fun m => ⟨siteMapWrite_unreached, siteMapWrite_unpowered, fun ⟨ht, hp⟩ => siteMapWrite_discarded ht hp,
      fun ⟨ht, hp⟩ => siteMapWrite_done ht hp⟩, fun v => routeWrite_yields s c v⟩
  · exact vsetWrite_yields s h p v

end Sys2Proof.Machine
end

section
/-! PROOFS. Work of one site: a relation between halves before and after an operation of site x, which every operation of its step engine keeps, and
what faults, semaphore adds and disturbances leave of the site (R38 to R43, R50 to R52). -/

namespace Sys2Proof.Machine
open Sys2Proof

-- Work of one site ----------------------------------------------------------------------------------------------------

/-- The halves without their sites, columns and reports. -/
def Fabric.rest (f : Fabric) : Fabric := { f with sites := [], cols := [], reports := [] }

/-- What work of a site leaves alone beside the other sites and columns: all but what the tile tells, reports, and slices under way. -/
def Fabric.others (f : Fabric) : Fabric := { f.rest with inbox := [], samplers := [] }

/-- From halves f work of site x has made halves g. -/
structure SiteWork (x : SiteIx) (f g : Fabric) : Prop where
  siteOff : ∀ y : SiteIx, y ≠ x → g.site y = f.site y
  colOff : ∀ y : SiteIx, y ≠ x → g.col y = f.col y
  others : g.others = f.others

theorem SiteWork.refl (x : SiteIx) (f : Fabric) : SiteWork x f f := ⟨fun _ _ => rfl, fun _ _ => rfl, rfl⟩

theorem SiteWork.trans {x : SiteIx} {f g h : Fabric} (a : SiteWork x f g) (b : SiteWork x g h) : SiteWork x f h :=
  ⟨fun y hy => (b.siteOff y hy).trans (a.siteOff y hy), fun y hy => (b.colOff y hy).trans (a.colOff y hy), b.others.trans a.others⟩

theorem SiteWork.foldl {α : Type} {x : SiteIx} {step : Fabric → α → Fabric} (h : ∀ f a, SiteWork x f (step f a)) (l : List α) (f : Fabric) :
    SiteWork x f (l.foldl step f) := by
  induction l generalizing f with
  | nil => exact .refl x f
  | cons a r ih => exact (h f a).trans (ih _)

theorem SiteWork.setSite (x : SiteIx) (f : Fabric) (s : Site) : SiteWork x f (f.setSite x s) :=
  ⟨fun _ hy => f.site_setSite_ne s hy, fun _ _ => rfl, rfl⟩

theorem SiteWork.setCol (x : SiteIx) (f : Fabric) (c : Column) : SiteWork x f (f.setCol x c) :=
  ⟨fun _ _ => rfl, fun _ hy => f.col_setCol_ne c hy, rfl⟩

/-- Telling the token service engine or the aggregator, and slices on their way, touch no site. -/
theorem SiteWork.tells (x : SiteIx) (f : Fabric) (inbox : List TileMsg) (reports : List Report) (samplers : Tab Sampler) :
    SiteWork x f { f with inbox := inbox, reports := reports, samplers := samplers } := ⟨fun _ _ => rfl, fun _ _ => rfl, rfl⟩

-- The state after a command on the halves ----------------------------------------------------------------------------

/-- The state with other halves. -/
def State.withFab (s : State) (f : Fabric) : State := { s with d := { s.d with fab := f } }

@[simp] theorem State.withFab_fab (s : State) (f : Fabric) : (s.withFab f).d.fab = f := rfl

theorem State.onFab_eq (s : State) (g : Env → Fabric → Fabric) : s.onFab g = s.withFab (g s.env s.d.bump.fab) := rfl

theorem State.withFab_bump (s : State) : s.withFab s.d.bump.fab = s.bump := rfl

theorem onlyFabric_withFab (s : State) (f : Fabric) : OnlyFabric s (s.withFab f) := ⟨rfl, rfl, rfl, rfl, rfl, rfl⟩

theorem onlySite_withFab {s : State} {x : SiteIx} {g : Fabric} (h : SiteWork x s.d.bump.fab g) : OnlySite s (s.withFab g) x := by
  have keeps {γ : Type} (p : Fabric → γ) : p g.others = p s.d.bump.fab.others := congrArg p h.others
  exact ⟨onlyFabric_withFab s g, fun y hy => ⟨h.siteOff y hy, h.colOff y hy⟩, keeps Fabric.clusters, keeps Fabric.halfUp, keeps Fabric.fenced,
    keeps Fabric.mapValid, keeps Fabric.cut, keeps Fabric.kvRegion⟩

/-- A command on the halves yields what holds of the halves that it makes. -/
theorem yields_onFab {c : Instr} {s : State} {g : Env → Fabric → Fabric} {f : Fabric} {P : State → Prop} (hc : exec c s = .next (s.onFab g))
    (hf : g s.env s.d.bump.fab = f) (hp : P (s.withFab f)) : Yields c s P := by
  subst hf
  exact ⟨_, hc, hp⟩

/-- One that leaves the halves as they are does nothing. -/
theorem yields_onFab_idle {c : Instr} {s : State} {g : Env → Fabric → Fabric} (hc : exec c s = .next (s.onFab g))
    (hf : g s.env s.d.bump.fab = s.d.bump.fab) : Yields c s (fun u => u = s.bump) := yields_onFab hc hf rfl

@[simp] theorem Dev.bump_site (d : Dev) (x : SiteIx) : d.bump.fab.site x = d.fab.site x := rfl
@[simp] theorem Dev.bump_col (d : Dev) (x : SiteIx) : d.bump.fab.col x = d.fab.col x := rfl
@[simp] theorem Dev.bump_siteOf (d : Dev) (t : TileId) : d.bump.fab.siteOf t = d.fab.siteOf t := rfl
@[simp] theorem Dev.bump_inbox (d : Dev) : d.bump.fab.inbox = d.fab.inbox := rfl
@[simp] theorem Dev.bump_reports (d : Dev) : d.bump.fab.reports = d.fab.reports := rfl
@[simp] theorem Dev.bump_samplers (d : Dev) : d.bump.fab.samplers = d.fab.samplers := rfl

-- Disturbances --------------------------------------------------------------------------------------------------------

/-- A disturbance of scratch flips bits of stored bytes and nothing else. -/
theorem Site.upsets_scratch (s : Site) (us : List ScratchUpset) : { s.upsets us with scratch := [] } = { s with scratch := [] } :=
  foldl_keeps (fun s : Site => { s with scratch := [] })
    (fun (s : Site) (d : ScratchUpset) => { s with scratch := tset s.scratch 0 d.addr ((tget s.scratch 0 d.addr) ^^^ d.flip) }) (fun _ _ => rfl) us s

theorem Site.upsets_keeps {γ : Type} (p : Site → γ) (hp : ∀ s : Site, p { s with scratch := [] } = p s) (s : Site) (us : List ScratchUpset) :
    p (s.upsets us) = p s := (hp _).symm.trans ((congrArg p (s.upsets_scratch us)).trans (hp s))

@[simp] theorem Site.upsets_streams (s : Site) (us : List ScratchUpset) : (s.upsets us).streams = s.streams := s.upsets_keeps Site.streams (fun _ => rfl) us
@[simp] theorem Site.upsets_stream (s : Site) (us : List ScratchUpset) (n : StreamId) : (s.upsets us).stream n = s.stream n :=
  s.upsets_keeps (fun s => s.stream n) (fun _ => rfl) us
@[simp] theorem Site.upsets_sems (s : Site) (us : List ScratchUpset) : (s.upsets us).sems = s.sems := s.upsets_keeps Site.sems (fun _ => rfl) us
@[simp] theorem Site.upsets_poison (s : Site) (us : List ScratchUpset) : (s.upsets us).poison = s.poison := s.upsets_keeps Site.poison (fun _ => rfl) us
@[simp] theorem Site.upsets_tags (s : Site) (us : List ScratchUpset) : (s.upsets us).tags = s.tags := s.upsets_keeps Site.tags (fun _ => rfl) us
@[simp] theorem Site.upsets_peers (s : Site) (us : List ScratchUpset) : (s.upsets us).peers = s.peers := s.upsets_keeps Site.peers (fun _ => rfl) us
@[simp] theorem Site.upsets_arr (s : Site) (us : List ScratchUpset) : (s.upsets us).arr = s.arr := s.upsets_keeps Site.arr (fun _ => rfl) us

theorem Column.upset_keeps {γ : Type} (p : Column → γ) (hp : ∀ (c : Column) a b, p { c with cells := a, spareBytes := b } = p c) (c : Column)
    (key sym : Nat) (flip : Byte) : p (c.upset key sym flip) = p c := by
  unfold Column.upset
  dsimp only
  split
  · exact hp c c.cells _
  · exact hp c _ c.spareBytes

theorem Column.upsets_keeps {γ : Type} (p : Column → γ) (hp : ∀ (c : Column) a b, p { c with cells := a, spareBytes := b } = p c) (c : Column)
    (us : List DramUpset) : p (c.upsets us) = p c := foldl_keeps p _ (fun c _ => c.upset_keeps p hp _ _ _) us c

@[simp] theorem Column.upsets_phase (c : Column) (us : List DramUpset) : (c.upsets us).phase = c.phase := c.upsets_keeps Column.phase (fun _ _ _ => rfl) us
@[simp] theorem Column.upsets_queue (c : Column) (us : List DramUpset) : (c.upsets us).queue = c.queue := c.upsets_keeps Column.queue (fun _ _ _ => rfl) us

theorem Fabric.disturb_work (f : Fabric) (x : SiteIx) (su : List ScratchUpset) (du : List DramUpset) : SiteWork x f (f.disturb x su du) :=
  (SiteWork.setSite ..).trans (SiteWork.setCol ..)

@[simp] theorem Fabric.site_disturb (f : Fabric) (x : SiteIx) (su : List ScratchUpset) (du : List DramUpset) :
    (f.disturb x su du).site x = (f.site x).upsets su := Fabric.site_setSite ..
@[simp] theorem Fabric.col_disturb (f : Fabric) (x : SiteIx) (su : List ScratchUpset) (du : List DramUpset) :
    (f.disturb x su du).col x = (f.col x).upsets du := Fabric.col_setCol ..
@[simp] theorem Fabric.disturb_inbox (f : Fabric) (x : SiteIx) (su : List ScratchUpset) (du : List DramUpset) : (f.disturb x su du).inbox = f.inbox := rfl
@[simp] theorem Fabric.disturb_reports (f : Fabric) (x : SiteIx) (su : List ScratchUpset) (du : List DramUpset) : (f.disturb x su du).reports = f.reports := rfl
@[simp] theorem Fabric.disturb_samplers (f : Fabric) (x : SiteIx) (su : List ScratchUpset) (du : List DramUpset) : (f.disturb x su du).samplers = f.samplers := rfl

-- Streams of a site ---------------------------------------------------------------------------------------------------

@[simp] theorem Site.setStream_sems (s : Site) (n : StreamId) (v : Stream) : (s.setStream n v).sems = s.sems := rfl
@[simp] theorem Site.setStream_scratch (s : Site) (n : StreamId) (v : Stream) : (s.setStream n v).scratch = s.scratch := rfl
@[simp] theorem Site.setStream_poison (s : Site) (n : StreamId) (v : Stream) : (s.setStream n v).poison = s.poison := rfl
@[simp] theorem Site.setStream_tags (s : Site) (n : StreamId) (v : Stream) : (s.setStream n v).tags = s.tags := rfl
@[simp] theorem Site.setStream_peers (s : Site) (n : StreamId) (v : Stream) : (s.setStream n v).peers = s.peers := rfl
@[simp] theorem Site.setStream_arr (s : Site) (n : StreamId) (v : Stream) : (s.setStream n v).arr = s.arr := rfl

@[simp] theorem Site.setStream_setStream (s : Site) (n : StreamId) (v w : Stream) : (s.setStream n v).setStream n w = s.setStream n w := by
  simp [Site.setStream]

theorem Site.setStream_stream (s : Site) (n : StreamId) : s.setStream n (s.stream n) = s := by
  simp [Site.setStream, Site.stream]

-- Faults (R38) --------------------------------------------------------------------------------------------------------

/-- A stream as a fault leaves it. -/
def Stream.faulted (v : Stream) (k : Cause) : Stream :=
  if v.state = .faulted then v
  else { v with state := .faulted, lastFault := k.code, held := none, want := none, granted := false, refetch := none, fence := none, ending := false }

/-- A site as a fault of one of its streams leaves it. -/
def Site.faulted (s : Site) (n : StreamId) (k : Cause) : Site :=
  let a := { s.setStream n ((s.stream n).faulted k) with arr := s.arr.unwait (s.stream n) n }
  if k = .scratchParity then { a with parityFaults := satAdd 16 a.parityFaults 1 } else a

theorem Stream.faulted_of_ne {v : Stream} (k : Cause) (h : v.state ≠ .faulted) : v.faulted k =
    { v with state := .faulted, lastFault := k.code, held := none, want := none, granted := false, refetch := none, fence := none, ending := false } :=
  if_neg h

@[simp] theorem Stream.faulted_state (v : Stream) (k : Cause) : (v.faulted k).state = .faulted := by
  unfold Stream.faulted
  split
  · assumption
  · rfl

/-- A fault keeps what a stream has in flight. -/
theorem Stream.faulted_keeps {γ : Type} (p : Stream → γ) (hp : ∀ (v : Stream) a b c d e f g h,
    p { v with state := a, lastFault := b, held := c, want := d, granted := e, refetch := f, fence := g, ending := h } = p v) (v : Stream) (k : Cause) :
    p (v.faulted k) = p v := ite_keeps p rfl (hp v ..)

@[simp] theorem Stream.faulted_tag (v : Stream) (k : Cause) : (v.faulted k).tag = v.tag := v.faulted_keeps Stream.tag (fun _ _ _ _ _ _ _ _ _ => rfl) k
@[simp] theorem Stream.faulted_steps (v : Stream) (k : Cause) : (v.faulted k).steps = v.steps := v.faulted_keeps Stream.steps (fun _ _ _ _ _ _ _ _ _ => rfl) k

theorem Site.faulted_keeps {γ : Type} (p : Site → γ) (hp : ∀ (s : Site) a b n, p { s with streams := a, arr := b, parityFaults := n } = p s) (s : Site)
    (n : StreamId) (k : Cause) : p (s.faulted n k) = p s := by
  unfold Site.faulted
  exact ite_keeps p (hp s ..) (hp s _ _ s.parityFaults)

@[simp] theorem Site.faulted_sems (s : Site) (n : StreamId) (k : Cause) : (s.faulted n k).sems = s.sems := s.faulted_keeps Site.sems (fun _ _ _ _ => rfl) n k
@[simp] theorem Site.faulted_scratch (s : Site) (n : StreamId) (k : Cause) : (s.faulted n k).scratch = s.scratch :=
  s.faulted_keeps Site.scratch (fun _ _ _ _ => rfl) n k
@[simp] theorem Site.faulted_byte (s : Site) (n : StreamId) (k : Cause) (a : Nat) : (s.faulted n k).byte a = s.byte a :=
  s.faulted_keeps (fun s => s.byte a) (fun _ _ _ _ => rfl) n k
@[simp] theorem Site.faulted_poison (s : Site) (n : StreamId) (k : Cause) : (s.faulted n k).poison = s.poison :=
  s.faulted_keeps Site.poison (fun _ _ _ _ => rfl) n k
@[simp] theorem Site.faulted_peers (s : Site) (n : StreamId) (k : Cause) : (s.faulted n k).peers = s.peers :=
  s.faulted_keeps Site.peers (fun _ _ _ _ => rfl) n k

theorem Site.faulted_streams (s : Site) (n : StreamId) (k : Cause) : (s.faulted n k).streams = (s.setStream n ((s.stream n).faulted k)).streams :=
  ite_keeps Site.streams rfl rfl

@[simp] theorem Site.stream_faulted (s : Site) (n : StreamId) (k : Cause) : (s.faulted n k).stream n = (s.stream n).faulted k :=
  (congrArg (fun l : Vector Stream 4 => l[n]) (s.faulted_streams n k)).trans (s.stream_setStream n _)

theorem Site.stream_faulted_ne (s : Site) {n m : StreamId} (k : Cause) (h : m ≠ n) : (s.faulted n k).stream m = s.stream m :=
  (congrArg (fun l : Vector Stream 4 => l[m]) (s.faulted_streams n k)).trans (s.stream_setStream_ne _ h)

/-- A fault of a stream that waits for no reload leaves the array alone. -/
theorem Site.faulted_of_no_refetch {s : Site} {n : StreamId} {k : Cause} (hk : k ≠ .scratchParity) (h : (s.stream n).refetch = none) :
    s.faulted n k = s.setStream n ((s.stream n).faulted k) := by
  simp only [Site.faulted, if_neg hk, ArraySt.unwait, h, Option.isSome_none, Bool.false_eq_true, if_false]
  rfl

/-- A fault report goes to the aggregator, and nothing else changes. -/
theorem Fabric.reportFault_eq (f : Fabric) (e : Env) (x : SiteIx) (t : TileId) (off : Nat) (i : FaultInfo) :
    ∃ l, f.reportFault e x t off i = { f with reports := l } := by
  unfold Fabric.reportFault
  cases i.cause <;> dsimp only
  case poisonConsumed => split <;> exact ⟨_, rfl⟩
  all_goals exact ⟨_, rfl⟩

/-- DETAIL2 as the token service engine is told it. -/
def FaultInfo.told (i : FaultInfo) : Nat :=
  match i.poisonAt with
  | some (k, _) => k + 1
  | none => i.extra

/-- All that a stream fault does. -/
theorem Fabric.faultStream_eq (f : Fabric) (e : Env) (x : SiteIx) (t : TileId) (n : StreamId) (off : Nat) (i : FaultInfo) :
    f.faultStream e x t n off i = Fabric.reportFault { f.setSite x ((f.site x).faulted n i.cause) with
      inbox := f.inbox ++ [TileMsg.fault t n ((f.site x).stream n).tag i.cause.code off i.told] } e x t off i := by
  have h : f.faultStream e x t n off i = Fabric.reportFault { f.setSite x ((f.site x).faulted n i.cause) with
      inbox := f.inbox ++ [TileMsg.fault t n (((f.site x).stream n).faulted i.cause).tag i.cause.code off i.told] } e x t off i := rfl
  rw [h, Stream.faulted_tag]

theorem Fabric.faultStream_shape (f : Fabric) (e : Env) (x : SiteIx) (t : TileId) (n : StreamId) (off : Nat) (i : FaultInfo) :
    ∃ l, f.faultStream e x t n off i = { f.setSite x ((f.site x).faulted n i.cause) with
      inbox := f.inbox ++ [TileMsg.fault t n ((f.site x).stream n).tag i.cause.code off i.told], reports := l } := by
  obtain ⟨l, hl⟩ := Fabric.reportFault_eq { f.setSite x ((f.site x).faulted n i.cause) with
    inbox := f.inbox ++ [TileMsg.fault t n ((f.site x).stream n).tag i.cause.code off i.told] } e x t off i
  exact ⟨l, (f.faultStream_eq ..).trans hl⟩

section
variable (f : Fabric) (e : Env) (x : SiteIx) (t : TileId) (n : StreamId) (off : Nat) (i : FaultInfo)

theorem Fabric.faultStream_work : SiteWork x f (f.faultStream e x t n off i) := by
  obtain ⟨l, hl⟩ := f.faultStream_shape e x t n off i
  rw [hl]
  exact (SiteWork.setSite x f _).trans (SiteWork.tells x _ _ _ _)

@[simp] theorem Fabric.faultStream_site : (f.faultStream e x t n off i).site x = (f.site x).faulted n i.cause := by
  obtain ⟨l, hl⟩ := f.faultStream_shape e x t n off i
  rw [hl]
  exact Fabric.site_setSite ..

@[simp] theorem Fabric.faultStream_inbox :
    (f.faultStream e x t n off i).inbox = f.inbox ++ [TileMsg.fault t n ((f.site x).stream n).tag i.cause.code off i.told] := by
  obtain ⟨l, hl⟩ := f.faultStream_shape e x t n off i
  rw [hl]

@[simp] theorem Fabric.faultStream_cols : (f.faultStream e x t n off i).cols = f.cols := by
  obtain ⟨l, hl⟩ := f.faultStream_shape e x t n off i
  rw [hl]
  rfl

@[simp] theorem Fabric.faultStream_col (y : SiteIx) : (f.faultStream e x t n off i).col y = f.col y :=
  congrArg (fun l : Tab Column => tget l Column.init y.val) (f.faultStream_cols e x t n off i)

@[simp] theorem Fabric.faultStream_samplers : (f.faultStream e x t n off i).samplers = f.samplers := by
  obtain ⟨l, hl⟩ := f.faultStream_shape e x t n off i
  rw [hl]
  rfl

end

-- Semaphores (R39, R40) -----------------------------------------------------------------------------------------------

/-- The waiting take of one stream served where its units are there. -/
def Site.serveOne (s : Site) (n : StreamId) : Site :=
  match (s.stream n).want with
  | some (q, k) =>
    if (s.stream n).state = .waiting && k ≤ (s.sems[q]).toNat then
      { s.setStream n { s.stream n with state := .running, want := none, granted := true } with sems := s.sems.set q (BitVec.ofNat 16 ((s.sems[q]).toNat - k)) }
    else s
  | none => s

theorem Site.serve_eq (s : Site) : s.serve = allStreams.foldl Site.serveOne s := rfl

theorem Site.serveOne_keeps {γ : Type} (p : Site → γ) (hp : ∀ (s : Site) a b, p { s with streams := a, sems := b } = p s) (s : Site) (n : StreamId) :
    p (s.serveOne n) = p s := by
  unfold Site.serveOne
  split
  · exact ite_keeps p (hp s _ _) rfl
  · rfl

theorem Site.serve_keeps {γ : Type} (p : Site → γ) (hp : ∀ (s : Site) a b, p { s with streams := a, sems := b } = p s) (s : Site) : p s.serve = p s :=
  foldl_keeps p Site.serveOne (fun s n => s.serveOne_keeps p hp n) allStreams s

/-- What serving a stream leaves of every stream: all but its state, its take and its grant. -/
theorem Site.serveOne_stream_keeps {γ : Type} (p : Stream → γ) (hp : ∀ (v : Stream) a b c, p { v with state := a, want := b, granted := c } = p v)
    (s : Site) (n m : StreamId) : p ((s.serveOne n).stream m) = p (s.stream m) := by
  unfold Site.serveOne
  split
  · refine ite_keeps (fun s : Site => p (s.stream m)) ?_ rfl
    by_cases h : m = n
    · subst h
      exact (congrArg p (s.stream_setStream m _)).trans (hp ..)
    · exact congrArg p (s.stream_setStream_ne _ h)
  · rfl

theorem Site.serve_stream_keeps {γ : Type} (p : Stream → γ) (hp : ∀ (v : Stream) a b c, p { v with state := a, want := b, granted := c } = p v)
    (s : Site) (m : StreamId) : p (s.serve.stream m) = p (s.stream m) :=
  foldl_keeps (fun s : Site => p (s.stream m)) Site.serveOne (fun s n => s.serveOne_stream_keeps p hp n m) allStreams s

/-- Only a waiting stream is served. -/
theorem Site.serveOne_stream (s : Site) (n : StreamId) {m : StreamId} (h : (s.stream m).state ≠ .waiting) : (s.serveOne n).stream m = s.stream m := by
  unfold Site.serveOne
  split
  · split
    next hc =>
      refine s.stream_setStream_ne _ (fun hm => h ?_)
      subst hm
      exact of_decide_eq_true (Bool.and_eq_true .. ▸ hc).1
    · rfl
  · rfl

theorem Site.serve_stream (s : Site) {m : StreamId} (h : (s.stream m).state ≠ .waiting) : s.serve.stream m = s.stream m := by
  rw [Site.serve_eq]
  induction allStreams generalizing s with
  | nil => rfl
  | cons n l ih =>
    have hs := s.serveOne_stream n h
    exact (ih (s.serveOne n) (hs ▸ h)).trans hs

/-- With no waiting take there is nothing to serve. -/
theorem Site.serve_of_no_takes (s : Site) (h : ∀ m : StreamId, (s.stream m).state = .waiting → (s.stream m).want = none) : s.serve = s := by
  have hone (m : StreamId) : s.serveOne m = s := by
    unfold Site.serveOne
    split
    next q k hw =>
      refine if_neg (fun hc => ?_)
      have := h m (of_decide_eq_true (Bool.and_eq_true .. ▸ hc).1)
      simp [this] at hw
    · rfl
  rw [Site.serve_eq]
  induction allStreams with
  | nil => rfl
  | cons n l ih => rw [List.foldl_cons, hone, ih]

/-- The value that a semaphore holds after an add. -/
def semAfter (now n : Nat) : BitVec 16 := BitVec.ofNat 16 (if 0xFFFF < now + n then 0xFFFF else now + n)

theorem Site.add_eq (s : Site) (q : Fin 32) (n : Nat) :
    s.add q n = (Site.serve { s with sems := s.sems.set q (semAfter (s.sems[q]).toNat n) }, decide (0xFFFF < (s.sems[q]).toNat + n)) := by
  simp only [Site.add, semAfter, decide_eq_true_eq]

theorem Site.add_keeps {γ : Type} (p : Site → γ) (hp : ∀ (s : Site) a b, p { s with streams := a, sems := b } = p s) (s : Site) (q : Fin 32) (n : Nat) :
    p (s.add q n).1 = p s := by
  rw [Site.add_eq]
  exact (Site.serve_keeps p hp _).trans (hp s s.streams _)

theorem Site.add_stream (s : Site) (q : Fin 32) (n : Nat) {m : StreamId} (h : (s.stream m).state ≠ .waiting) : (s.add q n).1.stream m = s.stream m := by
  rw [Site.add_eq]
  exact Site.serve_stream { s with sems := _ } h

theorem Site.add_stream_keeps {γ : Type} (p : Stream → γ) (hp : ∀ (v : Stream) a b c, p { v with state := a, want := b, granted := c } = p v)
    (s : Site) (q : Fin 32) (n : Nat) (m : StreamId) : p ((s.add q n).1.stream m) = p (s.stream m) := by
  rw [Site.add_eq]
  exact Site.serve_stream_keeps p hp _ m

theorem Site.add_of_no_takes (s : Site) (q : Fin 32) (n : Nat) (h : ∀ m : StreamId, (s.stream m).state = .waiting → (s.stream m).want = none) :
    (s.add q n).1 = { s with sems := s.sems.set q (semAfter (s.sems[q]).toNat n) } := by
  rw [Site.add_eq]
  exact Site.serve_of_no_takes { s with sems := _ } h

theorem semAfter_of_fits {now n : Nat} (h : now + n ≤ 0xFFFF) : semAfter now n = BitVec.ofNat 16 (now + n) := by
  rw [semAfter, if_neg (by omega)]

theorem Fabric.localAdd_eq (f : Fabric) (e : Env) (x : SiteIx) (t : TileId) (n : StreamId) (off : Nat) (q : Fin 32) (k : Nat) :
    f.localAdd e x t n off q k = if 0xFFFF < ((f.site x).sems[q]).toNat + k then
      (f.setSite x ((f.site x).add q k).1).faultStream e x t n off (FaultInfo.of .semOverflow) else f.setSite x ((f.site x).add q k).1 := by
  have h : ((f.site x).add q k).2 = decide (0xFFFF < ((f.site x).sems[q]).toNat + k) := rfl
  simp only [Fabric.localAdd, h, decide_eq_true_eq]

theorem Fabric.localAdd_of_fits {f : Fabric} (e : Env) {x : SiteIx} (t : TileId) (n : StreamId) (off : Nat) {q : Fin 32} {k : Nat}
    (h : ((f.site x).sems[q]).toNat + k ≤ 0xFFFF) : f.localAdd e x t n off q k = f.setSite x ((f.site x).add q k).1 := by
  rw [Fabric.localAdd_eq, if_neg (by omega)]

theorem Fabric.localAdd_work (f : Fabric) (e : Env) (x : SiteIx) (t : TileId) (n : StreamId) (off : Nat) (q : Fin 32) (k : Nat) :
    SiteWork x f (f.localAdd e x t n off q k) := by
  rw [Fabric.localAdd_eq]
  split
  · exact (SiteWork.setSite ..).trans (Fabric.faultStream_work ..)
  · exact .setSite ..

theorem Fabric.modStream_work (f : Fabric) (x : SiteIx) (n : StreamId) (g : Stream → Stream) : SiteWork x f (f.modStream x n g) := .setSite ..

-- Reaching a descriptor (R31) -----------------------------------------------------------------------------------------

theorem Fabric.reach_work (f : Fabric) (e : Env) (x : SiteIx) (t : TileId) (n : StreamId) : SiteWork x f (f.reach e x t n) := by
  unfold Fabric.reach
  dsimp only
  split
  · exact .refl ..
  · split
    · exact Fabric.faultStream_work ..
    · split
      · exact Fabric.faultStream_work ..
      · exact .refl ..

/-- A stream that does not run, is at its end, or has reached a descriptor that is there and not poisoned goes on. -/
theorem Fabric.reach_of_clear {f : Fabric} (e : Env) {x : SiteIx} (t : TileId) {n : StreamId} {v : Stream} (hv : (f.site x).stream n = v)
    (h : v.state ≠ .running ∨ v.ending = true ∨ (v.pc < 0x18000000 ∧ v.poisonAt v.pc = none)) : f.reach e x t n = f := by
  subst hv
  unfold Fabric.reach
  dsimp only
  split
  · rfl
  next hc =>
    simp only [Bool.or_eq_true, not_or, ne_eq, Decidable.not_not, decide_eq_true_eq] at hc
    obtain h | h | ⟨hpc, hp⟩ := h
    · exact absurd hc.1 h
    · exact absurd h hc.2
    · rw [if_neg (by unfold colEnd; omega), hp]

/-- One that has reached the hole faults. -/
theorem Fabric.reach_of_hole {f : Fabric} (e : Env) {x : SiteIx} (t : TileId) {n : StreamId} {v : Stream} (hv : (f.site x).stream n = v)
    (hr : v.state = .running) (he : v.ending = false) (hpc : 0x18000000 ≤ v.pc) :
    f.reach e x t n = f.faultStream e x t n v.pc (FaultInfo.of .addressHole) := by
  subst hv
  unfold Fabric.reach
  dsimp only
  rw [if_neg (by simp [hr, he]), if_pos (by unfold colEnd; omega)]

end Sys2Proof.Machine
end

section
/-! PROOFS. Transfers of a column by the steps of its site (R156, R161): which of them only read, and what the work of each opcode leaves of its site
and column until it completes (R41, R42, R50). -/

namespace Sys2Proof.Machine
open Sys2Proof

-- Transfers leave everything but sites, columns and reports ----------------------------------------------------------

theorem Fabric.noteRead_keeps {γ : Type} (p : Fabric → γ) (hc : ∀ (f : Fabric) x c, p (f.setCol x c) = p f)
    (hr : ∀ (f : Fabric) l, p { f with reports := l } = p f) (f : Fabric) (e : Env) (x : SiteIx) (cls ri : Nat) (rs : List SecRead) :
    p (f.noteRead e x cls ri rs) = p f := by
  unfold Fabric.noteRead
  dsimp only
  refine (foldl_keeps p _ (fun f q => ite_keeps p (hr f _) (hr f _)) _ _).trans ((foldl_keeps p _ (fun f q => ite_keeps p (hr f _) rfl) _ _).trans
    ((foldl_keeps p _ (fun f k => hr f _) _ _).trans (hc f x _)))

theorem Fabric.xferWrite_rest (f : Fabric) (x : SiteIx) (ws : List SectorWrite) : (f.xferWrite x ws).rest = f.rest := ite_keeps Fabric.rest rfl rfl

theorem Fabric.perform_rest (f : Fabric) (e : Env) (x : SiteIx) (r : RowReqRec) (errs : List SymErr) : (f.perform e x r errs).rest = f.rest :=
  ite_keeps Fabric.rest (f.xferWrite_rest ..) (Fabric.noteRead_keeps Fabric.rest (fun _ _ _ => rfl) (fun _ _ => rfl) ..)

theorem Fabric.before_rest (f : Fabric) (e : Env) (x : SiteIx) (ris : List Nat) : (f.before e x ris).rest = f.rest :=
  ite_keeps Fabric.rest rfl (foldl_keeps Fabric.rest _ (fun f r => f.perform_rest e x r []) _ (f.setCol x _))

/-- From halves f transfers of the column of site x have made halves g. -/
structure Transfers (x : SiteIx) (f g : Fabric) : Prop where
  work : ColumnWork x f g
  rest : g.rest = f.rest

theorem Transfers.refl (x : SiteIx) (f : Fabric) : Transfers x f f := ⟨.refl x f, rfl⟩

theorem Transfers.trans {x : SiteIx} {f g h : Fabric} (a : Transfers x f g) (b : Transfers x g h) : Transfers x f h :=
  ⟨a.work.trans b.work, b.rest.trans a.rest⟩

theorem Transfers.siteWork {x : SiteIx} {f g : Fabric} (h : Transfers x f g) : SiteWork x f g :=
  ⟨h.work.siteOff, h.work.colOff, congrArg (fun f : Fabric => { f with inbox := [], samplers := [] }) h.rest⟩

/-- Of the site itself transfers change tags alone. -/
theorem Transfers.site_keeps {γ : Type} (p : Site → γ) (hp : ∀ s : Site, p { s with tags := [] } = p s) {x : SiteIx} {f g : Fabric} (h : Transfers x f g) :
    p (g.site x) = p (f.site x) := (hp _).symm.trans ((congrArg p h.work.siteAt).trans (hp _))

theorem Transfers.inbox {x : SiteIx} {f g : Fabric} (h : Transfers x f g) : g.inbox = f.inbox := by
  have h := congrArg Fabric.inbox h.rest; exact h
theorem Transfers.samplers {x : SiteIx} {f g : Fabric} (h : Transfers x f g) : g.samplers = f.samplers := by
  have h := congrArg Fabric.samplers h.rest; exact h

/-- From halves f reads of the column of site x have made halves g: where no request waits before them, the stored sectors and the site are as
they were. -/
structure Reads (x : SiteIx) (f g : Fabric) : Prop where
  transfers : Transfers x f g
  quiet : (f.col x).queue = [] → g.sites = f.sites ∧ (g.col x).queue = [] ∧ (g.col x).cells = (f.col x).cells

theorem Reads.refl (x : SiteIx) (f : Fabric) : Reads x f f := ⟨.refl x f, fun h => ⟨rfl, h, rfl⟩⟩

theorem Reads.trans {x : SiteIx} {f g h : Fabric} (a : Reads x f g) (b : Reads x g h) : Reads x f h := by
  refine ⟨a.transfers.trans b.transfers, fun hq => ?_⟩
  obtain ⟨hs, hq', hc⟩ := a.quiet hq
  obtain ⟨hs', hq'', hc'⟩ := b.quiet hq'
  exact ⟨hs'.trans hs, hq'', hc'.trans hc⟩

/-- Reads one after another, where what they gather is kept beside the halves. -/
theorem reads_foldl {α σ : Type} {x : SiteIx} (fab : σ → Fabric) (step : σ → α → σ) (h : ∀ g a, Reads x (fab g) (fab (step g a))) (l : List α) (g : σ) :
    Reads x (fab g) (fab (l.foldl step g)) := by
  induction l generalizing g with
  | nil => exact .refl ..
  | cons a r ih => exact (h g a).trans (ih _)

/-- What a read leaves of a column: the waiting requests and the stored sectors. -/
def Column.kept (c : Column) : List RowReqRec × Tab Sector := (c.queue, c.cells)

theorem Column.noteSector_kept (c : Column) (ri s : Nat) (r : SecRead) : (c.noteSector ri s r).kept = c.kept := by
  unfold Column.noteSector; split <;> rfl

theorem Column.markColDue_kept (c : Column) (e : Env) : (c.markColDue e).1.kept = c.kept := by
  unfold Column.markColDue; dsimp only; split <;> rfl

theorem Column.declareLane_kept (c : Column) (e : Env) : (c.declareLane e).1.kept = c.kept := by
  unfold Column.declareLane
  have keeps := @ite_keeps _ _ (fun p : Column × List (Nat × Nat × Nat × Bool) => p.1.kept)
  refine foldl_keeps (fun p : Column × List (Nat × Nat × Nat × Bool) => p.1.kept) _ (fun p bb => keeps rfl ?_) _ _
  split
  · rfl
  · exact keeps rfl (keeps rfl (keeps rfl rfl))

/-- The column after a read: counters, the read hint, repairs that have come due. -/
theorem Fabric.noteRead_col (f : Fabric) (e : Env) (x : SiteIx) (cls ri : Nat) (rs : List SecRead) :
    (f.noteRead e x cls ri rs).col x = (((rs.zipIdx.foldl (fun (c : Column) q => c.noteSector ri q.2 q.1)
      { f.col x with xfers := (f.col x).xfers + 1 }).markColDue e).1.declareLane e).1 := by
  have hfold {α : Type} (step : Fabric → α → Fabric) (h : ∀ f a, (step f a).col x = f.col x) (l : List α) (f : Fabric) : (l.foldl step f).col x = f.col x :=
    foldl_keeps (fun f : Fabric => f.col x) step h l f
  unfold Fabric.noteRead
  dsimp only
  rw [hfold, hfold, hfold, Fabric.col_setCol]
  · exact fun _ _ => rfl
  · exact fun _ _ => by split <;> rfl
  · exact fun _ _ => by split <;> rfl

theorem Fabric.noteRead_kept (f : Fabric) (e : Env) (x : SiteIx) (cls ri : Nat) (rs : List SecRead) :
    ((f.noteRead e x cls ri rs).col x).kept = (f.col x).kept := by
  rw [Fabric.noteRead_col, Column.declareLane_kept, Column.markColDue_kept]
  exact foldl_keeps Column.kept (fun (c : Column) (q : SecRead × Nat) => c.noteSector ri q.2 q.1) (fun c q => c.noteSector_kept ri q.2 q.1) _ _

theorem Fabric.noteRead_reads (f : Fabric) (e : Env) (x : SiteIx) (cls ri : Nat) (rs : List SecRead) : Reads x f (f.noteRead e x cls ri rs) := by
  have hk := f.noteRead_kept e x cls ri rs
  exact ⟨⟨f.noteRead_work .., Fabric.noteRead_keeps Fabric.rest (fun _ _ _ => rfl) (fun _ _ => rfl) ..⟩, fun hq =>
    ⟨Fabric.noteRead_keeps Fabric.sites (fun _ _ _ => rfl) (fun _ _ => rfl) .., (congrArg Prod.fst hk).trans hq, congrArg Prod.snd hk⟩⟩

theorem Fabric.before_transfers (f : Fabric) (e : Env) (x : SiteIx) (ris : List Nat) : Transfers x f (f.before e x ris) :=
  ⟨f.before_work e x ris, f.before_rest e x ris⟩

theorem Fabric.before_reads (f : Fabric) (e : Env) (x : SiteIx) (ris : List Nat) : Reads x f (f.before e x ris) :=
  ⟨f.before_transfers e x ris, fun hq => (f.before_of_queue_nil e x ris hq).symm ▸ ⟨rfl, hq, rfl⟩⟩

theorem Fabric.readRow_reads (f : Fabric) (e : Env) (x : SiteIx) (cls ri : Nat) (errs : List SymErr) : Reads x f (f.readRow e x cls ri errs).1 :=
  (f.before_reads e x [ri]).trans (Fabric.noteRead_reads ..)

theorem Fabric.writeSectors_transfers (f : Fabric) (e : Env) (x : SiteIx) (ws : List SectorWrite) : Transfers x f (f.writeSectors e x ws) :=
  ⟨f.writeSectors_work e x ws, (Fabric.xferWrite_rest ..).trans (f.before_rest ..)⟩

theorem Fabric.readRows_reads (f : Fabric) (e : Env) (x : SiteIx) (cls : Nat) (ris : List Nat) : Reads x f (f.readRows e x cls ris).1 := by
  refine reads_foldl Prod.fst _ (fun p ri => ?_) ris (f, [])
  exact p.1.readRow_reads e x cls ri []

theorem readPage_reads (f : Fabric) (e : Env) (x : SiteIx) (cls page n : Nat) : Reads x f (readPage f e x cls page n).1 := f.readRows_reads ..

-- The work of each opcode ---------------------------------------------------------------------------------------------

/-- What the work of a step leaves of the halves before it completes: of its site the tags and the array may differ, of the other sites and columns
nothing, and nothing beside sites, columns and reports. -/
structure Unfinished (c : StepCtx) (g : Fabric) : Prop where
  siteAt : { g.site c.x with tags := [], arr := ArraySt.init } = { c.site with tags := [], arr := ArraySt.init }
  siteOff : ∀ y : SiteIx, y ≠ c.x → g.site y = c.f.site y
  colOff : ∀ y : SiteIx, y ≠ c.x → g.col y = c.f.col y
  rest : g.rest = c.f.rest

theorem Transfers.unfinished {c : StepCtx} {g : Fabric} (h : Transfers c.x c.f g) : Unfinished c g :=
  ⟨congrArg (fun s : Site => { s with arr := ArraySt.init }) h.work.siteAt, h.work.siteOff, h.work.colOff, h.rest⟩

theorem unfinished_setArr (c : StepCtx) (a : ArraySt) : Unfinished c (c.f.setSite c.x { c.site with arr := a }) :=
  ⟨by rw [Fabric.site_setSite], fun _ hy => c.f.site_setSite_ne _ hy, fun _ _ => rfl, rfl⟩

section
variable {c : StepCtx} {g : Fabric} (h : Unfinished c g)
include h

theorem Unfinished.siteWork : SiteWork c.x c.f g :=
  ⟨h.siteOff, h.colOff, congrArg (fun f : Fabric => { f with inbox := [], samplers := [] }) h.rest⟩

theorem Unfinished.site_keeps {γ : Type} (p : Site → γ) (hp : ∀ (s : Site) t a, p { s with tags := t, arr := a } = p s) : p (g.site c.x) = p c.site :=
  (hp _ [] ArraySt.init).symm.trans ((congrArg p h.siteAt).trans (hp _ _ _))

theorem Unfinished.inbox : g.inbox = c.f.inbox := by
  have h := congrArg Fabric.inbox h.rest; exact h
theorem Unfinished.samplers : g.samplers = c.f.samplers := by
  have h := congrArg Fabric.samplers h.rest; exact h
theorem Unfinished.streams : (g.site c.x).streams = c.site.streams := h.site_keeps Site.streams (fun _ _ _ => rfl)
theorem Unfinished.stream (n : StreamId) : (g.site c.x).stream n = c.site.stream n := h.site_keeps (fun s => s.stream n) (fun _ _ _ => rfl)
theorem Unfinished.sems : (g.site c.x).sems = c.site.sems := h.site_keeps Site.sems (fun _ _ _ => rfl)
theorem Unfinished.scratch : (g.site c.x).scratch = c.site.scratch := h.site_keeps Site.scratch (fun _ _ _ => rfl)
theorem Unfinished.poison : (g.site c.x).poison = c.site.poison := h.site_keeps Site.poison (fun _ _ _ => rfl)
theorem Unfinished.peers : (g.site c.x).peers = c.site.peers := h.site_keeps Site.peers (fun _ _ _ => rfl)

end

theorem runMatmul_f (c : StepCtx) : ∃ a, (runMatmul c).f = c.f.setSite c.x { c.site with arr := a } := by
  unfold runMatmul
  dsimp only
  split
  · exact ⟨_, rfl⟩
  · split <;> exact ⟨_, rfl⟩
  · exact ⟨_, rfl⟩

theorem runRowLoad_reads (c : StepCtx) : Reads c.x c.f (runRowLoad c).f := c.f.readRows_reads ..
theorem runRowStore_reads (c : StepCtx) : Reads c.x c.f (runRowStore c).f := .refl ..
theorem runSend_reads (c : StepCtx) : Reads c.x c.f (runSend c).f := .refl ..
theorem runSample_reads (c : StepCtx) : Reads c.x c.f (runSample c).f := .refl ..
theorem runSignal_reads (c : StepCtx) : Reads c.x c.f (runSignal c).f := .refl ..
theorem runVec_reads (c : StepCtx) : Reads c.x c.f (runVec c).f := .refl ..
theorem runFill_reads (c : StepCtx) : Reads c.x c.f (runFill c).f := .refl ..
theorem runReduce_reads (c : StepCtx) : Reads c.x c.f (runReduce c).f := c.f.readRows_reads ..
theorem runRmsStats_reads (c : StepCtx) : Reads c.x c.f (runRmsStats c).f := c.f.readRows_reads ..

theorem reads_ite {x : SiteIx} {f : Fabric} {p : Prop} [Decidable p] {a b : RunOut} (ha : Reads x f a.f) (hb : Reads x f b.f) :
    Reads x f (if p then a else b).f := by
  split
  · exact ha
  · exact hb

theorem runLinear_reads (c : StepCtx) : Reads c.x c.f (runLinear c).f := reads_ite (c.f.readRows_reads ..) (.refl ..)
theorem runSkew_reads (c : StepCtx) : Reads c.x c.f (runSkew c).f := reads_ite (c.f.readRows_reads ..) (.refl ..)

theorem runMerge_reads (c : StepCtx) : Reads c.x c.f (runMerge c).f := by
  unfold runMerge
  dsimp only
  split
  · exact .refl ..
  · refine reads_ite (.refl ..) (reads_ite (.refl ..) (reads_ite (.refl ..) ?_))
    split <;> exact .refl ..

theorem takeEntry_reads (c : StepCtx) (h : QueryHeader) (last : Bool) (w : PageWalk) (en : PageEntry) : Reads c.x w.f (takeEntry c h last w en).f := by
  have hite {p : Prop} [Decidable p] {a b : PageWalk} (ha : Reads c.x w.f a.f) (hb : Reads c.x w.f b.f) : Reads c.x w.f (if p then a else b).f := by
    split
    · exact ha
    · exact hb
  unfold takeEntry
  refine hite (.refl ..) ?_
  dsimp only
  refine hite (.refl ..) (hite (.refl ..) (hite (.refl ..) ?_))
  split
  · exact readPage_reads ..
  · split
    · exact (readPage_reads ..).trans (readPage_reads ..)
    · exact (readPage_reads ..).trans (readPage_reads ..)

theorem runAttend_reads (c : StepCtx) : Reads c.x c.f (runAttend c).f := by
  unfold runAttend
  dsimp only
  split
  · exact .refl ..
  · split
    · exact .refl ..
    · refine reads_ite (.refl ..) (reads_ite (.refl ..) (reads_ite (.refl ..) ?_))
      split
      · exact .refl ..
      · refine reads_foldl PageWalk.f _ (fun w p => ?_) _ { f := c.f, pages := [], rows := [], bad := none }
        exact takeEntry_reads c _ _ w p.1

theorem runGather_reads (c : StepCtx) : Reads c.x c.f (runGather c).f := by
  have hite {g : GatherSt} {p : Prop} [Decidable p] {a b : GatherSt} (ha : Reads c.x g.f a.f) (hb : Reads c.x g.f b.f) : Reads c.x g.f (if p then a else b).f := by
    split
    · exact ha
    · exact hb
  unfold runGather
  dsimp only
  split
  · exact .refl ..
  · refine reads_foldl GatherSt.f _ (fun g i => ?_) _ { f := c.f, rows := [], writes := [], bad := none }
    exact hite (.refl ..) (hite (.refl ..) (hite (.refl ..) (Fabric.readRow_reads ..)))

theorem runScaleAdd_transfers (c : StepCtx) : Transfers c.x c.f (runScaleAdd c).f := by
  unfold runScaleAdd
  dsimp only
  split
  · exact .refl ..
  · exact (c.f.readRows_reads ..).transfers.trans (Fabric.writeSectors_transfers ..)

theorem Transfers.ite {x : SiteIx} {f : Fabric} {p : Prop} [Decidable p] {a b : Fabric} (ha : Transfers x f a) (hb : Transfers x f b) :
    Transfers x f (if p then a else b) := by
  split
  · exact ha
  · exact hb

theorem Fabric.scrub_transfers (f : Fabric) (e : Env) (x : SiteIx) (cls ri tile : Nat) (errs : List SymErr) : Transfers x f (f.scrub e x cls ri tile errs).1 := by
  unfold Fabric.scrub
  dsimp only
  refine Transfers.trans ?_ (Fabric.writeSectors_transfers ..)
  split
  · exact (Reads.trans (f.readRow_reads ..) (Fabric.readRow_reads ..)).transfers
  · exact (f.readRow_reads ..).transfers

theorem Fabric.rowRepairDue_transfers (f : Fabric) (e : Env) (x : SiteIx) (ri : Nat) : Transfers x f (f.rowRepairDue e x ri) := by
  unfold Fabric.rowRepairDue
  exact .ite ⟨ColumnWork.setCol f rfl, rfl⟩ ⟨ColumnWork.report .., rfl⟩

theorem runCheckRecomp_transfers (c : StepCtx) : Transfers c.x c.f (runCheckRecomp c).f := by
  have h (l : List Nat) : ∀ p : Fabric × List Scrub, Transfers c.x p.1 (l.foldl (fun (p : Fabric × List Scrub) ri =>
      let (g, s) := p.1.scrub c.e c.x 3 ri c.t.val []
      (if s.confirmed = 0 then g else g.rowRepairDue c.e c.x ri, p.2 ++ [s])) p).1 := by
    induction l with
    | nil => exact fun p => .refl ..
    | cons ri r ih =>
      exact fun p => (Transfers.ite (p.1.scrub_transfers ..) ((p.1.scrub_transfers ..).trans (Fabric.rowRepairDue_transfers ..))).trans (ih (_, _))
  exact h _ (c.f, [])

theorem runKvAppend_transfers (c : StepCtx) : Transfers c.x c.f (runKvAppend c).f := by
  have hite {p : Prop} [Decidable p] {a b : RunOut} (ha : Transfers c.x c.f a.f) (hb : Transfers c.x c.f b.f) : Transfers c.x c.f (if p then a else b).f := by
    split
    · exact ha
    · exact hb
  have hpage (n : Nat) : Transfers c.x c.f (readPage c.f c.e c.x 3 n 16384).1 := (readPage_reads ..).transfers
  unfold runKvAppend
  dsimp only
  split
  · exact .refl ..
  · refine hite (.refl ..) (hite (.refl ..) (hite (.refl ..) ?_))
    split
    · exact hpage _
    · refine hite (hpage _) (hite (hpage _) (hite (hpage _) (hite (hpage _) ?_)))
      split
      · exact hpage _
      · exact (hpage _).trans (Fabric.writeSectors_transfers ..)

/-- What the work of any step does to the column: a MATMUL nothing, a locked pair reads and writes it, any other work reads it. -/
theorem work_cases (c : StepCtx) : (c.d.opcode = 0x10 ∧ Work c = runMatmul c) ∨
    (c.d.opcode = 0x30 ∧ c.d.mod ∉ [1, 3, 4, 6] ∧ Transfers c.x c.f (Work c).f) ∨ Reads c.x c.f (Work c).f := by
  unfold Work
  split
  · exact .inr (.inr (runSignal_reads c))
  · unfold runAny
    split
    · exact .inr (.inr (runRowLoad_reads c))
    · exact .inr (.inr (runRowStore_reads c))
    · exact .inr (.inr (reads_ite (runLinear_reads c) (runSkew_reads c)))
    next hop => exact .inl ⟨hop, rfl⟩
    · exact .inr (.inr (reads_ite (runMerge_reads c) (runAttend_reads c)))
    · exact .inr (.inr (runVec_reads c))
    next hop =>
      split
      · exact .inr (.inr (runReduce_reads c))
      next hm => exact .inr (.inl ⟨hop, by simp [hm], runScaleAdd_transfers c⟩)
      · exact .inr (.inr (runGather_reads c))
      · exact .inr (.inr (runFill_reads c))
      next hm => exact .inr (.inl ⟨hop, by simp [hm], runKvAppend_transfers c⟩)
      · exact .inr (.inr (runRmsStats_reads c))
      · refine .inr (.inl ⟨hop, ?_, runCheckRecomp_transfers c⟩)
        simp_all
    · exact .inr (.inr (runSend_reads c))
    · exact .inr (.inr (runSample_reads c))

theorem work_transfers {c : StepCtx} (h : c.d.opcode ≠ 0x10) : Transfers c.x c.f (Work c).f := by
  obtain ⟨hop, -⟩ | ⟨-, -, ht⟩ | hr := work_cases c
  · exact absurd hop h
  · exact ht
  · exact hr.transfers

/-- The work of any step leaves its site and column as Unfinished says. -/
theorem work_unfinished (c : StepCtx) : Unfinished c (Work c).f := by
  obtain ⟨-, hm⟩ | ⟨-, -, ht⟩ | hr := work_cases c
  · obtain ⟨a, ha⟩ := runMatmul_f c
    exact hm.symm ▸ ha ▸ unfinished_setArr c a
  · exact ht.unfinished
  · exact hr.transfers.unfinished

/-- Only a MATMUL touches the array. -/
theorem work_arr {c : StepCtx} (h : c.d.opcode ≠ 0x10) : ((Work c).f.site c.x).arr = c.site.arr :=
  (work_transfers h).site_keeps Site.arr (fun _ => rfl)

/-- But for the locked pairs, work that no waiting request comes before leaves the stored sectors and the tags as they were. -/
theorem work_quiet {c : StepCtx} (hq : (c.f.col c.x).queue = []) (h : c.d.opcode = 0x30 → c.d.mod ∈ [1, 3, 4, 6]) :
    ((Work c).f.col c.x).cells = (c.f.col c.x).cells ∧ ((Work c).f.site c.x).tags = c.site.tags := by
  obtain ⟨-, hm⟩ | ⟨hop, hm, -⟩ | hr := work_cases c
  · obtain ⟨a, ha⟩ := runMatmul_f c
    rw [hm, ha, Fabric.site_setSite]
    exact ⟨rfl, rfl⟩
  · exact absurd (h hop) hm
  · obtain ⟨hs, -, hc⟩ := hr.quiet hq
    exact ⟨hc, congrArg (fun l : Tab Site => (tget l Site.init c.x.val).tags) hs⟩

/-- What the engine runs again after a reload (R52) is such work too. -/
theorem runAny_unfinished (c : StepCtx) : Unfinished c (runAny c).f := by
  by_cases h : c.d.opcode = 0x51
  · have hs : runAny c = runSample c := by simp only [runAny, h]
    exact hs ▸ (runSample_reads c).transfers.unfinished
  · have hw : Work c = runAny c := if_neg h
    exact hw ▸ work_unfinished c

end Sys2Proof.Machine
end

section
/-! PROOFS. The step commands: which descriptors each stands for and what its work is, and that fetching and issuing stay on the site of the tile
(R41, R42, R50; O23). -/

namespace Sys2Proof.Machine
open Sys2Proof

-- Issue stays on its site ---------------------------------------------------------------------------------------------

theorem SiteWork.ite {x : SiteIx} {f : Fabric} {p : Prop} [Decidable p] {a b : Fabric} (ha : SiteWork x f a) (hb : SiteWork x f b) :
    SiteWork x f (if p then a else b) := by
  split
  · exact ha
  · exact hb

theorem Fabric.sendSlice_work (x : SiteIx) (f : Fabric) (p : ClusterId × Slice) : SiteWork x f (f.sendSlice p) := .tells x f f.inbox f.reports _

theorem Fabric.enter_work (f : Fabric) (x : SiteIx) (n : StreamId) (d : Desc) (o : RunOut) (ef : StepEff) : SiteWork x f (f.enter x n d o ef) :=
  (SiteWork.setSite ..).trans (SiteWork.foldl (Fabric.sendSlice_work x) _ _)

/-- A run of a step stays on the site that it is given. -/
def StaysOnSite (run : StepCtx → RunOut) : Prop := ∀ c : StepCtx, SiteWork c.x c.f (run c).f

theorem Fabric.execute_work (f : Fabric) (e : Env) (x : SiteIx) (t : TileId) (n : StreamId) (d : Desc) {run : StepCtx → RunOut} (hr : StaysOnSite run) :
    SiteWork x f (f.execute e x t n d run) := by
  have h := hr { e := e, f := f, x := x, t := t, st := n, d := d, off := ((f.site x).stream n).pc }
  unfold Fabric.execute
  dsimp only
  split
  · exact (h.trans (Fabric.enter_work ..)).trans ((SiteWork.setSite ..).trans (Fabric.reach_work ..))
  · exact h.trans ((SiteWork.setSite ..).trans (Fabric.faultStream_work ..))
  · exact h.trans (SiteWork.setSite ..)

theorem Fabric.issue_work (f : Fabric) (e : Env) (x : SiteIx) (t : TileId) (n : StreamId) (sel : Desc → Bool) {run : StepCtx → RunOut}
    (hr : StaysOnSite run) : SiteWork x f (f.issue e x t n sel run) := by
  unfold Fabric.issue
  dsimp only
  split
  · exact .refl ..
  · refine .ite (.refl ..) ?_
    split
    · exact Fabric.faultStream_work ..
    · exact .ite (.refl ..) (.ite (.refl ..) (.ite (.setSite ..) ((SiteWork.setSite ..).trans (Fabric.execute_work _ _ _ _ _ _ hr))))

theorem Fabric.issueControl_work (f : Fabric) (e : Env) (x : SiteIx) (t : TileId) (n : StreamId) (sel : Desc → Bool)
    (ready : Site → Stream → Desc → Bool) {act : Fabric → Desc → Fabric} (ha : ∀ f d, SiteWork x f (act f d)) :
    SiteWork x f (f.issueControl e x t n sel ready act) := by
  unfold Fabric.issueControl
  dsimp only
  split
  · exact .refl ..
  · refine .ite (.refl ..) ?_
    split
    · exact Fabric.faultStream_work ..
    · exact .ite (.refl ..) (.ite (.setSite ..) ((SiteWork.setSite ..).trans ((ha _ _).trans (Fabric.reach_work ..))))

theorem Fabric.passBy_work (f : Fabric) (e : Env) (x : SiteIx) (t : TileId) (n : StreamId) (d : Desc) : SiteWork x f (f.passBy e x t n d) := by
  unfold Fabric.passBy
  exact .ite ((Fabric.modStream_work ..).trans (Fabric.localAdd_work ..)) (Fabric.modStream_work ..)

-- The command of each descriptor --------------------------------------------------------------------------------------

/-- Command c carries out steps by `stepCmd`: it takes d, and its run of d is the work of d. -/
structure RunsStep (c : Instr) (i : StepIn) (d : Desc) (sel : Desc → Bool) (run : StepCtx → RunOut) : Prop where
  exec : ∀ s : State, exec c s = .next (s.onStep i.tile (fun e f => f.stepCmd e i sel run))
  takes : sel d = true
  work : ∀ k : StepCtx, k.d = d → run k = Work k
  stays : StaysOnSite run

theorem Reads.stays {run : StepCtx → RunOut} (h : ∀ c : StepCtx, Reads c.x c.f (run c).f) : StaysOnSite run := fun c => (h c).transfers.siteWork
theorem Transfers.stays {run : StepCtx → RunOut} (h : ∀ c : StepCtx, Transfers c.x c.f (run c).f) : StaysOnSite run := fun c => (h c).siteWork

theorem runMatmul_stays : StaysOnSite runMatmul := fun c => by
  obtain ⟨a, ha⟩ := runMatmul_f c
  exact ha ▸ SiteWork.setSite ..

/-- The work of an opcode other than SIGNAL is that of `runAny`. -/
theorem work_of_runAny {run : StepCtx → RunOut} {d : Desc} (hop : d.opcode ≠ 0x51) (h : ∀ k : StepCtx, k.d = d → run k = runAny k) (k : StepCtx)
    (hk : k.d = d) : run k = Work k := (h k hk).trans (if_neg (hk.symm ▸ hop)).symm

theorem opIs_of {d : Desc} {n : Nat} (h : d.opcode = n) : opIs n d = true := by simp [opIs, h]
theorem opModIs_of {d : Desc} {n m : Nat} (h : d.opcode = n) (hm : d.mod = m) : opModIs n m d = true := by simp [opModIs, h, hm]

/-- A VEC command. -/
theorem runsStep_vec {c : Instr} {i : StepIn} {d : Desc} {sel : Desc → Bool}
    (hexec : ∀ s : State, exec c s = .next (s.onStep i.tile (fun e f => f.stepCmd e i sel runVec))) (hop : d.opcode = 0x20) (hsel : sel d = true) :
    ∃ sel run, RunsStep c i d sel run :=
  ⟨sel, runVec, hexec, hsel, work_of_runAny (by simp [hop]) (fun k hk => by simp only [runAny, hk, hop]), Reads.stays runVec_reads⟩

/-- A near-bank command, whose work `runAny` finds by MOD. -/
theorem runsStep_nb {c : Instr} {i : StepIn} {d : Desc} {sel : Desc → Bool} {run : StepCtx → RunOut}
    (hexec : ∀ s : State, exec c s = .next (s.onStep i.tile (fun e f => f.stepCmd e i sel run))) (hop : d.opcode = 0x30) (hsel : sel d = true)
    (hrun : ∀ k : StepCtx, k.d = d → run k = runAny k) (hstay : StaysOnSite run) : ∃ sel run, RunsStep c i d sel run :=
  ⟨sel, run, hexec, hsel, work_of_runAny (by simp [hop]) hrun, hstay⟩

/-- Each command of a step with work runs the work of the descriptors that it stands for. -/
theorem runsStep_of_stepsAs {c : Instr} {i : StepIn} {d : Desc} (h : StepsAs c i d) : ∃ sel run, RunsStep c i d sel run := by
  unfold StepsAs at h
  rcases h with ⟨rfl, ho⟩ | ⟨rfl, ho⟩ | ⟨rfl, ho, hm⟩ | ⟨rfl, ho, hm⟩ | ⟨rfl, ho⟩ | ⟨rfl, ho, hm⟩ | ⟨rfl, ho, hm⟩ | ⟨rfl, ho, hm⟩ | hvec
  · exact ⟨_, runRowLoad, fun _ => rfl, opIs_of ho, work_of_runAny (by simp [ho]) (fun k hk => by simp only [runAny, hk, ho]), Reads.stays runRowLoad_reads⟩
  · exact ⟨_, runRowStore, fun _ => rfl, opIs_of ho, work_of_runAny (by simp [ho]) (fun k hk => by simp only [runAny, hk, ho]), Reads.stays runRowStore_reads⟩
  · exact ⟨_, runLinear, fun _ => rfl, by simp [opIs, ho, hm], work_of_runAny (by simp [ho]) (fun k hk => by simp only [runAny, hk, ho, if_pos hm]),
      Reads.stays runLinear_reads⟩
  · exact ⟨_, runSkew, fun _ => rfl, by simp [opIs, ho, hm], work_of_runAny (by simp [ho]) (fun k hk => by simp only [runAny, hk, ho, if_neg hm]),
      Reads.stays runSkew_reads⟩
  · exact ⟨_, runMatmul, fun _ => rfl, opIs_of ho, work_of_runAny (by simp [ho]) (fun k hk => by simp only [runAny, hk, ho]), runMatmul_stays⟩
  · exact ⟨_, runAttend, fun _ => rfl, by simp [opIs, ho, hm], work_of_runAny (by simp [ho]) (fun k hk => by simp [runAny, hk, ho, hm]),
      Reads.stays runAttend_reads⟩
  · exact ⟨_, runAttend, fun _ => rfl, by simp [opIs, ho, hm], work_of_runAny (by simp [ho]) (fun k hk => by simp [runAny, hk, ho, hm]),
      Reads.stays runAttend_reads⟩
  · exact ⟨_, runMerge, fun _ => rfl, by simp [opIs, ho, hm], work_of_runAny (by simp [ho]) (fun k hk => by simp [runAny, hk, ho, hm]),
      Reads.stays runMerge_reads⟩
  iterate 30
    rcases hvec with ⟨rfl, ho, hm⟩ | hvec
    · exact runsStep_vec (fun _ => rfl) ho (by simp [opIs, opModIs, ho, hm])
  rcases hvec with ⟨rfl, ho, hm⟩ | ⟨rfl, ho, hm⟩ | ⟨rfl, ho, hm⟩ | ⟨rfl, ho, hm⟩ | ⟨rfl, ho, hm⟩ | ⟨rfl, ho, hm⟩ | ⟨rfl, ho, hm⟩ | ⟨rfl, ho⟩ |
    ⟨rfl, ho⟩ | ⟨rfl, ho⟩
  · exact runsStep_nb (fun _ => rfl) ho (by simp [opIs, ho, hm]) (fun k hk => by simp only [runAny, hk, ho, hm]) (Reads.stays runReduce_reads)
  · exact runsStep_nb (fun _ => rfl) ho (opModIs_of ho hm) (fun k hk => by simp only [runAny, hk, ho, hm]) (Transfers.stays runScaleAdd_transfers)
  · exact runsStep_nb (fun _ => rfl) ho (opModIs_of ho hm) (fun k hk => by simp only [runAny, hk, ho, hm]) (Reads.stays runGather_reads)
  · exact runsStep_nb (fun _ => rfl) ho (opModIs_of ho hm) (fun k hk => by simp only [runAny, hk, ho, hm]) (Reads.stays runFill_reads)
  · exact runsStep_nb (fun _ => rfl) ho (opModIs_of ho hm) (fun k hk => by simp only [runAny, hk, ho, hm]) (Transfers.stays runKvAppend_transfers)
  · exact runsStep_nb (fun _ => rfl) ho (opModIs_of ho hm) (fun k hk => by simp only [runAny, hk, ho, hm]) (Reads.stays runRmsStats_reads)
  · exact runsStep_nb (fun _ => rfl) ho (opModIs_of ho hm) (fun k hk => by simp only [runAny, hk, ho, hm]) (Transfers.stays runCheckRecomp_transfers)
  · exact ⟨_, runSend, fun _ => rfl, opIs_of ho, work_of_runAny (by simp [ho]) (fun k hk => by simp only [runAny, hk, ho]), Reads.stays runSend_reads⟩
  · exact ⟨_, runSample, fun _ => rfl, opIs_of ho, work_of_runAny (by simp [ho]) (fun k hk => by simp only [runAny, hk, ho]), Reads.stays runSample_reads⟩
  · exact ⟨_, runSignal, fun _ => rfl, opIs_of ho, fun k hk => (if_pos (hk.symm ▸ ho)).symm, Reads.stays runSignal_reads⟩

/-- What a control opcode waits for beside its units and its order: the condition of a FENCE of scope STREAM, MESH or DEVICE. -/
def controlReady (i : StepIn) (v : Stream) (d : Desc) : Bool :=
  if d.opcode = 0x52 then
    match d.mod with
    | 0 => v.steps.isEmpty
    | 1 => true
    | 2 => v.steps.isEmpty && v.sends.all (fun p => tileHalf p.peer != tileHalf i.tile)
    | _ => v.steps.isEmpty && v.sends.isEmpty && v.slices == 0
  else true

/-- A FENCE of scope TILE reached, with the steps that it waits for. -/
def Fabric.fenceAct (f : Fabric) (e : Env) (i : StepIn) (x : SiteIx) (d : Desc) : Fabric :=
  let s := f.site x
  let left := ((s.stream i.stream).fence.getD s.inFlight).filter (fun p => s.inFlight.contains p)
  if left.isEmpty then f.passBy e x i.tile i.stream d else f.modStream x i.stream (fun v => { v with fence := some left, granted := true })

/-- A LOOP entered. -/
def Fabric.loopAct (f : Fabric) (e : Env) (i : StepIn) (x : SiteIx) (d : Desc) : Fabric :=
  let v := (f.site x).stream i.stream
  let first := v.pc + 32
  let fr : LoopFrame := { first := first, past := first + 32 * (d.len % 256), count := d.count, iter := 0, addr := sext 48 d.rawAddr
                          sa := sext 21 d.rawSa, sb := sext 21 d.rawSb, sd := sext 21 d.rawSd }
  let f := f.modStream x i.stream (fun v => { v with pc := first, loops := fr :: v.loops, granted := false, want := none })
  if d.sen then f.localAdd e x i.tile i.stream v.pc d.ssem 1 else f

/-- An END reached. -/
def Fabric.endAct (f : Fabric) (i : StepIn) (x : SiteIx) (d : Desc) : Fabric :=
  f.modStream x i.stream (fun v =>
    { v with ending := true, endSen := if d.sen then some d.ssem else none, pc := v.pc + 32, granted := false, want := none })

/-- What a control opcode does once it issues. -/
def Fabric.controlAct (f : Fabric) (e : Env) (i : StepIn) (x : SiteIx) (d : Desc) : Fabric :=
  if d.opcode = 0x52 ∧ d.mod = 1 then f.fenceAct e i x d
  else if d.opcode = 0x60 then f.loopAct e i x d
  else if d.opcode = 0x7F then f.endAct i x d
  else f.passBy e x i.tile i.stream d

theorem Fabric.loopAct_work (f : Fabric) (e : Env) (i : StepIn) (x : SiteIx) (d : Desc) : SiteWork x f (f.loopAct e i x d) :=
  .ite ((Fabric.modStream_work ..).trans (Fabric.localAdd_work ..)) (Fabric.modStream_work ..)

/-- Command c carries out control opcodes by `controlCmd`: it takes d, waits for the condition of d, and does what d does. -/
structure RunsControl (c : Instr) (i : StepIn) (d : Desc) (sel : Desc → Bool) (ready : Site → Stream → Desc → Bool)
    (act : Env → SiteIx → Fabric → Desc → Fabric) : Prop where
  exec : ∀ s : State, exec c s = .next (s.onStep i.tile (fun e f => f.controlCmd e i sel ready (act e)))
  takes : sel d = true
  ready : ∀ s v, ready s v d = controlReady i v d
  acts : ∀ e x f, act e x f d = f.controlAct e i x d
  stays : ∀ e x f d, SiteWork x f (act e x f d)

/-- The FENCE of a scope that passes by once its condition holds. -/
theorem runsControl_fence {c : Instr} {i : StepIn} {d : Desc} {scope : Nat}
    (hexec : ∀ s : State, exec c s = .next (s.onStep i.tile (fun e f => f.fence e i scope))) (hop : d.opcode = 0x52) (hm : d.mod = scope)
    (hs : scope = 0 ∨ scope = 2 ∨ scope = 3) : ∃ sel ready act, RunsControl c i d sel ready act := by
  refine ⟨_, _, _, hexec, ?_, fun s v => ?_, fun e x f => ?_, fun e x f d => .ite (Fabric.modStream_work ..) (Fabric.passBy_work ..)⟩
  · simp [opIs, hop, hm]
  · obtain rfl | rfl | rfl := hs <;> simp [controlReady, hop, hm]
  · have h1 : scope ≠ 1 := by omega
    simp [Fabric.controlAct, hop, hm, h1]

theorem runsControl_fenceTile {i : StepIn} {d : Desc} (hop : d.opcode = 0x52) (hm : d.mod = 1) :
    ∃ sel ready act, RunsControl (.fenceTile i) i d sel ready act := by
  refine ⟨_, _, _, fun _ => rfl, ?_, fun s v => ?_, fun e x f => ?_, fun e x f d => .ite (Fabric.modStream_work ..) (Fabric.passBy_work ..)⟩
  · simp [opIs, hop, hm]
  · simp [controlReady, hop, hm]
  · have hact : f.controlAct e i x d = f.fenceAct e i x d := if_pos ⟨hop, hm⟩
    rw [hact, Fabric.fenceAct]
    dsimp only
    cases (((((f.site x).stream i.stream).fence.getD (f.site x).inFlight).filter (fun p => (f.site x).inFlight.contains p))).isEmpty <;> rfl

/-- An opcode that passes by at once. -/
theorem runsControl_pass {c : Instr} {i : StepIn} {d : Desc} {sel : Desc → Bool} (hexec : ∀ s : State, exec c s =
      .next (s.onStep i.tile (fun e f => f.controlCmd e i sel (fun _ _ _ => true) (fun x f d => f.passBy e x i.tile i.stream d))))
    (hsel : sel d = true) (hf : d.opcode ≠ 0x52) (hl : d.opcode ≠ 0x60) (he : d.opcode ≠ 0x7F) : ∃ sel ready act, RunsControl c i d sel ready act := by
  refine ⟨sel, fun _ _ _ => true, fun e x f d => f.passBy e x i.tile i.stream d, hexec, hsel, fun s v => ?_, fun e x f => ?_, fun e x f d => Fabric.passBy_work ..⟩
  · rw [controlReady, if_neg hf]
  · rw [Fabric.controlAct, if_neg (fun h => hf h.1), if_neg hl, if_neg he]

/-- NOP, which also meets the descriptors of no known opcode. -/
theorem runsControl_nop {i : StepIn} {d : Desc} (h : d.opcode = 0x00 ∨ opKnown d = false) : ∃ sel ready act, RunsControl (.nop i) i d sel ready act := by
  have hne : ∀ n ∈ [0x52, 0x60, 0x7F], d.opcode ≠ n := by
    intro n hn he
    subst he
    obtain h | h := h
    · simp [h] at hn
    · refine Bool.false_ne_true (h.symm.trans ?_)
      simp only [opKnown, List.contains_eq_mem, decide_eq_true_eq]
      simp only [List.mem_cons, List.not_mem_nil, or_false] at hn ⊢
      omega
  refine runsControl_pass (fun _ => rfl) ?_ (hne _ (by simp)) (hne _ (by simp)) (hne _ (by simp))
  obtain h | h := h
  · simp [opIs, h]
  · simp [h]

/-- Each control command does what the descriptors that it stands for ask. -/
theorem runsControl_of_controlAs {c : Instr} {i : StepIn} {d : Desc} (h : ControlAs c i d) : ∃ sel ready act, RunsControl c i d sel ready act := by
  unfold ControlAs at h
  rcases h with ⟨rfl, ho⟩ | ⟨rfl, ho⟩ | ⟨rfl, ho, hm⟩ | ⟨rfl, ho, hm⟩ | ⟨rfl, ho, hm⟩ | ⟨rfl, ho, hm⟩ | ⟨rfl, ho⟩ | ⟨rfl, ho⟩
  case inl => exact runsControl_nop (.inl ho)
  case inr.inl => exact runsControl_pass (fun _ => rfl) (opIs_of ho) (by simp [ho]) (by simp [ho]) (by simp [ho])
  case inr.inr.inl => exact runsControl_fence (fun _ => rfl) ho hm (by simp)
  case inr.inr.inr.inl => exact runsControl_fenceTile ho hm
  case inr.inr.inr.inr.inl => exact runsControl_fence (fun _ => rfl) ho hm (by simp)
  case inr.inr.inr.inr.inr.inl => exact runsControl_fence (fun _ => rfl) ho hm (by simp)
  case inr.inr.inr.inr.inr.inr.inl =>
    refine ⟨_, _, fun e x f d => f.loopAct e i x d, fun _ => rfl, opIs_of ho, fun s v => ?_, fun e x f => ?_, fun e x f d => Fabric.loopAct_work ..⟩
    · simp [controlReady, ho]
    · simp [Fabric.controlAct, ho]
  case inr.inr.inr.inr.inr.inr.inr =>
    refine ⟨_, _, fun e x f d => f.endAct i x d, fun _ => rfl, opIs_of ho, fun s v => ?_, fun e x f => ?_, fun e x f d => Fabric.modStream_work ..⟩
    · simp [controlReady, ho]
    · simp [Fabric.controlAct, ho]

-- Fetching ------------------------------------------------------------------------------------------------------------

theorem Fabric.fetch_work (f : Fabric) (e : Env) (i : StepIn) {x : SiteIx} (h : f.siteOf i.tile = some x) : SiteWork x f (f.fetch e i) := by
  unfold Fabric.fetch
  rw [h]
  dsimp only
  have hd := f.disturb_work x i.scratchUps i.dramUps
  refine .ite hd (.ite (hd.trans (Fabric.reach_work ..)) ?_)
  exact (hd.trans (Fabric.readRow_reads ..).transfers.siteWork).trans ((Fabric.modStream_work ..).trans (Fabric.reach_work ..))

-- The statement -------------------------------------------------------------------------------------------------------

theorem Fabric.stepCmd_work (f : Fabric) (e : Env) (i : StepIn) (sel : Desc → Bool) {run : StepCtx → RunOut} (hr : StaysOnSite run) {x : SiteIx}
    (h : f.siteOf i.tile = some x) : SiteWork x f (f.stepCmd e i sel run) := by
  unfold Fabric.stepCmd
  rw [h]
  exact (f.disturb_work ..).trans (Fabric.issue_work _ _ _ _ _ _ hr)

theorem Fabric.controlCmd_work (f : Fabric) (e : Env) (i : StepIn) (sel : Desc → Bool) (ready : Site → Stream → Desc → Bool)
    {act : SiteIx → Fabric → Desc → Fabric} (ha : ∀ x f d, SiteWork x f (act x f d)) {x : SiteIx} (h : f.siteOf i.tile = some x) :
    SiteWork x f (f.controlCmd e i sel ready act) := by
  unfold Fabric.controlCmd
  rw [h]
  exact (f.disturb_work ..).trans (Fabric.issueControl_work _ _ _ _ _ _ _ (ha x))

/-- A tile that no site carries has no engine. -/
theorem Dev.engineOn_absent {d : Dev} {t : TileId} (h : d.fab.siteOf t = none) : d.engineOn t = false := by simp [Dev.engineOn, h]

/-- A command that works on the site of a tile, or does nothing, stays there; where no site carries the tile it does nothing. -/
theorem yields_stays {c : Instr} {i : StepIn} {s : State} {g : Env → Fabric → Fabric} {b : Bool}
    (hc : exec c s = .next (if b then s.onFab g else s.bump)) (hb : b = true → s.d.engineOn i.tile = true)
    (hg : ∀ f x, f.siteOf i.tile = some x → SiteWork x f (g s.env f)) :
    Yields c s (fun u => (∀ x : SiteIx, s.d.fab.siteOf i.tile = some x → OnlySite s u x) ∧ (s.d.fab.siteOf i.tile = none → u.d = s.d.bump)) := by
  refine ⟨_, hc, ?_⟩
  cases b with
  | true =>
    refine ⟨fun x hx => onlySite_withFab (hg s.d.bump.fab x hx), fun hn => ?_⟩
    exact absurd (hb rfl) (by simp [Dev.engineOn_absent hn])
  | false => exact ⟨fun x _ => onlySite_withFab (.refl x _), fun _ => rfl⟩

theorem Dev.engineOn_of_mayIssue {d : Dev} {t : TileId} (h : d.mayIssue t = true) : d.engineOn t = true := (Bool.and_eq_true .. ▸ h).1

/-- Settles O23: a step or a control command works by `stepCmd` or `controlCmd` on the site of its tile, and every operation of those stays there. -/
theorem stepsStayOnTheirSite : Obligations.StepsStayOnTheirSite := by
  rintro c i (⟨d, hstep | hcontrol⟩ | rfl) s
  · obtain ⟨sel, run, h⟩ := runsStep_of_stepsAs hstep
    exact yields_stays (h.exec s) Dev.engineOn_of_mayIssue (fun f x hx => f.stepCmd_work _ i sel h.stays hx)
  · obtain ⟨sel, ready, act, h⟩ := runsControl_of_controlAs hcontrol
    exact yields_stays (h.exec s) Dev.engineOn_of_mayIssue (fun f x hx => f.controlCmd_work _ i sel ready (h.stays s.env) hx)
  · exact yields_stays rfl id (fun f x hx => f.fetch_work _ i hx)

end Sys2Proof.Machine
end

section
/-! PROOFS. Issue of a step or a control opcode (R37 to R45, R474): the descriptor that stands next is taken, faults its stream, waits for its units, or
issues (O11 to O14). -/

namespace Sys2Proof.Machine
open Sys2Proof

-- The state in which a command finds its stream -----------------------------------------------------------------------

theorem Stream.nextDesc_some {v : Stream} {d : Desc} (h : v.nextDesc = some d) :
    v.state = .running ∧ v.ending = false ∧ v.refetch = none ∧ v.poisonAt v.pc = none := by
  unfold Stream.nextDesc at h
  split at h
  next hc => simpa [and_assoc] using hc
  · exact absurd h (by simp)

section
variable (s : State) (i : StepIn) (x : SiteIx)

@[simp] theorem struck_site : (Struck s i x).site x = (s.d.fab.site x).upsets i.scratchUps := Fabric.site_disturb ..
@[simp] theorem struck_stream (n : StreamId) : ((Struck s i x).site x).stream n = (s.d.fab.site x).stream n := by simp
@[simp] theorem struck_inbox : (Struck s i x).inbox = s.d.fab.inbox := rfl
@[simp] theorem struck_reports : (Struck s i x).reports = s.d.fab.reports := rfl
@[simp] theorem struck_samplers : (Struck s i x).samplers = s.d.fab.samplers := rfl

theorem struck_work : SiteWork x s.d.bump.fab (Struck s i x) := Fabric.disturb_work ..

end

/-- A step command works by `issue` on the halves that its disturbances have struck. -/
theorem RunsStep.yields {c : Instr} {i : StepIn} {d : Desc} {sel : Desc → Bool} {run : StepCtx → RunOut} (h : RunsStep c i d sel run) {s : State}
    {x : SiteIx} (hm : s.d.mayIssue i.tile = true) (hx : s.d.fab.siteOf i.tile = some x) {f : Fabric} {P : State → Prop}
    (hf : (Struck s i x).issue s.env x i.tile i.stream
      (fun d => sel d && (!usesColumn d || (Struck s i x).colReady x) && !(Struck s i x).sendHeld x i.tile d) run = f)
    (hP : P (s.withFab f)) : Yields c s P := by
  refine yields_onFab ((h.exec s).trans (congrArg Host.Outcome.next (if_pos hm))) ?_ hP
  have hx' : s.d.bump.fab.siteOf i.tile = some x := hx
  simp only [Fabric.stepCmd, hx']
  exact hf

/-- A control command works by `issueControl` on them. -/
theorem RunsControl.yields {c : Instr} {i : StepIn} {d : Desc} {sel : Desc → Bool} {ready : Site → Stream → Desc → Bool}
    {act : Env → SiteIx → Fabric → Desc → Fabric} (h : RunsControl c i d sel ready act) {s : State} {x : SiteIx} (hm : s.d.mayIssue i.tile = true)
    (hx : s.d.fab.siteOf i.tile = some x) {f : Fabric} {P : State → Prop}
    (hf : (Struck s i x).issueControl s.env x i.tile i.stream sel ready (act s.env x) = f) (hP : P (s.withFab f)) : Yields c s P := by
  refine yields_onFab ((h.exec s).trans (congrArg Host.Outcome.next (if_pos hm))) ?_ hP
  have hx' : s.d.bump.fab.siteOf i.tile = some x := hx
  simp only [Fabric.controlCmd, hx']
  exact hf

-- The units of a step -------------------------------------------------------------------------------------------------

/-- The semaphores once a step that finds its units has taken them. -/
def Site.unitsTaken (s : Site) (n : StreamId) (d : Desc) : Site :=
  { s with sems := if (s.stream n).granted = true then s.sems else s.sems.set d.wsem (BitVec.ofNat 16 ((s.sems[d.wsem]).toNat - takeUnits d)) }

theorem Site.take_of_units {s : Site} (e : Env) (x : SiteIx) {n : StreamId} {d : Desc}
    (h : (s.stream n).granted = true ∨ takeUnits d ≤ (s.sems[d.wsem]).toNat) : s.take e x n d = (s.unitsTaken n d, true) := by
  have hsame (h0 : takeUnits d = 0) : s.sems.set d.wsem (BitVec.ofNat 16 ((s.sems[d.wsem]).toNat - takeUnits d)) = s.sems := by
    rw [h0, Nat.sub_zero, BitVec.ofNat_toNat, BitVec.setWidth_eq]
    exact Vector.set_getElem_self ..
  unfold Site.take Site.unitsTaken
  dsimp only
  by_cases hg : (s.stream n).granted = true
  · simp [hg]
  · have hn := h.resolve_left hg
    by_cases h0 : takeUnits d = 0
    · rw [hsame h0]
      simp [h0]
    · simp [hg, h0]
      exact hn

/-- The stream waits for the units. -/
def Stream.waits (v : Stream) (e : Env) (x : SiteIx) (d : Desc) : Stream :=
  { v with state := .waiting, want := some (d.wsem, takeUnits d), waitFrom := blockTicks e.time (.stepEngine x) }

theorem Site.take_short {s : Site} (e : Env) (x : SiteIx) {n : StreamId} {d : Desc} (hg : (s.stream n).granted = false)
    (h : (s.sems[d.wsem]).toNat < takeUnits d) : s.take e x n d = (s.setStream n ((s.stream n).waits e x d), false) := by
  have h0 : takeUnits d ≠ 0 := by omega
  simp only [Site.take, Stream.waits, hg, h0, if_neg (Nat.not_le.mpr h), Bool.or_false, decide_false, Bool.false_eq_true, if_false]

theorem took_eq (s : State) (i : StepIn) (x : SiteIx) (d : Desc) :
    Took s i x d = (Struck s i x).setSite x (((Struck s i x).site x).unitsTaken i.stream d) := by
  simp only [Took, Site.unitsTaken, StreamOf, struck_site, Site.upsets_stream, Site.upsets_sems]
  rfl

section
variable (s : State) (i : StepIn) (x : SiteIx) (d : Desc)

theorem took_site : (Took s i x d).site x = ((s.d.fab.site x).upsets i.scratchUps).unitsTaken i.stream d := by
  rw [took_eq, Fabric.site_setSite, struck_site]

@[simp] theorem took_stream (n : StreamId) : ((Took s i x d).site x).stream n = (s.d.fab.site x).stream n := by
  rw [took_site]
  exact Site.upsets_stream ..

@[simp] theorem took_col (y : SiteIx) : (Took s i x d).col y = (Struck s i x).col y := rfl
@[simp] theorem took_inbox : (Took s i x d).inbox = s.d.fab.inbox := rfl
@[simp] theorem took_reports : (Took s i x d).reports = s.d.fab.reports := rfl
@[simp] theorem took_samplers : (Took s i x d).samplers = s.d.fab.samplers := rfl

theorem took_work : SiteWork x s.d.bump.fab (Took s i x d) := (struck_work s i x).trans (SiteWork.setSite ..)

end

-- What issue comes to -------------------------------------------------------------------------------------------------

section
variable {f : Fabric} {e : Env} {x : SiteIx} {t : TileId} {n : StreamId} {sel : Desc → Bool} {d : Desc} {v : Stream}

theorem Fabric.issue_bad {run : StepCtx → RunOut} {k : Cause} (hv : (f.site x).stream n = v) (hn : v.nextDesc = some d) (hs : sel d = true)
    (hk : issueCause v d = some k) : f.issue e x t n sel run = f.faultStream e x t n v.pc (FaultInfo.of k) := by
  subst hv
  simp only [Fabric.issue, hn, hs, hk, Bool.not_true, Bool.false_eq_true, if_false]

theorem Fabric.issueControl_bad {ready : Site → Stream → Desc → Bool} {act : Fabric → Desc → Fabric} {k : Cause} (hv : (f.site x).stream n = v)
    (hn : v.nextDesc = some d) (hs : sel d = true) (hk : issueCause v d = some k) :
    f.issueControl e x t n sel ready act = f.faultStream e x t n v.pc (FaultInfo.of k) := by
  subst hv
  simp only [Fabric.issueControl, hn, hs, hk, Bool.not_true, Bool.false_eq_true, if_false]

theorem Fabric.issue_good {run : StepCtx → RunOut} (hv : (f.site x).stream n = v) (hn : v.nextDesc = some d) (hs : sel d = true)
    (hk : issueCause v d = none) (ho : d.ord = true → v.steps = [])
    (hh : hazard v.steps (run { e := e, f := f, x := x, t := t, st := n, d := d, off := v.pc }) = false) :
    f.issue e x t n sel run = if ((f.site x).take e x n d).2 then (f.setSite x ((f.site x).take e x n d).1).execute e x t n d run
      else f.setSite x ((f.site x).take e x n d).1 := by
  subst hv
  have ho' : (d.ord && !((f.site x).stream n).steps.isEmpty) = false := by
    cases hd : d.ord
    · rfl
    · simp [ho hd]
  simp only [Fabric.issue, hn, hs, hk, ho', hh, Bool.not_true, Bool.false_eq_true, if_false]
  cases ((f.site x).take e x n d).2 <;> rfl

theorem Fabric.issueControl_good {ready : Site → Stream → Desc → Bool} {act : Fabric → Desc → Fabric} (hv : (f.site x).stream n = v)
    (hn : v.nextDesc = some d) (hs : sel d = true) (hk : issueCause v d = none) (ho : d.ord = true → v.steps = []) (hr : ready (f.site x) v d = true) :
    f.issueControl e x t n sel ready act = if ((f.site x).take e x n d).2 then (act (f.setSite x ((f.site x).take e x n d).1) d).reach e x t n
      else f.setSite x ((f.site x).take e x n d).1 := by
  subst hv
  have ho' : (d.ord && !((f.site x).stream n).steps.isEmpty) = false := by
    cases hd : d.ord
    · rfl
    · simp [ho hd]
  simp only [Fabric.issueControl, hn, hs, hk, ho', hr, Bool.not_true, Bool.false_or, Bool.false_eq_true, if_false]
  cases ((f.site x).take e x n d).2 <;> rfl

theorem Fabric.issueControl_unready {ready : Site → Stream → Desc → Bool} {act : Fabric → Desc → Fabric} (hv : (f.site x).stream n = v)
    (hn : v.nextDesc = some d) (hs : sel d = true) (hk : issueCause v d = none) (hr : ready (f.site x) v d = false) :
    f.issueControl e x t n sel ready act = f := by
  subst hv
  simp only [Fabric.issueControl, hn, hs, hk, hr, Bool.not_true, Bool.not_false, Bool.or_true, Bool.false_eq_true, if_false, if_true]

end

/-- A step command takes the descriptor that may run. -/
theorem RunsStep.sel_of_mayRun {c : Instr} {i : StepIn} {d : Desc} {sel : Desc → Bool} {run : StepCtx → RunOut} (h : RunsStep c i d sel run) {s : State}
    {x : SiteIx} (hcol : usesColumn d = true → (s.d.fab.col x).phase = .ready) (hsend : (Struck s i x).sendHeld x i.tile d = false) :
    (sel d && (!usesColumn d || (Struck s i x).colReady x) && !(Struck s i x).sendHeld x i.tile d) = true := by
  have hphase : ((Struck s i x).col x).phase = (s.d.fab.col x).phase := by simp [Struck]
  rw [h.takes, hsend, Fabric.colReady, hphase]
  cases hu : usesColumn d
  · rfl
  · simp [hcol hu]

/-- A step that may run issues by taking its units, or waits for them. -/
theorem RunsStep.issue_eq {c : Instr} {i : StepIn} {d : Desc} {sel : Desc → Bool} {run : StepCtx → RunOut} (h : RunsStep c i d sel run) {s : State}
    {x : SiteIx} (hs : Stands s i x d) (hr : MayRun s i x d) :
    (Struck s i x).issue s.env x i.tile i.stream
      (fun d => sel d && (!usesColumn d || (Struck s i x).colReady x) && !(Struck s i x).sendHeld x i.tile d) run =
    if (((Struck s i x).site x).take s.env x i.stream d).2 then
      ((Struck s i x).setSite x (((Struck s i x).site x).take s.env x i.stream d).1).execute s.env x i.tile i.stream d run
    else (Struck s i x).setSite x (((Struck s i x).site x).take s.env x i.stream d).1 := by
  obtain ⟨hhaz, hcol, hsend⟩ := hr
  refine Fabric.issue_good (struck_stream s i x i.stream) hs.next (h.sel_of_mayRun hcol hsend) hs.legal hs.order ?_
  rw [h.work _ rfl]
  exact hhaz

/-- The scopes of FENCE. -/
theorem mod_le_of_controlAs {c : Instr} {i : StepIn} {d : Desc} (h : ControlAs c i d) (hop : d.opcode = 0x52) : d.mod ≤ 3 := by
  unfold ControlAs at h
  rcases h with ⟨-, h⟩ | ⟨-, h⟩ | ⟨-, -, h⟩ | ⟨-, -, h⟩ | ⟨-, -, h⟩ | ⟨-, -, h⟩ | ⟨-, h⟩ | ⟨-, h⟩ <;> omega

/-- What a control opcode waits for is the condition of its FENCE, but that a FENCE of scope TILE is reached at once. -/
theorem controlReady_iff {s : State} {i : StepIn} {x : SiteIx} {d : Desc} (hm : d.opcode = 0x52 → d.mod ≤ 3) (h1 : d.opcode = 0x52 → d.mod ≠ 1) :
    controlReady i (StreamOf s i x) d = true ↔ FenceHolds s i x d := by
  unfold controlReady FenceHolds
  split
  next hop =>
    have hm' := hm hop
    have h1' := h1 hop
    split
    next h0 => simp [hop, h0]
    next h => exact absurd h h1'
    next h2 => simp [hop, h2]
    next h0 h1 h2 =>
      have hn0 : d.mod ≠ 0 := h0
      have hn2 : d.mod ≠ 2 := h2
      have h3 : d.mod = 3 := by omega
      simp [hop, h3, and_assoc]
  next hop => simp [hop]

theorem controlReady_of_fenceHolds {s : State} {i : StepIn} {x : SiteIx} {d : Desc} (hm : d.opcode = 0x52 → d.mod ≤ 3) (h : FenceHolds s i x d) :
    controlReady i (StreamOf s i x) d = true := by
  by_cases h1 : d.opcode = 0x52 ∧ d.mod = 1
  · obtain ⟨hop, h1⟩ := h1
    simp [controlReady, hop, h1]
  · exact (controlReady_iff hm (fun hop hm1 => h1 ⟨hop, hm1⟩)).mpr h

-- A step that issues --------------------------------------------------------------------------------------------------

/-- The stream once a step has been entered. -/
def Stream.entered (v : Stream) (d : Desc) (o : RunOut) (ef : StepEff) : Stream :=
  { v with steps := v.steps ++ [mkRec v d o ef], nextId := v.nextId + 1, sends := v.sends ++ ef.sends, slices := v.slices + ef.slices.length }

theorem Fabric.sendSlices_shape (l : List (ClusterId × Slice)) (f : Fabric) : ∃ m, l.foldl Fabric.sendSlice f = { f with samplers := m } := by
  induction l generalizing f with
  | nil => exact ⟨_, rfl⟩
  | cons p r ih =>
    obtain ⟨m, hm⟩ := ih (f.sendSlice p)
    exact ⟨m, hm⟩

/-- What a step that meets no fault leaves: it stands in flight, its stream at the next descriptor, and the halves as its reads have left them. -/
theorem Fabric.execute_ok {f : Fabric} (e : Env) {x : SiteIx} (t : TileId) {n : StreamId} {d : Desc} {run : StepCtx → RunOut} {v : Stream} {o : RunOut}
    {ef : StepEff} (hv : (f.site x).stream n = v) (ho : run { e := e, f := f, x := x, t := t, st := n, d := d, off := v.pc } = o) (hres : o.res = .ok ef)
    (hov : (o.f.site x).stream n = v) (hclear : NextClear v) :
    (f.execute e x t n d run).site x = (o.f.site x).setStream n (v.entered d o ef).next ∧
    (∀ y, (f.execute e x t n d run).col y = o.f.col y) ∧ (f.execute e x t n d run).inbox = o.f.inbox ∧
    (ef.slices = [] → (f.execute e x t n d run).samplers = o.f.samplers) := by
  subst hv
  obtain ⟨m, hm⟩ := Fabric.sendSlices_shape ef.slices (o.f.setSite x ((o.f.site x).setStream n (((f.site x).stream n).entered d o ef)))
  have henter : o.f.enter x n d o ef = { o.f.setSite x ((o.f.site x).setStream n (((f.site x).stream n).entered d o ef)) with samplers := m } := by
    rw [← hm, ← hov]
    rfl
  have hsite : (o.f.enter x n d o ef).site x = (o.f.site x).setStream n (((f.site x).stream n).entered d o ef) := by
    rw [henter]
    exact Fabric.site_setSite ..
  have hexec : f.execute e x t n d run =
      (o.f.enter x n d o ef).setSite x ((o.f.site x).setStream n (((f.site x).stream n).entered d o ef).next) := by
    have hstep : f.execute e x t n d run = ((o.f.enter x n d o ef).setSite x (((o.f.enter x n d o ef).site x).setStream n
        (((o.f.enter x n d o ef).site x).stream n).next)).reach e x t n := by
      simp only [Fabric.execute, ho, hres]
    rw [hstep, hsite, Site.stream_setStream, Site.setStream_setStream]
    exact Fabric.reach_of_clear (v := (((f.site x).stream n).entered d o ef).next) e t (by rw [Fabric.site_setSite, Site.stream_setStream])
      (.inr (.inr hclear))
  rw [hexec]
  refine ⟨Fabric.site_setSite .., fun y => ?_, ?_, fun hs => ?_⟩
  · rw [henter]; rfl
  · rw [henter]; rfl
  · have hsame : (o.f.enter x n d o ef).samplers = o.f.samplers := by
      simp only [Fabric.enter, hs, List.foldl_nil]
      rfl
    exact hsame

end Sys2Proof.Machine
end

section
/-! PROOFS. Steps that issue, that wait for their units, and descriptors that fail their checks (R37 to R45, R474; O11, O13, O14). -/

namespace Sys2Proof.Machine
open Sys2Proof

-- Only SAMPLE sends slices --------------------------------------------------------------------------------------------

/-- The slices that the work of a step sends. -/
def RunRes.slices : RunRes → List (ClusterId × Slice)
  | .ok ef => ef.slices
  | .fault .. => []
  | .refetch _ => []

@[simp] theorem RunRes.slices_ok (ef : StepEff) : (RunRes.ok ef).slices = ef.slices := rfl
@[simp] theorem RunRes.slices_fault (i : FaultInfo) (w : List ScratchWrite) : (RunRes.fault i w).slices = [] := rfl

@[simp] theorem badRes_slices (b : ReadBad) : (badRes b).slices = [] := by cases b <;> rfl

@[simp] theorem dataRes_slices (c : StepCtx) (o : DataOut) (dst : List (Nat × Nat)) : (dataRes c o dst).slices = [] := by
  unfold dataRes
  split <;> rfl

theorem MatBad.res_slices (b : MatBad) : b.res.slices = [] := by
  cases b
  · exact badRes_slices _
  · rfl
  · rfl

section
variable (c : StepCtx)

/-- Of the result of a choice, what each of its branches has. -/
theorem slices_ite {p : Prop} [Decidable p] {a b : RunOut} (ha : a.res.slices = []) (hb : b.res.slices = []) : (if p then a else b).res.slices = [] := by
  split
  · exact ha
  · exact hb

theorem runRowStore_slices : (runRowStore c).res.slices = [] := by
  unfold runRowStore
  dsimp only
  split <;> simp [StepEff.none]

theorem runLinear_slices : (runLinear c).res.slices = [] := by
  unfold runLinear
  refine slices_ite rfl ?_
  dsimp only [StepCtx.outS]
  split <;> simp [StepEff.none]

theorem runSkew_slices : (runSkew c).res.slices = [] := by
  unfold runSkew
  refine slices_ite ?_ ?_
  · dsimp only
    split
    · rfl
    · exact dataRes_slices ..
  · dsimp only [StepCtx.outS]
    split <;> simp

theorem runMatmul_slices : (runMatmul c).res.slices = [] := by
  unfold runMatmul
  dsimp only
  split
  · rfl
  · exact slices_ite (MatBad.res_slices _) (MatBad.res_slices _)
  · rfl

theorem runAttend_slices : (runAttend c).res.slices = [] := by
  unfold runAttend
  dsimp only
  split
  · exact badRes_slices _
  · split
    · exact badRes_slices _
    · refine slices_ite rfl (slices_ite rfl (slices_ite rfl ?_))
      split
      · exact badRes_slices _
      · dsimp only
        split <;> rfl

theorem runMerge_slices : (runMerge c).res.slices = [] := by
  unfold runMerge
  dsimp only
  split
  · exact badRes_slices _
  · refine slices_ite rfl (slices_ite rfl (slices_ite rfl ?_))
    split
    · exact badRes_slices _
    · rfl

theorem runVec_slices : (runVec c).res.slices = [] := by
  unfold runVec
  dsimp only [StepCtx.outS]
  split <;> simp

theorem runScaleAdd_slices : (runScaleAdd c).res.slices = [] := by
  unfold runScaleAdd
  dsimp only
  split
  · exact badRes_slices _
  · rfl

theorem runGather_slices : (runGather c).res.slices = [] := by
  unfold runGather
  dsimp only
  split
  · exact badRes_slices _
  · dsimp only
    split <;> rfl

theorem runFill_slices : (runFill c).res.slices = [] := by
  unfold runFill
  dsimp only
  split
  · exact badRes_slices _
  · rfl

theorem runKvAppend_slices : (runKvAppend c).res.slices = [] := by
  unfold runKvAppend
  dsimp only
  split
  · exact badRes_slices _
  · refine slices_ite rfl (slices_ite rfl (slices_ite rfl ?_))
    split
    · rfl
    · refine slices_ite rfl (slices_ite rfl (slices_ite rfl (slices_ite rfl ?_)))
      split
      · exact badRes_slices _
      · rfl

theorem runSend_slices : (runSend c).res.slices = [] := by
  have hite {p : Prop} [Decidable p] {a b : RunRes} (ha : a.slices = []) (hb : b.slices = []) : (if p then a else b).slices = [] := by
    split
    · exact ha
    · exact hb
  unfold runSend
  dsimp only [StepCtx.outS]
  refine hite rfl (hite rfl (hite rfl ?_))
  split
  · exact badRes_slices _
  · rfl

/-- Only SAMPLE sends slices to samplers. -/
theorem work_slices (hop : c.d.opcode ∈ [0x01, 0x02, 0x03, 0x10, 0x18, 0x20, 0x30, 0x40, 0x48, 0x51]) (h : c.d.opcode ≠ 0x48) :
    (Work c).res.slices = [] := by
  unfold Work
  split
  · rfl
  next h51 =>
    unfold runAny
    split
    · rfl
    · exact runRowStore_slices c
    · exact slices_ite (runLinear_slices c) (runSkew_slices c)
    · exact runMatmul_slices c
    · exact slices_ite (runMerge_slices c) (runAttend_slices c)
    · exact runVec_slices c
    · split
      · rfl
      · exact runScaleAdd_slices c
      · exact runGather_slices c
      · exact runFill_slices c
      · exact runKvAppend_slices c
      · rfl
      · rfl
    · exact runSend_slices c
    · simp only [List.mem_cons, List.not_mem_nil, or_false] at hop
      simp_all

end

theorem opcode_of_stepsAs {c : Instr} {i : StepIn} {d : Desc} (h : StepsAs c i d) :
    d.opcode ∈ [0x01, 0x02, 0x03, 0x10, 0x18, 0x20, 0x30, 0x40, 0x48, 0x51] ∧ (d.opcode = 0x30 → 1 ≤ d.mod ∧ d.mod ≤ 7) := by
  unfold StepsAs at h
  simp only [List.mem_cons, List.not_mem_nil, or_false]
  omega

-- O11 -----------------------------------------------------------------------------------------------------------------

theorem hasUnits_struck {s : State} {i : StepIn} {x : SiteIx} {d : Desc} (h : HasUnits s i x d) :
    (((Struck s i x).site x).stream i.stream).granted = true ∨ takeUnits d ≤ (((Struck s i x).site x).sems[d.wsem]).toNat := by
  rw [struck_stream, struck_site, Site.upsets_sems]
  exact h

/-- A step that has its units is carried out on the halves that they have been taken from. -/
theorem RunsStep.executes {c : Instr} {i : StepIn} {d : Desc} {sel : Desc → Bool} {run : StepCtx → RunOut} (h : RunsStep c i d sel run) {s : State}
    {x : SiteIx} (hs : Stands s i x d) (hu : HasUnits s i x d) (hr : MayRun s i x d) {P : State → Prop}
    (hP : P (s.withFab ((Took s i x d).execute s.env x i.tile i.stream d run))) : Yields c s P := by
  refine h.yields hs.engine hs.site ((h.issue_eq hs hr).trans ?_) hP
  rw [Site.take_of_units s.env x (hasUnits_struck hu), took_eq]
  rfl

/-- Settles O11: the work of a step leaves its site but for tags and array as it was (`work_unfinished`), and once carried out it stands in flight. -/
theorem stepsIssueAndWaitForCompletion : Obligations.StepsIssueAndWaitForCompletion := by
  intro s i x d c ef hc hs hu hr hres hclear
  obtain ⟨sel, run, h⟩ := runsStep_of_stepsAs hc
  obtain ⟨hop, hmod⟩ := opcode_of_stepsAs hc
  refine h.executes hs hu hr ?_
  have hw := work_unfinished (At s i x d (Took s i x d))
  have hv : ((Took s i x d).site x).stream i.stream = StreamOf s i x := took_stream s i x d i.stream
  have hov := (hw.stream i.stream).trans hv
  have hrun : run { e := s.env, f := Took s i x d, x := x, t := i.tile, st := i.stream, d := d, off := (StreamOf s i x).pc } =
      Work (At s i x d (Took s i x d)) := h.work _ rfl
  obtain ⟨hsite, hcol, hinbox, hsamplers⟩ := Fabric.execute_ok s.env i.tile hv hrun hres hov hclear
  have harr : ((Took s i x d).site x).arr = (s.d.fab.site x).arr := by simp [took_site, Site.unitsTaken]
  have htags : ((Took s i x d).site x).tags = (s.d.fab.site x).tags := by simp [took_site, Site.unitsTaken]
  have hqueue : ((Took s i x d).col x).queue = (s.d.fab.col x).queue := by simp [Struck]
  have hsite' : ∀ {γ : Type} (p : Site → γ), (∀ a n v, p (Site.setStream a n v) = p a) →
      p (((Took s i x d).execute s.env x i.tile i.stream d run).site x) = p ((Work (At s i x d (Took s i x d))).f.site x) :=
    fun p hp => (congrArg p hsite).trans (hp _ _ _)
  refine ⟨?_, fun m hm => ?_, ?_, ?_, ?_, ?_, ?_, fun h10 => ?_, ?_, hcol x, fun hq hnb => ?_, ?_, fun h48 => ?_, ?_⟩
  · rw [State.withFab_fab, hsite, Site.stream_setStream]
    rfl
  · rw [State.withFab_fab, hsite, Site.stream_setStream_ne _ _ hm]
    exact (hw.stream m).trans (took_stream s i x d m)
  · exact (hsite' Site.sems (fun _ _ _ => rfl)).trans hw.sems
  · refine (hsite' Site.scratch (fun _ _ _ => rfl)).trans (hw.scratch.trans ?_)
    rw [struck_site]
    exact (congrArg Site.scratch (took_site s i x d)).trans rfl
  · refine (hsite' Site.poison (fun _ _ _ => rfl)).trans (hw.poison.trans ?_)
    exact (congrArg Site.poison (took_site s i x d)).trans (Site.upsets_poison ..)
  · exact hsite' Site.tags (fun _ _ _ => rfl)
  · refine (hsite' Site.peers (fun _ _ _ => rfl)).trans (hw.peers.trans ?_)
    exact (congrArg Site.peers (took_site s i x d)).trans (Site.upsets_peers ..)
  · exact (hsite' Site.arr (fun _ _ _ => rfl)).trans ((work_arr h10).trans harr)
  · exact hsite' Site.arr (fun _ _ _ => rfl)
  · have hnb' : d.opcode = 0x30 → d.mod ∈ [1, 3, 4, 6] := by
      intro h30
      have := hmod h30
      simp only [List.mem_cons, List.not_mem_nil, or_false, not_or] at hnb ⊢
      omega
    obtain ⟨hcells, htags'⟩ := work_quiet (c := At s i x d (Took s i x d)) (hqueue.trans hq) hnb'
    refine ⟨(congrArg Column.cells (hcol x)).trans hcells, (hsite' Site.tags (fun _ _ _ => rfl)).trans (htags'.trans htags)⟩
  · exact hinbox.trans hw.inbox
  · refine (hsamplers ?_).trans hw.samplers
    have hsl := work_slices (At s i x d (Took s i x d)) hop h48
    rw [hres] at hsl
    exact hsl
  · exact onlySite_withFab ((took_work s i x d).trans (Fabric.execute_work _ _ _ _ _ _ h.stays))

-- O13 -----------------------------------------------------------------------------------------------------------------

/-- The halves once the stream of a command waits for the units of d. -/
theorem waits_stands {s : State} {i : StepIn} {x : SiteIx} {d : Desc} :
    let f := (Struck s i x).setSite x (((Struck s i x).site x).setStream i.stream ((StreamOf s i x).waits s.env x d))
    f.site x = ((Struck s i x).site x).setStream i.stream ((StreamOf s i x).waits s.env x d) ∧ SiteWork x s.d.bump.fab f :=
  ⟨Fabric.site_setSite .., (struck_work s i x).trans (SiteWork.setSite ..)⟩

theorem take_struck_short {s : State} {i : StepIn} {x : SiteIx} {d : Desc} (hg : (StreamOf s i x).granted = false)
    (hu : ((s.d.fab.site x).sems[d.wsem]).toNat < takeUnits d) :
    ((Struck s i x).site x).take s.env x i.stream d = (((Struck s i x).site x).setStream i.stream ((StreamOf s i x).waits s.env x d), false) := by
  have hv := struck_stream s i x i.stream
  have hsems : ((Struck s i x).site x).sems = (s.d.fab.site x).sems := by simp
  rw [Site.take_short (s := (Struck s i x).site x) s.env x (by rw [hv]; exact hg) (by rw [hsems]; exact hu), hv]
  rfl

/-- Settles O13: whether a step or a control opcode stands there, `take` makes its stream wait. -/
theorem stepsWithoutTheirUnitsWait : Obligations.StepsWithoutTheirUnitsWait := by
  intro s i x d c hc hs hg hu
  have htake := take_struck_short hg hu
  obtain ⟨hsite, hwork⟩ := waits_stands (s := s) (i := i) (x := x) (d := d)
  have hpost : let u := s.withFab ((Struck s i x).setSite x (((Struck s i x).site x).setStream i.stream ((StreamOf s i x).waits s.env x d)))
      u.d.fab.site x = ((Struck s i x).site x).setStream i.stream ((StreamOf s i x).waits s.env x d) ∧
      u.d.fab.col x = (Struck s i x).col x ∧ u.d.fab.inbox = s.d.fab.inbox ∧ u.d.fab.samplers = s.d.fab.samplers ∧ OnlySite s u x :=
    ⟨hsite, rfl, rfl, rfl, onlySite_withFab hwork⟩
  obtain ⟨hstep, hr⟩ | ⟨hcontrol, hfence⟩ := hc
  · obtain ⟨sel, run, h⟩ := runsStep_of_stepsAs hstep
    refine h.yields hs.engine hs.site ((h.issue_eq hs hr).trans ?_) hpost
    rw [htake]
    rfl
  · obtain ⟨sel, ready, act, h⟩ := runsControl_of_controlAs hcontrol
    have hready : ready ((Struck s i x).site x) (StreamOf s i x) d = true :=
      (h.ready _ _).trans (controlReady_of_fenceHolds (mod_le_of_controlAs hcontrol) hfence)
    refine h.yields hs.engine hs.site
      ((Fabric.issueControl_good (struck_stream s i x i.stream) hs.next h.takes hs.legal hs.order hready).trans ?_) hpost
    rw [htake]
    rfl

-- O14 -----------------------------------------------------------------------------------------------------------------

/-- The causes that the checks before issue give (R474). -/
def checkCauses : List Cause := [.badOpcode, .descReserved, .badFormat, .align, .scratchRange, .addressHole, .loopDepth, .badField]

theorem firstBroken_mem {rules : List (Cause × Bool)} {k : Cause} (hr : ∀ p ∈ rules, p.1 ∈ checkCauses) (h : firstBroken rules = some k) :
    k ∈ checkCauses := by
  obtain ⟨p, hp, rfl⟩ := Option.map_eq_some_iff.mp h
  exact hr p (List.mem_of_find?_eq_some hp)

theorem checkControl_mem {d : Desc} {k : Cause} (h : checkControl d = some k) : k ∈ checkCauses := by
  unfold checkControl at h
  split at h <;> exact firstBroken_mem (by simp [checkCauses]) h

theorem checkNb_mem {d : Desc} {k : Cause} (h : checkNb d = some k) : k ∈ checkCauses := by
  unfold checkNb at h
  exact firstBroken_mem (by simp [checkCauses]) h

theorem checkDesc_mem {d : Desc} {k : Cause} (h : checkDesc d = some k) : k ∈ checkCauses := by
  unfold checkDesc at h
  split at h
  case h_1 | h_2 | h_3 | h_4 | h_5 | h_6 => exact checkControl_mem h
  case h_13 => exact checkNb_mem h
  case h_16 => exact Option.some.inj h ▸ (by simp [checkCauses])
  all_goals exact firstBroken_mem (by simp [checkCauses]) h

/-- Such a cause is reported at the site. -/
theorem reportFault_check {f : Fabric} {e : Env} {x : SiteIx} {t : TileId} {off : Nat} {k : Cause} (hk : k ∈ checkCauses) :
    ∃ r : Report, (f.reportFault e x t off (FaultInfo.of k)).reports = f.reports ++ [r] ∧ r.code = 0x0101 ∧ r.suspect = .site x ∧ r.d1 = k.code ∧
      r.d2 = off := by
  have hrep : f.reportFault e x t off (FaultInfo.of k) = Fabric.reporter (f.report e 0x0101 (.site x) k.code off) (tileCluster t) := by
    revert hk
    cases k <;> simp [checkCauses, Fabric.reportFault, FaultInfo.of]
  have hlast : (Fabric.reporter (f.report e 0x0101 (.site x) k.code off) (tileCluster t)).reports = f.reports ++
      [{ code := 0x0101, suspect := .site x, d1 := k.code, d2 := off, ctx := none, action := 0, time := nowNs e.time, by_ := some (tileCluster t) }] := by
    simp [Fabric.reporter, Fabric.report]
  exact ⟨_, (congrArg Fabric.reports hrep).trans hlast, rfl, rfl, rfl, rfl⟩

theorem issueCause_mem {v : Stream} {d : Desc} {k : Cause} (h : issueCause v d = some k) : k ∈ checkCauses := by
  unfold issueCause at h
  split at h
  next hc => exact Option.some.inj h ▸ checkDesc_mem hc
  · split at h
    · exact Option.some.inj h ▸ (by simp [checkCauses])
    · exact absurd h (by simp)

/-- Settles O14: each command judges its descriptor first, and faults the stream with what it finds. -/
theorem badDescriptorsFaultTheStream : Obligations.BadDescriptorsFaultTheStream := by
  intro s i x d c k hc hm hx hn hk hcol hsend
  obtain ⟨hrun, -, hrefetch, -⟩ := Stream.nextDesc_some hn
  have hmem := issueCause_mem hk
  have hv := struck_stream s i x i.stream
  have hsite : ((Struck s i x).faultStream s.env x i.tile i.stream (StreamOf s i x).pc (FaultInfo.of k)).site x =
      ((Struck s i x).site x).setStream i.stream ((StreamOf s i x).faulted k) := by
    have hp : k ≠ .scratchParity := by
      rintro rfl
      simp [checkCauses] at hmem
    rw [Fabric.faultStream_site, FaultInfo.of, Site.faulted_of_no_refetch hp (by rw [hv]; exact hrefetch), hv]
    rfl
  rw [Stream.faulted_of_ne k (by rw [hrun]; decide)] at hsite
  have hreport : ∃ r : Report, ((Struck s i x).faultStream s.env x i.tile i.stream (StreamOf s i x).pc (FaultInfo.of k)).reports =
      s.d.fab.reports ++ [r] ∧ r.code = 0x0101 ∧ r.suspect = .site x ∧ r.d1 = k.code ∧ r.d2 = (StreamOf s i x).pc := by
    rw [Fabric.faultStream_eq]
    exact reportFault_check hmem
  have hinbox : ((Struck s i x).faultStream s.env x i.tile i.stream (StreamOf s i x).pc (FaultInfo.of k)).inbox =
      s.d.fab.inbox ++ [TileMsg.fault i.tile i.stream (StreamOf s i x).tag k.code (StreamOf s i x).pc 0] := by
    rw [Fabric.faultStream_inbox, hv]
    rfl
  have hforms : (∃ sel run, RunsStep c i d sel run) ∨ ∃ sel ready act, RunsControl c i d sel ready act := by
    obtain hstep | hctl | ⟨rfl, hunknown⟩ := hc
    · exact .inl (runsStep_of_stepsAs hstep)
    · exact .inr (runsControl_of_controlAs hctl)
    · exact .inr (runsControl_nop (.inr hunknown))
  have hyields {P : State → Prop} (hP : P (s.withFab ((Struck s i x).faultStream s.env x i.tile i.stream (StreamOf s i x).pc (FaultInfo.of k)))) :
      Yields c s P := by
    obtain ⟨sel, run, h⟩ | ⟨sel, ready, act, h⟩ := hforms
    · exact h.yields hm hx (Fabric.issue_bad hv hn (h.sel_of_mayRun hcol hsend) hk) hP
    · exact h.yields hm hx (Fabric.issueControl_bad hv hn h.takes hk) hP
  exact hyields ⟨hsite, Fabric.faultStream_col .., hinbox, hreport, Fabric.faultStream_samplers ..,
    onlySite_withFab ((struck_work s i x).trans (Fabric.faultStream_work ..))⟩

end Sys2Proof.Machine
end

section
/-! PROOFS. The control opcodes (R32, R35, R37, R39, R44; O12). -/

namespace Sys2Proof.Machine
open Sys2Proof

theorem tput_tput {α : Type} (t : Tab α) (k : Nat) (a b : α) : tput (tput t k a) k b = tput t k b := by
  induction t with
  | nil => simp [tput]
  | cons p r ih =>
    obtain ⟨j, y⟩ := p
    by_cases hlt : j < k
    · simp [tput, hlt, ih]
    · by_cases heq : j = k <;> simp [tput, hlt, heq]

@[simp] theorem Fabric.setSite_setSite (f : Fabric) (x : SiteIx) (a b : Site) : (f.setSite x a).setSite x b = f.setSite x b := by
  simp [Fabric.setSite, tput_tput]

-- Moving on -----------------------------------------------------------------------------------------------------------

/-- A stream moved on, and the unit of a SEN added: nothing but its site changes. -/
theorem Fabric.moveOn_eq {f : Fabric} (e : Env) {x : SiteIx} (t : TileId) {n : StreamId} (off : Nat) (q : Fin 32) (sen : Bool) {past : Stream}
    (hrun : past.state = .running) (hclear : past.ending = true ∨ (past.pc < 0x18000000 ∧ past.poisonAt past.pc = none))
    (hfits : sen = true → ((f.site x).sems[q]).toNat + 1 ≤ 0xFFFF) :
    (if sen then (f.setSite x ((f.site x).setStream n past)).localAdd e x t n off q 1 else f.setSite x ((f.site x).setStream n past)).reach e x t n =
      f.setSite x (if sen then (((f.site x).setStream n past).add q 1).1 else (f.site x).setStream n past) := by
  cases sen with
  | false => exact Fabric.reach_of_clear e t (by rw [if_neg Bool.false_ne_true, Fabric.site_setSite, Site.stream_setStream]) (.inr hclear)
  | true =>
    have hadd : (f.setSite x ((f.site x).setStream n past)).localAdd e x t n off q 1 = f.setSite x (((f.site x).setStream n past).add q 1).1 := by
      rw [Fabric.localAdd_of_fits e t n off (by rw [Fabric.site_setSite]; exact hfits rfl), Fabric.site_setSite, Fabric.setSite_setSite]
    have hstream : ((((f.site x).setStream n past).add q 1).1).stream n = past := by
      rw [Site.add_stream _ _ _ (by rw [Site.stream_setStream, hrun]; decide), Site.stream_setStream]
    rw [if_pos rfl, if_pos rfl, hadd]
    exact Fabric.reach_of_clear e t (by rw [Fabric.site_setSite, hstream]) (.inr hclear)

-- The control opcodes -------------------------------------------------------------------------------------------------

/-- A stream past the control opcode d at which it stands. -/
def Stream.pastControl (v : Stream) (d : Desc) : Stream :=
  if d.opcode = 0x60 then
    { v with pc := v.pc + 32, granted := false, want := none
             loops := { first := v.pc + 32, past := v.pc + 32 + 32 * (d.len % 256), count := d.count, iter := 0, addr := sext 48 d.rawAddr
                        sa := sext 21 d.rawSa, sb := sext 21 d.rawSb, sd := sext 21 d.rawSd } :: v.loops }
  else if d.opcode = 0x7F then
    { v with ending := true, endSen := if d.sen then some d.ssem else none, pc := v.pc + 32, granted := false, want := none }
  else v.next

/-- The steps that a FENCE of scope TILE of a site still waits for. -/
def Site.leftOfFence (s : Site) (n : StreamId) : List (StreamId × Nat) := ((s.stream n).fence.getD s.inFlight).filter (fun p => s.inFlight.contains p)

/-- The stream waits at its FENCE for steps l. -/
def Stream.atFence (v : Stream) (l : List (StreamId × Nat)) : Stream := { v with fence := some l, granted := true }

theorem Fabric.fenceAct_eq (f : Fabric) (e : Env) (i : StepIn) (x : SiteIx) (d : Desc) : f.fenceAct e i x d =
    if ((f.site x).leftOfFence i.stream).isEmpty then f.passBy e x i.tile i.stream d
    else f.setSite x ((f.site x).setStream i.stream (((f.site x).stream i.stream).atFence ((f.site x).leftOfFence i.stream))) := rfl

theorem took_leftOfFence (s : State) (i : StepIn) (x : SiteIx) (d : Desc) : ((Took s i x d).site x).leftOfFence i.stream = LeftOfFence s i x := by
  simp only [Site.leftOfFence, Site.inFlight, took_stream, LeftOfFence, StreamOf]

/-- A control opcode whose condition holds moves its stream on, and adds the unit of its SEN. -/
theorem Fabric.controlAct_eq {f : Fabric} (e : Env) {i : StepIn} {x : SiteIx} {d : Desc} {v : Stream} (hv : (f.site x).stream i.stream = v)
    (hrun : v.state = .running) (hleft : d.opcode = 0x52 → d.mod = 1 → (f.site x).leftOfFence i.stream = [])
    (hclear : (v.pastControl d).ending = true ∨ ((v.pastControl d).pc < 0x18000000 ∧ (v.pastControl d).poisonAt (v.pastControl d).pc = none))
    (hfits : d.sen = true → ((f.site x).sems[d.ssem]).toNat + 1 ≤ 0xFFFF) :
    (f.controlAct e i x d).reach e x i.tile i.stream = f.setSite x (if d.sen = true ∧ d.opcode ≠ 0x7F then
      (((f.site x).setStream i.stream (v.pastControl d)).add d.ssem 1).1 else (f.site x).setStream i.stream (v.pastControl d)) := by
  subst hv
  have hrun' : (((f.site x).stream i.stream).pastControl d).state = .running := by
    unfold Stream.pastControl
    exact ite_keeps Stream.state hrun (ite_keeps Stream.state hrun hrun)
  have hmove (sen : Bool) (hsen : sen = (d.sen && d.opcode != 0x7F)) (g : Fabric) (hg : g =
      if sen then (f.setSite x ((f.site x).setStream i.stream (((f.site x).stream i.stream).pastControl d))).localAdd e x i.tile i.stream
        ((f.site x).stream i.stream).pc d.ssem 1 else f.setSite x ((f.site x).setStream i.stream (((f.site x).stream i.stream).pastControl d))) :
      g.reach e x i.tile i.stream = f.setSite x (if d.sen = true ∧ d.opcode ≠ 0x7F then
      (((f.site x).setStream i.stream (((f.site x).stream i.stream).pastControl d)).add d.ssem 1).1
      else (f.site x).setStream i.stream (((f.site x).stream i.stream).pastControl d)) := by
    rw [hg, Fabric.moveOn_eq e i.tile _ d.ssem sen hrun' hclear (fun h => hfits (by simp_all))]
    congr 1
    simp [hsen]
  by_cases hloop : d.opcode = 0x60
  · refine hmove d.sen (by simp [hloop]) _ ?_
    simp only [Fabric.controlAct, Stream.pastControl, hloop, Fabric.loopAct, Fabric.modStream]
    rfl
  by_cases hend : d.opcode = 0x7F
  · refine hmove false (by simp [hend]) _ ?_
    simp only [Fabric.controlAct, Stream.pastControl, hend, Fabric.endAct, Fabric.modStream]
    rfl
  have hpass : f.controlAct e i x d = f.passBy e x i.tile i.stream d := by
    unfold Fabric.controlAct
    rw [if_neg hloop, if_neg hend]
    split
    next h => rw [Fabric.fenceAct_eq, hleft h.1 h.2, List.isEmpty_nil, if_pos rfl]
    · rfl
  refine hmove d.sen (by simp [hend]) _ (hpass.trans ?_)
  simp only [Fabric.passBy, Stream.pastControl, if_neg hloop, if_neg hend, Fabric.modStream]

/-- A control opcode that has its units does what it does on the halves that they have been taken from. -/
theorem RunsControl.acted {c : Instr} {i : StepIn} {d : Desc} {sel : Desc → Bool} {ready : Site → Stream → Desc → Bool}
    {act : Env → SiteIx → Fabric → Desc → Fabric} (h : RunsControl c i d sel ready act) {s : State} {x : SiteIx} (hs : Stands s i x d)
    (hu : HasUnits s i x d) (hr : controlReady i (StreamOf s i x) d = true) {P : State → Prop}
    (hP : P (s.withFab (((Took s i x d).controlAct s.env i x d).reach s.env x i.tile i.stream))) : Yields c s P := by
  refine h.yields hs.engine hs.site
    ((Fabric.issueControl_good (struck_stream s i x i.stream) hs.next h.takes hs.legal hs.order ((h.ready _ _).trans hr)).trans ?_) hP
  rw [Site.take_of_units s.env x (hasUnits_struck hu), h.acts, took_eq]
  rfl

theorem Stream.pastControl_clear {v : Stream} {d : Desc} (hpass : d.opcode ≠ 0x60 → d.opcode ≠ 0x7F → NextClear v)
    (hloop : d.opcode = 0x60 → v.pc + 32 < 0x18000000 ∧ v.poisonAt (v.pc + 32) = none) :
    (v.pastControl d).ending = true ∨ ((v.pastControl d).pc < 0x18000000 ∧ (v.pastControl d).poisonAt (v.pastControl d).pc = none) := by
  unfold Stream.pastControl
  by_cases h60 : d.opcode = 0x60
  · rw [if_pos h60]
    exact .inr (hloop h60)
  · by_cases h7f : d.opcode = 0x7F
    · rw [if_neg h60, if_pos h7f]
      exact .inl rfl
    · rw [if_neg h60, if_neg h7f]
      exact .inr (hpass h60 h7f)

/-- Settles O12: NOP, WAIT, FENCE, LOOP and END by what each does once it issues. -/
theorem controlStepsPassBy : Obligations.ControlStepsPassBy := by
  refine ⟨fun s i x d c hc hs hu hf hpass hloop hfits => ?_, fun s i x d hop hmod hs hu hleft hpc => ?_, fun s i x d c hc hop hmod hs hf => ?_⟩
  · obtain ⟨sel, ready, act, h⟩ := runsControl_of_controlAs hc
    obtain ⟨hrun, -⟩ := Stream.nextDesc_some hs.next
    have hact := Fabric.controlAct_eq s.env (i := i) (took_stream s i x d i.stream) hrun
      (fun hop hmod => (took_leftOfFence s i x d).trans ((hf hop).2.1 hmod)) (Stream.pastControl_clear hpass hloop) hfits
    refine h.acted hs hu (controlReady_of_fenceHolds (mod_le_of_controlAs hc) hf) ?_
    rw [hact]
    exact ⟨Fabric.site_setSite .., rfl, rfl, rfl, rfl, onlySite_withFab ((took_work s i x d).trans (SiteWork.setSite ..))⟩
  · obtain ⟨sel, ready, act, h⟩ := runsControl_fenceTile (i := i) hop hmod
    obtain ⟨-, -, -, hpoison⟩ := Stream.nextDesc_some hs.next
    have hact : (Took s i x d).controlAct s.env i x d = (Took s i x d).setSite x
        (((Took s i x d).site x).setStream i.stream ((StreamOf s i x).atFence (LeftOfFence s i x))) := by
      rw [Fabric.controlAct, if_pos ⟨hop, hmod⟩, Fabric.fenceAct_eq, took_leftOfFence, if_neg (by simpa using hleft), took_stream]
      rfl
    refine h.acted hs hu (by simp [controlReady, hop, hmod]) ?_
    rw [hact, Fabric.reach_of_clear (v := (StreamOf s i x).atFence (LeftOfFence s i x)) s.env i.tile
      (by rw [Fabric.site_setSite, Site.stream_setStream]) (.inr (.inr ⟨hpc, hpoison⟩))]
    exact ⟨Fabric.site_setSite .., rfl, rfl, onlySite_withFab ((took_work s i x d).trans (SiteWork.setSite ..))⟩
  · obtain ⟨sel, ready, act, h⟩ := runsControl_of_controlAs hc
    have hready : controlReady i (StreamOf s i x) d = false := by
      rw [← Bool.not_eq_true, controlReady_iff (mod_le_of_controlAs hc) (fun _ => hmod)]
      exact hf
    exact h.yields hs.engine hs.site (Fabric.issueControl_unready (struck_stream s i x i.stream) hs.next h.takes hs.legal ((h.ready _ _).trans hready))
      ⟨rfl, onlyFabric_withFab ..⟩

end Sys2Proof.Machine
end

section
/-! PROOFS. Timeouts of waits and the end of a stream (R32, R42, R45; O25, O26). -/

namespace Sys2Proof.Machine
open Sys2Proof

-- Timeouts (R45) ------------------------------------------------------------------------------------------------------

theorem State.env_tileReg (s : State) (t : TileId) : s.env.reg (tileReg t 0x100) = s.d.reg s.fuse (0xC00000 + 0x8000 * t.val + 0x100) := by
  have h1 : tileReg t 0x100 ≠ 0x201008 := by unfold tileReg; omega
  have h2 : tileReg t 0x100 ≠ 0x4214 := by unfold tileReg; omega
  exact (if_neg h1).trans (if_neg h2)

/-- Settles O26: STEP_TIMEOUT compares the ticks that have reached the engine with the limit. -/
theorem semaphoreWaitsTimeOut : Obligations.SemaphoreWaitsTimeOut := by
  intro s t n x hx
  have hexec : exec (.stepTimeout t n) s = .next (s.onFab (fun e f => f.stepTimeout e t n)) := rfl
  have hx' : s.d.bump.fab.siteOf t = some x := hx
  have hreg := s.env_tileReg t
  refine ⟨fun hw hr hl => ?_, fun h => yields_onFab_idle hexec ?_⟩
  · have hlimit : semLimit (s.env.reg (tileReg t 0x100)) = some (clampN 1000 10000000 (s.d.reg s.fuse (0xC00000 + 0x8000 * t.val + 0x100))) := by
      rw [hreg, semLimit, if_neg hr]
    have hel : elapsed s.env.time (.stepEngine x) ((s.d.fab.site x).stream n).waitFrom
        (clampN 1000 10000000 (s.d.reg s.fuse (0xC00000 + 0x8000 * t.val + 0x100))) = true := decide_eq_true hl
    refine yields_onFab (f := s.d.bump.fab.faultStream s.env x t n ((s.d.fab.site x).stream n).pc (FaultInfo.of .stepTimeout)) hexec ?_ ?_
    · simp only [Fabric.stepTimeout, hx', hlimit, Dev.bump_site, hw, hel, decide_true, Bool.and_self, if_true]
    · refine ⟨?_, fun m hm => ?_, ?_, ?_, ?_, Fabric.faultStream_inbox .., onlySite_withFab (Fabric.faultStream_work ..)⟩
      · rw [State.withFab_fab, Fabric.faultStream_site, Site.stream_faulted]
        exact Stream.faulted_of_ne _ (by rw [Dev.bump_site, hw]; decide)
      · rw [State.withFab_fab, Fabric.faultStream_site, Site.stream_faulted_ne _ _ hm]
        rfl
      · rw [State.withFab_fab, Fabric.faultStream_site, Site.faulted_sems]
        rfl
      · rw [State.withFab_fab, Fabric.faultStream_site, Site.faulted_scratch]
        rfl
      · exact Fabric.faultStream_col ..
  · simp only [Fabric.stepTimeout, hx', hreg, Dev.bump_site]
    split
    next k hk =>
      refine if_neg ?_
      unfold semLimit at hk
      split at hk
      · exact absurd hk (by simp)
      next hr =>
        obtain rfl := Option.some.inj hk
        obtain hw | hr' | hl := h
        · simp [hw]
        · exact absurd hr' hr
        · have hel : elapsed s.env.time (.stepEngine x) ((s.d.fab.site x).stream n).waitFrom
              (clampN 1000 10000000 (s.d.reg s.fuse (0xC00000 + 0x8000 * t.val + 0x100))) = false := decide_eq_false (Nat.not_le.mpr hl)
          simp [hel]
    · rfl

-- The end of a stream (R32) -------------------------------------------------------------------------------------------

/-- A stream that has ended. -/
def Stream.ended (v : Stream) : Stream := { v with state := .idle, ending := false, endSen := none }

/-- A site whose stream n has ended, with the unit of its END's SEN. -/
def Site.afterEnd (s : Site) (n : StreamId) : Site :=
  match (s.stream n).endSen with
  | some q => { s.setStream n (s.stream n).ended with sems := s.sems.set q (BitVec.ofNat 16 ((s.sems[q]).toNat + 1)) }
  | none => s.setStream n (s.stream n).ended

theorem Fabric.endCompletion_eq {f : Fabric} (e : Env) {t : TileId} {n : StreamId} {x : SiteIx} (hx : f.siteOf t = some x) :
    f.endCompletion e t n = if (((f.site x).stream n).state = .running && ((f.site x).stream n).ending && ((f.site x).stream n).steps.isEmpty &&
        ((f.site x).stream n).sends.isEmpty && ((f.site x).stream n).slices = 0) then
      let g := f.setSite x ((f.site x).setStream n ((f.site x).stream n).ended)
      let g := match ((f.site x).stream n).endSen with
        | some q => g.localAdd e x t n (((f.site x).stream n).pc - 32) q 1
        | none => g
      { g with inbox := g.inbox ++ [TileMsg.ended t n ((f.site x).stream n).tag] }
    else f := by
  simp only [Fabric.endCompletion, hx]
  rfl

/-- Settles O25: END_COMPLETION of a stream that is done makes it idle and adds its unit; of any other it does nothing. -/
theorem endCompletionReports : Obligations.EndCompletionReports := by
  have hexec (s : State) (t : TileId) (n : StreamId) : exec (.endCompletion t n) s = .next (s.onFab (fun e f => f.endCompletion e t n)) := rfl
  refine ⟨fun s t n x hx hrun hend hsteps hsends hslices hfits => ?_, fun s t n x hx h => yields_onFab_idle (hexec s t n) ?_⟩
  · have hx' : s.d.bump.fab.siteOf t = some x := hx
    have hsite : s.d.bump.fab.site x = s.d.fab.site x := rfl
    generalize hv : (s.d.fab.site x).stream n = v at hrun hend hsteps hsends hslices hfits ⊢
    refine yields_onFab (f := { s.d.bump.fab.setSite x ((s.d.fab.site x).afterEnd n) with
      inbox := s.d.fab.inbox ++ [TileMsg.ended t n v.tag] }) (hexec s t n) ?_ ?_
    · rw [Fabric.endCompletion_eq s.env hx', if_pos (by simp [hsite, hv, hrun, hend, hsteps, hsends, hslices]), hsite, hv]
      unfold Site.afterEnd
      rw [hv]
      cases hq : v.endSen with
      | none => rfl
      | some q =>
        obtain ⟨hfit, hwant⟩ := hfits q hq
        have hadd : (((s.d.fab.site x).setStream n v.ended).add q 1).1 =
            { (s.d.fab.site x).setStream n v.ended with sems := (s.d.fab.site x).sems.set q (BitVec.ofNat 16 (((s.d.fab.site x).sems[q]).toNat + 1)) } := by
          rw [Site.add_of_no_takes, Site.setStream_sems, semAfter_of_fits hfit]
          intro m hm
          by_cases hmn : m = n
          · subst hmn
            rw [Site.stream_setStream] at hm
            exact absurd hm (by simp [Stream.ended])
          · rw [Site.stream_setStream_ne _ _ hmn]
            exact hwant m hmn
        dsimp only
        rw [Fabric.localAdd_of_fits _ _ _ _ (by rw [Fabric.site_setSite]; exact hfit), Fabric.site_setSite, hadd, Fabric.setSite_setSite]
        rfl
    · have hg : Fabric.site { s.d.bump.fab.setSite x ((s.d.fab.site x).afterEnd n) with inbox := s.d.fab.inbox ++ [TileMsg.ended t n v.tag] } x =
          (s.d.fab.site x).afterEnd n := Fabric.site_setSite ..
      have hkeeps {γ : Type} (p : Site → γ) (hp : ∀ (s : Site) q, p { s with sems := q } = p s) :
          p ((s.d.fab.site x).afterEnd n) = p ((s.d.fab.site x).setStream n v.ended) := by
        unfold Site.afterEnd
        rw [hv]
        cases v.endSen with
        | none => rfl
        | some q => exact hp _ _
      refine ⟨?_, fun m hm => ?_, ?_, ?_, rfl, rfl, rfl, onlySite_withFab ((SiteWork.setSite ..).trans (SiteWork.tells ..))⟩
      · rw [State.withFab_fab, hg, hkeeps (fun s => s.stream n) (fun _ _ => rfl), Site.stream_setStream]
        rfl
      · rw [State.withFab_fab, hg, hkeeps (fun s => s.stream m) (fun _ _ => rfl), Site.stream_setStream_ne _ _ hm]
      · rw [State.withFab_fab, hg]
        unfold Site.afterEnd
        rw [hv]
        cases v.endSen <;> rfl
      · rw [State.withFab_fab, hg, hkeeps Site.scratch (fun _ _ => rfl)]
        rfl
  · have hx' : s.d.bump.fab.siteOf t = some x := hx
    rw [Fabric.endCompletion_eq s.env hx', if_neg]
    intro hc
    simp only [Bool.and_eq_true, decide_eq_true_eq, List.isEmpty_iff] at hc
    obtain ⟨⟨⟨⟨hrun, hend⟩, hsteps⟩, hsends⟩, hslices⟩ := hc
    obtain h | h | h | h | h := h
    · exact h hrun
    · exact Bool.false_ne_true (h.symm.trans hend)
    · exact h hsteps
    · exact h hsends
    · exact h hslices

end Sys2Proof.Machine
end

section
/-! PROOFS. LAUNCH and DESCRIPTOR_FETCH (R30, R31, R58, R66; O9, O22). -/

namespace Sys2Proof.Machine
open Sys2Proof

-- What reaching a descriptor leaves -----------------------------------------------------------------------------------

/-- Reaching a descriptor leaves the halves, or faults the stream. -/
theorem Fabric.reach_cases (f : Fabric) (e : Env) (x : SiteIx) (t : TileId) (n : StreamId) :
    f.reach e x t n = f ∨ ∃ off i, f.reach e x t n = f.faultStream e x t n off i := by
  unfold Fabric.reach
  dsimp only
  split
  · exact .inl rfl
  · split
    · exact .inr ⟨_, _, rfl⟩
    · split
      · exact .inr ⟨_, _, rfl⟩
      · exact .inl rfl

section
variable (f : Fabric) (e : Env) (x : SiteIx) (t : TileId) (n : StreamId)

/-- What no fault changes of the site. -/
theorem Fabric.reach_site_keeps {γ : Type} (p : Site → γ) (hp : ∀ (s : Site) a b n, p { s with streams := a, arr := b, parityFaults := n } = p s) :
    p ((f.reach e x t n).site x) = p (f.site x) := by
  obtain h | ⟨off, i, h⟩ := f.reach_cases e x t n
  · rw [h]
  · rw [h, Fabric.faultStream_site]
    exact Site.faulted_keeps p hp ..

@[simp] theorem Fabric.reach_scratch : ((f.reach e x t n).site x).scratch = (f.site x).scratch := f.reach_site_keeps e x t n _ (fun _ _ _ _ => rfl)
@[simp] theorem Fabric.reach_byte (a : Nat) : ((f.reach e x t n).site x).byte a = (f.site x).byte a :=
  f.reach_site_keeps e x t n (fun s => s.byte a) (fun _ _ _ _ => rfl)
@[simp] theorem Fabric.reach_sems : ((f.reach e x t n).site x).sems = (f.site x).sems := f.reach_site_keeps e x t n _ (fun _ _ _ _ => rfl)
@[simp] theorem Fabric.reach_semTags : ((f.reach e x t n).site x).semTags = (f.site x).semTags := f.reach_site_keeps e x t n _ (fun _ _ _ _ => rfl)
@[simp] theorem Fabric.reach_peers : ((f.reach e x t n).site x).peers = (f.site x).peers := f.reach_site_keeps e x t n _ (fun _ _ _ _ => rfl)

theorem Fabric.reach_stream_ne {m : StreamId} (hm : m ≠ n) : ((f.reach e x t n).site x).stream m = (f.site x).stream m := by
  obtain h | ⟨off, i, h⟩ := f.reach_cases e x t n
  · rw [h]
  · rw [h, Fabric.faultStream_site, Site.stream_faulted_ne _ _ hm]

@[simp] theorem Fabric.reach_col (y : SiteIx) : (f.reach e x t n).col y = f.col y := by
  obtain h | ⟨off, i, h⟩ := f.reach_cases e x t n
  · rw [h]
  · rw [h, Fabric.faultStream_col]

@[simp] theorem Fabric.reach_samplers : (f.reach e x t n).samplers = f.samplers := by
  obtain h | ⟨off, i, h⟩ := f.reach_cases e x t n
  · rw [h]
  · rw [h, Fabric.faultStream_samplers]

/-- What a fault keeps of the stream. -/
theorem Fabric.reach_stream_keeps {γ : Type} (p : Stream → γ) (hp : ∀ (v : Stream) a b c d e f g h,
    p { v with state := a, lastFault := b, held := c, want := d, granted := e, refetch := f, fence := g, ending := h } = p v) :
    p (((f.reach e x t n).site x).stream n) = p ((f.site x).stream n) := by
  obtain h | ⟨off, i, h⟩ := f.reach_cases e x t n
  · rw [h]
  · rw [h, Fabric.faultStream_site, Site.stream_faulted, Stream.faulted_keeps p hp]

end

/-- What a stream that reaches the hole comes to. -/
theorem Fabric.reach_hole {f : Fabric} (e : Env) {x : SiteIx} (t : TileId) {n : StreamId} {v : Stream} (hv : (f.site x).stream n = v)
    (hr : v.state = .running) (he : v.ending = false) (hpc : 0x18000000 ≤ v.pc) :
    (((f.reach e x t n).site x).stream n).state = .faulted ∧ (((f.reach e x t n).site x).stream n).lastFault = 0x06 ∧
    (f.reach e x t n).inbox = f.inbox ++ [TileMsg.fault t n v.tag 0x06 v.pc 0] := by
  rw [Fabric.reach_of_hole e t hv hr he hpc, Fabric.faultStream_site, Site.stream_faulted, Fabric.faultStream_inbox, hv]
  refine ⟨Stream.faulted_state .., ?_, rfl⟩
  rw [Stream.faulted_of_ne _ (by rw [hr]; decide)]
  rfl

-- DESCRIPTOR_FETCH (R31) ----------------------------------------------------------------------------------------------

/-- The row that a fetch of stream v asks for. -/
def Stream.wantedRow (v : Stream) : Nat := if (v.heldRow v.pc).isNone then v.pc / 1024 else v.pc / 1024 + 1

/-- That row is held already, or ends the column. -/
def Stream.noRow (v : Stream) : Bool := v.fetched.any (fun r => r.row = v.wantedRow) || rowsPerColumn ≤ v.wantedRow

/-- A row of descriptors as read. -/
def fetchedRow (e : Env) (t : TileId) (row : Nat) (rs : List SecRead) : FetchRow :=
  { row := row, bytes := rs.flatMap (fun r => sectorBytes r.data)
    poison := rs.map (fun r => if r.poison then
      some (if r.outcome = 5 then poisonRec .uncorrectable t.val 2 (nowNs e.time) else r.data) else none) }

/-- A stream whose fetch buffer takes a row. -/
def Stream.takesRow (v : Stream) (got : FetchRow) : Stream :=
  { v with fetched := v.fetched.filter (fun r => r.row = v.pc / 1024 || r.row = v.pc / 1024 + 1) ++ [got] }

/-- The halves with the row that stream v asks for in its fetch buffer. -/
def Fabric.fetchRow (g : Fabric) (e : Env) (i : StepIn) (x : SiteIx) (v : Stream) : Fabric :=
  if v.noRow then g
  else
    let q := g.readRow e x 4 v.wantedRow []
    q.1.setSite x ((q.1.site x).setStream i.stream (v.takesRow (fetchedRow e i.tile v.wantedRow q.2)))

/-- The fetch of a stream that runs or waits, on halves that its disturbances have struck. -/
theorem Fabric.fetch_eq {f g : Fabric} (e : Env) {i : StepIn} {x : SiteIx} {v : Stream} (hx : f.siteOf i.tile = some x)
    (hg : f.disturb x i.scratchUps i.dramUps = g) (hv : (g.site x).stream i.stream = v) (hrun : v.state = .running ∨ v.state = .waiting)
    (he : v.ending = false) (hcol : g.colReady x = true) : f.fetch e i = (g.fetchRow e i x v).reach e x i.tile i.stream := by
  have hgo : (!(v.state = .running || v.state = .waiting) || v.ending || !g.colReady x) = false := by
    obtain h | h := hrun <;> simp [h, he, hcol]
  have hread : ((g.readRow e x 4 v.wantedRow []).1.site x).stream i.stream = v :=
    ((g.readRow_reads e x 4 v.wantedRow []).transfers.site_keeps (fun s => s.stream i.stream) (fun _ => rfl)).trans hv
  have hstep : f.fetch e i = if v.noRow then g.reach e x i.tile i.stream
      else ((g.readRow e x 4 v.wantedRow []).1.modStream x i.stream (fun w => { w with
        fetched := w.fetched.filter (fun r => r.row = v.pc / 1024 || r.row = v.pc / 1024 + 1) ++
          [fetchedRow e i.tile v.wantedRow (g.readRow e x 4 v.wantedRow []).2] })).reach e x i.tile i.stream := by
    simp only [Fabric.fetch, hx, hg, hv, hgo, Bool.false_eq_true, if_false]
    rfl
  rw [hstep, Fabric.fetchRow]
  split
  · rfl
  · rw [Fabric.modStream, hread]
    rfl

section
variable (g : Fabric) (e : Env) (i : StepIn) (x : SiteIx) (v : Stream)

theorem Fabric.fetchRow_work : SiteWork x g (g.fetchRow e i x v) := .ite (.refl ..) ((g.readRow_reads ..).transfers.siteWork.trans (SiteWork.setSite ..))

theorem Fabric.fetchRow_site_keeps {γ : Type} (p : Site → γ) (hp : ∀ (s : Site) t w, p ({ s with tags := t }.setStream i.stream w) = p s) :
    p ((g.fetchRow e i x v).site x) = p (g.site x) := by
  have hread := (g.readRow_reads e x 4 v.wantedRow []).transfers.work.siteAt
  refine ite_keeps (fun f : Fabric => p (f.site x)) rfl ?_
  have hp' (s : Site) (w : Stream) : p (s.setStream i.stream w) = p { s with tags := [] } :=
    (hp s s.tags w).trans ((hp s [] _).symm.trans ((congrArg p (Site.setStream_stream { s with tags := [] } i.stream))))
  have htags (s : Site) : p { s with tags := [] } = p s :=
    (congrArg p (Site.setStream_stream { s with tags := [] } i.stream)).symm.trans (hp s [] _)
  exact (congrArg p (Fabric.site_setSite ..)).trans ((hp' ..).trans ((congrArg p hread).trans (htags _)))

theorem Fabric.fetchRow_stream (hv : (g.site x).stream i.stream = v) : ((g.fetchRow e i x v).site x).stream i.stream =
    if v.noRow then v else v.takesRow (fetchedRow e i.tile v.wantedRow (g.readRow e x 4 v.wantedRow []).2) := by
  unfold Fabric.fetchRow
  split
  · exact hv
  · exact (congrArg (fun s : Site => s.stream i.stream) (Fabric.site_setSite ..)).trans (Site.stream_setStream ..)

theorem Fabric.fetchRow_stream_ne {m : StreamId} (h : m ≠ i.stream) : ((g.fetchRow e i x v).site x).stream m = (g.site x).stream m :=
  g.fetchRow_site_keeps e i x v (fun s => s.stream m) (fun _ _ _ => Site.stream_setStream_ne _ _ h)

@[simp] theorem Fabric.fetchRow_inbox : (g.fetchRow e i x v).inbox = g.inbox := ite_keeps Fabric.inbox rfl (g.readRow_reads ..).transfers.inbox
@[simp] theorem Fabric.fetchRow_samplers : (g.fetchRow e i x v).samplers = g.samplers := ite_keeps Fabric.samplers rfl (g.readRow_reads ..).transfers.samplers

theorem Fabric.fetchRow_col (y : SiteIx) : (g.fetchRow e i x v).col y = if v.noRow then g.col y else (g.readRow e x 4 v.wantedRow []).1.col y := by
  unfold Fabric.fetchRow
  split <;> rfl

end

theorem Stream.noRow_iff (v : Stream) : v.noRow = true ↔ v.fetched.any (fun r => r.row = v.wantedRow) = true ∨ rowsPerColumn ≤ v.wantedRow := by
  simp [Stream.noRow]

/-- Settles O22: a fetch reads the row that its stream asks for into the buffer, and the stream reaches its descriptor. -/
theorem descriptorRowsAreFetched : Obligations.DescriptorRowsAreFetched := by
  intro s i x hon hx
  refine fun hrun he hphase => ?_
  have hexec : exec (.descriptorFetch i) s = .next (s.onFab (fun e f => f.fetch e i)) := congrArg Host.Outcome.next (if_pos hon)
  have hv : ((Struck s i x).site x).stream i.stream = StreamOf s i x := struck_stream s i x i.stream
  have hcol : (Struck s i x).colReady x = true := by
    have : ((Struck s i x).col x).phase = .ready := by simpa [Struck] using hphase
    simp [Fabric.colReady, this]
  have hfetch : s.d.bump.fab.fetch s.env i = ((Struck s i x).fetchRow s.env i x (StreamOf s i x)).reach s.env x i.tile i.stream :=
    Fabric.fetch_eq s.env hx rfl hv hrun he hcol
  have hstream := (Struck s i x).fetchRow_stream s.env i x (StreamOf s i x) hv
  have hcols := (Struck s i x).fetchRow_col s.env i x (StreamOf s i x) x
  have hnone := (StreamOf s i x).noRow_iff
  have hw {γ : Type} (p : Stream → γ) (hp : ∀ (v : Stream) r, p { v with fetched := r } = p v) :
      p ((((Struck s i x).fetchRow s.env i x (StreamOf s i x)).site x).stream i.stream) = p (StreamOf s i x) := by
    rw [hstream]
    exact ite_keeps p rfl (hp ..)
  generalize hf : (Struck s i x).fetchRow s.env i x (StreamOf s i x) = f at hfetch hstream hcols hw
  have hwhole : (if (StreamOf s i x).fetched.any (fun r => r.row = (StreamOf s i x).wantedRow) = true ∨ rowsPerColumn ≤ (StreamOf s i x).wantedRow then
      StreamOf s i x else (StreamOf s i x).takesRow (fetchedRow s.env i.tile (StreamOf s i x).wantedRow
        ((Struck s i x).readRow s.env x 4 (StreamOf s i x).wantedRow []).2)) = (f.site x).stream i.stream := by
    rw [hstream]
    exact if_congr hnone.symm rfl rfl
  have hinbox : f.inbox = s.d.fab.inbox := hf ▸ Fabric.fetchRow_inbox ..
  refine yields_onFab hexec hfetch ⟨fun h => ?_, fun hr hpc => ?_, ?_, ?_, fun m hm => ?_, fun h => ?_, fun h => ?_, ?_, ?_⟩
  · have hpc : (((f.site x).stream i.stream).state ≠ .running ∨ ((f.site x).stream i.stream).ending = true ∨
        (((f.site x).stream i.stream).pc < 0x18000000 ∧ ((f.site x).stream i.stream).poisonAt ((f.site x).stream i.stream).pc = none)) := by
      rw [hw Stream.state (fun _ _ => rfl), hw Stream.pc (fun _ _ => rfl), ← hwhole]
      obtain h | h := h
      · exact .inl (by rw [h]; decide)
      · exact .inr (.inr h)
    rw [State.withFab_fab, Fabric.reach_of_clear s.env i.tile rfl hpc]
    exact ⟨hwhole.symm, hinbox⟩
  · obtain ⟨h1, h2, h3⟩ := Fabric.reach_hole s.env i.tile (rfl : (f.site x).stream i.stream = _)
      ((hw Stream.state (fun _ _ => rfl)).trans hr) ((hw Stream.ending (fun _ _ => rfl)).trans he) (by rw [hw Stream.pc (fun _ _ => rfl)]; exact hpc)
    rw [hinbox, hw Stream.tag (fun _ _ => rfl), hw Stream.pc (fun _ _ => rfl)] at h3
    exact ⟨h1, h2, h3⟩
  · rw [State.withFab_fab, Fabric.reach_scratch, ← hf]
    exact Fabric.fetchRow_site_keeps _ _ _ _ _ Site.scratch (fun _ _ _ => rfl)
  · rw [State.withFab_fab, Fabric.reach_sems, ← hf]
    exact (Fabric.fetchRow_site_keeps _ _ _ _ _ Site.sems (fun _ _ _ => rfl)).trans (by simp)
  · rw [State.withFab_fab, Fabric.reach_stream_ne _ _ _ _ _ hm, ← hf, Fabric.fetchRow_stream_ne _ _ _ _ _ hm]
    exact struck_stream ..
  · exact (Fabric.reach_col ..).trans (hcols.trans (if_pos (hnone.mpr h)))
  · exact (Fabric.reach_col ..).trans (hcols.trans (if_neg (fun hn => h (hnone.mp hn))))
  · rw [State.withFab_fab, Fabric.reach_samplers, ← hf]
    exact Fabric.fetchRow_samplers ..
  · exact onlySite_withFab ((struck_work s i x).trans (hf ▸ (Fabric.fetchRow_work ..).trans (Fabric.reach_work ..)))

end Sys2Proof.Machine
end

section
/-! PROOFS. LAUNCH (R30, R31, R58, R66; O9). -/

namespace Sys2Proof.Machine
open Sys2Proof

-- SEM_CLEAR -----------------------------------------------------------------------------------------------------------

/-- One semaphore cleared by a launch with its tag. -/
def Site.clearSem (s : Site) (tag : BitVec 16) (i : Fin 32) : Site := { s with sems := s.sems.set i 0, semTags := s.semTags.set i tag }

/-- The semaphores of a list cleared, and no others. -/
theorem Site.clearSems_get (l : List (Fin 32)) (s : Site) (tag : BitVec 16) (q : Fin 32) :
    (l.foldl (fun s i => s.clearSem tag i) s).sems[q] = (if q ∈ l then 0 else s.sems[q]) ∧
    (l.foldl (fun s i => s.clearSem tag i) s).semTags[q] = (if q ∈ l then tag else s.semTags[q]) := by
  induction l generalizing s with
  | nil => exact ⟨rfl, rfl⟩
  | cons i r ih =>
    obtain ⟨h1, h2⟩ := ih (s.clearSem tag i)
    rw [List.foldl_cons, h1, h2]
    by_cases hq : q ∈ r
    · simp [hq]
    · by_cases hi : q = i
      · subst hi
        simp [hq, Site.clearSem]
      · have hv : (i : Nat) ≠ q := fun h => hi (Fin.ext h.symm)
        simp [hq, hi, Site.clearSem, Vector.getElem_set_ne, hv]

theorem Site.clearSems_keeps {γ : Type} (p : Site → γ) (hp : ∀ (s : Site) a b, p { s with sems := a, semTags := b } = p s) (l : List (Fin 32)) (s : Site)
    (tag : BitVec 16) : p (l.foldl (fun s i => s.clearSem tag i) s) = p s :=
  foldl_keeps p (fun (s : Site) i => s.clearSem tag i) (fun _ _ => hp ..) l s

/-- The semaphores that a launch clears. -/
def semsCleared (p : LaunchPkt) : List (Fin 32) := (List.finRange 32).filter (fun i => p.semClear.getLsbD i.val)

theorem mem_semsCleared (p : LaunchPkt) (q : Fin 32) : q ∈ (semsCleared p) ↔ p.semClear.getLsbD q.val = true := by simp [semsCleared]

-- A launch that is taken ----------------------------------------------------------------------------------------------

/-- A stream that a launch has started. -/
def Stream.launched (v : Stream) (p : LaunchPkt) : Stream :=
  { v with state := .running, tag := p.tag, lastFault := 0, pc := p.start.toNat, start := p.start.toNat,
           params := padTo 256 p.params, fetched := [], loops := [], want := none, granted := false,
           refetch := none, fence := none, ending := false, endSen := none, held := none }

/-- The parameter block that a launch writes. -/
def launchBlock (p : LaunchPkt) : ScratchWrite :=
  { addr := scrUsable + 256 * p.stream.val, bytes := padTo 256 p.params, poison := false, tag := none }

/-- A site but for its streams once a launch has been taken. -/
def Site.launchedBase (s : Site) (p : LaunchPkt) : Site :=
  (semsCleared p).foldl (fun s i => s.clearSem p.tag i) ((s.apply (launchBlock p)).race none [(scrUsable + 256 * p.stream.val, 256)])

theorem Fabric.takeLaunch_eq {f : Fabric} (e : Env) {x : SiteIx} (t : TileId) {p : LaunchPkt}
    (h : ((f.site x).stream p.stream).state = .idle ∨ ((f.site x).stream p.stream).state = .faulted) : f.takeLaunch e x t p =
      (f.setSite x (((f.site x).launchedBase p).setStream p.stream (((f.site x).stream p.stream).launched p))).reach e x t p.stream := by
  have hc : (((f.site x).stream p.stream).state = .idle || ((f.site x).stream p.stream).state = .faulted) = true := by simpa using h
  exact if_pos hc

theorem Site.launchedBase_byte (s : Site) {p : LaunchPkt} (hl : p.params.length = 256) (a : Nat) : (s.launchedBase p).byte a =
    if 0x1FF000 + 0x100 * p.stream.val ≤ a ∧ a < 0x1FF000 + 0x100 * p.stream.val + 256 then p.params.getD (a - (0x1FF000 + 0x100 * p.stream.val)) 0
    else s.byte a := by
  have hpad : padTo 256 p.params = p.params := by simp [padTo, hl, List.take_of_length_le]
  unfold Site.launchedBase
  rw [Site.clearSems_keeps (fun s => s.byte a) (fun _ _ _ => rfl), Site.race_byte, Site.byte_apply]
  simp only [launchBlock, hpad, hl, scrUsable]

theorem Site.launchedBase_stream (s : Site) (p : LaunchPkt) (m : StreamId) : SameButMarks (s.stream m) ((s.launchedBase p).stream m) := by
  have hkeep : (s.launchedBase p).stream m = ((s.apply (launchBlock p)).race none [(scrUsable + 256 * p.stream.val, 256)]).stream m :=
    Site.clearSems_keeps (fun s => s.stream m) (fun _ _ _ => rfl) ..
  obtain ⟨k, hk, hs⟩ := (s.apply (launchBlock p)).race_stream none [(scrUsable + 256 * p.stream.val, 256)] m
  have happly : (s.apply (launchBlock p)).stream m = s.stream m := congrArg (fun l : Vector Stream 4 => l[m]) (s.apply_streams (launchBlock p))
  exact ⟨k, hk, by rw [hkeep, hs, happly]⟩

theorem Site.launchedBase_peers (s : Site) (p : LaunchPkt) : (s.launchedBase p).peers = s.peers := by
  unfold Site.launchedBase
  rw [Site.clearSems_keeps Site.peers (fun _ _ _ => rfl), Site.race_peers, Site.apply_peers]

theorem Site.launchedBase_sems (s : Site) (p : LaunchPkt) (q : Fin 32) :
    (s.launchedBase p).sems[q] = (if p.semClear.getLsbD q.val then 0 else s.sems[q]) ∧
    (s.launchedBase p).semTags[q] = (if p.semClear.getLsbD q.val then p.tag else s.semTags[q]) := by
  obtain ⟨h1, h2⟩ := Site.clearSems_get (semsCleared p) ((s.apply (launchBlock p)).race none [(scrUsable + 256 * p.stream.val, 256)]) p.tag q
  simp only [Site.race_sems, Site.race_semTags, Site.apply_sems, Site.apply_semTags, mem_semsCleared] at h1 h2
  exact ⟨h1, h2⟩

-- The statement -------------------------------------------------------------------------------------------------------

/-- A packet taken off the control network, and then work of one site. -/
theorem onlySite_dropCtl {s : State} {t : TileId} {p : CtlPkt} {x : SiteIx} {g : Fabric} (h : SiteWork x (s.d.bump.fab.dropCtl t p) g) :
    OnlySite s (s.withFab g) x := by
  have keeps {γ : Type} (p' : Fabric → γ) : p' g.others = p' (s.d.bump.fab.dropCtl t p).others := congrArg p' h.others
  exact ⟨onlyFabric_withFab s g, fun y hy => ⟨h.siteOff y hy, h.colOff y hy⟩, keeps Fabric.clusters, keeps Fabric.halfUp, keeps Fabric.fenced,
    keeps Fabric.mapValid, keeps Fabric.cut, keeps Fabric.kvRegion⟩

/-- What becomes of the packet of a launch, once its half does not switch its routing. -/
theorem Fabric.launch_eq {f : Fabric} (e : Env) {t : TileId} (p : LaunchPkt) (hsw : f.switching[tileHalf t] = false) : f.launch e t p =
    match f.siteOf t with
    | none => f.dropCtl t (.launch p)
    | some x => if f.holding t || !(f.site x).ready then (f.dropCtl t (.launch p)).hold t (.launch p) else (f.dropCtl t (.launch p)).takeLaunch e x t p := by
  exact if_neg (by simp [hsw])

theorem exec_launch (s : State) (t : TileId) (p : LaunchPkt) : exec (.launch t p) s = .next (s.onFab (fun e f => f.launch e t p)) := rfl

/-- A launch to a tile whose site takes its packets. -/
theorem launch_of_carries {s : State} {t : TileId} (p : LaunchPkt) {x : SiteIx} (hc : Carries s t x) (hsw : s.d.fab.switching[tileHalf t] = false) :
    s.d.bump.fab.launch s.env t p = (s.d.bump.fab.dropCtl t (.launch p)).takeLaunch s.env x t p := by
  obtain ⟨hx, hh, hr⟩ := hc
  have hx' : s.d.bump.fab.siteOf t = some x := hx
  have hgo : (s.d.bump.fab.holding t || !(s.d.bump.fab.site x).ready) = false := by
    have hh' : s.d.bump.fab.holding t = false := hh
    have hr' : (s.d.bump.fab.site x).ready = true := hr
    rw [hh', hr']
    rfl
  simp only [Fabric.launch_eq (f := s.d.bump.fab) s.env p hsw, hx', hgo, Bool.false_eq_true, if_false]

/-- Settles O9: a launch is taken, rejected, held or discarded. -/
theorem launchTakesAnIdleStream : Obligations.LaunchTakesAnIdleStream := by
  refine ⟨fun s t p x hc hsw hl hstate => ?_, fun s t p x hc hsw hi hf => ?_, fun s t p x hx hsw hh => ?_, fun s t p hx hsw => ?_, fun s t p hsw => ?_⟩
  · have htake := Fabric.takeLaunch_eq (f := s.d.bump.fab.dropCtl t (.launch p)) s.env (x := x) t (p := p) hstate
    have hsite : ((s.d.bump.fab.dropCtl t (.launch p)).setSite x (((s.d.fab.site x).launchedBase p).setStream p.stream
        (((s.d.fab.site x).stream p.stream).launched p))).site x =
        ((s.d.fab.site x).launchedBase p).setStream p.stream (((s.d.fab.site x).stream p.stream).launched p) := Fabric.site_setSite ..
    have hwork : SiteWork x (s.d.bump.fab.dropCtl t (.launch p)) ((s.d.bump.fab.dropCtl t (.launch p)).setSite x
        (((s.d.fab.site x).launchedBase p).setStream p.stream (((s.d.fab.site x).stream p.stream).launched p))) := SiteWork.setSite ..
    have hinbox : ((s.d.bump.fab.dropCtl t (.launch p)).setSite x (((s.d.fab.site x).launchedBase p).setStream p.stream
        (((s.d.fab.site x).stream p.stream).launched p))).inbox = s.d.fab.inbox := rfl
    have hcol : ((s.d.bump.fab.dropCtl t (.launch p)).setSite x (((s.d.fab.site x).launchedBase p).setStream p.stream
        (((s.d.fab.site x).stream p.stream).launched p))).col x = s.d.fab.col x := rfl
    replace htake : (s.d.bump.fab.dropCtl t (.launch p)).takeLaunch s.env x t p = ((s.d.bump.fab.dropCtl t (.launch p)).setSite x
        (((s.d.fab.site x).launchedBase p).setStream p.stream (((s.d.fab.site x).stream p.stream).launched p))).reach s.env x t p.stream := htake
    generalize (s.d.bump.fab.dropCtl t (.launch p)).setSite x (((s.d.fab.site x).launchedBase p).setStream p.stream
        (((s.d.fab.site x).stream p.stream).launched p)) = f at htake hsite hwork hinbox hcol
    have hv : (f.site x).stream p.stream = ((s.d.fab.site x).stream p.stream).launched p := by rw [hsite, Site.stream_setStream]
    have hbyte (a : Nat) : ((f.reach s.env x t p.stream).site x).byte a = ((s.d.fab.site x).launchedBase p).byte a := by
      rw [Fabric.reach_byte, hsite]
      rfl
    obtain hsems := (s.d.fab.site x).launchedBase_sems p
    refine yields_onFab (exec_launch s t p) ((launch_of_carries p hc hsw).trans htake)
      ⟨fun i hi => ?_, fun a ha => ?_, fun q => ?_, fun q => ?_, ?_, ?_, fun hpc => ?_, fun hpc => ?_, fun m hm => ?_, ?_, ?_,
        onlySite_dropCtl (hwork.trans (Fabric.reach_work ..))⟩
    · rw [State.withFab_fab, hbyte, Site.launchedBase_byte _ hl, if_pos (by omega), Nat.add_sub_cancel_left]
    · rw [State.withFab_fab, hbyte, Site.launchedBase_byte _ hl, if_neg (by omega)]
    · rw [State.withFab_fab, Fabric.reach_sems, hsite]
      exact (hsems q).1
    · rw [State.withFab_fab, Fabric.reach_semTags, hsite]
      exact (hsems q).2
    · rw [State.withFab_fab, Fabric.reach_stream_keeps _ _ _ _ _ Stream.tag (fun _ _ _ _ _ _ _ _ _ => rfl), hv]
      rfl
    · rw [State.withFab_fab, Fabric.reach_stream_keeps _ _ _ _ _ Stream.pc (fun _ _ _ _ _ _ _ _ _ => rfl), hv]
      rfl
    · rw [State.withFab_fab, Fabric.reach_of_clear s.env t hv (.inr (.inr ⟨hpc, rfl⟩)), hv]
      exact ⟨rfl, rfl, hinbox⟩
    · obtain ⟨h1, h2, h3⟩ := Fabric.reach_hole s.env t hv rfl rfl hpc
      rw [hinbox] at h3
      exact ⟨h1, h2, h3⟩
    · rw [State.withFab_fab, Fabric.reach_stream_ne _ _ _ _ _ hm, hsite, Site.stream_setStream_ne _ _ hm]
      exact Site.launchedBase_stream ..
    · rw [State.withFab_fab, Fabric.reach_peers, hsite]
      exact Site.launchedBase_peers ..
    · exact (Fabric.reach_col ..).trans hcol
  · have hbusy : (s.d.bump.fab.dropCtl t (.launch p)).takeLaunch s.env x t p =
        { s.d.bump.fab.dropCtl t (.launch p) with inbox := s.d.fab.inbox ++ [TileMsg.busy t p.stream p.tag] } := by
      have hc' : ((((s.d.bump.fab.dropCtl t (.launch p)).site x).stream p.stream).state = .idle ||
          (((s.d.bump.fab.dropCtl t (.launch p)).site x).stream p.stream).state = .faulted) = false := by
        rw [Bool.or_eq_false_iff, decide_eq_false_iff_not, decide_eq_false_iff_not]
        exact ⟨hi, hf⟩
      exact if_neg (by rw [hc']; exact Bool.false_ne_true)
    exact yields_onFab (exec_launch s t p) ((launch_of_carries p hc hsw).trans hbusy) ⟨rfl, rfl, rfl, onlySite_dropCtl (SiteWork.tells ..)⟩
  · have hx' : s.d.bump.fab.siteOf t = some x := hx
    have hhold : (s.d.bump.fab.holding t || !(s.d.bump.fab.site x).ready) = true := by
      have hh' : s.d.bump.fab.holding t = true ∨ (s.d.bump.fab.site x).ready = false := hh
      simpa using hh'
    refine yields_onFab (f := (s.d.bump.fab.dropCtl t (.launch p)).hold t (.launch p)) (exec_launch s t p) ?_
      ⟨tget_tput .., rfl, rfl, rfl, onlyFabric_withFab ..⟩
    rw [Fabric.launch_eq (f := s.d.bump.fab) s.env p hsw, hx']
    exact if_pos hhold
  · have hx' : s.d.bump.fab.siteOf t = none := hx
    refine yields_onFab (f := s.d.bump.fab.dropCtl t (.launch p)) (exec_launch s t p) ?_ ⟨rfl, rfl, rfl, rfl, onlyFabric_withFab ..⟩
    rw [Fabric.launch_eq (f := s.d.bump.fab) s.env p hsw, hx']
  · have hidle : s.d.bump.fab.launch s.env t p = s.d.bump.fab := if_pos hsw
    exact congrArg Host.Outcome.next ((s.onFab_eq _).trans (congrArg s.withFab hidle))

end Sys2Proof.Machine
end

section
/-! PROOFS. STEP_COMPLETE (R35, R39, R42, R50, R87, R98, R109, R111; O24). -/

namespace Sys2Proof.Machine
open Sys2Proof

-- What a local add leaves ---------------------------------------------------------------------------------------------

theorem Fabric.localAdd_site_keeps {γ : Type} (p : Site → γ) {n : StreamId} {q : Fin 32} {k : Nat} (hadd : ∀ s : Site, p (s.add q k).1 = p s)
    (hfault : ∀ (s : Site) c, p (s.faulted n c) = p s) (f : Fabric) (e : Env) (x : SiteIx) (t : TileId) (off : Nat) :
    p ((f.localAdd e x t n off q k).site x) = p (f.site x) := by
  have hset : p ((f.setSite x ((f.site x).add q k).1).site x) = p (f.site x) := (congrArg p (Fabric.site_setSite ..)).trans (hadd _)
  rw [Fabric.localAdd_eq]
  exact ite_keeps (fun f : Fabric => p (f.site x)) ((congrArg p (Fabric.faultStream_site ..)).trans ((hfault ..).trans hset)) hset

theorem Fabric.localAdd_col (f : Fabric) (e : Env) (x : SiteIx) (t : TileId) (n : StreamId) (off : Nat) (q : Fin 32) (k : Nat) (y : SiteIx) :
    (f.localAdd e x t n off q k).col y = f.col y := by
  rw [Fabric.localAdd_eq]
  exact ite_keeps (fun f : Fabric => f.col y) (Fabric.faultStream_col ..) rfl

theorem Fabric.localAdd_samplers (f : Fabric) (e : Env) (x : SiteIx) (t : TileId) (n : StreamId) (off : Nat) (q : Fin 32) (k : Nat) :
    (f.localAdd e x t n off q k).samplers = f.samplers := by
  rw [Fabric.localAdd_eq]
  exact ite_keeps Fabric.samplers (Fabric.faultStream_samplers ..) rfl

/-- Where no take waits, the semaphore holds the sum; where that passes 0xFFFF, the most that it can hold, and the overflow is told. -/
theorem Fabric.localAdd_no_takes (f : Fabric) (e : Env) (x : SiteIx) (t : TileId) (n : StreamId) (off : Nat) (q : Fin 32) (k : Nat)
    (h : ∀ m : StreamId, ((f.site x).stream m).want = none) :
    ((f.localAdd e x t n off q k).site x).sems = (f.site x).sems.set q (semAfter ((f.site x).sems[q]).toNat k) ∧
    (f.localAdd e x t n off q k).inbox = f.inbox ++
      (if 0xFFFF < ((f.site x).sems[q]).toNat + k then [TileMsg.fault t n ((f.site x).stream n).tag 0x09 off 0] else []) := by
  have hadd := (f.site x).add_of_no_takes q k (fun m _ => h m)
  rw [Fabric.localAdd_eq, hadd]
  by_cases hover : 0xFFFF < ((f.site x).sems[q]).toNat + k
  · rw [if_pos hover, if_pos hover, Fabric.faultStream_site, Site.faulted_sems, Fabric.faultStream_inbox, Fabric.site_setSite]
    exact ⟨rfl, rfl⟩
  · rw [if_neg hover, if_neg hover, Fabric.site_setSite, List.append_nil]
    exact ⟨rfl, rfl⟩

-- The array -----------------------------------------------------------------------------------------------------------

theorem ArraySt.unwait_replays (a : ArraySt) (v : Stream) (n : StreamId) : (a.unwait v n).replays = a.replays := ite_keeps ArraySt.replays rfl rfl

theorem Site.faulted_replays (s : Site) (n : StreamId) (k : Cause) : (s.faulted n k).arr.replays = s.arr.replays := by
  unfold Site.faulted
  exact ite_keeps (fun s : Site => s.arr.replays) (ArraySt.unwait_replays ..) (ArraySt.unwait_replays ..)

/-- Counting a check touches the events and the suspicion of the array, and reports. -/
theorem Fabric.countCheck_setArr (f : Fabric) (e : Env) (x : SiteIx) (t : TileId) (b : ArraySt) : ∃ ev su l,
    (f.setSite x { f.site x with arr := b }).countCheck e x t =
      { f.setSite x { f.site x with arr := { b with events := ev, suspect := su } } with reports := l } := by
  unfold Fabric.countCheck
  dsimp only
  rw [Fabric.site_setSite, Fabric.setSite_setSite]
  split
  · exact ⟨[], true, _, rfl⟩
  · rw [Fabric.setSite_setSite]
    exact ⟨_, b.suspect, f.reports, rfl⟩

/-- A MATMUL done changes the array and nothing else of its site; one that was a replay counts as passed. -/
theorem Fabric.arrayDone_eq (f : Fabric) (e : Env) (x : SiteIx) (t : TileId) (n : StreamId) (id : Nat) : ∃ a l,
    f.arrayDone e x t n id = { f.setSite x { f.site x with arr := a } with reports := l } ∧
    a.replays = if (f.site x).arr.replay = some (n, id) then satAdd 16 (f.site x).arr.replays 1 else (f.site x).arr.replays := by
  unfold Fabric.arrayDone
  dsimp only
  split
  · obtain ⟨ev, su, l, h⟩ := f.countCheck_setArr e x t
      { (f.site x).arr.leave n id with replays := satAdd 16 ((f.site x).arr.leave n id).replays 1 }
    exact ⟨_, l, h, rfl⟩
  · exact ⟨_, f.reports, rfl, rfl⟩

theorem Fabric.arrayDone_work (f : Fabric) (e : Env) (x : SiteIx) (t : TileId) (n : StreamId) (id : Nat) : SiteWork x f (f.arrayDone e x t n id) := by
  obtain ⟨a, l, h, -⟩ := f.arrayDone_eq e x t n id
  rw [h]
  exact (SiteWork.setSite ..).trans (SiteWork.tells ..)

-- Commit --------------------------------------------------------------------------------------------------------------

/-- A site once the scratch writes of a step have been made and its events counted (R42). -/
def Site.committed (s : Site) (n : StreamId) (r : StepRec) : Site :=
  let a := (r.scratch.foldl Site.apply s).race (some n) (writeRanges r.scratch)
  { a with nanOut := satAdd 16 a.nanOut r.nan, satCount := satAdd 16 a.satCount r.sat, emptyRows := satAdd 16 a.emptyRows r.empty }

theorem Fabric.commit_site_keeps {γ : Type} (p : Site → γ) (hp : ∀ s : Site, p { s with tags := [] } = p s) (f : Fabric) (e : Env) (x : SiteIx)
    (n : StreamId) (r : StepRec) : p ((f.commit e x n r).site x) = p ((f.site x).committed n r) :=
  (Transfers.site_keeps p hp (Fabric.writeSectors_transfers ..)).trans (congrArg p (Fabric.site_setSite ..))

theorem Fabric.commit_work (f : Fabric) (e : Env) (x : SiteIx) (n : StreamId) (r : StepRec) : SiteWork x f (f.commit e x n r) :=
  (SiteWork.setSite ..).trans (Fabric.writeSectors_transfers ..).siteWork

/-- A stream whose own writes these are keeps its marks. -/
@[simp] theorem Site.race_stream_self (s : Site) (n : StreamId) (ws : List (Nat × Nat)) : (s.race (some n) ws).stream n = s.stream n := by
  simp [Site.race, Site.stream]

/-- Scratch writes leave the rest of the site. -/
theorem Site.applyAll_keeps {γ : Type} (p : Site → γ) (hp : ∀ s : Site, p s.rest = p s) (l : List ScratchWrite) (s : Site) :
    p (l.foldl Site.apply s) = p s := (hp _).symm.trans ((congrArg p (s.applyAll_rest l)).trans (hp s))

@[simp] theorem Site.committed_sems (s : Site) (n : StreamId) (r : StepRec) : (s.committed n r).sems = s.sems :=
  Site.applyAll_keeps Site.sems (fun _ => rfl) r.scratch s
@[simp] theorem Site.committed_arr (s : Site) (n : StreamId) (r : StepRec) : (s.committed n r).arr = s.arr :=
  Site.applyAll_keeps Site.arr (fun _ => rfl) r.scratch s

theorem Site.committed_stream (s : Site) (n : StreamId) (r : StepRec) : (s.committed n r).stream n = s.stream n :=
  (Site.race_stream_self ..).trans (Site.applyAll_keeps (fun s => s.stream n) (fun _ => rfl) r.scratch s)

/-- No stream waits for units that it did not wait for. -/
theorem Site.committed_want (s : Site) (n : StreamId) (r : StepRec) (m : StreamId) : ((s.committed n r).stream m).want = (s.stream m).want := by
  obtain ⟨k, -, h⟩ := (r.scratch.foldl Site.apply s).race_stream (some n) (writeRanges r.scratch) m
  exact (congrArg Stream.want h).trans (Site.applyAll_keeps (fun s => (s.stream m).want) (fun _ => rfl) r.scratch s)

/-- Where no request waits for the rows of a write, the column takes its sectors. -/
theorem Fabric.writeSectors_cells (f : Fabric) (e : Env) (x : SiteIx) (ws : List SectorWrite)
    (h : ∀ w ∈ ws, ∀ q ∈ (f.col x).queue, q.ri ≠ w.key / 16) : ((f.writeSectors e x ws).col x).cells = ((f.col x).putAll ws).cells := by
  have hmine : f.before e x ((ws.map (fun w => w.key / 16)).eraseDups) = f := by
    have hnone : (f.col x).queue.filter (fun r => ((ws.map (fun w => w.key / 16)).eraseDups).contains r.ri) = [] := by
      refine List.filter_eq_nil_iff.mpr (fun q hq hc => ?_)
      rw [List.contains_eq_mem, decide_eq_true_eq, List.mem_eraseDups, List.mem_map] at hc
      obtain ⟨w, hw, hk⟩ := hc
      exact h w hw q hq hk.symm
    simp only [Fabric.before, hnone, List.isEmpty_nil, if_true]
  rw [Fabric.writeSectors, hmine]
  by_cases hws : ws = []
  · subst hws
    rfl
  · obtain ⟨n, hcol⟩ := f.col_xferWrite x hws
    rw [hcol]

-- Completion ----------------------------------------------------------------------------------------------------------

/-- The units that a step adds when it completes. -/
def StepRec.adds (r : StepRec) : Option (Fin 32 × Nat) :=
  match r.kind with
  | .signal q k => some (q, k)
  | _ => r.sen.map (fun q => (q, 1))

/-- The halves once a step has been committed and has left its stream and the array. -/
def Fabric.finish (f : Fabric) (e : Env) (x : SiteIx) (t : TileId) (n : StreamId) (r : StepRec) (p : StepRec) : Fabric :=
  let g := (f.commit e x n p).modStream x n (fun v => { v with steps := v.steps.filter (fun q => q.id ≠ r.id) })
  match r.kind with
  | .matmul _ _ _ => g.arrayDone e x t n r.id
  | _ => g

/-- The halves with the units of a completed step. -/
def Fabric.addUnits (f : Fabric) (e : Env) (x : SiteIx) (t : TileId) (n : StreamId) (r : StepRec) : Fabric :=
  match r.adds with
  | some (q, k) => f.localAdd e x t n r.off q k
  | none => f

theorem find_id {l : List StepRec} {id : Nat} {r : StepRec} (h : l.find? (fun q => q.id = id) = some r) : r.id = id := by
  simpa using List.find?_some h

theorem Fabric.complete_of_ready {f : Fabric} (e : Env) {x : SiteIx} (t : TileId) {n : StreamId} {id : Nat} {r : StepRec}
    (hr : ((f.site x).stream n).steps.find? (fun q => q.id = id) = some r) (h : ¬ TooEarly (f.site x) n r) :
    f.complete e x t n id = (f.finish e x t n r ((f.site x).settled f.free n r)).addUnits e x t n r := by
  have hid := find_id hr
  subst hid
  unfold Fabric.complete
  dsimp only
  rw [hr]
  unfold TooEarly at h
  unfold Fabric.finish Fabric.addUnits StepRec.adds
  cases hk : r.kind <;> simp only [hk] at h ⊢
  case signal q k =>
    rw [if_neg (by simpa using h)]
  case matmul m a b =>
    rw [if_neg h]
    cases r.sen <;> rfl
  all_goals
    rw [if_neg Bool.false_ne_true]
    cases r.sen <;> rfl

theorem Fabric.complete_early {f : Fabric} (e : Env) {x : SiteIx} (t : TileId) {n : StreamId} {id : Nat}
    (h : ∀ r : StepRec, ((f.site x).stream n).steps.find? (fun q => q.id = id) = some r → TooEarly (f.site x) n r) :
    f.complete e x t n id = f := by
  unfold Fabric.complete
  dsimp only
  cases hr : ((f.site x).stream n).steps.find? (fun q => q.id = id) with
  | none => rfl
  | some r =>
    have hid := find_id hr
    subst hid
    have ht := h r hr
    unfold TooEarly at ht
    refine if_pos ?_
    cases hk : r.kind <;> simp only [hk] at ht ⊢
    case signal q k => simpa using ht
    case matmul m a b => exact ht

-- The halves once a step has finished ---------------------------------------------------------------------------------

section
variable (f : Fabric) (e : Env) (x : SiteIx) (t : TileId) (n : StreamId) (r p : StepRec)

/-- A stream without a step. -/
def Stream.without (v : Stream) (id : Nat) : Stream := { v with steps := v.steps.filter (fun q => q.id ≠ id) }

/-- The halves once a step has been committed and has left its stream. -/
def Fabric.left : Fabric := (f.commit e x n p).modStream x n (fun v => v.without r.id)

theorem Fabric.left_site : (f.left e x n r p).site x = ((f.commit e x n p).site x).setStream n ((((f.commit e x n p).site x).stream n).without r.id) :=
  Fabric.site_setSite ..

theorem Fabric.left_work : SiteWork x f (f.left e x n r p) := (Fabric.commit_work ..).trans (Fabric.modStream_work ..)

/-- What finishing keeps of the halves that the step has left: all but the array and reports. -/
theorem Fabric.finish_keeps {γ : Type} (pr : Fabric → γ)
    (hp : ∀ (f : Fabric) a l, pr { f.setSite x { f.site x with arr := a } with reports := l } = pr f) :
    pr (f.finish e x t n r p) = pr (f.left e x n r p) := by
  unfold Fabric.finish
  dsimp only
  split
  · obtain ⟨a, l, h, -⟩ := (f.left e x n r p).arrayDone_eq e x t n r.id
    exact (congrArg pr h).trans (hp ..)
  · rfl

theorem Fabric.finish_work : SiteWork x f (f.finish e x t n r p) := by
  refine (f.left_work e x n r p).trans ?_
  unfold Fabric.finish
  dsimp only
  split
  · exact Fabric.arrayDone_work ..
  · exact .refl ..

theorem Fabric.finish_site_keeps {γ : Type} (pr : Site → γ) (hp : ∀ (s : Site) a b c, pr { s with streams := a, tags := b, arr := c } = pr s) :
    pr ((f.finish e x t n r p).site x) = pr ((f.site x).committed n p) := by
  refine (f.finish_keeps e x t n r p (fun f => pr (f.site x)) (fun f a l => ?_)).trans ?_
  · exact (congrArg pr (Fabric.site_setSite ..)).trans (hp _ (f.site x).streams (f.site x).tags a)
  · rw [Fabric.left_site]
    exact (hp _ _ _ _).trans (f.commit_site_keeps pr (fun s => hp s s.streams [] s.arr) e x n p)

theorem Fabric.finish_stream : ((f.finish e x t n r p).site x).stream n = ((f.site x).stream n).without r.id := by
  refine (f.finish_keeps e x t n r p (fun f => (f.site x).stream n) (fun f a l => ?_)).trans ?_
  · exact (congrArg (fun s : Site => s.stream n) (Fabric.site_setSite ..)).trans rfl
  · rw [Fabric.left_site, Site.stream_setStream, f.commit_site_keeps (fun s => s.stream n) (fun _ => rfl), Site.committed_stream]

theorem Fabric.finish_want (m : StreamId) : (((f.finish e x t n r p).site x).stream m).want = ((f.site x).stream m).want := by
  refine (f.finish_keeps e x t n r p (fun f => ((f.site x).stream m).want) (fun f a l => ?_)).trans ?_
  · exact (congrArg (fun s : Site => (s.stream m).want) (Fabric.site_setSite ..)).trans rfl
  · have hkeep (s : Site) : ((s.setStream n ((s.stream n).without r.id)).stream m).want = (s.stream m).want := by
      by_cases h : m = n
      · subst h
        rw [Site.stream_setStream]
        rfl
      · rw [Site.stream_setStream_ne _ _ h]
    rw [Fabric.left_site, hkeep]
    exact (f.commit_site_keeps (fun s => (s.stream m).want) (fun _ => rfl) e x n p).trans (Site.committed_want ..)

theorem Fabric.finish_col : (f.finish e x t n r p).col x = ((f.setSite x ((f.site x).committed n p)).writeSectors e x p.sectors).col x :=
  f.finish_keeps e x t n r p (fun f => f.col x) (fun _ _ _ => rfl)

theorem Fabric.finish_inbox : (f.finish e x t n r p).inbox = f.inbox :=
  (f.finish_keeps e x t n r p Fabric.inbox (fun _ _ _ => rfl)).trans (Fabric.writeSectors_transfers ..).inbox

theorem Fabric.finish_samplers : (f.finish e x t n r p).samplers = f.samplers :=
  (f.finish_keeps e x t n r p Fabric.samplers (fun _ _ _ => rfl)).trans (Fabric.writeSectors_transfers ..).samplers

theorem Fabric.finish_replays (h : ∃ m a b, r.kind = .matmul m a b) : ((f.finish e x t n r p).site x).arr.replays =
    if (f.site x).arr.replay = some (n, r.id) then satAdd 16 (f.site x).arr.replays 1 else (f.site x).arr.replays := by
  obtain ⟨m, a, b, hk⟩ := h
  have harr : ((f.left e x n r p).site x).arr = (f.site x).arr := by
    rw [Fabric.left_site]
    exact (f.commit_site_keeps Site.arr (fun _ => rfl) e x n p).trans (Site.committed_arr ..)
  obtain ⟨c, l, h, hc⟩ := (f.left e x n r p).arrayDone_eq e x t n r.id
  have hfin : f.finish e x t n r p = (f.left e x n r p).arrayDone e x t n r.id := by
    unfold Fabric.finish
    rw [hk]
    rfl
  rw [hfin, h, ← harr, ← hc]
  exact congrArg (fun s : Site => s.arr.replays) (Fabric.site_setSite ..)

end

/-- What adding units keeps of the site. -/
theorem Fabric.addUnits_site_keeps {γ : Type} (pr : Site → γ) (hp : ∀ (s : Site) a b c d, pr { s with streams := a, sems := b, arr := c, parityFaults := d } = pr s)
    (f : Fabric) (e : Env) (x : SiteIx) (t : TileId) (n : StreamId) (r : StepRec) : pr ((f.addUnits e x t n r).site x) = pr (f.site x) := by
  unfold Fabric.addUnits
  split
  · exact Fabric.localAdd_site_keeps pr (fun s => Site.add_keeps pr (fun s a b => hp s a b s.arr s.parityFaults) s _ _)
      (fun s c => Site.faulted_keeps pr (fun s a b d => hp s a s.sems b d) s _ _) ..
  · rfl

theorem Fabric.addUnits_replays (f : Fabric) (e : Env) (x : SiteIx) (t : TileId) (n : StreamId) (r : StepRec) :
    ((f.addUnits e x t n r).site x).arr.replays = (f.site x).arr.replays := by
  unfold Fabric.addUnits
  split
  · exact Fabric.localAdd_site_keeps (fun s => s.arr.replays) (fun s => s.add_keeps (fun s => s.arr.replays) (fun _ _ _ => rfl) _ _)
      (fun s c => s.faulted_replays _ _) ..
  · rfl

theorem Fabric.addUnits_steps (f : Fabric) (e : Env) (x : SiteIx) (t : TileId) (n : StreamId) (r : StepRec) :
    (((f.addUnits e x t n r).site x).stream n).steps = ((f.site x).stream n).steps := by
  unfold Fabric.addUnits
  split
  · exact Fabric.localAdd_site_keeps (fun s => (s.stream n).steps) (fun s => s.add_stream_keeps Stream.steps (fun _ _ _ _ => rfl) _ _ _)
      (fun s c => by rw [Site.stream_faulted, Stream.faulted_steps]) ..
  · rfl

theorem Fabric.addUnits_col (f : Fabric) (e : Env) (x : SiteIx) (t : TileId) (n : StreamId) (r : StepRec) : (f.addUnits e x t n r).col x = f.col x := by
  unfold Fabric.addUnits
  split
  · exact Fabric.localAdd_col ..
  · rfl

theorem Fabric.addUnits_samplers (f : Fabric) (e : Env) (x : SiteIx) (t : TileId) (n : StreamId) (r : StepRec) :
    (f.addUnits e x t n r).samplers = f.samplers := by
  unfold Fabric.addUnits
  split
  · exact Fabric.localAdd_samplers ..
  · rfl

theorem Fabric.addUnits_work (f : Fabric) (e : Env) (x : SiteIx) (t : TileId) (n : StreamId) (r : StepRec) : SiteWork x f (f.addUnits e x t n r) := by
  unfold Fabric.addUnits
  split
  · exact Fabric.localAdd_work ..
  · exact .refl ..

theorem StepRec.adds_none {r : StepRec} (h : ¬ IsSignal r) (hs : r.sen = none) : r.adds = none := by
  unfold StepRec.adds
  split
  next q k hk => exact absurd ⟨q, k, hk⟩ h
  · rw [hs]
    rfl

theorem StepRec.adds_some {r : StepRec} {q : Fin 32} {k : Nat} (h : r.kind = .signal q k ∨ (¬ IsSignal r ∧ r.sen = some q ∧ k = 1)) :
    r.adds = some (q, k) := by
  unfold StepRec.adds
  obtain hk | ⟨hn, hs, rfl⟩ := h
  · rw [hk]
  · split
    next q k hk => exact absurd ⟨q, k, hk⟩ hn
    · rw [hs]
      rfl

theorem Site.settled_keeps (s : Site) (free : Nat) (n : StreamId) (r : StepRec) : ∃ l, s.settled free n r = { r with scratch := l } := by
  unfold Site.settled
  dsimp only
  split
  · exact ⟨_, rfl⟩
  · exact ⟨r.scratch, rfl⟩

theorem satAdd_16 (a b : Nat) : satAdd 16 a b = Nat.min 0xFFFF (a + b) := by
  simp [satAdd, Nat.min_comm]

/-- Settles O24: a step that may complete is committed, leaves its stream and the array, and adds its units. -/
theorem stepCompletionMakesWritesVisible : Obligations.StepCompletionMakesWritesVisible := by
  have hexec (s : State) (t : TileId) (n : StreamId) (id : Nat) : exec (.stepComplete t n id) s = .next (s.onFab (fun e f => f.stepComplete e t n id)) := rfl
  have hstep (s : State) (t : TileId) (n : StreamId) (id : Nat) (x : SiteIx) (hx : s.d.fab.siteOf t = some x) :
      s.d.bump.fab.stepComplete s.env t n id = s.d.bump.fab.complete s.env x t n id := by
    have hx' : s.d.bump.fab.siteOf t = some x := hx
    simp only [Fabric.stepComplete, hx']
  refine ⟨fun s t n id x r hx hr hnot => ?_, fun s t n id x hx h => yields_onFab_idle (hexec s t n id) ?_⟩
  · have hid := find_id hr
    obtain ⟨l, hsettled⟩ := (s.d.fab.site x).settled_keeps (s.d.fab.free + 1) n r
    have hdone := (hstep s t n id x hx).trans (Fabric.complete_of_ready (f := s.d.bump.fab) s.env t hr hnot)
    have hp : (s.d.bump.fab.site x).settled s.d.bump.fab.free n r = (s.d.fab.site x).settled (s.d.fab.free + 1) n r := rfl
    have hsec : ((s.d.fab.site x).settled (s.d.fab.free + 1) n r).sectors = r.sectors := by rw [hsettled]
    have hnan : ((s.d.fab.site x).settled (s.d.fab.free + 1) n r).nan = r.nan := by rw [hsettled]
    have hsat : ((s.d.fab.site x).settled (s.d.fab.free + 1) n r).sat = r.sat := by rw [hsettled]
    have hempty : ((s.d.fab.site x).settled (s.d.fab.free + 1) n r).empty = r.empty := by rw [hsettled]
    rw [hp] at hdone
    generalize (s.d.fab.site x).settled (s.d.fab.free + 1) n r = p at hdone hsec hnan hsat hempty ⊢
    have hsite {γ : Type} (pr : Site → γ) (hk : ∀ (s : Site) a b c, pr { s with streams := a, tags := b, arr := c } = pr s) :=
      s.d.bump.fab.finish_site_keeps s.env x t n r p pr hk
    have hkeep {γ : Type} (pr : Site → γ) (hk : ∀ (s : Site) a b c d g, pr { s with streams := a, tags := b, arr := c, sems := d, parityFaults := g } = pr s) :=
      ((s.d.bump.fab.finish s.env x t n r p).addUnits_site_keeps pr (fun s a b c d => hk s a s.tags c b d) s.env x t n r).trans
        (hsite pr (fun s a b c => hk s a b c s.sems s.parityFaults))
    have hcol : ((s.d.bump.fab.finish s.env x t n r p).addUnits s.env x t n r).col x =
        ((s.d.bump.fab.setSite x ((s.d.fab.site x).committed n p)).writeSectors s.env x p.sectors).col x :=
      (Fabric.addUnits_col ..).trans (Fabric.finish_col ..)
    have hrepl := s.d.bump.fab.finish_replays s.env x t n r p
    have hinbox : (s.d.bump.fab.finish s.env x t n r p).inbox = s.d.fab.inbox := Fabric.finish_inbox ..
    have hsems : ((s.d.bump.fab.finish s.env x t n r p).site x).sems = (s.d.fab.site x).sems :=
      (hsite Site.sems (fun _ _ _ _ => rfl)).trans (Site.committed_sems ..)
    refine yields_onFab (hexec s t n id) hdone ⟨fun a => ?_, ?_, fun hq => ?_, fun hm => ?_, ?_, ?_, ?_, ?_, fun hns hs => ?_, fun q k hadd hwant => ?_, ?_, ?_⟩
    · exact hkeep (fun s => s.byte a) (fun _ _ _ _ _ _ => rfl)
    · exact hkeep Site.poison (fun _ _ _ _ _ _ => rfl)
    · rw [State.withFab_fab, hcol]
      exact Fabric.writeSectors_cells _ _ _ _ (hsec ▸ hq)
    · rw [State.withFab_fab, Fabric.addUnits_replays, hrepl hm, hid, satAdd_16]
      rfl
    · refine (hkeep Site.nanOut (fun _ _ _ _ _ _ => rfl)).trans ((satAdd_16 ..).trans ?_)
      rw [hnan]
      exact congrArg (fun k => Nat.min 0xFFFF (k + r.nan)) (Site.applyAll_keeps Site.nanOut (fun _ => rfl) p.scratch (s.d.fab.site x))
    · refine (hkeep Site.satCount (fun _ _ _ _ _ _ => rfl)).trans ((satAdd_16 ..).trans ?_)
      rw [hsat]
      exact congrArg (fun k => Nat.min 0xFFFF (k + r.sat)) (Site.applyAll_keeps Site.satCount (fun _ => rfl) p.scratch (s.d.fab.site x))
    · refine (hkeep Site.emptyRows (fun _ _ _ _ _ _ => rfl)).trans ((satAdd_16 ..).trans ?_)
      rw [hempty]
      exact congrArg (fun k => Nat.min 0xFFFF (k + r.empty)) (Site.applyAll_keeps Site.emptyRows (fun _ => rfl) p.scratch (s.d.fab.site x))
    · rw [State.withFab_fab, Fabric.addUnits_steps, Fabric.finish_stream, hid]
      rfl
    · have hnone : (s.d.bump.fab.finish s.env x t n r p).addUnits s.env x t n r = s.d.bump.fab.finish s.env x t n r p := by
        rw [Fabric.addUnits, StepRec.adds_none hns hs]
      rw [State.withFab_fab, hnone]
      exact ⟨hsems, hinbox⟩
    · have hsome : (s.d.bump.fab.finish s.env x t n r p).addUnits s.env x t n r =
          (s.d.bump.fab.finish s.env x t n r p).localAdd s.env x t n r.off q k := by
        rw [Fabric.addUnits, StepRec.adds_some hadd]
      have htag : (((s.d.bump.fab.finish s.env x t n r p).site x).stream n).tag = ((s.d.fab.site x).stream n).tag := by
        rw [Fabric.finish_stream]
        rfl
      obtain ⟨h1, h2⟩ := (s.d.bump.fab.finish s.env x t n r p).localAdd_no_takes s.env x t n r.off q k (fun m => (Fabric.finish_want ..).trans (hwant m))
      rw [hsems] at h1 h2
      rw [hinbox, htag] at h2
      rw [State.withFab_fab, hsome]
      exact ⟨h1, h2⟩
    · exact (Fabric.addUnits_samplers ..).trans (Fabric.finish_samplers ..)
    · exact onlySite_withFab ((Fabric.finish_work ..).trans (Fabric.addUnits_work ..))
  · exact (hstep s t n id x hx).trans (Fabric.complete_early (f := s.d.bump.fab) s.env t h)

end Sys2Proof.Machine
end

section
/-! PROOFS. SEND_DELIVERY (R43, R59, R66, R292; O27). -/

namespace Sys2Proof.Machine
open Sys2Proof

/-- A stream without a SEND. -/
def Stream.sent (v : Stream) (id : Nat) : Stream := { v with sends := v.sends.filter (fun q => q.id ≠ id) }

/-- The halves without a SEND under way. -/
def Fabric.sent (f : Fabric) (x : SiteIx) (n : StreamId) (id : Nat) : Fabric := f.modStream x n (fun v => v.sent id)

/-- The halves between the tiles of a SEND are not fenced from each other. -/
def SendsThrough (f : Fabric) (t peer : TileId) : Prop := tileHalf peer = tileHalf t ∨ (f.fenced[tileHalf t] = false ∧ f.fenced[tileHalf peer] = false)

/-- The SEND stands under way, and none before it to its peer does. -/
def NextSend (f : Fabric) (x : SiteIx) (n : StreamId) (id : Nat) (r : SendRec) : Prop :=
  ((f.site x).stream n).sends.find? (fun q => q.id = id) = some r ∧ ∀ q ∈ ((f.site x).stream n).sends, q.peer = r.peer → id ≤ q.id

/-- A SEND that is next and whose way is free is gone from its stream: discarded where its peer is absent, else delivered where its switch does not hold it. -/
theorem Fabric.sendDelivery_next {f : Fabric} (e : Env) {t : TileId} {n : StreamId} {id : Nat} {x : SiteIx} {r : SendRec} (hx : f.siteOf t = some x)
    (hn : NextSend f x n id r) (hf : SendsThrough f t r.peer) : f.sendDelivery e t n id =
      match f.siteOf r.peer with
      | none => f.sent x n id
      | some y => if f.holding r.peer || !(f.site y).ready then
          if (tget f.held [] r.peer.val).contains (.send t n id) then f else f.hold r.peer (.send t n id)
        else (f.sent x n id).deliver e r := by
  obtain ⟨hr, hfirst⟩ := hn
  have hany : ((f.site x).stream n).sends.any (fun q => q.peer = r.peer && q.id < id) = false := by
    rw [List.any_eq_false]
    intro q hq hc
    simp only [Bool.and_eq_true, decide_eq_true_eq] at hc
    have := hfirst q hq hc.1
    omega
  have hout : (tileHalf r.peer != tileHalf t && f.fenced[tileHalf t]) = false := by
    obtain h | ⟨h, -⟩ := hf
    · simp [h]
    · rw [h, Bool.and_false]
  have hin : (tileHalf r.peer != tileHalf t && f.fenced[tileHalf r.peer]) = false := by
    obtain h | ⟨-, h⟩ := hf
    · simp [h]
    · rw [h, Bool.and_false]
  simp only [Fabric.sendDelivery, hx, hr, hany, hout, hin, Bool.false_eq_true, if_false]
  rfl

/-- One behind another to the same peer waits. -/
theorem Fabric.sendDelivery_behind {f : Fabric} (e : Env) {t : TileId} {n : StreamId} {id : Nat} {x : SiteIx} {r q : SendRec} (hx : f.siteOf t = some x)
    (hr : ((f.site x).stream n).sends.find? (fun q => q.id = id) = some r) (hq : q ∈ ((f.site x).stream n).sends) (hp : q.peer = r.peer) (hid : q.id < id) :
    f.sendDelivery e t n id = f := by
  have hany : ((f.site x).stream n).sends.any (fun q => q.peer = r.peer && q.id < id) = true :=
    List.any_eq_true.mpr ⟨q, hq, by simp [hp, hid]⟩
  simp only [Fabric.sendDelivery, hx, hr, hany, if_true]

/-- The command delivers on the halves alone, unless it drops a packet at a fence. -/
theorem exec_sendDelivery {s : State} {t : TileId} {n : StreamId} {id : Nat} {x : SiteIx} {r : SendRec} (hx : s.d.fab.siteOf t = some x)
    (hr : ((s.d.fab.site x).stream n).sends.find? (fun q => q.id = id) = some r)
    (h : SendsThrough s.d.fab t r.peer ∨ s.d.bump.fab.sendDelivery s.env t n id = s.d.bump.fab) :
    exec (.sendDelivery t n id) s = .next (s.withFab (s.d.bump.fab.sendDelivery s.env t n id)) := by
  have hexec : exec (.sendDelivery t n id) s = .next { s with d := s.d.bump.sendDelivery s.env t n id } := rfl
  have hx' : s.d.bump.fab.siteOf t = some x := hx
  have hr' : ((s.d.bump.fab.site x).stream n).sends.find? (fun q => q.id == id) = some r := hr
  rw [hexec]
  refine congrArg Host.Outcome.next ?_
  unfold Dev.sendDelivery
  simp only [hx', hr']
  rw [if_neg]
  · rfl
  · intro hc
    simp only [Bool.and_eq_true] at hc
    obtain ⟨⟨⟨hne, hout⟩, hin⟩, hgone⟩ := hc
    obtain (h | ⟨-, h⟩) | h := h
    · simp [h] at hne
    · exact Bool.false_ne_true (h.symm.trans hin)
    · rw [h] at hgone
      simp only [hx', hr', Option.isNone_some, Bool.false_eq_true] at hgone

/-- A site that a SEND has reached. -/
def Site.delivered (s : Site) (r : SendRec) : Site :=
  let a := (s.apply { addr := r.dst, bytes := r.data, poison := false, tag := none }).race none [(r.dst, r.data.length)]
  match r.dsem with
  | some q => { a with sems := s.sems.set q (BitVec.ofNat 16 ((s.sems[q]).toNat + 1)) }
  | none => a

theorem Site.delivered_keeps {γ : Type} (p : Site → γ) (hp : ∀ (s : Site) q, p { s with sems := q } = p s) (s : Site) (r : SendRec) : p (s.delivered r) =
    p ((s.apply { addr := r.dst, bytes := r.data, poison := false, tag := none }).race none [(r.dst, r.data.length)]) := by
  unfold Site.delivered
  cases r.dsem with
  | none => rfl
  | some q => exact hp _ _

theorem Site.delivered_byte (s : Site) (r : SendRec) (a : Nat) :
    (s.delivered r).byte a = if r.dst ≤ a ∧ a < r.dst + r.data.length then r.data.getD (a - r.dst) 0 else s.byte a := by
  rw [Site.delivered_keeps (fun s => s.byte a) (fun _ _ => rfl), Site.race_byte, Site.byte_apply]

theorem Site.delivered_stream (s : Site) (r : SendRec) (m : StreamId) : SameButMarks (s.stream m) ((s.delivered r).stream m) := by
  obtain ⟨k, hk, hs⟩ := (s.apply { addr := r.dst, bytes := r.data, poison := false, tag := none }).race_stream none [(r.dst, r.data.length)] m
  have happly : (s.apply { addr := r.dst, bytes := r.data, poison := false, tag := none }).stream m = s.stream m :=
    congrArg (fun l : Vector Stream 4 => l[m]) (s.apply_streams _)
  exact ⟨k, hk, by rw [Site.delivered_keeps (fun s => s.stream m) (fun _ _ => rfl), hs, happly]⟩

theorem Fabric.deliver_eq {f : Fabric} (e : Env) {y : SiteIx} {r : SendRec} (hy : f.siteOf r.peer = some y)
    (hfits : ∀ q, r.dsem = some q → ((f.site y).sems[q]).toNat + 1 ≤ 0xFFFF ∧ ∀ m : StreamId, ((f.site y).stream m).want = none) :
    f.deliver e r = f.setSite y ((f.site y).delivered r) := by
  have hdeliver : f.deliver e r =
      let g := f.setSite y (((f.site y).apply { addr := r.dst, bytes := r.data, poison := false, tag := none }).race none [(r.dst, r.data.length)])
      match r.dsem with
      | some q => g.remoteAdd e y r.peer q 1
      | none => g := by
    simp only [Fabric.deliver, hy]
    rfl
  rw [hdeliver]
  unfold Site.delivered
  cases hq : r.dsem with
  | none => rfl
  | some q =>
    obtain ⟨hfit, hwant⟩ := hfits q hq
    dsimp only
    generalize ha : ((f.site y).apply { addr := r.dst, bytes := r.data, poison := false, tag := none }).race none [(r.dst, r.data.length)] = a
    have hsems : a.sems = (f.site y).sems := by rw [← ha, Site.race_sems, Site.apply_sems]
    have hwants (m : StreamId) : (a.stream m).want = none := by
      obtain ⟨k, -, h⟩ := (f.site y).delivered_stream { r with dsem := none } m
      rw [← ha]
      exact (congrArg Stream.want h).trans (hwant m)
    have hover : (a.add q 1).2 = false := by
      rw [Site.add_eq, hsems]
      exact decide_eq_false (Nat.not_lt.mpr hfit)
    have hadd : (a.add q 1).1 = { a with sems := (f.site y).sems.set q (BitVec.ofNat 16 (((f.site y).sems[q]).toNat + 1)) } := by
      rw [Site.add_of_no_takes _ _ _ (fun m _ => hwants m), hsems, semAfter_of_fits hfit]
    unfold Fabric.remoteAdd
    rw [Fabric.site_setSite]
    simp only [hover, Bool.not_false, if_true, hadd, Fabric.setSite_setSite]

/-- Settles O27: delivered, held up by an earlier SEND, or discarded. -/
theorem sendsArriveInOrder : Obligations.SendsArriveInOrder := by
  refine ⟨fun s t n id x y r hx hxy hr hfirst hc hthrough hfits => ?_, fun s t n id x r q hx hr hq hp hid => ?_,
    fun s t n id x r hx hr hfirst habsent hthrough => ?_⟩
  · obtain ⟨hy, hhold, hready⟩ := hc
    have hsite : (s.d.bump.fab.sent x n id).site y = s.d.fab.site y := Fabric.site_setSite_ne _ _ (Ne.symm hxy)
    have hsendx : (s.d.bump.fab.sent x n id).site x = (s.d.fab.site x).setStream n (((s.d.fab.site x).stream n).sent id) := Fabric.site_setSite ..
    have hdone : s.d.bump.fab.sendDelivery s.env t n id = (s.d.bump.fab.sent x n id).setSite y ((s.d.fab.site y).delivered r) := by
      have hgo : (s.d.bump.fab.holding r.peer || !(s.d.bump.fab.site y).ready) = false := by
        have hh : s.d.bump.fab.holding r.peer = false := hhold
        have hrd : (s.d.bump.fab.site y).ready = true := hready
        rw [hh, hrd]
        rfl
      have hy' : s.d.bump.fab.siteOf r.peer = some y := hy
      have hdel : (s.d.bump.fab.sent x n id).deliver s.env r = (s.d.bump.fab.sent x n id).setSite y ((s.d.fab.site y).delivered r) := by
        rw [Fabric.deliver_eq (f := s.d.bump.fab.sent x n id) s.env hy (by rw [hsite]; exact hfits), hsite]
      rw [Fabric.sendDelivery_next (f := s.d.bump.fab) s.env hx ⟨hr, hfirst⟩ hthrough, hy']
      dsimp only
      rw [hgo, if_neg Bool.false_ne_true, hdel]
    have hgy : ((s.d.bump.fab.sent x n id).setSite y ((s.d.fab.site y).delivered r)).site y = (s.d.fab.site y).delivered r := Fabric.site_setSite ..
    have hgx : ((s.d.bump.fab.sent x n id).setSite y ((s.d.fab.site y).delivered r)).site x =
        (s.d.fab.site x).setStream n (((s.d.fab.site x).stream n).sent id) := (Fabric.site_setSite_ne _ _ hxy).trans hsendx
    refine ⟨_, (exec_sendDelivery hx hr (.inl hthrough)).trans (congrArg (fun f => Host.Outcome.next (s.withFab f)) hdone), fun a => ?_, ?_, fun m => ?_,
      ?_, fun m hm => ?_, ?_, ?_, fun z hzx hzy => ?_, rfl, rfl, rfl, onlyFabric_withFab ..⟩
    · rw [State.withFab_fab, hgy, Site.delivered_byte]
    · rw [State.withFab_fab, hgy]
      unfold Site.delivered
      cases r.dsem with
      | none => exact (Site.race_sems ..).trans (Site.apply_sems ..)
      | some q => rfl
    · rw [State.withFab_fab, hgy]
      exact Site.delivered_stream ..
    · rw [State.withFab_fab, hgx, Site.stream_setStream]
      rfl
    · rw [State.withFab_fab, hgx, Site.stream_setStream_ne _ _ hm]
    · rw [State.withFab_fab, hgx]
      rfl
    · rw [State.withFab_fab, hgx]
      rfl
    · exact (Fabric.site_setSite_ne _ _ hzy).trans (Fabric.site_setSite_ne _ _ hzx)
  · have hidle := Fabric.sendDelivery_behind (f := s.d.bump.fab) s.env hx hr hq hp hid
    refine ⟨_, exec_sendDelivery hx hr (.inr hidle), ?_⟩
    rw [hidle]
    exact s.withFab_bump
  · have hgone : s.d.bump.fab.sendDelivery s.env t n id = s.d.bump.fab.sent x n id := by
      have habsent' : s.d.bump.fab.siteOf r.peer = none := habsent
      rw [Fabric.sendDelivery_next (f := s.d.bump.fab) s.env hx ⟨hr, hfirst⟩ hthrough, habsent']
    refine ⟨_, (exec_sendDelivery hx hr (.inl hthrough)).trans (congrArg (fun f => Host.Outcome.next (s.withFab f)) hgone), ?_,
      fun z hz => Fabric.site_setSite_ne _ _ hz, rfl⟩
    exact Fabric.site_setSite ..

end Sys2Proof.Machine
end

section
/-! PROOFS. Reloads and replays (R52, R107 to R110; O28). -/

namespace Sys2Proof.Machine
open Sys2Proof

-- A block reloaded from a row -----------------------------------------------------------------------------------------

theorem readRow_length (f : Fabric) (e : Env) (x : SiteIx) (cls ri : Nat) (errs : List SymErr) : (f.readRow e x cls ri errs).2.length = 16 := by
  exact (List.length_map ..).trans List.length_range

/-- The writes of the sectors of a row from sector k on. -/
def sectorRuns (a k : Nat) (rs : List SecRead) : List ScratchWrite :=
  (rs.zipIdx k).map (fun p => { addr := a + 64 * p.2, bytes := sectorBytes p.1.data, poison := p.1.poison, tag := none })

/-- A byte after the sectors of a row have been written one behind another. -/
theorem byte_sectorRuns (rs : List SecRead) (a k : Nat) (s : Site) (i : Nat) (hi : a + 64 * k ≤ i) : ((sectorRuns a k rs).foldl Site.apply s).byte i =
    if i < a + 64 * (k + rs.length) then (rs.flatMap (fun q => sectorBytes q.data)).getD (i - (a + 64 * k)) 0 else s.byte i := by
  induction rs generalizing k s with
  | nil =>
    rw [if_neg (by simp only [List.length_nil]; omega)]
    rfl
  | cons q r ih =>
    have hlen := sectorBytes_length q.data
    have hcons : (sectorRuns a k (q :: r)).foldl Site.apply s = (sectorRuns a (k + 1) r).foldl Site.apply
        (s.apply { addr := a + 64 * k, bytes := sectorBytes q.data, poison := q.poison, tag := none }) := by
      rw [sectorRuns, List.zipIdx_cons, List.map_cons, List.foldl_cons, sectorRuns]
    have happly := Site.byte_apply s { addr := a + 64 * k, bytes := sectorBytes q.data, poison := q.poison, tag := none } i
    dsimp only at happly
    rw [hlen] at happly
    rw [hcons, List.flatMap_cons, List.length_cons, List.getD_eq_getElem?_getD]
    by_cases hnext : a + 64 * (k + 1) ≤ i
    · have hskip : i - (a + 64 * k) = i - (a + 64 * (k + 1)) + 64 := by omega
      have htail : (sectorBytes q.data ++ r.flatMap (fun q => sectorBytes q.data))[i - (a + 64 * k)]? =
          (r.flatMap (fun q => sectorBytes q.data))[i - (a + 64 * (k + 1))]? := by
        rw [List.getElem?_append_right (by omega), hlen, hskip, Nat.add_sub_cancel]
      rw [ih _ _ hnext, happly, if_neg (c := a + 64 * k ≤ i ∧ i < a + 64 * k + 64) (by omega), htail, ← List.getD_eq_getElem?_getD]
      exact if_congr (by omega) rfl rfl
    · have hout : ∀ w ∈ sectorRuns a (k + 1) r, ¬ (w.addr ≤ i ∧ i < w.addr + w.bytes.length) := by
        intro w hw
        obtain ⟨p, hp, rfl⟩ := List.mem_map.mp hw
        have := List.le_snd_of_mem_zipIdx hp
        dsimp only
        omega
      rw [Site.byte_applyAll_outside _ _ _ hout, happly, if_pos (by omega), if_pos (by omega), List.getElem?_append_left (by omega),
        List.getD_eq_getElem?_getD]

theorem rowToScratch_eq (b ri : Nat) (rs : List SecRead) :
    rowToScratch (1024 * b) ri rs = sectorRuns (1024 * b) 0 rs ++ [{ addr := 1024 * b, bytes := [], poison := false, tag := some (1024 * ri) }] := by
  rw [rowToScratch, if_pos (by omega)]
  rfl

/-- A site with a block filled from a row, and the reload counted. -/
def Site.reloaded (s : Site) (b ri : Nat) (rs : List SecRead) : Site :=
  let a := (rowToScratch (1024 * b) ri rs).foldl Site.apply s
  { a with refetches := satAdd 16 a.refetches 1 }

theorem Site.reloaded_byte (s : Site) {b : Nat} (ri : Nat) {rs : List SecRead} (hl : rs.length = 16) {a : Nat} (ha : a / 1024 = b) :
    (s.reloaded b ri rs).byte a = (rs.flatMap (fun q => sectorBytes q.data)).getD (a % 1024) 0 := by
  have hout : ∀ w ∈ [({ addr := 1024 * b, bytes := [], poison := false, tag := some (1024 * ri) } : ScratchWrite)],
      ¬ (w.addr ≤ a ∧ a < w.addr + w.bytes.length) := by
    intro w hw
    rw [List.mem_singleton] at hw
    subst hw
    simp
  have hbyte : (s.reloaded b ri rs).byte a = ((rowToScratch (1024 * b) ri rs).foldl Site.apply s).byte a := rfl
  rw [hbyte, rowToScratch_eq, List.foldl_append, Site.byte_applyAll_outside _ _ _ hout, byte_sectorRuns _ _ _ _ _ (by omega), if_pos (by omega)]
  exact congrArg (fun i => List.getD _ i _) (by omega)

theorem Site.reloaded_keeps {γ : Type} (p : Site → γ) (hp : ∀ (s : Site) n, p { s.rest with refetches := n } = p s) (s : Site) (b ri : Nat)
    (rs : List SecRead) : p (s.reloaded b ri rs) = p s := by
  have h := congrArg (fun a : Site => p { a with refetches := 0 }) (Site.applyAll_rest (rowToScratch (1024 * b) ri rs) s)
  exact (hp _ 0).symm.trans (Eq.trans h (hp s 0))

theorem Site.reloaded_refetches (s : Site) (b ri : Nat) (rs : List SecRead) : (s.reloaded b ri rs).refetches = Nat.min 0xFFFF (s.refetches + 1) := by
  refine (satAdd_16 ..).trans ?_
  rw [Site.applyAll_keeps Site.refetches (fun _ => rfl)]

-- SCRATCH_REFETCH -----------------------------------------------------------------------------------------------------

/-- The lowest stream that waits for a reload. -/
theorem find_allStreams {p : StreamId → Bool} {n : StreamId} (hn : p n = true) (hlow : ∀ m : StreamId, m < n → p m = false) :
    allStreams.find? p = some n := by
  have hall : allStreams = List.finRange 4 := by decide
  rw [hall, List.find?_eq_some_iff_getElem]
  refine ⟨hn, n.val, by simp, by simp, fun j hj => ?_⟩
  have hlt : (⟨j, by omega⟩ : StreamId) < n := hj
  simpa using hlow _ hlt

@[simp] theorem Site.setStream_byte (s : Site) (n : StreamId) (v : Stream) (a : Nat) : (s.setStream n v).byte a = s.byte a := rfl

/-- The stream no longer waits for a reload. -/
def Stream.resumed (v : Stream) : Stream := { v with refetch := none }

/-- What a reload reads from the column, with the disturbances that the command reports. -/
def Fabric.reloadRead (f : Fabric) (e : Env) (x : SiteIx) (ups : List DramUpset) (r : RefetchRec) : Fabric × List SecRead :=
  (f.setCol x ((f.col x).upsets ups)).readRow e x 4 r.row []

/-- The halves with the block reloaded, before the step runs again. -/
def Fabric.reload (f : Fabric) (e : Env) (x : SiteIx) (n : StreamId) (ups : List DramUpset) (r : RefetchRec) : Fabric :=
  let q := f.reloadRead e x ups r
  let s := (q.1.site x).reloaded r.block r.row q.2
  q.1.setSite x (s.setStream n (s.stream n).resumed)

section
variable (f : Fabric) (e : Env) (x : SiteIx) (n : StreamId) (ups : List DramUpset) (r : RefetchRec)

theorem Fabric.reloadRead_work : SiteWork x f (f.reloadRead e x ups r).1 := (SiteWork.setCol ..).trans (Fabric.readRow_reads ..).transfers.siteWork

theorem Fabric.reload_work : SiteWork x f (f.reload e x n ups r) := (f.reloadRead_work e x ups r).trans (SiteWork.setSite ..)

theorem Fabric.reloadRead_site_keeps {γ : Type} (p : Site → γ) (hp : ∀ s : Site, p { s with tags := [] } = p s) :
    p ((f.reloadRead e x ups r).1.site x) = p (f.site x) := (Fabric.readRow_reads ..).transfers.site_keeps p hp

theorem Fabric.reload_site : (f.reload e x n ups r).site x = ((((f.reloadRead e x ups r).1.site x).reloaded r.block r.row (f.reloadRead e x ups r).2).setStream n
    ((((f.reloadRead e x ups r).1.site x).reloaded r.block r.row (f.reloadRead e x ups r).2).stream n).resumed) := Fabric.site_setSite ..

theorem Fabric.reload_refetches : ((f.reload e x n ups r).site x).refetches = Nat.min 0xFFFF ((f.site x).refetches + 1) := by
  rw [Fabric.reload_site]
  refine (Site.reloaded_refetches ..).trans ?_
  rw [Fabric.reloadRead_site_keeps f e x ups r Site.refetches (fun _ => rfl)]

theorem Fabric.reload_byte {a : Nat} (ha : a / 1024 = r.block) : ((f.reload e x n ups r).site x).byte a =
    ((f.reloadRead e x ups r).2.flatMap (fun q => sectorBytes q.data)).getD (a % 1024) 0 := by
  have hlen : (f.reloadRead e x ups r).2.length = 16 := readRow_length (f.setCol x ((f.col x).upsets ups)) e x 4 r.row []
  rw [Fabric.reload_site, Site.setStream_byte]
  exact Site.reloaded_byte ((f.reloadRead e x ups r).1.site x) r.row hlen ha

theorem Fabric.reload_steps : (((f.reload e x n ups r).site x).stream n).steps = ((f.site x).stream n).steps := by
  rw [Fabric.reload_site, Site.stream_setStream]
  exact (Site.reloaded_keeps (fun s => (s.stream n).steps) (fun _ _ => rfl) ..).trans
    (f.reloadRead_site_keeps e x ups r (fun s => (s.stream n).steps) (fun _ => rfl))

end

theorem runAny_stays : StaysOnSite runAny := fun c => (runAny_unfinished c).siteWork

/-- The step that runs again after a reload leaves the scratch as it is, or faults its stream. -/
theorem Fabric.execute_again (f : Fabric) (e : Env) (x : SiteIx) (t : TileId) (n : StreamId) (d : Desc) :
    ((f.execute e x t n d runAny).site x).refetches = (f.site x).refetches ∧
    ((((f.execute e x t n d runAny).site x).stream n).state = .faulted ∨
      ∀ a, ((f.execute e x t n d runAny).site x).byte a = (f.site x).byte a) := by
  have hu := runAny_unfinished { e := e, f := f, x := x, t := t, st := n, d := d, off := ((f.site x).stream n).pc }
  have hrefetches := hu.site_keeps Site.refetches (fun _ _ _ => rfl)
  have hbyte (a : Nat) := hu.site_keeps (fun s => s.byte a) (fun _ _ _ => rfl)
  dsimp only [StepCtx.site] at hrefetches hbyte
  unfold Fabric.execute
  dsimp only
  generalize runAny { e := e, f := f, x := x, t := t, st := n, d := d, off := ((f.site x).stream n).pc } = o at hrefetches hbyte ⊢
  cases o.res with
  | ok ef =>
    obtain ⟨m, hm⟩ := Fabric.sendSlices_shape ef.slices
      (o.f.setSite x ((o.f.site x).setStream n (((o.f.site x).stream n).entered d o ef)))
    have henter : (o.f.enter x n d o ef).site x = (o.f.site x).setStream n (((o.f.site x).stream n).entered d o ef) :=
      (congrArg (fun f : Fabric => f.site x) hm).trans (Fabric.site_setSite ..)
    dsimp only
    rw [Fabric.reach_site_keeps _ _ _ _ _ Site.refetches (fun _ _ _ _ => rfl), Fabric.site_setSite, henter]
    refine ⟨hrefetches, .inr (fun a => ?_)⟩
    rw [Fabric.reach_byte, Fabric.site_setSite, Site.setStream_byte, Site.setStream_byte]
    exact hbyte a
  | fault i w =>
    dsimp only
    rw [Fabric.faultStream_site, Site.stream_faulted, Site.faulted_keeps Site.refetches (fun _ _ _ _ => rfl), Fabric.site_setSite]
    exact ⟨(Site.applyAll_keeps Site.refetches (fun _ => rfl) w (o.f.site x)).trans hrefetches, .inl (Stream.faulted_state ..)⟩
  | refetch b =>
    dsimp only
    rw [Fabric.site_setSite]
    exact ⟨hrefetches, .inr (fun a => (Site.setStream_byte ..).trans (hbyte a))⟩

/-- The poisoned sector of a reload, if there is one. -/
def reloadPoison (rs : List SecRead) : Option (SecRead × Nat) := rs.zipIdx.find? (fun p => p.1.poison)

theorem clean_of_reloadPoison {rs : List SecRead} (h : reloadPoison rs = none) : ¬ ∃ q ∈ rs, q.poison = true := by
  rintro ⟨q, hq, hp⟩
  rw [← List.zipIdx_map_fst 0 rs, List.mem_map] at hq
  obtain ⟨p, hmem, rfl⟩ := hq
  exact List.find?_eq_none.mp h p hmem hp

/-- What a reload comes to: the stream faults where a sector carries poison, else the step runs again. -/
theorem Fabric.refetch_cases {f : Fabric} (e : Env) {t : TileId} (ups : List DramUpset) {x : SiteIx} {n : StreamId} {r : RefetchRec}
    (hx : f.siteOf t = some x) (hr : ((f.site x).stream n).refetch = some r) (hlow : ∀ m : StreamId, m < n → ((f.site x).stream m).refetch = none) :
    (∃ off i, f.refetch e t ups = (f.reload e x n ups r).faultStream e x t n off i) ∨
    (reloadPoison (f.reloadRead e x ups r).2 = none ∧ (f.refetch e t ups = f.reload e x n ups r ∨
      ∃ d, f.refetch e t ups = (f.reload e x n ups r).execute e x t n d runAny)) := by
  have hfind : allStreams.find? (fun st => ((f.site x).stream st).refetch.isSome) = some n :=
    find_allStreams (by rw [hr]; rfl) (fun m hm => by rw [hlow m hm]; rfl)
  have hstep : f.refetch e t ups = match reloadPoison (f.reloadRead e x ups r).2 with
      | some p => (f.reload e x n ups r).faultStream e x t n ((f.site x).stream n).pc { FaultInfo.of .poisonConsumed with
          poisonAt := some (16 * r.row + p.2, if p.1.outcome = 5 then poisonRec .uncorrectable t.val 2 (nowNs e.time) else p.1.data) }
      | none => match ((f.site x).stream n).descAt ((f.site x).stream n).pc with
        | some d => (f.reload e x n ups r).execute e x t n (d.withStrides ((f.site x).stream n).loops) runAny
        | none => f.reload e x n ups r := by
    simp only [Fabric.refetch, hx, hfind, hr]
    rfl
  cases hp : reloadPoison (f.reloadRead e x ups r).2 with
  | some p =>
    rw [hp] at hstep
    exact .inl ⟨_, _, hstep⟩
  | none =>
    rw [hp] at hstep
    refine .inr ⟨rfl, ?_⟩
    cases hd : ((f.site x).stream n).descAt ((f.site x).stream n).pc with
    | some d =>
      rw [hd] at hstep
      exact .inr ⟨_, hstep⟩
    | none =>
      rw [hd] at hstep
      exact .inl hstep

theorem Fabric.refetch_idle {f : Fabric} (e : Env) {t : TileId} (ups : List DramUpset) {x : SiteIx} (hx : f.siteOf t = some x)
    (h : ∀ m : StreamId, ((f.site x).stream m).refetch = none) : f.refetch e t ups = f := by
  have hfind : allStreams.find? (fun st => ((f.site x).stream st).refetch.isSome) = none := by
    rw [List.find?_eq_none]
    intro m _
    rw [h m]
    exact Bool.false_ne_true
  simp only [Fabric.refetch, hx, hfind]

/-- SCRATCH_REFETCH of the lowest stream that waits for a reload. -/
theorem refetch_reloads {s : State} {t : TileId} {ups : List DramUpset} {x : SiteIx} {n : StreamId} {r : RefetchRec} (hx : s.d.fab.siteOf t = some x)
    (hr : ((s.d.fab.site x).stream n).refetch = some r) (hlow : ∀ m : StreamId, m < n → ((s.d.fab.site x).stream m).refetch = none) :
    let rs := ((s.d.bump.fab.setCol x ((s.d.fab.col x).upsets ups)).readRow s.env x 4 r.row []).2
    Yields (.scratchRefetch t ups) s (fun u => (u.d.fab.site x).refetches = Nat.min 0xFFFF ((s.d.fab.site x).refetches + 1) ∧
      ((∃ q ∈ rs, q.poison = true) → ((u.d.fab.site x).stream n).state = .faulted ∧ ((u.d.fab.site x).stream n).steps = ((s.d.fab.site x).stream n).steps) ∧
      ((∃ q ∈ rs, q.poison = true) ∨ ((u.d.fab.site x).stream n).state ≠ .faulted → ∀ a : Nat, a / 1024 = r.block →
        (u.d.fab.site x).byte a = (rs.flatMap (fun q => sectorBytes q.data)).getD (a % 1024) 0) ∧ OnlySite s u x) := by
  intro rs
  have hrs : rs = (s.d.bump.fab.reloadRead s.env x ups r).2 := rfl
  have hexec : exec (.scratchRefetch t ups) s = .next (s.onFab (fun e f => f.refetch e t ups)) := rfl
  have hcount := s.d.bump.fab.reload_refetches s.env x n ups r
  have hbyte {a : Nat} := s.d.bump.fab.reload_byte s.env x n ups r (a := a)
  have hsteps := s.d.bump.fab.reload_steps s.env x n ups r
  have hwork := s.d.bump.fab.reload_work s.env x n ups r
  rw [hrs]
  obtain ⟨off, i, h⟩ | ⟨hnone, h | ⟨d, h⟩⟩ := Fabric.refetch_cases (f := s.d.bump.fab) s.env ups hx hr hlow
  · refine yields_onFab hexec h ⟨?_, fun _ => ⟨?_, ?_⟩, fun _ a ha => ?_, onlySite_withFab (hwork.trans (Fabric.faultStream_work ..))⟩
    · rw [State.withFab_fab, Fabric.faultStream_site, Site.faulted_keeps Site.refetches (fun _ _ _ _ => rfl)]
      exact hcount
    · rw [State.withFab_fab, Fabric.faultStream_site, Site.stream_faulted]
      exact Stream.faulted_state ..
    · rw [State.withFab_fab, Fabric.faultStream_site, Site.stream_faulted, Stream.faulted_steps]
      exact hsteps
    · rw [State.withFab_fab, Fabric.faultStream_site, Site.faulted_byte]
      exact hbyte ha
  · have hclean := clean_of_reloadPoison hnone
    exact yields_onFab hexec h ⟨hcount, fun hp => absurd hp hclean, fun _ a ha => hbyte ha, onlySite_withFab hwork⟩
  · have hclean := clean_of_reloadPoison hnone
    obtain ⟨hrefetches, hagain⟩ := (s.d.bump.fab.reload s.env x n ups r).execute_again s.env x t n d
    refine yields_onFab hexec h ⟨hrefetches.trans hcount, fun hp => absurd hp hclean, fun hor a ha => ?_,
      onlySite_withFab (hwork.trans (Fabric.execute_work _ _ _ _ _ _ runAny_stays))⟩
    have hlive := hor.resolve_left hclean
    exact ((hagain.resolve_left hlive) a).trans (hbyte ha)

end Sys2Proof.Machine
end

section
/-! PROOFS. CHECKSUM_MISMATCH (R107 to R110), and the statement O28. -/

namespace Sys2Proof.Machine
open Sys2Proof

/-- The array with a fault located. -/
def ArraySt.located (a : ArraySt) (k row col : Nat) : ArraySt := { a with kind := k, row := row, col := col }

/-- The array with the fault that the failing checks of a MATMUL locate. -/
def ArraySt.mismatched (a : ArraySt) (rows cols : List (Fin 64)) (r : ArrRec) : ArraySt :=
  a.located (locateFault (r.mod % 4) rows cols).1 (locateFault (r.mod % 4) rows cols).2.1 (locateFault (r.mod % 4) rows cols).2.2

/-- The array with a step to run once more. -/
def ArraySt.replaying (a : ArraySt) (n : StreamId) (id : Nat) : ArraySt := { a with replay := some (n, id) }

/-- The array that a MATMUL whose replay has failed too has left. -/
def ArraySt.failed (a : ArraySt) (n : StreamId) (id : Nat) : ArraySt := { a.leave n id with faults := satAdd 16 (a.leave n id).faults 1 }

theorem ArraySt.unwait_keeps {γ : Type} (p : ArraySt → γ) (hp : ∀ (a : ArraySt) q sh b r, p { a with queue := q, shape := sh, busy := b, replay := r } = p a)
    (a : ArraySt) (v : Stream) (n : StreamId) : p (a.unwait v n) = p a :=
  ite_keeps p (hp a _ _ _ _) rfl

theorem Site.faulted_arr_keeps {γ : Type} (p : ArraySt → γ) (hp : ∀ (a : ArraySt) q sh b r, p { a with queue := q, shape := sh, busy := b, replay := r } = p a)
    (s : Site) (n : StreamId) (k : Cause) : p (s.faulted n k).arr = p s.arr := by
  unfold Site.faulted
  exact ite_keeps (fun s : Site => p s.arr) (ArraySt.unwait_keeps p hp ..) (ArraySt.unwait_keeps p hp ..)

/-- Counting a check touches the events and the suspicion of the array, and reports. -/
theorem Fabric.countCheck_setSite (f : Fabric) (e : Env) (x : SiteIx) (t : TileId) (s : Site) : ∃ ev su l,
    (f.setSite x s).countCheck e x t = { f.setSite x { s with arr := { s.arr with events := ev, suspect := su } } with reports := l } := by
  unfold Fabric.countCheck
  dsimp only
  rw [Fabric.site_setSite]
  split
  · exact ⟨[], true, _, by rw [Fabric.setSite_setSite]; rfl⟩
  · rw [Fabric.setSite_setSite]
    exact ⟨_, s.arr.suspect, f.reports, rfl⟩

/-- A checked MATMUL whose mismatch is the one that the replay calls for. -/
structure Mismatch (s : Site) (rows cols : List (Fin 64)) (again : Bool) (r : ArrRec) : Prop where
  checked : s.arr.checked = some r
  failing : rows ≠ [] ∨ cols ≠ []
  called : again = true ↔ s.arr.replay = some (r.stream, r.id)

section
variable {f : Fabric} (e : Env) {t : TileId} (block : Nat) {rows cols : List (Fin 64)} {x : SiteIx} {r : ArrRec}

theorem mismatch_judged {s : Site} {again : Bool} (h : Mismatch s rows cols again r) :
    ((rows.isEmpty && cols.isEmpty) || again != (s.arr.replay == some (r.stream, r.id))) = false := by
  have hempty : (rows.isEmpty && cols.isEmpty) = false := by
    obtain h | h := h.failing <;> simp [h]
  have hagain : again = (s.arr.replay == some (r.stream, r.id)) := by
    rw [Bool.eq_iff_iff, beq_iff_eq]
    exact h.called
  rw [hempty, Bool.false_or, bne_eq_false_iff_eq]
  exact hagain

/-- The first mismatch has the step run once more. -/
theorem Fabric.checksumMismatch_first (hx : f.siteOf t = some x) (h : Mismatch (f.site x) rows cols false r) :
    f.checksumMismatch e t block rows cols false = f.setSite x { f.site x with arr := ((f.site x).arr.mismatched rows cols r).replaying r.stream r.id } := by
  have hj := mismatch_judged h
  simp only [Fabric.checksumMismatch, hx, h.checked, hj, Bool.not_false, Bool.false_eq_true, if_false, if_true]
  rfl

/-- The site that a MATMUL whose replay has failed too has left. -/
def Site.replayFailed (s : Site) (rows cols : List (Fin 64)) (r : ArrRec) : Site :=
  { s.setStream r.stream ((s.stream r.stream).without r.id) with arr := (s.arr.mismatched rows cols r).failed r.stream r.id }

/-- The descriptor of a step in flight. -/
def Stream.offOf (v : Stream) (id : Nat) : Nat := ((v.steps.find? (fun q => q.id = id)).map (·.off)).getD v.pc

/-- What the fault of a checksum says. -/
def FaultInfo.checksum (extra : Nat) : FaultInfo := { FaultInfo.of .checksumMismatch with extra := extra }

/-- A mismatch of the replay faults the step. -/
theorem Fabric.checksumMismatch_again (hx : f.siteOf t = some x) (h : Mismatch (f.site x) rows cols true r) :
    ∃ extra, f.checksumMismatch e t block rows cols true = ((f.setSite x ((f.site x).replayFailed rows cols r)).countCheck e x t).faultStream e x t r.stream
      (((f.site x).stream r.stream).offOf r.id) (.checksum extra) := by
  have hj := mismatch_judged h
  apply Exists.intro
  simp only [Fabric.checksumMismatch, hx, h.checked, hj, Bool.not_true, Bool.false_eq_true, if_false]
  rfl

/-- The halves in which that fault finds the stream: the fault located and counted, and the step gone. -/
theorem Fabric.replayFailed_counted (f : Fabric) (x : SiteIx) (r : ArrRec) : ∃ ev su,
    let g := (f.setSite x ((f.site x).replayFailed rows cols r)).countCheck e x t
    g.site x = { (f.site x).replayFailed rows cols r with
      arr := { ((f.site x).arr.mismatched rows cols r).failed r.stream r.id with events := ev, suspect := su } } ∧
    SiteWork x f g ∧ g.inbox = f.inbox ∧ g.col x = f.col x := by
  obtain ⟨ev, su, l, h⟩ := f.countCheck_setSite e x t ((f.site x).replayFailed rows cols r)
  refine ⟨ev, su, ?_⟩
  dsimp only
  rw [h]
  exact ⟨Fabric.site_setSite .., (SiteWork.setSite ..).trans (SiteWork.tells ..), rfl, rfl⟩

/-- A mismatch that nothing calls for changes nothing. -/
theorem Fabric.checksumMismatch_idle (hx : f.siteOf t = some x) {again : Bool} (h : (f.site x).arr.checked = none ∨ (rows = [] ∧ cols = []) ∨
    (∃ r, (f.site x).arr.checked = some r ∧ ¬ (again = true ↔ (f.site x).arr.replay = some (r.stream, r.id)))) :
    f.checksumMismatch e t block rows cols again = f := by
  simp only [Fabric.checksumMismatch, hx]
  cases hr : (f.site x).arr.checked with
  | none => rfl
  | some r =>
    refine if_pos ?_
    obtain h | ⟨rfl, rfl⟩ | ⟨r', h, hn⟩ := h
    · exact absurd (hr.symm.trans h) (by simp)
    · rfl
    · obtain rfl := Option.some.inj (hr.symm.trans h)
      rw [Bool.or_eq_true, bne_iff_ne]
      refine .inr (fun hc => hn ?_)
      rw [hc, beq_iff_eq]

end

/-- CHECKSUM_MISMATCH of the checked MATMUL. -/
theorem checksumMismatch_locates {s : State} {t : TileId} (block : Nat) {rows cols : List (Fin 64)} {again : Bool} {x : SiteIx} {r : ArrRec}
    (hx : s.d.fab.siteOf t = some x) (h : Mismatch (s.d.fab.site x) rows cols again r) :
    Yields (.checksumMismatch t block rows cols again) s (fun u =>
      let v := (s.d.fab.site x).stream r.stream
      let place := locateFault (r.mod % 4) rows cols
      (u.d.fab.site x).arr.kind = place.1 ∧ (u.d.fab.site x).arr.row = place.2.1 ∧ (u.d.fab.site x).arr.col = place.2.2 ∧
      (u.d.fab.site x).arr.replays = (s.d.fab.site x).arr.replays ∧
      (again = false → (u.d.fab.site x).arr.replay = some (r.stream, r.id) ∧ (u.d.fab.site x).arr.faults = (s.d.fab.site x).arr.faults ∧
        (u.d.fab.site x).streams = (s.d.fab.site x).streams ∧ u.d.fab.inbox = s.d.fab.inbox ∧ u.d.fab.reports = s.d.fab.reports) ∧
      (again = true → (u.d.fab.site x).arr.faults = Nat.min 0xFFFF ((s.d.fab.site x).arr.faults + 1) ∧
        ((u.d.fab.site x).stream r.stream).steps = v.steps.filter (fun q => q.id ≠ r.id) ∧
        ((u.d.fab.site x).stream r.stream).state = .faulted ∧
        ∃ extra : Nat, u.d.fab.inbox = s.d.fab.inbox ++ [TileMsg.fault t r.stream v.tag (Cause.code .checksumMismatch)
          (((v.steps.find? (fun q => q.id = r.id)).map (·.off)).getD v.pc) extra]) ∧
      (u.d.fab.site x).scratch = (s.d.fab.site x).scratch ∧ (u.d.fab.site x).sems = (s.d.fab.site x).sems ∧ u.d.fab.col x = s.d.fab.col x ∧
      OnlySite s u x) := by
  have hexec : exec (.checksumMismatch t block rows cols again) s =
    .next (s.onFab (fun e f => f.checksumMismatch e t block rows cols again)) := rfl
  cases again with
  | false =>
    have hdone := Fabric.checksumMismatch_first (f := s.d.bump.fab) s.env block hx h
    have hsite : (s.d.bump.fab.setSite x { s.d.fab.site x with arr := ((s.d.fab.site x).arr.mismatched rows cols r).replaying r.stream r.id }).site x =
      { s.d.fab.site x with arr := ((s.d.fab.site x).arr.mismatched rows cols r).replaying r.stream r.id } := Fabric.site_setSite ..
    refine yields_onFab hexec hdone ?_
    rw [State.withFab_fab, Dev.bump_site, hsite]
    exact ⟨rfl, rfl, rfl, rfl, fun _ => ⟨rfl, rfl, rfl, rfl, rfl⟩, fun hc => absurd hc (by simp), rfl, rfl, rfl, onlySite_withFab (SiteWork.setSite ..)⟩
  | true =>
    obtain ⟨extra, hdone⟩ := Fabric.checksumMismatch_again (f := s.d.bump.fab) s.env block hx h
    obtain ⟨ev, su, hsite, hwork, hinbox, hcol⟩ := s.d.bump.fab.replayFailed_counted (rows := rows) (cols := cols) (t := t) s.env x r
    generalize (s.d.bump.fab.setSite x ((s.d.bump.fab.site x).replayFailed rows cols r)).countCheck s.env x t = g at hdone hsite hwork hinbox hcol
    have hstream : (g.site x).stream r.stream = ((s.d.fab.site x).stream r.stream).without r.id := by
      rw [hsite]
      exact Site.stream_setStream ..
    have harr {γ : Type} (p : ArraySt → γ) (hp : ∀ (a : ArraySt) q sh b r, p { a with queue := q, shape := sh, busy := b, replay := r } = p a) :
        p ((g.faultStream s.env x t r.stream (((s.d.fab.site x).stream r.stream).offOf r.id) (.checksum extra)).site x).arr = p (g.site x).arr := by
      rw [Fabric.faultStream_site]
      exact Site.faulted_arr_keeps p hp ..
    rw [hsite] at harr
    refine yields_onFab hexec hdone ⟨?_, ?_, ?_, ?_, fun hc => absurd hc (by simp), fun _ => ⟨?_, ?_, ?_, extra, ?_⟩, ?_, ?_, ?_,
      onlySite_withFab (hwork.trans (Fabric.faultStream_work ..))⟩
    · exact harr ArraySt.kind (fun _ _ _ _ _ => rfl)
    · exact harr ArraySt.row (fun _ _ _ _ _ => rfl)
    · exact harr ArraySt.col (fun _ _ _ _ _ => rfl)
    · exact harr ArraySt.replays (fun _ _ _ _ _ => rfl)
    · exact (harr ArraySt.faults (fun _ _ _ _ _ => rfl)).trans (satAdd_16 ..)
    · rw [State.withFab_fab, Fabric.faultStream_site, Site.stream_faulted, Stream.faulted_steps, hstream]
      rfl
    · rw [State.withFab_fab, Fabric.faultStream_site, Site.stream_faulted]
      exact Stream.faulted_state ..
    · rw [State.withFab_fab, Fabric.faultStream_inbox, hinbox, hstream]
      rfl
    · rw [State.withFab_fab, Fabric.faultStream_site, Site.faulted_scratch, hsite]
      rfl
    · rw [State.withFab_fab, Fabric.faultStream_site, Site.faulted_sems, hsite]
      rfl
    · exact (Fabric.faultStream_col ..).trans hcol

/-- Settles O28: reloads by `refetch_reloads`, mismatches by `checksumMismatch_locates`, and where there is neither, nothing. -/
theorem reloadsAndReplays : Obligations.ReloadsAndReplays := by
  refine ⟨fun s t ups x n r hx hr hlow => refetch_reloads hx hr hlow, fun s t ups x hx h => ?_,
    fun s t block rows cols again x r hx hc hf ha => checksumMismatch_locates block hx ⟨hc, hf, ha⟩, fun s t block rows cols again x hx h => ?_⟩
  · exact yields_onFab_idle (g := fun e f => f.refetch e t ups) rfl (Fabric.refetch_idle (f := s.d.bump.fab) s.env ups hx h)
  · exact yields_onFab_idle (g := fun e f => f.checksumMismatch e t block rows cols again) rfl
      (Fabric.checksumMismatch_idle (f := s.d.bump.fab) s.env block hx h)

end Sys2Proof.Machine
end

section
/-! PROOFS. The parity of scratch bytes (R51, R52; O29). -/

namespace Sys2Proof.Machine
open Sys2Proof

/-- Nine bits hold an odd number of ones where their sum without carry is one. -/
theorem parityBad_eq_xor (c : BitVec 9) : parityBad c = ((List.range 9).map c.getLsbD).foldl Bool.xor false := by
  revert c; decide

/-- Sums without carry add up. -/
theorem foldl_xor_map {α : Type} (l : List α) (p q : α → Bool) (a b : Bool) :
    (l.map (fun i => p i ^^ q i)).foldl Bool.xor (a ^^ b) = ((l.map p).foldl Bool.xor a ^^ (l.map q).foldl Bool.xor b) := by
  induction l generalizing a b with
  | nil => rfl
  | cons i r ih =>
    have hswap : ((a ^^ b) ^^ (p i ^^ q i)) = ((a ^^ p i) ^^ (b ^^ q i)) := by
      simp only [Bool.xor_assoc, Bool.xor_left_comm]
    simp only [List.map_cons, List.foldl_cons]
    rw [hswap, ih]

/-- A disturbance changes the parity exactly where it is odd itself. -/
theorem parityBad_xor (c flip : BitVec 9) : parityBad (c ^^^ flip) = (parityBad c != parityBad flip) := by
  have hbits : (c ^^^ flip).getLsbD = fun i => c.getLsbD i ^^ flip.getLsbD i := funext (fun i => BitVec.getLsbD_xor)
  rw [parityBad_eq_xor, parityBad_eq_xor, parityBad_eq_xor, hbits]
  exact foldl_xor_map (List.range 9) c.getLsbD flip.getLsbD false false

/-- The first byte with bad parity in ranges of scratch. -/
def Site.badByte (s : Site) (ranges : List (Nat × Nat)) : Option Nat :=
  ranges.findSome? (fun r => (s.scratch.find? (fun p => decide (r.1 ≤ p.1) && decide (p.1 < r.1 + r.2) && parityBad p.2)).map (·.1))

/-- A parity error as the reader meets it: a reload of a tagged block, else a fault. -/
def Site.parityError (s : Site) (a : Nat) : ReadBad := if tget s.tags 0 (a / 1024) = 0 then .parity a else .refetch (a / 1024)

theorem Site.checkReads_parity (s : Site) (ranges : List (Nat × Nat)) : s.checkReads ranges false = (s.badByte ranges).map s.parityError := by
  unfold Site.checkReads
  rw [← Site.badByte.eq_def]
  dsimp only
  cases s.badByte ranges <;> rfl

theorem Site.badByte_isSome_iff (s : Site) (ranges : List (Nat × Nat)) : (∃ a, s.badByte ranges = some a) ↔
    ∃ r ∈ ranges, ∃ p ∈ s.scratch, r.1 ≤ p.1 ∧ p.1 < r.1 + r.2 ∧ parityBad p.2 = true := by
  rw [← Option.isSome_iff_exists, Site.badByte, List.findSome?_isSome_iff]
  refine exists_congr (fun r => and_congr_right (fun _ => ?_))
  rw [Option.isSome_map, List.find?_isSome]
  refine exists_congr (fun p => and_congr_right (fun _ => ?_))
  simp only [Bool.and_eq_true, decide_eq_true_eq, and_assoc]

/-- A parity error is one of the two. -/
theorem Site.parityError_cases (s : Site) (a : Nat) : (s.parityError a = .parity a ∧ tget s.tags 0 (a / 1024) = 0) ∨
    (s.parityError a = .refetch (a / 1024) ∧ tget s.tags 0 (a / 1024) ≠ 0) := by
  unfold Site.parityError
  split
  next h => exact .inl ⟨rfl, h⟩
  next h => exact .inr ⟨rfl, h⟩

/-- Settles O29: a write sets its byte's own parity (`parityBad_withParity`), disturbances add up (`parityBad_xor`), and reads meet the first bad byte. -/
theorem scratchBytesKeepParity : Obligations.ScratchBytesKeepParity := by
  refine ⟨fun v a k b => ⟨v.byte_putByte a k b, ?_, fun h => ?_⟩, fun b => ⟨withParity_byte b, parityBad_withParity b⟩, parityBad_xor,
    fun v ranges => ⟨?_, fun a h => ?_, fun k h => ?_⟩⟩
  · simp [Site.putByte]
  · simp [Site.putByte, tget_tset_ite, h]
  · rw [Site.checkReads_parity, ← Site.badByte_isSome_iff]
    cases v.badByte ranges with
    | none => simp
    | some a => obtain ⟨h, -⟩ | ⟨h, -⟩ := v.parityError_cases a <;> simp [h]
  · rw [Site.checkReads_parity, Option.map_eq_some_iff] at h
    obtain ⟨b, -, hb⟩ := h
    obtain ⟨hp, ht⟩ | ⟨hp, -⟩ := v.parityError_cases b
    · rw [hp] at hb
      exact ReadBad.parity.inj hb ▸ ht
    · rw [hp] at hb
      exact absurd hb (by simp)
  · rw [Site.checkReads_parity, Option.map_eq_some_iff] at h
    obtain ⟨b, -, hb⟩ := h
    obtain ⟨hp, -⟩ | ⟨hp, ht⟩ := v.parityError_cases b
    · rw [hp] at hb
      exact absurd hb (by simp)
    · rw [hp] at hb
      exact ReadBad.refetch.inj hb ▸ ht

end Sys2Proof.Machine
end

section
/-! PROOFS. The cluster samplers and TILE_MM_DBG_SEL (R60, R61, R64, R115, R233, R234; O31). -/

namespace Sys2Proof.Machine
open Sys2Proof

@[simp] theorem Fabric.setSampler_setSampler (f : Fabric) (c : ClusterId) (a b : Sampler) : (f.setSampler c a).setSampler c b = f.setSampler c b := by
  simp [Fabric.setSampler, tput_tput]

@[simp] theorem Sampler.slot_setSlot (s : Sampler) (i : Nat) (v : Option SamplerSlot) : (s.setSlot i v).slot i = v := tget_tset ..

theorem Sampler.slot_setSlot_ne (s : Sampler) {i j : Nat} (v : Option SamplerSlot) (h : j ≠ i) : (s.setSlot i v).slot j = s.slot j :=
  tget_tset_ne _ _ _ (Ne.symm h)

-- Taking a slice ------------------------------------------------------------------------------------------------------

/-- The sampler has discarded a slice. -/
def Sampler.discard (s : Sampler) : Sampler := { s with discarded := s.discarded + 1 }

/-- The result of a slot that fails with SAMPLE_INVALID. -/
def sampleInvalid (c : ClusterId) (slot : Nat) : SampleResult := { cluster := c, slot := slot, token := none, logprob := 0, alts := [] }

section
variable (f : Fabric) (c : ClusterId) (s : Slice)

/-- Whatever becomes of a slice, it touches its sampler and the results alone, and none under way. -/
theorem Fabric.takeSlice_shape : ∃ w l, f.takeSlice c s = { f.setSampler c w with results := l } ∧ w.inflight = (f.sampler c).inflight := by
  unfold Fabric.takeSlice
  split
  · exact ⟨(f.sampler c).discard, f.results, rfl, rfl⟩
  · split
    · exact ⟨(f.sampler c).discard, f.results, rfl, rfl⟩
    · split
      · refine ⟨(f.sampler c).discard.setSlot s.slot none, f.results ++ [sampleInvalid c s.slot], ?_, rfl⟩
        simp only [Fabric.failSlot, Fabric.discardSlice, Fabric.sampler_setSampler, Fabric.setSampler_setSampler]
        rfl
      · split
        · exact ⟨(f.sampler c).setSlot s.slot none, f.results ++ [sampleInvalid c s.slot], rfl, rfl⟩
        · exact ⟨(f.sampler c).setSlot s.slot _, f.results, rfl, rfl⟩

variable {f c s}

/-- A slice that the slot does not want. -/
theorem Fabric.takeSlice_surplus (h : (f.sampler c).slot s.slot = none ∨ ∃ v, (f.sampler c).slot s.slot = some v ∧ v.params.nslice ≤ v.slices.length) :
    f.takeSlice c s = f.setSampler c (f.sampler c).discard := by
  unfold Fabric.takeSlice
  obtain h | ⟨v, h, hfull⟩ := h
  · rw [h]
    rfl
  · rw [h]
    exact if_pos hfull

/-- A slice whose base repeats, or with a logit that is not finite, disarms its slot. -/
theorem Fabric.takeSlice_bad {v : SamplerSlot} (h : (f.sampler c).slot s.slot = some v) (hroom : v.slices.length < v.params.nslice)
    (hbad : (∃ k ∈ v.slices, k.base = s.vocabBase) ∨ ∃ z ∈ s.logits, notFinite z = true) :
    ((f.takeSlice c s).sampler c).slot s.slot = none ∧ (f.takeSlice c s).results = f.results ++ [sampleInvalid c s.slot] := by
  unfold Fabric.takeSlice
  rw [h]
  dsimp only
  rw [if_neg (by omega)]
  by_cases hbase : v.slices.any (fun k => k.base = s.vocabBase) = true
  · rw [if_pos hbase]
    exact ⟨(congrArg (fun w : Sampler => w.slot s.slot) (Fabric.sampler_setSampler ..)).trans (Sampler.slot_setSlot ..), rfl⟩
  · have hlogit : s.logits.any notFinite = true := by
      obtain ⟨k, hk, hb⟩ | ⟨z, hz, hn⟩ := hbad
      · exact absurd (List.any_eq_true.mpr ⟨k, hk, by simp [hb]⟩) hbase
      · exact List.any_eq_true.mpr ⟨z, hz, hn⟩
    rw [if_neg hbase, if_pos hlogit]
    exact ⟨(congrArg (fun w : Sampler => w.slot s.slot) (Fabric.sampler_setSampler ..)).trans (Sampler.slot_setSlot ..), rfl⟩

/-- A good slice is kept. -/
theorem Fabric.takeSlice_good {v : SamplerSlot} (h : (f.sampler c).slot s.slot = some v) (hroom : v.slices.length < v.params.nslice)
    (hbase : ∀ k ∈ v.slices, k.base ≠ s.vocabBase) (hlogit : ∀ z ∈ s.logits, notFinite z = false) : f.takeSlice c s =
      f.setSampler c ((f.sampler c).setSlot s.slot (some { v with slices := v.slices ++ [keepSlice v.params.tempFactor s] })) := by
  have hb : v.slices.any (fun k => k.base = s.vocabBase) = false := by simpa using hbase
  have hl : s.logits.any notFinite = false := by simpa using hlogit
  unfold Fabric.takeSlice
  rw [h]
  dsimp only
  rw [if_neg (by omega), hb, if_neg Bool.false_ne_true, hl, if_neg Bool.false_ne_true]

end

-- A slice arrives -----------------------------------------------------------------------------------------------------

/-- The halves in which a slice arrives: it has left the way, and its stream counts it delivered. -/
def Fabric.arrived (f : Fabric) (c : ClusterId) (n : Nat) (sl : Slice) : Fabric :=
  (f.setSampler c { f.sampler c with inflight := (f.sampler c).inflight.eraseIdx n }).sliceDelivered sl

theorem Fabric.logitSlice_eq {f : Fabric} {c : ClusterId} {n : Nat} {sl : Slice} (h : (f.sampler c).inflight[n]? = some sl) :
    f.logitSlice c n = (f.arrived c n sl).takeSlice c sl := by
  simp only [Fabric.logitSlice, h]
  rfl

/-- A delivered slice touches the sites alone. -/
theorem Fabric.sliceDelivered_shape (f : Fabric) (sl : Slice) : ∃ l, f.sliceDelivered sl = { f with sites := l } := by
  unfold Fabric.sliceDelivered
  split
  · exact ⟨f.sites, rfl⟩
  · exact ⟨_, rfl⟩

theorem Fabric.arrived_shape (f : Fabric) (c : ClusterId) (n : Nat) (sl : Slice) : ∃ l, f.arrived c n sl =
    { f.setSampler c { f.sampler c with inflight := (f.sampler c).inflight.eraseIdx n } with sites := l } := Fabric.sliceDelivered_shape ..

theorem Fabric.arrived_sampler (f : Fabric) (c : ClusterId) (n : Nat) (sl : Slice) :
    (f.arrived c n sl).sampler c = { f.sampler c with inflight := (f.sampler c).inflight.eraseIdx n } := by
  obtain ⟨l, h⟩ := f.arrived_shape c n sl
  rw [h]
  exact Fabric.sampler_setSampler ..

theorem Fabric.arrived_sites {f : Fabric} (c : ClusterId) (n : Nat) {sl : Slice} {x : SiteIx} (hx : f.siteOf sl.tile = some x) :
    (f.arrived c n sl).site x = (f.site x).setStream sl.stream
      { (f.site x).stream sl.stream with slices := ((f.site x).stream sl.stream).slices - 1 } ∧
    ∀ y : SiteIx, y ≠ x → (f.arrived c n sl).site y = f.site y := by
  have hx' : (f.setSampler c { f.sampler c with inflight := (f.sampler c).inflight.eraseIdx n }).siteOf sl.tile = some x := hx
  simp only [Fabric.arrived, Fabric.sliceDelivered, hx']
  exact ⟨Fabric.site_setSite .., fun y hy => Fabric.site_setSite_ne _ _ hy⟩

/-- A command of a powered sampler works on the halves. -/
theorem exec_logitSlice {s : State} {c : ClusterId} (n : Nat) (hon : s.d.samplerOn c = true) :
    exec (.logitSlice c n) s = .next (s.onFab (fun _ f => f.logitSlice c n)) := by
  have h : (if s.d.bump.samplerOn c then s.d.bump.onFab (fun f => f.logitSlice c n) else s.d.bump) = s.d.bump.onFab (fun f => f.logitSlice c n) := if_pos hon
  exact congrArg (fun d : Dev => (Host.Outcome.next { s with d := d } : Host.Outcome State Fault Refusal)) h

theorem exec_samplerResult {s : State} {c : ClusterId} (n : Fin 256) (hon : s.d.samplerOn c = true) :
    exec (.samplerResult c n) s = .next (s.onFab (fun _ f => f.samplerResult c n.val)) := by
  have h : (if s.d.bump.samplerOn c then s.d.bump.onFab (fun f => f.samplerResult c n.val) else s.d.bump) =
      s.d.bump.onFab (fun f => f.samplerResult c n.val) := if_pos hon
  exact congrArg (fun d : Dev => (Host.Outcome.next { s with d := d } : Host.Outcome State Fault Refusal)) h

/-- LOGIT_SLICE of a slice under way. -/
theorem logitSlice_takes {s : State} {c : ClusterId} {n : Nat} {sl : Slice} (hon : s.d.samplerOn c = true)
    (hsl : (s.d.fab.sampler c).inflight[n]? = some sl) : Yields (.logitSlice c n) s (fun u =>
      (u.d.fab.sampler c).inflight = (s.d.fab.sampler c).inflight.eraseIdx n ∧
      (∀ x : SiteIx, s.d.fab.siteOf sl.tile = some x →
        u.d.fab.site x = (s.d.fab.site x).setStream sl.stream
          { (s.d.fab.site x).stream sl.stream with slices := ((s.d.fab.site x).stream sl.stream).slices - 1 } ∧
        ∀ y : SiteIx, y ≠ x → u.d.fab.site y = s.d.fab.site y) ∧
      (∀ v : SamplerSlot, (s.d.fab.sampler c).slot sl.slot = some v → v.slices.length < v.params.nslice →
        (∀ k ∈ v.slices, k.base ≠ sl.vocabBase) → (∀ z ∈ sl.logits, notFinite z = false) →
        (u.d.fab.sampler c).slot sl.slot = some { v with slices := v.slices ++ [keepSlice v.params.tempFactor sl] } ∧
        u.d.fab.results = s.d.fab.results ∧ (u.d.fab.sampler c).discarded = (s.d.fab.sampler c).discarded) ∧
      (((s.d.fab.sampler c).slot sl.slot = none ∨ ∃ v, (s.d.fab.sampler c).slot sl.slot = some v ∧ v.params.nslice ≤ v.slices.length) →
        (u.d.fab.sampler c).slots = (s.d.fab.sampler c).slots ∧ u.d.fab.results = s.d.fab.results ∧
        (u.d.fab.sampler c).discarded = (s.d.fab.sampler c).discarded + 1) ∧
      (∀ v : SamplerSlot, (s.d.fab.sampler c).slot sl.slot = some v → v.slices.length < v.params.nslice →
        (∃ k ∈ v.slices, k.base = sl.vocabBase) ∨ (∃ z ∈ sl.logits, notFinite z = true) →
        (u.d.fab.sampler c).slot sl.slot = none ∧
        u.d.fab.results = s.d.fab.results ++ [{ cluster := c, slot := sl.slot, token := none, logprob := 0, alts := [] }]) ∧
      (∀ k : ClusterId, k ≠ c → u.d.fab.sampler k = s.d.fab.sampler k) ∧ u.d.fab.cols = s.d.fab.cols ∧ OnlyFabric s u) := by
  have hsampler := s.d.bump.fab.arrived_sampler c n sl
  have hslot : ((s.d.bump.fab.arrived c n sl).sampler c).slot sl.slot = (s.d.fab.sampler c).slot sl.slot := by
    rw [hsampler]
    rfl
  have hslots : ((s.d.bump.fab.arrived c n sl).sampler c).slots = (s.d.fab.sampler c).slots := by
    rw [hsampler]
    rfl
  have hdiscarded : ((s.d.bump.fab.arrived c n sl).sampler c).discarded = (s.d.fab.sampler c).discarded := by
    rw [hsampler]
    rfl
  obtain ⟨l, harrived⟩ := s.d.bump.fab.arrived_shape c n sl
  have hresults : (s.d.bump.fab.arrived c n sl).results = s.d.fab.results := by rw [harrived]; rfl
  have hcols : (s.d.bump.fab.arrived c n sl).cols = s.d.fab.cols := by rw [harrived]; rfl
  have hothers (k : ClusterId) (hk : k ≠ c) : (s.d.bump.fab.arrived c n sl).sampler k = s.d.fab.sampler k := by
    rw [harrived]
    exact Fabric.sampler_setSampler_ne _ _ hk
  have hsites {x : SiteIx} (hx : s.d.fab.siteOf sl.tile = some x) := Fabric.arrived_sites (f := s.d.bump.fab) c n hx
  have hdone := Fabric.logitSlice_eq (f := s.d.bump.fab) hsl
  generalize s.d.bump.fab.arrived c n sl = g at hsampler hslot hslots hdiscarded hresults hcols hothers hsites hdone
  obtain ⟨w, l, htake, hw⟩ := g.takeSlice_shape c sl
  have hsite (y : SiteIx) : (g.takeSlice c sl).site y = g.site y := by rw [htake]; rfl
  refine yields_onFab (exec_logitSlice n hon) hdone ⟨?_, fun x hx => ?_, fun v hv hroom hbase hlogit => ?_, fun h => ?_, fun v hv hroom hbad => ?_,
    fun k hk => ?_, ?_, onlyFabric_withFab ..⟩
  · rw [State.withFab_fab, htake]
    exact (congrArg Sampler.inflight (Fabric.sampler_setSampler ..)).trans (hw.trans (congrArg Sampler.inflight hsampler))
  · obtain ⟨h1, h2⟩ := hsites hx
    exact ⟨(hsite x).trans h1, fun y hy => (hsite y).trans (h2 y hy)⟩
  · rw [State.withFab_fab, Fabric.takeSlice_good (hslot.trans hv) hroom hbase hlogit, Fabric.sampler_setSampler]
    exact ⟨Sampler.slot_setSlot .., hresults, hdiscarded⟩
  · rw [State.withFab_fab, Fabric.takeSlice_surplus (by rw [hslot]; exact h), Fabric.sampler_setSampler]
    exact ⟨hslots, hresults, congrArg (· + 1) hdiscarded⟩
  · obtain ⟨h1, h2⟩ := Fabric.takeSlice_bad (hslot.trans hv) hroom hbad
    exact ⟨h1, h2.trans (by rw [hresults]; rfl)⟩
  · rw [State.withFab_fab, htake]
    exact (Fabric.sampler_setSampler_ne _ _ hk).trans (hothers k hk)
  · rw [State.withFab_fab, htake]
    exact hcols

-- Results -------------------------------------------------------------------------------------------------------------

theorem Fabric.samplerResult_full {f : Fabric} {c : ClusterId} {n : Nat} {v : SamplerSlot} (h : (f.sampler c).slot n = some v)
    (hfull : v.slices.length = v.params.nslice) : f.samplerResult c n =
      { f.setSampler c ((f.sampler c).setSlot n none) with results := f.results ++ [sampleSlot c n v] } := by
  simp only [Fabric.samplerResult, h, hfull, if_true]

theorem Fabric.samplerResult_idle {f : Fabric} {c : ClusterId} {n : Nat}
    (h : ∀ v, (f.sampler c).slot n = some v → v.slices.length ≠ v.params.nslice) : f.samplerResult c n = f := by
  unfold Fabric.samplerResult
  split
  · rfl
  next v hv => exact if_neg (h v hv)

/-- SAMPLER_RESULT of a slot. -/
theorem samplerResult_sends {s : State} {c : ClusterId} (n : Fin 256) (hon : s.d.samplerOn c = true) : Yields (.samplerResult c n) s (fun u =>
    (∀ v : SamplerSlot, (s.d.fab.sampler c).slot n.val = some v → v.slices.length = v.params.nslice →
      (u.d.fab.sampler c).slot n.val = none ∧ u.d.fab.results = s.d.fab.results ++ [sampleSlot c n.val v]) ∧
    (∀ v : SamplerSlot, (s.d.fab.sampler c).slot n.val = some v → v.slices.length ≠ v.params.nslice → u = s.bump) ∧
    ((s.d.fab.sampler c).slot n.val = none → u = s.bump) ∧
    (∀ k : ClusterId, k ≠ c → u.d.fab.sampler k = s.d.fab.sampler k) ∧ u.d.fab.sites = s.d.fab.sites ∧ OnlyFabric s u) := by
  by_cases h : ∃ v, (s.d.fab.sampler c).slot n.val = some v ∧ v.slices.length = v.params.nslice
  · obtain ⟨v, hv, hfull⟩ := h
    refine yields_onFab (exec_samplerResult n hon) (Fabric.samplerResult_full (f := s.d.bump.fab) hv hfull) ⟨fun w hw _ => ?_, fun w hw hne => ?_,
      fun hn => absurd (hv.symm.trans hn) (by simp), fun k hk => Fabric.sampler_setSampler_ne _ _ hk, rfl, onlyFabric_withFab ..⟩
    · obtain rfl := Option.some.inj (hv.symm.trans hw)
      exact ⟨(congrArg (fun s : Sampler => s.slot n.val) (Fabric.sampler_setSampler ..)).trans (Sampler.slot_setSlot ..), rfl⟩
    · obtain rfl := Option.some.inj (hv.symm.trans hw)
      exact absurd hfull hne
  · have hidle : s.d.bump.fab.samplerResult c n.val = s.d.bump.fab := Fabric.samplerResult_idle (fun v hv hfull => h ⟨v, hv, hfull⟩)
    exact yields_onFab (exec_samplerResult n hon) hidle ⟨fun v hv hfull => absurd ⟨v, hv, hfull⟩ h, fun _ _ _ => s.withFab_bump,
      fun _ => s.withFab_bump, fun _ _ => rfl, rfl, onlyFabric_withFab ..⟩

/-- Settles O31: arming, slices (`logitSlice_takes`), results (`samplerResult_sends`), and the selection of the array's debug element. -/
theorem samplersTakeSlices : Obligations.SamplersTakeSlices := by
  refine ⟨fun s c n a hon ha => ?_, fun s c n sl hon hsl => logitSlice_takes hon hsl, fun s c n hon => samplerResult_sends n hon,
    fun s t x v htakes hx => ?_⟩
  · have ha' : s.d.bump.svc.arms.find? (fun q => q.1 == c && q.2.1 == n.val) = some a := ha
    refine yields_onDev (g := fun _ d => if d.samplerOn c then d.samplerArm c n.val else d) rfl (if_pos hon) ?_
    simp only [Dev.samplerArm, ha']
    exact ⟨(congrArg (fun s : Sampler => s.slot n.val) (Fabric.sampler_setSampler ..)).trans (Sampler.slot_setSlot ..),
      fun m hm => (congrArg (fun s : Sampler => s.slot m) (Fabric.sampler_setSampler ..)).trans (Sampler.slot_setSlot_ne _ _ hm),
      fun k hk => Fabric.sampler_setSampler_ne _ _ hk, rfl, rfl, rfl⟩
  · have htakes' : s.d.bump.tileTakes t = true := htakes
    have hexec : exec (.tileMmDbgSel 0 t v) s = .next (s.onFab (fun e f => f.writeDbgSel e t v)) := by
      have hwrite : s.d.bump.tileWrite s.env t 0x140 v = s.d.bump.onFab (fun f => f.writeDbgSel s.env t v) := by
        simp [Dev.tileWrite, htakes']
      exact congrArg (fun d => Host.Outcome.next { s with d := d }) hwrite
    have hx' : s.d.bump.fab.siteOf t = some x := hx
    refine yields_onFab hexec rfl ?_
    unfold Fabric.writeDbgSel
    have hlock : s.env.lock = s.sec.lock := rfl
    cases hl : s.sec.lock with
    | true =>
      rw [hlock, hl, if_pos rfl]
      exact ⟨rfl, onlySite_withFab (.refl ..)⟩
    | false =>
      rw [hlock, hl, if_neg Bool.false_ne_true, hx']
      exact ⟨Fabric.site_setSite .., onlySite_withFab (SiteWork.setSite ..)⟩

end Sys2Proof.Machine
end

section
/-! PROOFS. Which work an opcode names, and what SEND, SAMPLE and SIGNAL put under way (R35, R43, R59, R60; O20). -/

namespace Sys2Proof.Machine
open Sys2Proof

-- The work of an opcode -----------------------------------------------------------------------------------------------

section
variable {c : StepCtx}

theorem work_of_ne_signal {n : Nat} (h : c.d.opcode = n) (hn : n ≠ 0x51) : Work c = runAny c := if_neg (h ▸ hn)

theorem work_rowLoad (h : c.d.opcode = 0x01) : Work c = runRowLoad c := by
  rw [work_of_ne_signal h (by decide), runAny, h]
  rfl

theorem work_rowStore (h : c.d.opcode = 0x02) : Work c = runRowStore c := by
  rw [work_of_ne_signal h (by decide), runAny, h]
  rfl

theorem work_linear (h : c.d.opcode = 0x03) (hm : c.d.mod % 8 = 0) : Work c = runLinear c := by
  rw [work_of_ne_signal h (by decide), runAny, h]
  exact if_pos hm

theorem work_skew (h : c.d.opcode = 0x03) (hm : c.d.mod % 8 ≠ 0) : Work c = runSkew c := by
  rw [work_of_ne_signal h (by decide), runAny, h]
  exact if_neg hm

theorem work_matmul (h : c.d.opcode = 0x10) : Work c = runMatmul c := by
  rw [work_of_ne_signal h (by decide), runAny, h]
  rfl

theorem work_vec (h : c.d.opcode = 0x20) : Work c = runVec c := by
  rw [work_of_ne_signal h (by decide), runAny, h]
  rfl

theorem work_send (h : c.d.opcode = 0x40) : Work c = runSend c := by
  rw [work_of_ne_signal h (by decide), runAny, h]
  rfl

theorem work_sample (h : c.d.opcode = 0x48) : Work c = runSample c := by
  rw [work_of_ne_signal h (by decide), runAny, h]
  rfl

theorem work_signal (h : c.d.opcode = 0x51) : Work c = runSignal c := if_pos h

end

-- SEND ----------------------------------------------------------------------------------------------------------------

section
variable (c : StepCtx)

/-- The entry of the peer table that SEND names. -/
def StepCtx.peerEntry : BitVec 16 := c.site.peers[sendPeer c.d]

/-- The tile that this entry names. -/
def StepCtx.peer : TileId := ⟨c.peerEntry.toNat % 512, Nat.mod_lt _ (by decide)⟩

/-- A SEND that its peer stops. -/
def StepCtx.peerFault (k : Cause) : RunRes := .fault { FaultInfo.of k with peer := some c.peer } []

/-- The SEND that is under way once its bytes are read. -/
def StepCtx.sendRec : SendRec :=
  { id := (c.site.stream c.st).nextId, peer := c.peer, dst := c.d.sd.toNat, data := c.site.bytes c.d.sa.toNat c.d.len
    dsem := if sendDsen c.d then some (sendDsem c.d) else none, off := (c.site.stream c.st).pc }

/-- What a SEND comes to, in the order in which it is judged (R59): the entry, the fence, the tile, and then the bytes. -/
theorem runSend_res : (runSend c).res =
    if !bit c.peerEntry.toNat 15 then c.peerFault .peerInvalid
    else if c.f.fenced[tileHalf c.peer] && tileHalf c.peer != tileHalf c.t then c.peerFault .peerHalfDown
    else if (c.f.siteOf c.peer).isNone then c.peerFault .peerAbsent
    else match c.site.checkReads [(c.d.sa.toNat, c.d.len)] true with
      | some b => badRes b
      | none => .ok { StepEff.none with kind := .send (c.site.stream c.st).nextId, sends := [c.sendRec] } := rfl

variable {c}

theorem runSend_peerInvalid (h : bit c.peerEntry.toNat 15 = false) : (runSend c).res = c.peerFault .peerInvalid := by
  rw [runSend_res, h]
  rfl

theorem runSend_peerHalfDown (hv : bit c.peerEntry.toNat 15 = true) (hf : c.f.fenced[tileHalf c.peer] = true)
    (hh : tileHalf c.peer ≠ tileHalf c.t) : (runSend c).res = c.peerFault .peerHalfDown := by
  rw [runSend_res, hv, hf, if_neg (by decide)]
  exact if_pos (by simpa using hh)

section
variable (hv : bit c.peerEntry.toNat 15 = true) (hf : c.f.fenced[tileHalf c.peer] = false ∨ tileHalf c.peer = tileHalf c.t)
include hv hf

/-- No fence stops a SEND into a half that is not fenced, or within its own. -/
theorem runSend_res_unfenced : (runSend c).res = if (c.f.siteOf c.peer).isNone then c.peerFault .peerAbsent
    else match c.site.checkReads [(c.d.sa.toNat, c.d.len)] true with
      | some b => badRes b
      | none => .ok { StepEff.none with kind := .send (c.site.stream c.st).nextId, sends := [c.sendRec] } := by
  have hopen : ¬ (c.f.fenced[tileHalf c.peer] && tileHalf c.peer != tileHalf c.t) = true := by
    obtain h | h := hf <;> simp [h]
  rw [runSend_res, hv, if_neg (by decide), if_neg hopen]

theorem runSend_peerAbsent (h : c.f.siteOf c.peer = none) : (runSend c).res = c.peerFault .peerAbsent := by
  rw [runSend_res_unfenced hv hf, h]
  rfl

theorem runSend_sends (h : c.f.siteOf c.peer ≠ none) (hr : c.site.checkReads [(c.d.sa.toNat, c.d.len)] true = none) :
    (runSend c).res = .ok { StepEff.none with kind := .send (c.site.stream c.st).nextId, sends := [c.sendRec] } := by
  rw [runSend_res_unfenced hv hf, if_neg (by simpa using h), hr]

end

end

-- SAMPLE --------------------------------------------------------------------------------------------------------------

section
variable (c : StepCtx)

/-- The words of the slot table of a SAMPLE. -/
def StepCtx.slotWords : List Nat := (List.range c.d.count).map (fun i => rdLe c.rd (c.d.sb.toNat + 2 * i) 2)

/-- The rows that it sends, each word with its index. -/
def StepCtx.slotRows : List (Nat × Nat) := c.slotWords.zipIdx.filter (fun p => p.1 != 0xFFFF)

/-- The slice of one of these rows, and the cluster of its sampler. -/
def StepCtx.rowSlice (p : Nat × Nat) : ClusterId × Slice :=
  (⟨fld p.1 12 8, Nat.mod_lt _ (by decide)⟩,
    { tile := c.t, stream := c.st, slot := fld p.1 7 0, vocabBase := c.d.addr.toNat
      logits := (List.range c.d.len).map (fun i =>
        let v := rdLe c.rd (c.d.sa.toNat + p.2 * sampleStride c.d + i * bytesOf c.d.fa) (bytesOf c.d.fa)
        if bytesOf c.d.fa = 2 then v * 2 ^ 16 else v) })

/-- What a SAMPLE comes to once its table is read. -/
theorem runSample_res (h : c.site.checkReads [(c.d.sb.toNat, 2 * c.d.count)] true = none) : (runSample c).res =
    if c.slotWords.any (fun v => v != 0xFFFF && v / 2 ^ 13 != 0) then .fault (FaultInfo.of .descReserved) []
    else match c.site.checkReads (c.slotRows.map (fun p => (c.d.sa.toNat + p.2 * sampleStride c.d, c.d.len * bytesOf c.d.fa))) true with
      | some b => badRes b
      | none => .ok { StepEff.none with kind := .sample (c.slotRows.map c.rowSlice).length, slices := c.slotRows.map c.rowSlice } := by
  unfold runSample
  dsimp only [StepCtx.outS]
  rw [h]
  rfl

variable {c}

theorem runSample_badWord (h : c.site.checkReads [(c.d.sb.toNat, 2 * c.d.count)] true = none)
    (hw : ∃ w ∈ c.slotWords, w ≠ 0xFFFF ∧ w / 2 ^ 13 ≠ 0) : (runSample c).res = .fault (FaultInfo.of .descReserved) [] := by
  obtain ⟨w, hw, hne, hbad⟩ := hw
  rw [runSample_res c h]
  exact if_pos (List.any_eq_true.mpr ⟨w, hw, by simp only [Bool.and_eq_true, bne_iff_ne]; exact ⟨hne, hbad⟩⟩)

theorem runSample_slices (h : c.site.checkReads [(c.d.sb.toNat, 2 * c.d.count)] true = none) (hw : ∀ w ∈ c.slotWords, w = 0xFFFF ∨ w / 2 ^ 13 = 0)
    (hr : c.site.checkReads (c.slotRows.map (fun p => (c.d.sa.toNat + p.2 * sampleStride c.d, c.d.len * bytesOf c.d.fa))) true = none) :
    (runSample c).res =
      .ok { StepEff.none with kind := .sample (c.slotRows.map c.rowSlice).length, slices := c.slotRows.map c.rowSlice } := by
  have hgood : ¬ c.slotWords.any (fun v => v != 0xFFFF && v / 2 ^ 13 != 0) = true := by
    intro hany
    obtain ⟨w, hm, hbad⟩ := List.any_eq_true.mp hany
    simp only [Bool.and_eq_true, bne_iff_ne] at hbad
    obtain ⟨hne, hhigh⟩ := hbad
    exact (hw w hm).elim hne hhigh
  rw [runSample_res c h, if_neg hgood, hr]

end

/-- Settles O20: SEND by the order in which its peer is judged, SAMPLE by its table, SIGNAL by its definition. -/
theorem messageStepResults : Obligations.MessageStepResults := by
  refine ⟨fun c hop => ?_, fun c hop hr => ?_, fun c hop => ?_⟩
  · rw [work_send hop]
    exact ⟨runSend_peerInvalid, runSend_peerHalfDown, fun hv hf => ⟨runSend_peerAbsent hv hf, runSend_sends hv hf⟩⟩
  · rw [work_sample hop]
    refine ⟨runSample_badWord hr, fun hw hrows => ⟨_, runSample_slices hr hw hrows, rfl, List.length_map .., fun k p hp => ?_⟩⟩
    exact ⟨c.rowSlice p, (List.getElem?_map ..).trans (congrArg (Option.map c.rowSlice) hp), rfl, rfl, rfl, rfl, rfl,
      (List.length_map ..).trans List.length_range⟩
  · rw [work_signal hop]
    rfl

end Sys2Proof.Machine
end

section
/-! PROOFS. What the VEC operations write (R46 to R49, R89; O15, O16). -/

namespace Sys2Proof.Machine
open Sys2Proof

section
variable {c : StepCtx} (hop : c.d.opcode = 0x20)
include hop

/-- A VEC step whose operands are read without error comes to its data operation. -/
theorem work_vec_res (hr : c.site.checkReads (VecReads c) true = none) :
    (Work c).res = dataRes c (vecDo c.d c.rd) [(c.d.sd.toNat, vecDBytes c.d)] := by
  have hres : (runVec c).res = match c.site.checkReads (VecReads c) true with
      | some b => badRes b
      | none => dataRes c (vecDo c.d c.rd) [(c.d.sd.toNat, vecDBytes c.d)] := rfl
  rw [work_vec hop, hres, hr]

/-- An operation whose result is a list of elements writes them, whatever it computes them from. -/
theorem vecGives_of_vecDo {n : Nat} {f : Nat → Val}
    (h : vecDo c.d c.rd = vecWrite c.d.fd (Rnd.ofField c.d.rnd) c.d.sd.toNat ((List.range n).map f)) : VecGives c n f := by
  intro hr
  rw [work_vec_res hop hr, h]
  simp only [dataRes, vecWrite, dataWrites, List.map_map, List.map_cons, List.map_nil]
  rfl

end

-- Data operations that may meet an invalid code -----------------------------------------------------------------------

theorem dataRes_ok {c : StepCtx} {o : DataOut} (dst : List (Nat × Nat)) (h : o.invalid = none) :
    dataRes c o dst = .ok { StepEff.none with scratch := dataWrites o, sat := o.sat, nan := o.nan } := by
  rw [dataRes, h]

theorem dataRes_invalid {c : StepCtx} {o : DataOut} (dst : List (Nat × Nat)) {q : Nat} (h : o.invalid = some q) :
    dataRes c o dst = .fault { FaultInfo.of .invalidCode with extra := q } (freeWrites c dst) := by
  rw [dataRes, h]

-- The operations by MOD -----------------------------------------------------------------------------------------------

section
variable {d : Desc} (rd : Rd)

/-- The table operations are those of MOD 0x10 to 0x17 (Table Tiles-7). -/
theorem vecDo_table (hlo : 0x10 ≤ d.mod) (hhi : d.mod ≤ 0x17) : vecDo d rd =
    vecWrite d.fd (Rnd.ofField d.rnd) d.sd.toNat ((List.range d.len).map (fun i => tableVal d.mod (vecElem rd d.fa d.sa.toNat i))) := by
  have hmod : d.mod = 0x10 ∨ d.mod = 0x11 ∨ d.mod = 0x12 ∨ d.mod = 0x13 ∨ d.mod = 0x14 ∨ d.mod = 0x15 ∨ d.mod = 0x16 ∨ d.mod = 0x17 := by omega
  rcases hmod with h | h | h | h | h | h | h | h <;> (rw [vecDo, h]; rfl)

end

/-- Settles O15: each operation of Table Tiles-7 is one element per element, and `vecGives_of_vecDo` says what is written. -/
theorem vectorElements : Obligations.VectorElements := by
  intro c hop
  refine ⟨fun h => ?_, fun h => ?_, fun h => ?_, fun h => ?_, fun h => ?_, fun h => ?_, fun h => ?_, fun h => ?_, fun h => ?_, fun h => ?_,
    fun h => ?_, fun h => ?_, fun hlo hhi => vecGives_of_vecDo hop (vecDo_table c.rd hlo hhi), fun h => ?_, fun h => ?_, fun h => ?_⟩
  all_goals
    refine vecGives_of_vecDo hop ?_
    rw [vecDo, h]
    rfl

/-- Settles O16: the reductions and normalisations likewise, and the conversions by `dataRes`. -/
theorem vectorReductions : Obligations.VectorReductions := by
  intro c hop
  refine ⟨fun h => ?_, fun h => ?_, fun h => ?_, fun h => ?_, fun h => ?_, fun o ho hr => ?_⟩
  case refine_6 =>
    have hdo : vecDo c.d c.rd = o := by
      obtain ⟨h, rfl⟩ | ⟨h, rfl⟩ := ho
      all_goals
        rw [vecDo, h]
        rfl
    rw [work_vec_res hop hr, hdo]
    exact ⟨fun h => dataRes_ok _ h, fun q h => ⟨_, dataRes_invalid _ h⟩⟩
  all_goals
    refine vecGives_of_vecDo hop ?_
    rw [vecDo, h]
    rfl

end Sys2Proof.Machine
end

section
/-! PROOFS. What ROW_LOAD, ROW_STORE, the layouts and MATMUL write (R35, R54, R55, R89, R94, R95, R98, R104, R112, R385; O17). -/

namespace Sys2Proof.Machine
open Sys2Proof

-- Rows ----------------------------------------------------------------------------------------------------------------

theorem rowsFrom_getElem? (addr : Int) {n k : Nat} (h : k < n) : (rowsFrom addr n)[k]? = some (addr.toNat / 1024 + k) := by
  rw [rowsFrom, List.getElem?_map, List.getElem?_range h]
  rfl

/-- Each sector of a row is written to its 64 bytes. -/
theorem mem_rowToScratch (a ri : Nat) {rs : List SecRead} {j : Nat} {r : SecRead} (h : rs[j]? = some r) :
    ({ addr := a + 64 * j, bytes := sectorBytes r.data, poison := r.poison, tag := none } : ScratchWrite) ∈ rowToScratch a ri rs :=
  List.mem_append_left _ (List.mem_map.mpr ⟨(r, j), List.mem_zipIdx_iff_getElem?.mpr h, rfl⟩)

section
variable (c : StepCtx)

/-- The writes of a ROW_LOAD: its rows one after another from SD on. -/
def StepCtx.loadWrites : List ScratchWrite :=
  ((rowsFrom c.d.addr c.d.count).zip (c.f.readRows c.e c.x 4 (rowsFrom c.d.addr c.d.count)).2).zipIdx.flatMap
    (fun p => rowToScratch (c.d.sd.toNat + 1024 * p.2) p.1.1 p.1.2)

theorem runRowLoad_res : (runRowLoad c).res = .ok { StepEff.none with scratch := c.loadWrites } := rfl

variable {c}

theorem mem_loadWrites {k j : Nat} {rs : List SecRead} {r : SecRead} (hk : k < c.d.count)
    (hrs : (c.f.readRows c.e c.x 4 (rowsFrom c.d.addr c.d.count)).2[k]? = some rs) (hr : rs[j]? = some r) :
    ({ addr := c.d.sd.toNat + 1024 * k + 64 * j, bytes := sectorBytes r.data, poison := r.poison, tag := none } : ScratchWrite) ∈ c.loadWrites := by
  have hzip := List.getElem?_zip_eq_some (z := (c.d.addr.toNat / 1024 + k, rs)).mpr ⟨rowsFrom_getElem? c.d.addr hk, hrs⟩
  exact List.mem_flatMap.mpr ⟨((c.d.addr.toNat / 1024 + k, rs), k), List.mem_zipIdx_iff_getElem?.mpr hzip, mem_rowToScratch _ _ hr⟩

/-- The write that a ROW_STORE makes of the block at `b`. -/
def StepCtx.blockWrite (c : StepCtx) (b key kind : Nat) : SectorWrite :=
  if c.site.blockPoison b then { key := key, data := poisonRec .propagated c.t.val kind (nowNs c.e.time), poison := true }
  else { key := key, data := bytesSector (c.site.bytes b 64), poison := false }

theorem mem_scratchToRows (c : StepCtx) (a : Nat) {ris : List Nat} (kind : Nat) {k j ri : Nat} (hk : ris[k]? = some ri) (hj : j < 16) :
    c.blockWrite (a + 1024 * k + 64 * j) (16 * ri + j) kind ∈ scratchToRows c a ris kind :=
  List.mem_flatMap.mpr ⟨(ri, k), List.mem_zipIdx_iff_getElem?.mpr hk, List.mem_map.mpr ⟨j, List.mem_range.mpr hj, rfl⟩⟩

theorem runRowStore_ok (h : c.site.checkReads [(c.d.sa.toNat, 1024 * c.d.count)] false = none) : (runRowStore c).res =
    .ok { StepEff.none with sectors := scratchToRows c c.d.sa.toNat (rowsFrom c.d.addr c.d.count) 0 } := by
  unfold runRowStore
  dsimp only
  rw [h]

end

-- Layouts from scratch ------------------------------------------------------------------------------------------------

section
variable (c : StepCtx)

/-- The write of block i of a linear layout. -/
def StepCtx.chunkWrite (i : Nat) : ScratchWrite :=
  { addr := c.d.sd.toNat + 64 * i, bytes := c.site.bytes (c.d.sa.toNat + 64 * i) (Nat.min 64 (c.d.len - 64 * i))
    poison := c.site.blockPoison (c.d.sa.toNat + 64 * i), tag := none }

variable {c}

theorem runLinear_ok (hm : 128 ≤ c.d.mod) (h : c.site.checkReads [(c.d.sa.toNat, c.d.len)] false = none) :
    (runLinear c).res = .ok { StepEff.none with scratch := (List.range (cdiv c.d.len 64)).map c.chunkWrite } := by
  unfold runLinear
  dsimp only
  rw [if_neg (by omega), h]
  dsimp only [StepCtx.outS]
  rw [List.map_map]
  rfl

/-- The blocks cover every byte. -/
theorem lt_cdiv {n i : Nat} (h : 64 * i < n) : i < cdiv n 64 := by
  unfold cdiv
  omega

theorem runSkew_ok (hm : 128 ≤ c.d.mod) (h : c.site.checkReads [(c.d.sa.toNat, layoutSrcBytes c.d)] true = none)
    (hi : (skewOut c.rd c.d c.d.sa.toNat).invalid = none) :
    (runSkew c).res = .ok { StepEff.none with scratch := dataWrites (skewOut c.rd c.d c.d.sa.toNat) } := by
  unfold runSkew
  dsimp only
  rw [if_neg (by omega), h]
  exact dataRes_ok _ hi

end

-- What stops a MATMUL -------------------------------------------------------------------------------------------------

section
variable {α β : Type}

/-- The earlier of what came first so far and the next entry. -/
def earlier (best : Option (Nat × α)) (c : Nat × α) : Option (Nat × α) :=
  match best with
  | none => some c
  | some b => if c.1 < b.1 then some c else some b

/-- An entry that none of the others comes before stays the first. -/
theorem foldl_earlier_of_le {b : Nat × α} {l : List (Nat × α)} (h : ∀ c ∈ l, b.1 ≤ c.1) : l.foldl earlier (some b) = some b := by
  induction l with
  | nil => rfl
  | cons c l ih =>
    have hc : earlier (some b) c = some b := if_neg (Nat.not_lt.mpr (h c List.mem_cons_self))
    rw [List.foldl_cons, hc]
    exact ih (fun x hx => h x (List.mem_cons_of_mem _ hx))

/-- A map that keeps the order of the places keeps which entry comes first. -/
theorem foldl_earlier_map {m : Nat × α → Nat × β} (hm : ∀ x y, (m x).1 < (m y).1 ↔ x.1 < y.1) (l : List (Nat × α)) (best : Option (Nat × α)) :
    (l.map m).foldl earlier (best.map m) = (l.foldl earlier best).map m := by
  induction l generalizing best with
  | nil => rfl
  | cons c l ih =>
    have hc : earlier (best.map m) (m c) = (earlier best c).map m := by
      cases best with
      | none => rfl
      | some b =>
        simp only [Option.map_some, earlier, hm]
        split <;> rfl
    rw [List.map_cons, List.foldl_cons, List.foldl_cons, hc, ih]

end

theorem firstMatBad_eq (l : List (Nat × MatBad)) : firstMatBad l = l.foldl earlier none :=
  congrArg (fun step => l.foldl step none) (funext₂ fun best _ => by cases best <;> rfl)

theorem firstOnLine_eq (l : List (Nat × Nat)) : firstOnLine l = l.foldl earlier none :=
  congrArg (fun step => l.foldl step none) (funext₂ fun best _ => by cases best <;> rfl)

theorem firstMatBad_cons_of_le {b : Nat × MatBad} {l : List (Nat × MatBad)} (h : ∀ c ∈ l, b.1 ≤ c.1) : firstMatBad (b :: l) = some b := by
  rw [firstMatBad_eq]
  exact foldl_earlier_of_le h

/-- An invalid code as an entry in the order of reads. -/
def codeBad (q : Nat × Nat) : Nat × MatBad := (3 * (q.1 + 2) + 2, .code q.2)

theorem firstMatBad_codes (l : List (Nat × Nat)) : firstMatBad (l.map codeBad) = (firstOnLine l).map codeBad := by
  have hm (x y : Nat × Nat) : (codeBad x).1 < (codeBad y).1 ↔ x.1 < y.1 := by
    simp only [codeBad]
    omega
  rw [firstMatBad_eq, firstOnLine_eq]
  exact foldl_earlier_map hm l none

/-- No byte that the array reads for d has a parity error or poison. -/
def MatClean (s : Site) (d : Desc) : Prop :=
  (∀ p ∈ s.scratch, parityBad p.2 = true → matKeys d p.1 = []) ∧
    ∀ p ∈ s.poison, p.2 = true → ∀ i : Nat, i < 64 → matKeys d (64 * p.1 + i) = []

section
variable {s : Site} {d : Desc}

/-- With clean bytes only the tensor scales and the codes can stop the array. -/
theorem matBads_clean (h : MatClean s d) : matBads s d =
    (if posNormal32 (matTA s.rd d) then [] else [(2, .scale)]) ++ (if posNormal32 (matTB s.rd d) then [] else [(5, .scale)]) ++
      (matCodes s.rd d).map codeBad := by
  obtain ⟨hparity, hpoison⟩ := h
  have h1 : s.scratch.flatMap (fun p =>
      if parityBad p.2 then (matKeys d p.1).map (fun k =>
        (3 * k, MatBad.read (if tget s.tags 0 (p.1 / 1024) = 0 then .parity p.1 else .refetch (p.1 / 1024)))) else []) = [] := by
    refine List.flatMap_eq_nil_iff.mpr fun p hp => ?_
    split
    next hb => rw [hparity p hp hb, List.map_nil]
    · rfl
  have h2 : s.poison.flatMap (fun p => if p.2 then (List.range 64).flatMap (fun i =>
      (matKeys d (64 * p.1 + i)).map (fun k => (3 * k + 1, MatBad.read (.poison p.1)))) else []) = [] := by
    refine List.flatMap_eq_nil_iff.mpr fun p hp => ?_
    split
    next hb => exact List.flatMap_eq_nil_iff.mpr fun i hi => by rw [hpoison p hp hb i (List.mem_range.mp hi), List.map_nil]
    · rfl
  unfold matBads
  rw [h1, h2]
  rfl

/-- With both scales good the first invalid code decides. -/
theorem firstMatBad_of_scalesOk (h : MatClean s d) (ht : tensorScalesOk s.rd d = true) :
    firstMatBad (matBads s d) = (firstOnLine (matCodes s.rd d)).map codeBad := by
  obtain ⟨ha, hb⟩ := Bool.and_eq_true_iff.mp ht
  rw [matBads_clean h, ha, hb, ← firstMatBad_codes]
  rfl

/-- A tensor scale that is not positive and normal comes before every code (R112). -/
theorem firstMatBad_of_badScale (h : MatClean s d) (ht : tensorScalesOk s.rd d = false) : ∃ k, firstMatBad (matBads s d) = some (k, .scale) := by
  have hlate (n : Nat) (hn : n ≤ 5) (q : Nat × MatBad) (hq : q ∈ (matCodes s.rd d).map codeBad) : n ≤ q.1 := by
    obtain ⟨c, -, rfl⟩ := List.mem_map.mp hq
    simp only [codeBad]
    omega
  rw [matBads_clean h]
  cases ha : posNormal32 (matTA s.rd d) with
  | true =>
    have hb : posNormal32 (matTB s.rd d) = false := by simpa [tensorScalesOk, ha] using ht
    rw [hb]
    exact ⟨5, firstMatBad_cons_of_le (b := (5, MatBad.scale)) (hlate 5 (by omega))⟩
  | false =>
    refine ⟨2, firstMatBad_cons_of_le (b := (2, MatBad.scale)) fun q hq => ?_⟩
    obtain hq | hq := List.mem_append.mp hq
    · split at hq
      · exact absurd hq List.not_mem_nil
      · rw [List.mem_singleton.mp hq]
        decide
    · exact hlate 2 (by omega) q hq

end

-- MATMUL --------------------------------------------------------------------------------------------------------------

@[simp] theorem ArraySt.capture_queue (a : ArraySt) (rd : Rd) (d : Desc) (st : StreamId) (upto : Option Nat) :
    (a.capture rd d st upto).queue = a.queue := by
  unfold ArraySt.capture
  exact (apply_ite ArraySt.queue ..).trans (ite_self _)

section
variable {c : StepCtx}

/-- What the array meets first decides how a MATMUL ends (R112). -/
theorem runMatmul_stopped {k : Nat} {b : MatBad} (h : firstMatBad (matBads c.site c.d) = some (k, b)) : (runMatmul c).res = b.res := by
  unfold runMatmul
  dsimp only
  rw [h]
  split
  next hb =>
    obtain ⟨rfl, rfl⟩ := Prod.mk.inj (Option.some.inj hb)
    rfl
  next hb =>
    obtain ⟨rfl, rfl⟩ := Prod.mk.inj (Option.some.inj hb)
    split <;> rfl
  next hb => exact absurd hb (by simp)

/-- The array once a MATMUL that nothing stops has entered it. -/
def StepCtx.entered (c : StepCtx) : ArraySt :=
  { (c.site.arr.enter c.st (c.site.stream c.st).nextId c.d.mod).capture c.rd c.d c.st none with
    bookA := (matA c.d).books c.rd, bookB := (List.range (bTiles c.d.mod)).flatMap (fun s => (matB c.d s).books c.rd) }

theorem StepCtx.entered_queue (c : StepCtx) : c.entered.queue = (c.site.arr.enter c.st (c.site.stream c.st).nextId c.d.mod).queue :=
  ArraySt.capture_queue ..

theorem runMatmul_ok (h : firstMatBad (matBads c.site c.d) = none) : (runMatmul c).f = c.f.setSite c.x { c.site with arr := c.entered } ∧
    (runMatmul c).res = .ok { StepEff.none with kind := .matmul c.d.mod c.d.m c.d.n, scratch := dataWrites (matmulOut c.rd c.d)
                                                sat := (matmulOut c.rd c.d).sat, nan := (matmulOut c.rd c.d).nan } := by
  unfold runMatmul
  dsimp only
  rw [h]
  exact ⟨rfl, rfl⟩

end

/-- Row i of D. -/
def matRow (rd : Rd) (d : Desc) (i : Nat) : ScratchWrite :=
  { addr := d.sd.toNat + i * dStride d, poison := false, tag := none
    bytes := codeBytes (bytesOf d.fd) ((List.range d.n).map (fun j =>
      (arrayResult d.fd (Rnd.ofField d.rnd) (fp32F.decode (matTA rd d)) (fp32F.decode (matTB rd d))
        (if bit d.mod 2 then d.fd.elem false (rdLe rd (d.sd.toNat + i * dStride d + j * bytesOf d.fd) (bytesOf d.fd)) else Val.zero)
        (matElem rd d i j 0)).code)) }

theorem dataWrites_matmulOut (rd : Rd) (d : Desc) : dataWrites (matmulOut rd d) = (List.range d.m).map (matRow rd d) := by
  simp only [dataWrites, matmulOut, List.map_map]
  refine List.map_congr_left fun i _ => ?_
  simp only [Function.comp_apply, List.map_map]
  rfl

/-- Settles O17: the writes of each row move and layout, and for MATMUL what comes first in the order of its reads. -/
theorem rowAndMatrixResults : Obligations.RowAndMatrixResults := by
  refine ⟨fun c hop => ?_, fun c hop hr => ?_, fun c hop hk hm hr => ?_, fun c hop hk hm hr hi => ?_, fun c hop => ?_⟩
  · rw [work_rowLoad hop]
    exact ⟨_, runRowLoad_res c, rfl, fun k rs j r hk hrs hr => mem_loadWrites hk hrs hr⟩
  · rw [work_rowStore hop]
    exact ⟨_, runRowStore_ok hr, rfl, fun k j hk hj => mem_scratchToRows c _ 0 (rowsFrom_getElem? c.d.addr hk) hj⟩
  · rw [work_linear hop hk]
    exact ⟨_, runLinear_ok hm hr, fun i hi => List.mem_map.mpr ⟨i, List.mem_range.mpr (lt_cdiv hi), rfl⟩⟩
  · rw [work_skew hop hk]
    exact runSkew_ok hm hr hi
  · rw [work_matmul hop]
    refine ⟨fun k b h => runMatmul_stopped h, fun hc ht => ?_, fun hc q ht hq => ?_, fun hc ht hq => ?_⟩
    · obtain ⟨k, h⟩ := firstMatBad_of_badScale hc ht
      exact runMatmul_stopped h
    · obtain ⟨p, hp, rfl⟩ := Option.map_eq_some_iff.mp hq
      exact runMatmul_stopped ((firstMatBad_of_scalesOk hc ht).trans (congrArg (Option.map codeBad) hp))
    · have hp := Option.map_eq_none_iff.mp hq
      obtain ⟨hf, hres⟩ := runMatmul_ok ((firstMatBad_of_scalesOk hc ht).trans (congrArg (Option.map codeBad) hp))
      exact ⟨_, c.entered, hres, hf, c.entered_queue, rfl, dataWrites_matmulOut c.rd c.d⟩

end Sys2Proof.Machine
end

section
/-! PROOFS. What ATTEND, GATHER and KV_APPEND write (R117, R120 to R122, R125 to R132, R175, R179, R385; O18, O21). -/

namespace Sys2Proof.Machine
open Sys2Proof

-- ATTEND --------------------------------------------------------------------------------------------------------------

section
variable {c : StepCtx}

theorem work_merge (h : c.d.opcode = 0x18) (ho : attOut c.d = 2) : Work c = runMerge c := by
  rw [work_of_ne_signal h (by decide), runAny, h]
  exact if_pos ho

theorem work_attend (h : c.d.opcode = 0x18) (ho : attOut c.d ≠ 2) : Work c = runAttend c := by
  rw [work_of_ne_signal h (by decide), runAny, h]
  exact if_neg ho

end

section
variable (c : StepCtx)

/-- The header of the query block (R125). -/
def StepCtx.queryHeader : QueryHeader := QueryHeader.read c.rd c.d.sa.toNat

/-- The query positions (R125). -/
def StepCtx.queryPositions : List Nat := (List.range c.queryHeader.nq).map (fun n => rdLe c.rd (qPosAddr c.d.sa.toNat n) 4)

/-- What taking the page list in its order comes to (R126, R128). -/
def StepCtx.pageWalk : PageWalk :=
  ((List.range c.d.count).map (fun i => PageEntry.ofNat (rdLe c.rd (c.d.sb.toNat + 8 * i) 8))).zipIdx.foldl
    (fun w p => takeEntry c c.queryHeader (p.2 + 1 == c.d.count) w p.1) { f := c.f, pages := [], rows := [], bad := none }

/-- The state of query row r once it has taken the pages in turn, each under its mask (R124, R130). -/
def StepCtx.queryRow (pages : List PagePair) (r : Nat) : RowSt :=
  pages.foldl (fun st p => attEntry c.d.fb c.d.k (fp32F.decode c.queryHeader.sigma)
    ((List.range c.d.k).map (fun i => vecElem c.rd c.d.fa (qRowsAt c.d.sa.toNat c.queryHeader.nq + r * qRowStride c.d) i)) p
    (fun t => !masked (attMask c.d) c.queryHeader.window (p.pos0 + t) (c.queryPositions.getD (r / attG c.d) 0)) st) (RowSt.init c.d.k)

/-- What an ATTEND gives for query row r (R127, R131). -/
def StepCtx.attRow (pages : List PagePair) (r : Nat) : RowOut :=
  if attOut c.d = 0 then finalRow c.d.fd c.d.k (c.queryRow pages r) else partialRow c.d.k (c.queryRow pages r)

/-- Ranges and overlaps pass the checks of R128. -/
structure AttRanges (srcBytes : Nat) : Prop where
  src : rdRangeOk c.d.sa srcBytes = true
  dst : wrRangeOk c.d.sd (attDBytes c.d c.queryHeader.nq) = true
  apart : overlaps c.d.sd.toNat (attDBytes c.d c.queryHeader.nq) c.d.sa.toNat srcBytes = false

variable {c}

/-- Once header, positions, ranges and reads have passed their checks, the walk over the page list decides what an ATTEND comes to. -/
theorem runAttend_res (hh : c.site.checkReads [(c.d.sa.toNat, 64)] true = none) (hn : c.queryHeader.nq ≤ 256)
    (hp : c.site.checkReads [(c.d.sa.toNat + 64, 4 * c.queryHeader.nq)] true = none)
    (hok : attHeaderOk c.d c.queryHeader c.queryPositions = true) (hr : AttRanges c (qBlockBytes c.d c.queryHeader.nq))
    (hl : overlaps c.d.sd.toNat (attDBytes c.d c.queryHeader.nq) c.d.sb.toNat (8 * c.d.count) = false)
    (hrd : c.site.checkReads [(c.d.sa.toNat, qBlockBytes c.d c.queryHeader.nq), (c.d.sb.toNat, 8 * c.d.count)] true = none) :
    (runAttend c).res = match c.pageWalk.bad with
      | some (k, p) => .fault { FaultInfo.of k with poisonAt := p } []
      | none => .ok (attWrites c.d ((List.range (c.queryHeader.nq * attG c.d)).map (c.attRow c.pageWalk.pages))) := by
  obtain ⟨hs, hd, ha⟩ := hr
  unfold StepCtx.queryPositions at hok
  unfold StepCtx.queryHeader at *
  unfold runAttend
  simp only [hh, if_pos hn, hp, hok, hs, hd, ha, hl, hrd]
  rfl

theorem runMerge_res (hh : c.site.checkReads [(c.d.sa.toNat, 64)] true = none) (hok : attHeaderOk c.d c.queryHeader [] = true)
    (hr : AttRanges c (mergeBytes c.d c.queryHeader.nq)) (hrd : c.site.checkReads [(c.d.sa.toNat, mergeBytes c.d c.queryHeader.nq)] true = none) :
    (runMerge c).res = .ok (attWrites c.d ((List.range (c.queryHeader.nq * attG c.d)).map (fun r =>
      mergeRow c.d.fd c.d.k ((List.range c.d.count).map (fun i =>
        let at_ := c.d.sa.toNat + 64 + (i * (c.queryHeader.nq * attG c.d) + r) * (64 + 4 * c.d.k)
        (fp32F.decode (rdLe c.rd at_ 4), fp32F.decode (rdLe c.rd (at_ + 4) 4),
         (List.range c.d.k).map (fun j => fp32F.decode (rdLe c.rd (at_ + 64 + 4 * j) 4)))))))) := by
  obtain ⟨hs, hd, ha⟩ := hr
  unfold StepCtx.queryHeader at *
  unfold runMerge
  simp only [hh, hok, hs, hd, ha, hrd]
  rfl

end

/-- Settles O18: every check passes, and the walk over the page list, or the partial records, say what is written. -/
theorem attentionResults : Obligations.AttentionResults := by
  refine ⟨fun c hop ho => ?_, fun c hop ho => ?_⟩
  · intro d h pos rg w hh hn hp hok hs hd ha hl hrd
    have hres := runAttend_res (c := c) hh hn hp hok ⟨hs, hd, ha⟩ hl hrd
    rw [work_attend hop ho]
    refine ⟨fun k p hbad => ?_, fun hbad => ?_⟩
    · have hbad : c.pageWalk.bad = some (k, p) := hbad
      rw [hres, hbad]
    · have hbad : c.pageWalk.bad = none := hbad
      rw [hres, hbad]
      rfl
  · intro d h hh hok hs hd ha hrd
    rw [work_merge hop ho]
    exact runMerge_res hh hok ⟨hs, hd, ha⟩ hrd

theorem work_gather {c : StepCtx} (h : c.d.opcode = 0x30) (hm : c.d.mod = 3) : Work c = runGather c := by
  rw [work_of_ne_signal h (by decide), runAny, h, hm]
  rfl

theorem work_kvAppend {c : StepCtx} (h : c.d.opcode = 0x30) (hm : c.d.mod = 5) : Work c = runKvAppend c := by
  rw [work_of_ne_signal h (by decide), runAny, h, hm]
  rfl

-- GATHER --------------------------------------------------------------------------------------------------------------

section
variable (c : StepCtx)

/-- The row that entry i of the table names (R175). -/
def StepCtx.gatherRow (i : Nat) : Nat := c.d.addr.toNat / 1024 + rdLe c.rd (c.d.sa.toNat + 4 * i) 4

/-- The halves once the rows of the entries before i are read. -/
def StepCtx.gatherFab (i : Nat) : Fabric := (List.range i).foldl (fun f k => (f.readRow c.e c.x 3 (c.gatherRow k) []).1) c.f

/-- Sector j of the row of entry i, as the read of that row delivers it. -/
def StepCtx.gatherSec (i j : Nat) : Option SecRead := ((c.gatherFab i).readRow c.e c.x 3 (c.gatherRow i) []).2[j]?

/-- The write of 64 bytes of entry i. -/
def StepCtx.gatherWrite (i j : Nat) : ScratchWrite :=
  { addr := c.d.sd.toNat + i * c.d.len + 64 * j, bytes := ((c.gatherSec i j).map (fun r => sectorBytes r.data)).getD []
    poison := ((c.gatherSec i j).map (·.poison)).getD false, tag := none }

/-- What a GATHER has done after n entries. -/
def StepCtx.gathered (n : Nat) : GatherSt :=
  { f := c.gatherFab n, rows := (List.range n).map c.gatherRow
    writes := (List.range n).flatMap (fun i => (List.range (c.d.len / 64)).map (c.gatherWrite i)), bad := none }

theorem StepCtx.gathered_succ (i : Nat) : c.gathered (i + 1) =
    { f := ((c.gatherFab i).readRow c.e c.x 3 (c.gatherRow i) []).1, rows := (c.gathered i).rows ++ [c.gatherRow i]
      writes := (c.gathered i).writes ++ (List.range (c.d.len / 64)).map (c.gatherWrite i), bad := none } := by
  simp [gathered, gatherFab, List.range_succ]

/-- One entry of the table (R175, R179). -/
def StepCtx.gatherStep (g : GatherSt) (i : Nat) : GatherSt :=
  if g.bad.isSome then g else
  let en := rdLe c.rd (c.d.sa.toNat + 4 * i) 4
  let ri := c.d.addr.toNat / 1024 + en % 2 ^ 19
  if en / 2 ^ 19 ≠ 0 then { g with bad := some .descReserved }
  else if rowsPerColumn ≤ ri then { g with bad := some .addressHole }
  else
    let (f, rs) := g.f.readRow c.e c.x 3 ri []
    { g with f := f, rows := g.rows ++ [ri], writes := g.writes ++ (List.range (c.d.len / 64)).map (fun j =>
        { addr := c.d.sd.toNat + i * c.d.len + 64 * j, bytes := ((rs[j]?).map (fun r => sectorBytes r.data)).getD []
          poison := ((rs[j]?).map (·.poison)).getD false, tag := none }) }

/-- What a GATHER has done when its table ends. -/
def StepCtx.gatherEnd : GatherSt := (List.range c.d.count).foldl c.gatherStep { f := c.f, rows := [], writes := [], bad := none }

variable {c}

theorem runGather_res (hr : c.site.checkReads [(c.d.sa.toNat, 4 * c.d.count)] true = none) : (runGather c).res =
    match c.gatherEnd.bad with
    | some cause => .fault (FaultInfo.of cause) c.gatherEnd.writes
    | none => .ok { StepEff.none with scratch := c.gatherEnd.writes } := by
  unfold runGather
  simp only [hr]
  rfl

/-- Entry i names a row of the column. -/
def StepCtx.GatherNames (c : StepCtx) (i : Nat) : Prop := rdLe c.rd (c.d.sa.toNat + 4 * i) 4 < 2 ^ 19 ∧ c.gatherRow i < 393216

theorem StepCtx.gatherStep_gathered {i : Nat} (h : c.GatherNames i) : c.gatherStep (c.gathered i) i = c.gathered (i + 1) := by
  obtain ⟨hen, hrow⟩ := h
  have hri : c.d.addr.toNat / 1024 + rdLe c.rd (c.d.sa.toNat + 4 * i) 4 % 2 ^ 19 = c.gatherRow i := by rw [Nat.mod_eq_of_lt hen, gatherRow]
  have hin : ¬ rowsPerColumn ≤ c.gatherRow i := Nat.not_le.mpr hrow
  rw [gathered_succ, gatherStep, if_neg (by simp [gathered])]
  dsimp only
  rw [if_neg (by rw [Nat.div_eq_of_lt hen]; decide), hri, if_neg hin]
  rfl

theorem StepCtx.foldl_gatherStep {n : Nat} (h : ∀ i, i < n → c.GatherNames i) :
    (List.range n).foldl c.gatherStep { f := c.f, rows := [], writes := [], bad := none } = c.gathered n := by
  induction n with
  | zero => rfl
  | succ n ih =>
    rw [List.range_succ, List.foldl_append, ih (fun i hi => h i (Nat.lt_succ_of_lt hi))]
    exact gatherStep_gathered (h n n.lt_succ_self)

theorem runGather_ok (hr : c.site.checkReads [(c.d.sa.toNat, 4 * c.d.count)] true = none) (h : ∀ i, i < c.d.count → c.GatherNames i) :
    (runGather c).res = .ok { StepEff.none with scratch := (c.gathered c.d.count).writes } := by
  rw [runGather_res hr, StepCtx.gatherEnd, StepCtx.foldl_gatherStep h]
  rfl

theorem StepCtx.gatherWrite_mem {n i j : Nat} (hi : i < n) (hj : j < c.d.len / 64) : c.gatherWrite i j ∈ (c.gathered n).writes :=
  List.mem_flatMap.mpr ⟨i, List.mem_range.mpr hi, List.mem_map.mpr ⟨j, List.mem_range.mpr hj, rfl⟩⟩

end

-- KV_APPEND -----------------------------------------------------------------------------------------------------------

theorem codeBytes_length (n : Nat) (l : List Nat) : (codeBytes n l).length = l.length * n := by
  simp [codeBytes, List.length_flatMap, leBytes_length]

section
variable (c : StepCtx)

/-- The page that a KV_APPEND names, its read, and its header. -/
def StepCtx.kvPage : Nat := c.d.addr.toNat / 16384
def StepCtx.kvRead : Fabric × PageRead := readPage c.f c.e c.x 3 c.kvPage 16384
def StepCtx.kvHeader : PageHeader := PageHeader.ofBytes c.kvRead.2.bytes

/-- The format of the page that FMT_D asks for. -/
def StepCtx.kvFormat : Nat := if c.d.fd = .e4m3 then 2 else 1

/-- The elements of the tokens to append. -/
def StepCtx.kvElems : List Val :=
  (List.range c.d.count).flatMap (fun t => (List.range c.d.len).map (fun i => vecElem c.rd c.d.fa (c.d.sa.toNat + t * srcStride c.d.fa c.d.len) i))

/-- The scale of the page: for E4M3 that of the first tokens while it is empty, its own afterwards (R122). -/
def StepCtx.kvNewScale : Nat :=
  if c.d.fd == .e4m3 && c.kvHeader.count = 0 then kvScale (rdLe c.rd c.d.sb.toNat 4) (maxMag (c.kvElems.filter (·.isFin))) else c.kvHeader.scale

/-- The elements in the format of the page (R80, R122). -/
def StepCtx.kvCodes : List Cv :=
  if c.d.fd == .e4m3 && !posNormal32 c.kvNewScale then c.kvElems.zipIdx.map (fun p => kvUnscaled c.kvNewScale p.2)
  else c.kvElems.map (kvElem c.d.fd c.kvNewScale)

/-- The new bytes of the page, where they begin in it, and the page with them. -/
def StepCtx.kvNew : List Byte := codeBytes (kvBytes c.d.fd) (c.kvCodes.map (·.code))
def StepCtx.kvFirst : Nat := 64 + c.kvHeader.count * c.d.len * kvBytes c.d.fd
def StepCtx.kvBody : List Byte := c.kvRead.2.bytes.take c.kvFirst ++ c.kvNew ++ c.kvRead.2.bytes.drop (c.kvFirst + c.kvNew.length)

/-- A poisoned source block holds elements of sector i (R385). -/
def StepCtx.kvSrcPoison (i : Nat) : Bool :=
  (List.range c.d.count).any (fun t =>
    let a := c.kvFirst + t * (c.d.len * kvBytes c.d.fd)
    overlaps a (c.d.len * kvBytes c.d.fd) (64 * i) 64 &&
      (List.range (cdiv (c.d.len * bytesOf c.d.fa) 64)).any (fun b =>
        overlaps (a + (64 * b / bytesOf c.d.fa) * kvBytes c.d.fd) (64 / bytesOf c.d.fa * kvBytes c.d.fd) (64 * i) 64 &&
          c.site.blockPoison (c.d.sa.toNat + t * srcStride c.d.fa c.d.len + 64 * b)))

/-- Sector i of the page with its new contents, a record where a poisoned block gave them. -/
def StepCtx.kvSector (i : Nat) : SectorWrite :=
  if c.kvSrcPoison i || c.site.blockPoison c.d.sb.toNat then
    { key := 256 * c.kvPage + i, data := poisonRec .propagated c.t.val 1 (nowNs c.e.time), poison := true }
  else { key := 256 * c.kvPage + i, data := bytesSector (c.kvBody.drop (64 * i)), poison := false }

theorem StepCtx.kvSector_key (i : Nat) : (c.kvSector i).key = 256 * c.kvPage + i := by
  unfold kvSector
  split <;> rfl

/-- The header after the append. -/
def StepCtx.kvHead : SectorWrite :=
  if c.site.blockPoison c.d.sb.toNat then
    { key := 256 * c.kvPage, poison := true, data := poisonRec .propagated c.t.val 1 (nowNs c.e.time) }
  else { key := 256 * c.kvPage, poison := false
         data := bytesSector ({ c.kvHeader with scale := if c.d.fd == .e4m3 then c.kvNewScale else 0, kvf := c.kvFormat
                                                count := c.kvHeader.count + c.d.count } : PageHeader).toBytes }

/-- The writes of a KV_APPEND: the sectors of its elements, then the header. -/
def StepCtx.kvWrites : List SectorWrite :=
  (List.range ((c.kvFirst + c.kvNew.length - 1) / 64 + 1 - c.kvFirst / 64)).map (fun j => c.kvSector (c.kvFirst / 64 + j)) ++ [c.kvHead]

theorem StepCtx.kvNew_length : c.kvNew.length = c.d.count * c.d.len * kvBytes c.d.fd := by
  have hcodes : c.kvCodes.length = c.kvElems.length := by
    unfold kvCodes
    split <;> simp
  rw [kvNew, codeBytes_length, List.length_map, hcodes]
  simp [kvElems, List.length_flatMap]

/-- Every sector that holds some of the new bytes is among those from the first to the last of them. -/
theorem StepCtx.mem_kvWrites {k : Nat} (hlo : c.kvFirst < 64 * (k + 1)) (hhi : 64 * k < c.kvFirst + c.kvNew.length) :
    ∃ w ∈ c.kvWrites, w.key = 256 * c.kvPage + k := by
  have hj : k - c.kvFirst / 64 < (c.kvFirst + c.kvNew.length - 1) / 64 + 1 - c.kvFirst / 64 := by omega
  have hk : c.kvFirst / 64 + (k - c.kvFirst / 64) = k := by omega
  refine ⟨c.kvSector k, List.mem_append_left _ (List.mem_map.mpr ⟨_, List.mem_range.mpr hj, ?_⟩), c.kvSector_key k⟩
  rw [hk]

/-- Hint, position and page agree (R120, R121). -/
structure StepCtx.KvAgrees : Prop where
  params : c.site.checkReads [(c.d.sb.toNat, 8)] false = none
  source : c.site.checkReads [(c.d.sa.toNat, srcBytes c.d.fa c.d.count c.d.len)] false = none
  pos : rdLe c.rd (c.d.sb.toNat + 4) 4 < 2 ^ 20
  hint : c.d.fd = .e4m3 → posNormal32 (rdLe c.rd c.d.sb.toNat 4) = true
  fits : rdLe c.rd (c.d.sb.toNat + 4) 4 + c.d.count ≤ 1048576
  clean : c.kvRead.2.firstPoison c c.kvPage 64 = none
  format : c.kvHeader.kvf = 0 ∨ c.kvHeader.kvf = c.kvFormat
  scale : c.kvHeader.kvf = 2 → c.kvHeader.count ≠ 0 → posNormal32 c.kvHeader.scale = true
  room : c.kvHeader.count + c.d.count ≤ tokensPerPage c.d.len (kvBytes c.d.fd)
  next : rdLe c.rd (c.d.sb.toNat + 4) 4 = c.kvHeader.pos0 + c.kvHeader.count

variable {c}

theorem runKvAppend_ok (h : c.KvAgrees) : (runKvAppend c).f = c.kvRead.1.writeSectors c.e c.x c.kvWrites ∧
    (runKvAppend c).res = .ok { StepEff.none with sat := (c.kvCodes.map (·.sat)).sum, nan := (c.kvCodes.map (·.nan)).sum } := by
  obtain ⟨hpar, hsrc, hpos, hhint, hfits, hclean, hfmt, hscale, hroom, hnext⟩ := h
  have hkvf : ¬ ((c.kvHeader.kvf != 0 && c.kvHeader.kvf != c.kvFormat) || c.kvHeader.kvf == 3) = true := by
    have h12 : c.kvFormat = 1 ∨ c.kvFormat = 2 := by
      unfold StepCtx.kvFormat
      split <;> simp
    simp only [Bool.or_eq_true, Bool.and_eq_true, bne_iff_ne, beq_iff_eq]
    omega
  have hnormal : ¬ (c.kvHeader.kvf == 2 && c.kvHeader.count != 0 && !posNormal32 c.kvHeader.scale) = true := by
    simpa using hscale
  unfold StepCtx.kvFormat StepCtx.kvHeader StepCtx.kvRead StepCtx.kvPage at *
  unfold runKvAppend
  dsimp only
  rw [hpar]
  dsimp only
  rw [if_neg (by rw [Nat.div_eq_of_lt hpos]; decide), if_neg (by simpa using hhint), Nat.mod_eq_of_lt hpos, if_neg (Nat.not_lt.mpr hfits), hclean]
  dsimp only
  rw [if_neg hkvf, if_neg hnormal, if_neg (Nat.not_lt.mpr hroom), if_neg (by simpa using hnext), hsrc]
  exact ⟨rfl, rfl⟩

end

/-- Settles O21: the rows of the table one after another, and for KV_APPEND the sectors of the new elements, then the header. -/
theorem gatherAndAppendResults : Obligations.GatherAndAppendResults := by
  refine ⟨fun c hop hm hr hen => ?_, fun c hop hm => ?_⟩
  · rw [work_gather hop hm]
    exact ⟨_, runGather_ok hr hen, rfl, fun i j hi hj => ⟨c.gatherWrite i j, StepCtx.gatherWrite_mem hi hj, rfl, rfl, rfl, rfl⟩⟩
  · intro d page hint pw pr h kvf hpar hsrc hpos hhint hfits hclean hfmt hscale hroom hnext all scale first
    obtain ⟨hf, hres⟩ := runKvAppend_ok (c := c) ⟨hpar, hsrc, hpos, hhint, hfits, hclean, hfmt, hscale, hroom, hnext⟩
    have hnew : scale = c.kvNewScale := by
      unfold StepCtx.kvNewScale
      simp only [Bool.and_eq_true, beq_iff_eq, decide_eq_true_eq]
      rfl
    rw [work_kvAppend hop hm, hnew]
    refine ⟨_, c.kvWrites, hres, rfl, rfl, hf, fun k hlo hhi => c.mem_kvWrites hlo ?_, (List.getLast?_append_cons ..).trans ?_⟩
    · rw [c.kvNew_length]
      exact hhi
    · unfold StepCtx.kvHead
      simp only [beq_iff_eq]
      rfl

end Sys2Proof.Machine
end

section
/-! PROOFS. An allocation that has waited WAIT_MS while its sequence is exported (R143, R211, R237, R256), which refutes O40. -/

namespace Sys2Proof.Machine
open Sys2Proof

-- The state ----------------------------------------------------------------------------------------------------------

/-- A GENERATE of context 0. -/
def waitingRequest : GenReq :=
  { ctx := 0, dsn := 6, prio := 1, method := 0, logprob := false, ignoreEos := false, holdKv := false, cont := false, reportEvery := 0, model := 0
    nalt := 0, topK := 0, tag := 77, promptAddr := 0, promptLen := 4, maxNew := 8, outAddr := 0, temp := 0, topP := 0x3F800000, minP := 0, contSeq := 0
    seed := 0, got := [], ready := true, since := 0, bump := 0 }

/-- Its sequence, which waits for a group since tick 0. -/
def waitingSeq : Seq :=
  { gen := 3, ctx := 0, model := 0, phase := .decode, kst := 1, tokens := 5, lastToken := 9, input := [], inputPos := 0, fed := 0
    req := some waitingRequest, count := 0, prio := 1, order := 0, groups := [], lists := [], blocks := [], inLaunch := 0, ending := none
    waitFrom := some 0, since := 0, bump := 0, exporting := true }

/-- A KV_EXPORT of the same context that names the same sequence. -/
def exportOfWaiting : Export :=
  { ctx := 0, dsn := 7, tag := 78, seq := 0, dest := 0, addr := 0, qpn := 0, rkey := 0, release := false, left := 1, bytes := 0, waiting := false }

/-- Ten seconds after reset, context 0 is active while the link to the host is down, and the sequence in slot 0 waits while it is exported. -/
def exportedWaiter : State := { State.reset with
  time := { Time.init with ticks := 10000000 }
  d := { Dev.init with
    host := { HostSt.init with ctxs := [(0, { Ctx.init with phase := .active })] }
    svc := { Svc.init with seqs := [(0, some waitingSeq)], exports := [exportOfWaiting] } } }

-- What comes of it ----------------------------------------------------------------------------------------------------

theorem exportedWaiter_due : 0 + kvWait exportedWaiter.env ≤ svcNow exportedWaiter.env := by decide

theorem exportedWaiter_noReclaim : exportedWaiter.d.noReclaim exportedWaiter.env = true := by decide

/-- The end of the sequence leaves two records held: the FINAL of the request, and the DONE of the export. -/
theorem exportedWaiter_held :
    ((exportedWaiter.onDev (fun e d => d.allocTimeout e 0)).d.ctx 0).held.map (fun h => (h.rcd.dsn, h.rcd.rtype)) = [(6, 2), (7, 3)] := by decide

/-- Refutes O40: an allocation that has waited WAIT_MS ends its sequence, whose request is to have exactly one more record held; but an export
of the sequence ends with it, and its DONE is held behind the FINAL. -/
theorem not_groupsAndPagesMove : ¬ Obligations.GroupsAndPagesMove := by
  unfold Obligations.GroupsAndPagesMove
  rintro ⟨-, -, hwait, -⟩
  obtain ⟨hends, -⟩ := hwait exportedWaiter 0 waitingSeq 0 (by decide) rfl (by decide)
  obtain ⟨u, hu, -, -, -, hreq, -⟩ := hends exportedWaiter_due exportedWaiter_noReclaim
  have hnext : exportedWaiter.onDev (fun e d => d.allocTimeout e 0) = u := Host.Outcome.next.inj hu
  have htold := hreq waitingRequest rfl (by decide) (by decide)
  obtain ⟨h, hheld, -⟩ := htold.2 (by decide) (.inr (.inl (by decide)))
  have htwo := exportedWaiter_held
  rw [hnext] at htwo
  have hone : (u.d.ctx 0).held.length = 1 := congrArg List.length hheld
  have hlen : (u.d.ctx 0).held.length = 2 := by simpa using congrArg List.length htwo
  omega

end Sys2Proof.Machine
end

section
/-! PROOFS. What REDUCE, SCALE_ADD, FILL, RMS_STATS and CHECK_RECOMP write (R161, R172 to R178, R385; O19). -/

namespace Sys2Proof.Machine
open Sys2Proof

-- The work of an opcode -----------------------------------------------------------------------------------------------

section
variable {c : StepCtx} (h : c.d.opcode = 0x30)
include h

theorem work_reduce (hm : c.d.mod = 1) : Work c = runReduce c := by
  rw [work_of_ne_signal h (by decide), runAny, h, hm]
  rfl

theorem work_scaleAdd (hm : c.d.mod = 2) : Work c = runScaleAdd c := by
  rw [work_of_ne_signal h (by decide), runAny, h, hm]
  rfl

theorem work_fill (hm : c.d.mod = 4) : Work c = runFill c := by
  rw [work_of_ne_signal h (by decide), runAny, h, hm]
  rfl

theorem work_rmsStats (hm : c.d.mod = 6) : Work c = runRmsStats c := by
  rw [work_of_ne_signal h (by decide), runAny, h, hm]
  rfl

theorem work_checkRecomp (hm : c.d.mod = 7) : Work c = runCheckRecomp c := by
  rw [work_of_ne_signal h (by decide), runAny, h, hm]
  rfl

end

-- REDUCE and RMS_STATS ------------------------------------------------------------------------------------------------

section
variable (c : StepCtx)

/-- The halves after the rows of a near-bank step are read, and what the reads deliver. -/
def StepCtx.nbRead : Fabric × List (List SecRead) := c.f.readRows c.e c.x 3 (rowsFrom c.d.addr c.d.count)

/-- Element i of a REDUCE before it is converted: row 0 plus the later rows in ascending order (R173). -/
def StepCtx.reduceVal (i : Nat) : Val :=
  match c.nbRead.2 with
  | [] => Val.zero
  | r :: rest => rest.foldl (fun acc q => rn32 (acc.add (rowElem c.d.fa q i))) (rowElem c.d.fa r i)

theorem runReduce_res : ∃ ef : StepEff, (runReduce c).res = .ok ef ∧ ef.sectors = [] ∧ ef.scratch =
    [{ addr := c.d.sd.toNat, poison := c.nbRead.2.any (fun r => rowPoison r (c.d.len * bytesOf c.d.fa)), tag := none
       bytes := codeBytes (bytesOf c.d.fd) ((List.range c.d.len).map (fun i => (c.d.fd.convTo .nearest (c.reduceVal i)).code)) }] := by
  refine ⟨_, rfl, rfl, ?_⟩
  dsimp only
  rw [List.map_map]
  rfl

/-- The two values of a row without NaN and infinity are its sum of squares and its largest magnitude. -/
theorem runRmsStats_res : ∃ ef : StepEff, (runRmsStats c).res = .ok ef ∧ ef.sectors = [] ∧ ∀ (k : Nat) (rs : List SecRead), c.nbRead.2[k]? = some rs →
    (∀ i : Nat, i < c.d.len → (rowElem c.d.fa rs i).isNaN = false ∧ (rowElem c.d.fa rs i).isInf = false) →
    ({ addr := c.d.sd.toNat + 8 * k, poison := rowPoison rs (c.d.len * bytesOf c.d.fa), tag := none
       bytes := leBytes 4 (fp32Of (laneSum addSq c.d.len (fun i => rowElem c.d.fa rs i))) ++
         leBytes 4 (fp32Of (Val.fin false (maxMag ((List.range c.d.len).map (rowElem c.d.fa rs))))) } : ScratchWrite) ∈ ef.scratch := by
  refine ⟨_, rfl, rfl, fun k rs hrs hfin => ?_⟩
  have hnan : ((List.range c.d.len).map (rowElem c.d.fa rs)).any (·.isNaN) = false := by
    simpa using fun i hi => (hfin i hi).1
  have hinf : ((List.range c.d.len).map (rowElem c.d.fa rs)).any (·.isInf) = false := by
    simpa using fun i hi => (hfin i hi).2
  refine List.mem_map.mpr ⟨(_, k), List.mem_zipIdx_iff_getElem?.mpr ((List.getElem?_map ..).trans (congrArg _ hrs)), ?_⟩
  simp only [hnan, hinf, Bool.false_eq_true, if_false]

-- SCALE_ADD and FILL --------------------------------------------------------------------------------------------------

/-- The elements of a row after a SCALE_ADD, with the addends from `base` on (R174). -/
def StepCtx.scaled (rs : List SecRead) (base : Nat) : List Cv := (List.range c.d.len).map (fun i =>
  c.d.fd.convTo .nearest (((fp32F.decode (rdLe c.rd c.d.sb.toNat 4)).mul (rowElem c.d.fd rs i)).add (vecElem c.rd c.d.fa base i)))

/-- Sector j of row `ri` after a SCALE_ADD: a record where a poisoned sector or block went into it (R385). -/
def StepCtx.scaledSector (rs : List SecRead) (base ri j : Nat) : SectorWrite :=
  let lo := 64 * j / bytesOf c.d.fd
  if ((rs[j]?.map (·.poison)).getD false) || (decide (64 * j < c.d.len * bytesOf c.d.fd) && (c.site.blockPoison c.d.sb.toNat ||
      (List.range (64 / bytesOf c.d.fd)).any (fun i => decide (lo + i < c.d.len) && c.site.blockPoison (base + (lo + i) * bytesOf c.d.fa)))) then
    { key := 16 * ri + j, data := poisonRec .propagated c.t.val 1 (nowNs c.e.time), poison := true }
  else
    { key := 16 * ri + j, poison := false
      data := bytesSector ((codeBytes (bytesOf c.d.fd) ((c.scaled rs base).map (·.code)) ++
        (rs.flatMap (fun r => sectorBytes r.data)).drop (c.d.len * bytesOf c.d.fd)).drop (64 * j)) }

/-- All that a SCALE_ADD writes, row by row. -/
def StepCtx.scaleWrites : List SectorWrite :=
  ((rowsFrom c.d.addr c.d.count).zip c.nbRead.2).zipIdx.flatMap (fun p =>
    (List.range 16).map (c.scaledSector p.1.2 (c.d.sa.toNat + p.2 * srcStride c.d.fa c.d.len) p.1.1))

variable {c}

theorem runScaleAdd_ok (hr : c.site.checkReads [(c.d.sa.toNat, srcBytes c.d.fa c.d.count c.d.len), (c.d.sb.toNat, 4)] false = none) :
    (∃ sat nan, (runScaleAdd c).res = .ok { StepEff.none with sat := sat, nan := nan }) ∧
    (runScaleAdd c).f = c.nbRead.1.writeSectors c.e c.x c.scaleWrites := by
  unfold runScaleAdd
  dsimp only
  rw [hr]
  refine ⟨⟨_, _, rfl⟩, ?_⟩
  dsimp only
  rw [List.flatMap_map]
  rfl

/-- Where nothing that goes into it is poisoned, sector j holds the new elements, and what it held behind them. -/
theorem StepCtx.mem_scaleWrites {k j : Nat} {rs : List SecRead} (hk : k < c.d.count) (hj : j < 16) (hrs : c.nbRead.2[k]? = some rs)
    (hrow : ∀ q ∈ rs, q.poison = false) (hblk : ∀ a : Nat, c.site.blockPoison a = false) :
    ({ key := 16 * (c.d.addr.toNat / 1024 + k) + j, poison := false
       data := bytesSector ((codeBytes (bytesOf c.d.fd) ((c.scaled rs (c.d.sa.toNat + k * srcStride c.d.fa c.d.len)).map (·.code)) ++
         (rs.flatMap (fun r => sectorBytes r.data)).drop (c.d.len * bytesOf c.d.fd)).drop (64 * j)) } : SectorWrite) ∈ c.scaleWrites := by
  have hsec : (rs[j]?.map (·.poison)).getD false = false := by
    cases h : rs[j]? with
    | none => rfl
    | some q => exact hrow q (List.mem_of_getElem? h)
  have hzip := List.getElem?_zip_eq_some (z := (c.d.addr.toNat / 1024 + k, rs)).mpr ⟨rowsFrom_getElem? c.d.addr hk, hrs⟩
  refine List.mem_flatMap.mpr ⟨(_, k), List.mem_zipIdx_iff_getElem?.mpr hzip, List.mem_map.mpr ⟨j, List.mem_range.mpr hj, ?_⟩⟩
  simp [scaledSector, hsec, hblk]

/-- The sector that a FILL writes under key `k`. -/
def StepCtx.fillSector (c : StepCtx) (k : Nat) : SectorWrite :=
  { key := k, poison := c.d.len = 64 && c.site.blockPoison c.d.sa.toNat
    data := if c.d.len = 64 && c.site.blockPoison c.d.sa.toNat then poisonRec .propagated c.t.val 1 (nowNs c.e.time)
      else if c.d.len = 64 then bytesSector (c.site.bytes c.d.sa.toNat 64) else 0 }

theorem runFill_ok (hr : c.d.len = 64 → c.site.checkReads [(c.d.sa.toNat, 64)] false = none) : (runFill c).res = .ok { StepEff.none with
    sectors := (rowsFrom c.d.addr c.d.count).flatMap (fun ri => (List.range 16).map (fun i => c.fillSector (16 * ri + i))) } := by
  have hreads : c.site.checkReads (if c.d.len = 64 then [(c.d.sa.toNat, 64)] else []) false = none := by
    split
    next h => exact hr h
    · rfl
  unfold runFill
  dsimp only
  rw [hreads]
  rfl

end

-- CHECK_RECOMP --------------------------------------------------------------------------------------------------------

/-- What scrubbing does for one sector of a row, with its first and its second read (R187). -/
def scrubStep (ri tile now : Nat) (s : Scrub) (p : (SecRead × SecRead) × Nat) : Scrub :=
  let k := 16 * ri + p.2
  match p.1.1.outcome with
  | 2 => { s with poisoned := s.poisoned + 1 }
  | 3 | 4 => { s with corrected := s.corrected + 1, writes := s.writes ++ [{ key := k, data := p.1.1.data, poison := p.1.1.poison }] }
  | 5 =>
    match p.1.2.outcome with
    | 5 => { s with confirmed := s.confirmed + 1, writes := s.writes ++ [{ key := k, data := poisonRec .uncorrectable tile 2 now, poison := true }] }
    | 3 | 4 => { s with corrected := s.corrected + 1, writes := s.writes ++ [{ key := k, data := p.1.2.data, poison := p.1.2.poison }] }
    | _ => s
  | _ => s

/-- The write of a sector that its read has corrected. -/
def fixedWrite (ri : Nat) (r : SecRead × Nat) : Option SectorWrite :=
  if r.1.outcome = 3 ∨ r.1.outcome = 4 then some { key := 16 * ri + r.2, data := r.1.data, poison := r.1.poison } else none

/-- Sectors none of which is uncorrectable are counted by their outcomes, and those corrected are written. -/
theorem foldl_scrubStep_clean (ri tile now : Nat) {rs : List SecRead} (h : ∀ r ∈ rs, r.outcome ≠ 5) (n : Nat) (s : Scrub) :
    ((rs.zip rs).zipIdx n).foldl (scrubStep ri tile now) s =
      { writes := s.writes ++ (rs.zipIdx n).filterMap (fixedWrite ri), confirmed := s.confirmed
        corrected := s.corrected + (rs.filter (fun r => r.outcome = 3 ∨ r.outcome = 4)).length
        poisoned := s.poisoned + (rs.filter (fun r => r.outcome = 2)).length } := by
  induction rs generalizing n s with
  | nil => simp
  | cons r rs ih =>
    obtain ⟨hr, hrs⟩ := List.forall_mem_cons.mp h
    have hstep : scrubStep ri tile now s ((r, r), n) =
        { writes := s.writes ++ (fixedWrite ri (r, n)).toList, confirmed := s.confirmed
          corrected := s.corrected + if r.outcome = 3 ∨ r.outcome = 4 then 1 else 0
          poisoned := s.poisoned + if r.outcome = 2 then 1 else 0 } := by
      unfold scrubStep fixedWrite
      split <;> simp_all
    rw [List.zip_cons_cons, List.zipIdx_cons, List.foldl_cons, hstep, ih hrs, List.zipIdx_cons, List.filterMap_cons]
    by_cases hf : r.outcome = 3 ∨ r.outcome = 4
    · have hne : r.outcome ≠ 2 := by omega
      simp [fixedWrite, hf, hne]
      omega
    · by_cases h2 : r.outcome = 2
      · simp [fixedWrite, h2]
        omega
      · simp [fixedWrite, hf, h2]

theorem scrubRow_clean (ri tile now : Nat) {rs : List SecRead} (h : ∀ r ∈ rs, r.outcome ≠ 5) : scrubRow ri tile now rs rs =
    { writes := rs.zipIdx.filterMap (fixedWrite ri), confirmed := 0
      corrected := (rs.filter (fun r => r.outcome = 3 ∨ r.outcome = 4)).length
      poisoned := (rs.filter (fun r => r.outcome = 2)).length } := by
  have hf := foldl_scrubStep_clean ri tile now h 0 { writes := [], corrected := 0, confirmed := 0, poisoned := 0 }
  simp only [List.nil_append, Nat.zero_add] at hf
  exact hf

/-- A row of whose sectors none is uncorrectable is read once. -/
theorem Fabric.scrub_clean (f : Fabric) (e : Env) (x : SiteIx) (cls ri tile : Nat) (errs : List SymErr)
    (h : ∀ r ∈ (f.readRow e x cls ri errs).2, r.outcome ≠ 5) : f.scrub e x cls ri tile errs =
      ((f.readRow e x cls ri errs).1.writeSectors e x ((f.readRow e x cls ri errs).2.zipIdx.filterMap (fixedWrite ri)),
        scrubRow ri tile (nowNs e.time) (f.readRow e x cls ri errs).2 (f.readRow e x cls ri errs).2) := by
  have hno : ¬ (f.readRow e x cls ri errs).2.any (fun r => r.outcome = 5) = true := by simpa using h
  unfold Fabric.scrub
  dsimp only
  rw [if_neg hno, scrubRow_clean _ _ _ h]

/-- The three counts of the rows scrubbed. -/
theorem runCheckRecomp_res (c : StepCtx) : ∃ (ef : StepEff) (a b p : Nat), (runCheckRecomp c).res = .ok ef ∧
    ef.scratch = [{ addr := c.d.sd.toNat, bytes := leBytes 4 a ++ leBytes 4 b ++ leBytes 4 p ++ List.replicate 52 0, poison := false, tag := none }] ∧
    (c.d.count = 1 →
      let ri := c.d.addr.toNat / 1024
      let s := c.f.scrub c.e c.x 3 ri c.t.val []
      a = s.2.corrected ∧ b = s.2.confirmed ∧ p = s.2.poisoned ∧ (s.2.confirmed = 0 → (runCheckRecomp c).f = s.1)) := by
  refine ⟨_, _, _, _, rfl, rfl, fun h1 => ?_⟩
  have hris : rowsFrom c.d.addr c.d.count = [c.d.addr.toNat / 1024] := by simp [rowsFrom, h1]
  simp only [runCheckRecomp, hris, List.foldl_cons, List.foldl_nil]
  exact ⟨by simp, by simp, by simp, fun h0 => if_pos h0⟩

/-- Settles O19: the work of each operation by its own lemma, and for one clean row the counts by the outcomes of its sectors. -/
theorem nearBankResults : Obligations.NearBankResults := by
  refine ⟨fun c hop hm => ?_, fun c hop hm hr => ?_, fun c hop hm hr => ?_, fun c hop hm => ?_, fun c hop hm => ?_⟩
  · obtain ⟨ef, hres, hsec, hscr⟩ := runReduce_res c
    rw [work_reduce hop hm]
    refine ⟨ef, hres, hsec, hscr.trans ?_⟩
    unfold StepCtx.reduceVal StepCtx.nbRead
    generalize (c.f.readRows c.e c.x 3 (rowsFrom c.d.addr c.d.count)).2 = rows
    cases rows <;> rfl
  · obtain ⟨⟨sat, nan, hres⟩, hf⟩ := runScaleAdd_ok hr
    rw [work_scaleAdd hop hm]
    refine ⟨_, hres, rfl, rfl, _, hf, fun k rs j hk hj hrs hrow hblk => ?_⟩
    have hmem := c.mem_scaleWrites hk hj hrs hrow hblk
    rwa [StepCtx.scaled, List.map_map] at hmem
  · rw [work_fill hop hm]
    refine ⟨_, runFill_ok hr, rfl, fun k j hk hj => ⟨c.fillSector (16 * (c.d.addr.toNat / 1024 + k) + j), ?_, rfl, fun hlen => ?_, fun hlen hblk => ?_⟩⟩
    · exact List.mem_flatMap.mpr ⟨_, List.mem_of_getElem? (rowsFrom_getElem? c.d.addr hk), List.mem_map.mpr ⟨j, List.mem_range.mpr hj, rfl⟩⟩
    · simp [StepCtx.fillSector, hlen]
    · simp [StepCtx.fillSector, hlen, hblk]
  · obtain ⟨ef, hres, hsec, hrow⟩ := runRmsStats_res c
    rw [work_rmsStats hop hm]
    exact ⟨ef, hres, hsec, fun k rs _ hrs hfin => hrow k rs hrs hfin⟩
  · obtain ⟨ef, a, b, p, hres, hscr, hone⟩ := runCheckRecomp_res c
    rw [work_checkRecomp hop hm]
    refine ⟨ef, a, b, p, hres, hscr, fun h1 => ?_⟩
    obtain ⟨ha, hb, hp, hf⟩ := hone h1
    intro ri q hclean
    rw [Fabric.scrub_clean _ _ _ _ _ _ _ hclean, scrubRow_clean _ _ _ hclean] at ha hb hp hf
    exact ⟨ha, hb, hp, hf rfl⟩

end Sys2Proof.Machine
end

section
/-! PROOFS. The contents of a column: what sectors read as after disturbances and after several writes, place by place, and what reads of the
channel root leave alone (R159, R164, R188, R191, R198). -/

namespace Sys2Proof.Machine
open Sys2Proof

-- Places --------------------------------------------------------------------------------------------------------------

/-- The place of a sector in the physical rows. -/
def Column.place (c : Column) (k : Nat) : Nat := 16 * c.phys (k / 16) + k % 16

/-- All on which the contents of the sectors rest. -/
def Column.store (c : Column) : Tab Sector × Tab (BitVec 64) × Tab Word × Tab Word × Sector := (c.cells, c.spareBytes, c.rowRep, c.colRep, c.fill)

/-- A column with other cells and spare bytes. -/
def Column.withCells (c : Column) (cells : Tab Sector) (b : Tab (BitVec 64)) : Column := { c with cells := cells, spareBytes := b }

theorem Column.store_eq_iff {c d : Column} : d.store = c.store ↔
    d.cells = c.cells ∧ d.spareBytes = c.spareBytes ∧ d.rowRep = c.rowRep ∧ d.colRep = c.colRep ∧ d.fill = c.fill := by
  simp [store]

section
variable {c d : Column} (h : d.store = c.store)
include h

theorem Column.phys_of_store (ri : Nat) : d.phys ri = c.phys ri := phys_of_rowRep (Column.store_eq_iff.mp h).2.2.1 ri

theorem Column.base_of_store (p : Nat) : d.base p = c.base p := by
  obtain ⟨-, -, hr, -, hf⟩ := Column.store_eq_iff.mp h
  unfold Column.base Column.spareInUse
  rw [hr, hf]

theorem Column.colMap_of_store (bank s : Nat) : d.colMap bank s = c.colMap bank s := by
  unfold Column.colMap
  rw [(Column.store_eq_iff.mp h).2.2.2.1]

theorem Column.physSector_of_store (p s : Nat) : d.physSector p s = c.physSector p s := by
  obtain ⟨hc, hb, -⟩ := Column.store_eq_iff.mp h
  unfold Column.physSector
  rw [hc, hb, Column.base_of_store h, Column.colMap_of_store h]

theorem Column.sector_of_store (k : Nat) : d.sector k = c.sector k := by
  rw [Column.sector, Column.sector, Column.phys_of_store h, Column.physSector_of_store h]

theorem Column.upset_store (k n : Nat) (b : Byte) : (d.upset k n b).store = (c.upset k n b).store := by
  obtain ⟨hc, hb, hr, hk, hf⟩ := Column.store_eq_iff.mp h
  unfold Column.upset
  dsimp only
  rw [Column.phys_of_store h, Column.colMap_of_store h, Column.base_of_store h, hc, hb]
  split <;> simp only [Column.store, hr, hk, hf]

theorem stuck_store (ri : Nat) (errs : List SymErr) : (Stuck d ri errs).store = (Stuck c ri errs).store := by
  unfold Stuck
  induction errs.filter (fun q => q.persist) generalizing c d with
  | nil => exact h
  | cons q r ih => exact ih (Column.upset_store h _ _ _)

end

-- Changes at one place ------------------------------------------------------------------------------------------------

/-- Column d is column c but for what is stored at the place of sector k, and in the spare bytes of its row. -/
structure Touches (k : Nat) (c d : Column) : Prop where
  rest : d.withCells [] [] = c.withCells [] []
  cell : ∀ (x : Sector) (n : Nat), c.place k ≠ n → tget d.cells x n = tget c.cells x n
  spare : ∀ p : Nat, c.phys (k / 16) ≠ p → tget d.spareBytes 0 p = tget c.spareBytes 0 p

theorem Column.putSector_touches (c : Column) (k : Nat) (v : BitVec 512) (p : Bool) : Touches k c (c.putSector k v p) :=
  ⟨rfl, fun x _ hn => tget_tset_other _ x _ hn, fun _ hp => tget_tset_ne _ _ _ hp⟩

theorem Column.upset_touches (c : Column) (k n : Nat) (b : Byte) : Touches k c (c.upset k n b) := by
  unfold Column.upset
  dsimp only
  split
  · exact ⟨rfl, fun _ _ _ => rfl, fun _ hp => tget_tset_ne _ _ _ hp⟩
  · exact ⟨rfl, fun x _ hn => tget_tset_other _ x _ hn, fun _ _ => rfl⟩

section
variable {k : Nat} {c d : Column} (h : Touches k c d)
include h

/-- What rests on neither cells nor spare bytes is as before. -/
theorem Touches.keeps {γ : Type} (p : Column → γ) (hp : ∀ c : Column, p (c.withCells [] []) = p c) : p d = p c := by rw [← hp, h.rest, hp]

theorem Touches.phys (ri : Nat) : d.phys ri = c.phys ri := h.keeps (fun c => c.phys ri) (fun _ => rfl)
theorem Touches.place (j : Nat) : d.place j = c.place j := h.keeps (fun c => c.place j) (fun _ => rfl)
theorem Touches.base (p : Nat) : d.base p = c.base p := h.keeps (fun c => c.base p) (fun _ => rfl)
theorem Touches.colMap (b s : Nat) : d.colMap b s = c.colMap b s := h.keeps (fun c => c.colMap b s) (fun _ => rfl)

/-- Another sector keeps its data and its poison. -/
theorem Touches.data {j : Nat} (hj : c.place k ≠ c.place j) :
    (d.sector j).data = (c.sector j).data ∧ (d.sector j).poison = (c.sector j).poison := by
  have hx : tget d.cells (d.base (d.phys (j / 16))) (d.place j) = tget c.cells (c.base (c.phys (j / 16))) (c.place j) := by
    rw [h.place, h.base, h.phys, h.cell _ _ hj]
  have hd := congrArg Sector.data hx
  have hp := congrArg Sector.poison hx
  exact ⟨hd, hp⟩

/-- A sector of another physical row is as before. -/
theorem Touches.sector {j : Nat} (hj : c.phys (k / 16) ≠ c.phys (j / 16)) : d.sector j = c.sector j := by
  have hp : c.place k ≠ 16 * c.phys (j / 16) + j % 16 := by unfold Column.place; omega
  unfold Column.sector Column.physSector
  rw [h.phys, h.base, h.colMap, h.cell _ _ hp, h.spare _ hj]

end

-- Disturbances --------------------------------------------------------------------------------------------------------

/-- A disturbance changes neither the data nor the poison of any sector. -/
theorem Column.upset_data (c : Column) (k n : Nat) (b : Byte) (j : Nat) :
    ((c.upset k n b).sector j).data = (c.sector j).data ∧ ((c.upset k n b).sector j).poison = (c.sector j).poison := by
  by_cases hj : c.place k = c.place j
  · have hkey : 16 * c.phys (k / 16) + k % 16 = 16 * c.phys (j / 16) + j % 16 := hj
    have hphys : c.phys (k / 16) = c.phys (j / 16) := by omega
    have hmod : k % 16 = j % 16 := by omega
    unfold Column.upset
    dsimp only
    split
    · exact ⟨rfl, rfl⟩
    · have hx := tget_tset c.cells (c.base (c.phys (k / 16))) (16 * c.phys (k / 16) + k % 16)
        { tget c.cells (c.base (c.phys (k / 16))) (16 * c.phys (k / 16) + k % 16) with
          err := (tget c.cells (c.base (c.phys (k / 16))) (16 * c.phys (k / 16) + k % 16)).err ^^^ BitVec.ofNat 576 (b.toNat * 2 ^ (8 * (n % 72))) }
      rw [hphys, hmod] at hx ⊢
      have hd := congrArg Sector.data hx
      have hp := congrArg Sector.poison hx
      exact ⟨hd, hp⟩
  · exact (c.upset_touches k n b).data hj

/-- What the errors that stay in a row leave of the column: all but its cells and spare bytes, the data and the poison of every sector, and the
sectors of other physical rows. -/
theorem stuck_keeps (c : Column) (ri : Nat) (errs : List SymErr) :
    (Stuck c ri errs).withCells [] [] = c.withCells [] [] ∧ (∀ j : Nat, ((Stuck c ri errs).sector j).data = (c.sector j).data ∧
      ((Stuck c ri errs).sector j).poison = (c.sector j).poison) ∧
    (∀ j : Nat, c.phys ri ≠ c.phys (j / 16) → (Stuck c ri errs).sector j = c.sector j) := by
  unfold Stuck
  induction errs.filter (fun q => q.persist) generalizing c with
  | nil => exact ⟨rfl, fun _ => ⟨rfl, rfl⟩, fun _ _ => rfl⟩
  | cons q r ih =>
    have ht := c.upset_touches (16 * ri + q.sector.val) q.sym.val q.flip
    have hri : (16 * ri + q.sector.val) / 16 = ri := by omega
    obtain ⟨hrest, hdata, hsec⟩ := ih (c.upset (16 * ri + q.sector.val) q.sym.val q.flip)
    rw [List.foldl_cons]
    refine ⟨hrest.trans ht.rest, fun j => ?_, fun j hj => ?_⟩
    · obtain ⟨hd, hp⟩ := hdata j
      obtain ⟨hd', hp'⟩ := c.upset_data (16 * ri + q.sector.val) q.sym.val q.flip j
      exact ⟨hd.trans hd', hp.trans hp'⟩
    · rw [hsec j (by rwa [ht.phys, ht.phys]), ht.sector (by rwa [hri])]

-- Writes in turn ------------------------------------------------------------------------------------------------------

/-- A write at another place keeps what a sector holds. -/
theorem Column.Holds.putSector_apart {c : Column} {j : Nat} {x : Sector} (h : c.Holds j x) (k : Nat) (v : BitVec 512) (p : Bool)
    (hne : c.place k ≠ c.place j) : (c.putSector k v p).Holds j x := by
  obtain ⟨hcell, hspare⟩ := h
  refine ⟨?_, fun m hm => ?_⟩
  · rw [← hcell]
    exact tget_tset_other _ _ _ hne
  · have h0 := hspare m hm
    by_cases hp : c.phys (k / 16) = c.phys (j / 16)
    · have hs : tget (c.putSector k v p).spareBytes 0 (c.phys (j / 16)) =
          (c.colMap (physBank (c.phys (k / 16))) (k % 16)).foldl (fun b m => setSpareByte b m.2 0) (tget c.spareBytes 0 (c.phys (k / 16))) := by
        rw [← hp]; exact tget_tset _ _ _ _
      show spareByte (tget (c.putSector k v p).spareBytes 0 (c.phys (j / 16))) m.2 = 0
      rw [hs]
      exact spareByte_foldl_zero _ (fun _ h => c.spare_lt_of_mem_colMap h) _ (c.spare_lt_of_mem_colMap hm) (.inr (hp ▸ h0))
    · show spareByte (tget (c.putSector k v p).spareBytes 0 (c.phys (j / 16))) m.2 = 0
      rw [(c.putSector_touches k v p).spare _ hp]
      exact h0

section
variable {ws : List SectorWrite} {j : Nat}

theorem Column.putAll_cons (c : Column) (w : SectorWrite) (ws : List SectorWrite) :
    c.putAll (w :: ws) = (c.putSector w.key w.data w.poison).putAll ws := rfl

theorem Column.Holds.putAll {c : Column} {x : Sector} (h : c.Holds j x) (hws : ∀ w ∈ ws, c.place w.key ≠ c.place j) : (c.putAll ws).Holds j x := by
  induction ws generalizing c with
  | nil => exact h
  | cons w r ih =>
    obtain ⟨hw, hr⟩ := List.forall_mem_cons.mp hws
    have ht := c.putSector_touches w.key w.data w.poison
    exact ih (h.putSector_apart _ _ _ hw) (fun q hq => by rw [ht.place, ht.place]; exact hr q hq)

/-- Writes to places of their own: each sector holds what was written. -/
theorem Column.holds_putAll {c : Column} (hws : ws.Pairwise (fun a b => c.place a.key ≠ c.place b.key)) {w : SectorWrite} (hw : w ∈ ws) :
    (c.putAll ws).Holds w.key { data := w.data, poison := w.poison, err := 0 } := by
  induction ws generalizing c with
  | nil => cases hw
  | cons q r ih =>
    obtain ⟨hq, hr⟩ := List.pairwise_cons.mp hws
    have ht := c.putSector_touches q.key q.data q.poison
    rw [Column.putAll_cons]
    obtain rfl | hw := List.mem_cons.mp hw
    · exact (c.holds_putSector _ _ _).putAll (fun a ha => by rw [ht.place, ht.place]; exact (hq a ha).symm)
    · exact ih (hr.imp (fun hab => by rw [ht.place, ht.place]; exact hab)) hw

/-- Writes at other places: a sector keeps its data and its poison. -/
theorem Column.data_putAll {c : Column} (hws : ∀ w ∈ ws, c.place w.key ≠ c.place j) :
    ((c.putAll ws).sector j).data = (c.sector j).data ∧ ((c.putAll ws).sector j).poison = (c.sector j).poison := by
  induction ws generalizing c with
  | nil => exact ⟨rfl, rfl⟩
  | cons w r ih =>
    obtain ⟨hw, hr⟩ := List.forall_mem_cons.mp hws
    have ht := c.putSector_touches w.key w.data w.poison
    obtain ⟨hd, hp⟩ := ih (c := c.putSector w.key w.data w.poison) (fun q hq => by rw [ht.place, ht.place]; exact hr q hq)
    exact ⟨hd.trans (ht.data hw).1, hp.trans (ht.data hw).2⟩

/-- Writes to other physical rows: a sector is as before. -/
theorem Column.sector_putAll {c : Column} (hws : ∀ w ∈ ws, c.phys (w.key / 16) ≠ c.phys (j / 16)) : (c.putAll ws).sector j = c.sector j := by
  induction ws generalizing c with
  | nil => rfl
  | cons w r ih =>
    obtain ⟨hw, hr⟩ := List.forall_mem_cons.mp hws
    have ht := c.putSector_touches w.key w.data w.poison
    exact (ih (c := c.putSector w.key w.data w.poison) (fun q hq => by rw [ht.phys, ht.phys]; exact hr q hq)).trans (ht.sector hw)

end

theorem Column.putAll_withCells (c : Column) (ws : List SectorWrite) : (c.putAll ws).withCells [] [] = c.withCells [] [] :=
  foldl_keeps (fun c : Column => c.withCells [] []) (fun (c : Column) (w : SectorWrite) => c.putSector w.key w.data w.poison) (fun _ _ => rfl) ws c

-- Reads ---------------------------------------------------------------------------------------------------------------

/-- A column without what a read notes at the channel root: counts, the read hint, the history of corrections, and what is due for it. -/
def Column.unnoted (c : Column) : Column :=
  { c with
    corrSectors := 0, uncorrSectors := 0, ownCorr := 0, ownUncorr := 0, hint := none, corr := [], colHits := [], colDue := [], colTold := []
    lanes := [], laneTests := [], exhausted := false }

theorem Column.noteSector_unnoted (c : Column) (ri s : Nat) (r : SecRead) : (c.noteSector ri s r).unnoted = c.unnoted := by
  unfold Column.noteSector
  split <;> rfl

theorem Column.markColDue_unnoted (c : Column) (e : Env) : (c.markColDue e).1.unnoted = c.unnoted := by
  unfold Column.markColDue
  dsimp only
  split <;> rfl

theorem Column.declareLane_unnoted (c : Column) (e : Env) : (c.declareLane e).1.unnoted = c.unnoted := by
  unfold Column.declareLane
  have keeps := @ite_keeps _ _ (fun p : Column × List (Nat × Nat × Nat × Bool) => p.1.unnoted)
  refine foldl_keeps (fun p : Column × List (Nat × Nat × Nat × Bool) => p.1.unnoted) _ (fun p bb => keeps rfl ?_) _ _
  split
  · rfl
  · exact keeps rfl (keeps rfl (keeps rfl rfl))

/-- A row read leaves the column as it was but for its notes, and counts one transfer. -/
theorem Fabric.noteRead_unnoted (f : Fabric) (e : Env) (x : SiteIx) (cls ri : Nat) (rs : List SecRead) :
    ((f.noteRead e x cls ri rs).col x).unnoted = { (f.col x).unnoted with xfers := (f.col x).xfers + 1 } := by
  rw [Fabric.noteRead_col, Column.declareLane_unnoted, Column.markColDue_unnoted]
  exact foldl_keeps Column.unnoted (fun (c : Column) (q : SecRead × Nat) => c.noteSector ri q.2 q.1) (fun c q => c.noteSector_unnoted ri q.2 q.1) _ _

end Sys2Proof.Machine
end

section
/-! PROOFS. The arbiter of a column and its refresh (R156 to R162, R182, R183; O35). -/

namespace Sys2Proof.Machine
open Sys2Proof

-- Requests arrive -----------------------------------------------------------------------------------------------------

/-- A column without the requests that wait at its arbiter. -/
def Column.idle (c : Column) : Column := { c with queue := [], waiting := [] }

theorem Column.enqueue_idle (c : Column) (r : RowReqRec) : (c.enqueue r).idle = c.idle := by
  unfold Column.enqueue
  split <;> rfl

theorem Column.refill_idle (c : Column) : c.refill.idle = c.idle := by
  unfold Column.refill
  split <;> rfl

theorem Column.admitReqs_idle (c : Column) (rs : List RowReq) : (c.admitReqs rs).idle = c.idle :=
  foldl_keeps Column.idle _ (fun c r => c.enqueue_idle (.of r)) _ c

theorem Column.admitReqs_phase (c : Column) (rs : List RowReq) : (c.admitReqs rs).phase = c.phase := by
  have h := congrArg Column.phase (c.admitReqs_idle rs)
  exact h

/-- The oldest request that waits for room enters, wherever the column stands otherwise. -/
theorem Column.refill_of_requests {c d : Column} (hq : d.queue = c.queue) (hw : d.waiting = c.waiting) :
    d.refill.queue = c.refill.queue ∧ d.refill.waiting = c.refill.waiting := by
  unfold Column.refill Column.hasRoom
  rw [hq, hw]
  split <;> simp [hq, hw]

theorem Column.length_enqueue (c : Column) (r : RowReqRec) :
    (c.enqueue r).queue.length + (c.enqueue r).waiting.length = c.queue.length + c.waiting.length + 1 := by
  unfold Column.enqueue
  split <;> simp only [List.length_append, List.length_cons, List.length_nil] <;> omega

theorem Column.length_refill (c : Column) :
    c.refill.queue.length + c.refill.waiting.length = c.queue.length + c.waiting.length := by
  unfold Column.refill
  split
  next r hr =>
    have hmem := List.mem_of_find?_eq_some hr
    have hpos := List.length_pos_of_mem hmem
    simp only [List.length_append, List.length_cons, List.length_nil, List.length_erase_of_mem hmem]
    omega
  · rfl

/-- A request more in the queue, of a class with room, leaves no class with more than its share. -/
theorem inClass_append_le {c : Column} {r : RowReqRec} (hroom : c.hasRoom r.cls = true) {k : Nat} (hk : InClass c.queue k ≤ classCap k) :
    InClass (c.queue ++ [r]) k ≤ classCap k := by
  unfold InClass at *
  unfold Column.hasRoom at hroom
  rw [decide_eq_true_eq] at hroom
  rw [List.filter_append, List.length_append]
  by_cases h : r.cls = k
  · subst h
    simp only [List.filter_cons, List.filter_nil, decide_true, if_true, List.length_cons, List.length_nil]
    omega
  · simpa [List.filter_cons, h] using hk

theorem Column.inClass_enqueue {c : Column} (r : RowReqRec) {k : Nat} (hk : InClass c.queue k ≤ classCap k) :
    InClass (c.enqueue r).queue k ≤ classCap k := by
  unfold Column.enqueue
  split
  next h => exact inClass_append_le (Bool.and_eq_true_iff.mp h).1 hk
  · exact hk

theorem Column.inClass_refill {c : Column} {k : Nat} (hk : InClass c.queue k ≤ classCap k) : InClass c.refill.queue k ≤ classCap k := by
  unfold Column.refill
  split
  next r hr => exact inClass_append_le (by simpa using List.find?_some hr) hk
  · exact hk

-- Grants --------------------------------------------------------------------------------------------------------------

/-- The oldest ready request of some kind is one of the queue, and ready. -/
theorem Column.ready_of_oldest {c : Column} {sel : RowReqRec → Bool} {i : Nat} (h : c.oldest sel = some i) :
    ∃ r, c.queue[i]? = some r ∧ c.ready i r = true := by
  obtain ⟨p, hp, rfl⟩ := Option.map_eq_some_iff.mp h
  have hsel := List.find?_some hp
  rw [Bool.and_eq_true] at hsel
  exact ⟨p.1, List.mem_zipIdx_iff_getElem?.mp (List.mem_of_find?_eq_some hp), hsel.2⟩

theorem Column.ready_of_oldestStep {c : Column} {p : Nat × Nat} (h : c.oldestStep = some p) :
    ∃ r, c.queue[p.1]? = some r ∧ c.ready p.1 r = true := by
  unfold Column.oldestStep at h
  split at h
  next i hi => cases h; exact Column.ready_of_oldest hi
  · obtain ⟨k, -, hk⟩ := List.exists_of_findSome?_eq_some h
    obtain ⟨i, hi, rfl⟩ := Option.map_eq_some_iff.mp hk
    exact Column.ready_of_oldest hi

/-- A request granted is ready, whatever its class (R160). -/
theorem ready_of_grant {c : Column} {g : Grant} (h : grant c = some g) : ∃ r, c.queue[g.place]? = some r ∧ c.ready g.place r = true := by
  unfold grant at h
  dsimp only at h
  split at h
  next i hi =>
    cases h
    split at hi
    · exact Column.ready_of_oldest hi
    · cases hi
  · split at h
    next r hr =>
      cases h
      obtain ⟨k, -, hk⟩ := List.exists_of_findSome?_eq_some hr
      split at hk
      · obtain ⟨p, hp, rfl⟩ := Option.map_eq_some_iff.mp hk
        exact Column.ready_of_oldestStep hp
      · obtain ⟨i, hi, rfl⟩ := Option.map_eq_some_iff.mp hk
        exact Column.ready_of_oldest hi
    · obtain ⟨i, hi, rfl⟩ := Option.map_eq_some_iff.mp h
      exact Column.ready_of_oldest hi

/-- No earlier request of the queue is to the row of a ready one, and its bank is free (R158, R161). -/
theorem Column.ready_iff (c : Column) (i : Nat) (r : RowReqRec) : c.ready i r = true ↔
    tget c.busy 0 (physBank (c.phys r.ri)) ≤ c.ps ∧ ∀ (j : Nat) (q : RowReqRec), j < i → c.queue[j]? = some q → q.ri ≠ r.ri := by
  unfold Column.ready
  rw [Bool.and_eq_true, decide_eq_true_eq, Bool.not_eq_true', List.any_eq_false]
  refine and_congr_right fun _ => ⟨fun h j q hj hq => ?_, fun h q hq => ?_⟩
  · have hmem : q ∈ c.queue.take i := List.mem_of_getElem? (i := j) (by rw [List.getElem?_take, if_pos hj, hq])
    simpa using h q hmem
  · obtain ⟨j, hj⟩ := List.mem_iff_getElem?.mp hq
    have hlt : j < i := by
      by_contra hge
      rw [List.getElem?_take, if_neg hge] at hj
      cases hj
    rw [List.getElem?_take, if_pos hlt] at hj
    simpa using h j q hlt hj

-- The slot ------------------------------------------------------------------------------------------------------------

/-- The column when request r is granted: the bank busy, the slot passed, the request gone, another in its stead where one waits, and the errors
that stay put into the row. -/
def Column.granted (c : Column) (flim : Nat) (g : Grant) (r : RowReqRec) (errs : List SymErr) : Column :=
  Stuck ({ (c.occupy r.ri).passSlot flim with
    queue := c.queue.eraseIdx g.place, rr := g.rr, stepRr := g.stepRr, lastDue := if r.cls = 0 then c.slots + 1 else c.lastDue } : Column).refill r.ri errs

section
variable (f : Fabric) (e : Env) (x : SiteIx) (arr : List RowReq) (errs : List SymErr)

theorem Fabric.rowTransfer_of_grant {g : Grant} {r : RowReqRec} (hp : (f.col x).phase = .ready) (hg : grant ((f.col x).admitReqs arr) = some g)
    (hr : ((f.col x).admitReqs arr).queue[g.place]? = some r) : f.rowTransfer e x arr errs =
      ((f.setCol x ((f.col x).admitReqs arr)).setCol x (((f.col x).admitReqs arr).granted (f.site x).flim g r errs)).perform e x r (Passing errs) := by
  have hph : ((f.col x).admitReqs arr).phase = .ready := ((f.col x).admitReqs_phase arr).trans hp
  unfold Fabric.rowTransfer
  dsimp only
  rw [if_neg (by simp [hph]), hg]
  dsimp only
  rw [hr]
  rfl

theorem Fabric.rowTransfer_of_not_ready (hp : (f.col x).phase ≠ .ready) : f.rowTransfer e x arr errs = f.setCol x ((f.col x).admitReqs arr) := by
  unfold Fabric.rowTransfer
  dsimp only
  rw [if_pos (by rwa [Column.admitReqs_phase])]

theorem Fabric.rowTransfer_of_no_grant (hp : (f.col x).phase = .ready) (hg : grant ((f.col x).admitReqs arr) = none) : f.rowTransfer e x arr errs =
    (f.setCol x ((f.col x).admitReqs arr)).setCol x (((f.col x).admitReqs arr).passSlot (f.site x).flim) := by
  have hph : ((f.col x).admitReqs arr).phase = .ready := ((f.col x).admitReqs_phase arr).trans hp
  unfold Fabric.rowTransfer
  dsimp only
  rw [if_neg (by simp [hph]), hg]
  rfl

end

-- What a granted request does ------------------------------------------------------------------------------------------

section
variable (c : Column) (flim : Nat) (g : Grant) (r : RowReqRec) (errs : List SymErr)

/-- The column as a request is granted, before the next one enters and the errors come. -/
def Column.taken : Column := { (c.occupy r.ri).passSlot flim with
  queue := c.queue.eraseIdx g.place, rr := g.rr, stepRr := g.stepRr, lastDue := if r.cls = 0 then c.slots + 1 else c.lastDue }

theorem Column.granted_eq : c.granted flim g r errs = Stuck (c.taken flim g r).refill r.ri errs := rfl

/-- What rests neither on cells and spare bytes nor on the requests is as when the request was taken. -/
theorem Column.granted_keeps {γ : Type} (p : Column → γ) (hc : ∀ c : Column, p (c.withCells [] []) = p c) (hi : ∀ c : Column, p c.idle = p c) :
    p (c.granted flim g r errs) = p (c.taken flim g r) := by
  rw [Column.granted_eq, ← hc, (stuck_keeps _ _ _).1, hc, ← hi, Column.refill_idle, hi]

theorem Column.granted_requests : let left := ({ c with queue := c.queue.eraseIdx g.place } : Column).refill
    (c.granted flim g r errs).queue = left.queue ∧ (c.granted flim g r errs).waiting = left.waiting := by
  obtain ⟨hq, hw⟩ := Column.refill_of_requests (c := { c with queue := c.queue.eraseIdx g.place }) (d := c.taken flim g r) rfl rfl
  have hs := (stuck_keeps (c.taken flim g r).refill r.ri errs).1
  have hsq := congrArg Column.queue hs
  have hsw := congrArg Column.waiting hs
  exact ⟨Eq.trans hsq hq, Eq.trans hsw hw⟩

/-- The bank of the row is busy for 40 ns at least (R158). -/
theorem Column.taken_busy : c.ps + 40000 ≤ tget (c.taken flim g r).busy 0 (physBank (c.phys r.ri)) := by
  have hb : tget (c.taken flim g r).busy 0 (physBank (c.phys r.ri)) = c.ps + (if (match c.layers.toList[physBank (c.phys r.ri) / 16]? with
      | some l => decide (680 < l.temp)
      | none => false) = true then 44000 else 40000) := tget_tset ..
  have hle : ∀ hot : Bool, 40000 ≤ if hot = true then 44000 else 40000 := by decide
  rw [hb]
  exact Nat.add_le_add_left (hle _) _

theorem Column.taken_rowRep : (c.taken flim g r).rowRep = c.rowRep := by
  unfold Column.taken Column.passSlot Column.occupy
  rfl

/-- The sectors are those of the column with the errors that stay. -/
theorem Column.granted_store : (c.granted flim g r errs).store = (Stuck c r.ri errs).store := by
  have hidle : ∀ d : Column, d.idle.store = d.store := fun _ => rfl
  have htaken : (c.taken flim g r).store = c.store := by
    unfold Column.taken Column.passSlot Column.occupy
    rfl
  have h : (c.taken flim g r).refill.store = c.store := by rw [← hidle, Column.refill_idle, hidle, htaken]
  exact stuck_store h r.ri errs

end

section
variable (r : RowReqRec)

/-- A write request writes the sectors of its mask, one after another. -/
theorem RowReqRec.writes_keys : r.writes.map (·.key) = ((List.range 16).filter (bit r.mask)).map (fun s => 16 * r.ri + s) := by
  have h : ((List.range 16).filter (bit r.mask)).zipIdx.map Prod.fst = (List.range 16).filter (bit r.mask) := List.zipIdx_map_fst ..
  conv_rhs => rw [← h]
  rw [RowReqRec.writes, List.map_map, List.map_map]
  rfl

theorem RowReqRec.key_of_mem_writes {w : SectorWrite} (hw : w ∈ r.writes) : ∃ s, s < 16 ∧ bit r.mask s = true ∧ w.key = 16 * r.ri + s := by
  have hk : w.key ∈ ((List.range 16).filter (bit r.mask)).map (fun s => 16 * r.ri + s) := r.writes_keys ▸ List.mem_map_of_mem hw
  obtain ⟨s, hs, hkey⟩ := List.mem_map.mp hk
  obtain ⟨hlt, hbit⟩ := List.mem_filter.mp hs
  exact ⟨s, List.mem_range.mp hlt, hbit, hkey.symm⟩

theorem RowReqRec.writes_apart (c : Column) : r.writes.Pairwise (fun a b => c.place a.key ≠ c.place b.key) := by
  have hkeys : (r.writes.map (·.key)).Pairwise (fun a b => c.place a ≠ c.place b) := by
    rw [r.writes_keys, List.pairwise_map]
    have hnd : ((List.range 16).filter (bit r.mask)).Nodup := List.nodup_range.filter _
    refine hnd.imp_of_mem fun {a b} ha hb hab => ?_
    have ha := List.mem_range.mp (List.mem_filter.mp ha).1
    have hb := List.mem_range.mp (List.mem_filter.mp hb).1
    unfold Column.place
    have h1 : (16 * r.ri + a) / 16 = r.ri := by omega
    have h2 : (16 * r.ri + b) / 16 = r.ri := by omega
    rw [h1, h2]
    omega
  exact (List.pairwise_map (f := fun w : SectorWrite => w.key) (R := fun a b => c.place a ≠ c.place b)).mp hkeys

theorem RowReqRec.mem_writes {s : Nat} (hs : s < 16) (hb : bit r.mask s = true) :
    ({ key := 16 * r.ri + s, poison := r.poison, data := r.data.getD (((List.range 16).filter (bit r.mask)).idxOf s) 0 } : SectorWrite) ∈ r.writes := by
  have hmem : s ∈ (List.range 16).filter (bit r.mask) := List.mem_filter.mpr ⟨List.mem_range.mpr hs, hb⟩
  exact List.mem_map.mpr ⟨(s, _), List.mem_zipIdx_iff_getElem?.mpr (List.getElem?_idxOf hmem), rfl⟩

end

/-- A column after a write request: its sectors, and all else but the transfers counted as before. -/
theorem Fabric.col_perform_write (f : Fabric) (e : Env) (x : SiteIx) {r : RowReqRec} (errs : List SymErr) (hw : r.write = true) :
    ∃ n, (f.perform e x r errs).col x = { (f.col x).putAll r.writes with xfers := n } := by
  unfold Fabric.perform
  rw [if_pos hw]
  by_cases h : r.writes = []
  · rw [h]
    exact ⟨(f.col x).xfers, rfl⟩
  · exact f.col_xferWrite x h

theorem Fabric.col_perform_read (f : Fabric) (e : Env) (x : SiteIx) {r : RowReqRec} (errs : List SymErr) (hw : r.write = false) :
    ((f.perform e x r errs).col x).unnoted = { (f.col x).unnoted with xfers := (f.col x).xfers + 1 } := by
  unfold Fabric.perform
  rw [if_neg (by simp [hw])]
  exact f.noteRead_unnoted ..

/-- A request performed leaves queue, slots and turns, and the times of the banks, as they were. -/
theorem Fabric.col_perform_keeps {γ : Type} (p : Column → γ) (hc : ∀ c : Column, p (c.withCells [] []) = p c) (hn : ∀ c : Column, p c.unnoted = p c)
    (hx : ∀ (c : Column) n, p { c with xfers := n } = p c) (f : Fabric) (e : Env) (x : SiteIx) (r : RowReqRec) (errs : List SymErr) :
    p ((f.perform e x r errs).col x) = p (f.col x) := by
  cases hw : r.write with
  | true =>
    obtain ⟨n, h⟩ := f.col_perform_write e x errs hw
    rw [h, hx, ← hc, Column.putAll_withCells, hc]
  | false => rw [← hn, f.col_perform_read e x errs hw, hx, hn]

/-- A slot that copies a row changes nothing but the progress of a migration. -/
theorem Dev.copyRow_mig (d : Dev) (e : Env) (x : SiteIx) : { d.copyRow e x with lkk := { (d.copyRow e x).lkk with mig := d.lkk.mig } } = d := by
  have keeps := @ite_keeps Dev Dev (fun a => { a with lkk := { a.lkk with mig := d.lkk.mig } }) d
  exact keeps (keeps rfl rfl) rfl

-- ROW_TRANSFER --------------------------------------------------------------------------------------------------------

theorem rowTransfer_exec (s : State) (x : SiteIx) (arr : List RowReq) (errs : List SymErr) : ∃ u, exec (.rowTransfer x arr errs) s = .next u ∧
    u.d.fab = s.d.bump.fab.rowTransfer s.env x arr errs ∧ u.d = { s.d with fab := u.d.fab, lkk := { s.d.lkk with mig := u.d.lkk.mig } } := by
  have hm := (s.d.bump.onFab (fun f => f.rowTransfer s.env x arr errs)).copyRow_mig s.env x
  have hfab := congrArg Dev.fab hm
  refine ⟨_, rfl, hfab, ?_⟩
  exact congrArg (fun a : Dev => { a with
    fab := ((s.d.bump.onFab (fun f => f.rowTransfer s.env x arr errs)).copyRow s.env x).fab
    lkk := { a.lkk with mig := ((s.d.bump.onFab (fun f => f.rowTransfer s.env x arr errs)).copyRow s.env x).lkk.mig } }) hm

section
variable (c : Column) (flim : Nat) (g : Grant) (r : RowReqRec) (errs : List SymErr)

/-- The sectors after a granted write: those of its mask hold its data, no other holds other data, and other rows are as they were. -/
theorem Column.sector_granted_write (n k : Nat) : let d : Column := { (c.granted flim g r errs).putAll r.writes with xfers := n }
    (k / 16 = r.ri → bit r.mask (k % 16) = true → d.sector k =
      { data := r.data.getD (((List.range 16).filter (bit r.mask)).idxOf (k % 16)) 0, poison := r.poison, err := 0 }) ∧
    (k / 16 = r.ri → bit r.mask (k % 16) = false → (d.sector k).data = (c.sector k).data ∧ (d.sector k).poison = (c.sector k).poison) ∧
    (c.phys (k / 16) ≠ c.phys r.ri → d.sector k = c.sector k) := by
  obtain ⟨hrest, hdata, hsec⟩ := stuck_keeps c r.ri errs
  have hstore := c.granted_store flim g r errs
  have hphys (ri : Nat) : (c.granted flim g r errs).phys ri = c.phys ri := by
    rw [Column.phys_of_store hstore]
    have h := congrArg (fun c : Column => c.phys ri) hrest
    exact h
  have hmod : k % 16 < 16 := Nat.mod_lt _ (by decide)
  refine ⟨fun hk hb => ?_, fun hk hb => ?_, fun hk => ?_⟩
  · have hkey : 16 * r.ri + k % 16 = k := by omega
    have hmem := r.mem_writes hmod hb
    have hholds := Column.holds_putAll (r.writes_apart (c.granted flim g r errs)) hmem
    rw [hkey] at hholds
    exact Column.sector_of_holds (c := { (c.granted flim g r errs).putAll r.writes with xfers := n }) hholds rfl
  · have hother : ∀ w ∈ r.writes, (c.granted flim g r errs).place w.key ≠ (c.granted flim g r errs).place k := by
      intro w hw
      obtain ⟨s, hs, hbit, hkey⟩ := r.key_of_mem_writes hw
      have hrow : w.key / 16 = r.ri := by omega
      have hne : w.key % 16 ≠ k % 16 := fun h => by
        have hsk : s = k % 16 := by omega
        rw [hsk, hb] at hbit
        cases hbit
      unfold Column.place
      rw [hrow, hk]
      omega
    obtain ⟨hd, hp⟩ := Column.data_putAll (j := k) hother
    rw [Column.sector_of_store hstore] at hd hp
    exact ⟨hd.trans (hdata k).1, hp.trans (hdata k).2⟩
  · have hother : ∀ w ∈ r.writes, (c.granted flim g r errs).phys (w.key / 16) ≠ (c.granted flim g r errs).phys (k / 16) := by
      intro w hw
      obtain ⟨s, hs, -, hkey⟩ := r.key_of_mem_writes hw
      have hrow : w.key / 16 = r.ri := by omega
      rw [hphys, hphys, hrow]
      exact hk.symm
    exact (Column.sector_putAll hother).trans ((Column.sector_of_store hstore k).trans (hsec k hk.symm))

end

/-- What a granted request makes of the column (R156 to R162). -/
theorem Fabric.col_granted (f : Fabric) (e : Env) (x : SiteIx) {c : Column} (flim : Nat) (g : Grant) (r : RowReqRec) (errs : List SymErr) :
    let v := ((f.setCol x (c.granted flim g r errs)).perform e x r (Passing errs)).col x
    let left := ({ c with queue := c.queue.eraseIdx g.place } : Column).refill
    v.queue = left.queue ∧ v.waiting = left.waiting ∧ v.slots = c.slots + 1 ∧ v.rr = g.rr ∧ v.stepRr = g.stepRr ∧
    c.ps + 40000 ≤ tget v.busy 0 (physBank (c.phys r.ri)) := by
  intro v left
  have keeps {γ : Type} (p : Column → γ) (hc : ∀ c : Column, p (c.withCells [] []) = p c) (hn : ∀ c : Column, p c.unnoted = p c)
      (hx : ∀ (c : Column) n, p { c with xfers := n } = p c) : p v = p (c.granted flim g r errs) := by
    have h := Fabric.col_perform_keeps p hc hn hx (f.setCol x (c.granted flim g r errs)) e x r (Passing errs)
    rwa [Fabric.col_setCol] at h
  have taken {γ : Type} (p : Column → γ) (hc : ∀ c : Column, p (c.withCells [] []) = p c) (hi : ∀ c : Column, p c.idle = p c) :=
    c.granted_keeps flim g r errs p hc hi
  obtain ⟨hq, hw⟩ := c.granted_requests flim g r errs
  refine ⟨(keeps Column.queue (fun _ => rfl) (fun _ => rfl) (fun _ _ => rfl)).trans hq,
    (keeps Column.waiting (fun _ => rfl) (fun _ => rfl) (fun _ _ => rfl)).trans hw,
    (keeps Column.slots (fun _ => rfl) (fun _ => rfl) (fun _ _ => rfl)).trans (taken Column.slots (fun _ => rfl) (fun _ => rfl)),
    (keeps Column.rr (fun _ => rfl) (fun _ => rfl) (fun _ _ => rfl)).trans (taken Column.rr (fun _ => rfl) (fun _ => rfl)),
    (keeps Column.stepRr (fun _ => rfl) (fun _ => rfl) (fun _ _ => rfl)).trans (taken Column.stepRr (fun _ => rfl) (fun _ => rfl)), ?_⟩
  rw [keeps Column.busy (fun _ => rfl) (fun _ => rfl) (fun _ _ => rfl), taken Column.busy (fun _ => rfl) (fun _ => rfl)]
  exact c.taken_busy flim g r

/-- A granted read changes no cell but by the errors that stay, and counts one transfer. -/
theorem Fabric.col_granted_read (f : Fabric) (e : Env) (x : SiteIx) {c : Column} (flim : Nat) (g : Grant) {r : RowReqRec} (errs : List SymErr)
    (hw : r.write = false) : let v := ((f.setCol x (c.granted flim g r errs)).perform e x r (Passing errs)).col x
    v.cells = (Stuck c r.ri errs).cells ∧ v.xfers = c.xfers + 1 := by
  intro v
  have hv := (f.setCol x (c.granted flim g r errs)).col_perform_read e x (Passing errs) hw
  rw [Fabric.col_setCol] at hv
  have hcells := congrArg Column.cells hv
  have hxfers := congrArg Column.xfers hv
  have hstore := congrArg Prod.fst (c.granted_store flim g r errs)
  have htaken : (c.granted flim g r errs).xfers = (c.taken flim g r).xfers := c.granted_keeps flim g r errs Column.xfers (fun _ => rfl) (fun _ => rfl)
  exact ⟨Eq.trans hcells hstore, Eq.trans hxfers (congrArg (· + 1) htaken)⟩

theorem Column.ready_place_of_grant {c : Column} {g : Grant} {r : RowReqRec} (hg : grant c = some g) (hr : c.queue[g.place]? = some r) :
    c.ready g.place r = true := by
  obtain ⟨q, hq, hready⟩ := ready_of_grant hg
  rw [hr] at hq
  cases hq
  exact hready

-- Refresh and temperatures --------------------------------------------------------------------------------------------

section
variable (f : Fabric) (e : Env) (x : SiteIx)

/-- A burst of an array that is up: the next burst of the bank, and its busy time (R182). -/
theorem Fabric.refreshBurst_of_up (b : Fin 128) (hp : (f.col x).phase ≠ .down) : ∃ n m : Nat,
    f.refreshBurst x b = f.setCol x { f.col x with burst := tset (f.col x).burst 0 b.val n, busy := tset (f.col x).busy 0 b.val m } ∧
    n = (tget (f.col x).burst 0 b.val + 1) % 388 ∧ m = Nat.max (tget (f.col x).busy 0 b.val) (f.col x).ps + 200000 :=
  ⟨_, _, if_neg hp, rfl, rfl⟩

/-- A message is taken: each layer that it names holds its temperature, and above 85.0 °C the fast interval (R183). -/
theorem Fabric.controlTemp_of_message (hne : tget f.tempMsgs [] x.val ≠ []) : ∃ upd : Fin 8 → LayerSt,
    f.controlTemp e x = { f.setCol x { f.col x with layers := Vector.ofFn upd } with tempMsgs := tset f.tempMsgs [] x.val [] } ∧
    ∀ (i : Fin 8) (t : Int), (tget f.tempMsgs [] x.val)[i.val]? = some t → (upd i).temp = t ∧ (upd i).stale = false ∧
      (upd i).fast = (((f.col x).layers[i]).fast || decide (680 < t)) := by
  unfold Fabric.controlTemp
  split
  next h => exact absurd h hne
  · refine ⟨_, rfl, fun i t ht => ?_⟩
    dsimp only
    rw [ht]
    exact ⟨rfl, rfl, rfl⟩

theorem Fabric.col_setCol_tempMsgs (c : Column) (m : Tab (List Int)) : ({ f.setCol x c with tempMsgs := m } : Fabric).col x = c := f.col_setCol x c

variable {f x}

theorem Fabric.refreshRelax_of_cool {i : Fin 8} {n : Nat} (hn : ((f.col x).layers[i]).coolSince = some n)
    (hnow : n + 1000000 ≤ blockTicks e.time (.channelRoot x)) :
    f.refreshRelax e x i = f.setCol x ((f.col x).modLayer i (fun l => { l with fast := false })) := by
  unfold Fabric.refreshRelax
  dsimp only
  rw [hn]
  exact if_pos (decide_eq_true hnow)

theorem Fabric.refreshRelax_of_not_cool {i : Fin 8}
    (h : ¬ ∃ n, ((f.col x).layers[i]).coolSince = some n ∧ n + 1000000 ≤ blockTicks e.time (.channelRoot x)) : f.refreshRelax e x i = f := by
  unfold Fabric.refreshRelax
  dsimp only
  split
  next n hn => exact if_neg (fun hnow => h ⟨n, hn, of_decide_eq_true hnow⟩)
  · rfl

theorem Column.modLayer_self (c : Column) (i : Fin 8) (g : LayerSt → LayerSt) : (c.modLayer i g).layers[i] = g c.layers[i] := by
  simp [Column.modLayer]

theorem Column.modLayer_ne (c : Column) {i j : Fin 8} (g : LayerSt → LayerSt) (h : j ≠ i) : (c.modLayer i g).layers[j] = c.layers[j] := by
  have hv : i.val ≠ j.val := fun hv => h (Fin.ext hv.symm)
  simp [Column.modLayer, hv]

end

/-- A command that writes one column changes nothing else. -/
theorem onlyColumn_withFab {s : State} {x : SiteIx} {g : Fabric} (h : Transfers x s.d.bump.fab g) : OnlyColumn s (s.withFab g) x :=
  ⟨onlyFabric_withFab s g, fun y hy => ⟨h.work.siteOff y hy, h.work.colOff y hy⟩, h.work.siteAt, h.rest⟩

theorem onlyColumn_setCol (s : State) (x : SiteIx) {c : Column} (h : c.rowRep = (s.d.fab.col x).rowRep) :
    OnlyColumn s (s.withFab (s.d.bump.fab.setCol x c)) x := onlyColumn_withFab ⟨ColumnWork.setCol s.d.bump.fab h, rfl⟩

theorem Fabric.granted_work (f : Fabric) (e : Env) (x : SiteIx) {c : Column} (hc : c.idle = (f.col x).idle) (flim : Nat) (g : Grant) (r : RowReqRec)
    (errs : List SymErr) : ColumnWork x f (((f.setCol x c).setCol x (c.granted flim g r errs)).perform e x r (Passing errs)) := by
  have hrep := congrArg Column.rowRep hc
  have hgranted : (c.granted flim g r errs).rowRep = (c.taken flim g r).rowRep :=
    c.granted_keeps flim g r errs Column.rowRep (fun _ => rfl) (fun _ => rfl)
  have harrived : ColumnWork x f (f.setCol x c) := .setCol f hrep
  have htaken : ColumnWork x (f.setCol x c) ((f.setCol x c).setCol x (c.granted flim g r errs)) :=
    .setCol _ (by rw [Fabric.col_setCol, hgranted, Column.taken_rowRep])
  exact (harrived.trans htaken).trans (Fabric.perform_work ..)

theorem yields_rowTransfer_granted (s : State) (x : SiteIx) (arr : List RowReq) (errs : List SymErr) {c : Column}
    (hc : (s.d.fab.col x).admitReqs arr = c) {g : Grant} {r : RowReqRec} (hp : (s.d.fab.col x).phase = .ready) (hg : grant c = some g)
    (hr : c.queue[g.place]? = some r) : Yields (.rowTransfer x arr errs) s (fun u =>
      u.d.fab = ((s.d.bump.fab.setCol x c).setCol x (c.granted (s.d.fab.site x).flim g r errs)).perform s.env x r (Passing errs) ∧
      ColumnWork x s.d.bump.fab u.d.fab ∧ u.d = { s.d with fab := u.d.fab, lkk := { s.d.lkk with mig := u.d.lkk.mig } }) := by
  subst hc
  obtain ⟨u, hu, hf, hd⟩ := rowTransfer_exec s x arr errs
  have hf := hf.trans (s.d.bump.fab.rowTransfer_of_grant s.env x arr errs hp hg hr)
  exact ⟨u, hu, hf, hf ▸ Fabric.granted_work s.d.bump.fab s.env x ((s.d.fab.col x).admitReqs_idle arr) _ g r errs, hd⟩

/-- Layer i of the column of site x changes by g, and nothing else. -/
theorem modLayer_changes (s : State) (x : SiteIx) (i : Fin 8) (g : LayerSt → LayerSt) :
    let u := s.withFab (s.d.bump.fab.setCol x ((s.d.fab.col x).modLayer i g))
    (u.d.fab.col x).layers[i] = g (s.d.fab.col x).layers[i] ∧ (∀ j : Fin 8, j ≠ i → (u.d.fab.col x).layers[j] = (s.d.fab.col x).layers[j]) ∧
    (u.d.fab.col x).cells = (s.d.fab.col x).cells ∧ OnlyColumn s u x := by
  refine ⟨?_, fun j hj => ?_, ?_, onlyColumn_setCol s x rfl⟩
  all_goals rw [State.withFab_fab, Fabric.col_setCol]
  · exact Column.modLayer_self ..
  · exact Column.modLayer_ne _ _ hj
  · rfl

/-- Settles O35: arrivals and room by `enqueue` and `refill`, a grant by `ready_of_grant` and what its request does, refresh and temperatures by the
layer that each command changes. -/
theorem channelTransfersAndRefresh : Obligations.ChannelTransfersAndRefresh := by
  refine ⟨fun s x arr errs => ⟨fun g r hp hg hr => ?_, fun h => ?_⟩, fun c r => ?_, fun s x b => ?_, fun s x => ?_, fun s x i => ?_, fun s x i => ?_⟩
  · obtain ⟨hbusy, hrows⟩ := (Column.ready_iff ..).mp (Column.ready_place_of_grant hg hr)
    obtain ⟨u, hu, hf, hw, hd⟩ := yields_rowTransfer_granted s x arr errs rfl hp hg hr
    refine ⟨hrows, hbusy, u, hu, ?_⟩
    obtain ⟨hqueue, hwaiting, hslots, hrr, hstep, hb⟩ := Fabric.col_granted (s.d.bump.fab.setCol x ((s.d.fab.col x).admitReqs arr)) s.env x
      (s.d.fab.site x).flim g r errs
    rw [← hf] at hqueue hwaiting hslots hrr hstep hb
    refine ⟨hqueue, hwaiting, hslots, hrr, hstep, hb, fun hrd => ?_, fun hwr k => ?_, fun y hy => ⟨hw.siteOff y hy, hw.colOff y hy⟩, hw.siteAt, hd⟩
    · rw [hf]
      exact Fabric.col_granted_read _ s.env x _ g errs hrd
    · obtain ⟨n, hn⟩ := Fabric.col_perform_write ((s.d.bump.fab.setCol x ((s.d.fab.col x).admitReqs arr)).setCol x
        (((s.d.fab.col x).admitReqs arr).granted (s.d.fab.site x).flim g r errs)) s.env x (Passing errs) hwr
      rw [Fabric.col_setCol, ← hf] at hn
      rw [hn]
      exact Column.sector_granted_write _ _ g r errs n k
  · obtain ⟨u, hu, hf, -⟩ := rowTransfer_exec s x arr errs
    refine ⟨u, hu, ?_⟩
    beta_reduce
    by_cases hp : (s.d.fab.col x).phase = .ready
    · have hg := h.resolve_left (not_not_intro hp)
      have hf := hf.trans (s.d.bump.fab.rowTransfer_of_no_grant s.env x arr errs hp hg)
      rw [hf]
      refine ⟨fun hn => absurd hp hn, fun _ => Fabric.col_setCol .., fun y hy => ?_, rfl⟩
      rw [Fabric.col_setCol_ne _ _ hy, Fabric.col_setCol_ne _ _ hy]
      rfl
    · have hf := hf.trans (s.d.bump.fab.rowTransfer_of_not_ready s.env x arr errs hp)
      rw [hf]
      exact ⟨fun _ => Fabric.col_setCol .., fun hr => absurd hr hp, fun y hy => Fabric.col_setCol_ne _ _ hy, rfl⟩
  · exact ⟨c.length_enqueue r, c.length_refill, fun k hk => ⟨c.inClass_enqueue r hk, Column.inClass_refill hk⟩⟩
  · by_cases hp : (s.d.fab.col x).phase = .down
    · have hf : s.d.bump.fab.refreshBurst x b = s.d.bump.fab := if_pos hp
      refine yields_onFab rfl hf ⟨fun _ => rfl, fun hn => absurd hp hn, onlyColumn_withFab (.refl x _)⟩
    · obtain ⟨n, m, hf, hn, hm⟩ := s.d.bump.fab.refreshBurst_of_up x b hp
      refine yields_onFab rfl hf ⟨fun hd => absurd hd hp, fun _ => ?_, onlyColumn_setCol s x rfl⟩
      rw [State.withFab_fab, Fabric.col_setCol]
      exact ⟨(tget_tset ..).trans hn, fun k hk => tget_tset_ne _ 0 _ (Ne.symm hk), (tget_tset ..).trans hm, fun k hk => tget_tset_ne _ 0 _ (Ne.symm hk), rfl⟩
  · by_cases hm : tget s.d.fab.tempMsgs [] x.val = []
    · have hf : s.d.bump.fab.controlTemp s.env x = s.d.bump.fab := by
        unfold Fabric.controlTemp
        rw [show tget s.d.bump.fab.tempMsgs [] x.val = [] from hm]
      refine yields_onFab rfl hf ⟨fun _ => rfl, fun i t ht => ?_, rfl, fun _ _ => rfl, rfl, onlyFabric_withFab ..⟩
      rw [hm] at ht
      cases ht
    · obtain ⟨upd, hf, hupd⟩ := s.d.bump.fab.controlTemp_of_message s.env x hm
      refine yields_onFab rfl hf ⟨fun h => absurd h hm, fun i t ht => ?_, ?_, fun y hy => Fabric.col_setCol_ne _ _ hy, rfl, onlyFabric_withFab ..⟩
      all_goals rw [State.withFab_fab, Fabric.col_setCol_tempMsgs]
      · obtain ⟨htemp, hstale, hfast⟩ := hupd i t ht
        have hlayer : (Vector.ofFn upd)[i] = upd i := by simp
        rw [hlayer]
        exact ⟨htemp, hstale, hfast, tget_tset s.d.fab.tempMsgs [] x.val []⟩
      · rfl
  · by_cases hc : ∃ n, ((s.d.fab.col x).layers[i]).coolSince = some n ∧ n + 1000000 ≤ blockTicks s.time (.channelRoot x)
    · obtain ⟨n, hn, hnow⟩ := hc
      obtain ⟨hself, hother, hcells, honly⟩ := modLayer_changes s x i (fun l => { l with fast := false })
      refine yields_onFab rfl (s.d.bump.fab.refreshRelax_of_cool s.env hn hnow) ⟨fun _ _ _ => hself, fun h => ?_, hother, hcells, honly⟩
      exact absurd (h n hn) (Nat.not_lt.mpr hnow)
    · refine yields_onFab rfl (s.d.bump.fab.refreshRelax_of_not_cool s.env hc)
        ⟨fun n hn hnow => absurd ⟨n, hn, hnow⟩ hc, fun _ => rfl, fun _ _ => rfl, rfl, onlyColumn_withFab (.refl x _)⟩
  · by_cases hc : ((s.d.fab.col x).layers[i]).updated + 1000000 ≤ blockTicks s.time (.channelRoot x)
    · obtain ⟨hself, hother, hcells, honly⟩ := modLayer_changes s x i (fun l => { l with stale := true })
      exact yields_onFab rfl (if_pos (decide_eq_true hc)) ⟨fun _ => hself, fun h => absurd h (Nat.not_lt.mpr hc), hother, hcells, honly⟩
    · exact yields_onFab rfl (if_neg (by rw [elapsed, decide_eq_true_eq]; exact hc))
        ⟨fun h => absurd h hc, fun _ => rfl, fun _ _ => rfl, rfl, onlyColumn_withFab (.refl x _)⟩

end Sys2Proof.Machine
end

section
/-! PROOFS. A row table in which one entry stands twice (R190, R193), which refutes O36. -/

namespace Sys2Proof.Machine
open Sys2Proof

/-- A column that takes requests. Its row table lists entry 0 of bank 0 twice: what a read of the entry gives is not VALID, and behind it stands one
that is, by which spare 0 holds row 1, with ones in its first sector. -/
def doubledColumn : Column :=
  { Column.init with
    phase := .ready, rowRep := [(0, 0), (0, BitVec.ofNat 32 (1 + 2 ^ 30 + 2 ^ 31))]
    cells := [(16 * spareAt 0 0, { data := 0, poison := false, err := 0 })] }

/-- The reset state with this column at site 0. -/
def doubledEntry : State := { State.reset with d := { State.reset.d with fab := State.reset.d.fab.setCol 0 doubledColumn } }

theorem doubledEntry_free : (doubledEntry.d.fab.col 0).freeRowSpare 0 0 = some (0, 0) := by decide

/-- The table is not in canonical form, which the statement does not ask for. -/
theorem doubledEntry_not_twf : twf (doubledEntry.d.fab.col 0).rowRep 0 = false := by decide

theorem doubledEntry_before : ((doubledEntry.d.fab.col 0).sector (16 * 128)).poison = false := by decide

/-- The repair of row 0 has stored its poison records where row 1 is held. -/
theorem doubledEntry_after : (((doubledEntry.onFab (fun e f => f.rowRepair e 0 0 0)).d.fab.col 0).sector (16 * 128)).poison = true := by decide +kernel

/-- Refutes O36: of a row table that lists an entry twice the repair sees the first alone, and takes the spare row that the second has in use for
another row, which loses its contents. -/
theorem not_dredgerAndRepairs : ¬ Obligations.DredgerAndRepairs := by
  unfold Obligations.DredgerAndRepairs
  rintro ⟨-, hrepair, -⟩
  obtain ⟨u, hu, -, hspare, -⟩ := hrepair doubledEntry 0 0 0 rfl
  obtain ⟨-, -, -, hkeep, -⟩ := hspare 0 0 doubledEntry_free
  have hsame := hkeep (16 * 128) (by decide) (by decide)
  have hnext : doubledEntry.onFab (fun e f => f.rowRepair e 0 0 0) = u := Host.Outcome.next.inj hu
  have hafter := doubledEntry_after
  rw [hnext, hsame, doubledEntry_before] at hafter
  cases hafter

end Sys2Proof.Machine
end

section
/-! PROOFS. What the work of the host interface and of the token service leaves alone: rings, records, tags, requests and launches change, and the
rest of the device stays (R219, R239, R251, R267, R292). -/

namespace Sys2Proof.Machine
open Sys2Proof

/-- The device but for the host interface's rings and tags, the token service, the packets of control on their way, and what is sent. -/
def Dev.shell (d : Dev) : Dev :=
  { d with host := { HostSt.init with linkUp := d.host.linkUp }, svc := Svc.init, out := [], fab := { d.fab with ctl := [] } }

/-- What holds of each step holds after all of them, for a list that may depend on the device. -/
theorem Dev.shell_foldl {β : Type} {g : Dev → β → Dev} (h : ∀ d b, (g d b).shell = d.shell) (l : List β) (d : Dev) :
    (l.foldl g d).shell = d.shell := foldl_keeps Dev.shell g h l d

-- Reads and writes of the host ----------------------------------------------------------------------------------------

theorem Dev.wantPage_shell (d : Dev) (e : Env) (f : FuncId) (page : Nat) (w : Bool) : (d.wantPage e f page w).shell = d.shell := by
  unfold Dev.wantPage
  refine ite_keeps Dev.shell rfl ?_
  split <;> rfl

theorem Dev.issueRead_shell {d v : Dev} {e : Env} {f : FuncId} {u : ReadUse} {a n : Nat} (h : d.issueRead e f u a n = some v) :
    v.shell = d.shell := by
  unfold Dev.issueRead at h
  split at h
  · cases h
  · split at h
    · cases h; rfl
    · cases h

theorem Dev.startRead_shell (d : Dev) (e : Env) (f : FuncId) (u : ReadUse) (a n : Nat) : (d.startRead e f u a n).1.shell = d.shell := by
  unfold Dev.startRead
  dsimp only
  split
  · next v h => exact (Dev.issueRead_shell h).trans (d.wantPage_shell e f _ _)
  · exact d.wantPage_shell e f _ _

theorem Dev.drainPosts_shell (e : Env) (ps : List Post) (blocked : List FuncId) (kept : List Post) (d : Dev) :
    (Dev.drainPosts e ps blocked kept d).shell = d.shell := by
  induction ps generalizing blocked kept d with
  | nil => rfl
  | cons p r ih =>
    unfold Dev.drainPosts
    split
    · exact ih ..
    · split
      · exact ih ..
      · split
        · exact ih ..
        · split
          · exact ih ..
          · exact (ih ..).trans (d.wantPage_shell ..)

theorem Dev.hostPut_shell (d : Dev) (e : Env) (c : CtxId) (a : Nat) (bs : List Byte) (ep : Bool) : (d.hostPut e c a bs ep).shell = d.shell := by
  unfold Dev.hostPut
  refine ite_keeps Dev.shell (Dev.shell_foldl ?_ _ _) (Dev.drainPosts_shell ..)
  exact fun _ _ => rfl

theorem Dev.msix_shell (d : Dev) (f : FuncId) (v : Nat) : (d.msix f v).shell = d.shell :=
  ite_keeps Dev.shell rfl (ite_keeps Dev.shell rfl (ite_keeps Dev.shell rfl rfl))

theorem Dev.irqEval_shell (d : Dev) (e : Env) (c : CtxId) : (d.irqEval e c).shell = d.shell :=
  ite_keeps Dev.shell (Dev.msix_shell ..) rfl

theorem Dev.putEvent_shell (d : Dev) (e : Env) (c : CtxId) (t k a : Nat) : (d.putEvent e c t k a).shell = d.shell :=
  (Dev.irqEval_shell ..).trans (d.hostPut_shell e c _ _ _)

theorem Dev.event_shell (d : Dev) (e : Env) (c : CtxId) (t k a : Nat) : (d.event e c t k a).shell = d.shell :=
  ite_keeps Dev.shell rfl (ite_keeps Dev.shell (d.putEvent_shell ..) rfl)

-- Records -------------------------------------------------------------------------------------------------------------

theorem Dev.startFetch_shell (d : Dev) (e : Env) (c : CtxId) : (d.startFetch e c).1.shell = d.shell := by
  unfold Dev.startFetch
  dsimp only
  split
  · rfl
  · split
    · exact d.startRead_shell ..
    · exact d.startRead_shell ..

theorem Dev.drainCheck_shell (d : Dev) (e : Env) (c : CtxId) : (d.drainCheck e c).shell = d.shell :=
  ite_keeps Dev.shell (d.event_shell ..) rfl

theorem Dev.pumpFences_shell (d : Dev) (e : Env) : (d.pumpFences e).shell = d.shell :=
  Dev.shell_foldl (fun d c => d.startFetch_shell e c) _ d

theorem Dev.putRecord_shell (d : Dev) (e : Env) (c : CtxId) (h : HeldRec) : (d.putRecord e c h).shell = d.shell := by
  unfold Dev.putRecord
  exact ((Dev.pumpFences_shell ..).trans ((Dev.drainCheck_shell ..).trans (Dev.irqEval_shell ..))).trans (d.hostPut_shell ..)

theorem Dev.pumpRecords_shell (d : Dev) (e : Env) (c : CtxId) (n : Nat) : (d.pumpRecords e c n).shell = d.shell := by
  induction n generalizing d with
  | zero => rfl
  | succ n ih =>
    unfold Dev.pumpRecords
    dsimp only
    split
    · rfl
    · refine ite_keeps Dev.shell rfl ?_
      split
      · refine ite_keeps Dev.shell rfl (ite_keeps Dev.shell ?_ ?_)
        · exact d.startRead_shell ..
        · exact d.startRead_shell ..
      · exact ite_keeps Dev.shell rfl ((ih _).trans (d.putRecord_shell ..))

theorem Dev.record_shell (d : Dev) (e : Env) (c : CtxId) (r : CplRec) : (d.record e c r).shell = d.shell :=
  ite_keeps Dev.shell rfl (Dev.pumpRecords_shell ..)

theorem Dev.done_shell (d : Dev) (e : Env) (c : CtxId) (dsn opcode tag code id n toks detail cls : Nat) (last : Option Nat) :
    (d.done e c dsn opcode tag code id n toks detail cls last).shell = d.shell := d.record_shell ..

theorem Dev.startUse_shell (d : Dev) (e : Env) (u : ReadUse) : (d.startUse e u).1.shell = d.shell := by
  have read (u : ReadUse) : (if d.reading u then (d, false) else match d.nextRead u with
      | some (f, a, n) => d.startRead e f u a n
      | none => (d, false)).1.shell = d.shell := by
    split
    · rfl
    · split
      · exact d.startRead_shell ..
      · rfl
  cases u with
  | flush c => exact d.pumpRecords_shell ..
  | fetch c n => exact d.startFetch_shell e c
  | prompt c n => exact read _
  | graphIn c n => exact read _
  | model c m => exact read _
  | page c q g p n => exact read _
  | translate f p => exact read _

theorem Dev.startUses_shell (e : Env) (n : Nat) (us : List ReadUse) (d : Dev) : (Dev.startUses e n us d).shell = d.shell := by
  induction n generalizing us d with
  | zero => rfl
  | succ n ih =>
    unfold Dev.startUses
    split
    · rfl
    · exact (ih ..).trans (ite_keeps Dev.shell (d.startUse_shell ..) (d.startUse_shell ..))

-- Sequences -----------------------------------------------------------------------------------------------------------

theorem Dev.freeGroup_shell (d : Dev) (t : TileId) (b : Nat) : (d.freeGroup t b).shell = d.shell := by
  unfold Dev.freeGroup
  split <;> rfl

theorem Dev.giveRows_shell (d : Dev) (t : TileId) (row n : Nat) : (d.giveRows t row n).shell = d.shell := by
  unfold Dev.giveRows
  split <;> rfl

theorem Dev.dropRows_shell (d : Dev) (q : SeqSlot) (s : Seq) (t : TileId) (row n : Nat) : (d.dropRows q s t row n).shell = d.shell :=
  ite_keeps Dev.shell (d.giveRows_shell ..) rfl

theorem Dev.dropGroup_shell (d : Dev) (c : CtxId) (g : Group) : (d.dropGroup c g).shell = d.shell := by
  unfold Dev.dropGroup
  split
  · exact d.freeGroup_shell ..
  · exact d.freeGroup_shell ..
  · rfl
  · exact d.freeGroup_shell ..
  · exact d.freeGroup_shell ..
  · rfl
  · exact d.freeGroup_shell ..

theorem Dev.freeSeq_shell (d : Dev) (q : SeqSlot) : (d.freeSeq q).shell = d.shell := by
  unfold Dev.freeSeq
  split
  · rfl
  · next s _ =>
    exact (Dev.shell_foldl (fun d b => d.dropRows_shell ..) s.blocks _).trans ((Dev.shell_foldl (fun d l => d.dropRows_shell ..) s.lists _).trans
      (Dev.shell_foldl (fun d g => d.dropGroup_shell ..) s.groups d))

theorem Dev.endExports_shell (d : Dev) (e : Env) (q : SeqSlot) (gen code : Nat) : (d.endExports e q gen code).shell = d.shell :=
  Dev.shell_foldl (fun d _ => d.done_shell ..) _ _

theorem Dev.dropSeq_shell (d : Dev) (e : Env) (q : SeqSlot) (code detail : Nat) : (d.dropSeq e q code detail).shell = d.shell := by
  unfold Dev.dropSeq
  split
  · rfl
  · refine (Dev.freeSeq_shell ..).trans ((Dev.endExports_shell ..).trans ?_)
    split
    · exact d.done_shell ..
    · rfl

theorem Dev.freeLost_shell (d : Dev) : d.freeLost.shell = d.shell := by
  refine Dev.shell_foldl (fun d p => ?_) _ d
  split
  · exact ite_keeps Dev.shell (d.freeSeq_shell _) rfl
  · rfl

theorem Dev.pumpAll_shell (d : Dev) (e : Env) : (d.pumpAll e).shell = d.shell := (Dev.freeLost_shell _).trans (Dev.startUses_shell ..)

-- Requests and launches of a model slot -------------------------------------------------------------------------------

theorem Dev.failReq_shell (d : Dev) (e : Env) (r : GenReq) (code : Nat) : (d.failReq e r code).shell = d.shell := by
  unfold Dev.failReq
  split
  · split
    · exact Dev.done_shell ..
    · rfl
  · exact Dev.done_shell ..

theorem Dev.failGraph_shell (d : Dev) (e : Env) (m : ModelSlotId) (g : GraphReq) (code : Nat) : (d.failGraph e m g code).shell = d.shell :=
  Dev.done_shell ..

theorem Dev.endModelWork_shell (d : Dev) (e : Env) (m : ModelSlotId) (code : Nat) : (d.endModelWork e m code).shell = d.shell := by
  have hsvc (d : Dev) (v : Svc) : Dev.shell { d with svc := v } = d.shell := rfl
  unfold Dev.endModelWork
  refine (hsvc _ _).trans (Eq.trans (Dev.shell_foldl (fun d l => ?_) _ _) (Eq.trans (Dev.shell_foldl (fun d g => d.failGraph_shell ..) _ _)
    (Eq.trans (Dev.shell_foldl (fun d p => ite_keeps Dev.shell rfl (d.dropSeq_shell ..)) _ _) (Eq.trans (Dev.shell_foldl (fun d i => d.done_shell ..) _ _)
      (hsvc d _)))))
  split
  · exact d.done_shell ..
  · rfl

/-- Aborts are packets of control. -/
theorem Dev.breakLaunches_shell (d : Dev) (hit : Launch → Bool) (cause : Nat) : (d.breakLaunches hit cause).shell = d.shell := by
  refine Dev.shell_foldl ?_ _ d
  exact fun _ _ => rfl

theorem Dev.failModel_shell (d : Dev) (e : Env) (m : ModelSlotId) : (d.failModel e m).shell = d.shell := by
  have hset (d : Dev) (v : ModelSlot) : (d.setModel m v).shell = d.shell := rfl
  unfold Dev.failModel
  exact ite_keeps Dev.shell rfl ((hset _ _).trans (Eq.trans (Dev.breakLaunches_shell ..)
    (Eq.trans (Dev.shell_foldl (fun d r => d.failReq_shell ..) _ _) (d.endModelWork_shell ..))))

theorem Dev.failTiles_shell (d : Dev) (e : Env) (ts : List TileId) : (d.failTiles e ts).shell = d.shell :=
  Dev.shell_foldl (fun d m => ite_keeps Dev.shell (d.failModel_shell e m) rfl) _ d

theorem Dev.loseModel_shell (d : Dev) (e : Env) (m : ModelSlotId) : (d.loseModel e m).shell = d.shell := by
  have hsvc (d : Dev) (v : Svc) : Dev.shell { d with svc := v } = d.shell := rfl
  unfold Dev.loseModel
  refine Eq.trans (Dev.shell_foldl ?_ _ _) (Eq.trans (Dev.shell_foldl (fun d i => (Dev.done_shell ..).trans (hsvc d _)) _ _)
    (Eq.trans (Dev.shell_foldl (fun d r => d.failReq_shell ..) _ _) (d.endModelWork_shell ..)))
  exact fun _ _ => rfl

theorem Dev.loseGroups_shell (d : Dev) (h : HalfId) : (d.loseGroups h).shell = d.shell := by
  refine Dev.shell_foldl (fun d p => ?_) _ d
  split
  · exact ite_keeps Dev.shell rfl rfl
  · rfl

/-- No model slot is bound to a tile of an empty list. -/
theorem Dev.failTiles_nil (d : Dev) (e : Env) : d.failTiles e [] = d :=
  foldl_keeps id _ (fun d m => if_neg (by simp)) _ d

-- Functions -----------------------------------------------------------------------------------------------------------

theorem Dev.endModelOp_shell (d : Dev) (c : CtxId) (m : ModelSlotId) : (d.endModelOp c m).shell = d.shell := by
  unfold Dev.endModelOp
  dsimp only
  split
  · exact ite_keeps Dev.shell rfl (ite_keeps Dev.shell rfl rfl)
  · rfl

theorem Dev.endCtxWork_shell (d : Dev) (c : CtxId) : (d.endCtxWork c).shell = d.shell :=
  (Dev.shell_foldl (fun d m => d.endModelOp_shell c m) _ _).trans (Dev.shell_foldl (fun d _ => d.freeSeq_shell _) _ _)

theorem Dev.breakFences_shell (d : Dev) (e : Env) (w : CtxId) : (d.breakFences e w).shell = d.shell := by
  refine Dev.shell_foldl (fun d c => ite_keeps Dev.shell rfl (Dev.shell_foldl (fun d i => ?_) _ d)) _ d
  split
  · exact ite_keeps Dev.shell (Dev.event_shell ..) rfl
  · rfl

theorem Dev.startReset_shell (d : Dev) (e : Env) (c : CtxId) (k : ResetKind) : (d.startReset e c k).shell = d.shell :=
  ite_keeps Dev.shell rfl ((Dev.pumpAll_shell ..).trans ((Dev.breakFences_shell ..).trans (Dev.endCtxWork_shell ..)))

theorem Dev.stopFunction_shell (d : Dev) (e : Env) (f : FuncId) (k : ResetKind) : (d.stopFunction e f k).shell = d.shell := by
  unfold Dev.stopFunction
  refine Eq.trans (Dev.shell_foldl (fun d c => ite_keeps Dev.shell ?_ rfl) _ _) rfl
  exact d.startReset_shell e c k

theorem Dev.resetFunction_shell (d : Dev) (f : FuncId) : (d.resetFunction f).shell = d.shell := by
  unfold Dev.resetFunction
  refine Eq.trans (Dev.shell_foldl (fun d c => ite_keeps Dev.shell ?_ rfl) _ _) rfl
  rfl

theorem Dev.listCtxs_shell (d : Dev) (cs : List CtxId) : (d.listCtxs cs).shell = d.shell := by
  refine Dev.shell_foldl ?_ cs d
  exact fun _ _ => rfl

theorem Dev.regs_of_shell {a b : Dev} (h : a.shell = b.shell) (g : Tab Nat → Tab Nat) :
    ({ a.shell with regs := g a.regs } : Dev) = { b.shell with regs := g b.regs } := congrArg (fun v : Dev => { v with regs := g v.regs }) h

/-- A reset of the PF by the host clears two registers, and all that it changes beside them is of the host interface and the token service. -/
theorem Dev.flrPf_shell (d : Dev) (e : Env) : (d.flrPf e).shell = { d.shell with regs := tdel (tdel d.regs 0x4300) 0x4308 } := by
  have hset (d : Dev) (v : HostSt) (hv : v.linkUp = d.host.linkUp) (r : Tab Nat) : Dev.shell { d with host := v, regs := r } = { d.shell with regs := r } := by
    unfold Dev.shell
    rw [hv]
  unfold Dev.flrPf
  generalize List.finRange 4096 = cs
  refine (hset _ _ ?_ _).trans (Dev.regs_of_shell (Eq.trans (Dev.shell_foldl (fun d f => ?_) _ _) (d.listCtxs_shell cs)) (fun r => tdel (tdel r 0x4300) 0x4308))
  · rfl
  · exact (Dev.resetFunction_shell ..).trans (d.stopFunction_shell e f .pfFlr)

end Sys2Proof.Machine
end

section
/-! PROOFS. What packets that arrive at a tile, and operations of the collective engine that end, leave alone: sites, messages, held packets and
reports change, and no site becomes ready or stops being so (R43, R67, R299, R321, R322). -/

namespace Sys2Proof.Machine
open Sys2Proof

/-- The halves but for the sites, and for the packets, messages and reports on their way. -/
def Fabric.yard (f : Fabric) : Fabric := { f with sites := [], inbox := [], ctl := [], held := [], results := [], reports := [] }

/-- From halves f packets carried to sites have made halves g: reports are only added, and the readiness of each site stands. -/
structure Fabric.Carries (f g : Fabric) : Prop where
  yard : g.yard = f.yard
  reports : ∃ l, g.reports = f.reports ++ l
  ready : ∀ x, (g.site x).ready = (f.site x).ready

theorem Fabric.Carries.refl (f : Fabric) : f.Carries f := ⟨rfl, ⟨[], (List.append_nil _).symm⟩, fun _ => rfl⟩

theorem Fabric.Carries.trans {f g h : Fabric} (a : f.Carries g) (b : g.Carries h) : f.Carries h := by
  obtain ⟨l, hl⟩ := a.reports
  obtain ⟨m, hm⟩ := b.reports
  exact ⟨b.yard.trans a.yard, ⟨l ++ m, by rw [hm, hl, List.append_assoc]⟩, fun x => (b.ready x).trans (a.ready x)⟩

theorem Fabric.Carries.foldl {β : Type} {g : Fabric → β → Fabric} (h : ∀ f b, Fabric.Carries f (g f b)) (l : List β) (f : Fabric) : f.Carries (l.foldl g f) :=
  foldl_preserves (P := f.Carries) (fun a b ha => ha.trans (h a b)) l (.refl f)

theorem Fabric.Carries.ite {f g h : Fabric} {p : Prop} [Decidable p] (hg : f.Carries g) (hh : f.Carries h) : f.Carries (if p then g else h) := by
  split
  · exact hg
  · exact hh

/-- Halves that differ in packets and messages on their way alone. -/
theorem Fabric.Carries.of_moved {f g : Fabric} (h : g.yard = f.yard) (hs : g.sites = f.sites) (hr : g.reports = f.reports) : f.Carries g :=
  ⟨h, ⟨[], by rw [hr, List.append_nil]⟩, fun x => by rw [Fabric.site, hs, Fabric.site]⟩

theorem Fabric.Carries.inbox (f : Fabric) (l : List TileMsg) : f.Carries { f with inbox := l } := .of_moved rfl rfl rfl

theorem Fabric.Carries.held (f : Fabric) (l : Tab (List HeldPacket)) : f.Carries { f with held := l } := .of_moved rfl rfl rfl

theorem Fabric.Carries.setSite (f : Fabric) {x : SiteIx} {s : Site} (h : s.ready = (f.site x).ready) : f.Carries (f.setSite x s) := by
  refine ⟨rfl, ⟨[], (List.append_nil _).symm⟩, fun y => ?_⟩
  by_cases hy : y = x
  · rw [hy, Fabric.site_setSite, h]
  · rw [Fabric.site_setSite_ne _ _ hy]

theorem Fabric.Carries.report (f : Fabric) (e : Env) (code : Nat) (who : Suspect) (a b : Nat) (c : Option CtxId) (n : Nat) :
    f.Carries (f.report e code who a b c n) := ⟨rfl, ⟨_, rfl⟩, fun _ => rfl⟩

-- Faults and semaphores -----------------------------------------------------------------------------------------------

/-- A report with its reporter is one more report. -/
theorem Fabric.Carries.reporter (f : Fabric) (e : Env) (code : Nat) (who : Suspect) (a b : Nat) (o : Option CtxId) (n : Nat) (c : ClusterId) :
    f.Carries ((f.report e code who a b o n).reporter c) := by
  refine ⟨rfl, ?_, fun _ => rfl⟩
  simp only [Fabric.reporter, Fabric.report, List.dropLast_concat, List.getLast?_concat]
  exact ⟨_, rfl⟩

theorem Fabric.reportFault_carries (f : Fabric) (e : Env) (x : SiteIx) (t : TileId) (off : Nat) (i : FaultInfo) :
    f.Carries (f.reportFault e x t off i) := by
  unfold Fabric.reportFault
  cases i.cause
  case poisonConsumed => dsimp only; split <;> exact .reporter ..
  all_goals exact .reporter ..

theorem Fabric.faultStream_carries (f : Fabric) (e : Env) (x : SiteIx) (t : TileId) (n : StreamId) (off : Nat) (i : FaultInfo) :
    f.Carries (f.faultStream e x t n off i) := by
  rw [Fabric.faultStream_eq]
  have hsite := Fabric.Carries.setSite f (x := x) (s := (f.site x).faulted n i.cause) (Site.faulted_keeps Site.ready (fun _ _ _ _ => rfl) _ n i.cause)
  exact (hsite.trans (.inbox _ _)).trans (Fabric.reportFault_carries ..)

theorem Fabric.remoteAdd_carries (f : Fabric) (e : Env) (x : SiteIx) (t : TileId) (q : Fin 32) (n : Nat) : f.Carries (f.remoteAdd e x t q n) := by
  have hready : ((f.site x).add q n).1.ready = (f.site x).ready := Site.add_keeps Site.ready (fun _ _ _ => rfl) ..
  unfold Fabric.remoteAdd
  generalize (f.site x).add q n = p at hready ⊢
  obtain ⟨s, past⟩ := p
  refine .ite (.setSite f hready) (Fabric.Carries.trans (.setSite f hready) ?_)
  dsimp only
  split
  · exact Fabric.faultStream_carries ..
  · exact Fabric.Carries.trans (.inbox _ _) (.report ..)

-- Packets -------------------------------------------------------------------------------------------------------------

theorem Site.apply_ready (s : Site) (w : ScratchWrite) : (s.apply w).ready = s.ready := Site.applyAll_keeps Site.ready (fun _ => rfl) [w] s

theorem Fabric.hold_carries (f : Fabric) (t : TileId) (p : HeldPacket) : f.Carries (f.hold t p) := .of_moved rfl rfl rfl

theorem Fabric.deliver_carries (f : Fabric) (e : Env) (r : SendRec) : f.Carries (f.deliver e r) := by
  unfold Fabric.deliver
  split
  · exact .refl f
  · next y _ =>
    have hset : f.Carries (f.setSite y (((f.site y).apply { addr := r.dst, bytes := r.data, poison := false, tag := none }).race none
        (writeRanges [{ addr := r.dst, bytes := r.data, poison := false, tag := none }]))) := .setSite f (Site.apply_ready ..)
    dsimp only
    split
    · exact hset.trans (Fabric.remoteAdd_carries ..)
    · exact hset

theorem Fabric.modStream_carries (f : Fabric) (x : SiteIx) (n : StreamId) (g : Stream → Stream) : f.Carries (f.modStream x n g) := .setSite f rfl

theorem Fabric.sendDelivery_carries (f : Fabric) (e : Env) (t : TileId) (n : StreamId) (id : Nat) : f.Carries (f.sendDelivery e t n id) := by
  unfold Fabric.sendDelivery
  split
  · exact .refl f
  · dsimp only
    split
    · exact .refl f
    · refine .ite (.refl f) (.ite (f.modStream_carries ..) (.ite ((f.modStream_carries ..).trans (Fabric.faultStream_carries ..)) ?_))
      split
      · exact f.modStream_carries ..
      · exact .ite (.ite (.refl f) (f.hold_carries ..)) ((f.modStream_carries ..).trans (Fabric.deliver_carries ..))

theorem Fabric.reach_carries (f : Fabric) (e : Env) (x : SiteIx) (t : TileId) (n : StreamId) : f.Carries (f.reach e x t n) := by
  obtain h | ⟨off, i, h⟩ := f.reach_cases e x t n
  · rw [h]
    exact .refl f
  · rw [h]
    exact f.faultStream_carries ..

theorem Fabric.takeLaunch_carries (f : Fabric) (e : Env) (x : SiteIx) (t : TileId) (p : LaunchPkt) : f.Carries (f.takeLaunch e x t p) := by
  unfold Fabric.takeLaunch
  refine .ite (Fabric.Carries.trans (.setSite f ?_) (Fabric.reach_carries ..)) (.of_moved rfl rfl rfl)
  have hstream (s : Site) (v : Stream) : (s.setStream p.stream v).ready = s.ready := rfl
  refine (hstream _ _).trans (Eq.trans (foldl_keeps Site.ready _ ?_ _ _) (Site.apply_ready ..))
  exact fun _ _ => rfl

theorem Fabric.takeAbort_carries (f : Fabric) (x : SiteIx) (tag : BitVec 16) : f.Carries (f.takeAbort x tag) := by
  have hone (s : Site) (n : StreamId) (v : Stream) (a : ArraySt) : ({ s.setStream n v with arr := a } : Site).ready = s.ready := rfl
  refine .setSite f (foldl_keeps Site.ready _ (fun s n => ite_keeps Site.ready ?_ rfl) _ _)
  exact hone s n _ _

theorem Fabric.dropCtl_carries (f : Fabric) (t : TileId) (p : CtlPkt) : f.Carries (f.dropCtl t p) := .of_moved rfl rfl rfl

theorem Fabric.launch_carries (f : Fabric) (e : Env) (t : TileId) (p : LaunchPkt) : f.Carries (f.launch e t p) := by
  unfold Fabric.launch
  refine .ite (.refl f) ((f.dropCtl_carries t (.launch p)).trans ?_)
  dsimp only
  split
  · exact .refl _
  · exact .ite (Fabric.hold_carries ..) (Fabric.takeLaunch_carries ..)

theorem Fabric.abort_carries (f : Fabric) (t : TileId) (tag : BitVec 16) : f.Carries (f.abort t tag) := by
  unfold Fabric.abort
  refine .ite (.refl f) ((f.dropCtl_carries t (.abort tag)).trans ?_)
  dsimp only
  split
  · exact .refl _
  · exact .ite (Fabric.hold_carries ..) (Fabric.takeAbort_carries ..)

theorem Fabric.deliverHeld_carries (f : Fabric) (e : Env) (t : TileId) : f.Carries (f.deliverHeld e t) := by
  unfold Fabric.deliverHeld
  refine Fabric.Carries.trans (.held f _) (.foldl (fun f p => ?_) _ _)
  split
  · exact f.launch_carries ..
  · exact f.abort_carries ..
  · exact f.sendDelivery_carries ..
  · exact f.deliver_carries ..

-- The collective engine -----------------------------------------------------------------------------------------------

/-- The device but for what Dev.shell leaves out, the halves, the causes of fences and the packets that they dropped, the register shadow, and the
network but for its ports. -/
def Dev.hull (d : Dev) : Dev :=
  { d.shell with
    fab := Fabric.init, net := { Net.init with ports := d.net.ports }, lnk := { d.lnk with cause := Vector.replicate 2 none, fenceDrops := 0 }
    seen := Vector.replicate 2 none, regs := [] }

/-- From device a the work that ends with a half, or with the host's link, has made device b. -/
structure Dev.Serves (a b : Dev) : Prop where
  hull : b.hull = a.hull
  fab : a.fab.Carries b.fab

theorem Dev.Serves.refl (a : Dev) : a.Serves a := ⟨rfl, .refl _⟩

theorem Dev.Serves.trans {a b c : Dev} (h : a.Serves b) (k : b.Serves c) : a.Serves c := ⟨k.hull.trans h.hull, h.fab.trans k.fab⟩

theorem Dev.Serves.foldl {β : Type} {g : Dev → β → Dev} (h : ∀ d b, Dev.Serves d (g d b)) (l : List β) (d : Dev) : d.Serves (l.foldl g d) :=
  foldl_preserves (P := d.Serves) (fun a b ha => ha.trans (h a b)) l (.refl d)

theorem Dev.Serves.ite {a b c : Dev} {p : Prop} [Decidable p] (hb : a.Serves b) (hc : a.Serves c) : a.Serves (if p then b else c) := by
  split
  · exact hb
  · exact hc

/-- Work of the host interface and of the token service. -/
theorem Dev.Serves.of_shell_regs {a b : Dev} {r : Tab Nat} (h : b.shell = { a.shell with regs := r }) : a.Serves b := by
  have hhull : b.shell.hull = Dev.hull { a.shell with regs := r } := by rw [h]
  have hf : b.shell.fab = a.shell.fab := by rw [h]
  have hyard : b.shell.fab.yard = a.shell.fab.yard := by rw [hf]
  have hsites : b.shell.fab.sites = a.shell.fab.sites := by rw [hf]
  have hreports : b.shell.fab.reports = a.shell.fab.reports := by rw [hf]
  exact ⟨hhull, .of_moved hyard hsites hreports⟩

theorem Dev.Serves.of_shell {a b : Dev} (h : b.shell = a.shell) : a.Serves b := .of_shell_regs (r := a.regs) h

/-- Work that leaves the halves alone. -/
theorem Dev.Serves.of_hull {a b : Dev} (h : b.hull = a.hull) (hf : b.fab = a.fab) : a.Serves b := ⟨h, by rw [hf]; exact .refl _⟩

theorem Dev.Serves.onFab (d : Dev) {g : Fabric → Fabric} (h : d.fab.Carries (g d.fab)) : d.Serves (d.onFab g) := ⟨rfl, h⟩

theorem Dev.collSend_serves (d : Dev) (e : Env) (t : TileId) (a : Nat) (bs : List Byte) (q : Option (Fin 32)) : d.Serves (d.collSend e t a bs q) := by
  unfold Dev.collSend
  split
  · exact .refl d
  · exact .ite (.refl d) (.ite (.onFab d (Fabric.hold_carries ..)) (.onFab d (Fabric.deliver_carries ..)))

theorem Dev.collStatus_serves (d : Dev) (e : Env) (o : CollOp) (c : Contrib) (code : Nat) : d.Serves (d.collStatus e o c code) := d.collSend_serves ..

theorem Dev.send_serves (d : Dev) (o : Out) : d.Serves (d.send o) := .of_hull rfl rfl

theorem Dev.sendUd_serves (d : Dev) (u : QpId) (v : Qp) (n : Nat) (bs : List Byte) : d.Serves (d.sendUd u v n bs) := by
  unfold Dev.sendUd
  exact .ite (.refl d) (.of_hull rfl rfl)

theorem Dev.collFail_serves (d : Dev) (e : Env) (o : CollOp) (code : Nat) : d.Serves (d.collFail e o code) := by
  have hnet (d : Dev) (n : Nat) : d.Serves { d with net := { d.net with opsFailed := n } } := .of_hull rfl rfl
  have hdrop : d.Serves (d.dropOp o) := .of_hull rfl rfl
  unfold Dev.collFail
  exact ((hdrop.trans (.foldl (fun d c => d.collStatus_serves ..) _ _)).trans (hnet _ _)).trans
    (.foldl (fun d p => .foldl (fun d _ => d.sendUd_serves ..) _ d) _ _)

theorem Dev.emit_serves (d : Dev) (q : Qp) (w : WorkReq) (k : Nat) : d.Serves (d.emit q w k) :=
  .ite (.refl d) (.foldl (fun d _ => d.send_serves _) _ d)

theorem Dev.pumpQp_serves (d : Dev) (e : Env) (i : QpId) (n : Nat) : d.Serves (d.pumpQp e i n) := by
  induction n generalizing d with
  | zero => exact .refl d
  | succ n ih =>
    have hset (q : Qp) : d.Serves (d.setQp i q) := .of_hull rfl rfl
    unfold Dev.pumpQp
    dsimp only
    split
    · exact .refl d
    · exact .ite (.refl d) (((hset _).trans (Dev.emit_serves ..)).trans (ih _))

theorem Dev.rcTo_serves (d : Dev) (e : Env) (g : CollGroup) (r : Nat) (bs : List Byte) : d.Serves (d.rcTo e g r bs) := by
  have hset (i : QpId) (q : Qp) : d.Serves (d.setQp i q) := .of_hull rfl rfl
  unfold Dev.rcTo Dev.post
  exact .ite (.refl d) ((hset _ _).trans (Dev.pumpQp_serves ..))

theorem Dev.collRun_serves (d : Dev) (e : Env) (o : CollOp) : d.Serves (d.collRun e o) := by
  have hops (l : List CollOp) : d.Serves { d with net := { d.net with ops := l } } := .of_hull rfl rfl
  have hdrop (d : Dev) (o : CollOp) : d.Serves (d.dropOp o) := .of_hull rfl rfl
  unfold Dev.collRun
  dsimp only
  refine ((hops _).trans (.foldl (fun d m => d.rcTo_serves ..) _ _)).trans (.ite ?_ (.refl _))
  exact (hdrop _ _).trans (.foldl (fun d c => (d.collSend_serves ..).trans (Dev.collStatus_serves ..)) _ _)

theorem Dev.takeSlice_serves (d : Dev) (e : Env) (g : GroupId) (o : CollOp) (t : TileId) (h : Nat) (bs : List Byte) :
    d.Serves (d.takeSlice e g o t h bs) := by
  have hops (d : Dev) (l : List CollOp) : d.Serves { d with net := { d.net with ops := l } } := .of_hull rfl rfl
  have hdoomed (d : Dev) (l : List (GroupId × Nat)) : d.Serves { d with net := { d.net with doomed := l } } := .of_hull rfl rfl
  unfold Dev.takeSlice
  dsimp only
  refine (hops d _).trans (.ite ((hdoomed _ _).trans (Dev.collFail_serves ..)) (.ite (Dev.collFail_serves ..) (.ite (Dev.collFail_serves ..)
    (.ite (Dev.collFail_serves ..) (.ite (Dev.collFail_serves ..) (Dev.collRun_serves ..))))))

theorem Dev.sliceAt_serves (d : Dev) (e : Env) (t : TileId) (hdr : BitVec 256) (bs : List Byte) : d.Serves (d.sliceAt e t hdr bs) := by
  have hheld (l : List HeldSlice) : d.Serves { d with net := { d.net with held := l } } := .of_hull rfl rfl
  have hdrop : d.Serves d.msgDrop := .of_hull rfl rfl
  have hdoomed (d : Dev) (l : List (GroupId × Nat)) : d.Serves { d with net := { d.net with doomed := l } } := .of_hull rfl rfl
  unfold Dev.sliceAt
  refine .ite ?_ (.ite (hdrop.trans ?_) ?_)
  · split
    · exact d.collFail_serves ..
    · exact .refl d
  · dsimp only
    split
    · exact Dev.collFail_serves ..
    · exact hdoomed _ _
  · split
    · exact .ite (hheld _) (d.takeSlice_serves ..)
    · exact .ite (d.takeSlice_serves ..) (hheld _)

theorem Dev.collRelease_serves (d : Dev) (e : Env) : d.Serves (d.collRelease e) := by
  have hheld : d.Serves { d with net := { d.net with held := [] } } := .of_hull rfl rfl
  exact hheld.trans (.foldl (fun d h => d.sliceAt_serves ..) _ _)

theorem Dev.failHalfOps_serves (d : Dev) (e : Env) (h : HalfId) : d.Serves (d.failHalfOps e h) :=
  (Dev.Serves.foldl (fun d o => d.collFail_serves e o 6) _ d).trans (Dev.collRelease_serves ..)

theorem Dev.flrPf_serves (d : Dev) (e : Env) : d.Serves (d.flrPf e) := .of_shell_regs (d.flrPf_shell e)

end Sys2Proof.Machine
end

section
/-! PROOFS. The fence of a half (R292, Table Basin-7), and what follows from a command for the halves: a fenced half does not come into service, and
one in service stays so. -/

namespace Sys2Proof.Machine
open Sys2Proof

-- What follows from a command -----------------------------------------------------------------------------------------

/-- Follows, and for each half: it is in service as before, or comes into service without a fence. -/
structure Settles (a u : State) : Prop extends Follows a u where
  halves : ∀ h : HalfId, u.d.fab.halfUp[h] = a.d.fab.halfUp[h] ∨ (a.d.fab.fenced[h] = false ∧ u.d.fab.halfUp[h] = true)

theorem Dev.notePhases_fab (d : Dev) : d.notePhases.fab = d.fab := by
  refine foldl_keeps Dev.fab _ (fun d c => ?_) _ d
  dsimp only
  split
  · exact ite_keeps Dev.fab rfl rfl
  · rfl

theorem Dev.noteIdle_fab (d : Dev) (e : Env) : (d.noteIdle e).fab = d.fab := by
  unfold Dev.noteIdle
  generalize allSites = l
  refine foldl_keeps Dev.fab _ (fun d x => ?_) l d
  exact ite_keeps Dev.fab rfl (ite_keeps Dev.fab rfl rfl)

theorem Dev.sendEvent_fab (d : Dev) : d.sendEvent.fab = d.fab := by
  unfold Dev.sendEvent
  split
  · exact ite_keeps Dev.fab rfl rfl
  · rfl

theorem Dev.pldmEvent_fab (d : Dev) (n : Nat) (b : List Byte) : (d.pldmEvent n b).fab = d.fab := by
  unfold Dev.pldmEvent
  refine ite_keeps Dev.fab (Dev.sendEvent_fab _) ?_
  split
  · exact Dev.sendEvent_fab _
  · rfl

theorem sensorEvents_fab (a b : List (Nat × Nat)) (d : Dev) : (sensorEvents a b d).fab = d.fab :=
  foldl_keeps Dev.fab _ (fun d _ => ite_keeps Dev.fab rfl (d.pldmEvent_fab _ _)) _ d

/-- HALFn_UP as halves g have it beside halves f. -/
def Fabric.UpFrom (f g : Fabric) : Prop :=
  g.fenced = f.fenced ∧ ∀ h : HalfId, g.halfUp[h] = f.halfUp[h] ∨ (f.fenced[h] = false ∧ g.halfUp[h] = true)

theorem Fabric.UpFrom.trans {f g k : Fabric} (a : f.UpFrom g) (b : g.UpFrom k) : f.UpFrom k := by
  refine ⟨b.1.trans a.1, fun h => ?_⟩
  obtain hb | ⟨hf, hu⟩ := b.2 h
  · rw [hb]
    exact a.2 h
  · exact .inr ⟨by rw [← a.1]; exact hf, hu⟩

theorem Vector.getElem_set_fin {α : Type} {n : Nat} (v : Vector α n) (i j : Fin n) (x : α) : (v.set i x)[j] = if i = j then x else v[j] := by
  simp only [Fin.getElem_fin, Vector.getElem_set, Fin.ext_iff]

theorem Dev.halfUpCheck_upFrom (d : Dev) : d.fab.UpFrom d.halfUpCheck.fab := by
  unfold Dev.halfUpCheck
  refine foldl_preserves (P := fun v : Dev => d.fab.UpFrom v.fab) (fun v h hv => hv.trans ?_) _ ⟨rfl, fun _ => .inl rfl⟩
  split
  · next hc =>
    refine ⟨rfl, fun g => ?_⟩
    have hup : (v.onFab (fun f => { f with halfUp := f.halfUp.set h true })).fab.halfUp[g] = if h = g then true else v.fab.halfUp[g] :=
      Vector.getElem_set_fin ..
    rw [hup]
    split
    · next hg =>
      subst hg
      refine .inr ⟨?_, rfl⟩
      simp only [Bool.and_eq_true, Bool.not_eq_true', Fin.getElem_fin] at hc
      exact hc.1.1.1.1.1.1.1.2
    · exact .inl rfl
  · exact ⟨rfl, fun _ => .inl rfl⟩

theorem State.follow_settles (b s : State) : Settles s (State.follow b s) := by
  refine ⟨State.follow_follows b s, ?_⟩
  have hfollow : s.d.fab.UpFrom (State.follow b s).d.fab := by
    unfold State.follow
    dsimp only
    rw [sensorEvents_fab]
    refine Fabric.UpFrom.trans ?_ (Dev.halfUpCheck_upFrom _)
    have hfab : (if s.d.svc.launches = b.d.svc.launches then s.d else s.d.notePhases).fab = s.d.fab :=
      ite_keeps Dev.fab rfl s.d.notePhases_fab
    rw [ite_keeps Dev.fab hfab ((Dev.noteIdle_fab ..).trans hfab)]
    exact ⟨rfl, fun _ => .inl rfl⟩
  exact hfollow.2

theorem yields_onAll_settles {c : Instr} {s : State} {d : Dev} {g : Env → Dev → Dev} {P : State → Prop} (hc : exec c s = .next (s.onAll g))
    (hd : g s.env s.d.bump = d) (hp : ∀ u, Settles { s.bump with d := d } u → P u) : Yields c s P := by
  subst hd
  exact ⟨_, hc, hp _ (State.follow_settles _ _)⟩

-- Devices with halves that have been fenced ---------------------------------------------------------------------------

/-- The halves but for what a fence changes: the two halves' state and what Fabric.yard leaves out. -/
def Fabric.ground (f : Fabric) : Fabric := { f.yard with halfUp := Vector.replicate 2 false, fenced := Vector.replicate 2 false }

/-- Device b came of device a later: what had been reported stays so, and a half that was fenced stands as it did. -/
structure Dev.Later (a b : Dev) : Prop where
  reports : ∃ l, b.fab.reports = a.fab.reports ++ l
  fenced : ∀ h : HalfId, a.fab.fenced[h] = true → b.fab.fenced[h] = true ∧ b.fab.halfUp[h] = a.fab.halfUp[h]

theorem Dev.Later.trans {a b c : Dev} (h : a.Later b) (k : b.Later c) : a.Later c := by
  obtain ⟨l, hl⟩ := h.reports
  obtain ⟨m, hm⟩ := k.reports
  refine ⟨⟨l ++ m, by rw [hm, hl, List.append_assoc]⟩, fun x hx => ?_⟩
  obtain ⟨hb, hbu⟩ := h.fenced x hx
  obtain ⟨hc, hcu⟩ := k.fenced x hb
  exact ⟨hc, hcu.trans hbu⟩

theorem Dev.Later.of_same {a b : Dev} (hr : b.fab.reports = a.fab.reports) (hf : b.fab.fenced = a.fab.fenced) (hu : b.fab.halfUp = a.fab.halfUp) :
    a.Later b := ⟨⟨[], by rw [hr, List.append_nil]⟩, fun h hh => by rw [hf, hu]; exact ⟨hh, rfl⟩⟩

/-- From device a fences, and the work that ends with them, have made device b. -/
structure Dev.Downs (a b : Dev) : Prop extends a.Later b where
  hull : b.hull = a.hull
  ground : b.fab.ground = a.fab.ground

theorem Dev.Downs.refl (a : Dev) : a.Downs a := ⟨.of_same rfl rfl rfl, rfl, rfl⟩

theorem Dev.Downs.trans {a b c : Dev} (h : a.Downs b) (k : b.Downs c) : a.Downs c :=
  ⟨h.toLater.trans k.toLater, k.hull.trans h.hull, k.ground.trans h.ground⟩

theorem Dev.Downs.of_serves {a b : Dev} (h : a.Serves b) : a.Downs b := by
  have hyard := h.fab.yard
  have hf : b.fab.yard.fenced = a.fab.yard.fenced := by rw [hyard]
  have hu : b.fab.yard.halfUp = a.fab.yard.halfUp := by rw [hyard]
  have hfenced : b.fab.fenced = a.fab.fenced := hf
  have hup : b.fab.halfUp = a.fab.halfUp := hu
  refine ⟨⟨h.fab.reports, fun x hx => ?_⟩, h.hull, by unfold Fabric.ground; rw [hyard]⟩
  rw [hfenced, hup]
  exact ⟨hx, rfl⟩

/-- What Dev.hull keeps. -/
theorem Dev.Downs.keeps {γ : Type} {a b : Dev} (h : a.Downs b) (p : Dev → γ) (hp : ∀ d : Dev, p d.hull = p d) : p b = p a := by
  rw [← hp, h.hull, hp]

/-- What Fabric.ground keeps. -/
theorem Dev.Downs.fab_keeps {γ : Type} {a b : Dev} (h : a.Downs b) (p : Fabric → γ) (hp : ∀ f : Fabric, p f.ground = p f) : p b.fab = p a.fab := by
  rw [← hp, h.ground, hp]

/-- Half h of device b is fenced; where it was not on device a, it is out of service, and that has been reported. -/
def Dev.Fenced (a b : Dev) (h : HalfId) : Prop :=
  b.fab.fenced[h] = true ∧ (a.fab.fenced[h] = false → b.fab.halfUp[h] = false ∧
    ∃ (before after : List Report) (r : Report), b.fab.reports = a.fab.reports ++ before ++ r :: after ∧ r.code = 0x0303 ∧ r.suspect = .half h)

theorem Dev.Fenced.trans {a b c : Dev} {h : HalfId} (hf : Dev.Fenced a b h) (hd : b.Later c) : Dev.Fenced a c h := by
  obtain ⟨l, hl⟩ := hd.reports
  obtain ⟨hc, hcu⟩ := hd.fenced h hf.1
  refine ⟨hc, fun ha => ?_⟩
  obtain ⟨hu, before, after, r, hr, hcode, hwho⟩ := hf.2 ha
  exact ⟨hcu.trans hu, before, after ++ l, r, by rw [hl, hr]; simp, hcode, hwho⟩

/-- The half may have been left alone before it was fenced. -/
theorem Dev.Fenced.after {a b c : Dev} {h : HalfId} (hab : b.fab.fenced[h] = a.fab.fenced[h]) (hr : ∃ l, b.fab.reports = a.fab.reports ++ l)
    (hf : Dev.Fenced b c h) : Dev.Fenced a c h := by
  obtain ⟨l, hl⟩ := hr
  refine ⟨hf.1, fun ha => ?_⟩
  obtain ⟨hu, before, after, r, hr, hcode, hwho⟩ := hf.2 (hab.trans ha)
  exact ⟨hu, l ++ before, after, r, by rw [hr, hl]; simp, hcode, hwho⟩

theorem fences_of_settles {s u : State} {d : Dev} {h : HalfId} (hu : Settles { s.bump with d := d } u) (hf : Dev.Fenced s.d d h) : Fences s u h := by
  have hfenced : u.d.fab.fenced = d.fab.fenced := hu.keeps (fun d => d.fab.fenced) (fun _ => rfl)
  have hreports : u.d.fab.reports = d.fab.reports := hu.keeps (fun d => d.fab.reports) (fun _ => rfl)
  refine ⟨by rw [hfenced]; exact hf.1, fun hs => ?_⟩
  obtain ⟨hup, before, after, r, hr, hcode, hwho⟩ := hf.2 hs
  refine ⟨?_, before, after, r, hreports.trans hr, hcode, hwho⟩
  obtain h | ⟨h, -⟩ := hu.halves h
  · exact h.trans hup
  · rw [hf.1] at h
    cases h

-- The fence of a half -------------------------------------------------------------------------------------------------

def Fabric.fencing (f : Fabric) (h : HalfId) : Fabric := { f with halfUp := f.halfUp.set h false, fenced := f.fenced.set h true }

theorem Dev.keepView_eq (d : Dev) (h : HalfId) : ∃ v, d.keepView h = { d with seen := v } := by
  unfold Dev.keepView
  split
  · exact ⟨d.seen, rfl⟩
  · exact ⟨_, rfl⟩

theorem Dev.fenceDrop_serves (d : Dev) (n : Nat) : d.Serves (d.fenceDrop n) := .of_hull rfl rfl

theorem Dev.discardHalf_serves (d : Dev) (h : HalfId) : d.Serves (d.discardHalf h) := ⟨rfl, .of_moved rfl rfl rfl⟩

/-- All of a fence but its mark and its report is work that ends with the half. -/
theorem Dev.fenceHalf_of_up {d : Dev} (e : Env) {h : HalfId} (c : FenceCause) (hf : d.fab.fenced[h] = false) :
    ∃ (v : Dev) (r : Report), (d.onFab (fun f => f.fencing h)).Serves v ∧ r.code = 0x0303 ∧ r.suspect = .half h ∧
      d.fenceHalf e h c = v.onFab (fun f => { f with reports := f.reports ++ [r] }) := by
  obtain ⟨w, hw⟩ := d.keepView_eq h
  have hctl (d : Dev) (p : TileId × CtlPkt → Bool) : d.Serves (d.onFab (fun f => { f with ctl := f.ctl.filter p })) := .onFab d (.of_moved rfl rfl rfl)
  have hmoves (d : Dev) : d.Serves (d.dropMoves h) := .of_hull rfl rfl
  unfold Dev.fenceHalf
  rw [if_neg (by rw [hf]; decide)]
  refine ⟨_, _, ?_, rfl, rfl, rfl⟩
  refine Dev.Serves.trans ?_ (Dev.failHalfOps_serves ..)
  refine Dev.Serves.trans ?_ (.of_shell (Dev.loseGroups_shell ..))
  refine Dev.Serves.trans ?_ (Dev.fenceDrop_serves ..)
  refine Dev.Serves.trans ?_ (hctl _ _)
  refine Dev.Serves.trans ?_ (.foldl (fun d m => .ite (.of_shell (d.loseModel_shell e m)) (.refl d)) _ _)
  refine Dev.Serves.trans ?_ (hmoves _)
  refine Dev.Serves.trans ?_ (Dev.discardHalf_serves _ h)
  rw [hw]
  exact .of_hull rfl rfl

theorem Dev.fenceHalf_of_fenced {d : Dev} (e : Env) {h : HalfId} (c : FenceCause) (hf : d.fab.fenced[h] = true) : d.fenceHalf e h c = d := if_pos hf

theorem Dev.fenceHalf_downs (d : Dev) (e : Env) (h : HalfId) (c : FenceCause) :
    d.Downs (d.fenceHalf e h c) ∧ Dev.Fenced d (d.fenceHalf e h c) h ∧
    ∀ g : HalfId, g ≠ h → (d.fenceHalf e h c).fab.fenced[g] = d.fab.fenced[g] := by
  by_cases hf : d.fab.fenced[h] = true
  · rw [Dev.fenceHalf_of_fenced e c hf]
    exact ⟨.refl d, ⟨hf, fun hn => by rw [hf] at hn; cases hn⟩, fun _ _ => rfl⟩
  · rw [Bool.not_eq_true] at hf
    obtain ⟨v, r, hv, hcode, hwho, heq⟩ := Dev.fenceHalf_of_up e c hf
    have hyard : v.fab.yard = (d.fab.fencing h).yard := hv.fab.yard
    have hfenced : v.fab.fenced = d.fab.fenced.set h true := by
      have hy := congrArg Fabric.fenced hyard
      exact hy
    have hup : v.fab.halfUp = d.fab.halfUp.set h false := by
      have hy := congrArg Fabric.halfUp hyard
      exact hy
    obtain ⟨l, hl⟩ := hv.fab.reports
    have hreports : v.fab.reports = d.fab.reports ++ l := hl
    rw [heq]
    refine ⟨⟨⟨⟨l ++ [r], ?_⟩, fun g hg => ?_⟩, hv.hull, ?_⟩, ⟨?_, fun _ => ⟨?_, l, [], r, ?_, hcode, hwho⟩⟩, fun g hg => ?_⟩
    · exact (congrArg (fun l => l ++ [r]) hreports).trans (List.append_assoc ..)
    · have hgh : h ≠ g := fun hgh => by rw [hgh, hg] at hf; cases hf
      have h1 : v.fab.fenced[g] = true := by rw [hfenced, Vector.getElem_set_fin, if_neg hgh]; exact hg
      have h2 : v.fab.halfUp[g] = d.fab.halfUp[g] := by rw [hup, Vector.getElem_set_fin, if_neg hgh]
      exact ⟨h1, h2⟩
    · have hground : v.fab.ground = (d.fab.fencing h).ground := by unfold Fabric.ground; rw [hyard]
      exact hground
    · have h1 : v.fab.fenced[h] = true := by rw [hfenced, Vector.getElem_set_fin, if_pos rfl]
      exact h1
    · have h2 : v.fab.halfUp[h] = false := by rw [hup, Vector.getElem_set_fin, if_pos rfl]
      exact h2
    · exact congrArg (fun l => l ++ [r]) hreports
    · have h1 : v.fab.fenced[g] = d.fab.fenced[g] := by rw [hfenced, Vector.getElem_set_fin, if_neg (Ne.symm hg)]
      exact h1

end Sys2Proof.Machine
end

section
/-! PROOFS. Orders for a reset (R383, R395, R408 to R411, Table Errors-10). -/

namespace Sys2Proof.Machine
open Sys2Proof

-- Migrations in the scope ---------------------------------------------------------------------------------------------

/-- A migration of half h is under way, and in the scope. -/
def Dev.migHit (d : Dev) (hit : ClusterId → Bool) (h : HalfId) : Bool :=
  (d.lkk.mig[h].state == .copy || d.lkk.mig[h].state == .cutover) && hit (siteCluster d.lkk.mig[h].src)

/-- The migration of half h abandoned. -/
def Dev.abandonOf (d : Dev) (h : HalfId) : Dev :=
  let m := d.lkk.mig[h]
  ((d.onFab (fun f => { f with cut := f.cut.set h none })).markBad m.src m.cause).setLkk (fun k => { k with
    mig := k.mig.set h { m with state := .idle, copying := false }, migHeld := k.migHeld ++ [(m.tile, m.src, m.dst)] })

def Dev.abandonOne (d : Dev) (hit : ClusterId → Bool) (h : HalfId) : Dev := if d.migHit hit h then d.abandonOf h else d

theorem Dev.abandonMig_eq (d : Dev) (hit : ClusterId → Bool) : d.abandonMig hit = (d.abandonOne hit 0).abandonOne hit 1 := rfl

/-- Lockkeeper's state with site x among the bad ones. -/
def Lkk.marked (k : Lkk) (x : SiteIx) (cause : Nat) : Lkk :=
  if k.bad.contains x then k else { k with bad := k.bad ++ [x], causes := tput k.causes x.val cause }

theorem Lkk.marked_eq (k : Lkk) (x : SiteIx) (cause : Nat) :
    ∃ bad causes, x ∈ bad ∧ (∀ y ∈ k.bad, y ∈ bad) ∧ k.marked x cause = { k with bad := bad, causes := causes } := by
  unfold Lkk.marked
  split
  · next hc => exact ⟨k.bad, k.causes, List.contains_iff_mem.mp hc, fun _ h => h, rfl⟩
  · exact ⟨_, _, List.mem_append_right _ (List.mem_singleton_self _), fun _ h => List.mem_append_left _ h, rfl⟩

/-- What abandoning a migration does to Lockkeeper's state. -/
theorem Dev.abandonOf_lkk (d : Dev) (h : HalfId) : ∃ bad causes, d.lkk.mig[h].src ∈ bad ∧ (∀ x ∈ d.lkk.bad, x ∈ bad) ∧ (d.abandonOf h).lkk =
    { d.lkk with
      bad := bad, causes := causes, mig := d.lkk.mig.set h { d.lkk.mig[h] with state := .idle, copying := false }
      migHeld := d.lkk.migHeld ++ [(d.lkk.mig[h].tile, d.lkk.mig[h].src, d.lkk.mig[h].dst)] } := by
  have hlkk : (d.abandonOf h).lkk = { d.lkk.marked d.lkk.mig[h].src d.lkk.mig[h].cause with
      mig := (d.lkk.marked d.lkk.mig[h].src d.lkk.mig[h].cause).mig.set h { d.lkk.mig[h] with state := .idle, copying := false }
      migHeld := (d.lkk.marked d.lkk.mig[h].src d.lkk.mig[h].cause).migHeld ++ [(d.lkk.mig[h].tile, d.lkk.mig[h].src, d.lkk.mig[h].dst)] } := rfl
  obtain ⟨bad, causes, hsrc, hbad, hmarked⟩ := d.lkk.marked_eq d.lkk.mig[h].src d.lkk.mig[h].cause
  rw [hmarked] at hlkk
  exact ⟨bad, causes, hsrc, hbad, hlkk⟩

/-- Of the device without Lockkeeper's state, an abandoned migration ends its cut-over. -/
theorem Dev.abandonOf_rest (d : Dev) (h : HalfId) (k : Lkk) :
    ({ d.abandonOf h with lkk := k } : Dev) = { d.onFab (fun f => { f with cut := f.cut.set h none }) with lkk := k } := rfl

/-- From device a the migration of half h has been abandoned, where it was hit, and has left device b. -/
structure Dev.Abandons (hit : ClusterId → Bool) (h : HalfId) (a b : Dev) : Prop where
  gone : a.migHit hit h = true → (b.lkk.mig[h]).state = .idle ∧ b.fab.cut[h] = none ∧
    (a.lkk.mig[h].tile, a.lkk.mig[h].src, a.lkk.mig[h].dst) ∈ b.lkk.migHeld ∧ a.lkk.mig[h].src ∈ b.lkk.bad
  stays : a.migHit hit h = false → b.lkk.mig[h] = a.lkk.mig[h]
  other : ∀ g : HalfId, g ≠ h → b.lkk.mig[g] = a.lkk.mig[g] ∧ b.fab.cut[g] = a.fab.cut[g]
  held : ∀ q ∈ a.lkk.migHeld, q ∈ b.lkk.migHeld
  bad : ∀ x ∈ a.lkk.bad, x ∈ b.lkk.bad

theorem Dev.abandonOne_abandons (d : Dev) (hit : ClusterId → Bool) (h : HalfId) : Dev.Abandons hit h d (d.abandonOne hit h) := by
  by_cases hh : d.migHit hit h = true
  · obtain ⟨bad, causes, hsrc, hbad, hlkk⟩ := d.abandonOf_lkk h
    have hone : d.abandonOne hit h = d.abandonOf h := if_pos hh
    have hcut : (d.abandonOf h).fab.cut = d.fab.cut.set h none := by
      have hrest := congrArg (fun v : Dev => v.fab.cut) (d.abandonOf_rest h d.lkk)
      exact hrest
    rw [hone]
    refine ⟨fun _ => ⟨?_, ?_, ?_, ?_⟩, fun hn => (by rw [hh] at hn; cases hn), fun g hg => ⟨?_, ?_⟩, fun q hq => ?_, fun x hx => ?_⟩
    · rw [hlkk]
      exact congrArg Mig.state ((Vector.getElem_set_fin ..).trans (if_pos rfl))
    · rw [hcut]
      exact (Vector.getElem_set_fin ..).trans (if_pos rfl)
    · rw [hlkk]
      exact List.mem_append_right _ (List.mem_singleton_self _)
    · rw [hlkk]
      exact hsrc
    · rw [hlkk]
      exact (Vector.getElem_set_fin ..).trans (if_neg (Ne.symm hg))
    · rw [hcut]
      exact (Vector.getElem_set_fin ..).trans (if_neg (Ne.symm hg))
    · rw [hlkk]
      exact List.mem_append_left _ hq
    · rw [hlkk]
      exact hbad x hx
  · have hone : d.abandonOne hit h = d := if_neg hh
    rw [hone]
    exact ⟨fun hn => absurd hn hh, fun _ => rfl, fun _ _ => ⟨rfl, rfl⟩, fun _ h => h, fun _ h => h⟩

/-- Each half's migration is abandoned where it is hit, and stays as it is where it is not. -/
theorem Dev.abandonMig_halves (d : Dev) (hit : ClusterId → Bool) (h : HalfId) :
    (d.migHit hit h = true → ((d.abandonMig hit).lkk.mig[h]).state = .idle ∧ (d.abandonMig hit).fab.cut[h] = none ∧
      (d.lkk.mig[h].tile, d.lkk.mig[h].src, d.lkk.mig[h].dst) ∈ (d.abandonMig hit).lkk.migHeld ∧ d.lkk.mig[h].src ∈ (d.abandonMig hit).lkk.bad) ∧
    (d.migHit hit h = false → (d.abandonMig hit).lkk.mig[h] = d.lkk.mig[h]) := by
  have first := d.abandonOne_abandons hit 0
  have second := (d.abandonOne hit 0).abandonOne_abandons hit 1
  rw [← Dev.abandonMig_eq] at second
  match h with
  | 0 =>
    obtain ⟨hmig, hcut⟩ := second.other 0 (by decide)
    refine ⟨fun hh => ?_, fun hh => hmig.trans (first.stays hh)⟩
    obtain ⟨hs, hc, hm, hb⟩ := first.gone hh
    exact ⟨(congrArg Mig.state hmig).trans hs, hcut.trans hc, second.held _ hm, second.bad _ hb⟩
  | 1 =>
    obtain ⟨hmig, hcut⟩ := first.other 1 (by decide)
    have hhit : (d.abandonOne hit 0).migHit hit 1 = d.migHit hit 1 := by unfold Dev.migHit; rw [hmig]
    refine ⟨fun hh => ?_, fun hh => (second.stays (hhit.trans hh)).trans hmig⟩
    have hgone := second.gone (hhit.trans hh)
    rw [hmig] at hgone
    exact hgone

theorem Dev.abandonOne_keeps {γ : Type} (p : Dev → γ)
    (hp : ∀ (d : Dev) c b m t q, p { d with fab := { d.fab with cut := c }, lkk := { d.lkk with bad := b, mig := m, migHeld := t, causes := q } } = p d)
    (d : Dev) (hit : ClusterId → Bool) (h : HalfId) : p (d.abandonOne hit h) = p d := by
  refine ite_keeps p ?_ rfl
  obtain ⟨bad, causes, -, -, hlkk⟩ := d.abandonOf_lkk h
  have heq : d.abandonOf h = { d.onFab (fun f => { f with cut := f.cut.set h none }) with lkk := (d.abandonOf h).lkk } := d.abandonOf_rest h _
  rw [heq, hlkk]
  exact hp d _ _ _ _ _

/-- What abandoning migrations leaves alone: all but the cut-overs, the migrations and the sites declared bad. -/
theorem Dev.abandonMig_keeps {γ : Type} (p : Dev → γ)
    (hp : ∀ (d : Dev) c b m t q, p { d with fab := { d.fab with cut := c }, lkk := { d.lkk with bad := b, mig := m, migHeld := t, causes := q } } = p d)
    (d : Dev) (hit : ClusterId → Bool) : p (d.abandonMig hit) = p d :=
  (Dev.abandonOne_keeps p hp _ hit 1).trans (Dev.abandonOne_keeps p hp d hit 0)

-- The faults of a cluster reset ---------------------------------------------------------------------------------------

/-- The fault that the token service engine receives for a launch with a stream on one of the tiles. -/
def Launch.parityFault (l : Launch) (ts : List TileId) : Option TileMsg :=
  (l.streams.find? (fun s => ts.contains s.1)).map (fun s => TileMsg.fault s.1 s.2 l.tag (Cause.code .scratchParity) 0 0)

theorem Dev.parityFaults_eq (d : Dev) (ts : List TileId) :
    d.parityFaults ts = d.onFab (fun f => { f with inbox := f.inbox ++ d.svc.launches.filterMap (fun l => l.parityFault ts) }) := by
  have hfold (l : List Launch) (d : Dev) : l.foldl (fun d l => match l.streams.find? (fun s => ts.contains s.1) with
      | some s => d.onFab (fun f => { f with inbox := f.inbox ++ [TileMsg.fault s.1 s.2 l.tag (Cause.code .scratchParity) 0 0] })
      | none => d) d = d.onFab (fun f => { f with inbox := f.inbox ++ l.filterMap (fun l => l.parityFault ts) }) := by
    induction l generalizing d with
    | nil => simp [Dev.onFab]
    | cons a r ih =>
      rw [List.foldl_cons, ih]
      cases ha : a.streams.find? (fun s => ts.contains s.1) with
      | none => rw [List.filterMap_cons_none (by rw [Launch.parityFault, ha]; rfl)]
      | some s => rw [List.filterMap_cons_some (by rw [Launch.parityFault, ha]; rfl)]; simp [Dev.onFab]
  exact hfold d.svc.launches d

/-- A launch with a stream on one of the tiles meets a fault there. -/
theorem Launch.parityFault_of_stream {l : Launch} {ts : List TileId} {p : TileId × StreamId} (hp : p ∈ l.streams) (ht : p.1 ∈ ts) :
    ∃ q ∈ l.streams, q.1 ∈ ts ∧ l.parityFault ts = some (TileMsg.fault q.1 q.2 l.tag (Cause.code .scratchParity) 0 0) := by
  cases hf : l.streams.find? (fun s => ts.contains s.1) with
  | none => exact absurd (List.contains_iff_mem.mpr ht) (by simpa using List.find?_eq_none.mp hf p hp)
  | some q =>
    have hq := List.find?_some hf
    exact ⟨q, List.mem_of_find?_eq_some hf, List.contains_iff_mem.mp hq, by rw [Launch.parityFault, hf]; rfl⟩

theorem mem_scopeTiles (r : ResetSt) (t : TileId) : t ∈ scopeTiles r ↔ r.scope.getLsbD (tileCluster t).val = true := by
  simp [scopeTiles, ResetSt.covers]

end Sys2Proof.Machine
end

section
/-! PROOFS. An order for a reset taken or refused (R411), and the rails and clocks that are lost (R452, R458, Table Lands-5). -/

namespace Sys2Proof.Machine
open Sys2Proof

-- Orders --------------------------------------------------------------------------------------------------------------

/-- The reset that an order leaves in progress: it takes the scope of the one it replaces. -/
def Dev.ordered (d : Dev) (level target cause : Nat) (clear : Bool) : ResetSt :=
  match d.lkk.rst with
  | some q => { level := level, scope := resetScope level target ||| q.scope, clear := clear || q.clear, cause := cause, asserted := false }
  | none => { level := level, scope := resetScope level target, clear := clear, cause := cause, asserted := false }

/-- The device with reset r in progress. -/
def Dev.inReset (d : Dev) (r : ResetSt) : Dev := d.setLkk (fun k => { k with rst := some r, refused := false })

/-- Step 2 of Table Bringup-4: halves in scope are fenced, and a cluster reset faults the launches in its scope. -/
def Dev.stopScope (d : Dev) (e : Env) (r : ResetSt) : Dev :=
  let d := if r.half 0 then d.fenceHalf e 0 .reset else d
  let d := if r.half 1 then d.fenceHalf e 1 .reset else d
  if r.level = 1 then d.parityFaults (scopeTiles r) else d

/-- No reset in progress is as wide as the level. -/
def Dev.Wider (d : Dev) (level : Nat) : Prop := ∀ q, d.lkk.rst = some q → q.level < level

theorem Dev.ordered_level (d : Dev) (level target cause : Nat) (clear : Bool) : (d.ordered level target cause clear).level = level := by
  unfold Dev.ordered
  split <;> rfl

theorem Dev.ordered_cause (d : Dev) (level target cause : Nat) (clear : Bool) : (d.ordered level target cause clear).cause = cause := by
  unfold Dev.ordered
  split <;> rfl

theorem Dev.ordered_asserted (d : Dev) (level target cause : Nat) (clear : Bool) : (d.ordered level target cause clear).asserted = false := by
  unfold Dev.ordered
  split <;> rfl

/-- The order's own scope is in the scope of the reset. -/
theorem Dev.ordered_scope {d : Dev} {level target cause : Nat} {clear : Bool} {i : Nat} (h : (resetScope level target).getLsbD i = true) :
    (d.ordered level target cause clear).scope.getLsbD i = true := by
  unfold Dev.ordered
  split
  · rw [BitVec.getLsbD_or, h, Bool.true_or]
  · exact h

theorem Dev.orderReset_of_wider {d : Dev} {level : Nat} (e : Env) (target cause : Nat) (clear : Bool) (hw : d.Wider level) :
    d.orderReset e level target cause clear =
      ((d.inReset (d.ordered level target cause clear)).stopScope e (d.ordered level target cause clear)).abandonMig
        (d.ordered level target cause clear).covers := by
  unfold Dev.orderReset Dev.stopScope Dev.inReset
  rw [Dev.ordered_level]
  cases hr : d.lkk.rst with
  | none =>
    have ho : d.ordered level target cause clear = { level := level, scope := resetScope level target, clear := clear, cause := cause, asserted := false } := by
      unfold Dev.ordered
      rw [hr]
    rw [ho]
    rfl
  | some q =>
    have ho : d.ordered level target cause clear =
        { level := level, scope := resetScope level target ||| q.scope, clear := clear || q.clear, cause := cause, asserted := false } := by
      unfold Dev.ordered
      rw [hr]
    rw [ho]
    exact if_neg (by simpa using hw q hr)

theorem Dev.orderReset_refused {d : Dev} {level : Nat} (e : Env) (target cause : Nat) (clear : Bool) {q : ResetSt} (hq : d.lkk.rst = some q)
    (hl : level ≤ q.level) : d.orderReset e level target cause clear = d.setLkk (fun k => { k with refused := true }) := by
  unfold Dev.orderReset
  rw [hq]
  exact if_pos (decide_eq_true hl)

theorem Dev.parityFaults_serves (d : Dev) (ts : List TileId) : d.Serves (d.parityFaults ts) := by
  rw [Dev.parityFaults_eq]
  exact .onFab d (.inbox _ _)

theorem Dev.stopScope_downs (d : Dev) (e : Env) (r : ResetSt) :
    d.Downs (d.stopScope e r) ∧ ∀ h : HalfId, r.half h = true → Dev.Fenced d (d.stopScope e r) h := by
  have last (d : Dev) : d.Downs (if r.level = 1 then d.parityFaults (scopeTiles r) else d) := by
    split
    · exact .of_serves (d.parityFaults_serves _)
    · exact .refl d
  have one (d : Dev) (h : HalfId) : d.Downs (if r.half h then d.fenceHalf e h .reset else d) ∧
      (r.half h = true → Dev.Fenced d (if r.half h then d.fenceHalf e h .reset else d) h) ∧
      ∀ g : HalfId, g ≠ h → (if r.half h then d.fenceHalf e h .reset else d).fab.fenced[g] = d.fab.fenced[g] := by
    obtain ⟨hd, hf, ho⟩ := d.fenceHalf_downs e h .reset
    by_cases hh : r.half h = true
    · rw [if_pos hh]
      exact ⟨hd, fun _ => hf, ho⟩
    · rw [if_neg hh]
      exact ⟨.refl d, fun h => absurd h hh, fun _ _ => rfl⟩
  obtain ⟨hd0, hf0, ho0⟩ := one d 0
  obtain ⟨hd1, hf1, -⟩ := one (if r.half 0 then d.fenceHalf e 0 .reset else d) 1
  refine ⟨(hd0.trans hd1).trans (last _), fun h hh => ?_⟩
  match h with
  | 0 => exact ((hf0 hh).trans hd1.toLater).trans (last _).toLater
  | 1 => exact ((hf1 hh).after (ho0 1 (by decide)) hd0.reports).trans (last _).toLater

/-- An order for a reset of level 1 fences no half. -/
theorem Dev.stopScope_of_cluster {d : Dev} (e : Env) {r : ResetSt} (h : r.level = 1) : d.stopScope e r = d.parityFaults (scopeTiles r) := by
  have hh (x : HalfId) : ¬ r.half x = true := by simp [ResetSt.half, h]
  unfold Dev.stopScope
  dsimp only
  rw [if_neg (hh 0), if_neg (hh 1), if_pos h]

theorem ResetSt.half_iff (r : ResetSt) (h : HalfId) : r.half h = true ↔ 2 ≤ r.level ∧ r.scope.getLsbD (16 * h.val) = true := by
  simp [ResetSt.half]

/-- What an order for a reset leaves alone: what stays through fences, and is not of Lockkeeper or of a cut-over. -/
theorem Dev.orderReset_keeps {γ : Type} (p : Dev → γ) (hp : ∀ d : Dev, p d.hull = p d)
    (hlkk : ∀ (d : Dev) k, p { d with lkk := k } = p d) (d : Dev) (e : Env) (level target cause : Nat) (clear : Bool) :
    p (d.orderReset e level target cause clear) = p d := by
  by_cases hw : d.Wider level
  · rw [Dev.orderReset_of_wider e target cause clear hw]
    have hcut (d : Dev) (c : Vector (Option CutOver) 2) (k : Lkk) : p { d with fab := { d.fab with cut := c }, lkk := k } = p d :=
      (hlkk { d with fab := { d.fab with cut := c } } k).trans ((hp _).symm.trans (hp d))
    rw [Dev.abandonMig_keeps p (fun d c _ _ _ _ => hcut d c _), (Dev.stopScope_downs _ e _).1.keeps p hp]
    exact hlkk d _
  · simp only [Dev.Wider, not_forall, Nat.not_lt] at hw
    obtain ⟨q, hq, hl⟩ := hw
    rw [Dev.orderReset_refused e target cause clear hq hl]
    exact hlkk d _

/-- Of the halves an order for a reset leaves alone what stays through fences, but for the cut-overs. -/
theorem Dev.orderReset_fab_keeps {γ : Type} (p : Fabric → γ) (hp : ∀ f : Fabric, p f.ground = p f) (hcut : ∀ (f : Fabric) c, p { f with cut := c } = p f)
    (d : Dev) (e : Env) (level target cause : Nat) (clear : Bool) : p (d.orderReset e level target cause clear).fab = p d.fab := by
  by_cases hw : d.Wider level
  · rw [Dev.orderReset_of_wider e target cause clear hw]
    rw [Dev.abandonMig_keeps (fun d => p d.fab) (fun d c _ _ _ _ => hcut d.fab c), (Dev.stopScope_downs _ e _).1.fab_keeps p hp]
    rfl
  · simp only [Dev.Wider, not_forall, Nat.not_lt] at hw
    obtain ⟨q, hq, hl⟩ := hw
    rw [Dev.orderReset_refused e target cause clear hq hl]
    rfl

theorem Dev.orderReset_later (d : Dev) (e : Env) (level target cause : Nat) (clear : Bool) : d.Later (d.orderReset e level target cause clear) := by
  by_cases hw : d.Wider level
  · rw [Dev.orderReset_of_wider e target cause clear hw]
    have hstart : d.Later (d.inReset (d.ordered level target cause clear)) := .of_same rfl rfl rfl
    exact (hstart.trans (Dev.stopScope_downs _ e _).1.toLater).trans (.of_same (Dev.abandonMig_keeps (fun d => d.fab.reports) (fun _ _ _ _ _ _ => rfl) ..)
      (Dev.abandonMig_keeps (fun d => d.fab.fenced) (fun _ _ _ _ _ _ => rfl) ..) (Dev.abandonMig_keeps (fun d => d.fab.halfUp) (fun _ _ _ _ _ _ => rfl) ..))
  · simp only [Dev.Wider, not_forall, Nat.not_lt] at hw
    obtain ⟨q, hq, hl⟩ := hw
    rw [Dev.orderReset_refused e target cause clear hq hl]
    exact .of_same rfl rfl rfl

/-- Of Lockkeeper's state an order that is taken leaves the reset in progress, and what is not of migrations or of sites as it was. -/
theorem Dev.orderReset_lkk_keeps {γ : Type} (p : Lkk → γ) (hp : ∀ (k : Lkk) b m t q, p { k with bad := b, mig := m, migHeld := t, causes := q } = p k)
    {d : Dev} {level : Nat} (hw : d.Wider level) (e : Env) (target cause : Nat) (clear : Bool) :
    p (d.orderReset e level target cause clear).lkk = p (d.inReset (d.ordered level target cause clear)).lkk := by
  rw [Dev.orderReset_of_wider e target cause clear hw, Dev.abandonMig_keeps (fun d => p d.lkk) (fun d _ _ _ _ _ => hp d.lkk _ _ _ _)]
  exact congrArg p ((Dev.stopScope_downs _ e _).1.keeps Dev.lkk (fun _ => rfl))

/-- What stands after an order for a reset has been taken, but for the halves of the device before it. -/
theorem orderTaken_of_settles {s u : State} {level target cause : Nat} {clear : Bool} (hw : s.d.Wider level)
    (hu : Settles { s.bump with d := s.d.bump.orderReset s.env level target cause clear } u) :
    OrderTaken s u level (resetScope level target) clear cause := by
  have hbump : s.d.bump.ordered level target cause clear = s.d.ordered level target cause clear := rfl
  rw [Dev.orderReset_of_wider (d := s.d.bump) s.env target cause clear hw, hbump] at hu
  generalize hr : s.d.ordered level target cause clear = r at hu
  have hlevel : r.level = level := by rw [← hr, Dev.ordered_level]
  obtain ⟨hdown, hfenced⟩ := (s.d.bump.inReset r).stopScope_downs s.env r
  generalize hv : (s.d.bump.inReset r).stopScope s.env r = v at hu hdown hfenced
  have hlkk : v.lkk = (s.d.bump.inReset r).lkk := hdown.keeps Dev.lkk (fun _ => rfl)
  have lkk {γ : Type} (p : Lkk → γ) (hp : ∀ (k : Lkk) b c d, p { k with events := b, dropped := c, evSent := d } = p k) :
      p u.d.lkk = p (v.abandonMig r.covers).lkk := hu.keeps (fun d => p d.lkk) (fun d => hp d.lkk _ _ _)
  have left {γ : Type} (p : Lkk → γ) (hp : ∀ (k : Lkk) b c d, p { k with events := b, dropped := c, evSent := d } = p k)
      (hq : ∀ (k : Lkk) b m t q, p { k with bad := b, mig := m, migHeld := t, causes := q } = p k) : p u.d.lkk = p (s.d.bump.inReset r).lkk :=
    (lkk p hp).trans ((Dev.abandonMig_keeps (fun d => p d.lkk) (fun d _ _ _ _ _ => hq d.lkk _ _ _ _) v r.covers).trans (congrArg p hlkk))
  have fab {γ : Type} (p : Fabric → γ) (hp : ∀ (f : Fabric) c, p { f with cut := c } = p f) : p (v.abandonMig r.covers).fab = p v.fab :=
    Dev.abandonMig_keeps (fun d => p d.fab) (fun d _ _ _ _ _ => hp d.fab _) v r.covers
  have hdevice : OnlyDevice s u := hu.onlyDevice
  refine ⟨r, left Lkk.rst (fun _ _ _ _ => rfl) (fun _ _ _ _ _ => rfl), left Lkk.refused (fun _ _ _ _ => rfl) (fun _ _ _ _ _ => rfl), hlevel,
    by rw [← hr, Dev.ordered_cause], by rw [← hr, Dev.ordered_asserted], fun hn => ?_, fun q hq => ?_, fun h hl hs => ?_, fun h1 => ?_, fun h => ?_, hdevice⟩
  · rw [← hr, Dev.ordered, hn]
    exact ⟨rfl, rfl⟩
  · rw [← hr, Dev.ordered, hq]
    exact ⟨rfl, rfl⟩
  · have hdev : Dev.Fenced s.d (v.abandonMig r.covers) h := by
      have hf := hfenced h ((r.half_iff h).mpr ⟨hlevel ▸ hl, hs⟩)
      unfold Dev.Fenced at hf ⊢
      rw [fab Fabric.fenced (fun _ _ => rfl), fab Fabric.halfUp (fun _ _ => rfl), fab Fabric.reports (fun _ _ => rfl)]
      exact hf
    exact fences_of_settles hu hdev
  · rw [Dev.stopScope_of_cluster s.env (hlevel.trans h1), Dev.parityFaults_eq] at hv
    have ufab {γ : Type} (p : Fabric → γ) (hp : ∀ (f : Fabric) c, p { f with cut := c } = p f) (hh : ∀ (f : Fabric) b, p { f with halfUp := b } = p f) :
        p u.d.fab = p v.fab := (hu.keeps (fun d => p d.fab) (fun d => hh d.fab _)).trans (fab p hp)
    have vfab {γ : Type} (p : Fabric → γ) : p v.fab = p { s.d.bump.fab with
        inbox := s.d.fab.inbox ++ s.d.svc.launches.filterMap (fun l => l.parityFault (scopeTiles r)) } := by
      rw [← hv]
      rfl
    refine ⟨(ufab Fabric.fenced (fun _ _ => rfl) (fun _ _ => rfl)).trans (vfab Fabric.fenced), (ufab Fabric.sites (fun _ _ => rfl) (fun _ _ => rfl)).trans (vfab Fabric.sites),
      (ufab Fabric.cols (fun _ _ => rfl) (fun _ _ => rfl)).trans (vfab Fabric.cols), (ufab Fabric.reports (fun _ _ => rfl) (fun _ _ => rfl)).trans (vfab Fabric.reports),
      fun l hl hp => ?_⟩
    obtain ⟨p, hp, hs⟩ := hp
    obtain ⟨q, hq, hqs, hmsg⟩ := Launch.parityFault_of_stream hp ((mem_scopeTiles r p.1).mpr hs)
    refine ⟨q, hq, (mem_scopeTiles r q.1).mp hqs, ?_⟩
    have hinbox : u.d.fab.inbox = s.d.fab.inbox ++ s.d.svc.launches.filterMap (fun l => l.parityFault (scopeTiles r)) :=
      (ufab Fabric.inbox (fun _ _ => rfl) (fun _ _ => rfl)).trans (vfab Fabric.inbox)
    rw [hinbox]
    exact List.mem_append_right _ (List.mem_filterMap.mpr ⟨l, hl, hmsg⟩)
  · obtain ⟨hgone, hstays⟩ := v.abandonMig_halves r.covers h
    have hmig : v.lkk.mig[h] = s.d.lkk.mig[h] := by rw [hlkk]; rfl
    have hmigs := lkk Lkk.mig (fun _ _ _ _ => rfl)
    have hcut : u.d.fab.cut = (v.abandonMig r.covers).fab.cut := hu.keeps (fun d => d.fab.cut) (fun _ => rfl)
    have hhit : v.migHit r.covers h = true ↔
        (s.d.lkk.mig[h].state = .copy ∨ s.d.lkk.mig[h].state = .cutover) ∧ r.scope.getLsbD (siteCluster s.d.lkk.mig[h].src).val = true := by
      unfold Dev.migHit ResetSt.covers
      rw [hmig]
      simp
    refine ⟨fun hst hsc => ?_, fun hno => ?_⟩
    · have hg := hgone (hhit.mpr ⟨hst, hsc⟩)
      rw [hmig] at hg
      rw [hmigs, hcut, lkk Lkk.migHeld (fun _ _ _ _ => rfl), lkk Lkk.bad (fun _ _ _ _ => rfl)]
      exact hg
    · have hmiss : v.migHit r.covers h = false := by
        rw [← Bool.not_eq_true, hhit]
        rintro ⟨hst, hsc⟩
        obtain ⟨h1, h2⟩ | h1 := hno
        · exact hst.elim h1 h2
        · rw [hsc] at h1
          cases h1
      rw [hmigs]
      exact (hstays hmiss).trans hmig

/-- A write of a reset order by the PF with GO. -/
theorem writeReset_yields {c : Instr} {s : State} {f : FuncId} {v : Word} {level : Nat} {scope : BitVec 32}
    (hc : exec c s = .next (s.onAll (fun e d => d.writeReset e f level v))) (hgo : f = 0 ∧ v.getLsbD 31 = true)
    (hscope : resetScope level (fld v.toNat 4 0) = scope) : Yields c s (fun u => OrderMet s u level scope (v.getLsbD 30) 0) := by
  have hwrite : s.d.bump.writeReset s.env f level v = s.d.bump.orderReset s.env level (fld v.toNat 4 0) 0 (v.getLsbD 30) :=
    if_neg (by simp [hgo.1, hgo.2])
  refine yields_onAll_settles hc hwrite (fun u hu => ⟨?_, fun hw => ?_⟩)
  · rintro ⟨q, hq, hl⟩
    rw [Dev.orderReset_refused (d := s.d.bump) s.env _ _ _ hq hl] at hu
    exact hu.becomes
  · rw [← hscope]
    exact orderTaken_of_settles hw hu

/-- Without GO, or from another function, it does nothing. -/
theorem writeReset_yields_idle {c : Instr} {s : State} {f : FuncId} {v : Word} {level : Nat}
    (hc : exec c s = .next (s.onAll (fun e d => d.writeReset e f level v))) (hgo : ¬ (f = 0 ∧ v.getLsbD 31 = true)) :
    Yields c s (fun u => Becomes s u s.d.bump) := by
  have hwrite : s.d.bump.writeReset s.env f level v = s.d.bump := if_pos (by
    rw [not_and_or] at hgo
    obtain h | h := hgo
    · simp [h]
    · rw [Bool.not_eq_true] at h
      rw [h]
      simp)
  exact yields_onAll_settles hc hwrite (fun u hu => hu.becomes)

theorem fld_lt (n lo hi : Nat) : fld n hi lo < 2 ^ (hi + 1 - lo) := by
  unfold fld
  exact Nat.mod_lt _ (by positivity)

theorem resetOrders (s : State) (f : FuncId) (v : Word) : let go := f = 0 ∧ v.getLsbD 31 = true
    let target := fld v.toNat 4 0
    (¬ go → Yields (.clusterReset f v) s (fun u => Becomes s u s.d.bump) ∧ Yields (.halfComputeReset f v) s (fun u => Becomes s u s.d.bump) ∧
      Yields (.computeReset f v) s (fun u => Becomes s u s.d.bump) ∧ Yields (.basinReset f v) s (fun u => Becomes s u s.d.bump)) ∧
    (go → Yields (.clusterReset f v) s (fun u => OrderMet s u 1 (BitVec.ofNat 32 (2 ^ target)) (v.getLsbD 30) 0) ∧
      Yields (.halfComputeReset f v) s (fun u => OrderMet s u 2 (if target % 2 = 0 then 0x0000FFFF else 0xFFFF0000) (v.getLsbD 30) 0) ∧
      Yields (.computeReset f v) s (fun u => OrderMet s u 3 0xFFFFFFFF (v.getLsbD 30) 0) ∧
      Yields (.basinReset f v) s (fun u => OrderMet s u 4 0xFFFFFFFF (v.getLsbD 30) 0)) := by
  refine ⟨fun hgo => ⟨writeReset_yields_idle rfl hgo, writeReset_yields_idle rfl hgo, writeReset_yields_idle rfl hgo, writeReset_yields_idle rfl hgo⟩,
    fun hgo => ⟨writeReset_yields rfl hgo ?_, writeReset_yields rfl hgo rfl, writeReset_yields rfl hgo rfl, writeReset_yields rfl hgo rfl⟩⟩
  have htarget : fld v.toNat 4 0 < 32 := fld_lt v.toNat 0 4
  unfold resetScope
  rw [if_pos rfl, Nat.mod_eq_of_lt htarget]

end Sys2Proof.Machine
end

section
/-! PROOFS. The rails and the sideband clock that are lost and return (R452, R458, Table Lands-5). -/

namespace Sys2Proof.Machine
open Sys2Proof

-- A half without VIN --------------------------------------------------------------------------------------------------

/-- The columns of the listed sites of a half, put out of service. -/
theorem tget_dropped (l : Tab Column) (h k : Nat) :
    tget (l.map (fun p => if p.1 / 272 = h then (p.1, { p.2 with phase := .down }) else p)) Column.init k =
      if k / 272 = h then { tget l Column.init k with phase := .down } else tget l Column.init k := by
  induction l with
  | nil => exact (ite_self (c := k / 272 = h) _).symm
  | cons p r ih =>
    obtain ⟨j, c⟩ := p
    have hkey : (if j / 272 = h then (j, { c with phase := ColPhase.down }) else (j, c)).1 = j := ite_keeps Prod.fst rfl rfl
    have hval : (if j / 272 = h then (j, { c with phase := ColPhase.down }) else (j, c)).2 = if j / 272 = h then { c with phase := .down } else c :=
      apply_ite Prod.snd ..
    rw [List.map_cons, tget, tget, hkey, hval, ih]
    by_cases hj : j = k
    · rw [if_pos hj, if_pos hj, hj]
    · rw [if_neg hj, if_neg hj]

theorem siteHalf_iff (x : SiteIx) (h : HalfId) : x.val / 272 = h.val ↔ siteHalf x = h := by
  simp [siteHalf, Fin.ext_iff]

theorem Dev.dropColumns_col (d : Dev) (h : HalfId) (x : SiteIx) :
    (d.dropColumns h).fab.col x = if siteHalf x = h then { d.fab.col x with phase := .down } else d.fab.col x := by
  have hcol := tget_dropped d.fab.cols h.val x.val
  simp only [siteHalf_iff] at hcol
  exact hcol

theorem Dev.siteDark_keeps {γ : Type} (p : Dev → γ) (hp : ∀ (d : Dev) s t, p { d with fab := { d.fab with sites := s, samplers := t } } = p d)
    (d : Dev) (i : DomainIx) : p (d.siteDark i) = p d := by
  unfold Dev.siteDark
  split
  · exact hp d _ d.fab.samplers
  · exact hp d d.fab.sites _

/-- What a cluster without its bank leaves alone: all but its power, its sites and its sampler. -/
theorem Dev.dropCluster_keeps {γ : Type} (p : Dev → γ)
    (hp : ∀ (d : Dev) c m o s t, p { d with pwr := { d.pwr with cls := c, doms := m, orders := o }, fab := { d.fab with sites := s, samplers := t } } = p d)
    (d : Dev) (h : HalfId) (b : Nat) : p (d.dropCluster h b) = p d := by
  have hfab (d : Dev) (s : Tab Site) (t : Tab Sampler) : p { d with fab := { d.fab with sites := s, samplers := t } } = p d :=
    hp d d.pwr.cls d.pwr.doms d.pwr.orders s t
  have hclp (c : ClusterId) (v : ClPower) : p (d.setClp c v) = p d := hp d _ d.pwr.doms d.pwr.orders d.fab.sites d.fab.samplers
  have horders (d : Dev) (o : List DomainIx) : p { d with pwr := { d.pwr with orders := o } } = p d := hp d d.pwr.cls d.pwr.doms o d.fab.sites d.fab.samplers
  have hdom (d : Dev) (i : DomainIx) (v : DomSt) : p (d.setDom i v) = p d := hp d d.pwr.cls _ d.pwr.orders d.fab.sites d.fab.samplers
  unfold Dev.dropCluster
  refine Eq.trans (foldl_keeps p _ (fun d u => ?_) _ _) (hclp _ _)
  exact ite_keeps p ((Dev.siteDark_keeps p hfab _ _).trans ((hdom _ _ _).trans (horders d _))) (horders d _)

/-- One bank of a half loses VIN. -/
def Dev.dropBank (d : Dev) (h : HalfId) (b : Nat) : Dev :=
  if d.bankSt h b == .up || d.bankSt h b == .starting then
    if b < 16 then (d.setBank h b .off).dropCluster h b else (d.setBank h b .off).dropColumns h
  else d

/-- Weir's control of a half ends. -/
def Dev.endControl (d : Dev) (h : HalfId) : Dev := { d with pwr := { d.pwr with ctl := d.pwr.ctl.set h false } }

theorem Dev.dropHalf_eq (d : Dev) (h : HalfId) : d.dropHalf h = ((List.range 19).foldl (fun d b => d.dropBank h b) d).endControl h := by
  unfold Dev.dropHalf Dev.endControl
  generalize List.range 19 = l
  rfl

theorem Dev.bankSt_dropBank (d : Dev) {h g : HalfId} {b k : Nat} (hb : b < 20) (hk : k < 20) :
    (d.dropBank h b).bankSt g k = if g = h ∧ k = b ∧ (d.bankSt h b = .up ∨ d.bankSt h b = .starting) then .off else d.bankSt g k := by
  by_cases hd : d.bankSt h b = .up ∨ d.bankSt h b = .starting
  · have hset : (d.dropBank h b).bankSt g k = (d.setBank h b .off).bankSt g k := by
      unfold Dev.dropBank
      rw [if_pos (by simpa using hd)]
      exact ite_keeps (fun d : Dev => d.bankSt g k) (Dev.dropCluster_keeps (fun d => d.bankSt g k) (fun _ _ _ _ _ _ => rfl) _ h b) rfl
    rw [hset, Dev.bankSt_setBank _ _ hb hk]
    simp [hd]
  · have hsame : d.dropBank h b = d := if_neg (by simpa using hd)
    rw [hsame]
    simp [hd]

/-- Banks that lose VIN are off if they were up or starting. -/
theorem Dev.bankSt_dropBanks (l : List Nat) (hl : ∀ b ∈ l, b < 20) (d : Dev) (h g : HalfId) {k : Nat} (hk : k < 20) :
    (l.foldl (fun d b => d.dropBank h b) d).bankSt g k =
      if g = h ∧ k ∈ l ∧ (d.bankSt h k = .up ∨ d.bankSt h k = .starting) then .off else d.bankSt g k := by
  induction l generalizing d with
  | nil => simp
  | cons b r ih =>
    obtain ⟨hb, hr⟩ := List.forall_mem_cons.mp hl
    rw [List.foldl_cons, ih hr, Dev.bankSt_dropBank d hb hk, Dev.bankSt_dropBank d hb hk]
    by_cases hg : g = h
    · subst hg
      by_cases hkb : k = b
      · subst hkb
        by_cases hd : d.bankSt g k = .up ∨ d.bankSt g k = .starting <;> simp [hd]
      · simp [hkb]
    · simp [hg]

theorem Dev.dropBank_col (d : Dev) (h : HalfId) (b : Nat) (x : SiteIx) :
    (d.dropBank h b).fab.col x = d.fab.col x ∨ (siteHalf x = h ∧ (d.dropBank h b).fab.col x = { d.fab.col x with phase := .down }) := by
  unfold Dev.dropBank
  split
  · split
    · exact .inl (Dev.dropCluster_keeps (fun d => d.fab.col x) (fun _ _ _ _ _ _ => rfl) _ h b)
    · rw [Dev.dropColumns_col]
      split
      · next hx => exact .inr ⟨hx, rfl⟩
      · exact .inl rfl
  · exact .inl rfl

theorem Dev.dropBanks_col_other (l : List Nat) (d : Dev) {h : HalfId} {x : SiteIx} (hx : siteHalf x ≠ h) :
    (l.foldl (fun d b => d.dropBank h b) d).fab.col x = d.fab.col x :=
  foldl_keeps (fun d : Dev => d.fab.col x) _ (fun d b => (d.dropBank_col h b x).elim id (fun hh => absurd hh.1 hx)) l d

theorem Dev.dropBanks_col_down (l : List Nat) (d : Dev) {h : HalfId} {x : SiteIx} (hc : (d.fab.col x).phase = .down) :
    ((l.foldl (fun d b => d.dropBank h b) d).fab.col x).phase = .down :=
  foldl_preserves (P := fun d : Dev => (d.fab.col x).phase = .down) (fun d b hd => (d.dropBank_col h b x).elim (fun he => by rw [he]; exact hd)
    (fun he => by rw [he.2])) l hc

/-- A half whose VMESH was up loses its columns with it. -/
theorem Dev.dropBanks_col (l : List Nat) (hl : ∀ b ∈ l, b < 20) (hm : 16 ∈ l) (d : Dev) {h : HalfId} {x : SiteIx} (hx : siteHalf x = h) (hup : d.bankSt h 16 = .up) :
    ((l.foldl (fun d b => d.dropBank h b) d).fab.col x).phase = .down := by
  induction l generalizing d with
  | nil => cases hm
  | cons b r ih =>
    obtain ⟨hb, hr⟩ := List.forall_mem_cons.mp hl
    rw [List.foldl_cons]
    by_cases hb16 : b = 16
    · subst hb16
      refine Dev.dropBanks_col_down r _ ?_
      have hdrop : d.dropBank h 16 = (d.setBank h 16 .off).dropColumns h := if_pos (by simp [hup])
      rw [hdrop, Dev.dropColumns_col, if_pos hx]
    · refine ih hr ((List.mem_cons.mp hm).resolve_left (Ne.symm hb16)) _ ?_
      rw [Dev.bankSt_dropBank d hb (by decide), if_neg (fun hh => hb16 hh.2.1.symm)]
      exact hup

/-- What a half without VIN leaves alone: all but its power, its sites, samplers and columns. -/
theorem Dev.dropHalf_keeps {γ : Type} (p : Dev → γ)
    (hp : ∀ (d : Dev) c m o b l s t q, p { d with
      pwr := { d.pwr with cls := c, doms := m, orders := o, banks := b, ctl := l }, fab := { d.fab with sites := s, samplers := t, cols := q } } = p d)
    (d : Dev) (h : HalfId) : p (d.dropHalf h) = p d := by
  have hbank (d : Dev) (b : Nat) : p (d.dropBank h b) = p d := by
    refine ite_keeps p (ite_keeps p ?_ ?_) rfl
    · refine (Dev.dropCluster_keeps p (fun d c m o s t => ?_) _ h b).trans ?_
      · exact hp d c m o d.pwr.banks d.pwr.ctl s t d.fab.cols
      · exact hp d d.pwr.cls d.pwr.doms d.pwr.orders _ d.pwr.ctl d.fab.sites d.fab.samplers d.fab.cols
    · exact hp d d.pwr.cls d.pwr.doms d.pwr.orders _ d.pwr.ctl d.fab.sites d.fab.samplers _
  rw [Dev.dropHalf_eq]
  generalize hv : (List.range 19).foldl (fun d b => d.dropBank h b) d = v
  have hfold : p v = p d := by rw [← hv]; exact foldl_keeps p _ hbank _ d
  exact (hp v v.pwr.cls v.pwr.doms v.pwr.orders v.pwr.banks _ v.fab.sites v.fab.samplers v.fab.cols).trans hfold

theorem lt_of_mem_range19 : ∀ b ∈ List.range 19, b < 20 := fun _ hb => (List.mem_range.mp hb).trans (by decide)

theorem Dev.endControl_bankSt (d : Dev) (h g : HalfId) (k : Nat) : (d.endControl h).bankSt g k = d.bankSt g k := rfl

theorem Dev.endControl_fab (d : Dev) (h : HalfId) : (d.endControl h).fab = d.fab := rfl

theorem Dev.endControl_ctl (d : Dev) (h : HalfId) : (d.endControl h).pwr.ctl[h] = false := (Vector.getElem_set_fin ..).trans (if_pos rfl)

theorem Dev.bankSt_dropHalf (d : Dev) (h g : HalfId) {k : Nat} (hk : k < 20) : (d.dropHalf h).bankSt g k =
    if g = h ∧ k < 19 ∧ (d.bankSt h k = .up ∨ d.bankSt h k = .starting) then .off else d.bankSt g k := by
  have hall := Dev.bankSt_dropBanks (List.range 19) lt_of_mem_range19 d h g hk
  simp only [List.mem_range] at hall
  rw [Dev.dropHalf_eq, Dev.endControl_bankSt, hall]

theorem Dev.dropHalf_col_other (d : Dev) {h : HalfId} {x : SiteIx} (hx : siteHalf x ≠ h) : (d.dropHalf h).fab.col x = d.fab.col x := by
  rw [Dev.dropHalf_eq, Dev.endControl_fab]
  exact Dev.dropBanks_col_other _ d hx

theorem Dev.dropHalf_col_down (d : Dev) {h : HalfId} {x : SiteIx} (hx : siteHalf x = h) (hup : d.bankSt h 16 = .up) :
    ((d.dropHalf h).fab.col x).phase = .down := by
  rw [Dev.dropHalf_eq, Dev.endControl_fab]
  exact Dev.dropBanks_col _ lt_of_mem_range19 (List.mem_range.mpr (by decide)) d hx hup

theorem Dev.dropHalf_ctl (d : Dev) (h : HalfId) : (d.dropHalf h).pwr.ctl[h] = false := by
  rw [Dev.dropHalf_eq]
  exact Dev.endControl_ctl _ h

theorem resetScope_half (h : HalfId) : (resetScope 2 h.val).getLsbD (16 * h.val) = true := by
  match h with
  | 0 => decide
  | 1 => decide

/-- VIN_UNDERVOLTAGE (R452). -/
theorem vinUndervoltage_yields (s : State) (h : HalfId) :
    (s.d.pwr.vin[h] = false → Yields (.vinUndervoltage h) s (fun u => Becomes s u s.d.bump)) ∧
    (s.d.pwr.vin[h] = true → Yields (.vinUndervoltage h) s (fun u => u.d.pwr.vin = s.d.pwr.vin.set h false ∧ u.d.pwr.ctl[h] = false ∧
      (∀ k, k < 19 → (s.d.bankSt h k = .up ∨ s.d.bankSt h k = .starting → u.d.bankSt h k = .off) ∧
        (s.d.bankSt h k ≠ .up → s.d.bankSt h k ≠ .starting → u.d.bankSt h k = s.d.bankSt h k)) ∧
      (∀ (g : HalfId) (k : Nat), g ≠ h → k < 20 → u.d.bankSt g k = s.d.bankSt g k) ∧
      (∀ x : SiteIx, siteHalf x = h → s.d.bankSt h 16 = .up → (u.d.fab.col x).phase = .down) ∧
      (∀ x : SiteIx, siteHalf x ≠ h → u.d.fab.col x = s.d.fab.col x) ∧
      Fences s u h ∧ OnlyDevice s u ∧
      ((∀ q, s.d.lkk.rst = some q → q.level < 2) → ∃ r, u.d.lkk.rst = some r ∧ r.level = 2 ∧ r.cause = 2 ∧ r.scope.getLsbD (16 * h.val) = true ∧
        r.asserted = false ∧ u.d.lkk.refused = false) ∧
      ((∃ q, s.d.lkk.rst = some q ∧ 2 ≤ q.level) → u.d.lkk.rst = s.d.lkk.rst ∧ u.d.lkk.refused = true))) := by
  refine ⟨fun hv => yields_onAll_settles rfl (if_pos (by rw [show s.d.bump.pwr.vin = s.d.pwr.vin from rfl, hv]; rfl)) (fun u hu => hu.becomes), fun hv => ?_⟩
  generalize ha : ({ s.d.bump with pwr := { s.d.bump.pwr with vin := s.d.bump.pwr.vin.set h false } } : Dev) = a
  have hlost : s.d.bump.vinLost s.env h = ((a.dropHalf h).fenceHalf s.env h .rail).orderReset s.env 2 h.val 2 false := by
    rw [← ha]
    exact if_neg (by rw [show s.d.bump.pwr.vin = s.d.pwr.vin from rfl, hv]; decide)
  refine yields_onAll_settles rfl hlost (fun u hu => ?_)
  obtain ⟨hdown, hfenced, -⟩ := (a.dropHalf h).fenceHalf_downs s.env h .rail
  generalize hb : (a.dropHalf h).fenceHalf s.env h .rail = b at hu hdown hfenced
  have hpwr {γ : Type} (p : PwrSt → γ) (hp : ∀ (w : PwrSt) c m, p { w with cls := c, doms := m } = p w) : p u.d.pwr = p (a.dropHalf h).pwr :=
    (hu.keeps (fun d => p d.pwr) (fun d => hp d.pwr _ _)).trans ((Dev.orderReset_keeps (fun d => p d.pwr) (fun _ => rfl) (fun _ _ => rfl) b s.env 2 h.val 2 false).trans
      (hdown.keeps (fun d => p d.pwr) (fun _ => rfl)))
  have hbank (g : HalfId) (k : Nat) : u.d.bankSt g k = (a.dropHalf h).bankSt g k :=
    hpwr (fun w => tget w.banks .off (20 * g.val + k)) (fun _ _ _ => rfl)
  have hcols : u.d.fab.cols = (a.dropHalf h).fab.cols :=
    (hu.keeps (fun d => d.fab.cols) (fun _ => rfl)).trans ((Dev.orderReset_fab_keeps Fabric.cols (fun _ => rfl) (fun _ _ => rfl) b s.env 2 h.val 2 false).trans
      (hdown.fab_keeps Fabric.cols (fun _ => rfl)))
  have hcol (x : SiteIx) : u.d.fab.col x = (a.dropHalf h).fab.col x := congrArg (fun t => tget t Column.init x.val) hcols
  have hlkk : b.lkk = s.d.lkk := (hdown.keeps Dev.lkk (fun _ => rfl)).trans ((Dev.dropHalf_keeps Dev.lkk (fun _ _ _ _ _ _ _ _ _ => rfl) a h).trans (by rw [← ha]; rfl))
  have hfab {γ : Type} (p : Fabric → γ) (hp : ∀ (f : Fabric) s t q, p { f with sites := s, samplers := t, cols := q } = p f) : p (a.dropHalf h).fab = p s.d.bump.fab :=
    (Dev.dropHalf_keeps (fun d => p d.fab) (fun d _ _ _ _ _ s t q => hp d.fab s t q) a h).trans (by rw [← ha])
  have hbankA (g : HalfId) (k : Nat) : a.bankSt g k = s.d.bankSt g k := by rw [← ha]; rfl
  have hbanks {g : HalfId} {k : Nat} (hk : k < 20) : (a.dropHalf h).bankSt g k =
      if g = h ∧ k < 19 ∧ (s.d.bankSt h k = .up ∨ s.d.bankSt h k = .starting) then .off else s.d.bankSt g k := by
    have hall := a.bankSt_dropHalf h g hk
    simp only [hbankA] at hall
    exact hall
  refine ⟨?_, ?_, fun k hk => ⟨fun hs => ?_, fun h1 h2 => ?_⟩, fun g k hg hk => ?_, fun x hx hup => ?_, fun x hx => ?_, ?_, hu.onlyDevice, fun hw => ?_, fun hr => ?_⟩
  · rw [hpwr PwrSt.vin (fun _ _ _ => rfl), Dev.dropHalf_keeps (fun d => d.pwr.vin) (fun _ _ _ _ _ _ _ _ _ => rfl) a h, ← ha]
    rfl
  · rw [hpwr PwrSt.ctl (fun _ _ _ => rfl)]
    exact a.dropHalf_ctl h
  · rw [hbank, hbanks (hk.trans (by decide)), if_pos ⟨rfl, hk, hs⟩]
  · rw [hbank, hbanks (hk.trans (by decide)), if_neg (fun hh => hh.2.2.elim h1 h2)]
  · rw [hbank, hbanks hk, if_neg (fun hh => hg hh.1)]
  · rw [hcol]
    exact a.dropHalf_col_down hx ((hbankA h 16).trans hup)
  · rw [hcol]
    exact (a.dropHalf_col_other hx).trans (by rw [← ha]; rfl)
  · refine fences_of_settles hu (Dev.Fenced.trans (Dev.Fenced.after (b := a.dropHalf h) ?_ ⟨[], ?_⟩ hfenced) (Dev.orderReset_later ..))
    · rw [hfab Fabric.fenced (fun _ _ _ _ => rfl)]
      rfl
    · rw [hfab Fabric.reports (fun _ _ _ _ => rfl), List.append_nil]
      rfl
  · have hwider : b.Wider 2 := fun q hq => hw q (by rw [← hlkk]; exact hq)
    refine ⟨b.ordered 2 h.val 2 false, ?_, Dev.ordered_level .., Dev.ordered_cause .., Dev.ordered_scope (resetScope_half h), Dev.ordered_asserted .., ?_⟩
    · exact (hu.keeps (fun d => d.lkk.rst) (fun _ => rfl)).trans (Dev.orderReset_lkk_keeps Lkk.rst (fun _ _ _ _ _ => rfl) hwider s.env h.val 2 false)
    · exact (hu.keeps (fun d => d.lkk.refused) (fun _ => rfl)).trans (Dev.orderReset_lkk_keeps Lkk.refused (fun _ _ _ _ _ => rfl) hwider s.env h.val 2 false)
  · obtain ⟨q, hq, hl⟩ := hr
    have href := Dev.orderReset_refused s.env h.val 2 false (d := b) (by rw [hlkk]; exact hq) hl
    rw [href] at hu
    refine ⟨(hu.keeps (fun d => d.lkk.rst) (fun _ => rfl)).trans ?_, hu.keeps (fun d => d.lkk.refused) (fun _ => rfl)⟩
    have hrst : b.lkk.rst = s.d.lkk.rst := by rw [hlkk]
    exact hrst

-- VBSN, VPHY and the sideband clock -----------------------------------------------------------------------------------

/-- Both halves fenced, one after the other. -/
theorem Dev.fenceBoth_downs (d : Dev) (e : Env) (c : FenceCause) :
    d.Downs ((d.fenceHalf e 0 c).fenceHalf e 1 c) ∧ ∀ h : HalfId, Dev.Fenced d ((d.fenceHalf e 0 c).fenceHalf e 1 c) h := by
  obtain ⟨hd0, hf0, ho0⟩ := d.fenceHalf_downs e 0 c
  obtain ⟨hd1, hf1, -⟩ := (d.fenceHalf e 0 c).fenceHalf_downs e 1 c
  refine ⟨hd0.trans hd1, fun h => ?_⟩
  match h with
  | 0 => exact hf0.trans hd1.toLater
  | 1 => exact hf1.after (ho0 1 (by decide)) hd0.reports

theorem Dev.linkLoss_later (d : Dev) (e : Env) : (d.flrPf e).Later (d.linkLoss e) := by
  unfold Dev.linkLoss
  generalize d.flrPf e = v
  exact .of_same rfl rfl rfl

theorem vbsnUndervoltage_yields {s : State} (hv : s.d.pwr.vbsn = true) : Yields .vbsnUndervoltage s (fun u => u.d.pwr.vbsn = false ∧
    u.d.pwr.vbsnLost = true ∧ u.d.lkk.basinUp = false ∧ Fences s u 0 ∧ Fences s u 1 ∧ u.d.host.linkUp = false ∧ u.d.host.vfs = 0 ∧ OnlyDevice s u ∧
    u.d.thm = s.d.thm ∧ u.d.net.ports = s.d.net.ports) := by
  generalize ha : ({ s.d.bump with pwr := { s.d.bump.pwr with vbsn := false, vbsnLost := true }, lkk := { s.d.bump.lkk with basinUp := false } } : Dev) = a
  have hfails : s.d.bump.vbsnFails s.env = ((a.fenceHalf s.env 0 .rail).fenceHalf s.env 1 .rail).linkLoss s.env := by
    rw [← ha]
    exact if_neg (by rw [show s.d.bump.pwr.vbsn = s.d.pwr.vbsn from rfl, hv]; decide)
  refine yields_onAll_settles rfl hfails (fun u hu => ?_)
  obtain ⟨hdown, hfenced⟩ := a.fenceBoth_downs s.env .rail
  generalize (a.fenceHalf s.env 0 .rail).fenceHalf s.env 1 .rail = b at hu hdown hfenced
  have hall : a.Downs (b.flrPf s.env) := hdown.trans (.of_serves (b.flrPf_serves s.env))
  have hlink {γ : Type} (p : Dev → γ) (hp : ∀ d : Dev, p d.core = p d) (hh : ∀ (d : Dev) v, p { d with host := v } = p d) : p u.d = p (b.flrPf s.env) :=
    (hu.keeps p hp).trans (hh _ _)
  have hfen (h : HalfId) : Fences s u h := by
    have hf := (hfenced h).trans ((Dev.Downs.of_serves (b.flrPf_serves s.env)).toLater.trans (b.linkLoss_later s.env))
    refine fences_of_settles hu ?_
    rw [← ha] at hf
    exact hf
  refine ⟨?_, ?_, ?_, hfen 0, hfen 1, hu.keeps (fun d => d.host.linkUp) (fun _ => rfl), hu.keeps (fun d => d.host.vfs) (fun _ => rfl), hu.onlyDevice, ?_, ?_⟩
  · rw [hlink (fun d => d.pwr.vbsn) (fun _ => rfl) (fun _ _ => rfl), hall.keeps (fun d => d.pwr.vbsn) (fun _ => rfl), ← ha]
  · rw [hlink (fun d => d.pwr.vbsnLost) (fun _ => rfl) (fun _ _ => rfl), hall.keeps (fun d => d.pwr.vbsnLost) (fun _ => rfl), ← ha]
  · rw [hlink (fun d => d.lkk.basinUp) (fun _ => rfl) (fun _ _ => rfl), hall.keeps (fun d => d.lkk.basinUp) (fun _ => rfl), ← ha]
  · rw [hlink Dev.thm (fun _ => rfl) (fun _ _ => rfl), hall.keeps Dev.thm (fun _ => rfl), ← ha]
    rfl
  · rw [hlink (fun d => d.net.ports) (fun _ => rfl) (fun _ _ => rfl), hall.keeps (fun d => d.net.ports) (fun _ => rfl), ← ha]
    rfl

theorem vphyUndervoltage_yields {s : State} (hv : s.d.pwr.vphy = true) : Yields .vphyUndervoltage s (fun u => u.d.pwr.vphy = false ∧
    (∀ n : LinkId, (u.d.link n).phase = .down) ∧ (∀ n : PortId, (u.d.port n).up = 0 ∧ (u.d.port n).locked = 0) ∧ Fences s u 0 ∧ Fences s u 1 ∧ OnlyDevice s u ∧
    u.d.thm = s.d.thm ∧ u.d.host.linkUp = s.d.host.linkUp ∧ u.d.fab.cols = s.d.fab.cols) := by
  generalize ha : ({ s.d.bump with
    pwr := { s.d.bump.pwr with vphy := false }
    lnk := { s.d.bump.lnk with links := s.d.bump.lnk.links.map (fun (l : LinkSt) => { LinkSt.init with clockLost := l.clockLost, basin := { EndSt.init with good := l.basin.good }
                                                                                                       half := { EndSt.init with good := l.half.good } }) }
    net := { s.d.bump.net with ports := s.d.bump.net.ports.map Port.down } } : Dev) = a
  have hfails : s.d.bump.vphyFails s.env = (a.fenceHalf s.env 0 .links).fenceHalf s.env 1 .links := by
    rw [← ha]
    exact if_neg (by rw [show s.d.bump.pwr.vphy = s.d.pwr.vphy from rfl, hv]; decide)
  refine yields_onAll_settles rfl hfails (fun u hu => ?_)
  obtain ⟨hdown, hfenced⟩ := a.fenceBoth_downs s.env .links
  generalize (a.fenceHalf s.env 0 .links).fenceHalf s.env 1 .links = b at hu hdown hfenced
  have hfen (h : HalfId) : Fences s u h := by
    have hf := hfenced h
    refine fences_of_settles hu ?_
    rw [← ha] at hf
    exact hf
  have hdev {γ : Type} (p : Dev → γ) (hp : ∀ d : Dev, p d.core = p d) (hh : ∀ d : Dev, p d.hull = p d) : p u.d = p a := (hu.keeps p hp).trans (hdown.keeps p hh)
  have hlinks := hdev (fun d => d.lnk.links) (fun _ => rfl) (fun _ => rfl)
  have hports := hdev (fun d => d.net.ports) (fun _ => rfl) (fun _ => rfl)
  refine ⟨?_, fun n => ?_, fun n => ?_, hfen 0, hfen 1, hu.onlyDevice, ?_, ?_, ?_⟩
  · rw [hdev (fun d => d.pwr.vphy) (fun _ => rfl) (fun _ => rfl), ← ha]
  · rw [Dev.link, hlinks, ← ha]
    simp [LinkSt.init]
  · rw [Dev.port, hports, ← ha]
    simp [Port.down]
  · rw [hdev Dev.thm (fun _ => rfl) (fun _ => rfl), ← ha]
    rfl
  · rw [hdev (fun d => d.host.linkUp) (fun _ => rfl) (fun _ => rfl), ← ha]
    rfl
  · rw [hu.keeps (fun d => d.fab.cols) (fun _ => rfl)]
    refine (hdown.fab_keeps Fabric.cols (fun _ => rfl)).trans ?_
    rw [← ha]
    rfl

/-- The rails of the Basin (R452), and the clock of the sideband (R458). -/
theorem basinRails_yields (s : State) :
    (s.d.pwr.vbsn = false → Yields .vbsnUndervoltage s (fun u => Becomes s u s.d.bump)) ∧
    (s.d.pwr.vphy = false → Yields .vphyUndervoltage s (fun u => Becomes s u s.d.bump)) ∧
    (s.d.pwr.vbsn = true → Yields .vphyReturn s (fun u => Becomes s u { s.d.bump with pwr := { s.d.pwr with vphy := true } })) ∧
    (s.d.pwr.vbsn = false → Yields .vphyReturn s (fun u => Becomes s u s.d.bump)) := by
  refine ⟨fun h => yields_onAll_settles rfl (if_pos ?_) (fun u hu => hu.becomes), fun h => yields_onAll_settles rfl (if_pos ?_) (fun u hu => hu.becomes),
    fun h => yields_onAll_settles rfl (if_pos h) (fun u hu => hu.becomes), fun h => yields_onAll_settles rfl (if_neg ?_) (fun u hu => hu.becomes)⟩
  · rw [show s.d.bump.pwr.vbsn = s.d.pwr.vbsn from rfl, h]
    rfl
  · rw [show s.d.bump.pwr.vphy = s.d.pwr.vphy from rfl, h]
    rfl
  · rw [show s.d.bump.pwr.vbsn = s.d.pwr.vbsn from rfl, h]
    decide

theorem Dev.sendEvent_of_waiting {d : Dev} {p : Nat × List Byte} {rest : List (Nat × List Byte)} (hp : d.lkk.events = p :: rest)
    (he : d.lkk.evSent = false) (hs : d.thm.sideLost = false) : d.sendEvent =
      (d.setLkk (fun k => { k with evSent := true, dropped := 0 })).send (.mgmt .i3c (.event p.2 (Nat.min 255 d.lkk.dropped))) := by
  unfold Dev.sendEvent
  rw [hp]
  exact if_neg (by rw [he, hs]; decide)

theorem sidebandClock_yields (s : State) :
    (s.d.thm.sideLost = true → Yields .sidebandClockLoss s (fun u => u = s.bump)) ∧
    (s.d.thm.sideLost = false → Yields .sidebandClockLoss s (fun u => Tells s u 0x0807 (.basinBlock 13) ∧
      u = { s.bump with d := { s.d.bump with thm := { s.d.thm with sideLost := true }, fab := { s.d.bump.fab with reports := u.d.fab.reports } } })) ∧
    (s.d.lkk.events = [] ∨ s.d.lkk.evSent = true → Yields .sidebandClockReturn s (fun u =>
      u = { s.bump with d := { s.d.bump with thm := { s.d.thm with sideLost := false } } })) ∧
    (∀ p rest, s.d.lkk.events = p :: rest → s.d.lkk.evSent = false → Yields .sidebandClockReturn s (fun u =>
      u = { s.bump with d := { s.d.bump with
        thm := { s.d.thm with sideLost := false }, lkk := { s.d.lkk with evSent := true, dropped := 0 }
        out := s.d.out ++ [.mgmt .i3c (.event p.2 (Nat.min 255 s.d.lkk.dropped))] } })) := by
  refine ⟨fun h => yields_onDev rfl (if_pos h) rfl, fun h => yields_onDev rfl (if_neg ?_) ⟨?_, rfl⟩, fun h => ?_, fun p rest hp he => ?_⟩
  · rw [show s.d.bump.thm.sideLost = s.d.thm.sideLost from rfl, h]
    decide
  · refine ⟨[], [], ⟨0x0807, .basinBlock 13, 0, 0, none, 0, nowNs s.env.time, none⟩, ?_, rfl, rfl⟩
    rw [List.append_nil]
    rfl
  · refine yields_onDev rfl (d := { s.d.bump with thm := { s.d.thm with sideLost := false } }) ?_ rfl
    unfold Dev.sideBack Dev.sendEvent
    dsimp only
    split
    · next p rest hq =>
      obtain h | h := h
      · exact absurd (h.symm.trans hq) (by simp)
      · exact if_pos (by rw [show s.d.bump.lkk.evSent = s.d.lkk.evSent from rfl, h]; rfl)
    · rfl
  · refine yields_onDev rfl (d := { s.d.bump with
      thm := { s.d.thm with sideLost := false }, lkk := { s.d.lkk with evSent := true, dropped := 0 }
      out := s.d.out ++ [.mgmt .i3c (.event p.2 (Nat.min 255 s.d.lkk.dropped))] }) ?_ rfl
    exact Dev.sendEvent_of_waiting (d := { s.d.bump with thm := { s.d.thm with sideLost := false } }) hp he rfl

end Sys2Proof.Machine
end

section
/-! PROOFS. The assertion of a reset (R67, R202, R407 to R409, R412, Table Bringup-4 steps 3 to 5). -/

namespace Sys2Proof.Machine
open Sys2Proof

-- Sites, samplers, meshes and columns under reset ---------------------------------------------------------------------

/-- The steps of LOCK_GATES_CLOSED, one after the other. -/
def Dev.assertReset (d : Dev) (r : ResetSt) : Dev :=
  (d.setLkk (fun k => { k with rst := some { r with asserted := true } })).onFab (fun f => { f with gated := f.gated ||| r.scope })

def Dev.resetSites (d : Dev) (l : List SiteIx) : Dev := l.foldl (fun d x => d.resetSite x) d

def Dev.clearSamplers (d : Dev) (l : List ClusterId) : Dev :=
  l.foldl (fun d c => d.onFab (fun f => f.setSampler c { f.sampler c with slots := [], inflight := [] })) d

def Dev.resetMeshes (d : Dev) (r : ResetSt) : Dev :=
  let d := if r.half 0 then d.resetMesh 0 else d
  if r.half 1 then d.resetMesh 1 else d

def Dev.resetColumns (d : Dev) (l : List SiteIx) (clear : Bool) : Dev := l.foldl (fun d x => d.resetColumn x clear) d

/-- What a reset of sites leaves alone: all but the sites. -/
theorem Dev.resetSites_keeps {γ : Type} (p : Dev → γ) (hp : ∀ (d : Dev) s, p { d with fab := { d.fab with sites := s } } = p d) (d : Dev)
    (l : List SiteIx) : p (d.resetSites l) = p d := foldl_keeps p _ (fun d _ => hp d _) l d

theorem Dev.clearSamplers_keeps {γ : Type} (p : Dev → γ) (hp : ∀ (d : Dev) s, p { d with fab := { d.fab with samplers := s } } = p d) (d : Dev)
    (l : List ClusterId) : p (d.clearSamplers l) = p d := foldl_keeps p _ (fun d _ => hp d _) l d

/-- The links of the clusters of a half under reset. -/
def Dev.meshLinks (d : Dev) (l : List ClusterId) : Dev :=
  l.foldl (fun d c => d.onFab (fun f => f.setCluster c { f.cluster c with linkDown := 0, retries := 0, columnFirst := false })) d

/-- The routing of a half under reset. -/
def Fabric.meshRoutes (f : Fabric) (h : HalfId) : Fabric :=
  { f with
    switching := f.switching.set h false, toColumn := f.toColumn.set h false
    routes := (List.range 8).map (fun i => (if i / 4 = h.val then f.routesNext else f.routes).getD i none)
    held := f.held.filter (fun p => decide (p.1 / 256 ≠ h.val)), ctl := f.ctl.filter (fun p => tileHalf p.1 ≠ h)
    inbox := f.inbox.filter (fun m => tileHalf (msgTile m) ≠ h) }

theorem Dev.resetMesh_eq (d : Dev) (h : HalfId) :
    d.resetMesh h = (d.meshLinks (allClusters.filter (fun c => clusterHalf c = h))).onFab (fun f => f.meshRoutes h) := by
  unfold Dev.resetMesh
  generalize allClusters.filter (fun c => clusterHalf c = h) = l
  rfl

/-- What a reset of a mesh changes: link counts and routing of its clusters, the switch of its routes, and packets on their way. -/
theorem Dev.resetMesh_keeps {γ : Type} (p : Dev → γ)
    (hp : ∀ (d : Dev) c s t r h k i, p { d with fab := { d.fab with
      clusters := c, switching := s, toColumn := t, routes := r, held := h, ctl := k, inbox := i } } = p d) (d : Dev) (h : HalfId) : p (d.resetMesh h) = p d := by
  rw [Dev.resetMesh_eq]
  refine (hp (d.meshLinks _) (d.meshLinks _).fab.clusters _ _ _ _ _ _).trans (foldl_keeps p _ (fun d c => ?_) _ d)
  exact hp d _ d.fab.switching d.fab.toColumn d.fab.routes d.fab.held d.fab.ctl d.fab.inbox

theorem Dev.resetMeshes_keeps {γ : Type} (p : Dev → γ)
    (hp : ∀ (d : Dev) c s t r h k i, p { d with fab := { d.fab with
      clusters := c, switching := s, toColumn := t, routes := r, held := h, ctl := k, inbox := i } } = p d) (d : Dev) (r : ResetSt) :
    p (d.resetMeshes r) = p d := by
  have one (d : Dev) (h : HalfId) : p (if r.half h then d.resetMesh h else d) = p d := ite_keeps p (Dev.resetMesh_keeps p hp d h) rfl
  exact (one _ 1).trans (one d 0)

/-- A reset of columns changes them and the code banks of their channel roots alone. -/
theorem Dev.resetColumns_keeps {γ : Type} (p : Dev → γ)
    (hp : ∀ (d : Dev) c b, p { d with fab := { d.fab with cols := c }, lkk := { d.lkk with chroot := b } } = p d) (d : Dev) (l : List SiteIx) (clear : Bool) :
    p (d.resetColumns l clear) = p d := foldl_keeps p _ (fun d _ => hp d _ _) l d

/-- A site under reset. -/
def Dev.freshSite (d : Dev) (x : SiteIx) : Site :=
  { Site.init with
    failed := (d.fab.site x).failed, flim := (d.fab.site x).flim, bank := 0, code := if d.siteOn x then (d.codeOf 6, 0) else (0, 0) }

theorem Dev.resetSite_eq (d : Dev) (x : SiteIx) : d.resetSite x = d.onFab (fun f => f.setSite x (d.freshSite x)) := rfl

theorem Dev.site_resetSites (l : List SiteIx) (hl : l.Nodup) (d : Dev) (x : SiteIx) :
    (d.resetSites l).fab.site x = if x ∈ l then d.freshSite x else d.fab.site x := by
  induction l generalizing d with
  | nil => rfl
  | cons y r ih =>
    obtain ⟨hy, hr⟩ := List.nodup_cons.mp hl
    have hstep : (d.resetSites (y :: r)).fab.site x = ((d.resetSite y).resetSites r).fab.site x := rfl
    rw [hstep, ih hr]
    by_cases hxy : x = y
    · subst hxy
      rw [if_neg hy, if_pos (List.mem_cons_self ..), Dev.resetSite_eq]
      exact Fabric.site_setSite ..
    · have hsite : (d.resetSite y).fab.site x = d.fab.site x := Fabric.site_setSite_ne _ _ hxy
      have hfresh : (d.resetSite y).freshSite x = d.freshSite x := by
        unfold Dev.freshSite
        rw [hsite]
        rfl
      rw [hsite, hfresh]
      simp [hxy]

theorem Dev.sampler_clearSamplers (l : List ClusterId) (d : Dev) {c : ClusterId} (hc : c ∈ l) :
    ((d.clearSamplers l).fab.sampler c).slots = [] ∧ ((d.clearSamplers l).fab.sampler c).inflight = [] := by
  have hstep (d : Dev) (b : ClusterId) (hb : b = c ∨ ((d.fab.sampler c).slots = [] ∧ (d.fab.sampler c).inflight = [])) :
      ((d.clearSamplers [b]).fab.sampler c).slots = [] ∧ ((d.clearSamplers [b]).fab.sampler c).inflight = [] := by
    by_cases hbc : b = c
    · subst hbc
      have hs : (d.clearSamplers [b]).fab.sampler b = { d.fab.sampler b with slots := [], inflight := [] } := tget_tput ..
      rw [hs]
      exact ⟨rfl, rfl⟩
    · have hs : (d.clearSamplers [b]).fab.sampler c = d.fab.sampler c := tget_tput_ne _ _ _ (fun h => hbc (Fin.ext h))
      rw [hs]
      exact hb.resolve_left hbc
  induction l generalizing d with
  | nil => cases hc
  | cons b r ih =>
    have hcons : d.clearSamplers (b :: r) = (d.clearSamplers [b]).clearSamplers r := rfl
    rw [hcons]
    obtain rfl | hr := List.mem_cons.mp hc
    · exact foldl_preserves (P := fun d : Dev => (d.fab.sampler c).slots = [] ∧ (d.fab.sampler c).inflight = []) (fun d b hd => hstep d b (.inr hd)) r
        (hstep d c (.inl rfl))
    · exact ih _ hr

/-- A column under reset. -/
def Column.reset (c : Column) (clear : Bool) : Column :=
  { c with
    phase := match c.phase with
      | .ready | .reloading => if clear then .filling else .reloading
      | p => p
    queue := [], waiting := [], pos := 0, hint := none, slots := 0, lastDue := 0, busy := [], lastIdle := none, rr := 0
    stepRr := 0, corr := [], lapCorr := [], prevCorr := [], colHits := [], colTold := [], rowDue := [], colDue := [], dual := none
    laneTests := [] }

theorem Dev.resetColumn_eq (d : Dev) (x : SiteIx) (clear : Bool) : d.resetColumn x clear =
    (d.setLkk (fun k => { k with chroot := tput k.chroot x.val { bank := 0, a := d.codeOf 8, b := 0 } })).onFab
      (fun f => f.setCol x ((d.fab.col x).reset clear)) := rfl

theorem Dev.col_resetColumns (l : List SiteIx) (hl : l.Nodup) (d : Dev) (clear : Bool) (x : SiteIx) :
    (d.resetColumns l clear).fab.col x = if x ∈ l then (d.fab.col x).reset clear else d.fab.col x := by
  induction l generalizing d with
  | nil => rfl
  | cons y r ih =>
    obtain ⟨hy, hr⟩ := List.nodup_cons.mp hl
    have hstep : (d.resetColumns (y :: r) clear).fab.col x = ((d.resetColumn y clear).resetColumns r clear).fab.col x := rfl
    rw [hstep, ih hr]
    by_cases hxy : x = y
    · subst hxy
      rw [if_neg hy, if_pos (List.mem_cons_self ..), Dev.resetColumn_eq]
      exact Fabric.col_setCol ..
    · have hcol : (d.resetColumn y clear).fab.col x = d.fab.col x := Fabric.col_setCol_ne _ _ hxy
      rw [hcol]
      simp [hxy]

theorem Dev.chroot_resetColumns (l : List SiteIx) (d : Dev) (clear : Bool) {x : SiteIx} (hx : x ∈ l) :
    tget (d.resetColumns l clear).lkk.chroot CodeBanks.init x.val = { bank := 0, a := d.codeOf 8, b := 0 } := by
  have hcode (v : Dev) (y : SiteIx) : (v.resetColumn y clear).codeOf 8 = v.codeOf 8 := rfl
  have hset (v : Dev) (y : SiteIx) : tget (v.resetColumn y clear).lkk.chroot CodeBanks.init x.val =
      if x.val = y.val then { bank := 0, a := v.codeOf 8, b := 0 } else tget v.lkk.chroot CodeBanks.init x.val := tget_tput_ite ..
  induction l generalizing d with
  | nil => cases hx
  | cons y r ih =>
    have hstep : d.resetColumns (y :: r) clear = (d.resetColumn y clear).resetColumns r clear := rfl
    rw [hstep]
    by_cases hr : x ∈ r
    · rw [ih _ hr, hcode]
    · have hxy : x = y := (List.mem_cons.mp hx).resolve_right hr
      have hkeep : ∀ (r : List SiteIx) (v : Dev), x ∉ r →
          tget (v.resetColumns r clear).lkk.chroot CodeBanks.init x.val = tget v.lkk.chroot CodeBanks.init x.val := by
        intro r
        induction r with
        | nil => exact fun _ _ => rfl
        | cons z q ihq =>
          intro v hz
          rw [List.mem_cons, not_or] at hz
          have hs : v.resetColumns (z :: q) clear = (v.resetColumn z clear).resetColumns q clear := rfl
          rw [hs, ihq _ hz.2, hset, if_neg (fun h => hz.1 (Fin.ext h))]
      rw [hkeep r _ hr, hset, if_pos (congrArg Fin.val hxy)]

theorem Column.reset_columnReset {s u : State} {x : SiteIx} {clear : Bool} (hcol : u.d.fab.col x = (s.d.fab.col x).reset clear)
    (hroot : tget u.d.lkk.chroot CodeBanks.init x.val = { bank := 0, a := s.d.codeOf 8, b := 0 }) : ColumnReset s u x clear := by
  unfold ColumnReset
  rw [hcol]
  refine ⟨rfl, rfl, rfl, rfl, rfl, rfl, rfl, rfl, rfl, rfl, rfl, rfl, rfl, rfl, hroot, fun h => ?_, fun h1 h2 => ?_⟩
  · unfold Column.reset
    obtain h | h := h <;> rw [h]
  · unfold Column.reset
    dsimp only
    split
    · next h => exact absurd h h1
    · next h => exact absurd h h2
    · rfl

/-- The clusters of a half lose their mesh's counts and routing. -/
theorem Dev.cluster_resetMesh (d : Dev) (h : HalfId) (c : ClusterId) : (d.resetMesh h).fab.cluster c =
    if clusterHalf c = h then { d.fab.cluster c with linkDown := 0, retries := 0, columnFirst := false } else d.fab.cluster c := by
  have hfold : ∀ (l : List ClusterId), l.Nodup → ∀ v : Dev,
      (v.meshLinks l).fab.cluster c =
        if c ∈ l then { v.fab.cluster c with linkDown := 0, retries := 0, columnFirst := false } else v.fab.cluster c := by
    intro l
    induction l with
    | nil => exact fun _ _ => rfl
    | cons b r ih =>
      intro hl v
      obtain ⟨hb, hr⟩ := List.nodup_cons.mp hl
      have hstep : v.meshLinks (b :: r) = (v.meshLinks [b]).meshLinks r := rfl
      rw [hstep, ih hr]
      by_cases hcb : c = b
      · subst hcb
        rw [if_neg hb, if_pos (List.mem_cons_self ..)]
        exact tget_tput ..
      · have hother : (v.meshLinks [b]).fab.cluster c = v.fab.cluster c := tget_tput_ne _ _ _ (fun h => hcb (Fin.ext h.symm))
        rw [hother]
        simp [hcb]
  have hmem : c ∈ allClusters.filter (fun c => clusterHalf c = h) ↔ clusterHalf c = h := by simp [allClusters]
  have hall := hfold (allClusters.filter (fun c => clusterHalf c = h)) ((List.nodup_finRange 32).filter _) d
  simp only [hmem] at hall
  rw [Dev.resetMesh_eq]
  exact hall

end Sys2Proof.Machine
end

section
/-! PROOFS. LOCK_GATES_CLOSED (R412): what it leaves of the device, level by level. -/

namespace Sys2Proof.Machine
open Sys2Proof

-- The steps together --------------------------------------------------------------------------------------------------

/-- What every level does to the clusters in its scope. -/
def Dev.underReset (d : Dev) (r : ResetSt) : Dev :=
  (((d.assertReset r).resetSites (scopeSites r)).clearSamplers (allClusters.filter r.covers)).resetMeshes r

/-- The columns in scope are to be filled. -/
def ResetSt.clears (r : ResetSt) : Bool := r.clear && 2 ≤ r.level || 4 ≤ r.level

/-- The sites in scope whose columns cannot keep their contents. -/
def Dev.lostSites (d : Dev) (r : ResetSt) : List SiteIx :=
  (scopeSites r).filter (fun x => (d.fab.col x).phase ≠ .reloading && (d.fab.col x).phase ≠ .ready)

/-- What the wider levels add: the channel roots, and the Basin or the model slots whose columns are lost. -/
def Dev.finishReset (d : Dev) (e : Env) (r : ResetSt) : Dev :=
  if r.level = 1 then d else
  let w := d.resetColumns (scopeSites r) r.clears
  if r.level = 4 then w.resetBasin else w.failTiles e ((w.lostSites r).filterMap w.fab.tileOf)

/-- The device at the assertion: a Basin reset ends a trial first. -/
def Dev.beforeReset (d : Dev) (r : ResetSt) : Dev := if r.level = 4 then d.failTrial else d

theorem Dev.gatesClosed_of_pending {d : Dev} (e : Env) {r : ResetSt} (hrun : d.lkkRuns = true) (hr : d.lkk.rst = some r) (ha : r.asserted = false) :
    d.gatesClosed e = ((d.beforeReset r).underReset r).finishReset e r := by
  unfold Dev.gatesClosed
  rw [hr]
  exact if_neg (by rw [ha, hrun]; decide)

theorem Dev.gatesClosed_of_idle {d : Dev} (e : Env) (h : d.lkkRuns = false ∨ d.lkk.rst = none ∨ (∃ r, d.lkk.rst = some r ∧ r.asserted = true)) :
    d.gatesClosed e = d := by
  unfold Dev.gatesClosed
  split
  · rfl
  · next r hr =>
    refine if_pos ?_
    obtain h | h | ⟨q, hq, ha⟩ := h
    · rw [h]
      simp
    · rw [h] at hr
      cases hr
    · rw [hq] at hr
      cases hr
      rw [ha]
      rfl

theorem mem_scopeSites (r : ResetSt) (x : SiteIx) : x ∈ scopeSites r ↔ r.scope.getLsbD (siteCluster x).val = true := by
  simp [scopeSites, allSites, ResetSt.covers]

theorem scopeSites_nodup (r : ResetSt) : (scopeSites r).Nodup := allSites_nodup.filter _

/-- After the assertion: what is not of sites, samplers, meshes and packets on their way stays as the assertion leaves it. -/
theorem Dev.underReset_keeps {γ : Type} (p : Dev → γ)
    (hp : ∀ (d : Dev) s m c w t r h k i, p { d with fab := { d.fab with
      sites := s, samplers := m, clusters := c, switching := w, toColumn := t, routes := r, held := h, ctl := k, inbox := i } } = p d) (d : Dev) (r : ResetSt) :
    p (d.underReset r) = p (d.assertReset r) :=
  (Dev.resetMeshes_keeps p (fun d c w t r h k i => hp d d.fab.sites d.fab.samplers c w t r h k i) _ r).trans
    ((Dev.clearSamplers_keeps p (fun d m => hp d d.fab.sites m d.fab.clusters d.fab.switching d.fab.toColumn d.fab.routes d.fab.held d.fab.ctl d.fab.inbox) _ _).trans
      (Dev.resetSites_keeps p (fun d s => hp d s d.fab.samplers d.fab.clusters d.fab.switching d.fab.toColumn d.fab.routes d.fab.held d.fab.ctl d.fab.inbox) _ _))

/-- What neither columns, nor the service's work, nor a Basin reset change stays to the end. -/
theorem Dev.finishReset_keeps {γ : Type} (p : Dev → γ)
    (hcols : ∀ (d : Dev) c b, p { d with fab := { d.fab with cols := c }, lkk := { d.lkk with chroot := b } } = p d) (hshell : ∀ d : Dev, p d.shell = p d)
    (hbasin : ∀ d : Dev, p d.resetBasin = p d) (d : Dev) (e : Env) (r : ResetSt) : p (d.finishReset e r) = p d := by
  have hcol := Dev.resetColumns_keeps p hcols d (scopeSites r) r.clears
  refine ite_keeps p rfl (ite_keeps p ((hbasin _).trans hcol) ?_)
  rw [← hshell, Dev.failTiles_shell, hshell, hcol]

theorem Dev.finishReset_of_cluster (d : Dev) (e : Env) {r : ResetSt} (h : r.level = 1) : d.finishReset e r = d := if_pos h

theorem Dev.finishReset_of_basin (d : Dev) (e : Env) {r : ResetSt} (h : r.level = 4) :
    d.finishReset e r = (d.resetColumns (scopeSites r) true).resetBasin := by
  have hclears : r.clears = true := by simp [ResetSt.clears, h]
  unfold Dev.finishReset
  rw [if_neg (by omega), hclears]
  exact if_pos h

theorem Dev.finishReset_of_compute (d : Dev) (e : Env) {r : ResetSt} (h : r.level = 2 ∨ r.level = 3) : d.finishReset e r =
    (d.resetColumns (scopeSites r) r.clear).failTiles e
      (((d.resetColumns (scopeSites r) r.clear).lostSites r).filterMap (d.resetColumns (scopeSites r) r.clear).fab.tileOf) := by
  have hclears : r.clears = r.clear := by
    unfold ResetSt.clears
    obtain h | h := h <;> rw [h] <;> simp
  unfold Dev.finishReset
  rw [if_neg (by omega), hclears]
  exact if_neg (by omega)

-- Sites, samplers, meshes and columns at the end -----------------------------------------------------------------------

theorem Dev.site_underReset (d : Dev) (r : ResetSt) (x : SiteIx) :
    (d.underReset r).fab.site x = if x ∈ scopeSites r then d.freshSite x else d.fab.site x :=
  (Dev.resetMeshes_keeps (fun d => d.fab.site x) (fun _ _ _ _ _ _ _ _ => rfl) _ r).trans
    ((Dev.clearSamplers_keeps (fun d => d.fab.site x) (fun _ _ => rfl) _ _).trans (Dev.site_resetSites (scopeSites r) (scopeSites_nodup r) (d.assertReset r) x))

theorem Dev.sites_finishReset (d : Dev) (e : Env) (r : ResetSt) : (d.finishReset e r).fab.sites = d.fab.sites :=
  Dev.finishReset_keeps (fun d => d.fab.sites) (fun _ _ _ => rfl) (fun _ => rfl) (fun _ => rfl) d e r

theorem Dev.sampler_underReset (d : Dev) (r : ResetSt) {c : ClusterId} (hc : r.scope.getLsbD c.val = true) :
    ((d.underReset r).fab.sampler c).slots = [] ∧ ((d.underReset r).fab.sampler c).inflight = [] := by
  have hmem : c ∈ allClusters.filter r.covers := List.mem_filter.mpr ⟨List.mem_finRange c, hc⟩
  have hsam : (d.underReset r).fab.sampler c =
      (((d.assertReset r).resetSites (scopeSites r)).clearSamplers (allClusters.filter r.covers)).fab.sampler c :=
    Dev.resetMeshes_keeps (fun d => d.fab.sampler c) (fun _ _ _ _ _ _ _ _ => rfl) _ r
  rw [hsam]
  exact Dev.sampler_clearSamplers _ _ hmem

theorem Dev.resetMeshes_of_cluster (d : Dev) {r : ResetSt} (h : r.level = 1) : d.resetMeshes r = d := by
  have hh (x : HalfId) : ¬ r.half x = true := by simp [ResetSt.half, h]
  unfold Dev.resetMeshes
  dsimp only
  rw [if_neg (hh 0), if_neg (hh 1)]

theorem Dev.resetMesh_switches (d : Dev) (h g : HalfId) : (d.resetMesh h).fab.switching[g] = (if h = g then false else d.fab.switching[g]) ∧
    (d.resetMesh h).fab.toColumn[g] = (if h = g then false else d.fab.toColumn[g]) := by
  have hlinks (l : List ClusterId) : (d.meshLinks l).fab.switching = d.fab.switching ∧ (d.meshLinks l).fab.toColumn = d.fab.toColumn := by
    refine ⟨foldl_keeps (fun d : Dev => d.fab.switching) _ ?_ l d, foldl_keeps (fun d : Dev => d.fab.toColumn) _ ?_ l d⟩
    · exact fun _ _ => rfl
    · exact fun _ _ => rfl
  obtain ⟨hs, ht⟩ := hlinks (allClusters.filter (fun c => clusterHalf c = h))
  rw [Dev.resetMesh_eq]
  generalize d.meshLinks _ = v at hs ht
  rw [← hs, ← ht]
  exact ⟨Vector.getElem_set_fin .., Vector.getElem_set_fin ..⟩

/-- A half in scope has its mesh as a reset leaves it. -/
theorem Dev.resetMeshes_half (d : Dev) {r : ResetSt} {h : HalfId} (hh : r.half h = true) :
    (d.resetMeshes r).fab.switching[h] = false ∧ (d.resetMeshes r).fab.toColumn[h] = false ∧ ∀ c : ClusterId, clusterHalf c = h →
      ((d.resetMeshes r).fab.cluster c).linkDown = 0 ∧ ((d.resetMeshes r).fab.cluster c).columnFirst = false ∧
      ((d.resetMeshes r).fab.cluster c).siteOf = (d.fab.cluster c).siteOf := by
  have self (d : Dev) (h : HalfId) : (d.resetMesh h).fab.switching[h] = false ∧ (d.resetMesh h).fab.toColumn[h] = false ∧ ∀ c : ClusterId, clusterHalf c = h →
      ((d.resetMesh h).fab.cluster c).linkDown = 0 ∧ ((d.resetMesh h).fab.cluster c).columnFirst = false ∧
      ((d.resetMesh h).fab.cluster c).siteOf = (d.fab.cluster c).siteOf := by
    obtain ⟨hs, ht⟩ := d.resetMesh_switches h h
    refine ⟨hs.trans (if_pos rfl), ht.trans (if_pos rfl), fun c hc => ?_⟩
    rw [Dev.cluster_resetMesh, if_pos hc]
    exact ⟨rfl, rfl, rfl⟩
  have other (d : Dev) {h g : HalfId} (hg : h ≠ g) : (d.resetMesh h).fab.switching[g] = d.fab.switching[g] ∧ (d.resetMesh h).fab.toColumn[g] = d.fab.toColumn[g] ∧
      ∀ c : ClusterId, clusterHalf c = g → (d.resetMesh h).fab.cluster c = d.fab.cluster c := by
    obtain ⟨hs, ht⟩ := d.resetMesh_switches h g
    refine ⟨hs.trans (if_neg hg), ht.trans (if_neg hg), fun c hc => ?_⟩
    rw [Dev.cluster_resetMesh, if_neg (fun hh => hg (hh.symm.trans hc))]
  match h with
  | 0 =>
    obtain ⟨hs, ht, hc⟩ := self d 0
    have hmesh : d.resetMeshes r = if r.half 1 then (d.resetMesh 0).resetMesh 1 else d.resetMesh 0 := by
      unfold Dev.resetMeshes
      dsimp only
      rw [if_pos hh]
    rw [hmesh]
    split
    · obtain ⟨hs1, ht1, hc1⟩ := other (d.resetMesh 0) (h := 1) (g := 0) (by decide)
      refine ⟨hs1.trans hs, ht1.trans ht, fun c hcc => ?_⟩
      rw [hc1 c hcc]
      exact hc c hcc
    · exact ⟨hs, ht, hc⟩
  | 1 =>
    have hmesh : d.resetMeshes r = (if r.half 0 then d.resetMesh 0 else d).resetMesh 1 := by
      unfold Dev.resetMeshes
      dsimp only
      rw [if_pos hh]
    rw [hmesh]
    obtain ⟨hs, ht, hc⟩ := self (if r.half 0 then d.resetMesh 0 else d) 1
    refine ⟨hs, ht, fun c hcc => ?_⟩
    obtain ⟨h1, h2, h3⟩ := hc c hcc
    refine ⟨h1, h2, h3.trans ?_⟩
    split
    · rw [(other d (h := 0) (g := 1) (by decide)).2.2 c hcc]
    · rfl

-- A trial that a Basin reset ends -------------------------------------------------------------------------------------

/-- Steps that change sites alone. -/
theorem foldl_sites (g : Fabric → SiteIx → Fabric) (h : ∀ f x, ∃ s, g f x = { f with sites := s }) (l : List SiteIx) (f : Fabric) :
    l.foldl g f = { f with sites := (l.foldl g f).sites } := by
  have hone (f : Fabric) (x : SiteIx) : ({ g f x with sites := [] } : Fabric) = { f with sites := [] } := by
    obtain ⟨s, hs⟩ := h f x
    rw [hs]
  exact congrArg (fun k : Fabric => { k with sites := (l.foldl g f).sites }) (foldl_keeps (fun f : Fabric => ({ f with sites := [] } : Fabric)) g hone l f)

/-- What the end of a trial changes: the components, their code banks, the answer and the sites' banks. -/
theorem Dev.flipCode_keeps {γ : Type} (p : Dev → γ)
    (hp : ∀ (d : Dev) s r c, p { d with fab := { d.fab with sites := s }, lkk := { d.lkk with rlayer := r, chroot := c } } = p d) (d : Dev) (n : Nat) :
    p (d.flipCode n) = p d := by
  unfold Dev.flipCode
  dsimp only
  refine ite_keeps p ?_ (ite_keeps p (hp d d.fab.sites _ d.lkk.chroot) (ite_keeps p (hp d d.fab.sites d.lkk.rlayer _) rfl))
  refine (congrArg (fun f => p { d with fab := f }) (foldl_sites _ (fun f x => ?_) _ d.fab)).trans (hp d _ d.lkk.rlayer d.lkk.chroot)
  by_cases hz : (if (f.site x).bank = 0 then (f.site x).code.2 else (f.site x).code.1) = 0
  · exact ⟨f.sites, if_pos hz⟩
  · exact ⟨_, if_neg hz⟩

theorem Dev.failTrial_keeps {γ : Type} (p : Dev → γ)
    (hp : ∀ (d : Dev) s r c k t a u, p { d with fab := { d.fab with sites := s }, lkk := { d.lkk with
      rlayer := r, chroot := c, comps := k, trial := t, rsp := a, upd := u } } = p d) (d : Dev) : p d.failTrial = p d := by
  have hflip (d : Dev) (n : Nat) : p (d.flipCode n) = p d :=
    Dev.flipCode_keeps p (fun d s r c => hp d s r c d.lkk.comps d.lkk.trial d.lkk.rsp d.lkk.upd) d n
  have hslot (d : Dev) (n : Nat) (a b : Bool) : p (d.flipSlot n a b) = p d := hp d d.fab.sites d.lkk.rlayer d.lkk.chroot _ d.lkk.trial d.lkk.rsp d.lkk.upd
  have hroll (d : Dev) (l : List Nat) (b : Bool) : p (d.rollback l b) = p d :=
    foldl_keeps p _ (fun d n => (hflip _ n).trans (hslot d n false _)) _ d
  unfold Dev.failTrial
  split
  · next t _ => exact (hp (d.rollback t.comps t.revert) _ _ _ _ _ _ _).trans (hroll d _ _)
  · rfl

theorem Dev.failTrial_trial (d : Dev) : d.failTrial.lkk.trial = none := by
  unfold Dev.failTrial
  split
  · rfl
  · next h => exact h

theorem Dev.failTrial_of_none {d : Dev} (h : d.lkk.trial = none) : d.failTrial = d := by
  unfold Dev.failTrial
  rw [h]

/-- Without a trial, or below Basin level, nothing comes before the assertion. -/
theorem Dev.beforeReset_of_quiet {d : Dev} {r : ResetSt} (h : r.level ≤ 3 ∨ d.lkk.trial = none) : d.beforeReset r = d := by
  unfold Dev.beforeReset
  split
  · exact Dev.failTrial_of_none (h.resolve_left (by omega))
  · rfl

theorem Dev.beforeReset_keeps {γ : Type} (p : Dev → γ)
    (hp : ∀ (d : Dev) s r c k t a u, p { d with fab := { d.fab with sites := s }, lkk := { d.lkk with
      rlayer := r, chroot := c, comps := k, trial := t, rsp := a, upd := u } } = p d) (d : Dev) (r : ResetSt) : p (d.beforeReset r) = p d :=
  ite_keeps p (d.failTrial_keeps p hp) rfl

end Sys2Proof.Machine
end

section
/-! PROOFS. LOCK_GATES_CLOSED as a command (R412). -/

namespace Sys2Proof.Machine
open Sys2Proof

-- The command ---------------------------------------------------------------------------------------------------------

/-- The state that LOCK_GATES_CLOSED makes, but for what follows from it. -/
def State.gatesClosed (s : State) : State := State.remeasure s.d { s.bump with d := s.d.bump.gatesClosed s.env }

theorem lockGatesClosed_yields {s : State} {P : State → Prop} (hp : ∀ u, Follows s.gatesClosed u → P u) : Yields .lockGatesClosed s P :=
  yields_onState rfl rfl hp

/-- Nothing is measured again where every component runs from the slot from which it ran. -/
theorem State.remeasure_of_comps {d : Dev} {s : State} (h : s.d.lkk.comps = d.lkk.comps) : State.remeasure d s = s := by
  have hcomp (n : Nat) : d.comp n = s.d.comp n := by
    unfold Dev.comp
    rw [h]
  have hnone : (List.range 10).filterMap (fun k => if (d.comp (k + 1)).activeB = (s.d.comp (k + 1)).activeB then none else some (k + 1)) = [] := by
    simp [hcomp]
  unfold State.remeasure
  rw [hnone]
  rfl

theorem gatesClosed_idle {s u : State} (hu : Follows s.gatesClosed u)
    (h : s.d.lkkRuns = false ∨ s.d.lkk.rst = none ∨ (∃ r, s.d.lkk.rst = some r ∧ r.asserted = true)) : Becomes s u s.d.bump := by
  have hd : s.d.bump.gatesClosed s.env = s.d.bump := Dev.gatesClosed_of_idle s.env h
  have hs : s.gatesClosed = { s.bump with d := s.d.bump } := by
    unfold State.gatesClosed
    rw [hd]
    exact State.remeasure_of_comps rfl
  rw [hs] at hu
  exact hu.becomes

/-- A column in scope of a wider level. -/
theorem gatesClosed_column {s u : State} {r : ResetSt} {clear : Bool} {x : SiteIx} (hq : r.level ≤ 3 ∨ s.d.lkk.trial = none)
    (hcols : u.d.fab.cols = (((s.d.bump.beforeReset r).underReset r).resetColumns (scopeSites r) clear).fab.cols)
    (hroots : u.d.lkk.chroot = (((s.d.bump.beforeReset r).underReset r).resetColumns (scopeSites r) clear).lkk.chroot) :
    (r.scope.getLsbD (siteCluster x).val = true → u.d.fab.col x = (s.d.fab.col x).reset clear ∧ ColumnReset s u x clear) ∧
    (¬ r.scope.getLsbD (siteCluster x).val = true → u.d.fab.col x = s.d.fab.col x) := by
  rw [Dev.beforeReset_of_quiet (d := s.d.bump) hq] at hcols hroots
  have hunder : (s.d.bump.underReset r).fab.col x = s.d.fab.col x := Dev.underReset_keeps (fun d => d.fab.col x) (fun _ _ _ _ _ _ _ _ _ _ => rfl) _ r
  have hcode : (s.d.bump.underReset r).codeOf 8 = s.d.codeOf 8 := Dev.underReset_keeps (fun d => d.codeOf 8) (fun _ _ _ _ _ _ _ _ _ _ => rfl) _ r
  have hcol : u.d.fab.col x = if x ∈ scopeSites r then (s.d.fab.col x).reset clear else s.d.fab.col x := by
    rw [Fabric.col, hcols, ← hunder]
    exact Dev.col_resetColumns (scopeSites r) (scopeSites_nodup r) (s.d.bump.underReset r) clear x
  refine ⟨fun hx => ?_, fun hx => ?_⟩
  · have hmem := (mem_scopeSites r x).mpr hx
    rw [if_pos hmem] at hcol
    refine ⟨hcol, Column.reset_columnReset hcol ?_⟩
    rw [hroots, Dev.chroot_resetColumns _ _ _ hmem, hcode]
  · rw [hcol, if_neg (fun h => hx ((mem_scopeSites r x).mp h))]

section
variable {s u : State} {r : ResetSt} (hrun : s.d.lkkRuns = true) (hr : s.d.lkk.rst = some r) (ha : r.asserted = false) (hu : Follows s.gatesClosed u)
include hrun hr ha

theorem gatesClosed_d : s.gatesClosed.d = ((s.d.bump.beforeReset r).underReset r).finishReset s.env r :=
  Dev.gatesClosed_of_pending (d := s.d.bump) s.env hrun hr ha

include hu

/-- What the core of the device holds at the end. -/
theorem gatesClosed_keeps {γ : Type} (p : Dev → γ) (hp : ∀ d : Dev, p d.core = p d) :
    p u.d = p (((s.d.bump.beforeReset r).underReset r).finishReset s.env r) :=
  (hu.keeps p hp).trans (congrArg p (gatesClosed_d hrun hr ha))

/-- What is not of columns, of the service, of the Basin, of sites, samplers, meshes and packets stays as the assertion leaves it. -/
theorem gatesClosed_asserted {γ : Type} (p : Dev → γ) (hp : ∀ d : Dev, p d.core = p d)
    (hcols : ∀ (d : Dev) c b, p { d with fab := { d.fab with cols := c }, lkk := { d.lkk with chroot := b } } = p d) (hshell : ∀ d : Dev, p d.shell = p d)
    (hbasin : ∀ d : Dev, p d.resetBasin = p d)
    (hunder : ∀ (d : Dev) s m c w t r h k i, p { d with fab := { d.fab with
      sites := s, samplers := m, clusters := c, switching := w, toColumn := t, routes := r, held := h, ctl := k, inbox := i } } = p d) :
    p u.d = p ((s.d.bump.beforeReset r).assertReset r) :=
  (gatesClosed_keeps hrun hr ha hu p hp).trans ((Dev.finishReset_keeps p hcols hshell hbasin _ _ _).trans (Dev.underReset_keeps p hunder _ r))

theorem gatesClosed_onlyDevice (hq : r.level ≤ 3 ∨ s.d.lkk.trial = none) : OnlyDevice s u := by
  have hcomps : s.gatesClosed.d.lkk.comps = s.d.lkk.comps := by
    rw [gatesClosed_d hrun hr ha, Dev.finishReset_keeps (fun d => d.lkk.comps) (fun _ _ _ => rfl) (fun _ => rfl) (fun _ => rfl),
      Dev.underReset_keeps (fun d => d.lkk.comps) (fun _ _ _ _ _ _ _ _ _ _ => rfl), Dev.beforeReset_of_quiet (d := s.d.bump) hq]
    rfl
  have hs : s.gatesClosed = { s.bump with d := s.d.bump.gatesClosed s.env } := State.remeasure_of_comps hcomps
  rw [hs] at hu
  exact hu.onlyDevice

/-- What every level does. -/
theorem gatesClosed_all : u.d.lkk.rst = some { r with asserted := true } ∧ u.d.fab.gated = (s.d.fab.gated ||| r.scope) ∧ u.pending = s.pending ∧
    u.time = s.time ∧ u.agg = s.agg ∧ u.d.lkk.copyA = s.d.lkk.copyA ∧ u.d.lkk.copyB = s.d.lkk.copyB ∧
    ∀ c : ClusterId, r.scope.getLsbD c.val = true → (u.d.fab.sampler c).slots = [] ∧ (u.d.fab.sampler c).inflight = [] := by
  obtain ⟨hpend, htime, -, -, hagg, -⟩ := hu.thereafter
  have hbefore {γ : Type} (p : Dev → γ) (hp : ∀ (d : Dev) s r c k t a u, p { d with fab := { d.fab with sites := s }, lkk := { d.lkk with
      rlayer := r, chroot := c, comps := k, trial := t, rsp := a, upd := u } } = p d) : p (s.d.bump.beforeReset r) = p s.d.bump := s.d.bump.beforeReset_keeps p hp r
  have hsame {γ : Type} (p : Lkk → γ) (hp : ∀ (k : Lkk) b c d, p { k with events := b, dropped := c, evSent := d } = p k)
      (hc : ∀ (k : Lkk) b, p { k with chroot := b } = p k) : p u.d.lkk = p ((s.d.bump.beforeReset r).assertReset r).lkk :=
    gatesClosed_asserted hrun hr ha hu (fun d => p d.lkk) (fun d => hp d.lkk _ _ _) (fun d _ b => hc d.lkk b) (fun _ => rfl) (fun _ => rfl)
      (fun _ _ _ _ _ _ _ _ _ _ => rfl)
  refine ⟨hsame Lkk.rst (fun _ _ _ _ => rfl) (fun _ _ => rfl), ?_, hpend, htime, hagg, ?_, ?_, fun c hc => ?_⟩
  · refine (gatesClosed_asserted hrun hr ha hu (fun d => d.fab.gated) (fun _ => rfl) (fun _ _ _ => rfl) (fun _ => rfl) (fun _ => rfl)
      (fun _ _ _ _ _ _ _ _ _ _ => rfl)).trans ?_
    exact congrArg (· ||| r.scope) (hbefore (fun d => d.fab.gated) (fun _ _ _ _ _ _ _ _ => rfl))
  · exact (hsame Lkk.copyA (fun _ _ _ _ => rfl) (fun _ _ => rfl)).trans (hbefore (fun d => d.lkk.copyA) (fun _ _ _ _ _ _ _ _ => rfl))
  · exact (hsame Lkk.copyB (fun _ _ _ _ => rfl) (fun _ _ => rfl)).trans (hbefore (fun d => d.lkk.copyB) (fun _ _ _ _ _ _ _ _ => rfl))
  · have hsampler : u.d.fab.sampler c = ((s.d.bump.beforeReset r).underReset r).fab.sampler c :=
      (gatesClosed_keeps hrun hr ha hu (fun d => d.fab.sampler c) (fun _ => rfl)).trans
        (Dev.finishReset_keeps (fun d => d.fab.sampler c) (fun _ _ _ => rfl) (fun _ => rfl) (fun _ => rfl) _ _ _)
    rw [hsampler]
    exact Dev.sampler_underReset _ r hc

/-- Each site in scope holds its reset state, and the others stay. -/
theorem gatesClosed_site (hq : r.level ≤ 3 ∨ s.d.lkk.trial = none) (x : SiteIx) :
    u.d.fab.site x = if x ∈ scopeSites r then s.d.freshSite x else s.d.fab.site x := by
  have hsites := (gatesClosed_keeps hrun hr ha hu (fun d => d.fab.sites) (fun _ => rfl)).trans (Dev.sites_finishReset _ _ _)
  have hsite : u.d.fab.site x = ((s.d.bump.beforeReset r).underReset r).fab.site x := congrArg (fun t => tget t Site.init x.val) hsites
  rw [hsite, Dev.beforeReset_of_quiet (d := s.d.bump) hq, Dev.site_underReset]
  rfl

/-- CLUSTER_RESET asserted. -/
theorem gatesClosed_cluster (h1 : r.level = 1) : u.d.fab.cols = s.d.fab.cols ∧ u.d.svc = s.d.svc ∧
    (∀ x : SiteIx, ¬ r.scope.getLsbD (siteCluster x).val = true → u.d.fab.site x = s.d.fab.site x) ∧ ∀ t : TileId, u.d.fab.siteOf t = s.d.fab.siteOf t := by
  have hq : r.level ≤ 3 ∨ s.d.lkk.trial = none := .inl (by omega)
  have hkeeps {γ : Type} (p : Dev → γ) (hp : ∀ d : Dev, p d.core = p d)
      (hs : ∀ (d : Dev) s, p { d with fab := { d.fab with sites := s } } = p d) (hm : ∀ (d : Dev) s, p { d with fab := { d.fab with samplers := s } } = p d)
      (hassert : p (s.d.bump.assertReset r) = p s.d.bump) : p u.d = p s.d.bump := by
    rw [gatesClosed_keeps hrun hr ha hu p hp, Dev.finishReset_of_cluster _ _ h1, Dev.beforeReset_of_quiet (d := s.d.bump) hq, Dev.underReset,
      Dev.resetMeshes_of_cluster _ h1, Dev.clearSamplers_keeps p hm, Dev.resetSites_keeps p hs, hassert]
  refine ⟨hkeeps (fun d => d.fab.cols) (fun _ => rfl) (fun _ _ => rfl) (fun _ _ => rfl) rfl, hkeeps Dev.svc (fun _ => rfl) (fun _ _ => rfl) (fun _ _ => rfl) rfl,
    fun x hx => ?_, fun t => hkeeps (fun d => d.fab.siteOf t) (fun _ => rfl) (fun _ _ => rfl) (fun _ _ => rfl) rfl⟩
  rw [gatesClosed_site hrun hr ha hu hq x, if_neg (fun h => hx ((mem_scopeSites r x).mp h))]

/-- HALF_COMPUTE_RESET and COMPUTE_RESET asserted. -/
theorem gatesClosed_compute (h23 : r.level = 2 ∨ r.level = 3) : (∀ x : SiteIx, r.scope.getLsbD (siteCluster x).val = true → ColumnReset s u x r.clear) ∧
    (∀ h : HalfId, r.scope.getLsbD (16 * h.val) = true → u.d.fab.switching[h] = false ∧ u.d.fab.toColumn[h] = false ∧
      ∀ c : ClusterId, clusterHalf c = h → (u.d.fab.cluster c).linkDown = 0 ∧ (u.d.fab.cluster c).columnFirst = false ∧
        (u.d.fab.cluster c).siteOf = (s.d.fab.cluster c).siteOf) ∧
    (r.clear = false → (∀ x : SiteIx, r.scope.getLsbD (siteCluster x).val = true → (s.d.fab.col x).phase = .ready ∨ (s.d.fab.col x).phase = .reloading) →
      u.d.svc = s.d.svc ∧ ∀ x : SiteIx, ¬ r.scope.getLsbD (siteCluster x).val = true → u.d.fab.site x = s.d.fab.site x ∧ u.d.fab.col x = s.d.fab.col x) := by
  have hq : r.level ≤ 3 ∨ s.d.lkk.trial = none := .inl (by omega)
  have hend {γ : Type} (p : Dev → γ) (hp : ∀ d : Dev, p d.core = p d) (hshell : ∀ d : Dev, p d.shell = p d) :
      p u.d = p (((s.d.bump.beforeReset r).underReset r).resetColumns (scopeSites r) r.clear) := by
    rw [gatesClosed_keeps hrun hr ha hu p hp, Dev.finishReset_of_compute _ _ h23, ← hshell, Dev.failTiles_shell, hshell]
  have hcolumn (x : SiteIx) := gatesClosed_column (x := x) hq (hend (fun d => d.fab.cols) (fun _ => rfl) (fun _ => rfl))
    (hend (fun d => d.lkk.chroot) (fun _ => rfl) (fun _ => rfl))
  refine ⟨fun x hx => ((hcolumn x).1 hx).2, fun h hh => ?_, fun hc hall => ⟨?_, fun x hx => ⟨?_, (hcolumn x).2 hx⟩⟩⟩
  · have hhalf : r.half h = true := (r.half_iff h).mpr ⟨by omega, hh⟩
    have hmesh {γ : Type} (p : Fabric → γ) (hcore : ∀ (f : Fabric) b, p { f with halfUp := b } = p f) (hctl : ∀ (f : Fabric) b, p { f with ctl := b } = p f)
        (hcols : ∀ (f : Fabric) b, p { f with cols := b } = p f) : p u.d.fab =
          p ((((s.d.bump.assertReset r).resetSites (scopeSites r)).clearSamplers (allClusters.filter r.covers)).resetMeshes r).fab := by
      rw [hend (fun d => p d.fab) (fun d => hcore d.fab _) (fun d => hctl d.fab _), Dev.beforeReset_of_quiet (d := s.d.bump) hq]
      exact Dev.resetColumns_keeps (fun d => p d.fab) (fun d c _ => hcols d.fab c) _ _ _
    obtain ⟨hs, ht, hcl⟩ := Dev.resetMeshes_half (((s.d.bump.assertReset r).resetSites (scopeSites r)).clearSamplers (allClusters.filter r.covers)) hhalf
    refine ⟨?_, ?_, fun c hc => ?_⟩
    · rw [hmesh Fabric.switching (fun _ _ => rfl) (fun _ _ => rfl) (fun _ _ => rfl)]
      exact hs
    · rw [hmesh Fabric.toColumn (fun _ _ => rfl) (fun _ _ => rfl) (fun _ _ => rfl)]
      exact ht
    · obtain ⟨h1, h2, h3⟩ := hcl c hc
      have hcluster := hmesh (fun f => f.cluster c) (fun _ _ => rfl) (fun _ _ => rfl) (fun _ _ => rfl)
      have hstart : (((s.d.bump.assertReset r).resetSites (scopeSites r)).clearSamplers (allClusters.filter r.covers)).fab.cluster c = s.d.fab.cluster c :=
        (Dev.clearSamplers_keeps (fun d => d.fab.cluster c) (fun _ _ => rfl) _ _).trans (Dev.resetSites_keeps (fun d => d.fab.cluster c) (fun _ _ => rfl) _ _)
      rw [hstart] at h3
      rw [hcluster]
      exact ⟨h1, h2, h3⟩
  · have hlost : (((s.d.bump.beforeReset r).underReset r).resetColumns (scopeSites r) r.clear).lostSites r = [] := by
      refine List.filter_eq_nil_iff.mpr (fun x hx => ?_)
      have hscope := (mem_scopeSites r x).mp hx
      have hcol : (((s.d.bump.beforeReset r).underReset r).resetColumns (scopeSites r) r.clear).fab.col x = (s.d.fab.col x).reset r.clear :=
        (hend (fun d => d.fab.col x) (fun _ => rfl) (fun _ => rfl)).symm.trans ((hcolumn x).1 hscope).1
      have hphase : ((s.d.fab.col x).reset r.clear).phase = .reloading := by
        unfold Column.reset
        rw [hc]
        obtain hp | hp := hall x hscope <;> rw [hp] <;> rfl
      rw [hcol, hphase]
      decide
    rw [gatesClosed_keeps hrun hr ha hu Dev.svc (fun _ => rfl), Dev.finishReset_of_compute _ _ h23, hlost, List.filterMap_nil, Dev.failTiles_nil,
      Dev.resetColumns_keeps Dev.svc (fun _ _ _ => rfl), Dev.underReset_keeps Dev.svc (fun _ _ _ _ _ _ _ _ _ _ => rfl), Dev.beforeReset_of_quiet (d := s.d.bump) hq]
    rfl
  · rw [gatesClosed_site hrun hr ha hu hq x, if_neg (fun h => hx ((mem_scopeSites r x).mp h))]

/-- BASIN_RESET asserted. -/
theorem gatesClosed_basin (h4 : r.level = 4) :
    (s.d.lkk.trial = none → ∀ x : SiteIx, r.scope.getLsbD (siteCluster x).val = true → ColumnReset s u x true) ∧ u.d.svc = { Svc.init with wear := s.d.svc.wear } ∧
    u.d.fab.mapValid = false ∧ u.d.fab.halfUp = Vector.replicate 2 false ∧
    u.d.host = { HostSt.init with
      bme := s.d.host.bme, cfg := s.d.host.cfg, vfs := s.d.host.vfs, linkUp := s.d.host.linkUp, perst := s.d.host.perst } ∧
    (∀ n : LinkId, (u.d.link n).phase = .down) ∧ (∀ n : PortId, (u.d.port n).up = 0) ∧
    (∀ i : QpId, u.d.qp i = Qp.init) ∧ (∀ g : GroupId, u.d.group g = CollGroup.init) ∧
    (∀ p ∈ u.d.regs, keptAtBasin p.1 = true) ∧ u.d.seen = Vector.replicate 2 none ∧ u.d.lkk.trial = none := by
  generalize hv : ((s.d.bump.beforeReset r).underReset r).resetColumns (scopeSites r) true = v
  have hd : s.gatesClosed.d = v.resetBasin := by rw [gatesClosed_d hrun hr ha, Dev.finishReset_of_basin _ _ h4, hv]
  have hend {γ : Type} (p : Dev → γ) (hp : ∀ d : Dev, p d.core = p d) : p u.d = p v.resetBasin := (hu.keeps p hp).trans (congrArg p hd)
  have hstart {γ : Type} (p : Dev → γ)
      (hcols : ∀ (d : Dev) c b, p { d with fab := { d.fab with cols := c }, lkk := { d.lkk with chroot := b } } = p d)
      (hunder : ∀ (d : Dev) s m c w t r h k i, p { d with fab := { d.fab with
        sites := s, samplers := m, clusters := c, switching := w, toColumn := t, routes := r, held := h, ctl := k, inbox := i } } = p d)
      (hassert : ∀ d : Dev, p (d.assertReset r) = p d)
      (hbefore : ∀ (d : Dev) s r c k t a u, p { d with fab := { d.fab with sites := s }, lkk := { d.lkk with
        rlayer := r, chroot := c, comps := k, trial := t, rsp := a, upd := u } } = p d) : p v = p s.d.bump := by
    rw [← hv, Dev.resetColumns_keeps p hcols, Dev.underReset_keeps p hunder, hassert, Dev.beforeReset_keeps p hbefore]
  have hlinks : u.d.lnk.links = v.resetBasin.lnk.links := hend (fun d => d.lnk.links) (fun _ => rfl)
  have hports : u.d.net.ports = v.resetBasin.net.ports := hend (fun d => d.net.ports) (fun _ => rfl)
  have hmap : s.gatesClosed.d.fab.mapValid = false := by rw [hd]; rfl
  refine ⟨fun ht x hx => ?_, ?_, ?_, ?_, ?_, fun n => ?_, fun n => ?_, fun i => ?_, fun g => ?_, fun p hp => ?_, ?_, ?_⟩
  · refine ((gatesClosed_column (x := x) (.inr ht) ?_ ?_).1 hx).2
    · rw [hv]
      exact hend (fun d => d.fab.cols) (fun _ => rfl)
    · rw [hv]
      exact hend (fun d => d.lkk.chroot) (fun _ => rfl)
  · have hwear : v.svc.wear = s.d.svc.wear := hstart (fun d => d.svc.wear) (fun _ _ _ => rfl) (fun _ _ _ _ _ _ _ _ _ _ => rfl) (fun _ => rfl)
      (fun _ _ _ _ _ _ _ _ => rfl)
    rw [← hwear]
    exact hend Dev.svc (fun _ => rfl)
  · exact (hend (fun d => d.fab.mapValid) (fun _ => rfl)).trans rfl
  · rw [hu.halfUp hmap, hd]
    rfl
  · have hhost : v.host = s.d.host := hstart Dev.host (fun _ _ _ => rfl) (fun _ _ _ _ _ _ _ _ _ _ => rfl) (fun _ => rfl) (fun _ _ _ _ _ _ _ _ => rfl)
    rw [← hhost]
    exact hend Dev.host (fun _ => rfl)
  · rw [Dev.link, hlinks]
    simp [Dev.resetBasin, Dev.restartWindows, LinkSt.init]
  · rw [Dev.port, hports]
    simp [Dev.resetBasin, Dev.restartWindows, Port.init]
  · exact (hend (fun d => d.qp i) (fun _ => rfl)).trans rfl
  · exact (hend (fun d => d.group g) (fun _ => rfl)).trans rfl
  · have hregs : u.d.regs = v.regs.filter (fun p => keptAtBasin p.1) := hend Dev.regs (fun _ => rfl)
    rw [hregs] at hp
    exact (List.mem_filter.mp hp).2
  · exact (hend Dev.seen (fun _ => rfl)).trans rfl
  · have htrial : v.lkk.trial = (s.d.bump.beforeReset r).lkk.trial := by
      rw [← hv, Dev.resetColumns_keeps (fun d => d.lkk.trial) (fun _ _ _ => rfl), Dev.underReset_keeps (fun d => d.lkk.trial) (fun _ _ _ _ _ _ _ _ _ _ => rfl)]
      rfl
    rw [hend (fun d => d.lkk.trial) (fun _ => rfl)]
    refine htrial.trans ?_
    rw [Dev.beforeReset, if_pos h4, Dev.failTrial_trial]

end

/-- LOCK_GATES_CLOSED (R412, Table Bringup-4 steps 3 to 5). -/
theorem lockGatesClosed (s : State) :
    (s.d.lkkRuns = false ∨ s.d.lkk.rst = none ∨ (∃ r, s.d.lkk.rst = some r ∧ r.asserted = true) → Yields .lockGatesClosed s (fun u => Becomes s u s.d.bump)) ∧
    (∀ r, s.d.lkkRuns = true → s.d.lkk.rst = some r → r.asserted = false → let inScope := fun x : SiteIx => r.scope.getLsbD (siteCluster x).val = true
      Yields .lockGatesClosed s (fun u => u.d.lkk.rst = some { r with asserted := true } ∧ u.d.fab.gated = (s.d.fab.gated ||| r.scope) ∧ u.pending = s.pending ∧ u.time = s.time ∧ u.agg = s.agg ∧
        (r.level ≤ 3 ∨ s.d.lkk.trial = none → OnlyDevice s u) ∧ u.d.lkk.copyA = s.d.lkk.copyA ∧ u.d.lkk.copyB = s.d.lkk.copyB ∧
        (r.level ≤ 3 ∨ s.d.lkk.trial = none → ∀ x : SiteIx, inScope x → SiteReset s u x) ∧
        (∀ c : ClusterId, r.scope.getLsbD c.val = true → (u.d.fab.sampler c).slots = [] ∧ (u.d.fab.sampler c).inflight = []) ∧
        (r.level = 1 → u.d.fab.cols = s.d.fab.cols ∧ u.d.svc = s.d.svc ∧ (∀ x : SiteIx, ¬ inScope x → u.d.fab.site x = s.d.fab.site x) ∧
          ∀ t : TileId, u.d.fab.siteOf t = s.d.fab.siteOf t) ∧
        (r.level = 2 ∨ r.level = 3 → (∀ x : SiteIx, inScope x → ColumnReset s u x r.clear) ∧
          (∀ h : HalfId, r.scope.getLsbD (16 * h.val) = true → u.d.fab.switching[h] = false ∧ u.d.fab.toColumn[h] = false ∧ ∀ c : ClusterId, clusterHalf c = h → (u.d.fab.cluster c).linkDown = 0 ∧
            (u.d.fab.cluster c).columnFirst = false ∧ (u.d.fab.cluster c).siteOf = (s.d.fab.cluster c).siteOf) ∧
          (r.clear = false → (∀ x : SiteIx, inScope x → (s.d.fab.col x).phase = .ready ∨ (s.d.fab.col x).phase = .reloading) →
            u.d.svc = s.d.svc ∧ ∀ x : SiteIx, ¬ inScope x → u.d.fab.site x = s.d.fab.site x ∧ u.d.fab.col x = s.d.fab.col x)) ∧
        (r.level = 4 → (s.d.lkk.trial = none → ∀ x : SiteIx, inScope x → ColumnReset s u x true) ∧ u.d.svc = { Svc.init with wear := s.d.svc.wear } ∧
          u.d.fab.mapValid = false ∧ u.d.fab.halfUp = Vector.replicate 2 false ∧
          u.d.host = { HostSt.init with
            bme := s.d.host.bme, cfg := s.d.host.cfg, vfs := s.d.host.vfs, linkUp := s.d.host.linkUp, perst := s.d.host.perst } ∧
          (∀ n : LinkId, (u.d.link n).phase = .down) ∧ (∀ n : PortId, (u.d.port n).up = 0) ∧
          (∀ i : QpId, u.d.qp i = Qp.init) ∧ (∀ g : GroupId, u.d.group g = CollGroup.init) ∧
          (∀ p ∈ u.d.regs, keptAtBasin p.1 = true) ∧ u.d.seen = Vector.replicate 2 none ∧ u.d.lkk.trial = none))) := by
  refine ⟨fun h => lockGatesClosed_yields (fun u hu => gatesClosed_idle hu h), fun r hrun hr ha => lockGatesClosed_yields (fun u hu => ?_)⟩
  obtain ⟨hrst, hgated, hpend, htime, hagg, hA, hB, hsamplers⟩ := gatesClosed_all hrun hr ha hu
  refine ⟨hrst, hgated, hpend, htime, hagg, gatesClosed_onlyDevice hrun hr ha hu, hA, hB, fun hq x hx => ?_, hsamplers, gatesClosed_cluster hrun hr ha hu,
    gatesClosed_compute hrun hr ha hu, gatesClosed_basin hrun hr ha hu⟩
  exact (gatesClosed_site hrun hr ha hu hq x).trans (if_pos ((mem_scopeSites r x).mpr hx))

end Sys2Proof.Machine
end

section
/-! PROOFS. What the completion of a reset, migrations that restart and orders for power leave alone (R342 to R344, R393, R410, R412). -/

namespace Sys2Proof.Machine
open Sys2Proof

/-- What holds of both branches holds of the choice. -/
theorem ite_preserves {α : Type} {P : α → Prop} {c : Prop} [Decidable c] {a b : α} (ha : P a) (hb : P b) : P (if c then a else b) := by
  split
  · exact ha
  · exact hb

/-- The device but for what Dev.shell leaves out, the sites, the maps of the clusters and the packets, messages and reports on their way, the states of
the domains, the orders for power, and the migrations. -/
def Dev.anchor (d : Dev) : Dev :=
  { d.shell with
    fab := { d.fab.yard with clusters := [], samplers := [] }
    pwr := { d.pwr with doms := [], orders := [] }
    lkk := { d.lkk with mig := Vector.replicate 2 Mig.init, migHeld := [], migWait := [], bad := [], causes := [] } }

theorem Dev.anchor_foldl {β : Type} {g : Dev → β → Dev} (h : ∀ d b, (g d b).anchor = d.anchor) (l : List β) (d : Dev) :
    (l.foldl g d).anchor = d.anchor := foldl_keeps Dev.anchor g h l d

theorem Dev.anchor_of_shell {a b : Dev} (h : b.shell = a.shell) : b.anchor = a.anchor := by
  have hs : b.shell.anchor = a.shell.anchor := by rw [h]
  exact hs

/-- What Dev.anchor keeps. -/
theorem Dev.keeps_of_anchor {γ : Type} {a b : Dev} (h : b.anchor = a.anchor) (p : Dev → γ) (hp : ∀ d : Dev, p d.anchor = p d) : p b = p a := by
  rw [← hp, h, hp]

-- Power ---------------------------------------------------------------------------------------------------------------

/-- What an order to power a domain off leaves alone. -/
theorem Dev.powerOff_keeps {γ : Type} (p : Dev → γ)
    (hp : ∀ (d : Dev) m s t, p { d with pwr := { d.pwr with doms := m }, fab := { d.fab with sites := s, samplers := t } } = p d) (d : Dev) (i : DomainIx) :
    p (d.powerOff i) = p d := by
  have hdark (d : Dev) (j : DomainIx) : p (d.siteDark j) = p d := Dev.siteDark_keeps p (fun d s t => hp d d.pwr.doms s t) d j
  have hdom (d : Dev) (j : DomainIx) (v : DomSt) : p (d.setDom j v) = p d := hp d _ d.fab.sites d.fab.samplers
  have hsampler (d : Dev) : p (d.samplerFollows i) = p d := ite_keeps p ((hdark _ _).trans (hdom _ _ _)) rfl
  exact ite_keeps p rfl ((hsampler _).trans ((hdark _ i).trans (hdom _ _ _)))

theorem Dev.powerOff_anchor (d : Dev) (i : DomainIx) : (d.powerOff i).anchor = d.anchor := Dev.powerOff_keeps Dev.anchor (fun _ _ _ _ => rfl) d i

/-- One order for power, where fewer than four domains of its cluster ramp. -/
def Dev.pumpOne (d : Dev) (i : DomainIx) : Dev :=
  if domUnit i = 17 || ((List.range 17).filter (fun u => (d.dom (domAt (domHalf i).val (domPcl i) u)).state == .ramping)).length < 4 then
    let d := { d with pwr := { d.pwr with orders := d.pwr.orders.filter (fun j => j ≠ i) } }
    d.setDom i { d.dom i with state := .ramping, stage := 0, idleAt := none }
  else d

/-- The orders in ascending order of the domains. -/
def sortedOrders (l : List DomainIx) : List DomainIx :=
  l.foldl (fun a i => a.filter (fun j => j.val < i.val) ++ [i] ++ a.filter (fun j => i.val < j.val)) []

theorem Dev.pumpOrders_eq (d : Dev) : d.pumpOrders = (sortedOrders d.pwr.orders).foldl Dev.pumpOne d := by
  unfold Dev.pumpOrders sortedOrders
  generalize List.foldl _ [] d.pwr.orders = l
  rfl

/-- A domain that an order for power finds neither OFF nor supplied, or whose site is bad. -/
def Dev.powerBlocked (d : Dev) (i : DomainIx) : Bool :=
  (d.dom i).state ≠ .off || d.bankSt (domHalf i) (domPcl i) ≠ .up || (match domSite i with | some x => d.siteBad x | none => false)

/-- The orders for a domain and, with the first site, for its sampler. -/
def Dev.orderBoth (d : Dev) (i : DomainIx) : Dev :=
  let s := domAt (domHalf i).val (domPcl i) 17
  let d := d.orderOn i
  if (d.dom s).state == .off then d.orderOn s else d

theorem Dev.powerOn_eq (d : Dev) (i : DomainIx) : d.powerOn i = if d.powerBlocked i then d else (d.orderBoth i).pumpOrders := rfl

/-- A property that an order and its start keep, holds after an order for power. -/
theorem Dev.powerOn_preserves {P : Dev → Prop} (horder : ∀ d i, P d → P (Dev.orderOn d i)) (hpump : ∀ d i, P d → P (Dev.pumpOne d i)) {d : Dev} (i : DomainIx)
    (hd : P d) : P (d.powerOn i) := by
  rw [Dev.powerOn_eq]
  split
  · exact hd
  · rw [Dev.pumpOrders_eq]
    refine foldl_preserves hpump _ ?_
    unfold Dev.orderBoth
    dsimp only
    split
    · exact horder _ _ (horder _ _ hd)
    · exact horder _ _ hd

/-- What orders for power leave alone: all but the orders and the domains. -/
theorem Dev.powerOn_keeps {γ : Type} (p : Dev → γ) (hp : ∀ (d : Dev) o m, p { d with pwr := { d.pwr with orders := o, doms := m } } = p d) (d : Dev)
    (i : DomainIx) : p (d.powerOn i) = p d :=
  Dev.powerOn_preserves (P := fun v => p v = p d) (fun v _ hv => (ite_keeps p rfl (hp v _ v.pwr.doms)).trans hv)
    (fun v _ hv => (ite_keeps p (hp v _ _) rfl).trans hv) i rfl

theorem Dev.powerOn_anchor (d : Dev) (i : DomainIx) : (d.powerOn i).anchor = d.anchor := Dev.powerOn_keeps Dev.anchor (fun _ _ _ => rfl) d i

-- Migrations ----------------------------------------------------------------------------------------------------------

theorem Dev.changeMap_anchor (d : Dev) (c : ClusterId) (g : ClusterSt → ClusterSt) : (d.onFab (fun f => f.changeMap c g)).anchor = d.anchor := by
  have hset (v : ClusterSt) : Dev.anchor { d with fab := d.fab.setCluster c v } = d.anchor := rfl
  exact ite_keeps (fun f : Fabric => Dev.anchor { d with fab := f }) (hset _) (hset _)

theorem Dev.markBad_anchor (d : Dev) (x : SiteIx) (cause : Nat) : (d.markBad x cause).anchor = d.anchor := by
  have hset (l : List SiteIx) (c : Tab Nat) : Dev.anchor { d with lkk := { d.lkk with bad := l, causes := c } } = d.anchor := rfl
  exact ite_keeps (fun k : Lkk => Dev.anchor { d with lkk := k }) rfl (hset _ _)

/-- One migration begun again. -/
def Dev.restartOne (kept : Bool) (d : Dev) (q : TileId × SiteIx × SiteIx) : Dev :=
  let v := (d.onFab (fun f => f.changeMap (tileCluster q.1) (moveTile (tileFin q.1) q.2.1 q.2.2))).powerOff (domOf q.2.1)
  if kept then
    v.setLkk (fun k => { k with mig := k.mig.set (siteHalf q.2.1) { v.lkk.mig[siteHalf q.2.1] with
      state := .copy, tile := q.1, src := q.2.1, dst := q.2.2, copying := true, rows := 0, mapped := true, took := 0 } })
  else v

theorem Dev.restartMigs_eq (d : Dev) (hit : ClusterId → Bool) (kept : Bool) : d.restartMigs hit kept =
    (d.lkk.migHeld.filter (fun q => hit (tileCluster q.1))).foldl (Dev.restartOne kept)
      (d.setLkk (fun k => { k with migHeld := k.migHeld.filter (fun q => !hit (tileCluster q.1)) })) := rfl

/-- With no migration abandoned none restarts. -/
theorem Dev.restartMigs_of_none {d : Dev} (h : d.lkk.migHeld = []) (hit : ClusterId → Bool) (kept : Bool) : d.restartMigs hit kept = d := by
  have heta : ({ d.lkk with migHeld := [] } : Lkk) = d.lkk := by rw [← h]
  have hset : d.setLkk (fun k => { k with migHeld := k.migHeld.filter (fun q => !hit (tileCluster q.1)) }) = d := by
    have hfilter : ({ d.lkk with migHeld := d.lkk.migHeld.filter (fun q => !hit (tileCluster q.1)) } : Lkk) = d.lkk := by
      rw [h]
      exact heta
    exact congrArg (fun k : Lkk => { d with lkk := k }) hfilter
  rw [Dev.restartMigs_eq, hset, h]
  rfl

theorem Dev.restartOne_anchor (kept : Bool) (d : Dev) (q : TileId × SiteIx × SiteIx) : (d.restartOne kept q).anchor = d.anchor := by
  have h := (Dev.powerOff_anchor (d.onFab (fun f => f.changeMap (tileCluster q.1) (moveTile (tileFin q.1) q.2.1 q.2.2))) (domOf q.2.1)).trans
    (d.changeMap_anchor _ _)
  exact ite_keeps Dev.anchor (Eq.trans rfl h) h

theorem Dev.restartMigs_anchor (d : Dev) (hit : ClusterId → Bool) (kept : Bool) : (d.restartMigs hit kept).anchor = d.anchor := by
  rw [Dev.restartMigs_eq]
  exact (Dev.anchor_foldl (Dev.restartOne_anchor kept) _ _).trans rfl

theorem Dev.parityFaults_anchor (d : Dev) (ts : List TileId) : (d.parityFaults ts).anchor = d.anchor := by
  rw [Dev.parityFaults_eq]
  rfl

theorem Dev.tileAbsent_anchor (d : Dev) (e : Env) (t : TileId) (cause : Nat) : (d.tileAbsent e t cause).anchor = d.anchor := by
  have hheld (d : Dev) (c : ClusterId) (g : ClusterSt → ClusterSt) (l : Tab (List HeldPacket)) :
      (d.onFab (fun f => { f.changeMap c g with held := l })).anchor = d.anchor := Eq.trans rfl (d.changeMap_anchor c g)
  have hreport (d : Dev) (x : SiteIx) : (d.onFab (fun f => f.report e 0x0806 (.site x) 0 0 none 5)).anchor = d.anchor := rfl
  unfold Dev.tileAbsent
  split
  · rfl
  · refine (hreport _ _).trans ((Dev.anchor_of_shell (Dev.failTiles_shell _ e _)).trans ((Dev.powerOff_anchor _ _).trans ((Dev.markBad_anchor _ _ _).trans ?_)))
    exact hheld d _ _ _

theorem Dev.startMig_anchor (d : Dev) (e : Env) (t : TileId) (dead : Bool) (cause : Nat) : (d.startMig e t dead cause).anchor = d.anchor := by
  have hmig (d : Dev) (h : HalfId) (m : Mig) : (d.setMig h m).anchor = d.anchor := rfl
  unfold Dev.startMig
  split
  · rfl
  · dsimp only
    refine ite_keeps Dev.anchor (ite_keeps Dev.anchor ((Dev.parityFaults_anchor _ _).trans (hmig d _ _)) rfl) (ite_keeps Dev.anchor (ite_keeps Dev.anchor rfl rfl) ?_)
    split
    · exact ite_keeps Dev.anchor (d.tileAbsent_anchor e t cause) rfl
    · have hon (i : DomainIx) (m : Mig) (h : HalfId) := (Dev.powerOn_anchor (d.setMig h m) i).trans (hmig d h m)
      exact ite_keeps Dev.anchor ((Dev.parityFaults_anchor _ _).trans (hon _ _ _)) (hon _ _ _)

theorem Dev.nextMig_anchor (d : Dev) (e : Env) (h : HalfId) : (d.nextMig e h).anchor = d.anchor := by
  unfold Dev.nextMig
  split
  · exact (Dev.startMig_anchor _ e _ _ _).trans rfl
  · rfl

theorem Dev.nextMigs_anchor (d : Dev) (e : Env) : (d.nextMigs e).anchor = d.anchor :=
  Dev.anchor_foldl (fun d h => ite_keeps Dev.anchor rfl (d.nextMig_anchor e h)) bothHalves d

theorem Dev.nextMigs_of_none {d : Dev} (e : Env) (h : d.lkk.migWait = []) : d.nextMigs e = d := by
  have hone (k : HalfId) : d.nextMig e k = d := by
    unfold Dev.nextMig
    rw [h]
    rfl
  have hstep (k : HalfId) : (if d.lkk.mig[k].active || !d.outOfReset k || d.fab.fenced[k] then d else d.nextMig e k) = d := by
    rw [hone]
    exact ite_self _
  unfold Dev.nextMigs bothHalves
  rw [List.foldl_cons, hstep, List.foldl_cons, hstep]
  rfl

-- Peer tables and gates -----------------------------------------------------------------------------------------------

theorem Dev.writeAllPeers_keeps {γ : Type} (p : Dev → γ) (hp : ∀ (d : Dev) x l, p (d.onFab (fun f => f.setSite x { f.site x with peers := l })) = p d) (d : Dev)
    (m : ModelSlotId) : p (d.writeAllPeers m) = p d := by
  unfold Dev.writeAllPeers
  dsimp only
  split
  · rfl
  · refine foldl_keeps p _ (fun d q => ?_) _ d
    split
    · exact hp d _ _
    · rfl

theorem Dev.rewritePeers_keeps {γ : Type} (p : Dev → γ) (hp : ∀ (d : Dev) x l, p (d.onFab (fun f => f.setSite x { f.site x with peers := l })) = p d) (d : Dev)
    (ts : List TileId) : p (d.rewritePeers ts) = p d :=
  foldl_keeps p _ (fun d m => ite_keeps p (d.writeAllPeers_keeps p hp m) rfl) _ d

/-- The gates of the scope open. -/
def Dev.opened (d : Dev) (r : ResetSt) : Dev := d.onFab (fun f => { f with gated := f.gated &&& ~~~r.scope })

/-- What the switches held for the tiles of the scope goes on. -/
theorem Dev.openGates_carries (d : Dev) (e : Env) (r : ResetSt) : (d.opened r).fab.Carries (d.openGates e r).fab ∧
    d.openGates e r = { d.opened r with fab := (d.openGates e r).fab } := by
  have hall := foldl_preserves (P := fun v : Dev => (d.opened r).fab.Carries v.fab ∧ v = { d.opened r with fab := v.fab })
    (g := fun d t => if (match d.fab.siteOf t with | some x => (d.fab.site x).ready && !d.fab.holding t | none => false) then d.onFab (fun f => f.deliverHeld e t) else d)
    (fun v t hv => ?_) (scopeTiles r) (a := d.opened r) ⟨.refl _, rfl⟩
  · exact hall
  · refine ite_preserves (P := fun v : Dev => (d.opened r).fab.Carries v.fab ∧ v = { d.opened r with fab := v.fab }) ?_ hv
    · refine ⟨hv.1.trans (Fabric.deliverHeld_carries ..), ?_⟩
      have hon : v.onFab (fun f => f.deliverHeld e t) = { v with fab := v.fab.deliverHeld e t } := rfl
      rw [hon]
      exact congrArg (fun w : Dev => { w with fab := v.fab.deliverHeld e t }) hv.2

theorem Dev.openGates_keeps {γ : Type} (p : Dev → γ) (hp : ∀ (d : Dev) f, f.yard = d.fab.yard → p { d with fab := f } = p d) (d : Dev) (e : Env) (r : ResetSt) :
    p (d.openGates e r) = p (d.opened r) := by
  obtain ⟨hc, heq⟩ := d.openGates_carries e r
  rw [heq]
  exact hp _ _ hc.yard

theorem Dev.openGates_anchor (d : Dev) (e : Env) (r : ResetSt) : (d.openGates e r).anchor = (d.opened r).anchor := by
  refine Dev.openGates_keeps Dev.anchor (fun d f hf => ?_) d e r
  unfold Dev.anchor
  dsimp only
  rw [hf]
  rfl

end Sys2Proof.Machine
end

section
/-! PROOFS. Orders for power begin a ramp, and the fence of a half is lifted (R294, R342 to R344, R412). -/

namespace Sys2Proof.Machine
open Sys2Proof

-- The domains of sites ------------------------------------------------------------------------------------------------

theorem domOf_val (x : SiteIx) : (domOf x).val = 288 * (x.val / 272) + 18 * (x.val % 272 / 17) + x.val % 17 := by
  have hx := x.isLt
  simp only [domOf, domAt, siteHalf, sitePcl, siteNo]
  omega

theorem domHalf_domOf (x : SiteIx) : domHalf (domOf x) = siteHalf x := by
  have hx := x.isLt
  refine Fin.ext ?_
  simp only [domHalf, siteHalf, domOf_val]
  omega

theorem domPcl_domOf (x : SiteIx) : domPcl (domOf x) = sitePcl x := by
  have hx := x.isLt
  simp only [domPcl, sitePcl, domOf_val]
  omega

theorem domSite_domOf (x : SiteIx) : domSite (domOf x) = some x := by
  have hx := x.isLt
  have hunit : domUnit (domOf x) = x.val % 17 := by
    simp only [domUnit, domOf_val]
    omega
  unfold domSite
  rw [hunit, if_pos (by omega), domHalf_domOf, domPcl_domOf]
  refine congrArg some (Fin.ext ?_)
  simp only [siteOfNat, siteHalf, sitePcl]
  omega

theorem domOf_of_domSite {i : DomainIx} {x : SiteIx} (h : domSite i = some x) : domOf x = i := by
  have hi := i.isLt
  unfold domSite at h
  split at h
  · next hu =>
    obtain rfl := Option.some.inj h
    refine Fin.ext ?_
    rw [domOf_val]
    simp only [siteOfNat, domHalf, domPcl, domUnit] at hu ⊢
    omega
  · cases h

-- Domains that leave ON -----------------------------------------------------------------------------------------------

/-- No site of device b is on that is not on device a, and those that are on are ready as they are there. -/
def Dev.Dims (a b : Dev) : Prop := ∀ x : SiteIx, b.siteOn x = true → a.siteOn x = true ∧ (b.fab.site x).ready = (a.fab.site x).ready

theorem Dev.Dims.refl (a : Dev) : a.Dims a := fun _ h => ⟨h, rfl⟩

theorem Dev.Dims.trans {a b c : Dev} (h : a.Dims b) (k : b.Dims c) : a.Dims c := fun x hx => by
  obtain ⟨hb, hbr⟩ := k x hx
  obtain ⟨ha, har⟩ := h x hb
  exact ⟨ha, hbr.trans har⟩

theorem Dev.Dims.foldl {β : Type} {g : Dev → β → Dev} (h : ∀ d b, Dev.Dims d (g d b)) (l : List β) (d : Dev) : d.Dims (l.foldl g d) :=
  foldl_preserves (P := d.Dims) (fun a b ha => ha.trans (h a b)) l (.refl d)

theorem Dev.Dims.of_same {a b : Dev} (hp : b.pwr.doms = a.pwr.doms) (hr : ∀ x, (b.fab.site x).ready = (a.fab.site x).ready) : a.Dims b := fun x hx => by
  refine ⟨?_, hr x⟩
  unfold Dev.siteOn Dev.dom at hx ⊢
  rw [hp] at hx
  exact hx

/-- A domain set to a state that is not ON. -/
theorem Dev.Dims.setDom (d : Dev) (i : DomainIx) {v : DomSt} (hv : v.state ≠ .on) : d.Dims (d.setDom i v) := fun x hx => by
  refine ⟨?_, rfl⟩
  by_cases hi : domOf x = i
  · unfold Dev.siteOn at hx
    rw [hi, Dev.dom_setDom] at hx
    exact absurd (by simpa using hx) hv
  · unfold Dev.siteOn at hx ⊢
    rw [Dev.dom_setDom_ne _ _ hi] at hx
    exact hx

/-- A domain that is not ON may go dark. -/
theorem Dev.Dims.siteDark (d : Dev) {i : DomainIx} (h : (d.dom i).state ≠ .on) : d.Dims (d.siteDark i) := fun x hx => by
  have hon : d.siteOn x = true := (Dev.siteDark_keeps (fun d => d.siteOn x) (fun _ _ _ => rfl) d i).symm.trans hx
  refine ⟨hon, ?_⟩
  unfold Dev.siteDark
  split
  · next y hy =>
    have hxy : x ≠ y := fun hxy => by
      subst hxy
      unfold Dev.siteOn at hon
      rw [domOf_of_domSite hy] at hon
      exact h (by simpa using hon)
    exact congrArg Site.ready (Fabric.site_setSite_ne _ _ hxy)
  · rfl

theorem Dev.Dims.samplerFollows (d : Dev) (i : DomainIx) : d.Dims (d.samplerFollows i) := by
  unfold Dev.samplerFollows
  refine ite_preserves (P := d.Dims) ((Dev.Dims.setDom d _ (by simp)).trans (.siteDark _ ?_)) (.refl d)
  rw [Dev.dom_setDom]
  simp

theorem Dev.Dims.powerOff (d : Dev) (i : DomainIx) : d.Dims (d.powerOff i) := by
  refine ite_preserves (P := d.Dims) (.refl d) (((Dev.Dims.setDom d i ?_).trans (.siteDark _ ?_)).trans (.samplerFollows _ i))
  · simp
  · rw [Dev.dom_setDom]
    simp

theorem Dev.Dims.restartOne (kept : Bool) (d : Dev) (q : TileId × SiteIx × SiteIx) : d.Dims (d.restartOne kept q) := by
  have hmap : d.Dims (d.onFab (fun f => f.changeMap (tileCluster q.1) (moveTile (tileFin q.1) q.2.1 q.2.2))) := by
    refine .of_same rfl (fun x => ?_)
    have hsites : (d.fab.changeMap (tileCluster q.1) (moveTile (tileFin q.1) q.2.1 q.2.2)).sites = d.fab.sites := ite_keeps Fabric.sites rfl rfl
    exact congrArg (fun t => (tget t Site.init x.val).ready) hsites
  have hoff := hmap.trans (.powerOff _ (domOf q.2.1))
  exact ite_preserves (P := d.Dims) (hoff.trans (.of_same rfl (fun _ => rfl))) hoff

theorem Dev.Dims.restartMigs (d : Dev) (hit : ClusterId → Bool) (kept : Bool) : d.Dims (d.restartMigs hit kept) := by
  rw [Dev.restartMigs_eq]
  exact Dev.Dims.trans (.of_same rfl (fun _ => rfl)) (.foldl (Dev.Dims.restartOne kept) _ _)

-- Domains that ramp ---------------------------------------------------------------------------------------------------

/-- A domain leaves the orders and begins its ramp. -/
def Dev.startRamp (d : Dev) (i : DomainIx) : Dev :=
  let d := { d with pwr := { d.pwr with orders := d.pwr.orders.filter (fun j => j ≠ i) } }
  d.setDom i { d.dom i with state := .ramping, stage := 0, idleAt := none }

/-- What holds after each start, and before it, holds after an order that may start. -/
theorem Dev.pumpOne_preserves {P : Dev → Prop} {d : Dev} {i : DomainIx} (hs : P (d.startRamp i)) (hd : P d) : P (d.pumpOne i) := ite_preserves hs hd

theorem Dev.startRamp_dom (d : Dev) (i j : DomainIx) : ((d.startRamp i).dom j).state = if j = i then .ramping else (d.dom j).state := by
  unfold Dev.startRamp
  by_cases hj : j = i
  · rw [if_pos hj, hj, Dev.dom_setDom]
  · rw [if_neg hj, Dev.dom_setDom_ne _ _ hj]
    rfl

theorem Dev.Dims.powerOn (d : Dev) (i : DomainIx) : d.Dims (d.powerOn i) := by
  refine Dev.powerOn_preserves (P := d.Dims) (fun v j hv => ite_preserves hv (hv.trans (.of_same rfl (fun _ => rfl))))
    (fun v j hv => Dev.pumpOne_preserves (hv.trans ?_) hv) i (.refl d)
  have horders : v.Dims { v with pwr := { v.pwr with orders := v.pwr.orders.filter (fun k => k ≠ j) } } := .of_same rfl (fun _ => rfl)
  exact horders.trans (.setDom _ j (by simp))

/-- A domain ramps, or waits for its ramp. -/
def Dev.Begun (d : Dev) (i : DomainIx) : Prop := (d.dom i).state = .ramping ∨ i ∈ d.pwr.orders

theorem Dev.Begun.orderOn {d : Dev} {i : DomainIx} (j : DomainIx) (h : d.Begun i) : (d.orderOn j).Begun i :=
  ite_preserves (P := fun v : Dev => v.Begun i) h (h.imp id (List.mem_append_left _))

theorem Dev.orderOn_begun (d : Dev) (i : DomainIx) : (d.orderOn i).Begun i := by
  unfold Dev.orderOn
  split
  · next h => exact .inr (List.contains_iff_mem.mp h)
  · exact .inr (List.mem_append_right _ (List.mem_singleton_self _))

theorem Dev.Begun.pumpOne {d : Dev} {i : DomainIx} (j : DomainIx) (h : d.Begun i) : (d.pumpOne j).Begun i := by
  refine Dev.pumpOne_preserves (P := fun v : Dev => v.Begun i) ?_ h
  by_cases hij : i = j
  · exact .inl ((d.startRamp_dom j i).trans (if_pos hij))
  · obtain h | h := h
    · exact .inl (((d.startRamp_dom j i).trans (if_neg hij)).trans h)
    · exact .inr (List.mem_filter.mpr ⟨h, by simpa using hij⟩)

theorem Dev.Begun.powerOn {d : Dev} {i : DomainIx} (j : DomainIx) (h : d.Begun i) : (d.powerOn j).Begun i :=
  Dev.powerOn_preserves (P := fun v : Dev => v.Begun i) (fun _ k hv => hv.orderOn k) (fun _ k hv => hv.pumpOne k) j h

/-- A domain is OFF, or has begun. -/
def Dev.OffOrBegun (d : Dev) (i : DomainIx) : Prop := (d.dom i).state = .off ∨ d.Begun i

theorem Dev.OffOrBegun.powerOn {d : Dev} {i : DomainIx} (j : DomainIx) (h : d.OffOrBegun i) : (d.powerOn j).OffOrBegun i := by
  refine Dev.powerOn_preserves (P := fun v : Dev => v.OffOrBegun i) (fun v k hv => ?_) (fun v k hv => ?_) j h
  · exact hv.imp (fun h => ite_preserves (P := fun v : Dev => (v.dom i).state = .off) h h) (fun h => h.orderOn k)
  · obtain hv | hv := hv
    · refine Dev.pumpOne_preserves (P := fun v : Dev => v.OffOrBegun i) ?_ (.inl hv)
      by_cases hik : i = k
      · exact .inr (.inl ((v.startRamp_dom k i).trans (if_pos hik)))
      · exact .inl (((v.startRamp_dom k i).trans (if_neg hik)).trans hv)
    · exact .inr (hv.pumpOne k)

/-- An order for the domain of a site that is not bad, whose bank is up. -/
theorem Dev.powerOn_begun {d : Dev} {x : SiteIx} (hx : d.OffOrBegun (domOf x)) (hbank : d.bankSt (siteHalf x) (sitePcl x) = .up) (hbad : d.siteBad x = false) :
    (d.powerOn (domOf x)).Begun (domOf x) := by
  obtain hoff | hbegun := hx
  · have hfree : d.powerBlocked (domOf x) = false := by
      unfold Dev.powerBlocked
      rw [domSite_domOf, domHalf_domOf, domPcl_domOf, hoff, hbank]
      simp [hbad]
    have hboth : (d.orderBoth (domOf x)).Begun (domOf x) :=
      ite_preserves (P := fun v : Dev => v.Begun (domOf x)) ((d.orderOn_begun _).orderOn _) (d.orderOn_begun _)
    rw [Dev.powerOn_eq, hfree, if_neg (by decide), Dev.pumpOrders_eq]
    exact foldl_preserves (P := fun v : Dev => v.Begun (domOf x)) (fun _ j hv => hv.pumpOne j) _ hboth
  · exact hbegun.powerOn _

/-- A step of a list that makes a property, which the others keep, makes it hold at the end. -/
theorem foldl_establishes {α β : Type} {I Q : α → Prop} {g : α → β → α} (hI : ∀ a b, I a → I (g a b)) (hQ : ∀ a b, Q a → Q (g a b)) {b : β}
    (hb : ∀ a, I a → Q (g a b)) {l : List β} (hl : b ∈ l) {a : α} (ha : I a) : Q (l.foldl g a) := by
  induction l generalizing a with
  | nil => cases hl
  | cons c r ih =>
    obtain rfl | hr := List.mem_cons.mp hl
    · exact foldl_preserves hQ r (hb a ha)
    · exact ih hr (hI a c ha)

/-- The carriers of the clusters in scope are powered on. -/
def Dev.powered (d : Dev) (r : ResetSt) : Dev :=
  (allClusters.filter r.covers).foldl (fun d c => (d.carriers c).foldl (fun d x => d.powerOn (domOf x)) d) d

theorem Dev.powered_preserves {P : Dev → Prop} (h : ∀ d i, P d → P (Dev.powerOn d i)) {d : Dev} (r : ResetSt) (hd : P d) : P (d.powered r) := by
  unfold Dev.powered
  refine foldl_preserves (P := P) (fun d c hd => ?_) _ hd
  exact foldl_preserves (P := P) (fun d x hd => h d _ hd) (Dev.carriers d c) hd

theorem Dev.powered_keeps {γ : Type} (p : Dev → γ) (hp : ∀ (d : Dev) o m, p { d with pwr := { d.pwr with orders := o, doms := m } } = p d) (d : Dev) (r : ResetSt) :
    p (d.powered r) = p d :=
  Dev.powered_preserves (P := fun v => p v = p d) (fun v i hv => (v.powerOn_keeps p hp i).trans hv) r rfl

theorem mem_carriers {d : Dev} {t : TileId} {x : SiteIx} (h : d.fab.siteOf t = some x) : x ∈ d.carriers (tileCluster t) := by
  unfold Fabric.siteOf at h
  obtain ⟨k, hk, hx⟩ := Option.map_eq_some_iff.mp h
  refine List.mem_filterMap.mpr ⟨some k, ?_, congrArg some hx⟩
  rw [← hk]
  exact Vector.mem_toList_iff.mpr (Vector.getElem_mem _)

/-- The carrier of a tile can be powered on, or has begun. -/
structure Dev.Startable (d : Dev) (t : TileId) (x : SiteIx) : Prop where
  offOrBegun : d.OffOrBegun (domOf x)
  bank : d.bankSt (siteHalf x) (sitePcl x) = .up
  good : d.siteBad x = false
  carrier : x ∈ d.carriers (tileCluster t)

theorem Dev.Startable.powerOn {d : Dev} {t : TileId} {x : SiteIx} (h : d.Startable t x) (i : DomainIx) : (d.powerOn i).Startable t x where
  offOrBegun := h.offOrBegun.powerOn i
  bank := (d.powerOn_keeps (fun d => d.bankSt (siteHalf x) (sitePcl x)) (fun _ _ _ => rfl) i).trans h.bank
  good := (d.powerOn_keeps (fun d => d.siteBad x) (fun _ _ _ => rfl) i).trans h.good
  carrier := (d.powerOn_keeps (fun d => d.carriers (tileCluster t)) (fun _ _ _ => rfl) i).symm ▸ h.carrier

/-- The carriers of one cluster are powered on. -/
def Dev.poweredCluster (d : Dev) (c : ClusterId) : Dev := (d.carriers c).foldl (fun d x => d.powerOn (domOf x)) d

theorem Dev.Startable.poweredCluster {d : Dev} {t : TileId} {x : SiteIx} (h : d.Startable t x) (c : ClusterId) : (d.poweredCluster c).Startable t x :=
  foldl_preserves (P := fun v : Dev => v.Startable t x) (fun _ y hv => hv.powerOn (domOf y)) _ h

theorem Dev.Begun.poweredCluster {d : Dev} {i : DomainIx} (h : d.Begun i) (c : ClusterId) : (d.poweredCluster c).Begun i :=
  foldl_preserves (P := fun v : Dev => v.Begun i) (fun _ y hv => hv.powerOn (domOf y)) _ h

theorem Dev.Startable.poweredCluster_begun {d : Dev} {t : TileId} {x : SiteIx} (h : d.Startable t x) : (d.poweredCluster (tileCluster t)).Begun (domOf x) :=
  foldl_establishes (I := fun v : Dev => v.Startable t x) (Q := fun v : Dev => v.Begun (domOf x)) (fun _ y hv => hv.powerOn (domOf y))
    (fun _ y hv => hv.powerOn (domOf y)) (fun _ hv => Dev.powerOn_begun hv.offOrBegun hv.bank hv.good) h.carrier h

/-- The carrier of a tile in scope begins its ramp, or waits for it. -/
theorem Dev.powered_begun {d : Dev} {r : ResetSt} {t : TileId} {x : SiteIx} (ht : r.scope.getLsbD (tileCluster t).val = true) (hx : d.Startable t x) :
    (d.powered r).Begun (domOf x) :=
  foldl_establishes (I := fun v : Dev => v.Startable t x) (Q := fun v : Dev => v.Begun (domOf x)) (g := Dev.poweredCluster)
    (fun _ c hv => hv.poweredCluster c) (fun _ c hv => hv.poweredCluster c) (fun _ hv => hv.poweredCluster_begun)
    (List.mem_filter.mpr ⟨List.mem_finRange _, ht⟩) hx

-- The fence lifted ----------------------------------------------------------------------------------------------------

/-- Half h has a fence that is to be lifted (R294). -/
structure Dev.Liftable (d : Dev) (h : HalfId) : Prop where
  fenced : d.fab.fenced[h] = true
  cause : d.lnk.cause[h] ≠ some .mesh
  tripped : d.thm.tripped = false
  reset : d.outOfReset h = true
  rails : d.railsUp h = true
  links : d.linksConcluded h = true
  trunk : d.lnk.trunk[h] ≠ 2
  map : d.fab.mapValid = true
  tested : d.halfTested h = true

theorem Dev.halfTested_of_dims {a b : Dev} {h : HalfId} (hd : a.Dims b) (hctl : b.pwr.ctl = a.pwr.ctl) (ht : a.halfTested h = true) : b.halfTested h = true := by
  unfold Dev.halfTested at ht ⊢
  rw [Bool.and_eq_true, List.all_eq_true] at ht ⊢
  obtain ⟨hc, hall⟩ := ht
  refine ⟨by rw [hctl]; exact hc, fun x hx => ?_⟩
  obtain ⟨hmem, hhalf⟩ := List.mem_filter.mp hx
  rw [Bool.and_eq_true] at hhalf
  obtain ⟨hon, hready⟩ := hd x hhalf.2
  rw [hready]
  exact hall x (List.mem_filter.mpr ⟨hmem, by rw [Bool.and_eq_true]; exact ⟨hhalf.1, hon⟩⟩)

theorem Dev.Liftable.of_anchor {a b : Dev} {h : HalfId} (hl : a.Liftable h) (ha : b.anchor = a.anchor) (hd : a.Dims b) : b.Liftable h := by
  have keeps {γ : Type} (p : Dev → γ) (hp : ∀ d : Dev, p d.anchor = p d) : p b = p a := Dev.keeps_of_anchor ha p hp
  refine ⟨?_, ?_, ?_, ?_, ?_, ?_, ?_, ?_, Dev.halfTested_of_dims hd (keeps (fun d => d.pwr.ctl) (fun _ => rfl)) hl.tested⟩
  · rw [keeps (fun d => d.fab.fenced) (fun _ => rfl)]
    exact hl.fenced
  · rw [keeps (fun d => d.lnk.cause) (fun _ => rfl)]
    exact hl.cause
  · rw [keeps (fun d => d.thm.tripped) (fun _ => rfl)]
    exact hl.tripped
  · rw [keeps (fun d => d.outOfReset h) (fun _ => rfl)]
    exact hl.reset
  · rw [keeps (fun d => d.railsUp h) (fun _ => rfl)]
    exact hl.rails
  · rw [keeps (fun d => d.linksConcluded h) (fun _ => rfl)]
    exact hl.links
  · rw [keeps (fun d => d.lnk.trunk) (fun _ => rfl)]
    exact hl.trunk
  · rw [keeps (fun d => d.fab.mapValid) (fun _ => rfl)]
    exact hl.map

/-- The half without a cause of its fence. -/
def Dev.uncaused (d : Dev) (h : HalfId) : Dev := { d with lnk := { d.lnk with cause := d.lnk.cause.set h none } }

/-- The half in service, without a fence. -/
def Fabric.lifted (f : Fabric) (h : HalfId) : Fabric := { f with fenced := f.fenced.set h false, halfUp := f.halfUp.set h true }

/-- The device with the fence of a half lifted. -/
def Dev.lifted (d : Dev) (h : HalfId) : Dev := ((d.uncaused h).restartMigs (fun c => clusterHalf c = h) true).onFab (fun f => f.lifted h)

theorem Dev.liftFence_preserves {P : Dev → Prop} {d : Dev} {h : HalfId} (hl : P (d.lifted h)) (hd : P d) : P (d.liftFence h) := ite_preserves hl hd

theorem Dev.liftFence_of_liftable {d : Dev} {h : HalfId} (hl : d.Liftable h) : d.liftFence h = d.lifted h := by
  have hcause : (match d.lnk.cause[h] with | some .mesh => (d.fab.lostRoute h).isNone | _ => true) = true := by
    split
    · next hc => exact absurd hc hl.cause
    · rfl
  unfold Dev.liftFence
  dsimp only
  refine if_pos ?_
  simp only [Bool.and_eq_true]
  refine ⟨⟨⟨⟨⟨⟨⟨⟨hl.fenced, ?_⟩, ?_⟩, hl.reset⟩, hl.rails⟩, hl.links⟩, ?_⟩, hl.map⟩, hl.tested⟩
  · exact hcause
  · rw [hl.tripped]
    rfl
  · exact bne_iff_ne.mpr hl.trunk

theorem Dev.lifted_halves (d : Dev) (h g : HalfId) : (d.lifted h).fab.fenced[g] = (if h = g then false else d.fab.fenced[g]) ∧
    (d.lifted h).fab.halfUp[g] = (if h = g then true else d.fab.halfUp[g]) := by
  have ha := (d.uncaused h).restartMigs_anchor (fun c => clusterHalf c = h) true
  have hf : ((d.uncaused h).restartMigs (fun c => clusterHalf c = h) true).fab.fenced = d.fab.fenced := Dev.keeps_of_anchor ha (fun d => d.fab.fenced) (fun _ => rfl)
  have hu : ((d.uncaused h).restartMigs (fun c => clusterHalf c = h) true).fab.halfUp = d.fab.halfUp := Dev.keeps_of_anchor ha (fun d => d.fab.halfUp) (fun _ => rfl)
  unfold Dev.lifted
  generalize (d.uncaused h).restartMigs _ true = v at hf hu
  rw [← hf, ← hu]
  exact ⟨Vector.getElem_set_fin .., Vector.getElem_set_fin ..⟩

/-- The other half can still be lifted. -/
theorem Dev.Liftable.lifted_other {d : Dev} {h g : HalfId} (hg : h ≠ g) (hl : d.Liftable g) : (d.lifted h).Liftable g := by
  have huncaused : (d.uncaused h).Liftable g := by
    refine ⟨hl.fenced, ?_, hl.tripped, hl.reset, hl.rails, hl.links, hl.trunk, hl.map, hl.tested⟩
    have hc : (d.uncaused h).lnk.cause[g] = d.lnk.cause[g] := (Vector.getElem_set_fin ..).trans (if_neg hg)
    rw [hc]
    exact hl.cause
  have hr := huncaused.of_anchor ((d.uncaused h).restartMigs_anchor (fun c => clusterHalf c = h) true) (.restartMigs _ _ _)
  refine ⟨?_, hr.cause, hr.tripped, hr.reset, hr.rails, hr.links, hr.trunk, hr.map, hr.tested⟩
  rw [(d.lifted_halves h g).1, if_neg hg]
  exact hl.fenced

/-- The halves of the scope come into service where their fences can be lifted. -/
def Dev.unfenced (d : Dev) (r : ResetSt) : Dev :=
  let d := if r.half 0 then d.liftFence 0 else d
  if r.half 1 then d.liftFence 1 else d

theorem Dev.unfenced_lifts {d : Dev} {r : ResetSt} {h : HalfId} (hh : r.half h = true) (hl : d.Liftable h) :
    (d.unfenced r).fab.fenced[h] = false ∧ (d.unfenced r).fab.halfUp[h] = true := by
  have self {d : Dev} {h : HalfId} (hl : d.Liftable h) : (d.liftFence h).fab.fenced[h] = false ∧ (d.liftFence h).fab.halfUp[h] = true := by
    obtain ⟨hf, hu⟩ := d.lifted_halves h h
    rw [Dev.liftFence_of_liftable hl]
    exact ⟨hf.trans (if_pos rfl), hu.trans (if_pos rfl)⟩
  unfold Dev.unfenced
  match h with
  | 0 =>
    dsimp only
    rw [if_pos hh]
    obtain ⟨hf, hu⟩ := self hl
    refine ite_preserves (P := fun v : Dev => v.fab.fenced[(0 : HalfId)] = false ∧ v.fab.halfUp[(0 : HalfId)] = true) (Dev.liftFence_preserves
      (P := fun v : Dev => v.fab.fenced[(0 : HalfId)] = false ∧ v.fab.halfUp[(0 : HalfId)] = true) ?_ ⟨hf, hu⟩) ⟨hf, hu⟩
    obtain ⟨hf1, hu1⟩ := (d.liftFence 0).lifted_halves 1 0
    exact ⟨(hf1.trans (if_neg (by decide))).trans hf, (hu1.trans (if_neg (by decide))).trans hu⟩
  | 1 =>
    dsimp only
    rw [if_pos hh]
    exact self (ite_preserves (P := fun v : Dev => v.Liftable 1) (Dev.liftFence_preserves (P := fun v : Dev => v.Liftable 1) (hl.lifted_other (by decide)) hl) hl)

theorem Dev.unfenced_of_cluster (d : Dev) {r : ResetSt} (h : r.level = 1) : d.unfenced r = d := by
  have hh (x : HalfId) : ¬ r.half x = true := by simp [ResetSt.half, h]
  unfold Dev.unfenced
  dsimp only
  rw [if_neg (hh 0), if_neg (hh 1)]

theorem Dev.unfenced_preserves {P : Dev → Prop} (hp : ∀ d h, P d → P (Dev.lifted d h)) {d : Dev} (r : ResetSt) (hd : P d) : P (d.unfenced r) := by
  have one (d : Dev) (h : HalfId) (hd : P d) : P (if r.half h then d.liftFence h else d) := ite_preserves (Dev.liftFence_preserves (hp d h hd) hd) hd
  exact one _ 1 (one d 0 hd)

end Sys2Proof.Machine
end

section
/-! PROOFS. A reset is completed (R410, R412). -/

namespace Sys2Proof.Machine
open Sys2Proof

-- The parts of RESET_COMPLETE -----------------------------------------------------------------------------------------

/-- The reset is no longer in progress; after a Basin reset the maps are as they are written. -/
def Dev.cleared (d : Dev) (r : ResetSt) : Dev :=
  let d := d.setLkk (fun k => { k with rst := none, lastLevel := r.level, lastCause := r.cause })
  if r.level = 4 then d.onFab (fun f => { f with mapValid := f.mapWritten }) else d

/-- The migrations of the scope that restart. -/
def Dev.remigrated (d : Dev) (r : ResetSt) : Dev := d.restartMigs r.covers (r.level ≤ 3 && !r.clear)

/-- The scope behind its open gates, with its carriers ordered on. -/
def Dev.reopened (d : Dev) (e : Env) (r : ResetSt) : Dev := ((d.rewritePeers (scopeTiles r)).openGates e r).powered r

/-- The scope is back in service. -/
def Dev.resumed (d : Dev) (e : Env) (r : ResetSt) : Dev := ((d.reopened e r).unfenced r).noteIdle e

theorem Dev.resetComplete_of_ready {d : Dev} (e : Env) {r : ResetSt} (hruns : d.lkkRuns = true) (hr : d.lkk.rst = some r) (ha : r.asserted = true)
    (hready : d.scopeReady r = true) : d.resetComplete e = ((d.cleared r).remigrated r).resumed e r := by
  unfold Dev.resetComplete
  rw [hr]
  exact if_neg (by simp [ha, hruns, hready])

theorem Dev.resetComplete_idle {d : Dev} (e : Env)
    (h : d.lkkRuns = false ∨ d.lkk.rst = none ∨ (∃ r, d.lkk.rst = some r ∧ (r.asserted = false ∨ d.scopeReady r = false))) : d.resetComplete e = d := by
  unfold Dev.resetComplete
  split
  · rfl
  · next r hr =>
    refine if_pos ?_
    obtain h | h | ⟨q, hq, h⟩ := h
    · simp [h]
    · rw [hr] at h
      cases h
    · obtain rfl := Option.some.inj (hr.symm.trans hq)
      obtain h | h := h <;> simp [h]

theorem Dev.cleared_lkk (d : Dev) (r : ResetSt) : (d.cleared r).lkk = { d.lkk with rst := none, lastLevel := r.level, lastCause := r.cause } := ite_keeps Dev.lkk rfl rfl

/-- The completion leaves alone what is neither Lockkeeper's nor the validity of the maps. -/
theorem Dev.cleared_keeps {γ : Type} (p : Dev → γ) (hlkk : ∀ (d : Dev) k, p { d with lkk := k } = p d)
    (hmap : ∀ (d : Dev) b, p { d with fab := { d.fab with mapValid := b } } = p d) (d : Dev) (r : ResetSt) : p (d.cleared r) = p d := by
  unfold Dev.cleared
  dsimp only
  exact ite_keeps p ((hmap _ _).trans (hlkk d _)) (hlkk d _)

theorem Dev.cleared_mapValid (d : Dev) (r : ResetSt) : (d.cleared r).fab.mapValid = if r.level = 4 then d.fab.mapWritten else d.fab.mapValid := by
  unfold Dev.cleared
  dsimp only
  split <;> rfl

-- What they leave alone -----------------------------------------------------------------------------------------------

theorem Dev.noteIdle_keeps {γ : Type} (p : Dev → γ) (hp : ∀ (d : Dev) m, p { d with pwr := { d.pwr with doms := m } } = p d) (d : Dev) (e : Env) :
    p (d.noteIdle e) = p d := by
  unfold Dev.noteIdle
  generalize allSites = l
  exact foldl_keeps p _ (fun d x => ite_keeps p (hp d _) (ite_keeps p (hp d _) rfl)) l d

theorem Dev.opened_anchor (d : Dev) (r : ResetSt) : (d.opened r).anchor = d.anchor.opened r := rfl

theorem Dev.reopened_anchor (d : Dev) (e : Env) (r : ResetSt) : (d.reopened e r).anchor = (d.opened r).anchor := by
  unfold Dev.reopened
  rw [Dev.powered_keeps Dev.anchor (fun _ _ _ => rfl), Dev.openGates_anchor, Dev.opened_anchor, Dev.opened_anchor]
  exact congrArg (fun v : Dev => v.opened r) (Dev.rewritePeers_keeps Dev.anchor (fun _ _ _ => rfl) d (scopeTiles r))

theorem Dev.lifted_keeps {γ : Type} (p : Dev → γ) (ha : ∀ d : Dev, p d.anchor = p d)
    (hp : ∀ (d : Dev) c f u, p { d with lnk := { d.lnk with cause := c }, fab := { d.fab with fenced := f, halfUp := u } } = p d) (d : Dev) (h : HalfId) :
    p (d.lifted h) = p d := by
  have hmig := Dev.keeps_of_anchor ((d.uncaused h).restartMigs_anchor (fun c => clusterHalf c = h) true) p ha
  exact ((hp _ _ _ _).trans hmig).trans (hp d _ d.fab.fenced d.fab.halfUp)

theorem Dev.lifted_keeps_of_none {γ : Type} (p : Dev → γ)
    (hp : ∀ (d : Dev) c f u, p { d with lnk := { d.lnk with cause := c }, fab := { d.fab with fenced := f, halfUp := u } } = p d) {d : Dev}
    (hnone : d.lkk.migHeld = []) (h : HalfId) : p (d.lifted h) = p d := by
  have hmig := Dev.restartMigs_of_none (d := d.uncaused h) hnone (fun c => clusterHalf c = h) true
  unfold Dev.lifted
  rw [hmig]
  exact hp d _ _ _

/-- A fence lifted leaves alone what is not of a fence, nor of migrations. -/
theorem Dev.unfenced_keeps {γ : Type} (p : Dev → γ) (ha : ∀ d : Dev, p d.anchor = p d)
    (hp : ∀ (d : Dev) c f u, p { d with lnk := { d.lnk with cause := c }, fab := { d.fab with fenced := f, halfUp := u } } = p d) (d : Dev) (r : ResetSt) :
    p (d.unfenced r) = p d :=
  Dev.unfenced_preserves (P := fun v => p v = p d) (fun v h hv => (v.lifted_keeps p ha hp h).trans hv) r rfl

/-- With no migration abandoned, a fence lifted leaves alone what is not of a fence. -/
theorem Dev.unfenced_keeps_of_none {γ : Type} (p : Dev → γ)
    (hp : ∀ (d : Dev) c f u, p { d with lnk := { d.lnk with cause := c }, fab := { d.fab with fenced := f, halfUp := u } } = p d) {d : Dev} (r : ResetSt)
    (hnone : d.lkk.migHeld = []) : p (d.unfenced r) = p d := by
  refine (Dev.unfenced_preserves (P := fun v : Dev => p v = p d ∧ v.lkk.migHeld = []) (fun v h hv => ?_) r ⟨rfl, hnone⟩).1
  obtain ⟨hv, hheld⟩ := hv
  exact ⟨(Dev.lifted_keeps_of_none p hp hheld h).trans hv, (Dev.lifted_keeps_of_none (fun d => d.lkk.migHeld) (fun _ _ _ _ => rfl) hheld h).trans hheld⟩

/-- What a scope back in service leaves as it is behind open gates. -/
theorem Dev.resumed_keeps {γ : Type} (p : Dev → γ) (ha : ∀ d : Dev, p d.anchor = p d)
    (hp : ∀ (d : Dev) c f u, p { d with lnk := { d.lnk with cause := c }, fab := { d.fab with fenced := f, halfUp := u } } = p d) (d : Dev) (e : Env)
    (r : ResetSt) : p (d.resumed e r) = p (d.opened r) := by
  have hidle : ∀ v : Dev, p (v.noteIdle e) = p v := fun v => Dev.keeps_of_anchor (v.noteIdle_keeps Dev.anchor (fun _ _ => rfl) e) p ha
  exact (hidle _).trans ((Dev.unfenced_keeps p ha hp _ r).trans (Dev.keeps_of_anchor (d.reopened_anchor e r) p ha))

/-- What orders for power, peer tables and packets leave alone. -/
theorem Dev.reopened_keeps {γ : Type} (p : Dev → γ) (hf : ∀ (d : Dev) f, f.yard = d.fab.yard → p { d with fab := f } = p d)
    (hpwr : ∀ (d : Dev) o m, p { d with pwr := { d.pwr with orders := o, doms := m } } = p d) (d : Dev) (e : Env) (r : ResetSt) :
    p (d.reopened e r) = p (d.opened r) := by
  refine (Dev.powered_keeps p hpwr _ r).trans ((Dev.openGates_keeps p hf _ e r).trans ?_)
  exact Dev.rewritePeers_keeps (fun d => p (d.opened r)) (fun d x l => hf (d.opened r) _ rfl) d (scopeTiles r)

/-- With no migration abandoned. -/
theorem Dev.resumed_keeps_of_none {γ : Type} (p : Dev → γ) (hf : ∀ (d : Dev) f, f.yard = d.fab.yard → p { d with fab := f } = p d)
    (hpwr : ∀ (d : Dev) o m, p { d with pwr := { d.pwr with orders := o, doms := m } } = p d)
    (hp : ∀ (d : Dev) c f u, p { d with lnk := { d.lnk with cause := c }, fab := { d.fab with fenced := f, halfUp := u } } = p d) {d : Dev} (e : Env)
    (r : ResetSt) (hnone : d.lkk.migHeld = []) : p (d.resumed e r) = p (d.opened r) := by
  have hheld : (d.reopened e r).lkk.migHeld = [] := (d.reopened_keeps (fun d => d.lkk.migHeld) (fun _ _ _ => rfl) (fun _ _ _ => rfl) e r).trans hnone
  refine (Dev.noteIdle_keeps p (fun d m => hpwr d d.pwr.orders m) _ e).trans ?_
  exact (Dev.unfenced_keeps_of_none p hp r hheld).trans (d.reopened_keeps p hf hpwr e r)

/-- No migration waits, and none of those abandoned is left. -/
theorem Dev.resumed_nextMigs {d : Dev} (e : Env) (r : ResetSt) (hheld : d.lkk.migHeld = []) (hwait : d.lkk.migWait = []) :
    (d.resumed e r).nextMigs e = d.resumed e r :=
  Dev.nextMigs_of_none e ((Dev.resumed_keeps_of_none (fun d => d.lkk.migWait) (fun _ _ _ => rfl) (fun _ _ _ => rfl) (fun _ _ _ _ => rfl) e r hheld).trans hwait)

end Sys2Proof.Machine
end

section
/-! PROOFS. RESET_COMPLETE ends the reset, powers the carriers on, restarts migrations and lifts the fence (R294, R343, R410, R412). -/

namespace Sys2Proof.Machine
open Sys2Proof

-- A migration that restarts -------------------------------------------------------------------------------------------

/-- A cluster after a move of a tile, which itself keeps MAP_GEN. -/
theorem Fabric.cluster_changeMap_moveTile (f : Fabric) (c : ClusterId) (i : Fin 16) (a b : SiteIx) :
    let old := f.cluster c
    let k := moveTile i a b old
    (f.changeMap c (moveTile i a b)).cluster c =
      { k with mapGen := if k.siteOf = old.siteOf ∧ k.spare = old.spare ∧ k.bad = old.bad then old.mapGen else old.mapGen + 1 } := by
  dsimp only
  rw [Fabric.cluster_changeMap]
  split
  · rfl
  · rfl

/-- The one migration that was abandoned. -/
theorem Dev.remigrated_of_one {d : Dev} {r : ResetSt} {t : TileId} {a b : SiteIx} (hheld : d.lkk.migHeld = [(t, a, b)])
    (ht : r.scope.getLsbD (tileCluster t).val = true) :
    d.remigrated r = (d.setLkk (fun k => { k with migHeld := [] })).restartOne (r.level ≤ 3 && !r.clear) (t, a, b) := by
  have hcovers : r.covers (tileCluster t) = true := ht
  have hin : d.lkk.migHeld.filter (fun q => r.covers (tileCluster q.1)) = [(t, a, b)] := by
    rw [hheld]
    exact List.filter_cons_of_pos hcovers
  have hout : d.lkk.migHeld.filter (fun q => !r.covers (tileCluster q.1)) = [] := by
    rw [hheld]
    exact List.filter_cons_of_neg (by simp [hcovers])
  have hset : d.setLkk (fun k => { k with migHeld := k.migHeld.filter (fun q => !r.covers (tileCluster q.1)) }) = d.setLkk (fun k => { k with migHeld := [] }) :=
    congrArg (fun l => d.setLkk (fun k => { k with migHeld := l })) hout
  unfold Dev.remigrated
  rw [Dev.restartMigs_eq, hin, hset]
  rfl

theorem Dev.restartOne_cluster (d : Dev) (kept : Bool) (t : TileId) (a b : SiteIx) : (d.restartOne kept (t, a, b)).fab.cluster (tileCluster t) =
    (d.fab.changeMap (tileCluster t) (moveTile (tileFin t) a b)).cluster (tileCluster t) := by
  have hoff := Dev.powerOff_keeps (fun d => d.fab.cluster (tileCluster t)) (fun _ _ _ _ => rfl)
    (d.onFab (fun f => f.changeMap (tileCluster t) (moveTile (tileFin t) a b))) (domOf a)
  exact ite_keeps (fun d : Dev => d.fab.cluster (tileCluster t)) hoff hoff

/-- The migration copies its tile's rows again, or Lockkeeper's state is as it was. -/
theorem Dev.restartOne_lkk (d : Dev) (kept : Bool) (t : TileId) (a b : SiteIx) : (d.restartOne kept (t, a, b)).lkk =
    if kept then { d.lkk with mig := d.lkk.mig.set (siteHalf a) { d.lkk.mig[siteHalf a] with
      state := .copy, tile := t, src := a, dst := b, copying := true, rows := 0, mapped := true, took := 0 } } else d.lkk := by
  have hoff := Dev.powerOff_keeps Dev.lkk (fun _ _ _ _ => rfl) (d.onFab (fun f => f.changeMap (tileCluster t) (moveTile (tileFin t) a b))) (domOf a)
  have hlkk : ((d.onFab (fun f => f.changeMap (tileCluster t) (moveTile (tileFin t) a b))).powerOff (domOf a)).lkk = d.lkk := hoff
  unfold Dev.restartOne
  dsimp only
  generalize Dev.powerOff _ _ = v at hlkk
  rw [← hlkk]
  exact apply_ite Dev.lkk _ _ _

-- The device after RESET_COMPLETE -------------------------------------------------------------------------------------

/-- The device after a reset has completed, and after what waited for it has begun. -/
def Dev.completed (d : Dev) (e : Env) (r : ResetSt) : Dev := (((d.cleared r).remigrated r).resumed e r).nextMigs e

theorem Dev.cleared_migHeld (d : Dev) (r : ResetSt) : (d.cleared r).lkk.migHeld = d.lkk.migHeld := by rw [d.cleared_lkk r]

theorem Dev.cleared_migWait (d : Dev) (r : ResetSt) : (d.cleared r).lkk.migWait = d.lkk.migWait := by rw [d.cleared_lkk r]

theorem Dev.remigrated_opened_anchor (d : Dev) (r : ResetSt) : ((d.remigrated r).opened r).anchor = (d.opened r).anchor := by
  rw [Dev.opened_anchor, Dev.opened_anchor]
  exact congrArg (fun v : Dev => v.opened r) (d.restartMigs_anchor r.covers _)

theorem Dev.completed_keeps {γ : Type} (p : Dev → γ) (ha : ∀ d : Dev, p d.anchor = p d)
    (hp : ∀ (d : Dev) c f u, p { d with lnk := { d.lnk with cause := c }, fab := { d.fab with fenced := f, halfUp := u } } = p d) (d : Dev) (e : Env)
    (r : ResetSt) : p (d.completed e r) = p ((d.cleared r).opened r) := by
  refine (Dev.keeps_of_anchor (Dev.nextMigs_anchor _ e) p ha).trans ((Dev.resumed_keeps p ha hp _ e r).trans ?_)
  exact Dev.keeps_of_anchor ((d.cleared r).remigrated_opened_anchor r) p ha

/-- A cluster reset lifts no fence. -/
theorem Dev.completed_fenced_of_cluster {d : Dev} (e : Env) {r : ResetSt} (h : r.level = 1) : (d.completed e r).fab.fenced = d.fab.fenced := by
  have hanchor (a b : Dev) (hab : a.anchor = b.anchor) : a.fab.fenced = b.fab.fenced := Dev.keeps_of_anchor hab (fun d => d.fab.fenced) (fun _ => rfl)
  have hnext (v : Dev) : (v.nextMigs e).fab.fenced = v.fab.fenced := hanchor _ _ (v.nextMigs_anchor e)
  unfold Dev.completed Dev.resumed
  rw [hnext, Dev.noteIdle_fab, Dev.unfenced_of_cluster _ h]
  have hopen : (((d.cleared r).remigrated r).reopened e r).fab.fenced = ((d.cleared r).opened r).fab.fenced :=
    hanchor _ _ ((Dev.reopened_anchor _ e r).trans ((d.cleared r).remigrated_opened_anchor r))
  have hclear : (d.cleared r).fab.fenced = d.fab.fenced := d.cleared_keeps (fun d => d.fab.fenced) (fun _ _ => rfl) (fun _ _ => rfl) r
  exact hopen.trans hclear

/-- With no migration abandoned or waiting, only those of the scope that restarted. -/
theorem Dev.completed_of_none {d : Dev} (e : Env) {r : ResetSt} (hheld : ((d.cleared r).remigrated r).lkk.migHeld = [])
    (hwait : ((d.cleared r).remigrated r).lkk.migWait = []) : d.completed e r = ((d.cleared r).remigrated r).resumed e r :=
  Dev.resumed_nextMigs e r hheld hwait

theorem Dev.remigrated_of_none {d : Dev} (r : ResetSt) (hheld : d.lkk.migHeld = []) : d.remigrated r = d := Dev.restartMigs_of_none hheld _ _

theorem Dev.completed_of_no_migration {d : Dev} (e : Env) {r : ResetSt} (hheld : d.lkk.migHeld = []) (hwait : d.lkk.migWait = []) :
    d.completed e r = (d.cleared r).resumed e r := by
  have hheld : (d.cleared r).lkk.migHeld = [] := (d.cleared_migHeld r).trans hheld
  have hwait : (d.cleared r).lkk.migWait = [] := (d.cleared_migWait r).trans hwait
  have hnone := Dev.remigrated_of_none r hheld
  rw [Dev.completed_of_none e (by rw [hnone]; exact hheld) (by rw [hnone]; exact hwait), hnone]

theorem Dev.completed_clusters_of_no_migration {d : Dev} (e : Env) {r : ResetSt} (hheld : d.lkk.migHeld = []) (hwait : d.lkk.migWait = []) :
    (d.completed e r).fab.clusters = d.fab.clusters := by
  have hyard (d : Dev) (f : Fabric) (hf : f.yard = d.fab.yard) : f.clusters = d.fab.clusters := by
    have h := congrArg Fabric.clusters hf
    exact h
  rw [Dev.completed_of_no_migration e hheld hwait]
  refine (Dev.resumed_keeps_of_none (fun d => d.fab.clusters) hyard (fun _ _ _ => rfl) (fun _ _ _ _ => rfl) e r ((d.cleared_migHeld r).trans hheld)).trans ?_
  exact d.cleared_keeps (fun d => d.fab.clusters) (fun _ _ => rfl) (fun _ _ => rfl) r

/-- The migration that was abandoned: its tile stands at the spare, and where the columns have kept their contents its rows are copied again. -/
theorem Dev.completed_of_one {d : Dev} (e : Env) {r : ResetSt} {t : TileId} {a b : SiteIx} (hheld : d.lkk.migHeld = [(t, a, b)]) (hwait : d.lkk.migWait = [])
    (ht : r.scope.getLsbD (tileCluster t).val = true) :
    (d.completed e r).fab.cluster (tileCluster t) = (d.fab.changeMap (tileCluster t) (moveTile (tileFin t) a b)).cluster (tileCluster t) ∧
    (d.completed e r).lkk.migHeld = [] ∧ (r.level ≤ 3 → r.clear = false → (d.completed e r).lkk.mig[siteHalf a] = { d.lkk.mig[siteHalf a] with
      state := .copy, tile := t, src := a, dst := b, copying := true, rows := 0, mapped := true, took := 0 }) := by
  have hone := Dev.remigrated_of_one ((d.cleared_migHeld r).trans hheld) ht
  have hlkk : ((d.cleared r).remigrated r).lkk = _ := (congrArg Dev.lkk hone).trans (Dev.restartOne_lkk ..)
  have hgone : ((d.cleared r).remigrated r).lkk.migHeld = [] := (congrArg Lkk.migHeld hlkk).trans (ite_keeps Lkk.migHeld rfl rfl)
  have hwait : ((d.cleared r).remigrated r).lkk.migWait = [] :=
    (congrArg Lkk.migWait hlkk).trans (ite_keeps Lkk.migWait ((d.cleared_migWait r).trans hwait) ((d.cleared_migWait r).trans hwait))
  have hyard (d : Dev) (f : Fabric) (hf : f.yard = d.fab.yard) : f.cluster (tileCluster t) = d.fab.cluster (tileCluster t) := by
    have h := congrArg (fun f : Fabric => f.cluster (tileCluster t)) hf
    exact h
  rw [Dev.completed_of_none e hgone hwait]
  have hlast : (((d.cleared r).remigrated r).resumed e r).lkk = ((d.cleared r).remigrated r).lkk :=
    Dev.resumed_keeps_of_none Dev.lkk (fun _ _ _ => rfl) (fun _ _ _ => rfl) (fun _ _ _ _ => rfl) e r hgone
  refine ⟨?_, ?_, fun hl hc => ?_⟩
  · refine (Dev.resumed_keeps_of_none (fun d => d.fab.cluster (tileCluster t)) hyard (fun _ _ _ => rfl) (fun _ _ _ _ => rfl) e r hgone).trans ?_
    have hmoved := (congrArg (fun d : Dev => d.fab.cluster (tileCluster t)) hone).trans (Dev.restartOne_cluster ..)
    refine hmoved.trans ?_
    rw [Fabric.cluster_changeMap, Fabric.cluster_changeMap]
    have hold : ((d.cleared r).setLkk (fun k => { k with migHeld := [] })).fab.cluster (tileCluster t) = d.fab.cluster (tileCluster t) :=
      d.cleared_keeps (fun d => d.fab.cluster (tileCluster t)) (fun _ _ => rfl) (fun _ _ => rfl) r
    rw [hold]
  · rw [hlast]
    exact hgone
  · have hkept : (decide (r.level ≤ 3) && !r.clear) = true := by simp [hl, hc]
    rw [hlast, hlkk, hkept, if_pos rfl]
    refine (Vector.getElem_set_fin ..).trans ((if_pos rfl).trans ?_)
    have hmig : ((d.cleared r).setLkk (fun k => { k with migHeld := [] })).lkk.mig = d.lkk.mig := by
      have h := congrArg Lkk.mig (d.cleared_lkk r)
      exact h
    rw [hmig]

theorem Dev.Startable.of_same {a b : Dev} {t : TileId} {x : SiteIx} (h : a.Startable t x) (hp : b.pwr = a.pwr) (hc : b.fab.clusters = a.fab.clusters) :
    b.Startable t x := by
  obtain ⟨h1, h2, h3, h4⟩ := h
  unfold Dev.OffOrBegun Dev.Begun Dev.dom at h1
  unfold Dev.bankSt at h2
  unfold Dev.siteBad Fabric.cluster at h3
  unfold Dev.carriers Fabric.cluster at h4
  rw [← hp] at h1 h2
  rw [← hc] at h3 h4
  exact ⟨h1, h2, h3, h4⟩

/-- What comes before the orders for power leaves a carrier as it was. -/
theorem Dev.Startable.behindGates {d : Dev} {t : TileId} {x : SiteIx} (h : d.Startable t x) (e : Env) (r : ResetSt) :
    (((d.cleared r).rewritePeers (scopeTiles r)).openGates e r).Startable t x := by
  have hyard (d : Dev) (f : Fabric) (hf : f.yard = d.fab.yard) : f.clusters = d.fab.clusters := by
    have h := congrArg Fabric.clusters hf
    exact h
  have hgates (v : Dev) : (v.openGates e r).pwr = v.pwr ∧ (v.openGates e r).fab.clusters = v.fab.clusters :=
    ⟨v.openGates_keeps Dev.pwr (fun _ _ _ => rfl) e r, v.openGates_keeps (fun d => d.fab.clusters) hyard e r⟩
  have hpeers (v : Dev) (ts : List TileId) : (v.rewritePeers ts).pwr = v.pwr ∧ (v.rewritePeers ts).fab.clusters = v.fab.clusters :=
    ⟨v.rewritePeers_keeps Dev.pwr (fun _ _ _ => rfl) ts, v.rewritePeers_keeps (fun d => d.fab.clusters) (fun _ _ _ => rfl) ts⟩
  refine h.of_same ?_ ?_
  · rw [(hgates _).1, (hpeers _ _).1]
    exact d.cleared_keeps Dev.pwr (fun _ _ => rfl) (fun _ _ => rfl) r
  · rw [(hgates _).2, (hpeers _ _).2]
    exact d.cleared_keeps (fun d => d.fab.clusters) (fun _ _ => rfl) (fun _ _ => rfl) r

theorem Dev.Begun.unfenced {d : Dev} {i : DomainIx} (h : d.Begun i) (r : ResetSt) (hnone : d.lkk.migHeld = []) : (d.unfenced r).Begun i := by
  have hpwr : (d.unfenced r).pwr = d.pwr := Dev.unfenced_keeps_of_none Dev.pwr (fun _ _ _ _ => rfl) r hnone
  unfold Dev.Begun Dev.dom
  rw [hpwr]
  exact h

theorem Dev.Begun.noteIdle {d : Dev} {i : DomainIx} (h : d.Begun i) (e : Env) : (d.noteIdle e).Begun i := by
  have horders : (d.noteIdle e).pwr.orders = d.pwr.orders := d.noteIdle_keeps (fun d => d.pwr.orders) (fun _ _ => rfl) e
  refine h.imp (fun h => ((d.noteIdle_followed e).domState i).trans h) (fun h => ?_)
  rw [horders]
  exact h

/-- The carriers of the scope begin their ramps, or wait for them. -/
theorem Dev.completed_begun {d : Dev} (e : Env) {r : ResetSt} {t : TileId} {x : SiteIx} (hheld : d.lkk.migHeld = []) (hwait : d.lkk.migWait = [])
    (ht : r.scope.getLsbD (tileCluster t).val = true) (hx : d.Startable t x) : (d.completed e r).Begun (domOf x) := by
  rw [Dev.completed_of_no_migration e hheld hwait]
  have hopen : ((d.cleared r).reopened e r).lkk.migHeld = [] :=
    (Dev.reopened_keeps (fun d => d.lkk.migHeld) (fun _ _ _ => rfl) (fun _ _ _ => rfl) _ e r).trans ((d.cleared_migHeld r).trans hheld)
  have hbegun : ((d.cleared r).reopened e r).Begun (domOf x) := Dev.powered_begun ht (hx.behindGates e r)
  exact (hbegun.unfenced r hopen).noteIdle e

theorem Dev.Liftable.opened {d : Dev} {h : HalfId} (hl : d.Liftable h) (r : ResetSt) : (d.opened r).Liftable h :=
  ⟨hl.fenced, hl.cause, hl.tripped, hl.reset, hl.rails, hl.links, hl.trunk, hl.map, hl.tested⟩

theorem Dev.Dims.reopened (d : Dev) (e : Env) (r : ResetSt) : d.Dims (d.reopened e r) := by
  have hpeers : d.Dims (d.rewritePeers (scopeTiles r)) := by
    refine .of_same ?_ (fun x => ?_)
    · exact Dev.rewritePeers_keeps (fun d => d.pwr.doms) (fun _ _ _ => rfl) d _
    · refine Dev.rewritePeers_keeps (fun d => (d.fab.site x).ready) (fun d y l => ?_) d _
      exact (Fabric.Carries.setSite d.fab (x := y) (s := { d.fab.site y with peers := l }) rfl).ready x
  have hgates (v : Dev) : v.Dims (v.openGates e r) := by
    refine .of_same (Dev.openGates_keeps (fun d => d.pwr.doms) (fun _ _ _ => rfl) v e r) (fun x => ?_)
    exact (v.openGates_carries e r).1.ready x
  exact Dev.powered_preserves (P := d.Dims) (fun v i hv => hv.trans (.powerOn v i)) r (hpeers.trans (hgates _))

/-- A half of the scope whose fence can be lifted comes into service. -/
theorem Dev.completed_lifts {d : Dev} (e : Env) {r : ResetSt} {h : HalfId} (hh : r.half h = true) (hl : (d.cleared r).Liftable h) :
    (d.completed e r).fab.fenced[h] = false ∧ (d.completed e r).fab.halfUp[h] = true := by
  have hopened : ((d.cleared r).opened r).Dims (d.cleared r) := .of_same rfl (fun _ => rfl)
  have hdims : ((d.cleared r).opened r).Dims (((d.cleared r).remigrated r).reopened e r) := (hopened.trans (Dev.Dims.restartMigs (d.cleared r) r.covers _)).trans (.reopened _ e r)
  have hlift := (hl.opened r).of_anchor ((Dev.reopened_anchor _ e r).trans ((d.cleared r).remigrated_opened_anchor r)) hdims
  obtain ⟨hf, hu⟩ := Dev.unfenced_lifts hh hlift
  have hnext (v : Dev) : (v.nextMigs e).fab.fenced[h] = v.fab.fenced[h] ∧ (v.nextMigs e).fab.halfUp[h] = v.fab.halfUp[h] :=
    ⟨Dev.keeps_of_anchor (v.nextMigs_anchor e) (fun d => d.fab.fenced[h]) (fun _ => rfl),
      Dev.keeps_of_anchor (v.nextMigs_anchor e) (fun d => d.fab.halfUp[h]) (fun _ => rfl)⟩
  unfold Dev.completed Dev.resumed
  rw [(hnext _).1, (hnext _).2, Dev.noteIdle_fab]
  exact ⟨hf, hu⟩

end Sys2Proof.Machine
end

section
/-! PROOFS. RESET_COMPLETE, as a command (R294, R343, R410, R412). -/

namespace Sys2Proof.Machine
open Sys2Proof

/-- What of the device a command has made is left as it is by what follows at once. -/
theorem Settles.device_keeps {γ : Type} {s u : State} {d : Dev} (hu : Settles { s.bump with d := d } u) (p : Dev → γ) (hp : ∀ d : Dev, p d.core = p d) :
    p u.d = p d := hu.keeps p hp

theorem Settles.device_begun {s u : State} {d : Dev} (hu : Settles { s.bump with d := d } u) {i : DomainIx} (h : d.Begun i) : u.d.Begun i := by
  refine h.imp (fun h => (hu.domState i).trans h) (fun h => ?_)
  rw [hu.keeps (fun d => d.pwr.orders) (fun _ => rfl)]
  exact h

/-- A half that a command has brought into service. -/
theorem Settles.device_serves {s u : State} {d : Dev} (hu : Settles { s.bump with d := d } u) {h : HalfId} (hf : d.fab.fenced[h] = false ∧ d.fab.halfUp[h] = true) :
    u.d.fab.fenced[h] = false ∧ u.d.fab.halfUp[h] = true := by
  refine ⟨(hu.keeps (fun d => d.fab.fenced[h]) (fun _ => rfl)).trans hf.1, ?_⟩
  obtain h | ⟨-, h⟩ := hu.halves h
  · exact h.trans hf.2
  · exact h

/-- Without a reset that is asserted and ready, only migrations that wait begin. -/
theorem resetComplete_yields_idle {s : State}
    (h : s.d.lkkRuns = false ∨ s.d.lkk.rst = none ∨ (∃ r, s.d.lkk.rst = some r ∧ (r.asserted = false ∨ s.d.scopeReady r = false))) :
    Yields .resetComplete s (fun u => Becomes s u (s.d.bump.nextMigs s.env) ∧ (s.d.lkk.migWait = [] → Becomes s u s.d.bump)) := by
  have hidle : s.d.bump.resetComplete s.env = s.d.bump := Dev.resetComplete_idle s.env h
  refine yields_onAll_settles (g := fun e d => (d.resetComplete e).nextMigs e) (d := s.d.bump.nextMigs s.env) rfl (by rw [hidle]) (fun u hu => ⟨hu.becomes, fun hw => ?_⟩)
  have hnone : s.d.bump.nextMigs s.env = s.d.bump := Dev.nextMigs_of_none s.env hw
  rw [hnone] at hu
  exact hu.becomes

/-- A fence of the scope that can be lifted once the reset is over. -/
theorem Dev.cleared_liftable {d : Dev} {r : ResetSt} {h : HalfId} (hf : d.fab.fenced[h] = true) (hc : d.lnk.cause[h] ≠ some .mesh) (ht : d.thm.tripped = false)
    (hr : d.railsUp h = true) (hl : d.linksConcluded h = true) (hk : d.lnk.trunk[h] ≠ 2) (htest : d.halfTested h = true)
    (hmap : (if r.level = 4 then d.fab.mapWritten else d.fab.mapValid) = true) : (d.cleared r).Liftable h := by
  have keeps {γ : Type} (p : Dev → γ) (hlkk : ∀ (d : Dev) k, p { d with lkk := k } = p d)
      (hmap : ∀ (d : Dev) b, p { d with fab := { d.fab with mapValid := b } } = p d) : p (d.cleared r) = p d := d.cleared_keeps p hlkk hmap r
  refine ⟨?_, ?_, ?_, ?_, ?_, ?_, ?_, (d.cleared_mapValid r).trans hmap, ?_⟩
  · exact (keeps (fun d => d.fab.fenced[h]) (fun _ _ => rfl) (fun _ _ => rfl)).trans hf
  · rw [keeps (fun d => d.lnk.cause[h]) (fun _ _ => rfl) (fun _ _ => rfl)]
    exact hc
  · exact (keeps (fun d => d.thm.tripped) (fun _ _ => rfl) (fun _ _ => rfl)).trans ht
  · unfold Dev.outOfReset
    rw [d.cleared_lkk r]
  · exact (keeps (fun d => d.railsUp h) (fun _ _ => rfl) (fun _ _ => rfl)).trans hr
  · exact (keeps (fun d => d.linksConcluded h) (fun _ _ => rfl) (fun _ _ => rfl)).trans hl
  · rw [keeps (fun d => d.lnk.trunk[h]) (fun _ _ => rfl) (fun _ _ => rfl)]
    exact hk
  · exact (keeps (fun d => d.halfTested h) (fun _ _ => rfl) (fun _ _ => rfl)).trans htest

theorem resetComplete_yields (s : State) :
    (s.d.lkkRuns = false ∨ s.d.lkk.rst = none ∨ (∃ r, s.d.lkk.rst = some r ∧ (r.asserted = false ∨ s.d.scopeReady r = false)) →
      Yields .resetComplete s (fun u => Becomes s u (s.d.bump.nextMigs s.env) ∧ (s.d.lkk.migWait = [] → Becomes s u s.d.bump))) ∧
    (∀ r, s.d.lkkRuns = true → s.d.lkk.rst = some r → r.asserted = true → s.d.scopeReady r = true → Yields .resetComplete s (fun u =>
      u.d.lkk.rst = none ∧ u.d.lkk.lastLevel = r.level ∧ u.d.lkk.lastCause = r.cause ∧ OnlyDevice s u ∧ u.d.fab.gated = (s.d.fab.gated &&& ~~~r.scope) ∧
      ((∀ t : TileId, r.scope.getLsbD (tileCluster t).val = true → tget s.d.fab.held [] t.val = []) → s.d.lkk.migWait = [] →
        u.d.fab.cols = s.d.fab.cols) ∧
      (r.level = 4 → u.d.fab.mapValid = s.d.fab.mapWritten) ∧ (r.level ≠ 4 → u.d.fab.mapValid = s.d.fab.mapValid) ∧
      (s.d.lkk.migHeld = [] → s.d.lkk.migWait = [] → ∀ t : TileId, u.d.fab.siteOf t = s.d.fab.siteOf t) ∧
      (∀ t a b, s.d.lkk.migHeld = [(t, a, b)] → s.d.lkk.migWait = [] → r.scope.getLsbD (tileCluster t).val = true →
        (let old := s.d.fab.cluster (tileCluster t)
          let k := moveTile (tileFin t) a b old
          u.d.fab.cluster (tileCluster t) =
            { k with mapGen := if k.siteOf = old.siteOf ∧ k.spare = old.spare ∧ k.bad = old.bad then old.mapGen else old.mapGen + 1 }) ∧
        u.d.lkk.migHeld = [] ∧ (r.level ≤ 3 → r.clear = false → u.d.lkk.mig[siteHalf a] = { s.d.lkk.mig[siteHalf a] with
          state := .copy, tile := t, src := a, dst := b, copying := true, rows := 0, mapped := true, took := 0 })) ∧
      (s.d.lkk.migHeld = [] → s.d.lkk.migWait = [] → ∀ (t : TileId) (x : SiteIx), r.scope.getLsbD (tileCluster t).val = true → s.d.fab.siteOf t = some x → s.d.siteBad x = false →
        s.d.bankSt (siteHalf x) (sitePcl x) = .up → (s.d.dom (domOf x)).state = .off →
        (u.d.dom (domOf x)).state = .ramping ∨ domOf x ∈ u.d.pwr.orders) ∧
      (∀ h : HalfId, 2 ≤ r.level → r.scope.getLsbD (16 * h.val) = true → s.d.fab.fenced[h] = true → s.d.lnk.cause[h] ≠ some .mesh →
        s.d.thm.tripped = false → s.d.railsUp h = true → s.d.linksConcluded h = true → s.d.lnk.trunk[h] ≠ 2 → s.d.halfTested h = true →
        (if r.level = 4 then s.d.fab.mapWritten else s.d.fab.mapValid) = true → u.d.fab.fenced[h] = false ∧ u.d.fab.halfUp[h] = true) ∧
      (r.level = 1 → u.d.fab.fenced = s.d.fab.fenced))) := by
  refine ⟨resetComplete_yields_idle, fun r hruns hr ha hready => ?_⟩
  have hstep : (s.d.bump.resetComplete s.env).nextMigs s.env = s.d.bump.completed s.env r :=
    congrArg (fun d : Dev => d.nextMigs s.env) (Dev.resetComplete_of_ready (d := s.d.bump) s.env hruns hr ha hready)
  refine yields_onAll_settles (g := fun e d => (d.resetComplete e).nextMigs e) rfl hstep (fun u hu => ?_)
  have keeps {γ : Type} (p : Dev → γ) (hc : ∀ d : Dev, p d.core = p d) (hanchor : ∀ d : Dev, p d.anchor = p d)
      (hp : ∀ (d : Dev) c f u, p { d with lnk := { d.lnk with cause := c }, fab := { d.fab with fenced := f, halfUp := u } } = p d) :
      p u.d = p ((s.d.bump.cleared r).opened r) :=
    (hu.device_keeps p hc).trans (Dev.completed_keeps p hanchor hp s.d.bump s.env r)
  have hmapValid : u.d.fab.mapValid = (s.d.bump.cleared r).fab.mapValid := keeps (fun d => d.fab.mapValid) (fun _ => rfl) (fun _ => rfl) (fun _ _ _ _ => rfl)
  have hlkk := s.d.bump.cleared_lkk r
  refine ⟨?_, ?_, ?_, hu.onlyDevice, ?_, fun _ _ => ?_, fun h4 => ?_, fun h4 => ?_, fun hheld hwait t => ?_, fun t a b hheld hwait ht => ?_,
    fun hheld hwait t x ht hx hbad hbank hoff => ?_, fun h h2 hscope hf hc htrip hrails hlinks htrunk htest hmap => ?_, fun h1 => ?_⟩
  · exact (keeps (fun d => d.lkk.rst) (fun _ => rfl) (fun _ => rfl) (fun _ _ _ _ => rfl)).trans (congrArg Lkk.rst hlkk)
  · exact (keeps (fun d => d.lkk.lastLevel) (fun _ => rfl) (fun _ => rfl) (fun _ _ _ _ => rfl)).trans (congrArg Lkk.lastLevel hlkk)
  · exact (keeps (fun d => d.lkk.lastCause) (fun _ => rfl) (fun _ => rfl) (fun _ _ _ _ => rfl)).trans (congrArg Lkk.lastCause hlkk)
  · refine (keeps (fun d => d.fab.gated) (fun _ => rfl) (fun _ => rfl) (fun _ _ _ _ => rfl)).trans ?_
    have hgated : (s.d.bump.cleared r).fab.gated = s.d.fab.gated := s.d.bump.cleared_keeps (fun d => d.fab.gated) (fun _ _ => rfl) (fun _ _ => rfl) r
    exact congrArg (fun g => g &&& ~~~r.scope) hgated
  · refine (keeps (fun d => d.fab.cols) (fun _ => rfl) (fun _ => rfl) (fun _ _ _ _ => rfl)).trans ?_
    exact s.d.bump.cleared_keeps (fun d => d.fab.cols) (fun _ _ => rfl) (fun _ _ => rfl) r
  · exact hmapValid.trans ((s.d.bump.cleared_mapValid r).trans (if_pos h4))
  · exact hmapValid.trans ((s.d.bump.cleared_mapValid r).trans (if_neg h4))
  · have hclusters : u.d.fab.clusters = s.d.fab.clusters :=
      (hu.device_keeps (fun d => d.fab.clusters) (fun _ => rfl)).trans (Dev.completed_clusters_of_no_migration (d := s.d.bump) s.env hheld hwait)
    unfold Fabric.siteOf Fabric.cluster
    rw [hclusters]
  · obtain ⟨hcluster, hgone, hmig⟩ := Dev.completed_of_one (d := s.d.bump) s.env hheld hwait ht
    refine ⟨?_, (hu.device_keeps (fun d => d.lkk.migHeld) (fun _ => rfl)).trans hgone, fun hl hclear => ?_⟩
    · exact (hu.device_keeps (fun d => d.fab.cluster (tileCluster t)) (fun _ => rfl)).trans
        (hcluster.trans (Fabric.cluster_changeMap_moveTile s.d.bump.fab (tileCluster t) (tileFin t) a b))
    · exact (hu.device_keeps (fun d => d.lkk.mig[siteHalf a]) (fun _ => rfl)).trans (hmig hl hclear)
  · have hstart : s.d.bump.Startable t x := ⟨.inl hoff, hbank, hbad, mem_carriers hx⟩
    exact hu.device_begun (Dev.completed_begun (d := s.d.bump) s.env hheld hwait ht hstart)
  · have hlift := Dev.cleared_liftable (d := s.d.bump) hf hc htrip hrails hlinks htrunk htest hmap
    exact hu.device_serves (Dev.completed_lifts s.env ((r.half_iff h).mpr ⟨h2, hscope⟩) hlift)
  · exact (hu.device_keeps (fun d => d.fab.fenced) (fun _ => rfl)).trans (Dev.completed_fenced_of_cluster (d := s.d.bump) s.env h1)

end Sys2Proof.Machine
end

section
/-! PROOFS. COLD_RESET and the loss of VAON (R408, R452). -/

namespace Sys2Proof.Machine
open Sys2Proof

-- By the PLDM effecter ------------------------------------------------------------------------------------------------

/-- An order that Lockkeeper cannot take is answered as any PLDM request. -/
theorem State.coldReset_pldm_of_barred {s : State} (e : Env)
    (h : s.d.pathUp s.d.pldmBinding = false ∨ s.d.lkk.bootStage = 0 ∨ s.d.fuseless = true ∨ s.d.busy.isSome = true) :
    s.coldReset e .pldm = s.pldm s.d.pldmBinding (fun s => (s, .pldmOk)) := by
  refine if_pos ?_
  obtain h | h | h | h := h <;> simp [h]

theorem State.coldReset_pldm_of_free {s : State} (e : Env) (hp : s.d.pathUp s.d.pldmBinding = true) (hb : s.d.lkk.bootStage ≠ 0) (hf : s.d.fuseless = false)
    (hbusy : s.d.busy = none) : s.coldReset e .pldm = (s.answer s.d.pldmBinding .pldmOk).cold true :=
  if_neg (by simp [hp, hb, hf, hbusy])

theorem State.pldm_of_closed {s : State} {b : MctpBinding} (run : State → State × MgmtRsp) (h : s.d.pathUp b = false ∨ s.d.lkk.bootStage = 0) : s.pldm b run = s :=
  if_pos (by obtain h | h := h <;> simp [h])

theorem State.pldm_of_fuseless {s : State} {b : MctpBinding} (run : State → State × MgmtRsp) (hp : s.d.pathUp b = true) (hb : s.d.lkk.bootStage ≠ 0)
    (hf : s.d.fuseless = true) : s.pldm b run = s.answer b .notReady := by
  unfold State.pldm
  rw [if_neg (by simp [hp, hb]), if_pos hf]

theorem State.pldm_of_busy {s : State} {b : MctpBinding} (run : State → State × MgmtRsp) {w : Nat} (hp : s.d.pathUp b = true) (hb : s.d.lkk.bootStage ≠ 0)
    (hf : s.d.fuseless = false) (hw : s.d.busy = some w) : s.pldm b run = s.answer b (.busy w) := by
  unfold State.pldm
  rw [if_neg (by simp [hp, hb]), if_neg (by simp [hf]), hw]

/-- A message sent before the reset is one more before the pins. -/
theorem AfterCold.of_answer {s u : State} {b : MctpBinding} {r : MgmtRsp} {held : Bool} (h : AfterCold (s.answer b r) u held) : AfterCold s u held := by
  have hlater (o : Out) (ho : o ∈ u.d.out.drop (s.answer b r).d.out.length) : o ∈ u.d.out.drop s.d.out.length := by
    have hlen : (s.answer b r).d.out.length = s.d.out.length + 1 := List.length_append
    rw [hlen, ← List.drop_drop] at ho
    exact List.mem_of_mem_drop ho
  obtain ⟨hpending, hfuse, hsec, hheld, hlost, hsuspect, hsvc, hregs, hhost, hfab, hlinks, ht2, hports, hqps, hgroups, hbanks, hdoms, hvin, hvbsn, htripped,
    hcopyA, hcopyB, hstage, hmode, hup, hrst, hop, htrial, hfaultN, hlevel, hpin, htherm⟩ := h
  exact ⟨hpending, hfuse, hsec, hheld, hlost, hsuspect, hsvc, hregs, hhost, hfab, hlinks, ht2, hports, hqps, hgroups, hbanks, hdoms, hvin, hvbsn, htripped,
    hcopyA, hcopyB, hstage, hmode, hup, hrst, hop, htrial, hfaultN, hlevel, hlater _ hpin, hlater _ htherm⟩

theorem coldResetPldm_yields {s : State} (hp : s.d.pathUp s.d.bump.pldmBinding = true) (hb : s.d.lkk.bootStage ≠ 0) (hf : s.d.fuseless = false)
    (hbusy : s.d.bump.busy = none) : Yields (.coldReset .pldm) s (fun u => AfterCold s u true ∧ u.d.pwr.vaon = true ∧ u.d.lkk.lastCause = 1 ∧
      u.d.lkk.comps = bootedComps s.d.lkk.comps) := by
  refine yields_onState rfl (State.coldReset_pldm_of_free (s := s.bump) s.env hp hb hf hbusy) (fun u hu => ⟨?_, hu.keeps (fun d => d.pwr.vaon) (fun _ => rfl),
    hu.keeps (fun d => d.lkk.lastCause) (fun _ => rfl), hu.keeps (fun d => d.lkk.comps) (fun _ => rfl)⟩)
  exact AfterCold.of_answer (afterCold_of_follows (s := s.answer s.d.bump.pldmBinding .pldmOk) (g := fun k => k) (fun _ => rfl) (fun h => nomatch h) hu)

-- By the mailbox ------------------------------------------------------------------------------------------------------

/-- The mailbox with GO set for a command, its answer not yet written. -/
def Dev.mailed (d : Dev) (e : Env) (cmd : Nat) : Dev :=
  (d.putReg 0x700100 (2 ^ 31 + fld (e.reg 0x700100) 15 8 * 2 ^ 8 + cmd)).setLkk (fun k => { k with rsp := k.rsp % 2 ^ 31 })

theorem State.submit_of_barred {s : State} {e : Env} {f : FuncId} (cmd : Nat) (run : State → State) (h : f ≠ 0 ∨ bit (e.reg 0x700100) 31 = true) :
    s.submit e f cmd run = s :=
  if_pos (by obtain h | h := h <;> simp [h])

theorem State.submit_of_free {s : State} {e : Env} (cmd : Nat) (run : State → State) (h : bit (e.reg 0x700100) 31 = false) (hb : s.d.busy = none)
    (hu : s.d.lkk.updating = false) : s.submit e 0 cmd run = run { s with d := s.d.mailed e cmd } := by
  have hbusy : (s.d.mailed e cmd).busy = none := Eq.trans rfl hb
  have hupdating : (s.d.mailed e cmd).lkk.updating = false := Eq.trans rfl hu
  unfold State.submit
  dsimp only
  rw [if_neg (by simp [h])]
  unfold Dev.mailed at hbusy hupdating
  rw [hbusy]
  exact if_neg (by rw [hupdating]; decide)

/-- COLD_RESET by a mailbox that is free: its key decides. -/
theorem State.coldReset_mailbox_of_free {s : State} {e : Env} (h : bit (e.reg 0x700100) 31 = false) (hb : s.d.busy = none) (hu : s.d.lkk.updating = false) :
    s.coldReset e (.mailbox 0) =
      if e.reg 0x700104 = 0xC01D then { s.cold true with d := (s.cold true).d.setLkk (fun k => { k with lastCause := 0 }) }
      else { s with d := (s.d.mailed e 6).respond 2 0 } := by
  unfold State.coldReset
  dsimp only
  rw [State.submit_of_free 6 _ h hb hu]
  rfl

theorem State.coldReset_mailbox_of_barred {s : State} {e : Env} {f : FuncId} (h : f ≠ 0 ∨ bit (e.reg 0x700100) 31 = true) : s.coldReset e (.mailbox f) = s := by
  unfold State.coldReset
  exact State.submit_of_barred 6 _ h

theorem coldResetMailbox_yields {s : State} (h : bit (s.env.reg 0x700100) 31 = false) (hb : s.d.bump.busy = none) (hu : s.d.lkk.updating = false)
    (hkey : s.env.reg 0x700104 = 0xC01D) : Yields (.coldReset (.mailbox 0)) s (fun u => AfterCold s u true ∧ u.d.pwr.vaon = true ∧ u.d.lkk.lastCause = 0 ∧
      u.d.lkk.comps = bootedComps s.d.lkk.comps) := by
  have hcold : s.bump.coldReset s.env (.mailbox 0) = { s.bump.cold true with d := (s.bump.cold true).d.setLkk (fun k => { k with lastCause := 0 }) } :=
    (State.coldReset_mailbox_of_free (s := s.bump) h hb hu).trans (if_pos hkey)
  exact yields_onState rfl hcold (fun u hu => ⟨afterCold_of_follows (g := fun k => { k with lastCause := 0 }) (fun _ => rfl) (fun h => nomatch h) hu,
    hu.keeps (fun d => d.pwr.vaon) (fun _ => rfl), hu.keeps (fun d => d.lkk.lastCause) (fun _ => rfl), hu.keeps (fun d => d.lkk.comps) (fun _ => rfl)⟩)

/-- Without its key the mailbox answers BAD_ARG. -/
theorem coldResetMailbox_keyless {s : State} (h : bit (s.env.reg 0x700100) 31 = false) (hb : s.d.bump.busy = none) (hu : s.d.lkk.updating = false)
    (hkey : s.env.reg 0x700104 ≠ 0xC01D) : Yields (.coldReset (.mailbox 0)) s (fun u => u.d.lkk.rsp = 2 ^ 31 + 2 * 2 ^ 16 ∧ OnlyDevice s u ∧
      u.d.svc = s.d.svc ∧ u.d.fab.sites = s.d.fab.sites ∧ u.d.fab.cols = s.d.fab.cols) := by
  have hanswer : s.bump.coldReset s.env (.mailbox 0) = { s.bump with d := (s.bump.d.mailed s.env 6).respond 2 0 } :=
    (State.coldReset_mailbox_of_free (s := s.bump) h hb hu).trans (if_neg hkey)
  exact yields_onState rfl hanswer (fun u hu => ⟨hu.keeps (fun d => d.lkk.rsp) (fun _ => rfl), Follows.onlyDevice hu, hu.keeps Dev.svc (fun _ => rfl),
    hu.keeps (fun d => d.fab.sites) (fun _ => rfl), hu.keeps (fun d => d.fab.cols) (fun _ => rfl)⟩)

-- Without VAON --------------------------------------------------------------------------------------------------------

/-- The device with VAON. -/
def Dev.withVaon (d : Dev) : Dev := { d with pwr := { d.pwr with vaon := true } }

/-- Nothing follows from VAON but for what it feeds. -/
theorem Follows.withVaon {a u : State} (h : Follows a u) : Follows { a with d := a.d.withVaon } { u with d := u.d.withVaon } := by
  obtain ⟨hpend, htime, hfuse, hsec, hagg, hd⟩ := h.thereafter
  exact ⟨⟨hpend, htime, hfuse, hsec, hagg, congrArg Dev.withVaon hd⟩, congrArg Dev.withVaon h.core, h.out, h.halfUp, h.domState, h.bond⟩

theorem vaonLoss_yields (s : State) : Yields .vaonLoss s (fun u => AfterCold s u false ∧ u.d.pwr.vaon = false ∧ u.d.lkk.comps = bootedComps s.d.lkk.comps) := by
  refine yields_onState (a := s.bump.vaonLost) rfl rfl (fun u hu => ⟨?_, hu.keeps (fun d => d.pwr.vaon) (fun _ => rfl), hu.keeps (fun d => d.lkk.comps) (fun _ => rfl)⟩)
  have hcold : AfterCold s { u with d := u.d.withVaon } false := afterCold_of_follows (g := fun k => k) (fun _ => rfl) (fun _ _ => rfl) hu.withVaon
  exact hcold

theorem coldResets (s : State) :
    (∀ b, b = s.d.bump.pldmBinding →
      (s.d.pathUp b = false ∨ s.d.lkk.bootStage = 0 → Yields (.coldReset .pldm) s (fun u => Becomes s u s.d.bump)) ∧
      (s.d.pathUp b = true → s.d.lkk.bootStage ≠ 0 → s.d.fuseless = true → Yields (.coldReset .pldm) s (fun u => Becomes s u (s.d.bump.send (.mgmt b .notReady)))) ∧
      (∀ w, s.d.pathUp b = true → s.d.lkk.bootStage ≠ 0 → s.d.fuseless = false → s.d.bump.busy = some w →
        Yields (.coldReset .pldm) s (fun u => Becomes s u (s.d.bump.send (.mgmt b (.busy w)))))) ∧
    (s.d.pathUp s.d.bump.pldmBinding = true → s.d.lkk.bootStage ≠ 0 → s.d.fuseless = false → s.d.bump.busy = none → Yields (.coldReset .pldm) s (fun u => AfterCold s u true ∧ u.d.pwr.vaon = true ∧ u.d.lkk.lastCause = 1 ∧
      u.d.lkk.comps = bootedComps s.d.lkk.comps)) ∧
    (∀ f : FuncId, f ≠ 0 ∨ bit (s.env.reg 0x700100) 31 = true → Yields (.coldReset (.mailbox f)) s (fun u => Becomes s u s.d.bump)) ∧
    (bit (s.env.reg 0x700100) 31 = false → s.d.bump.busy = none → s.d.lkk.updating = false → s.env.reg 0x700104 = 0xC01D →
      Yields (.coldReset (.mailbox 0)) s (fun u => AfterCold s u true ∧ u.d.pwr.vaon = true ∧ u.d.lkk.lastCause = 0 ∧
        u.d.lkk.comps = bootedComps s.d.lkk.comps)) ∧
    (bit (s.env.reg 0x700100) 31 = false → s.d.bump.busy = none → s.d.lkk.updating = false → s.env.reg 0x700104 ≠ 0xC01D →
      Yields (.coldReset (.mailbox 0)) s (fun u => u.d.lkk.rsp = 2 ^ 31 + 2 * 2 ^ 16 ∧ OnlyDevice s u ∧ u.d.svc = s.d.svc ∧
        u.d.fab.sites = s.d.fab.sites ∧ u.d.fab.cols = s.d.fab.cols)) ∧
    Yields .vaonLoss s (fun u => AfterCold s u false ∧ u.d.pwr.vaon = false ∧ u.d.lkk.comps = bootedComps s.d.lkk.comps) := by
  refine ⟨fun b hb => ⟨fun h => ?_, fun hp hstage hf => ?_, fun w hp hstage hf hw => ?_⟩, coldResetPldm_yields, fun f h => ?_, coldResetMailbox_yields,
    coldResetMailbox_keyless, vaonLoss_yields s⟩
  · subst hb
    have hidle : s.bump.coldReset s.env .pldm = s.bump :=
      (State.coldReset_pldm_of_barred (s := s.bump) s.env (h.imp id .inl)).trans (State.pldm_of_closed (s := s.bump) _ h)
    exact yields_onState rfl hidle (fun _ hu => Follows.becomes hu)
  · subst hb
    have hanswer : s.bump.coldReset s.env .pldm = s.bump.answer s.d.bump.pldmBinding .notReady :=
      (State.coldReset_pldm_of_barred (s := s.bump) s.env (.inr (.inr (.inl hf)))).trans (State.pldm_of_fuseless (s := s.bump) _ hp hstage hf)
    exact yields_onState rfl hanswer (fun _ hu => Follows.becomes hu)
  · subst hb
    have hsome : s.bump.d.busy.isSome = true := Option.isSome_iff_exists.mpr ⟨w, hw⟩
    have hanswer : s.bump.coldReset s.env .pldm = s.bump.answer s.d.bump.pldmBinding (.busy w) :=
      (State.coldReset_pldm_of_barred (s := s.bump) s.env (.inr (.inr (.inr hsome)))).trans (State.pldm_of_busy (s := s.bump) _ hp hstage hf hw)
    exact yields_onState rfl hanswer (fun _ hu => Follows.becomes hu)
  · exact yields_onState rfl (State.coldReset_mailbox_of_barred (s := s.bump) h) (fun _ hu => Follows.becomes hu)

end Sys2Proof.Machine
end

section
/-! PROOFS. Resets, and lost rails and clocks (R202, R272, R292, R294, R372, R383, R408 to R412, R452). -/

namespace Sys2Proof.Machine
open Sys2Proof

/-- Settles O57, by the devices each command leaves: an order fences its halves and keeps the scope of the one it replaces, the lock gates close on blocks
at reset, the scope that is ready is powered on before its fence is lifted, and what a lost rail takes down stays within its half or block. -/
theorem resetsAndLostRails : Obligations.ResetsAndLostRails := by
  refine ⟨resetOrders, lockGatesClosed, resetComplete_yields, coldResets, vinUndervoltage_yields, fun s => ?_⟩
  obtain ⟨hvbsn, hvphy, hreturn, hstays⟩ := basinRails_yields s
  exact ⟨hvbsn, vbsnUndervoltage_yields, hvphy, vphyUndervoltage_yields, hreturn, hstays, sidebandClock_yields s⟩

end Sys2Proof.Machine
end
